-- ==== Sys2Proof/Word.lean ====
section
/-!
DEFINITION. The widths the spec counts in, and the plainest arithmetic over them: bytes, 32-bit register words,
saturating counters, and the datum-tick constants of R21.
-/
namespace Sys2Proof

/-- One byte on a port or in a packet. -/
abbrev Byte := BitVec 8

/-- One register of the direct register window (05 R136). -/
abbrev Word := BitVec 32

/-- Datum ticks in one Round (00 R21). -/
abbrev roundTicks : Nat := 131072

/-- Datum ticks in one millisecond (00 R21: one tick is 1/1,048,576,000 s). -/
abbrev msTicks : Nat := 1048576

/-- Datum ticks in one REFCLK cycle (01 R28). -/
abbrev refTicks : Nat := 32

/-- `a + b`, saturating at `top` (the counters that the spec calls saturating). -/
def satAdd (top a b : Nat) : Nat := min top (a + b)

/-- A flag as the number 0 or 1. -/
def bit (b : Bool) : Nat := if b then 1 else 0

end Sys2Proof
end

