-- ==== Sys2Proof/Syntax.lean ====
section
/-!
DEFINITION. The commands of the block: `Instr`, one constructor per row of spec/opcode_table.json, and the types of
their operands. Every constructor's first operand `dt` is the number of datum ticks since the step before it. A host
command's packet stands in a command queue of the state, so its row has no further operand; a row that stands for a
happening outside the control logic (a pin, a measurement, a decoded unit, a received frame) carries what is sensed,
measured, decoded or received.
-/
namespace Sys2Proof

/-- The port a register write came through (05 R138, R145). -/
inductive RegPort where
  | spi
  | twoWire
deriving DecidableEq, Repr

/-- One error as it reaches Tocsin (25 R679, R680): its class, place and address, and whether it was injected. -/
structure ErrIn where
  /-- Class, 0x01-0x0F (R679). -/
  cls : Nat
  /-- Level: 0 cell, 1 block, 2 region, 3 chip (R679). -/
  level : Nat
  /-- Region (R680). -/
  region : Nat
  /-- Block (R680). -/
  block : Nat
  /-- Master ID. -/
  master : Nat
  /-- Access type, 0-6 (05 mirror ACCESS). -/
  access : Nat
  /-- ADDR (R679). -/
  addr : Nat
  /-- The detail field of R699: syndrome and bank word index for classes 0x01 and 0x02. -/
  detail : Nat
  /-- The error was injected (R695). -/
  injected : Bool
deriving DecidableEq, Repr

/-- How far a two-wire transfer in progress had come when the target reset its state machine (06 R183, R187): no byte of it
concerned the target, bytes of a write transfer acknowledged so far (the pointer's two first), or bytes of a read transfer sent. -/
inductive TwPart where
  | address
  | write (bytes : List Byte)
  | read (count : Nat)
deriving DecidableEq, Repr

/-- An IEEE 1149.1 instruction on the TAP (08 R243): the four that DEBUG_LOCK leaves open, and every other. -/
inductive JtagInstr where
  | bypass
  | idcode
  | samplePreload
  | extest
  | other (code : Nat)
deriving DecidableEq, Repr


/-- A measurement over several windows or frames (14 R411, 16 R467, 17 R499; 19 R544). -/
structure Quality where
  /-- Level, 0.1 dBµV. -/
  level : Int := 0
  /-- CNR of FM and AM, MER of DAB and DRM, 0.1 dB. -/
  cnr : Int := 0
  /-- MP_res, fib_ok or fac_ok, %. -/
  pct : Nat := 0
  /-- MP_res, 0.1 %, rounded up. -/
  mpRes : Nat := 0
  /-- Mean offset, Hz. -/
  offset : Int := 0
  /-- USN, 0.1 dB. -/
  usn : Int := 0
  /-- EId, or 0. -/
  eid : Nat := 0
  /-- Service identifiers of a FAC. -/
  sids : List Nat := []
  /-- Synchronised with at least one good FIB or FAC. -/
  good : Bool := false
deriving DecidableEq, Repr

/-- What the standby watch receiver has decoded in a dwell (22 R616). -/
inductive WatchSeen where
  /-- FM: an error-free block at offset A or C′, at any bit-locked position, holds this PI (15 R430). -/
  | pi (word : Nat)
  /-- FM: a complete group of a stream, its four blocks as information word and quality (15 R424). -/
  | group (stream : Nat) (blocks : List (Nat × Nat))
  /-- DAB: the FIC of one frame: EId and Al of FIG 0/0, and the ASw flags of cluster 0xFF where FIG 0/19 gives them. -/
  | frame (eid : Nat) (al : Bool) (asw : Option Nat)
  /-- DRM: a good SDC: the service for which entity 6 shows the alarm announcement switched on, and the services of the signal. -/
  | sdc (alarm : Option Nat) (services : List Nat)
deriving DecidableEq, Repr

/-- An offer to the Field Book (19 "How entries are written"). -/
structure FbOffer where
  /-- Standard. -/
  std : Nat
  /-- Frequency, kHz; 0 where only a tie is offered. -/
  freq : Nat
  /-- Identifier, 0 unknown. -/
  id : Nat := 0
  /-- EId. -/
  eid : Option Nat := none
  /-- Level byte. -/
  level : Option Nat := none
  /-- Quality class of a check result. -/
  cls : Option Nat := none
  /-- Detail bytes: offset from byte 24, and value. -/
  detail : List (Nat × Nat) := []
  /-- Input hint. -/
  input : Option Nat := none
  /-- Regional mark. -/
  regional : Option Bool := none
  /-- Link set given by the host. -/
  link : Option Nat := none
  /-- Tie: standard and identifier of the other record. -/
  tie : Option (Nat × Nat) := none
  /-- Source bit 0-6. -/
  source : Nat
  /-- Datum time of the observation. -/
  time : Nat := 0
  /-- 0 no check result, 1 counted, 2 counted as a miss, 3 inconclusive (R543). -/
  check : Nat := 0
  /-- It marks entries with other identifiers stale (R529). -/
  station : Bool := false
deriving DecidableEq, Repr

/-- What a FIG or an SDC entity offers (16 R452, 17 R487). -/
structure FeedItem where
  /-- Standard. -/
  std : Nat
  /-- Frequency, kHz, or 0. -/
  freq : Nat
  /-- Identifier. -/
  id : Nat
  /-- EId, or 0. -/
  eid : Nat
  /-- Tie to this standard and identifier: a hard link (19 R530). -/
  tie : Option (Nat × Nat)
  /-- Schedule of 19 R526, or 0. -/
  sched : Nat
deriving DecidableEq, Repr

/-- A DAB subchannel (16 R450, R469). -/
structure DabSub where
  /-- SubChId. -/
  id : Nat
  /-- Start address. -/
  start : Nat
  /-- Size, CUs. -/
  size : Nat
  /-- Protection as R469 codes it. -/
  prot : Nat
  /-- Bitrate, kbit/s. -/
  rate : Nat
deriving DecidableEq, Repr

/-- A DAB service. -/
structure DabServ where
  /-- SId. -/
  sid : Nat
  /-- Data service. -/
  data : Bool
  /-- ECC, 0 unknown. -/
  ecc : Nat
  /-- CA. -/
  ca : Bool
  /-- Label with its character set. -/
  label : Option (Nat × List Byte)
deriving DecidableEq, Repr

/-- A DAB service component. -/
structure DabComp where
  /-- SId. -/
  sid : Nat
  /-- SCIdS. -/
  scids : Nat
  /-- TMId. -/
  tmid : Nat
  /-- ASCTy or DSCTy. -/
  typ : Nat
  /-- SubChId. -/
  subch : Option Nat
  /-- SCId. -/
  scid : Option Nat
  /-- Packet address. -/
  addr : Option Nat
  /-- CA. -/
  ca : Bool
deriving DecidableEq, Repr

/-- The content of a FIG that the device interprets (16 R450). -/
inductive FigBody where
  | ensemble (eid cif change occ : Nat) (al : Bool)
  | subs (next : Bool) (l : List DabSub)
  | servs (next : Bool) (l : List DabServ) (comps : List DabComp)
  | packets (next : Bool) (l : List (Nat × Nat × Nat))
  | globals (next : Bool) (l : List (Nat × Nat × Option Nat × Option Nat))
  | eccs (ens : Nat) (l : List (Nat × Nat))
  | apps (l : List (Nat × Nat × Nat))
  | fec (l : List (Nat × Nat))
  | support (l : List (Nat × Nat × List Nat))
  | switching (l : List (Nat × Nat × Nat × Nat))
  | feed (l : List FeedItem)
  | ensLabel (charset : Nat) (bytes : List Byte)
  | servLabel (sid charset : Nat) (bytes : List Byte)
  | other
deriving DecidableEq, Repr

/-- A FIG of a good FIB (16 R453). -/
structure Fig where
  /-- Type. -/
  typ : Nat
  /-- Extension. -/
  ext : Nat
  /-- C/N, OE and P/D in bits 0-2. -/
  flags : Nat
  /-- Bytes from the header byte on. -/
  bytes : List Byte
  /-- Content. -/
  body : FigBody
deriving DecidableEq, Repr

/-- One service of a FAC (17 R485). -/
structure DrmFacServ where
  /-- Service identifier. -/
  sid : Nat
  /-- Short Id. -/
  short : Nat
  /-- Data rather than audio. -/
  data : Bool
  /-- CA. -/
  ca : Bool
deriving DecidableEq, Repr

/-- The fields of a FAC that the device uses (17 R485). -/
structure DrmFac where
  /-- Robustness mode, 0-4. -/
  mode : Nat
  /-- Spectrum occupancy. -/
  occ : Nat
  /-- Long interleaving. -/
  long : Bool
  /-- Reconfiguration index. -/
  reconf : Nat
  /-- Points of the constellation of the MSC cells that the MSC mode names: 4, 16 or 64. -/
  msc : Nat
  /-- Points of the constellation of the SDC cells that the SDC mode names. -/
  sdc : Nat
  /-- Toggle flag. -/
  toggle : Bool
  /-- Its frame opens a superframe, so that the SDC stands in it. -/
  first : Bool
  /-- Services. -/
  servs : List DrmFacServ
deriving DecidableEq, Repr

/-- A service as the SDC describes it (17 R486, R501). -/
structure DrmServ where
  /-- Service identifier. -/
  sid : Nat
  /-- Short Id. -/
  short : Nat
  /-- 0 AAC, 1 xHE-AAC, 2 stream data, 3 packet data. -/
  typ : Nat
  /-- Stream. -/
  stream : Nat
  /-- Packet identifier. -/
  packet : Option Nat
  /-- Bit rate, bit/s ÷ 100. -/
  rate : Nat
  /-- Audio sampling rate code, 0xFF for data. -/
  arate : Nat
  /-- Mapping. -/
  mapping : Nat
  /-- User application type. -/
  app : Nat
  /-- Stream length and protection, as a number that changes when either does. -/
  prot : Nat
deriving DecidableEq, Repr

/-- What a good SDC holds (17 R486-R488, R497). -/
structure DrmSdc where
  /-- Services described. -/
  servs : List DrmServ
  /-- Offers of entities 3, 4 and 11. -/
  feed : List FeedItem
  /-- Service whose alarm announcement is switched on. -/
  alarm : Option Nat
  /-- utc of entity 8. -/
  utc : Option Nat
  /-- It opens the superframe at which an announced configuration applies. -/
  applies : Bool
deriving DecidableEq, Repr

/-- What the block's datapaths measured in the Round that ends at a boundary. -/
structure RoundIn where
  /-- Mean of the temperature sensors, 0.125 °C. -/
  tAvg : Int := 200
  /-- Frames that ports 0-3 and SPDO0-SPDO1 began in it, as their clocks counted them (20 R568, R570). -/
  frames : List Nat := []
  /-- Route rate against the 48 kHz of programmes 0-3 over it, as counted: deviation from nominal, ppm (20 R564). -/
  ratios : List Int := []
deriving DecidableEq, Repr

/-- The commands, one constructor per row of the opcode table, in the table's order. -/
inductive Instr where
  /-- POWER_ON (R74): VDD_AON comes into range; the device is held in reset until both brown-out detectors release and RESET_N is seen high. -/
  | powerOn (dt : Nat)
  /-- VDD_AON_BROWN_OUT (R75): VDD_AON falls below its threshold and the whole device resets, losing datum time, Tocsin record, calibration and straps. -/
  | vddAonBrownOut (dt : Nat)
  /-- VDD_CORE_BROWN_OUT (R76): VDD_CORE falls below its threshold after boot has begun, which is a halt of class SUPPLY. -/
  | vddCoreBrownOut (dt : Nat)
  /-- RESET_N_ASSERT (R77): A low on RESET_N confirmed by the glitch filter resets every island and ends any halt. -/
  | resetNAssert (dt : Nat)
  /-- RESET_N_RELEASE (R74): The synchroniser sees RESET_N high with rails above threshold and boot begins. -/
  | resetNRelease (dt : Nat)
  /-- TEST_MODE_CHANGE (R61): TEST_MODE high holds the device in reset with ALIVE low whatever RESET_N holds. -/
  | testModeChange (dt : Nat) (level : Bool)
  /-- STRAP_SAMPLING (R57): On the 32nd REFCLK edge after RESET_N release, HOST_SEL and TW_ADDR are sampled. -/
  | strapSampling (dt : Nat) (hostSel : Bool) (twAddr : BitVec 3)
  /-- FUSE_READ_DONE (R146): The fuse array read completes 40 µs after release, making identity registers valid and the two-wire address active, or halting on failure. -/
  | fuseReadDone (dt : Nat) (ok : Bool)
  /-- BOOT_PLL_A_LOCK (R80): PLL_A locks during boot and datum time hands over to the sample clock, or the device halts. -/
  | bootPllALock (dt : Nat) (ok : Bool)
  /-- BOOT_SRAM_INIT_DONE (R80): All SRAM is written with zero and valid check bits, or the device halts on an uncorrectable error. -/
  | bootSramInitDone (dt : Nat) (bad : Option ErrIn)
  /-- BOOT_ROM_CHECK_DONE (R80): The control processor leaves reset and the ROM CRC-32 check passes, or the device halts with class BOOT. -/
  | bootRomCheckDone (dt : Nat) (ok : Bool)
  /-- BOOT_DONE (R80): Boot completes: source 3 is raised, IRQ_N asserts, ALIVE starts and commands are accepted. -/
  | bootDone (dt : Nat)
  /-- REFCLK_LOSS (R102): No REFCLK edge for 2 µs outside reset sets REFCLK_LOST and halts with class CLOCK. -/
  | refclkLoss (dt : Nat) (sinceEdge : Nat)
  /-- REFCLK_RESTORED_IN_RESET (R102): REFCLK returns during reset and the always-on island goes back to counting datum time from it. -/
  | refclkRestoredInReset (dt : Nat)
  /-- THERMAL_WARNING (R99): t_hot crosses P.THERMAL_WARN upward, raising THERMAL_WARN once, or falls 5 °C below and re-arms. -/
  | thermalWarning (dt : Nat) (tHot tAvg : Int)
  /-- THERMAL_SHUTDOWN (R100): A sensor's hardware comparator trips and the device halts with class THERMAL. -/
  | thermalShutdown (dt : Nat) (sensors : List Nat) (tHot : Int)
  /-- FUSE_EN_CHANGE (R234): FUSE_EN changes level; a fall during programming stops SEC_FUSE_PROGRAM with result 0x02. -/
  | fuseEnChange (dt : Nat) (level vppOk : Bool)
  /-- SYS_INFO (R94): Returns the 32-byte identity, revision, strap, owner, power-state and boot-cause payload. -/
  | sysInfo (dt : Nat)
  /-- SYS_POWER (R95): Leaves WATCH for ACTIVE or accepts entry into SLEEP. -/
  | sysPower (dt : Nat)
  /-- SYS_PATCH_LOAD (R245): Begins, adds a chunk to, or commits a firmware patch image. -/
  | sysPatchLoad (dt : Nat)
  /-- SYS_RESET (R96): Authenticated restart or full reset that takes effect 6 ms after the reply is ready. -/
  | sysReset (dt : Nat)
  /-- PROP_SET (R212): Checks a property list against the staged state and schedules it whole for the next Round boundary. -/
  | propSet (dt : Nat)
  /-- PROP_GET (R215): Returns the staged values of the listed properties. -/
  | propGet (dt : Nat)
  /-- EVT_ROUTE (R222): Sets which ports receive records of a range of event sources. -/
  | evtRoute (dt : Nat)
  /-- SYS_OWNER (R209): Transfers system ownership to another interface from the next sequence index. -/
  | sysOwner (dt : Nat)
  /-- SYS_TEMP (R98): Returns die temperatures, calibration temperatures and the thermal warning state. -/
  | sysTemp (dt : Nat) (tHot tAvg : Int)
  /-- RESERVED_OPCODE (R12): A packet whose opcode is undefined, reserved or locked factory test is answered BAD_OPCODE. -/
  | reservedOpcode (dt : Nat)
  /-- SLEEP_ENTRY (R89): After the SLEEP reply is ready, programmes mute, ports stop, LEAVE frames are sent and main regions are gated, discarding queued packets. -/
  | sleepEntry (dt : Nat)
  /-- SYS_RESET_TAKES_EFFECT (R97): 6 ms after the SYS_RESET reply became ready, the device resets and boots without sampling straps. -/
  | sysResetTakesEffect (dt : Nat)
  /-- SPI_CMD_PUSH (R140): A CMD_PUSH transaction delivers a packet to Q0, or is discarded with a port reply or flag; in SLEEP it wakes the device. -/
  | spiCmdPush (dt : Nat) (bytes : List Byte)
  /-- SPI_RSP_PULL (R141): Sends the oldest complete reply of Q1 and removes it if clocked out in full. -/
  | spiRspPull (dt : Nat) (clocked : Nat)
  /-- SPI_EVT_PULL (R142): Sends the event records held for SPI, removing each one clocked out in full. -/
  | spiEvtPull (dt : Nat) (clocked : Nat)
  /-- SPI_DATA_PULL (R143): Sends the fill level and whole records of a data queue, removing each completed record. -/
  | spiDataPull (dt : Nat) (queue clocked : Nat)
  /-- SPI_FAST_STATUS (R139): Returns one status byte summarising halt, boot, interrupt and queue state. -/
  | spiFastStatus (dt : Nat)
  /-- SPI_UNKNOWN_INSTRUCTION (R135): An unknown instruction byte sets SPI_BAD_INSTR and the transaction is ignored. -/
  | spiUnknownInstruction (dt : Nat) (code : Byte)
  /-- REGISTER_WRITE (R137): A complete 4-byte write to a register with no behaviour of its own takes effect, subject to ownership rules. -/
  | registerWrite (dt : Nat) (port : RegPort) (addr : Nat) (values : List Word)
  /-- IRQ_STATUS_WRITE (R148): Writing 1 to IRQ_STATUS bits clears them and may release IRQ_N or TW_ALERT_N. -/
  | irqStatusWrite (dt : Nat) (port : RegPort) (reg : Nat) (value : Word)
  /-- SYS_STATUS_CLEAR (R147): Writing 1 to RWS fields of SYS_STATUS clears them unless set on the same edge. -/
  | sysStatusClear (dt : Nat) (port : RegPort) (value : Word)
  /-- TW_STATUS_CLEAR (R147): Writing 1 to RWS fields of TW_STATUS clears them unless set on the same edge. -/
  | twStatusClear (dt : Nat) (port : RegPort) (value : Word)
  /-- TW_CFG_WRITE (R150): Writes TW_CFG, ignoring the whole write for a reserved speed, and aborts a controller transfer when CTRL_EN is cleared. -/
  | twCfgWrite (dt : Nat) (port : RegPort) (value : Word)
  /-- TOCSIN_TIME_LO_READ (R151): A read of TIME_LO latches TIME_HI for a consistent pair. -/
  | tocsinTimeLoRead (dt : Nat) (addr count : Nat)
  /-- TW_POINTER_WRITE (R159): A write transfer sets the two-byte pointer, refusing reserved ranges. -/
  | twPointerWrite (dt : Nat) (bytes : List Byte)
  /-- TW_MIRROR_READ (R164): A read transfer in the register mirror latches each word on its first byte and returns bytes in order. -/
  | twMirrorRead (dt : Nat) (count : Nat)
  /-- TW_COMMAND_MAILBOX_WRITE (R165): A write transfer adds a piece to the command mailbox and, at completion, submits, holds or rejects the packet. -/
  | twCommandMailboxWrite (dt : Nat) (bytes : List Byte)
  /-- TW_PENDING_PACKET_ENTERS_Q2 (R168): A pending two-wire packet enters Q2 once Q2 has room and writes are accepted again. -/
  | twPendingPacketEntersQ2 (dt : Nat)
  /-- TW_MAILBOX_STATUS_READ (R167): A read of the command mailbox returns fill, room and state. -/
  | twMailboxStatusRead (dt : Nat) (count : Nat)
  /-- TW_REPLY_MAILBOX_READ (R169): A read at 0x9000 sends the oldest reply of Q3, removing it if sent in full. -/
  | twReplyMailboxRead (dt : Nat) (count : Nat)
  /-- TW_EVENT_MAILBOX_READ (R170): A read at 0xA000 sends the records delivered to two-wire, taking each one sent in full. -/
  | twEventMailboxRead (dt : Nat) (count : Nat)
  /-- TW_ALERT_RESPONSE (R172): A read of 0x0C while alerting sends the own address under arbitration and releases TW_ALERT_N when won. -/
  | twAlertResponse (dt : Nat) (lostAt : Option Nat)
  /-- TW_TARGET_TIMEOUT (R183): SCL low or own SDA low held 25 ms resets the target state machine and raises source 18. -/
  | twTargetTimeout (dt : Nat) (sdaHeld : Bool) (part : TwPart)
  /-- TWC_XFER (R184): Accepts a controller write/read transfer to run on the two-wire bus. -/
  | twcXfer (dt : Nat)
  /-- TWC_RECOVER (R185): Starts the bus recovery sequence. -/
  | twcRecover (dt : Nat)
  /-- TWC_STATUS (R186): Returns the state and result of the last controller transfer. -/
  | twcStatus (dt : Nat)
  /-- TWC_ATTEMPT_START (R175): Once the bus is free, the controller starts an attempt of a pending transfer from START. -/
  | twcAttemptStart (dt : Nat) (linesHigh : Bool)
  /-- TWC_BUS_FREE_TIMEOUT (R175): The bus is not free within 25 ms and the transfer ends with result 0x05. -/
  | twcBusFreeTimeout (dt : Nat)
  /-- TW_ARB_LOST (R177): The controller sees 0 while driving 1, releases the lines, sets ARB_LOST and waits to retry or ends after 8 losses. -/
  | twArbLost (dt : Nat) (byteNo bitNo : Nat) (rdData : List Byte)
  /-- TWC_TRANSFER_END (R180): A controller transfer ends done, not acknowledged or with a PEC mismatch, forming STOP. -/
  | twcTransferEnd (dt : Nat) (result wrDone : Nat) (rdData : List Byte)
  /-- TWC_SCL_LOW_TIMEOUT (R180): SCL held low 25 ms ends the transfer with result 0x06 and releases both lines. -/
  | twcSclLowTimeout (dt : Nat) (wrDone : Nat) (rdData : List Byte)
  /-- TW_RECOVERY_DONE (R182): The recovery pulses end with SDA released or after nine pulses, raising TW_BUS_RECOVERED. -/
  | twRecoveryDone (dt : Nat) (pulses : Nat) (released : Bool)
  /-- TW_RECOVERY_SCL_TIMEOUT (R182): SCL is not high for 50 µs within 25 ms and recovery ends with result 0x02. -/
  | twRecoverySclTimeout (dt : Nat)
  /-- REPLY_QUEUE_WAIT_TIMEOUT (R197): After 800 Rounds waiting for reply room, the oldest reply is discarded and QUEUE_OVERFLOW raised. -/
  | replyQueueWaitTimeout (dt : Nat)
  /-- SEC_NONCE (R242): Returns the boot nonce and the asking interface's authentication state. -/
  | secNonce (dt : Nat)
  /-- SEC_FUSE_READ (R233): Returns the present customer fuse area with keys reading zero. -/
  | secFuseRead (dt : Nat)
  /-- SEC_FUSE_PROGRAM (R235): Starts programming a fuse span under FUSE_EN and VPP_FUSE. -/
  | secFuseProgram (dt : Nat)
  /-- FUSE_PROGRAMMING_DONE (R235): Bit pulsing ends and the OK reply reports verified, failed bits or stopped. -/
  | fuseProgrammingDone (dt : Nat) (setBits givenUp : List Byte) (stopped : Bool)
  /-- SEC_DEBUG_UNLOCK (R244): Opens factory test opcodes and/or the full JTAG instruction set until the next boot. -/
  | secDebugUnlock (dt : Nat)
  /-- CLK_AUDIO (R126): Reconfigures PLL_AUD mode and family, muting programmes and gating PLL_AUD until relock. -/
  | clkAudio (dt : Nat)
  /-- CLK_SPUR_PLAN (R127): Starts a host plan change to another demodulation clock. -/
  | clkSpurPlan (dt : Nat)
  /-- CLK_STATUS (R128): Returns the state of every clock generator and its counters. -/
  | clkStatus (dt : Nat)
  /-- PLL_A_LOCK_LOSS (R107): PLL_A loses lock and the device halts with class CLOCK. -/
  | pllALockLoss (dt : Nat)
  /-- PLLD_LIVE_LOCK_LOSS (R107): The live PLL_D instance loses lock and the device halts. -/
  | plldLiveLockLoss (dt : Nat)
  /-- PLL_F_LOCK_LOSS (R107): PLL_F loses lock while a port is enabled and the device halts. -/
  | pllFLockLoss (dt : Nat)
  /-- PLL_AUD_LOCK_LOSS (R107): PLL_AUD loses lock and relocks with the ports gated. -/
  | pllAudLockLoss (dt : Nat)
  /-- PLLD_IDLE_LOCK (R114): The idle PLL_D instance holds within ±0.1 % for 10 µs and the switch controller asserts the crossing hold. -/
  | plldIdleLock (dt : Nat)
  /-- PLLD_LOCK_ATTEMPT_TIMEOUT (R116): An acquisition attempt exceeds 500 µs; after three the change fails and SPUR_PLAN_APPLIED reports it. -/
  | plldLockAttemptTimeout (dt : Nat)
  /-- HANDSHAKE_QUIET_POINT (R114): All demodulation crossings report idle, the islands move to the new PLL_D on one edge and the hold is released. -/
  | handshakeQuietPoint (dt : Nat)
  /-- AUDIO_REF_EDGE_FAULT (R122): A missing or extra reference edge repeats at most one frame and counts an edge fault. -/
  | audioRefEdgeFault (dt : Nat) (gap : Nat)
  /-- AUDIO_REF_LOST (R123): The audio reference is lost; PLL_AUD coasts, programmes mute and AUDIO_CLK_LOST is raised. -/
  | audioRefLost (dt : Nat) (gap : Nat) (offset : Int)
  /-- AUDIO_REF_VALID (R124): 64 valid reference edges arrive and PLL_AUD starts pulling to the reference. -/
  | audioRefValid (dt : Nat) (edges worst : Nat)
  /-- AUDIO_PLL_PHASE_LOCK (R124): PLL_AUD reaches phase lock, raises AUDIO_CLK_RESTORED and unmutes programmes muted by the loss. -/
  | audioPllPhaseLock (dt : Nat) (offset : Int)
  /-- AUDIO_PLL_LOCKED (R126): PLL_AUD relocks after a CLK_AUDIO change, refilling port FIFOs and unmuting programmes. -/
  | audioPllLocked (dt : Nat) (offset : Int)
  /-- AUDIO_PLL_RELOCK_TIMEOUT (R126): No valid reference within 25 ms; PLL_AUD locks free-running, then coasts with AUDIO_CLK_LOST. -/
  | audioPllRelockTimeout (dt : Nat)
  /-- HANDSHAKE_TIMEOUT (R118): A crossing makes no progress for its timeout and the device halts with class HANDSHAKE. -/
  | handshakeTimeout (dt : Nat) (crossing farRegion region block held stalled : Nat)
  /-- ROUND_BOUNDARY (R359): At each Round boundary the frozen Traverse plan commits and scheduled state changes, properties and grants apply. -/
  | roundBoundary (dt : Nat) (inp : RoundIn)
  /-- TRAVERSE_PLAN_FREEZE (R360): 62.5 µs before a boundary Traverse builds and freezes the plan of dispatches, withdrawals and pre-emptions. -/
  | traversePlanFreeze (dt : Nat)
  /-- PAGER_RESTORE (R372): The pager finishes restoring a context's parked state into a shadow bank. -/
  | pagerRestore (dt : Nat) (ctx : Nat)
  /-- PAGER_PARK (R372): The pager finishes parking a withdrawn context's state from a shadow bank into Deep Store. -/
  | pagerPark (dt : Nat) (ctx : Nat)
  /-- DWELL_END (R363): A background context's dwell count expires, ending its check measurement and making it eligible for rotation. -/
  | dwellEnd (dt : Nat) (ctx : Nat)
  /-- NO_RESOURCE_STARVATION (R364): A background context waits P.STARVE_LIMIT Rounds and NO_RESOURCE is raised once. -/
  | noResourceStarvation (dt : Nat)
  /-- CTX_OPEN (R379): Opens a context of a kind and class, charging its park area and making the sender owner. -/
  | ctxOpen (dt : Nat)
  /-- CTX_CLOSE (R380): Marks a context closing and releases it at the applying boundary. -/
  | ctxClose (dt : Nat)
  /-- CTX_CONFIG (R381): Changes a context's class and priority with admission under R355. -/
  | ctxConfig (dt : Nat)
  /-- CTX_STATUS (R384): Returns the state, placement and counters of a context. -/
  | ctxStatus (dt : Nat)
  /-- CTX_TUNE (R383): Admits a tuning or retune of a context and schedules it for a boundary. -/
  | ctxTune (dt : Nat)
  /-- CTX_SUSPEND (R385): Moves a context to HALTED at the next boundary, parking it and releasing grants. -/
  | ctxSuspend (dt : Nat)
  /-- CTX_RESUME (R385): Moves a HALTED context back to PARKED, READY or OPEN with admission. -/
  | ctxResume (dt : Nat)
  /-- CTX_HANDOVER (R386): Transfers ownership of a context with its bindings and routes. -/
  | ctxHandover (dt : Nat)
  /-- RES_STATUS (R387): Returns Traverse resource usage, quotas and counters. -/
  | resStatus (dt : Nat)
  /-- FE_INPUT (R274): Enables an input, with or without calibration, or disables it through the withdrawal sequence. -/
  | feInput (dt : Nat) (tAvg : Int)
  /-- FE_AGC (R275): Sets an input's AGC to auto, hold or manual gains from the next window. -/
  | feAgc (dt : Nat)
  /-- FE_XAMP (R276): Starts an external amplifier on, bypass, off or fault-clear sequence. -/
  | feXamp (dt : Nat)
  /-- FE_DIAG (R277): Returns an input's gain, detector, supply and EEPROM diagnostics, optionally clearing counters. -/
  | feDiag (dt : Nat)
  /-- FE_LBAND (R278): Switches an L-band converter on or off, starting or stopping SYN0. -/
  | feLband (dt : Nat)
  /-- AGC_WINDOW_END (R258): At the end of each AGC window the gain loops adjust g and lbg and may raise AGC_OVERLOAD. -/
  | agcWindowEnd (dt : Nat) (input : Nat) (codes : List Int) (detMain detLb : Int)
  /-- AUX_ADC_SAMPLE (R269): Each Round the AXn_SNS sample classifies the supply and may cut it on Short or Overcurrent. -/
  | auxAdcSample (dt : Nat) (input mv : Nat)
  /-- XAMP_INRUSH_EXPIRY (R269): P.XAMP_INRUSH elapses and the Overcurrent test becomes active. -/
  | xampInrushExpiry (dt : Nat) (input : Nat)
  /-- XAMP_SETTLE_EXPIRY (R271): P.XAMP_SETTLE elapses, the supply is classified and the sequence continues to the EEPROM read. -/
  | xampSettleExpiry (dt : Nat) (input : Nat)
  /-- XAMP_EEPROM_READ_DONE (R273): The identity EEPROM read ends and the sequence finishes at the next boundary with XAMP_SEQ_DONE. -/
  | xampEepromReadDone (dt : Nat) (result : Nat) (bytes : List Byte)
  /-- XAMP_OFF_DELAY_EXPIRY (R271): 8 Rounds after bypass in an off sequence, AXn_PWR goes low and XAMP_SEQ_DONE is raised. -/
  | xampOffDelayExpiry (dt : Nat) (input : Nat)
  /-- XAMP_RETRY_WAIT_EXPIRY (R270): 1 s after a supply cut, the last on sequence is repeated with ANT_DIAG retry started. -/
  | xampRetryWaitExpiry (dt : Nat) (input : Nat)
  /-- SYN0_LOCK (R254): SYN0 locks after start and segment n.3 can go live. -/
  | syn0Lock (dt : Nat)
  /-- SYN0_LOCK_LOSS (R255): SYN0 loses lock, L-band slots deliver zeros flagged LO lost and re-acquisition starts. -/
  | syn0LockLoss (dt : Nat)
  /-- SYN0_REACQUIRE_TIMEOUT (R255): A 500 µs re-acquisition attempt fails; after three every converter is switched off. -/
  | syn0ReacquireTimeout (dt : Nat)
  /-- CAL_RUN (R296): Starts calibration of named inputs, SYN0 and SYN1. -/
  | calRun (dt : Nat)
  /-- CAL_READ (R297): Returns the calibration record in use for an input. -/
  | calRead (dt : Nat)
  /-- CAL_WRITE (R298): Validates and installs saved calibration records for inputs. -/
  | calWrite (dt : Nat) (tAvg : Int)
  /-- SYN_TABLE_READ (R299): Returns the SYN1 channel table. -/
  | synTableRead (dt : Nat)
  /-- SYN_TABLE_WRITE (R300): Validates and places SYN1 table entries. -/
  | synTableWrite (dt : Nat) (tAvg : Int)
  /-- CAL_PASS_END (R285): A calibration pass ends; the residue is checked and pairs are compared, leading to rejection, another pair or apply. -/
  | calPassEnd (dt : Nat) (input : Nat) (trims : List Byte) (codes : List Int) (tAvg : Int)
  /-- CAL_APPLY_DONE (R284): Trims are written, tones off and the switch closed, so the hold can end with CAL_DONE or CAL_REJECTED. -/
  | calApplyDone (dt : Nat) (input : Nat)
  /-- SYN0_SEARCH_END (R286): A SYN0 code search ends; pairs are compared and CAL_DONE target 4 reports the outcome. -/
  | syn0SearchEnd (dt : Nat) (band cap : Nat) (tAvg : Int)
  /-- CAL_TEMPERATURE_CHECK (R293): Every eighth Round, t_avg is compared with t_cal and CAL_ADVISED may be raised. -/
  | calTemperatureCheck (dt : Nat) (tAvg : Int)
  /-- SYN1_CHANNEL_CAL_DONE (R295): A SYN1 channel calibration completes and its table entry is placed; deferred watch commands execute. -/
  | syn1ChannelCalDone (dt : Nat) (ok : Bool) (band cap : Nat) (tAvg : Int)
  /-- SURVEY_CYCLE_BOUNDARY (R317): A Survey cycle begins, new channel tables take effect and SURVEY_READY may be raised. -/
  | surveyCycleBoundary (dt : Nat)
  /-- SURVEY_VISIT_END (R316): A segment visit ends and, if complete, replaces stored spectra, peaks and offers channels to the Field Book. -/
  | surveyVisitEnd (dt : Nat) (seg : Nat)
  /-- SURVEY_CFG (R319): Sets a segment's channel table and Field Book feed. -/
  | surveyCfg (dt : Nat)
  /-- SURVEY_READ (R320): Returns bin or channel levels of a segment's last complete visit. -/
  | surveyRead (dt : Nat)
  /-- COEF_LOAD (R344): Writes a host coefficient bank. -/
  | coefLoad (dt : Nat)
  /-- SLOT_STATUS (R345): Returns the state of a range of slots. -/
  | slotStatus (dt : Nat)
  /-- SLOT_PIN (R346): Releases, excludes or pins a slot for a foreground context at the next boundary. -/
  | slotPin (dt : Nat)
  /-- NB_WINDOW_END (R408): A narrowband window ends; metrics and automatic bandwidth, equaliser, stereo, detector, AFC and release decisions are taken. -/
  | nbWindowEnd (dt : Nat) (ctx : Nat)
  /-- AM_COARSE_SEARCH_DONE (R404): The 256-point AM carrier search completes and corrects C or repeats. -/
  | amCoarseSearchDone (dt : Nat) (ctx : Nat)
  /-- NB_CFG (R414): Sets a narrowband context's bandwidth, equaliser, mode, blanker and actions. -/
  | nbCfg (dt : Nat)
  /-- NB_METRICS (R415): Returns a narrowband context's last window metrics and check result. -/
  | nbMetrics (dt : Nat)
  /-- RDS_BLOCK_DECODED (R424): A 26-bit block is decoded with a quality, driving synchronisation and PI confirmation. -/
  | rdsBlockDecoded (dt : Nat) (ctx stream : Nat)
  /-- RDS_GROUP_COMPLETE (R425): A complete group is delivered as a record and its PI, AF, EON and alarm content extracted. -/
  | rdsGroupComplete (dt : Nat) (ctx stream : Nat)
  /-- RDS_CFG (R437): Sets a context's RDS streams, RBDS, delivery and expected PI. -/
  | rdsCfg (dt : Nat)
  /-- RDS_STATUS (R438): Returns a context's RDS state and counters. -/
  | rdsStatus (dt : Nat)
  /-- DAB_NULL_DETECTED (R442): A null symbol is found and the instance enters sync state 1. -/
  | dabNullDetected (dt : Nat) (inst : Nat)
  /-- DAB_PRS_PROCESSED (R444): The phase reference symbol yields coarse frequency, first path and slip and correction requests. -/
  | dabPrsProcessed (dt : Nat) (inst : Nat)
  /-- DAB_FIB_DECODED (R449): A FIB is checked and its FIGs update the database, offers, reconfiguration, announcements and alarms. -/
  | dabFibDecoded (dt : Nat) (inst : Nat) (good : Bool) (bytes : List Byte) (figs : List Fig)
  /-- DAB_DATABASE_COMPLETE (R451): No new database element for 10 frames completes the database and raises ENSEMBLE_CHANGED 0x00. -/
  | dabDatabaseComplete (dt : Nat) (inst : Nat)
  /-- DAB_CIF_DECODED (R456): A subchannel CIF is deinterleaved and Viterbi-decoded and handed on; reconfiguration applies at its change CIF. -/
  | dabCifDecoded (dt : Nat) (ctx cif : Nat) (bytes : List Byte) (ber : Nat)
  /-- DAB_LAYER2_FRAME (R458): A Layer II audio frame is framed and passed to the decoder or counted lost. -/
  | dabLayer2Frame (dt : Nat) (ctx : Nat) (headerOk : Bool)
  /-- DAB_SUPERFRAME (R459): A DAB+ superframe is tested by firecode and RS and its access units passed on. -/
  | dabSuperframe (dt : Nat) (ctx : Nat) (pass : Bool) (corrected failed : Nat) (aus : List Bool)
  /-- DAB_PACKET_DATA_GROUP (R597): A packet-mode or X-PAD data group is assembled and delivered as records or to MOT. -/
  | dabPacketDataGroup (dt : Nat) (ctx addr : Nat) (xpad crc : Bool) (bytes : List Byte)
  /-- DAB_SYNC_LOSS (R446): P.DAB_LOSS_FRAMES frames without null or good FIB return the instance to state 0. -/
  | dabSyncLoss (dt : Nat) (inst : Nat)
  /-- DAB_ANNOUNCEMENT_TIMEOUT (R463): No FIG 0/19 of a cluster for 16,000 Rounds ends the announcement. -/
  | dabAnnouncementTimeout (dt : Nat)
  /-- DAB_ENSEMBLE (R468): Sets FIG delivery masks and returns the ensemble summary. -/
  | dabEnsemble (dt : Nat)
  /-- DAB_SERVICE_SELECT (R469): Selects a DAB service or subchannel, resolving it now or later. -/
  | dabServiceSelect (dt : Nat)
  /-- DAB_FIC_DUMP (R470): Returns services, subchannels, components or recent FIBs of the instance. -/
  | dabFicDump (dt : Nat)
  /-- DAB_METRICS (R471): Returns a DAB context's metrics and check result. -/
  | dabMetrics (dt : Nat)
  /-- DRM_MODE_FOUND (R478): Guard correlation finds the robustness mode and symbol timing. -/
  | drmModeFound (dt : Nat) (ctx : Nat)
  /-- DRM_FREQUENCY_FOUND (R478): Reference-cell correlation finds the integer frequency offset and C is written. -/
  | drmFrequencyFound (dt : Nat) (ctx : Nat)
  /-- DRM_FRAME_FOUND (R478): Time reference cells give the frame start. -/
  | drmFrameFound (dt : Nat) (ctx : Nat)
  /-- DRM_FAC_DECODED (R485): A FAC is CRC-checked and its fields set occupancy, mode and service information. -/
  | drmFacDecoded (dt : Nat) (ctx : Nat) (good : Bool) (fac : DrmFac)
  /-- DRM_SDC_DECODED (R486): An SDC is checked and its entities drive multiplex, offers, reconfiguration, selection and alarms. -/
  | drmSdcDecoded (dt : Nat) (ctx : Nat) (good : Bool) (sdc : DrmSdc)
  /-- DRM_MSC_FRAME_DECODED (R490): An MSC frame is deinterleaved and multilevel-decoded. -/
  | drmMscFrameDecoded (dt : Nat) (ctx : Nat)
  /-- DRM_AUDIO_SUPERFRAME (R493): An audio superframe is framed and its access units passed to the decoder. -/
  | drmAudioSuperframe (dt : Nat) (ctx : Nat) (headerOk : Bool) (aus : List Bool)
  /-- DRM_TEXT_MESSAGE_COMPLETE (R494): A text message is reassembled and delivered if changed. -/
  | drmTextMessageComplete (dt : Nat) (ctx toggle : Nat) (bytes : List Byte)
  /-- DRM_DATA_UNIT (R495): A data unit passing its CRC is delivered as a type 0x31 record or to MOT. -/
  | drmDataUnit (dt : Nat) (ctx : Nat) (crcOk : Bool) (bytes : List Byte)
  /-- DRM_SYNC_LOSS (R480): P.DRM_LOSS_FRAMES frames without good FAC return the context to state 0. -/
  | drmSyncLoss (dt : Nat) (ctx : Nat)
  /-- DRM_ALARM_SDC_TIMEOUT (R497): No good SDC for P.DRM_LOSS_FRAMES superframes ends an active alarm. -/
  | drmAlarmSdcTimeout (dt : Nat)
  /-- DRM_CFG (R500): Sets permitted modes, delivery and resynchronisation of a DRM context. -/
  | drmCfg (dt : Nat)
  /-- DRM_SERVICE_SELECT (R501): Selects a DRM service, resolving it now or later. -/
  | drmServiceSelect (dt : Nat)
  /-- DRM_METRICS (R502): Returns a DRM context's metrics and check result. -/
  | drmMetrics (dt : Nat)
  /-- CMB_CFG (R522): Sets or releases a combined service and its branches. -/
  | cmbCfg (dt : Nat)
  /-- CMB_STATUS (R523): Returns a combined service's branches and weights. -/
  | cmbStatus (dt : Nat)
  /-- FB_CHANGED_REPORT (R535): P.FB_EVT_ROUNDS after the previous change report, FB_CHANGED is raised. -/
  | fbChangedReport (dt : Nat)
  /-- FB_QUERY (R536): Returns filtered Field Book entries. -/
  | fbQuery (dt : Nat)
  /-- FB_PUT (R537): Creates, updates or overwrites an entry and pins or unpins it. -/
  | fbPut (dt : Nat)
  /-- FB_DROP (R538): Frees one, all unpinned or all entries. -/
  | fbDrop (dt : Nat)
  /-- FB_EXPORT (R539): Returns entries with ages for saving. -/
  | fbExport (dt : Nat)
  /-- FB_IMPORT (R540): Merges saved entries as offers. -/
  | fbImport (dt : Nat)
  /-- FOLLOW_CFG (R552): Configures or disarms a follow group, or orders a switch. -/
  | followCfg (dt : Nat)
  /-- FOLLOW_STATUS (R553): Returns a follow group's state. -/
  | followStatus (dt : Nat)
  /-- FOLLOW_EVALUATION (R545): Every P.FOLLOW_EVAL Rounds scores are compared to prepare partners, confirm, switch or cut. -/
  | followEvaluation (dt : Nat) (prog : Nat)
  /-- FOLLOW_ALIGN_MEASUREMENT (R547): Every 0.5 s the partner and on-air audio are correlated to find the lag. -/
  | followAlignMeasurement (dt : Nat) (prog : Nat)
  /-- FOLLOW_ALIGN_TIMEOUT (R547): A partner running 10 s without alignment is mismatched. -/
  | followAlignTimeout (dt : Nat) (prog : Nat)
  /-- FOLLOW_PARTNER_READY (R548): The delay δ reaches the lag λ and the partner is ready. -/
  | followPartnerReady (dt : Nat) (prog : Nat)
  /-- FADE_END (R549): A fade completes; the partner is on air and FOLLOW_SWITCH or BLEND_DONE is raised. -/
  | fadeEnd (dt : Nat) (prog : Nat)
  /-- AUDIO_FRAME_DECODED (R558): An audio decoder outputs a frame, concealing bad frames and muting after P.CONCEAL_MAX. -/
  | audioFrameDecoded (dt : Nat) (ctx : Nat) (bad : Bool) (rate : Nat) (layout : Nat) (pcm : List (Int × Int))
  /-- PROG_ROUTE (R583): Sets a programme's source, routes and slot placement. -/
  | progRoute (dt : Nat)
  /-- PORT_CFG (R584): Configures an audio port's role, format, rate and group. -/
  | portCfg (dt : Nat)
  /-- PORT_RUN (R585): Starts or stops audio ports and IEC 60958 outputs. -/
  | portRun (dt : Nat)
  /-- SPDIF_CFG (R586): Sets an IEC 60958 output's rate and user text. -/
  | spdifCfg (dt : Nat)
  /-- PROG_LEVEL (R587): Sets a programme's host gain and mute. -/
  | progLevel (dt : Nat)
  /-- BLEND_CFG (R588): Sets fade shape and time, holds the blend buffer or starts a manual blend or cut. -/
  | blendCfg (dt : Nat)
  /-- AUDIO_STATUS (R589): Returns programme, port and SPDO state. -/
  | audioStatus (dt : Nat)
  /-- PORT_FAULT_FRAME (R571): An underrun, overrun, glitch or out-of-step frame repeats the last frame and may mute the group's routes. -/
  | portFaultFrame (dt : Nat) (leader kind : Nat)
  /-- PORT_FAULT_CLEAR (R572): 256 frames without a fault frame ramp the routes up and raise PORT_UNDERRUN restored. -/
  | portFaultClear (dt : Nat) (leader : Nat)
  /-- PORT_SLAVE_CLOCK_LOST (R573): A slave port's clock is lost; DOUT is driven low and PORT_UNDERRUN raised. -/
  | portSlaveClockLost (dt : Nat) (port gap faults : Nat) (offset : Int)
  /-- PORT_SLAVE_CLOCK_VALID (R573): 64 good frames make a slave clock valid; the FIFO refills and routes ramp up. -/
  | portSlaveClockValid (dt : Nat) (port frames bclks : Nat) (worst : Int)
  /-- PORT_STOP_COMPLETE (R575): After the stop ramp and frame in progress, the port's outputs are driven low. -/
  | portStopComplete (dt : Nat) (output : Nat)
  /-- SPDIF_IN_LOST (R581): SPDI misses preambles, shows biphase errors or wrong rate and SPDIF_IN_LOST is raised. -/
  | spdifInLost (dt : Nat) (gap errors : Nat) (offset : Int)
  /-- SPDIF_IN_VALID (R581): 64 good SPDI frames make the input valid again. -/
  | spdifInValid (dt : Nat) (frames errors : Nat) (offset : Int)
  /-- QUEUE_CFG (R602): Sizes or disables a data queue at the next boundary. -/
  | queueCfg (dt : Nat)
  /-- QUEUE_BIND (R603): Binds or unbinds a context's data queue and MOT reassembly. -/
  | queueBind (dt : Nat)
  /-- QUEUE_STATUS (R607): Returns data queue state and counters. -/
  | queueStatus (dt : Nat)
  /-- QUEUE_FLUSH (R605): Discards or takes records or a part of a record from a data queue. -/
  | queueFlush (dt : Nat)
  /-- MOT_DATA_GROUP (R598): A MOT header, body segment or directory updates reassembly and a complete object is delivered. -/
  | motDataGroup (dt : Nat) (ctx typ tid seg : Nat) (last : Bool) (bytes : List Byte) (entries : List (Nat × List Byte))
  /-- MOT_OBJECT_TIMEOUT (R599): No segment for P.MOT_TIMEOUT discards the object. -/
  | motObjectTimeout (dt : Nat)
  /-- WATCH_LIST (R613): Replaces the standby watch list. -/
  | watchList (dt : Nat) (tAvg : Int)
  /-- WATCH_ENTER (R623): Accepts entry into WATCH with wake, retention, AX0, GPIO and IRQ options. -/
  | watchEnter (dt : Nat)
  /-- WATCH_STATUS (R624): Returns the watch state and per-entry results. -/
  | watchStatus (dt : Nat)
  /-- WATCH_ENTRY_BOUNDARY (R618): At the first boundary after the mute ramp, contexts are parked or closed. -/
  | watchEntryBoundary (dt : Nat)
  /-- WATCH_ENTERED (R618): Parks complete, main regions are gated, SYN1 starts and WATCH_WAKE cause 0x00 is raised. -/
  | watchEntered (dt : Nat) (tAvg : Int)
  /-- WATCH_HOP_COMPLETE (R611): SYN1 settles on the next channel, calibrating it if needed, and a dwell begins. -/
  | watchHopComplete (dt : Nat)
  /-- WATCH_LEVEL_MEASURED (R615): The first 2 ms level is compared with min_level and may end the dwell. -/
  | watchLevelMeasured (dt : Nat) (level : Nat) (tAvg : Int)
  /-- WATCH_NO_SYNC_TIMEOUT (R615): No synchronisation within the limit ends the dwell with result no sync. -/
  | watchNoSyncTimeout (dt : Nat) (tAvg : Int)
  /-- WATCH_DWELL_END (R614): A dwell ends at its maximum or early end and the receiver hops on. -/
  | watchDwellEnd (dt : Nat) (seen : List WatchSeen) (tAvg : Int)
  /-- WATCH_ALARM_STATE_CHANGE (R617): A dwell shows an alarm beginning or ending, raising WATCH_ALERT and possibly waking. -/
  | watchAlarmStateChange (dt : Nat) (seen : List WatchSeen)
  /-- SYN1_LOCK_LOSS (R612): SYN1 loses lock and the dwell ends with LO lost, invalidating its entry. -/
  | syn1LockLoss (dt : Nat) (tAvg : Int)
  /-- WATCH_EXIT_COMPLETE (R620): After PLL_A relock and power-up, ACTIVE is reached and WATCH_WAKE is raised. -/
  | watchExitComplete (dt : Nat)
  /-- CL_PORT (R648): Enables or disables a fabric port. -/
  | clPort (dt : Nat)
  /-- CL_JOIN (R649): Starts neighbour authentication and Benchmark election. -/
  | clJoin (dt : Nat)
  /-- CL_LEAVE (R650): Closes streams, sends LEAVE and empties the route table. -/
  | clLeave (dt : Nat)
  /-- CL_STREAM_OPEN (R651): Requests fabric slots for a REMOTE_BRANCH stream. -/
  | clStreamOpen (dt : Nat)
  /-- CL_STREAM_CLOSE (R652): Stops a stream and releases its slots. -/
  | clStreamClose (dt : Nat)
  /-- CL_TOPOLOGY (R654): Returns the fabric's devices, ports or streams. -/
  | clTopology (dt : Nat)
  /-- CL_REMOTE (R653): Sends a packet to another device or fetches its stored reply. -/
  | clRemote (dt : Nat)
  /-- CL_TIME (R676): Returns fabric time state and counters. -/
  | clTime (dt : Nat)
  /-- PLL_F_LOCK (R648): PLL_F locks and enabled ports enter TRAINING. -/
  | pllFLock (dt : Nat)
  /-- CL_PORT_LINKED (R627): 1,024 error-free code groups take a training port to LINKED. -/
  | clPortLinked (dt : Nat) (port groups : Nat)
  /-- CL_SYNC_LOST (R628): 4 code errors within 256 code groups return the port to TRAINING. -/
  | clSyncLost (dt : Nat) (port errors groups : Nat)
  /-- CL_SIGNAL_LOST (R628): Receive signal below threshold for 1 µs returns the port to TRAINING. -/
  | clSignalLost (dt : Nat) (port below : Nat)
  /-- HELLO_SEND (R632): Every 8 Rounds a LINKED port sends a HELLO. -/
  | helloSend (dt : Nat) (port : Nat)
  /-- HELLO_FRAME (R632): A HELLO is checked and may take the port to UP or fail authentication. -/
  | helloFrame (dt : Nat) (port : Nat) (bytes : List Byte)
  /-- TOLL_FRAME (R662): A Toll updates arrival error and offsets and is forwarded if from the Toll port. -/
  | tollFrame (dt : Nat) (port : Nat) (x : Int) (bytes : List Byte)
  /-- PEAL_FRAME (R634): An authenticated peal drives election, address grants, topology and slot grants and is flooded. -/
  | pealFrame (dt : Nat) (port : Nat) (x : Int) (bytes : List Byte)
  /-- LEAVE_FRAME (R634): An accepted LEAVE takes the port to LINKED, floods and removes the device from the table. -/
  | leaveFrame (dt : Nat) (port : Nat) (x : Int) (bytes : List Byte)
  /-- STREAM_FRAME (R642): A STREAM frame is forwarded or passed to the combiner, marking missing Rounds lost. -/
  | streamFrame (dt : Nat) (port : Nat) (x : Int) (bytes : List Byte)
  /-- BUNDLE_FRAME (R641): A BUNDLE frame is forwarded or its members passed to the combiner. -/
  | bundleFrame (dt : Nat) (port : Nat) (x : Int) (bytes : List Byte)
  /-- REMOTE_CMD_FRAME (R645): A remote command is acknowledged and placed in Q5, refused or recognised as duplicate. -/
  | remoteCmdFrame (dt : Nat) (port : Nat) (x : Int) (bytes : List Byte)
  /-- REMOTE_ACK_FRAME (R644): A REMOTE_ACK ends repeats of its command. -/
  | remoteAckFrame (dt : Nat) (port : Nat) (x : Int) (bytes : List Byte)
  /-- REMOTE_REPLY_FRAME (R646): A remote reply is stored once and acknowledged. -/
  | remoteReplyFrame (dt : Nat) (port : Nat) (x : Int) (bytes : List Byte)
  /-- REPLY_ACK_FRAME (R646): A REPLY_ACK ends repeats of a remote reply. -/
  | replyAckFrame (dt : Nat) (port : Nat) (x : Int) (bytes : List Byte)
  /-- RESERVED_FRAME (R630): A frame of reserved type is forwarded by its route or discarded at its destination. -/
  | reservedFrame (dt : Nat) (port : Nat) (x : Int) (bytes : List Byte)
  /-- FABRIC_SLOT_START (R657): At a fabric slot start, scheduled isochronous or best-effort frames are transmitted. -/
  | fabricSlotStart (dt : Nat)
  /-- ANNOUNCE_PEAL_SEND (R635): Every 8 Rounds while discovering an announce peal is flooded. -/
  | announcePealSend (dt : Nat)
  /-- DISCOVERY_QUIET_END (R635): 64 quiet Rounds end discovery and the best device becomes Benchmark. -/
  | discoveryQuietEnd (dt : Nat)
  /-- TOPOLOGY_REFRESH (R637): The Benchmark floods a topology request every P.CL_REFRESH Rounds. -/
  | topologyRefresh (dt : Nat)
  /-- ROUTE_TABLE_APPLY (R638): 64 Rounds after a request the new route table applies, removing absent devices and rechecking grants. -/
  | routeTableApply (dt : Nat)
  /-- REMOTE_CMD_RETRY_TIMEOUT (R644): 3 Rounds without acknowledgement repeat a REMOTE_CMD or give up. -/
  | remoteCmdRetryTimeout (dt : Nat) (rseq : Nat)
  /-- REMOTE_REPLY_RETRY_TIMEOUT (R646): 3 Rounds without REPLY_ACK repeat a remote reply. -/
  | remoteReplyRetryTimeout (dt : Nat) (device rseq : Nat)
  /-- CL_STREAM_OPEN_TIMEOUT (R651): No Benchmark answer within 8 Rounds answers BUSY and triggers a release. -/
  | clStreamOpenTimeout (dt : Nat)
  /-- STREAM_RELEASE_REPEAT (R665): Every 16 Rounds an unconfirmed release peal is flooded again. -/
  | streamReleaseRepeat (dt : Nat) (stream : Nat)
  /-- SLOT_GRANT_APPLY (R664): A slot grant or release applies 16 Rounds after it was sent. -/
  | slotGrantApply (dt : Nat)
  /-- CL_DUPLICATE_REPORT (R656): CL_DUPLICATE is raised for duplicates counted, at most once per 800 Rounds. -/
  | clDuplicateReport (dt : Nat)
  /-- CL_PORT_DRIFT_SUSPECT (R672): 16 Rounds without an accepted frame make a port drift-suspect. -/
  | clPortDriftSuspect (dt : Nat) (port : Nat)
  /-- CL_TOLL_LOSS (R673): No qualifying Toll for P.CL_TOLL_LOSS Rounds enters holdover. -/
  | clTollLoss (dt : Nat)
  /-- CL_HOLDOVER_MAX_EXPIRY (R674): Holdover reaching P.CL_HOLDOVER_MAX runs the election without the Benchmark. -/
  | clHoldoverMaxExpiry (dt : Nat)
  /-- TOCSIN_ERROR_ARRIVAL (R682): An uncorrectable, timeout, clock, supply or injected error fills or merges into the record. -/
  | tocsinErrorArrival (dt : Nat) (errs : List ErrIn) (tHot : Int)
  /-- CORRECTABLE_ERROR (R686): A corrected error increments its region counter and may escalate or be logged. -/
  | correctableError (dt : Nat) (err : ErrIn)
  /-- FAULT_CORRECTED_REPORT (R686): At least 800 Rounds after the last report, a changed counter raises FAULT_CORRECTED. -/
  | faultCorrectedReport (dt : Nat)
  /-- WATCHDOG_EXPIRY (R681): A block's watchdog expires and raises a WATCHDOG error. -/
  | watchdogExpiry (dt : Nat) (region block : Nat)
  /-- LOCKSTEP_MISMATCH (R679): The two control cores disagree and raise a LOCKSTEP error. -/
  | lockstepMismatch (dt : Nat) (fetchAddr : Nat)
  /-- BUS_TIMEOUT (R679): A region transaction not completed in 256 cycles raises a BUS_TIMEOUT error. -/
  | busTimeout (dt : Nat) (region block master access addr : Nat)
  /-- HEARTBEAT (R694): Izosh sends its heartbeat to the always-on island every 8 Rounds. -/
  | heartbeat (dt : Nat)
  /-- HEARTBEAT_TIMEOUT (R694): 2 ms without heartbeat halts with class HEARTBEAT. -/
  | heartbeatTimeout (dt : Nat)
  /-- INJECTION_MISSED (R697): An injected error not reaching Tocsin in 100 µs halts with class INJECT_MISSED. -/
  | injectionMissed (dt : Nat)
  /-- ALIVE_TOGGLE (R693): Every 16,000 REFCLK cycles while booted and not halted ALIVE toggles. -/
  | aliveToggle (dt : Nat)
  /-- HALT_RESPONDER_PACKET (R692): In a halt, a queued packet is executed if FLT_READ, FLT_ACK or SYS_INFO, otherwise answered HALTED. -/
  | haltResponderPacket (dt : Nat)
  /-- FLT_READ (R699): Returns the first-error record and takes fault log entries. -/
  | fltRead (dt : Nat)
  /-- FLT_ACK (R700): Acknowledges the record into the log and clears counters as flagged. -/
  | fltAck (dt : Nat)
  /-- FLT_INJECT (R701): Injects a test or halting fault into a block. -/
  | fltInject (dt : Nat)
  /-- FLT_POLICY (R702): Sets the escalation threshold, window, correctable logging and halt permission. -/
  | fltPolicy (dt : Nat)
  /-- VDD_CORE_BROWN_OUT_RELEASE (R74): VDD_CORE rises above its brown-out threshold while RESET_N is already high, and the boot that was waiting under R74 begins. -/
  | vddCoreBrownOutRelease (dt : Nat)
  /-- RDS_BIT_LOCK_CHANGE (R419): An RDS stream unit becomes bit-locked when its timing error falls below 0.1 bit rms over 32 bits, or loses bit lock above 0.2 bit rms or after 24 bits of erasure. -/
  | rdsBitLockChange (dt : Nat) (ctx stream : Nat)
  /-- JTAG_INSTRUCTION (R243): An IEEE 1149.1 instruction shifted in on the TAP is offered or refused according to DEBUG_LOCK and any SEC_DEBUG_UNLOCK. -/
  | jtagInstruction (dt : Nat) (code : JtagInstr)
  /-- IO_BANK_SUPPLY_CHANGE (R707): An I/O bank supply comes into or leaves its operating range; on arrival the bank senses its level and sets 1.8 V or 3.3 V input thresholds, and below range its balls are undriven with pulls inactive. -/
  | ioBankSupplyChange (dt : Nat) (bank : Nat) (inRange is33 : Bool)
  /-- PORT_GROUP_BACK_IN_STEP (R570): A port group that was out of step returns in step after 16 consecutive frames whose slave frame starts lie within 2 BCLK periods of the leader's. -/
  | portGroupBackInStep (dt : Nat) (leader frames : Nat)
  /-- TW_BUS_START_STOP (R175): A START or STOP formed by another controller is seen on the two-wire bus, setting or clearing TW_STATUS.BUS_BUSY, and a STOP returns the target to idle and starts the tBUF wait for a free bus. -/
  | twBusStartStop (dt : Nat) (isStop : Bool)
deriving DecidableEq, Repr

end Sys2Proof
end

