-- ==== Sys2Proof/Decode.lean ====
section
/-!
DEFINITION. Reading a command from a word by the opcode table's bits. No row of spec/opcode_table.json gives bits (the
commands of this block are packets, port transactions and happenings), so no word spells a command.
-/
namespace Sys2Proof

/-- The command that a table word spells: none, because the table gives no row any bits. -/
def decodeTableWord (_nbits _w : Nat) : Option Instr := none

end Sys2Proof
end

