-- ==== Sys2Proof/Config.lean ====
section
/-!
DEFINITION. The values the spec leaves open. Each is a constant with no body, applied to a plain counter of the
state or to the operands it depends on, so that nothing can be proved of its value (notes/assumptions names each).
-/
namespace Sys2Proof.Config

/-- The on-die entropy source behind the boot nonce (08 text before R238): the n-th draw. -/
opaque entropy : Nat → BitVec 64

/-- Datum time when VDD_AON comes back after it was lost (03 R75 gives no start value): the n-th time. -/
opaque datumStart : Nat → Nat

/-- What a fuse byte gains when a halt or reset cuts its programming short (08 R235 leaves "the bits already set"
in place without saying which): a mask per draw and byte of the array (UNVERIFIED log 88). -/
opaque fusePart : Nat → Nat → Byte

/-- MASTER of an error for whose class the spec names no master (25 R679, R732): by class and address (UNVERIFIED log 78). -/
opaque faultMaster : Nat → Nat → Nat

/-- ACCESS of an error for whose class the spec names no access type (25 R679, R732): by class and address. -/
opaque faultAccess : Nat → Nat → Nat

/-- capture of FAULT_INJECT_DONE for an injected error that was counted as correctable and made no record, which 25 R703
does not state: by datum time. -/
opaque countedCapture : Nat → Nat

/-- BLOCK of a CE_ESCALATION error, which R687 places by region only: by region (UNVERIFIED log 79). -/
opaque escalationBlock : Nat → Nat

/-- DIE_REV of the die (03 R733: it varies with the die) (UNVERIFIED log 80). -/
opaque dieRev : Nat

/-- rom_rev of the ROM (03 R733: it varies with the ROM release). -/
opaque romRev : Nat

/-- power_state of SYS_INFO in a halt that began during boot, for which R94 lists no value (UNVERIFIED log 81). -/
opaque bootHaltPower : Nat

/-- Source bit of a check result's offer, which 19 names for no check result: by standard. -/
opaque checkSource : Nat → Nat

/-- cause of SPDIF_IN_LOST with state "valid", which R591 does not state (UNVERIFIED log 82). -/
opaque spdiValidCause : Nat

/-- The quotient of a division by a number, of a value, is rounded up where it is not whole: 24 R667 and R668 give no
rounding for values counted in 1/16 tick (UNVERIFIED log 83). -/
opaque roundsUp : Nat → Int → Bool

/-- Next port of this device's own row of CL_TOPOLOGY, which R654 does not state (UNVERIFIED log 84). -/
opaque selfPort : Nat

/-- What a 16-bit field of a Toll or of CL_TIME holds of a value that 16 bits cannot hold, which 24 R661 and R676 do not
state: by the value (UNVERIFIED log 86). -/
opaque narrowed : Int → Nat

/-- phase of CL_TIME while the Toll port has no measured offset, which 24 R676 does not state (UNVERIFIED log 87). -/
opaque noPhase : Nat

/-- hops of CL_TIME without a Toll port, which 24 R676 does not state. -/
opaque noHops : Nat

/-- Delay of a DAB or DRM demodulator in the total delay of CMB_STATUS, microseconds, which 16 and 17 do not state: by
standard (UNVERIFIED log 85). -/
opaque ofdmDelay : Nat → Nat

/-- Coefficients of the first two half-band stages of a segment down-converter at odd distances from the centre, Q1.17, which 11 R304
bounds only by their response: by stage (1, 2) and half the distance (UNVERIFIED log 130). -/
opaque segTap : Nat → Nat → Int

/-- Coefficients of the third stage, Q1.17, which carry the trim of the path's fractional delay (11 R308): by path (0 main, 1 L-band)
and tap (UNVERIFIED log 130). -/
opaque segTrimTap : Nat → Nat → Int

/-- Coefficients of a half-band stage of the filter engines at odd distances from the centre, Q1.17, which 12 R329 bounds only by their
response: by half the distance (UNVERIFIED log 130). -/
opaque slotTap : Nat → Int

/-- Coefficients h[t] of factory bank b, Q1.17, which 12 R332 bounds only by the response: by bank and tap (UNVERIFIED log 130). -/
opaque bankTap : Nat → Nat → Int

/-- Datum ticks from a write of C to its first segment sample, of which 12 R341 says at most 16: by draw (UNVERIFIED log 131). -/
opaque corrDelay : Nat → Nat

/-- Level in 0.1 dB that stands for no power at all, which 11 R313 and 14 R409 do not give (UNVERIFIED log 132). -/
opaque levelOfNothing : Int

/-- Angle of the complex number 0, in units of 2^-bits turns, which 12, 14 and 16 do not give: by the bits (UNVERIFIED log 83). -/
opaque angleOfZero : Nat → Int

/-- The device holds SDA low when a halt cuts off a controller transfer (02 R52 gives both cases): by draw. -/
opaque holdsSda : Nat → Bool

/-- Data bytes acknowledged and bytes read of a controller transfer when it is aborted in mid-transfer (06 R181, R186), which the
bus decides: by draw. -/
opaque busProgress : Nat → Nat × List (BitVec 8)

/-- What a division by a measured value gives where that value is 0, which the spec does not state: by the dividend
(UNVERIFIED log 134). -/
opaque overNothing : Int → Int

/-- Gain of the incoming side at sample k of a cross-fade of 64 samples, units of 2^-16, whose shape 14 R395 and R404 do not give
(UNVERIFIED log 134). -/
opaque crossFade : Nat → Int

/-- Gain of a ramp, units of 2^-16, whose shape 14 R393 and R413 do not give: by ramp (0 release, 1 fade to zero, counted from its end)
and datum ticks (UNVERIFIED log 134). -/
opaque rampShape : Nat → Nat → Int

/-- Coefficients of the channel filters, Q1.17, which 14 R395 and R406 bound only by their width: by standard, index and distance from
the centre in half samples (UNVERIFIED log 130). -/
opaque nbTap : Nat → Nat → Nat → Int

/-- Coefficients of the filters inside a narrowband channel, Q1.17: 0 the band of USN, 1 and 2 the low-passes of M and S, 3 and 4 the
decimation of FM and AM, 5 the pilot's low-pass; by filter and tap (UNVERIFIED log 130). -/
opaque nbFir : Nat → Nat → Int

/-- Coefficients of the filters for the edge bands of 14 R396 and R406, Q1.17: by standard and tap (UNVERIFIED log 130). -/
opaque edgeTap : Nat → Nat → Int × Int

/-- Coefficients b0, b1, b2 and the negative a1, a2 of the 40 Hz high-pass of 14 R403, units of 2^-24 (UNVERIFIED log 130). -/
opaque highPassCoef : Nat → Int

/-- Proportional and integral gain of a phase-locked loop, units of 2^-16, for which the spec gives a bandwidth and no gains: by loop
(0 pilot, 1 AM carrier, 2 RDS carrier, 3 RDS bit timing, 4 ratio of a sample-rate converter, 5-7 discipline of PLL_A by
P.CL_LOOP_BW) and lock (UNVERIFIED log 134). -/
opaque loopGain : Nat → Bool → Int × Int

/-- The median of 256 bins is the upper of the two middle ones, which 14 R404 leaves open (UNVERIFIED log 134). -/
opaque upperMedian : Bool

/-- What the parabola of 14 R404 fits: a measure of the bin's power (UNVERIFIED log 134). -/
opaque binMeasure : Nat → Int

/-- Factor from Gardner's detector to bits, units of 2^-16 bit, for which 15 R418 gives no scale (UNVERIFIED log 134). -/
opaque gardnerGain : Int

/-- Coefficients of the biphase matched filter of 15 R418, Q1.17: by tap (UNVERIFIED log 130). -/
opaque rdsMatch : Nat → Int

/-- Coefficients of the 63-tap low-pass of 15 R418, Q1.17: by distance from the centre in half samples (UNVERIFIED log 130). -/
opaque rdsTap : Nat → Int

/-- The phase reference symbol of EN 300 401 on carrier k, which 16 R442 calls known and does not give (PRESUMED log 43). -/
opaque dabPrs : Int → Int × Int

/-- The carrier of the i-th symbol of the frequency interleaving of EN 300 401, which 16 R447 names and does not give (PRESUMED log 43). -/
opaque dabCarrier : Nat → Int

/-- Coefficients of the 3/4 resampler of 17 R474, Q1.17: by output phase 0-2 and tap (UNVERIFIED log 130). -/
opaque resampleTap : Nat → Nat → Int

/-- Delay of that resampler, datum ticks, which 17 R474 calls fixed and does not give: by decimation exponent (UNVERIFIED log 137). -/
opaque resampleDelay : Nat → Nat

/-- What a cell of ES 201 980 carries, which 17 names and does not give (PRESUMED log 43): 0 nothing, 1 frequency, 2 time, 3 gain
reference, 4 FAC, 5 SDC, 6 MSC; by mode, occupancy, symbol of the frame and carrier. -/
opaque drmCell : Nat → Nat → Nat → Int → Nat

/-- The known value of a reference cell, units of 2^-16: by mode, symbol and carrier (PRESUMED log 43). -/
opaque drmRef : Nat → Nat → Int → Int × Int

/-- Coefficients of the time interpolation of 17 R483, Q1.17: by mode, filter 0-3 and distance in symbols (UNVERIFIED log 130). -/
opaque drmTimeTap : Nat → Nat → Int → Int

/-- Coefficients of its frequency interpolation, Q1.17: by mode, span in quarters of Tg and distance in carriers. -/
opaque drmFreqTap : Nat → Nat → Int → Int

/-- Doppler spread, 0.1 Hz, from the correlation of gain reference cells that follow each other on a carrier, units of 2^-16, for which
17 R483 and R498 give no formula: by mode (UNVERIFIED log 137). -/
opaque dopplerOf : Nat → Int → Nat

/-- Coefficients of the domain converters of 20 R559, Q1.17: by source rate in kHz and distance from the centre (UNVERIFIED log 130). -/
opaque domainTap : Nat → Nat → Int

/-- Coefficients of the interpolation of the blend buffer, Q1.17, which 19 R548 does not give: by the fraction of a sample in 2^-16 and
tap (UNVERIFIED log 130). -/
opaque blendTap : Nat → Nat → Int

/-- Coefficients of the sample-rate converter, Q1.17, which 20 R564 bounds only by its performance: by route rate, position in 2^-16
samples and tap (UNVERIFIED log 130). -/
opaque asrcTap : Nat → Nat → Nat → Int

/-- Coefficients that bring a mono sum to 8 kHz, Q1.17, which 19 R547 does not give: by tap (UNVERIFIED log 130). -/
opaque coarseTap : Nat → Int

/-- What an audio decoder makes of the spectrum of the last good frame with randomised signs, before the attenuation of 20 R558: by draw
and the last good frame. -/
opaque concealed : Nat → List (Int × Int) → List (Int × Int)

/-- Frames of IEC 60958 that a user-data message takes, and its user bits, which IEC 60958-3 gives and 20 R580 does not: by the text
(PRESUMED log 138). -/
opaque messageFrames : List (BitVec 8) → Nat

/-- The user bit of a subframe of such a message: by text, frame and subframe. -/
opaque messageBit : List (BitVec 8) → Nat → Bool → Bool

end Sys2Proof.Config
end

