-- ==== Sys2Proof/Machine/State.lean ====
section
/-!
DEFINITION. State as plain data: one structure per chapter of the spec, every field with its rule and its value at
reset (the field's default), and `State.reset`. A value at reset marked DESIGN CHOICE is the model's (the log entry
is named); every other is the spec's. Collections of a fixed number of like things are lists of that length.
-/
namespace Sys2Proof.Machine

/-- A complex integer: one value per rail. -/
structure Cx where
  /-- Real rail. -/
  re : Int := 0
  /-- Imaginary rail. -/
  im : Int := 0
deriving DecidableEq, Repr

/-- Who sent a packet, and who owns the system or a context (07 R204, R205): the SPI port, the two-wire port, or
one source device on the fabric. -/
inductive Iface where
  | spi
  | twoWire
  | fabric (device : Nat)
deriving DecidableEq, Repr

/-- The power states of 03 R86-R91, as SYS_STATUS.POWER reads them (05). -/
inductive PowerMode where
  | active
  | watch
  | sleep
  | boot
deriving DecidableEq, Repr

/-- How far the boot of 03 R80 has come. -/
inductive BootStage where
  | held        -- in reset (R74)
  | released    -- RESET_N seen high, boot begun
  | strapped    -- straps sampled (R57)
  | fused       -- fuse array read (R146)
  | pllLocked   -- PLL_A locked
  | sramDone    -- SRAM initialised
  | romDone     -- ROM check passed
  | done        -- BOOT_DONE raised
deriving DecidableEq, Repr

/-- The resets of 03 R74-R78, R92 and R97, by what they keep (R87). -/
inductive ResetKind where
  | aonLoss     -- VDD_AON fell (R75)
  | resetN      -- RESET_N low, or held by TEST_MODE (R78, R61)
  | restart     -- SYS_RESET scope 0x01
  | full        -- SYS_RESET scope 0x02
  | wake        -- the boot that ends SLEEP
deriving DecidableEq, Repr

/-- One I/O bank supply as the die senses it (02 R53, 26 R707). -/
structure IoBank where
  /-- The bank supply is within its operating range; 26 R707; reset true (03 R73), DESIGN CHOICE log 13. -/
  inRange : Bool := true
  /-- The bank senses 3.3 V rather than 1.8 V; 26 R707; reset true, DESIGN CHOICE log 3. -/
  is33 : Bool := true
deriving DecidableEq, Repr

/-- Supplies, pins, straps, boot and power states (chapters 02 and 03). -/
structure PowerSt where
  /-- VDD_AON is above its brown-out threshold; 03 R74; reset true (the device is powered), DESIGN CHOICE log 13. -/
  aonOk : Bool := true
  /-- VDD_CORE is above its brown-out threshold; 03 R74; reset true, DESIGN CHOICE log 13. -/
  coreOk : Bool := true
  /-- RESET_N as the glitch filter and synchroniser show it; 03 R77; reset false (held low), DESIGN CHOICE log 13. -/
  resetN : Bool := false
  /-- Level of TEST_MODE; 02 R61; reset false (tied to VSS), DESIGN CHOICE log 13. -/
  testMode : Bool := false
  /-- REFCLK runs; 04 R102; reset true, DESIGN CHOICE log 13. -/
  refclk : Bool := true
  /-- The always-on island counts from its RC oscillator until reset; 04 R103, 25 R685; reset false, DESIGN CHOICE log 13. -/
  onRc : Bool := false
  /-- VDDIO_H; 26 R707. -/
  bankH : IoBank := {}
  /-- VDDIO_A; 26 R707. -/
  bankA : IoBank := {}
  /-- VDDA_18; 02 R53. -/
  bank18 : IoBank := {}
  /-- VDDA_RF, the bank of the RF balls; 02 R51, R53. -/
  bankRf : IoBank := {}
  /-- VDD_SER, the bank of the fabric lanes; 02 R51, R53. -/
  bankSer : IoBank := {}
  /-- Level of FUSE_EN; 02 R62; reset false, DESIGN CHOICE log 13. -/
  fuseEn : Bool := false
  /-- VPP_FUSE lies within 1.71-1.89 V; 08 R234; reset false (R56 holds it at 0 V), DESIGN CHOICE log 13. -/
  vppOk : Bool := false
  /-- Boot stage; 03 boot table; reset held. -/
  stage : BootStage := .held
  /-- Datum time at which the boot now running began; 03 R80; reset 0, DESIGN CHOICE log 12. -/
  bootAt : Nat := 0
  /-- SYS_STATUS.POWER; 05; reset 0b11 boot. -/
  mode : PowerMode := .boot
  /-- Datum time at which the synchroniser saw RESET_N high, from which the straps' 32 REFCLK edges count; 02 R57; reset 0,
  DESIGN CHOICE log 12. -/
  seenHighAt : Nat := 0
  /-- Sampled HOST_SEL (1 bit); 02 R57, R58; reset 0 (an open strap reads low, R60), DESIGN CHOICE log 13. -/
  hostSel : Bool := false
  /-- Sampled TW_ADDR (3 bits); 02 R57, R58; reset 0 (R60), DESIGN CHOICE log 13. -/
  twAddr : BitVec 3 := 0
  /-- RESET_N has been low since the straps were sampled, so the next boot samples them; 02 R59; reset true. -/
  sampleStraps : Bool := true
  /-- boot_cause (8 bits); 03 R94; reset 0. -/
  bootCause : Nat := 0
  /-- Boot causes met since the previous boot, the lowest is reported; 03 R94; reset [0x01] (power-on), DESIGN CHOICE log 13. -/
  causes : List Nat := [1]
  /-- Scope and due time of an accepted SYS_RESET; 03 R97; reset none. -/
  resetDue : Option (Nat × Nat) := none
  /-- When the OK reply of SYS_POWER SLEEP became ready; 03 R89, R728; reset none. -/
  sleepSince : Option Nat := none
  /-- The packet that woke the device, with its interface; 03 R92; reset none. -/
  wakeHeld : Option (Iface × List Byte) := none
  /-- The held packet is only a header with param_len above 1,024; 03 R92; reset false. -/
  wakeHeaderOnly : Bool := false
  /-- t_hot, s16 in 0.125 °C; 03 R98; reset 200 (25 °C), DESIGN CHOICE log 4. -/
  tHot : Int := 200
  /-- t_avg, s16 in 0.125 °C; 03 R98; reset 200, DESIGN CHOICE log 4. -/
  tAvg : Int := 200
  /-- Highest t_hot since reset; 03 R98; reset the lowest 16-bit number (no reading yet; every reading replaces it), DESIGN CHOICE
  log 4. -/
  tMax : Int := -32768
  /-- The thermal warning is active; 03 R99; reset false. -/
  thermal : Bool := false
  /-- JTAG instruction last shifted in and whether it was offered; 08 R243; reset none. -/
  jtag : Option (JtagInstr × Bool) := none
deriving DecidableEq, Repr

/-- PLL_A's state (04 R108, R128; 24). -/
inductive PllAState where
  | stopped
  | locked
  | disciplined
  | holdover
deriving DecidableEq, Repr

/-- A change of the demodulation clock under way (04 R114). -/
structure PlanChange where
  /-- Plan being moved to, 0-2. -/
  plan : Nat
  /-- Acquisition attempt, 1-3 (R116). -/
  attempt : Nat
  /-- Started by CLK_SPUR_PLAN rather than automatically. -/
  host : Bool
  /-- The crossing hold is asserted (step 3 begun). -/
  holding : Bool
  /-- Datum time at which the attempt began. -/
  since : Nat
deriving DecidableEq, Repr

/-- Clock generators (chapter 04). -/
structure ClockSt where
  /-- PLL_A; 04 R104, R128; reset stopped (it locks in the boot). -/
  pllA : PllAState := .stopped
  /-- PLL_A relative to 32 × REFCLK, s32 ppb; 04 R128; reset 0, DESIGN CHOICE log 12. -/
  pllAOffset : Int := 0
  /-- Live PLL_D instance, 0 or 1; 04 R110; reset 0. -/
  plldLive : Nat := 0
  /-- Live spur plan, 0-2; 04 R110; reset 1. -/
  planLive : Nat := 1
  /-- Plan change in progress; 04 R114; reset none. -/
  change : Option PlanChange := none
  /-- Round of the last change started by Traverse or the host; 04 R117; reset none. -/
  lastChange : Option Nat := none
  /-- last_switch, u32; 04 R128; reset 0. -/
  lastSwitch : Nat := 0
  /-- plan_changes, u16 saturating; 04 R128; reset 0. -/
  planChanges : Nat := 0
  /-- plan_failures, u16 saturating; 04 R116, R128; reset 0. -/
  planFailures : Nat := 0
  /-- CLK_AUDIO mode, 0-3; 04 R125; reset 0 (free-run). -/
  audMode : Nat := 0
  /-- CLK_AUDIO rate, 0-3; 04 R125; reset 2 (48 kHz). -/
  audRate : Nat := 2
  /-- CLK_AUDIO ref_port, 0-3; 04 R125; reset 0. -/
  refPort : Nat := 0
  /-- CLK_AUDIO mclk_ratio, 0-1; 04 R125; reset 0. -/
  mclkRatio : Nat := 0
  /-- aud_state, 0-4; 04 R128; reset 0. -/
  audState : Nat := 0
  /-- PLL_AUD delivers clocks (locked, coasting included); 04 R104, R105; reset false until the boot's 1.5 ms. -/
  audOn : Bool := false
  /-- When a CLK_AUDIO change or relock gates PLL_AUD's outputs; 04 R126; reset none. -/
  audSince : Option Nat := none
  /-- A CLK_AUDIO has not completed; 04 R126; reset false. -/
  audPending : Bool := false
  /-- Datum times of the reference's edge faults in its last 64 expected periods, newest first; 04 R122; reset none. -/
  refFaults : List Nat := []
  /-- ref_losses, u16 saturating; 04 R128; reset 0. -/
  refLosses : Nat := 0
  /-- edge_faults, u16 saturating; 04 R122; reset 0. -/
  edgeFaults : Nat := 0
  /-- aud_ref_offset, s32 ppm; 04 R128; reset 0. -/
  refOffset : Int := 0
  /-- PLL_F runs and is locked; 04 R104, R128; reset false. -/
  pllF : Bool := false
  /-- PLL_F started at, until its lock; 04 "Other generators"; reset none. -/
  pllFSince : Option Nat := none
  /-- syn0 of CLK_STATUS, 0-2; 04 R128; reset 0. -/
  syn0 : Nat := 0
  /-- syn1 of CLK_STATUS, 0-2; 04 R128; reset 0. -/
  syn1 : Nat := 0
deriving DecidableEq, Repr

/-- The registers of the direct window that the host writes (chapter 05). -/
structure RegSt where
  /-- IRQ_STATUS0-3; 05 R148; reset 0. -/
  irqStatus : BitVec 128 := 0
  /-- IRQ_ENABLE0-3; 05 R148; reset 0x18. -/
  irqEnable : BitVec 128 := 0x18
  /-- IRQ_ROUTE; 05 R149; reset 0x0000_0001. -/
  irqRoute : BitVec 32 := 1
  /-- SYS_STATUS bits 20:16, RWS; 05 R147; reset 0. -/
  sysRws : BitVec 5 := 0
  /-- TW_CFG bits 8:0; 05; reset GLITCH 2, TARGET_EN 1, TIMEOUT_EN 1. -/
  twCfg : BitVec 9 := 0x112
  /-- TW_STATUS bits 4:2, RWS: ARB_LOST, TARGET_TIMEOUT, RECOVERED; 05 R147; reset 0. -/
  twRws : BitVec 3 := 0
  /-- TW_STATUS.NACK_COUNT, saturating at 511; 05, 06 R168; reset 0. -/
  nackCount : Nat := 0
  /-- Number of the REFCLK edge on which the device last set bits of IRQ_STATUS, SYS_STATUS or TW_STATUS; 05 R147, R148; reset 0,
  DESIGN CHOICE log 12. -/
  setEdge : Nat := 0
  /-- IRQ_STATUS bits set on that edge; 05 R148; reset 0. -/
  irqNew : BitVec 128 := 0
  /-- SYS_STATUS RWS fields set on that edge; 05 R147; reset 0. -/
  sysNew : BitVec 5 := 0
  /-- TW_STATUS RWS fields set on that edge; 05 R147; reset 0. -/
  twNew : BitVec 3 := 0
  /-- TIME_HI as a read of TIME_LO latched it; 05 R151; reset none (no read yet). -/
  timeHi : Option Word := none
  /-- TW_ALERT_N released by a won alert response; 06 R174; reset false. -/
  alertAcked : Bool := false
  /-- Bytes the device drove in the last SPI transaction; 05 R136-R143; reset none driven, DESIGN CHOICE log 12. -/
  spiOut : List Byte := []
deriving DecidableEq, Repr

/-- The two-wire target (chapter 06). -/
structure TwSt where
  /-- Pointer, 16 bits; 06 R159, R162; reset 0. -/
  pointer : Nat := 0
  /-- Command mailbox bytes assembled, at most 1,046; 06 R165; reset none. -/
  box : List Byte := []
  /-- Pending packet; 06 R168; reset none. -/
  waiting : Option (List Byte) := none
  /-- TW_STATUS.BUS_BUSY; 05; reset false. -/
  busBusy : Bool := false
  /-- Datum time of the last STOP seen; 06 R175; reset none. -/
  lastStop : Option Nat := none
  /-- Data bytes acknowledged in the last write transfer, none where the address was not acknowledged; 06 R155;
  reset none, DESIGN CHOICE log 12. -/
  acked : Option Nat := none
  /-- Bytes sent in the last read transfer; 06 R164-R172; reset none, DESIGN CHOICE log 12. -/
  sent : List Byte := []
deriving DecidableEq, Repr

/-- A controller transfer: its parameters (06 R184), and the input whose EEPROM it reads when it is internal. -/
structure TwcReq where
  /-- 7-bit target address. -/
  addr : Nat
  /-- flags, bits 1:0. -/
  flags : Nat
  /-- Bytes to write. -/
  wr : List Byte
  /-- Bytes to read. -/
  rdLen : Nat
  /-- The input whose identity EEPROM is read (09 R273), none for a host transfer. -/
  input : Option Nat
deriving DecidableEq, Repr

/-- The two-wire controller (chapter 06). -/
structure TwcSt where
  /-- state of TWC_STATUS, 0-4; 06 R186; reset 0. -/
  state : Nat := 0
  /-- result of TWC_STATUS; 06 R186; reset 0. -/
  result : Nat := 0
  /-- Number of the last transfer, u16; 06 R184; reset 0. -/
  xfer : Nat := 0
  /-- Transfer in progress; 06 R184; reset none. -/
  req : Option TwcReq := none
  /-- Attempts begun of the transfer; 06 R179; reset 0, DESIGN CHOICE log 12. -/
  attempts : Nat := 0
  /-- arb_losses; 06 R186; reset 0. -/
  arbLosses : Nat := 0
  /-- wr_done; 06 R186; reset 0. -/
  wrDone : Nat := 0
  /-- Bytes read; 06 R186; reset none. -/
  rdData : List Byte := []
  /-- cause of the recovery running: 0 TWC_RECOVER, 1 abort of R181; 06 R187; reset 0, DESIGN CHOICE log 12. -/
  recCause : Nat := 0
  /-- When the present wait, transfer or recovery began; 06 R175, R180, R182; reset 0, DESIGN CHOICE log 12. -/
  since : Nat := 0
deriving DecidableEq, Repr

/-- A packet in a command queue with the datum time at which it became complete (07 R193). -/
structure QPkt where
  /-- Sender. -/
  src : Iface
  /-- Datum time of completion. -/
  doneAt : Nat
  /-- The packet's bytes (R188). -/
  bytes : List Byte
  /-- Command serial of a fabric packet (23), 0 otherwise. -/
  serial : Nat := 0
deriving DecidableEq, Repr

/-- One entry of a repeat cache (07 R198). -/
structure CacheEntry where
  /-- Tag of the packet. -/
  tag : Nat
  /-- CRC of the packet. -/
  crc : Nat
  /-- The reply sent. -/
  reply : List Byte
deriving DecidableEq, Repr

/-- One record of Q4 with the ports that still have to take it (07 R221). -/
structure EvtRec where
  /-- The 64 bytes of R191. -/
  bytes : List Byte
  /-- Still to be taken by EVT_PULL. -/
  forSpi : Bool
  /-- Still to be taken through the event mailbox. -/
  forTw : Bool
deriving DecidableEq, Repr

/-- A packet that Izosh has taken: its header fields, parameters and sender (07 R188, R194). -/
structure Req where
  /-- Opcode. -/
  opcode : Nat
  /-- Tag. -/
  tag : Nat
  /-- flags. -/
  flags : Nat
  /-- ctx. -/
  ctx : Nat
  /-- The reserved header byte. -/
  rsv : Nat
  /-- Parameters. -/
  params : List Byte
  /-- Sender. -/
  src : Iface
  /-- Sequence index. -/
  seq : Nat
  /-- The packet's CRC. -/
  crc : Nat
  /-- Command serial of a fabric packet. -/
  serial : Nat := 0
deriving DecidableEq, Repr

/-- One accepted PROP_SET waiting for its boundary (07 R213). -/
structure PropSet where
  /-- 0xFF for system properties, else the context. -/
  ctx : Nat
  /-- Identifiers and values. -/
  entries : List (Nat × Int)
  /-- Datum time of the boundary at which it applies. -/
  due : Nat
deriving DecidableEq, Repr

/-- Command protocol, queues, events and properties (chapter 07). -/
structure ProtoSt where
  /-- Q0, SPI commands, 8 KiB; 07 R223; reset empty. -/
  q0 : List QPkt := []
  /-- Q2, two-wire commands, 8 KiB; 07 R223; reset empty. -/
  q2 : List QPkt := []
  /-- Q5, fabric commands, 8 KiB; 07 R223; reset empty. -/
  q5 : List QPkt := []
  /-- Q1, SPI replies, 16 KiB; 07 R223; reset empty. -/
  q1 : List (List Byte) := []
  /-- Q3, two-wire replies, 16 KiB; 07 R223; reset empty. -/
  q3 : List (List Byte) := []
  /-- Q4, at most 256 event records; 07 R220, R223; reset empty. -/
  q4 : List EvtRec := []
  /-- Sequence index of the packet taken last, u32; 07 R194; reset 0, DESIGN CHOICE log 12. -/
  seq : Nat := 0
  /-- Sequence index of the last reply that became ready; 05 LAST_SEQ, 25 R691; reset 0. -/
  lastReady : Nat := 0
  /-- Repeat caches, newest first, at most 8 each; 07 R198, R200; reset empty. -/
  caches : List (Iface × List CacheEntry) := []
  /-- Reply queue (1 or 3) on which the stream waits, and since when; 07 R197; reset none. -/
  waitOn : Option (Nat × Nat) := none
  /-- Replies discarded from Q1 and from Q3 since boot, saturating; 07 R227; reset 0, 0. -/
  replyDrops : Nat × Nat := (0, 0)
  /-- System owner; 07 R204; reset SPI (HOST_SEL low), DESIGN CHOICE log 13. -/
  owner : Iface := .spi
  /-- The system owner was removed from the route table; it passes at the next boundary; 07 R208; reset false. -/
  ownerGone : Bool := false
  /-- EVT_ROUTE delivery of each of the 128 sources, 2 bits each; 07 R222; reset nowhere until boot. -/
  deliver : List Nat := List.replicate 128 0
  /-- Event index of the next record, u16; 07 R219; reset 0, DESIGN CHOICE log 12. -/
  evtIndex : Nat := 0
  /-- A command whose reply waits for its end (fuse programming, CL_STREAM_OPEN); 07 R195; reset none. -/
  running : Option Req := none
  /-- System properties that differ from their defaults; 07 R210; reset none. -/
  props : List (Nat × Int) := []
  /-- Per open context, its properties that differ from their defaults; 07 R210; reset none. -/
  ctxProps : List (Nat × List (Nat × Int)) := []
  /-- Replies to fabric commands handed to the fabric: device, command serial, reply bytes; 07 R196, 23; reset none. -/
  fabricOut : List (Nat × Nat × List Byte) := []
  /-- Accepted PROP_SET lists not yet applied, in index order; 07 R213; reset none. -/
  staged : List PropSet := []
deriving DecidableEq, Repr

/-- Authentication state of one interface (08 R238). -/
structure IfaceSec where
  /-- The interface. -/
  iface : Iface
  /-- Last accepted counter, u32. -/
  last : Nat := 0
  /-- Consecutive failures, 0-8. -/
  failures : Nat := 0
  /-- Critical commands answer LOCKED. -/
  locked : Bool := false
deriving DecidableEq, Repr

/-- A firmware image being loaded (08 R245). -/
structure PatchJob where
  /-- Image length in bytes. -/
  total : Nat
  /-- Revision of the patch. -/
  rev : Nat
  /-- CRC-32 the image must have. -/
  crc : Nat
  /-- Bytes loaded so far. -/
  image : List Byte
deriving DecidableEq, Repr

/-- A fuse span being programmed (08 R235). -/
structure FuseJob where
  /-- First byte of the span. -/
  offset : Nat
  /-- Bits to set. -/
  data : List Byte
  /-- FUSE_EN fell or VPP_FUSE left its range meanwhile. -/
  stopped : Bool := false
deriving DecidableEq, Repr

/-- The fuse array as it leaves Helmisar (08 R229, R237) with a unique ID of zero: a TSY-4880 of grade A2. The trim
area 0x44-0xFF is never readable. The identity is DESIGN CHOICE log 5. -/
def factoryFuses : List Byte :=
  List.replicate 8 0 ++ [0x80, 0x48, 0x00, 0x1F] ++ [0x00, 0x08, 0, 0, 0, 0, 0, 0x80]
    ++ List.replicate 46 0 ++ [0x00, 0xFF] ++ List.replicate 188 0

/-- Fuses and command authentication (chapter 08). -/
structure SecSt where
  /-- The fuse array as it stands now, 256 bytes; 08 R229, R230; reset factoryFuses. -/
  fuses : List Byte := factoryFuses
  /-- The fuse array as this boot read it; 08 R231, 05 R146; reset not read. -/
  fuseRead : List Byte := []
  /-- Boot nonce, 64 bits; 08 R237 text; reset 0 until a boot draws it. -/
  nonce : BitVec 64 := 0
  /-- Authentication state per interface that has any; 08 R238; reset none. -/
  ifaces : List IfaceSec := []
  /-- SEC_DEBUG_UNLOCK scope in force, 2 bits; 08 R244; reset 0. -/
  unlock : BitVec 2 := 0
  /-- Fuse programming in progress; 08 R235; reset none. -/
  job : Option FuseJob := none
  /-- Patch begin in force; 08 R245; reset none. -/
  patch : Option PatchJob := none
  /-- Committed patch waiting for its Round boundary; 08 R245; reset none. -/
  committed : Option PatchJob := none
  /-- Revision of the running patch, 0 none; 03 R94, 08 R245; reset 0. -/
  patchRev : Nat := 0
deriving DecidableEq, Repr

/-- The first-error record (25 R682, R683; 05 Tocsin mirror). -/
structure FaultRec where
  /-- VALID. -/
  valid : Bool := false
  /-- HALTED. -/
  halted : Bool := false
  /-- INJECTED. -/
  injected : Bool := false
  /-- REAL. -/
  real : Bool := false
  /-- LEVEL, 0-3. -/
  level : Nat := 0
  /-- CLASS. -/
  cls : Nat := 0
  /-- MERGE_COUNT, u16 saturating. -/
  merge : Nat := 0
  /-- REGION, 0-4. -/
  region : Nat := 0
  /-- BLOCK. -/
  block : Nat := 0
  /-- MASTER. -/
  master : Nat := 0
  /-- ACCESS, 0-6. -/
  access : Nat := 0
  /-- ADDR, u32. -/
  addr : Nat := 0
  /-- MERGED_CLASSES. -/
  merged : BitVec 32 := 0
  /-- Datum time of the first error. -/
  time : Nat := 0
  /-- HALT_TEMP, s16. -/
  haltTemp : Int := 0
  /-- LAST_SEQ. -/
  lastSeq : Nat := 0
  /-- Capture number, u16. -/
  capture : Nat := 0
  /-- detail of FLT_READ. -/
  detail : Nat := 0
deriving DecidableEq, Repr

/-- An FLT_INJECT that has not completed (25 R701). -/
structure Injection where
  /-- kind, 1-9. -/
  kind : Nat
  /-- region. -/
  region : Nat
  /-- block. -/
  block : Nat
  /-- mode, 0-1. -/
  mode : Nat
  /-- addr. -/
  addr : Nat
  /-- Datum time of the injection. -/
  since : Nat
deriving DecidableEq, Repr

/-- FLT_POLICY (25 R702). -/
structure FltPolicy where
  /-- threshold T. -/
  threshold : Nat := 0
  /-- window W, Rounds. -/
  window : Nat := 0
  /-- log_ce. -/
  logCe : Bool := false
  /-- allow_halt. -/
  allowHalt : Bool := false
deriving DecidableEq, Repr

/-- Tocsin, ALIVE and the fault log (chapter 25). -/
structure TocsinSt where
  /-- SYS_STATUS.HALTED; 25 R689; reset false. -/
  halted : Bool := false
  /-- The first-error record; 25 R682; reset all zero. -/
  rcd : FaultRec := {}
  /-- Capture number of the last record filled, u16; 25 R682; reset 0. -/
  captures : Nat := 0
  /-- CE_RF, CE_FE, CE_DEMOD, CE_SVC, CE_LINK, u16 saturating; 25 R686; reset 0. -/
  ce : List Nat := [0, 0, 0, 0, 0]
  /-- Increments per region since FAULT_CORRECTED was last raised, saturating; 25 R703; reset 0. -/
  ceNew : List Nat := [0, 0, 0, 0, 0]
  /-- Correctable errors since reset, u32; 25 R703; reset 0. -/
  ceTotal : Nat := 0
  /-- Round at which FAULT_CORRECTED was last raised; 25 R686; reset none. -/
  ceReported : Option Nat := none
  /-- Correctable errors per region in the present window; 25 R687; reset 0. -/
  ceWindow : List Nat := [0, 0, 0, 0, 0]
  /-- The first window of the policy in force has begun; 25 R702; reset false. -/
  windowOpen : Bool := false
  /-- Regions already logged in this Round; 25 R698; reset none. -/
  ceLogged : List Nat := []
  /-- Policy in force; 25 R702; reset all 0. -/
  policy : FltPolicy := {}
  /-- Policy accepted last, acted on by FLT_INJECT from acceptance; 25 R702; reset all 0. -/
  nextPolicy : FltPolicy := {}
  /-- Boundary at which the accepted policy applies; 25 R702; reset none. -/
  policyDue : Option Nat := none
  /-- Q7, at most 64 entries of 64 bytes; 25 R698; reset empty. -/
  q7 : List (List Byte) := []
  /-- log_drops, u16 saturating; 25 R698; reset 0. -/
  logDrops : Nat := 0
  /-- Injection that has not completed; 25 R701; reset none. -/
  inject : Option Injection := none
  /-- Level of ALIVE; 25 R693; reset low. -/
  alive : Bool := false
  /-- Datum time of the last ALIVE edge or of BOOT_DONE; 25 R693; reset 0, DESIGN CHOICE log 12. -/
  aliveAt : Nat := 0
  /-- Datum time of the last heartbeat; 25 R694; reset 0, DESIGN CHOICE log 12. -/
  beatAt : Nat := 0
  /-- Words marked poisoned: region, block and address; 01 R43; reset none. -/
  poisoned : List (Nat × Nat × Nat) := []
deriving DecidableEq, Repr

/-! ## Chapter 11: segments -/

/-- One segment sample (11 R305, R307). -/
structure SegSample where
  /-- Mantissa, 16 + 16 bits. -/
  m : Cx
  /-- Exponent E. -/
  e : Int
  /-- The mantissa saturated. -/
  sat : Bool := false
  /-- A clipped ADC sample lies in the filter span. -/
  clipped : Bool := false
deriving DecidableEq, Repr

/-- The down-converter of one segment (11 R303-R308). -/
structure SegDsp where
  /-- 32-bit mixer phase; R303; reset 0, DESIGN CHOICE log 12. -/
  phase : Nat := 0
  /-- Mixed ADC samples, scaled by c, newest first; R304, R305, R308; reset none, read as zero. -/
  line : List Cx := []
  /-- Outputs of the first half-band stage, newest first; R304; reset none. -/
  mid : List Cx := []
  /-- Outputs of the second half-band stage, newest first; R304; reset none. -/
  low : List Cx := []
  /-- Gain settings in force, each with the first datum tick of it, newest first: half decibels of c; R305, R307; reset none. -/
  gains : List (Nat × Int) := []
  /-- Datum tick of the last clipped ADC sample; R307; reset none. -/
  clipAt : Option Nat := none
deriving DecidableEq, Repr

/-! ## Chapter 09: RF inputs -/

/-- State of an input (09 R264). -/
inductive InputMode where
  | off
  | starting
  | calibrating
  | live
deriving DecidableEq, Repr

/-- State of an L-band converter (09 R278); the two switching states carry their boundary. -/
inductive LbandMode where
  | off
  | switchingOn (due : Nat)
  | on
  | switchingOff (due : Nat)
deriving DecidableEq, Repr

/-- Where an external amplifier sequence stands (09 R270, R271). -/
inductive XampStage where
  | toStart (due : Nat)      -- waits for the Round boundary after acceptance
  | settling                 -- AXn_PWR high, P.XAMP_SETTLE runs
  | reading                  -- identity EEPROM read queued or running
  | toFinish (due : Nat)     -- waits for the last Round boundary
  | offDelay (since : Nat)   -- the 8 Rounds before AXn_PWR falls
  | retryWait (since : Nat)  -- the second after a supply cut
deriving DecidableEq, Repr

/-- The sequences of 09 R271. -/
inductive XampKind where
  | on (bypassed : Bool)
  | bypassChange (bypassed : Bool)
  | off
deriving DecidableEq, Repr

/-- An external amplifier sequence in progress. -/
structure XampSeq where
  /-- Which sequence. -/
  kind : XampKind
  /-- Where it stands. -/
  stage : XampStage
deriving DecidableEq, Repr

/-- External amplifier and antenna supply of one input (09 R269-R273). -/
structure XampSt where
  /-- AXn_PWR; 02 R51; reset low. -/
  pwr : Bool := false
  /-- AXn_BYP; 02 R51; reset high. -/
  byp : Bool := true
  /-- Datum time at which AXn_PWR rose; 09 R269; reset 0, DESIGN CHOICE log 12. -/
  pwrAt : Nat := 0
  /-- P.XAMP_INRUSH and P.XAMP_SETTLE as the sequence took them, ms; 09 R279; reset 0, 0, DESIGN CHOICE log 12. -/
  times : Nat × Nat := (0, 0)
  /-- P.XAMP_INRUSH has elapsed since AXn_PWR rose; 09 R269; reset false. -/
  inrushOver : Bool := false
  /-- P.XAMP_SETTLE has elapsed since AXn_PWR rose; 09 R269; reset false. -/
  settled : Bool := false
  /-- Sequence in progress; 09 R271; reset none. -/
  seqn : Option XampSeq := none
  /-- Faulted; 09 R270; reset false. -/
  faulted : Bool := false
  /-- Retries used since the last "on"; 09 R277; reset 0. -/
  retries : Nat := 0
  /-- The "on" sequence last started: bypassed or not; 09 R270; reset none. -/
  lastOn : Option Bool := none
  /-- Class last decided, 0-3; 09 R269, R277; reset 0 (normal), DESIGN CHOICE log 12. -/
  cls : Nat := 0
  /-- Consecutive samples at or above P.XAMP_OC_MV; 09 R269; reset 0. -/
  ocRun : Nat := 0
  /-- Consecutive samples below P.XAMP_OPEN_MV; 09 R269; reset 0. -/
  openRun : Nat := 0
  /-- Consecutive samples in no other class; 09 R269; reset 0. -/
  okRun : Nat := 0
  /-- sns_mv; 09 R277; reset 0, DESIGN CHOICE log 9. -/
  sns : Nat := 0
  /-- sns_min since clear, none without a sample, read as 0; 09 R277; reset none. -/
  snsMin : Option Nat := none
  /-- sns_max since clear, none without a sample, read as 0; 09 R277; reset none. -/
  snsMax : Option Nat := none
  /-- Identity EEPROM address, 0 none; 09 R277; reset 0. -/
  eepAddr : Nat := 0
  /-- eeprom_state, 0-4; 09 R277; reset 0. -/
  eepState : Nat := 0
  /-- Identity EEPROM bytes, 32; 09 R277; reset none. -/
  eep : List Byte := []
deriving DecidableEq, Repr

/-- One RF input (09 R246-R268). -/
structure InputSt where
  /-- off, starting, calibrating or live; 09 R264; reset off. -/
  mode : InputMode := .off
  /-- Boundary at which a starting input goes live; 09 R264; reset none. -/
  liveDue : Option Nat := none
  /-- Boundary at which a disabled input is withdrawn; 09 R266; reset none. -/
  offDue : Option Nat := none
  /-- The internal isolation switch is closed, so that the antenna reaches the path; 09 R246, R247, 02 R51; reset false (open). -/
  iso : Bool := false
  /-- AGC mode: 0 auto, 1 hold, 2 manual; 09 R261; reset 0. -/
  agcMode : Nat := 0
  /-- Main gain g, half dB, -72 to 48; 09 R249; reset -72, DESIGN CHOICE log 9. -/
  g : Int := -72
  /-- L-band gain lbg, dB, 0-30; 09 R252; reset 0, DESIGN CHOICE log 9. -/
  lbg : Nat := 0
  /-- FE_AGC accepted for the next window: mode, g, lbg; 09 R275; reset none. -/
  agcNext : Option (Nat × Int × Nat) := none
  /-- low(main), windows; 09 R258; reset 0. -/
  lowMain : Nat := 0
  /-- low(lb), windows; 09 R258; reset 0. -/
  lowLb : Nat := 0
  /-- The start ramp of the main loop runs; 09 R262; reset false. -/
  rampMain : Bool := false
  /-- The start ramp of the L-band loop runs; 09 R262; reset false. -/
  rampLb : Bool := false
  /-- Windows since the last window with a clipped sample; 09 R258; reset 8, DESIGN CHOICE log 12. -/
  sinceClip : Nat := 8
  /-- det_main of the last window, 0.1 dBFS; 09 R277; reset none. -/
  detMain : Option Int := none
  /-- det_lb of the last window, 0.1 dBFS; 09 R277; reset none. -/
  detLb : Option Int := none
  /-- overload_windows, u32 saturating; 09 R277; reset 0. -/
  overloads : Nat := 0
  /-- clip_samples, u32 saturating; 09 R277; reset 0. -/
  clips : Nat := 0
  /-- Overload windows since AGC_OVERLOAD was last raised, u16; 09 R260; reset 0. -/
  newOverloads : Nat := 0
  /-- Datum time at which AGC_OVERLOAD was last raised; 09 R260; reset none. -/
  overAt : Option Nat := none
  /-- Windows for which g was held at P.AGC_MIN_GAIN with e above hyst; 09 R260; reset 0. -/
  minHeld : Nat := 0
  /-- L-band converter; 09 R252, R278; reset off. -/
  lband : LbandMode := .off
  /-- External amplifier. -/
  amp : XampSt := {}
deriving DecidableEq, Repr

/-- The RF inputs and SYN0 (chapter 09). -/
structure RfSt where
  /-- Inputs 0-3. -/
  inputs : List InputSt := List.replicate 4 {}
  /-- Inputs whose identity EEPROM read waits for the controller, first in first out; 09 R273; reset none. -/
  eepQueue : List Nat := []
  /-- SYN0 has lost lock and the boundary from which segments n.3 deliver zeros; 09 R255; reset none. -/
  loLost : Option Nat := none
  /-- SYN0 locked again; segments n.3 carry signal from this boundary; 09 R255; reset none. -/
  loBack : Option Nat := none
  /-- Attempts of the SYN0 re-acquisition, 0 when none runs; 09 R255; reset 0. -/
  syn0Attempt : Nat := 0
  /-- Datum time at which the present SYN0 start or attempt began; 09 R254, R255; reset 0, DESIGN CHOICE log 12. -/
  syn0Since : Nat := 0
  /-- Converters on at the loss, 4 bits; 09 R281; reset 0, DESIGN CHOICE log 12. -/
  syn0Lost : Nat := 0
  /-- The down-converters of segments 4i + n; 11 R302; reset cleared. -/
  segs : List SegDsp := List.replicate 16 {}
deriving DecidableEq, Repr


/-! ## Chapter 10: calibration -/

/-- Calibration values in use for one input (10 R290): the record's fields that the values hold. -/
structure CalVals where
  /-- Unique ID of the device that calibrated, 8 bytes. -/
  uid : List Byte
  /-- t_cal, s16, 0.125 °C. -/
  tCal : Int
  /-- Pairs used. -/
  pairs : Nat
  /-- Skew, threshold, offset and gain of the eight sub-converters: bytes 16-63 of the record. -/
  trims : List Byte
  /-- cal_time. -/
  time : Nat
deriving DecidableEq, Repr

/-- How a run of one input ends (10 R284, R285). -/
inductive CalOutcome where
  | agreed (pairs : Nat) (vals : CalVals)
  | disagree
  | rejected (pass : Nat) (residue : Int) (fRes : Nat)
deriving DecidableEq, Repr

/-- A calibration run of one input (10 R283). -/
structure CalRun where
  /-- Input. -/
  input : Nat
  /-- Caused by FE_INPUT rather than CAL_RUN (R301). -/
  startup : Bool
  /-- Starting boundary. -/
  start : Nat
  /-- The starting boundary has come: the switch is open and the hold has begun. -/
  began : Bool := false
  /-- Passes ended, 0-8. -/
  passes : Nat := 0
  /-- Trims of the first pass of the pair. -/
  first : List Byte := []
  /-- A phase step fell within the present pair, so that it disagrees (24 R671). -/
  broken : Bool := false
  /-- Outcome decided, with the moment at which the apply step ends. -/
  outcome : Option (CalOutcome × Nat) := none
  /-- The apply step is done; the hold ends at the boundary. -/
  applied : Bool := false
  /-- Gains held before the run: g and lbg (R261). -/
  gains : Int × Nat
deriving DecidableEq, Repr

/-- A search of SYN0's codes (10 R286). -/
structure Syn0Run where
  /-- Caused by FE_INPUT rather than CAL_RUN. -/
  startup : Bool
  /-- Starting boundary. -/
  start : Nat
  /-- The starting boundary has come. -/
  began : Bool := false
  /-- Searches ended, 0-8. -/
  searches : Nat := 0
  /-- Codes of the first search of the pair. -/
  first : Nat × Nat := (0, 0)
deriving DecidableEq, Repr

/-- One entry of the SYN1 table (10 R294). -/
structure Syn1Entry where
  /-- Channel centre, kHz, u24. -/
  freq : Nat
  /-- VCO band. -/
  band : Nat
  /-- Capacitor code. -/
  cap : Nat
  /-- Output divider setting. -/
  div : Nat
  /-- t_cal, s16. -/
  tCal : Int
  /-- CRC as held. -/
  crc : Nat
  /-- SYN1 lost lock on it in WATCH, so that the next visit calibrates it again (22 R612). -/
  invalid : Bool := false
deriving DecidableEq, Repr

/-- SYN1 calibration for CAL_RUN (10 R296). -/
structure Syn1Run where
  /-- Channels still to calibrate, in list order. -/
  left : List Nat
  /-- Channels calibrated. -/
  done : Nat := 0
  /-- Channels failed. -/
  failed : Nat := 0
  /-- Last failed channel, kHz, or 0. -/
  fFail : Nat := 0
  /-- Starting boundary. -/
  start : Nat
deriving DecidableEq, Repr

/-- Calibration (chapter 10). -/
structure CalSt where
  /-- Values held for inputs 0-3; 10 R284, R298; reset none (lost by RESET_N, 03 R78). -/
  vals : List (Option CalVals) := [none, none, none, none]
  /-- The input has been enabled since reset, so its values were applied; 03 R84, R88; reset false. -/
  inUse : List Bool := [false, false, false, false]
  /-- Runs in progress; 10 R283; reset none. -/
  runs : List CalRun := []
  /-- SYN0 band and capacitor codes; 10 R286, R291; reset none. -/
  syn0 : Option (Nat × Nat) := none
  /-- SYN0 has been calibrated, or restored with an input's values, since reset; 03 R84, 10 R291; reset false. -/
  syn0Used : Bool := false
  /-- SYN0 search in progress; 10 R286; reset none. -/
  syn0Run : Option Syn0Run := none
  /-- CAL_ADVISED raised and not re-armed, per input; 10 R293; reset false. -/
  advised : List Bool := [false, false, false, false]
  /-- SYN1 table, at most 16 entries; 10 R294; reset empty. -/
  syn1 : List Syn1Entry := []
  /-- SYN1 calibration by CAL_RUN in progress; 10 R296; reset none. -/
  syn1Run : Option Syn1Run := none
  /-- Per input, datum time up to which slots stay flagged HOLD after a calibration hold began or ended; 10 R287;
  reset none. -/
  holdEnd : List (Option Nat) := [none, none, none, none]
deriving DecidableEq, Repr

/-! ## Chapter 11: Survey -/

/-- A visit of a segment under way or just ended (11 R311, R312). -/
structure VisitRun where
  /-- Segment 4i + n. -/
  seg : Nat
  /-- Datum time at which it began. -/
  start : Nat
  /-- E at its start; R320. -/
  exp : Int
  /-- It cannot be complete: its segment was not live throughout, or a sample of it carries CAL_HOLD or "LO lost". -/
  spoiled : Bool := false
  /-- Its samples so far, oldest first; R310. -/
  samples : List SegSample := []
  /-- An ADC sample of its path clipped; R312. -/
  clipped : Bool := false
deriving DecidableEq, Repr

/-- Channel table and Field Book feed of a segment (11 R319). -/
structure SegTable where
  /-- Field Book feed on. -/
  feed : Bool := false
  /-- std. -/
  std : Nat := 0
  /-- start, kHz. -/
  start : Nat := 0
  /-- step, kHz. -/
  step : Nat := 0
  /-- width, kHz. -/
  width : Nat := 0
  /-- count. -/
  count : Nat := 0
  /-- fb_min, 0.1 dBµV. -/
  fbMin : Int := 0
deriving DecidableEq, Repr

/-- What Survey keeps of a segment's last complete visit (11 R316). -/
structure Visit where
  /-- Datum time at which it began. -/
  time : Nat
  /-- Bin levels, 0.1 dBµV, lowest bin first. -/
  bins : List Int
  /-- Channel levels, 0.1 dBµV, none where the visit had another table. -/
  chans : Option (List Int)
  /-- flags of R320: bit 0 clipped, bit 1 saturated mantissa. -/
  flags : Nat
  /-- E at the start of the visit. -/
  exp : Int
deriving DecidableEq, Repr

/-- One of the 16 segments in Survey (11 R315-R319). -/
structure SurveySeg where
  /-- Table in force; reset count 0 and feed off. -/
  table : SegTable := {}
  /-- Table that takes effect at the next cycle; reset none. -/
  next : Option SegTable := none
  /-- Last complete visit; reset none. -/
  visit : Option Visit := none
  /-- Peak, 0.1 dBFS; reset none. -/
  peak : Option Int := none
deriving DecidableEq, Repr

/-- Survey (chapter 11). -/
structure SurveySt where
  /-- Segments 4i + n; 11 R302; reset none visited. -/
  segs : List SurveySeg := List.replicate 16 {}
  /-- Cycles begun since boot, u32; 11 R321; reset 0. -/
  cycles : Nat := 0
  /-- Datum time at which the present cycle began; 11 R311; reset none. -/
  began : Option Nat := none
  /-- Segments visited completely in this cycle, 16 bits; 11 R321; reset 0. -/
  complete : Nat := 0
  /-- Of these, those flagged clipped; 11 R321; reset 0. -/
  clipped : Nat := 0
  /-- Offers refused since the last SURVEY_READY, u16 saturating; 11 R321; reset 0. -/
  refused : Nat := 0
  /-- P.SURVEY_EVT_CYCLES as it acts in this cycle; 11 R321; reset 0. -/
  evtN : Nat := 0
  /-- Cycles ended since that value took effect; 11 R321; reset 0. -/
  evtCount : Nat := 0
  /-- The visit under way, and the one before it until its end is handled; 11 R311; reset none. -/
  runs : List VisitRun := []
deriving DecidableEq, Repr

/-! ## Chapter 12: channeliser -/

/-- A host coefficient bank (12 R331, R344). -/
structure BankSt where
  /-- Decimation exponent. -/
  k : Nat
  /-- FIR delay, half output samples. -/
  d : Nat
  /-- FIR shift. -/
  firShift : Int
  /-- Shifts of half-band stages 1-10. -/
  hbShift : List Int
  /-- Coefficients h, Q1.17; T is their number. -/
  h : List Int
deriving DecidableEq, Repr

/-- What a slot serves (12 R33 of 01, R347; 18 R507): a context, an ensemble instance or a combiner branch. -/
inductive SlotUser where
  | ctx (c : Nat)
  | inst (n : Nat)
  | branch (service b : Nat)
deriving DecidableEq, Repr

/-- One output sample of a slot (12 R337, R338). -/
structure SlotSample where
  /-- Grid tick t_j. -/
  t : Nat
  /-- Mantissa, 16 + 16 bits. -/
  m : Cx
  /-- Output exponent Eo of its Round. -/
  eo : Int
  /-- HOLD. -/
  hold : Bool := false
  /-- LO_LOST. -/
  lo : Bool := false
  /-- NOSEG. -/
  noseg : Bool := false
  /-- SETTLE. -/
  settle : Bool := false
  /-- SAT. -/
  sat : Bool := false
  /-- SLIP. -/
  slip : Bool := false
deriving DecidableEq, Repr

/-- What a slot front-end and its filter engine hold (12 R324-R342). -/
structure SlotDsp where
  /-- 32-bit NCO phase; R324; reset 0, DESIGN CHOICE log 12. -/
  phase : Nat := 0
  /-- C as it acts on the samples; R341; reset 0. -/
  cNow : Int := 0
  /-- Writes of C that have not taken effect, oldest first, each with the datum tick from which it acts; R341; reset none. -/
  cNext : List (Nat × Int) := []
  /-- The five CIC integrators, 39 bits; R326; reset zero. -/
  ints : List Cx := List.replicate 5 {}
  /-- The five CIC comb registers, 39 bits; R326; reset zero. -/
  combs : List Cx := List.replicate 5 {}
  /-- Inputs of half-band stages 1 to k, 24 bits, newest first; R329; reset none, read as zero. -/
  hb : List (List Cx) := List.replicate 10 []
  /-- Inputs of the FIR, 24 bits, newest first; R330; reset none, read as zero. -/
  fir : List Cx := []
  /-- Mantissa delivered last; R287, R340; reset zero. -/
  last : Cx := {}
  /-- Peak rail magnitude of y in this Round; R334; reset 0. -/
  peak : Nat := 0
  /-- Grid tick of the last saturation; R336; reset none. -/
  satAt : Option Nat := none
  /-- Datum tick of the next segment sample to take; R328; reset 0, DESIGN CHOICE log 12. -/
  next : Nat := 0
  /-- Slips requested and not yet made, advances positive; R342; reset 0. -/
  slip : Int := 0
  /-- Output samples since the last slip, at most 64; R342; reset 64. -/
  spaced : Nat := 64
deriving DecidableEq, Repr

/-- One slot (12 R322-R347). -/
structure SlotSt where
  /-- What it serves; reset nothing (stopped). -/
  user : Option SlotUser := none
  /-- Segment 4i + n; reset 0, DESIGN CHOICE log 12. -/
  seg : Nat := 0
  /-- Tuned word W, s32; R323; reset 0, DESIGN CHOICE log 12. -/
  w : Int := 0
  /-- Correction C; R341; reset 0, DESIGN CHOICE log 12. -/
  c : Int := 0
  /-- Coefficient bank; reset 0, DESIGN CHOICE log 12. -/
  bank : Nat := 0
  /-- Slot exponent Es; R335; reset 0, DESIGN CHOICE log 12. -/
  es : Int := 0
  /-- Normaliser shift r; R334; reset 8. -/
  r : Nat := 8
  /-- Boundary of the last start, from which SETTLE runs; R339; reset 0, DESIGN CHOICE log 12. -/
  settleFrom : Nat := 0
  /-- sat_mask; R336; reset 0. -/
  satMask : Nat := 0
  /-- sat_count, saturating; R336; reset 0. -/
  satCount : Nat := 0
  /-- Net slips; R342; reset 0. -/
  slips : Int := 0
  /-- Datum time of dispatch; R345; reset 0. -/
  since : Nat := 0
  /-- Excluded; R346; reset false. -/
  excluded : Bool := false
  /-- Pinned context and bank (0xFF the factory bank); R346; reset none. -/
  pin : Option (Nat × Nat) := none
  /-- Its signal state; R324-R342; reset cleared. -/
  dsp : SlotDsp := {}
deriving DecidableEq, Repr

/-- An accepted SLOT_PIN waiting for its boundary (12 R346). -/
structure PinAct where
  /-- Slot. -/
  slot : Nat
  /-- action 0 release, 1 exclude, 2 pin. -/
  action : Nat
  /-- Context, for action 2. -/
  ctx : Nat
  /-- bank. -/
  bank : Nat
  /-- Boundary. -/
  due : Nat
deriving DecidableEq, Repr

/-- Channeliser (chapter 12). -/
structure ChanSt where
  /-- Slots 0-63; reset stopped. -/
  slots : List SlotSt := List.replicate 64 {}
  /-- Host banks that have been loaded, by number 16-31; R331; reset none (T = 0). -/
  banks : List (Nat × BankSt) := []
  /-- Accepted pins not yet applied; R346; reset none. -/
  pins : List PinAct := []
deriving DecidableEq, Repr

/-! ## Chapter 13: contexts and Traverse -/

/-- A tuning (13 R382). -/
structure Tuning where
  /-- Frequency or first channel, kHz. -/
  freq : Nat
  /-- Permitted inputs, 4 bits. -/
  inputs : Nat
  /-- Standard: 0 FM, 1 AM, 2 DAB, 3 DRM30, 4 DRM+. -/
  std : Nat
  /-- SCAN raster, kHz. -/
  step : Nat
  /-- SCAN channels. -/
  count : Nat
deriving DecidableEq, Repr

/-- Parked state (13 R373, R374). -/
structure ParkSt where
  /-- Boundary at which it was parked. -/
  since : Nat
  /-- Dwell remaining, Rounds. -/
  dwellLeft : Nat
  /-- It holds a partial measurement. -/
  partialM : Bool
  /-- Correction C. -/
  c : Int
  /-- The parked slot state, with the exponent Es it is scaled for; 12 R339. -/
  dsp : SlotDsp := {}
  /-- That Es. -/
  es : Int := 0
deriving DecidableEq, Repr

/-- States of a context (13 R352); a CLOSED context is one that is not in the table. -/
inductive CtxState where
  | opened
  | ready
  | running
  | parked
  | halted
deriving DecidableEq, Repr

/-- An audio decoder since its dispatch (20 R556, R558). -/
structure DecSt where
  /-- Consecutive bad frames. -/
  badRun : Nat := 0
  /-- Consecutive good frames since the cause "conceal" became active. -/
  goodRun : Nat := 0
  /-- The cause "conceal" is active. -/
  conceal : Bool := false
  /-- Source rate, kHz. -/
  rate : Nat := 0
  /-- What the last good frame gave; 20 R558; none before the first one. -/
  good : Option (List (Int × Int)) := none
deriving DecidableEq, Repr

/-- An open context (13 R348-R389). -/
structure CtxSt where
  /-- Kind, 0x01-0x0B. -/
  kind : Nat
  /-- Foreground. -/
  fg : Bool
  /-- Priority. -/
  prio : Nat
  /-- Owner. -/
  owner : Iface
  /-- State. -/
  state : CtxState := .opened
  /-- Datum time of the last state change. -/
  since : Nat
  /-- Closing, with the boundary at which it closes. -/
  closing : Option Nat := none
  /-- Tuning in force. -/
  tuning : Option Tuning := none
  /-- Index of the present channel of a SCAN. -/
  scanAt : Nat := 0
  /-- Offset of the slot's centre from the tuned frequency, Hz (17 R476; 0 for other standards). -/
  offset : Int := 0
  /-- Spectrum occupancy that the last good FAC names (17 R476; 04 R117); none before. -/
  occ : Option Nat := none
  /-- Slot held. -/
  slot : Option Nat := none
  /-- Input in use. -/
  input : Option Nat := none
  /-- Ensemble instance joined. -/
  inst : Option Nat := none
  /-- Narrowband channel held, 0-47 (24 per demodulator). -/
  nb : Option Nat := none
  /-- OFDM half units held, of 32. -/
  halves : List Nat := []
  /-- A subchannel or MSC decode is held. -/
  decode : Bool := false
  /-- Audio decoder held. -/
  adec : Option Nat := none
  /-- Trellis throughput counted for its decode, kbit/s; none until the actual rate is known (13 R349). -/
  kbps : Option Nat := none
  /-- Boundary at which it was dispatched. -/
  dispatched : Nat := 0
  /-- Boundary at which the dwell ends. -/
  dwellEnd : Option Nat := none
  /-- The end of that dwell has been handled. -/
  dwellDone : Bool := false
  /-- A measurement of a CHECK or SCAN has lost samples or begun afresh since the dwell began. -/
  partialM : Bool := false
  /-- Parked state. -/
  park : Option ParkSt := none
  /-- Start of the present wait. -/
  waitFrom : Option Nat := none
  /-- NO_RESOURCE raised for this wait. -/
  starved : Bool := false
  /-- dispatches, u16 saturating. -/
  dispatches : Nat := 0
  /-- preemptions, u16 saturating. -/
  preemptions : Nat := 0
  /-- State before a first tuning whose CTX_STATE record waits for the dispatch at the same boundary. -/
  evOld : Option CtxState := none
  /-- Its audio is released (14 R413, 20 R558). -/
  released : Bool := false
  /-- Its audio decoder since the dispatch (20 R558). -/
  dec : DecSt := {}
deriving DecidableEq, Repr

/-- A DAB ensemble instance (13 R366-R370). -/
structure InstSt where
  /-- Frequency, kHz. -/
  freq : Nat
  /-- Inputs that every member permits. -/
  inputs : Nat
  /-- Its anchor (R369). -/
  anchor : Nat
  /-- It runs. -/
  running : Bool := false
  /-- Input in use. -/
  input : Option Nat := none
  /-- Slot. -/
  slot : Option Nat := none
  /-- OFDM unit, 0-15. -/
  unit : Option Nat := none
  /-- Boundary at which it was dispatched. -/
  dispatched : Nat := 0
  /-- Boundary at which the dwell ends. -/
  dwellEnd : Option Nat := none
  /-- Parked state. -/
  park : Option ParkSt := none
  /-- Start of the present wait. -/
  waitFrom : Option Nat := none
deriving DecidableEq, Repr

/-- What a scheduled change does to a context at its boundary (13 R380-R385). -/
inductive CtxAct where
  | close
  | suspend
  | resume
  | tune (t : Tuning)
  | config (fg : Bool) (prio : Nat)
deriving DecidableEq, Repr

/-- A scheduled change. -/
structure CtxSched where
  /-- Context. -/
  ctx : Nat
  /-- Change. -/
  act : CtxAct
  /-- Boundary. -/
  due : Nat
  /-- Datum time of acceptance. -/
  accepted : Nat
  /-- Cause code of CTX_STATE: 0x00 a host command, 0x07 a following switch. -/
  cause : Nat := 0
deriving DecidableEq, Repr

/-- What Traverse places or withdraws (13 R360, R370): a context with a slot of its own, an ensemble instance, or the
decode of a member of a foreground instance. -/
inductive Ent where
  | ctx (c : Nat)
  | inst (n : Nat)
  | mem (c : Nat)
deriving DecidableEq, Repr

/-- Why the plan withdraws an entity. -/
inductive OutCause where
  | rotation
  | preempt (by_ : Nat) (resource : Nat)
deriving DecidableEq, Repr

/-- One line of the plan (13 R360): what goes out, and what comes in. -/
structure PlanItem where
  /-- Withdrawn. -/
  out : List (Ent × OutCause)
  /-- Dispatched. -/
  inn : Option Ent
deriving DecidableEq, Repr

/-- Contexts and Traverse (chapter 13). -/
structure TravSt where
  /-- Open contexts by number; 13 R352; reset none. -/
  ctxs : List (Nat × CtxSt) := []
  /-- Ensemble instances by number 0-15; 13 R366; reset none. -/
  insts : List (Nat × InstSt) := []
  /-- Scheduled changes in sequence-index order; 13 R353; reset none. -/
  acts : List CtxSched := []
  /-- The frozen plan with its boundary and the time of the freeze; 13 R359; reset none. -/
  plan : Option (Nat × Nat × List PlanItem) := none
  /-- Contexts whose state still lies in a shadow bank: context, slot and boundary; 13 R371, R372; reset none. -/
  parking : List (Nat × Nat × Nat) := []
  /-- Contexts restored for the next boundary; 13 R372; reset none. -/
  restored : List Nat := []
  /-- restores and parks at the last boundary; 13 R387; reset 0, 0. -/
  paging : Nat × Nat := (0, 0)
  /-- rotations, u32; 13 R387; reset 0. -/
  rotations : Nat := 0
  /-- preemptions, u32; 13 R387; reset 0. -/
  preemptions : Nat := 0
  /-- abandoned, u32; 13 R387; reset 0. -/
  abandoned : Nat := 0
  /-- starved, u32; 13 R387; reset 0. -/
  starved : Nat := 0
  /-- Datum time of the last boundary; 13 R387; reset 0, DESIGN CHOICE log 12. -/
  boundary : Nat := 0
deriving DecidableEq, Repr

/-! ## Chapter 14: FM and AM demodulation -/

/-- NB_CFG settings of a context (14 R414). -/
structure NbCfg where
  /-- bw_mode: 0 auto, 1 fixed; default 0. -/
  bwMode : Nat := 0
  /-- bw; default 0. -/
  bw : Nat := 0
  /-- eq of FM; default 2. -/
  eq : Nat := 2
  /-- mode; default 0. -/
  mode : Nat := 0
  /-- blanker of AM; default 1. -/
  blanker : Nat := 1
deriving DecidableEq, Repr

/-- What one narrowband window measures (14 R409). -/
structure NbWin where
  /-- At least half of its samples entered the moments (R408). -/
  valid : Bool
  /-- Some sample carried SAT. -/
  sat : Bool
  /-- level, 0.1 dBµV. -/
  level : Int
  /-- CNR, 0.1 dB, none where it is not valid. -/
  cnr : Option Int
  /-- Measured frequency without C, mHz: mean discriminator output or PLL frequency. -/
  freq : Int
  /-- deviation, 0.1 kHz, or depth, 0.1 %. -/
  dev : Nat
  /-- USN, 0.1 dB. -/
  usn : Int
  /-- MP, 0.1 %, rounded down. -/
  mp : Nat
  /-- MP_res, 0.1 %, rounded down. -/
  mpRes : Nat
  /-- ACI: 0.1 dB for FM, 0.1 dBc for AM (R396, R406). -/
  aci : Int
  /-- Deviation of the 19 kHz component, Hz, rounded down. -/
  pilot : Nat
  /-- Rms phase error of the pilot PLL, 0.1 degree, rounded down (R399). -/
  phase : Nat
  /-- mean(I) / mean(|x|), per mille, rounded down (R404). -/
  ratio : Nat
  /-- Blanked samples in the window (R405). -/
  blanks : Nat
  /-- The blanker stopped for the rest of the window. -/
  stopped : Bool
  /-- β × 255, the soft-mute attenuation, dB, and the high-cut corner, 10 Hz, as the controls of R401 stand at its end. -/
  blend : Nat
  /-- Soft mute, dB. -/
  softmute : Nat
  /-- High cut, 10 Hz. -/
  hicut : Nat
deriving DecidableEq, Repr

/-- Sums over the samples that enter the measurements of a window (14 R408, R409). Signals at unit rms are in units of 2^-16. -/
structure NbSums where
  /-- Samples that entered. -/
  n : Nat := 0
  /-- A sample carried SAT. -/
  sat : Bool := false
  /-- Σ|M|²·4^Eo after the channel filter, units of 2^-160. -/
  pw : Nat := 0
  /-- Σ|y|². -/
  m2 : Nat := 0
  /-- Σ|y|⁴. -/
  m4 : Nat := 0
  /-- Σ|x| before the equaliser, units of 2^-32. -/
  rx : Nat := 0
  /-- Σ|x|². -/
  rx2 : Nat := 0
  /-- Σ|y|, units of 2^-32. -/
  ry : Nat := 0
  /-- Σ of the squares of the MPX in 90-120 kHz, units of (256,000 / 2^24 Hz)². -/
  us : Nat := 0
  /-- Σ MPX, units of 256,000 / 2^24 Hz; for AM Σ of the PLL frequency, 2^-32 turns per sample. -/
  f : Int := 0
  /-- Largest MPX. -/
  fMax : Int := -(2 ^ 23)
  /-- Smallest MPX. -/
  fMin : Int := 2 ^ 23
  /-- Σ MPX · e^(-jθ) at the pilot phase θ, the rotation in units of 2^-30. -/
  pil : Cx := {}
  /-- Σ of the squared phase error of the pilot PLL, units of (2^-24 turn)². -/
  ph : Nat := 0
  /-- Power of the normaliser output above 0 Hz in the band of R396 or R406. -/
  eUp : Nat := 0
  /-- The same below 0 Hz. -/
  eDown : Nat := 0
  /-- Σ A (R403). -/
  a : Int := 0
  /-- Σ Q. -/
  q : Int := 0
  /-- Σ Q². -/
  q2 : Nat := 0
  /-- Σ I. -/
  i : Int := 0
  /-- Σ|x| of AM, units of 2^-32. -/
  env : Nat := 0
  /-- Largest |I - A| / A, units of 2^-24. -/
  depth : Nat := 0
deriving DecidableEq, Repr

/-- A control of R401: its value when it last took a target, that target, the datum time and the time constant, ms. -/
structure NbCtl where
  /-- Value. -/
  v : Int
  /-- Target. -/
  target : Int
  /-- Datum time. -/
  at_ : Nat := 0
  /-- Time constant, ms. -/
  tc : Nat := 1
deriving DecidableEq, Repr

/-- A phase-locked loop (14 R399, R404): phase, 2^-32 turns, and integrator, 2^-32 turns per sample beyond its nominal frequency. -/
structure PllSt where
  /-- Phase. -/
  phase : Nat := 0
  /-- Integrator. -/
  freq : Int := 0
deriving DecidableEq, Repr

/-- The front of a narrowband chain: the normaliser and the channel filter (14 R394, R395, R403, R406). -/
structure NbFront where
  /-- Rms magnitude of the Round before, units of 2^-64; R394; reset 0, no such Round. -/
  norm : Nat := 0
  /-- Round number of the sums below; reset 0. -/
  round : Nat := 0
  /-- Σ|v|² of that Round so far; reset 0. -/
  sq : Nat := 0
  /-- Samples of that Round so far; reset 0. -/
  n : Nat := 0
  /-- Normalised samples, newest first, at most 127; reset none, read as zero. -/
  line : List Cx := []
  /-- Filter in use, index of R395 or R406; reset 0. -/
  bw : Nat := 0
  /-- Filter from which the output cross-fades; reset 0. -/
  bwOld : Nat := 0
  /-- Samples of that cross-fade made, 64 where none runs; R395; reset 64. -/
  fade : Nat := 64
deriving DecidableEq, Repr

/-- The noise blanker of an AM chain (14 R405). -/
structure BlankSt where
  /-- m, units of 2^-64; reset 0. -/
  m : Int := 0
  /-- Last unblanked sample; reset zero. -/
  last : Cx := {}
  /-- Samples of the present blank, 0 where none runs; reset 0. -/
  run : Nat := 0
  /-- Samples of it since the last one above the threshold; reset 0. -/
  tail : Nat := 0
  /-- Blanked samples in this window; reset 0. -/
  count : Nat := 0
  /-- The blanker stopped for the rest of the window; reset false. -/
  stopped : Bool := false
deriving DecidableEq, Repr

/-- One audio sample pair of a narrowband channel at 32 kS/s (14 R391, R394, R403). -/
structure NbAudio where
  /-- Datum tick at which it is handed to the programme. -/
  t : Nat
  /-- Left, 24 bits. -/
  l : Int
  /-- Right, 24 bits. -/
  r : Int
deriving DecidableEq, Repr

/-- The equaliser of an FM channel, or of one branch of a combined service (14 R397, 18 R517): taps in Q2.16. -/
structure EqSt where
  /-- Taps w0-w15; reset w4 = 1 and every other 0. -/
  w : List Cx := [{}, {}, {}, {}, { re := 65536 }, {}, {}, {}, {}, {}, {}, {}, {}, {}, {}, {}]
  /-- Its inputs, newest first, at most 16; reset none, read as zero. -/
  line : List Cx := []
deriving DecidableEq, Repr

/-- Properties of a context as the samples of the present window have them (14 R416). -/
structure NbProps where
  /-- P.FM_CMA_MU; default 10. -/
  mu : Nat := 10
  /-- P.FM_DEEMPH; default 0. -/
  deemph : Nat := 0
  /-- P.AM_AGC_TC, ms; default 200. -/
  agc : Nat := 200
  /-- P.AM_NB_THRESH; default 60. -/
  thresh : Nat := 60
  /-- P.AM_NB_MAXRATE; default 10. -/
  maxRate : Nat := 10
deriving DecidableEq, Repr

/-- The signal path of one narrowband channel (14 R394-R413). -/
structure NbDsp where
  /-- Normaliser and channel filter. -/
  front : NbFront := {}
  /-- Noise blanker of AM. -/
  blank : BlankSt := {}
  /-- Equaliser of FM. -/
  eq : EqSt := {}
  /-- The equaliser resets at the next sample (R397); reset false. -/
  eqDue : Bool := false
  /-- Round number of the last tap leakage; R397; reset 0. -/
  leak : Nat := 0
  /-- y[n - 1]; R394; reset zero. -/
  y : Cx := {}
  /-- MPX samples, newest first, at most 512; R394, R399, R400; reset none. -/
  mpx : List Int := []
  /-- Pilot PLL of FM, carrier PLL of AM. -/
  pll : PllSt := {}
  /-- MPX brought to 0 Hz by the pilot phase, newest first, at most 512; R399; reset none. -/
  pil : List Cx := []
  /-- 2 · MPX · cos 2θ, newest first, at most 512; R400; reset none. -/
  sub : List Int := []
  /-- De-emphasis of M and S; R394; reset 0. -/
  deM : Int := 0
  /-- The same of S. -/
  deS : Int := 0
  /-- High-cut filters of L and R; R401; reset 0. -/
  hcL : Int := 0
  /-- The same of R. -/
  hcR : Int := 0
  /-- L ahead of the decimation, newest first, at most 512; R394, R403; reset none. -/
  outL : List Int := []
  /-- R ahead of the decimation. -/
  outR : List Int := []
  /-- Blend β, units of 2^-24; R401; reset 0. -/
  beta : NbCtl := { v := 0, target := 0 }
  /-- High-cut corner, mHz; R401; reset 15 kHz. -/
  hicut : NbCtl := { v := 15000000, target := 15000000 }
  /-- Soft-mute attenuation, units of 2^-16 dB; R401, R407; reset 0. -/
  mute : NbCtl := { v := 0, target := 0 }
  /-- Carrier estimate A, units of 2^-24 of the unit rms; R403; reset 0. -/
  a : Int := 0
  /-- Synchronous detection acts; R404; reset false. -/
  synch : Bool := false
  /-- Samples of the cross-fade between detectors made, 64 where none runs; R404; reset 64. -/
  detFade : Nat := 64
  /-- Inputs and outputs of the 40 Hz high-pass at the last two samples; R403; reset 0. -/
  hp : List Int := [0, 0, 0, 0]
  /-- Samples of the coarse search so far, oldest first, at most 256; R404; reset none. -/
  search : List Cx := []
  /-- The window's sums; reset none. -/
  sums : NbSums := {}
  /-- Equaliser resets not yet counted; R397; reset 0. -/
  resets : Nat := 0
  /-- Datum time of the release of the audio, from which it ramps up; R413; reset none. -/
  relAt : Option Nat := none
  /-- Datum time at which it was last cut off, with the release before that; R393; reset none. -/
  fadeAt : Option (Nat × Option Nat) := none
  /-- Audio that the path still holds, and what it handed over in the last Round, oldest first; R391; reset none. -/
  audio : List NbAudio := []
deriving DecidableEq, Repr

/-- What a narrowband channel carries from window to window (14 R395-R413). -/
structure NbRun where
  /-- Bandwidth index in use. -/
  bw : Nat := 0
  /-- Consecutive valid windows below the lower ACI threshold. -/
  lowRun : Nat := 0
  /-- The equaliser is on. -/
  eqOn : Bool := false
  /-- Consecutive valid windows with MP below the switch-off level. -/
  eqLow : Nat := 0
  /-- Pilot or carrier locked. -/
  locked : Bool := false
  /-- Consecutive windows for the next change of lock. -/
  lockRun : Nat := 0
  /-- AM: the coarse search of R404 has succeeded. -/
  coarse : Bool := false
  /-- AM: synchronous detection. -/
  synch : Bool := false
  /-- Mean discriminator outputs of the valid windows since the last write of C, newest first, mHz, at most 10 (R402). -/
  afc : List Int := []
  /-- Equaliser resets since dispatch, u8 saturating. -/
  eqResets : Nat := 0
  /-- Windows with the blanker stopped since dispatch, u16 saturating. -/
  suspended : Nat := 0
  /-- Last valid window, with the low 32 bits of the datum time of its end. -/
  last : Option (NbWin × Nat) := none
  /-- offset of that window: its frequency and C as the window ended, Hz (R409). -/
  lastOff : Int := 0
deriving DecidableEq, Repr

/-- A check measurement in progress, and a check result (14 R411, 16 R467, 17 R499; 19 R544). -/
structure Meas where
  /-- Valid windows, or frames. -/
  n : Nat := 0
  /-- The values over them. -/
  q : Quality := {}
  /-- Σ of the powers of the windows or frames, units of 2^-160. -/
  pw : Nat := 0
  /-- Σ of MP_res, 0.1 %, or of MER, 0.1 dB. -/
  part : Int := 0
  /-- Σ of the offsets, Hz. -/
  off : Int := 0
  /-- Σ of the powers P_U, units of (256,000 / 2^24 Hz)². -/
  us : Nat := 0
  /-- Sums of the moments over the windows. -/
  sums : NbSums := {}
  /-- Good FIBs or FACs, and all of them, over the measurement; 16 R467, 17 R499. -/
  oks : Nat × Nat := (0, 0)
deriving DecidableEq, Repr

/-- A check result as it is held. -/
structure CheckRes where
  /-- The measurement. -/
  m : Meas
  /-- Quality class. -/
  cls : Nat
  /-- Inconclusive. -/
  open_ : Bool
  /-- Low 32 bits of the datum time at which the dwell ended. -/
  time : Nat
deriving DecidableEq, Repr

/-- Narrowband state of one context (14). -/
structure NbSt where
  /-- Settings; reset the defaults of R414. -/
  cfg : NbCfg := {}
  /-- Accepted settings with their action and boundary; reset none. -/
  next : Option (NbCfg × Nat × Nat) := none
  /-- Boundary at which settings last took effect; reset none. -/
  cfgAt : Option Nat := none
  /-- Channel state. -/
  run : NbRun := {}
  /-- Properties of the present window. -/
  props : NbProps := {}
  /-- Signal path. -/
  dsp : NbDsp := {}
deriving DecidableEq, Repr

/-! ## Chapter 15: RDS -/

/-- RDS_CFG settings (15 R437). -/
structure RdsCfg where
  /-- streams; default 0x01. -/
  streams : Nat := 1
  /-- rbds; default 0. -/
  rbds : Nat := 0
  /-- deliver; default 0. -/
  deliver : Nat := 0
  /-- flags; default 0. -/
  flags : Nat := 0
  /-- pi_expect; default 0. -/
  pi : Nat := 0
  /-- mask; default 0. -/
  mask : Nat := 0
deriving DecidableEq, Repr

/-- One decoded block: quality and information word (15 R424). -/
structure RdsBlock where
  /-- Quality, 0-3. -/
  q : Nat
  /-- Information word. -/
  w : Nat
deriving DecidableEq, Repr

/-- One decided bit (15 R418). -/
structure RdsBit where
  /-- Datum tick of the sample at which it was decided. -/
  t : Nat
  /-- Bit. -/
  v : Bool
  /-- Touched by HOLD or NOSEG, or decided without bit lock (R419, R420). -/
  erased : Bool
deriving DecidableEq, Repr

/-- Demodulation of one stream (15 R418-R420). -/
structure RdsDsp where
  /-- Costas loop; reset 0. -/
  pll : PllSt := {}
  /-- Mixed MPX, newest first, at most 63; reset none. -/
  line : List Cx := []
  /-- Samples of 16 kS/s, newest first, at most 64; reset none. -/
  mf : List Cx := []
  /-- Last output of the matched filter; reset zero. -/
  out : Cx := {}
  /-- Bit phase, 2^-32 bit; reset 0. -/
  tau : Nat := 0
  /-- Timing loop, beyond its nominal rate; reset 0. -/
  freq : Int := 0
  /-- Last symbol; reset zero. -/
  sym : Cx := {}
  /-- Sample in the middle of the present bit; reset zero. -/
  mid : Cx := {}
  /-- Timing errors of the last 32 bits, newest first, 2^-16 bit; R419; reset none. -/
  errs : List Int := []
  /-- A sample with HOLD or NOSEG touched the present bit; R420; reset false. -/
  dirty : Bool := false
  /-- Consecutive erased bits; R420; reset 0. -/
  run : Nat := 0
  /-- Datum tick of the last MPX sample; reset 0. -/
  at_ : Nat := 0
  /-- Decided bits that no block has taken, oldest first; reset none. -/
  bits : List RdsBit := []
  /-- Bits taken; reset 0. -/
  pos : Nat := 0
  /-- The last 26 of them; reset 0. -/
  win : Nat := 0
  /-- Bits taken since the last erased one, at most 26; reset 0. -/
  clean : Nat := 0
deriving DecidableEq, Repr

/-- One stream unit (15 R418-R424). -/
structure RdsUnit where
  /-- Demodulation. -/
  dsp : RdsDsp := {}
  /-- Bit-locked. -/
  locked : Bool := false
  /-- Synchronised: bit position of the next expected block and its place 0-3 in the group. -/
  sync : Option (Nat × Nat) := none
  /-- Error-free blocks found while unsynchronised: bit position and place. -/
  found : List (Nat × Nat) := []
  /-- The last 50 blocks, newest first: uncorrectable and counted. -/
  errs : List Bool := []
  /-- Blocks of the group so far. -/
  blocks : List RdsBlock := []
  /-- C′ was found in it: version B. -/
  verB : Bool := false
  /-- Bit lock was lost during it. -/
  lost : Bool := false
  /-- A complete group waits to be handled, with the datum time of its last bit. -/
  group : Option (List RdsBlock × Bool × Bool × Nat) := none
  /-- PIs of the blocks of quality 0 or 1 at A or C′ within this synchronisation, each once. -/
  pis : List Nat := []
  /-- Blocks at extrapolated positions still to check after a warm start, and how many of them failed (R428). -/
  warm : Nat × Nat := (0, 0)
deriving DecidableEq, Repr

/-- An AF list being collected or complete (15 R432). -/
structure AfList where
  /-- Announced number. -/
  n : Nat
  /-- Frequency paired with the count, kHz. -/
  first : Nat
  /-- Distinct frequencies, kHz, in order of arrival, each with its regional mark. -/
  freqs : List (Nat × Bool)
  /-- Every later pair held `first` (method B); none before a later pair. -/
  methodB : Option Bool := none
deriving DecidableEq, Repr

/-- RDS state of one context (15). -/
structure RdsSt where
  /-- Settings; reset the defaults of R437. -/
  cfg : RdsCfg := {}
  /-- Accepted settings with their boundary; reset none. -/
  next : Option (RdsCfg × Nat) := none
  /-- Stream units 0-3. -/
  units : List RdsUnit := List.replicate 4 {}
  /-- PI state; R430; reset 0. -/
  piState : Nat := 0
  /-- Last PI of quality 0 or 1; reset 0. -/
  pi : Nat := 0
  /-- PI that the PI state confirms, or that mismatches; reset 0. -/
  conf : Nat := 0
  /-- Low datum time of confirmation; reset 0. -/
  piTime : Nat := 0
  /-- PTY; reset unknown. -/
  pty : Option Nat := none
  /-- TP, TA, MS; reset clear. -/
  tp : Bool := false
  /-- TA. -/
  ta : Bool := false
  /-- MS. -/
  ms : Bool := false
  /-- ECC; reset 0. -/
  ecc : Nat := 0
  /-- PI, PTY and ECC of the last station offer; reset none. -/
  offered : Option (Nat × Nat × Nat) := none
  /-- List being collected; reset none. -/
  part : Option AfList := none
  /-- Complete list; reset none. -/
  af : Option AfList := none
  /-- EON networks held, most recent first, at most 8; R433; reset none. -/
  eon : List Nat := []
  /-- Code 250 was seen: the next code is LF/MF; reset false. -/
  lf : Bool := false
  /-- An alarm is active; reset false. -/
  alarm : Bool := false
  /-- Consecutive groups for the next change of the alarm; reset 0. -/
  alarmRun : Nat := 0
  /-- The alert application and the group type that carries it; R435; reset none. -/
  alertType : Option (Nat × Nat) := none
  /-- Warm at the last dispatch; reset false. -/
  warm : Bool := false
  /-- groups, u32; reset 0. -/
  groups : Nat := 0
  /-- corrected, u32; reset 0. -/
  corrected : Nat := 0
  /-- uncorrectable, u32; reset 0. -/
  uncorrectable : Nat := 0
  /-- e_blocks, u16; reset 0. -/
  eBlocks : Nat := 0
  /-- alarms, u16; reset 0. -/
  alarms : Nat := 0
  /-- group_time; reset 0. -/
  groupTime : Nat := 0
deriving DecidableEq, Repr


/-! ## Chapter 16: DAB -/

/-- One sample of an OFDM unit: a slot sample, or an elementary one (17 R474). -/
structure OfdmSample where
  /-- Grid tick of the slot sample. -/
  t : Nat
  /-- Value, units of 2^-64. -/
  v : Cx := {}
  /-- HOLD, NOSEG or SETTLE, or of an unclean Round of its branch (16 R448, 17 R484, 18 R521). -/
  bad : Bool := false
  /-- HOLD or NOSEG. -/
  held : Bool := false
  /-- SAT. -/
  sat : Bool := false
  /-- Its branch contributes nothing: it is not active; 18 R512, R513. -/
  mute : Bool := false
deriving DecidableEq, Repr

/-- The samples and symbols of one branch of an OFDM unit; a context or instance that is not combined has one (16, 17, 18 R519-R521). -/
structure OfdmBranch where
  /-- Samples, oldest first; reset none. -/
  buf : List OfdmSample := []
  /-- Samples received ahead of `buf`; reset 0. -/
  base : Nat := 0
  /-- Carriers of the last symbol, none where one of its samples was bad; 16 R447; reset none. -/
  y : Option (List Cx) := none
  /-- A sample of that symbol carried SAT; reset false. -/
  ySat : Bool := false
  /-- The branch contributed nothing to that symbol; 18 R512; reset false. -/
  yMute : Bool := false
  /-- Squared distances of the differential products of the last 16 symbols by carrier, newest first, units of 2^-32; 18 R519; reset none. -/
  dist : List (List Nat) := []
  /-- Σ|z|² and Σ|z - ẑ|² of this branch alone over the FIC carriers of this frame, units of 2^-32; 16 R466, 18 R523; reset 0. -/
  own : Nat × Nat := (0, 0)
  /-- Σ of its carriers times the conjugate of those of branch 0, over the same symbols; 18 R523; reset 0. -/
  cross : Cx := {}
  /-- Slot samples ahead of the resampler, newest first, at most 32; 17 R474; reset none. -/
  raw : List OfdmSample := []
  /-- Slot samples received, modulo 4; 17 R474; reset 0. -/
  rawN : Nat := 0
  /-- Symbols of the present frame: their carriers from -Tu/2 on, none where a sample was bad, SAT, and whether the branch contributes
  nothing to it; 17 R484, 18 R513; reset none. -/
  symbols : List (Option (List Cx) × Bool × Bool) := []
deriving DecidableEq, Repr

/-- The signal path of an ensemble instance (16 R442-R448). -/
structure DabDsp where
  /-- Branches. -/
  branches : List OfdmBranch := [{}]
  /-- Sample at which the FFT window of the next PRS begins; R442, R444; reset none. -/
  win : Option Nat := none
  /-- Symbol to demodulate next, 1-76; 0 until the PRS of a frame has been processed; reset 0. -/
  next : Nat := 0
  /-- Frequency removed from the samples from each sample number on, 2^-32 turns per sample; R445; reset none. -/
  freqs : List (Nat × Int) := []
  /-- Integer frequency of step 2, carriers; R442; reset 0. -/
  shift : Int := 0
  /-- Errors of the first path over the last frames, samples, newest first, at most 4; R444; reset none. -/
  errs : List Int := []
  /-- Remainder of their mean, quarter samples; R444; reset 0. -/
  ramp : Int := 0
  /-- Samples by which the next null symbol moves the window; R444; reset 0. -/
  moves : Int := 0
  /-- Soft values of the symbols of this frame from symbol 2 on; R447; reset none. -/
  soft : List (List Int) := []
  /-- Σ|z|² over the FIC carriers of this frame, units of 2^-32; R466; reset 0. -/
  zz : Nat := 0
  /-- Σ|z - ẑ|² over them. -/
  ze : Nat := 0
  /-- Σ|v|² of the samples since the last PRS, units of 2^-128; R466; reset 0. -/
  pw : Nat := 0
  /-- Their number. -/
  pn : Nat := 0
  /-- A sample of this frame carried HOLD or NOSEG; R446; reset false. -/
  held : Bool := false
  /-- Frequency measured on the PRS and FIC symbols, mHz, not yet taken into account; R442, R445; reset none. -/
  resid : Option Int := none
deriving DecidableEq, Repr

/-- The signal path of a DRM context (17 R474-R484). -/
structure DrmDsp where
  /-- Branches. -/
  branches : List OfdmBranch := [{}]
  /-- Sample at which the FFT window of the next symbol begins; R478, R481; reset none. -/
  win : Option Nat := none
  /-- Number of that symbol in its frame; R478; reset 0. -/
  sym : Nat := 0
  /-- Fractional frequency of step 1, 2^-32 turns per sample; R478; reset 0. -/
  frac : Int := 0
  /-- Frequency removed from the samples from each sample number on, 2^-32 turns per sample; R482; reset none. -/
  freqs : List (Nat × Int) := []
  /-- Part of it that is the residual, mHz; R482; reset 0. -/
  res : Int := 0
  /-- Errors of the first path of the last symbols, samples, newest first, at most 8; R481; reset none. -/
  errs : List Int := []
  /-- Remainder of their mean, eighths of a sample; R481; reset 0. -/
  ramp : Int := 0
  /-- First and latest path of the last symbol; R481, R498; reset 0. -/
  paths : Int × Int := (0, 0)
  /-- Σ r[n] · r*[n + Tu] over the guard intervals of this frame; R482; reset 0. -/
  guard : Cx := {}
  /-- Σ|v|² of the slot samples of this frame, units of 2^-128; R498; reset 0. -/
  pw : Nat := 0
  /-- Their number. -/
  pn : Nat := 0
  /-- A sample of this frame carried HOLD or NOSEG; R480; reset false. -/
  held : Bool := false
  /-- Grid tick at which this frame began on the first path; R477; reset 0. -/
  began : Nat := 0
  /-- A whole frame waits to be decoded; reset none. -/
  full : Bool := false
deriving DecidableEq, Repr

/-- The database of one configuration of an ensemble (16 R451). -/
structure DabConf where
  /-- Subchannels, at most 64. -/
  subs : List DabSub := []
  /-- Services, at most 64. -/
  servs : List DabServ := []
  /-- Components, at most 128. -/
  comps : List DabComp := []
deriving DecidableEq, Repr

/-- A cluster under announcement switching (16 R463, R465). -/
structure DabCluster where
  /-- Cluster. -/
  id : Nat
  /-- ASw flags of the last FIG 0/19. -/
  asw : Nat
  /-- SubChId announced. -/
  subch : Nat
  /-- Region, or 0. -/
  region : Nat
  /-- ASw flags of the occurrence before it. -/
  prev : Nat
  /-- Datum time of the last FIG 0/19. -/
  at_ : Nat
deriving DecidableEq, Repr

/-- An ensemble instance's receiver and database (16 R440-R454). -/
structure DabInst where
  /-- Signal path. -/
  dsp : DabDsp := {}
  /-- Sync state, 0-4; reset 0. -/
  sync : Nat := 0
  /-- Warm at the last dispatch (R443). -/
  warm : Bool := false
  /-- Frame time. -/
  frameTime : Nat := 0
  /-- A null was found since the last PRS. -/
  nullSeen : Bool := false
  /-- Consecutive frames without a null near its place. -/
  nullMiss : Nat := 0
  /-- Consecutive frames without a good FIB. -/
  fibMiss : Nat := 0
  /-- HOLD in the last frame. -/
  hold : Bool := false
  /-- Residual frequency, mHz. -/
  residual : Int := 0
  /-- C has been written in this acquisition (R445). -/
  cWritten : Bool := false
  /-- Residuals of the frames since the last write, mHz, newest first, at most 4. -/
  resids : List Int := []
  /-- Level, MER and delay spread of the last frame. -/
  level : Int := 0
  /-- MER, 0.1 dB. -/
  mer : Int := 0
  /-- Delay spread, samples. -/
  spread : Nat := 0
  /-- Good and all FIBs of the last 10 frames, newest first; the head is the present frame. -/
  fibs : List (Nat × Nat) := []
  /-- Bad FIBs, u32 saturating. -/
  fibsBad : Nat := 0
  /-- The last 12 good FIBs, newest first. -/
  recent : List (List Byte) := []
  /-- Returns to state 0, u16 saturating. -/
  resyncs : Nat := 0
  /-- EId, 0 unknown. -/
  eid : Nat := 0
  /-- ECC, 0 unknown. -/
  ecc : Nat := 0
  /-- Al of FIG 0/0. -/
  al : Bool := false
  /-- CIF count. -/
  cif : Nat := 0
  /-- Occurrence change announced by FIG 0/0. -/
  change : Option Nat := none
  /-- Configuration in force. -/
  conf : DabConf := {}
  /-- Announced next configuration. -/
  nextConf : DabConf := {}
  /-- Frames since a new database element appeared. -/
  quiet : Nat := 0
  /-- The database is complete, and this has been reported in this synchronisation. -/
  complete : Bool := false
  /-- Ensemble label with its character set. -/
  label : Option (Nat × List Byte) := none
  /-- User applications: sid, SCIdS, type. -/
  apps : List (Nat × Nat × Nat) := []
  /-- FEC schemes of packet-mode subchannels. -/
  fec : List (Nat × Nat) := []
  /-- Announcement support: sid, ASu, clusters. -/
  support : List (Nat × Nat × List Nat) := []
  /-- Clusters. -/
  clusters : List DabCluster := []
  /-- The alarm of R465 is active. -/
  alarm : Bool := false
  /-- Offers made last, so that one is repeated only when its content changes (R452). -/
  offered : List FbOffer := []
deriving DecidableEq, Repr

/-- DAB_SERVICE_SELECT of a member (16 R469). -/
structure DabSel where
  /-- sid field. -/
  sid : Nat
  /-- flags. -/
  flags : Nat
  /-- SCIdS. -/
  scids : Nat
  /-- SubChId. -/
  subch : Nat
deriving DecidableEq, Repr

/-- What a selection resolves to (16 R469). -/
structure DabRes where
  /-- Subchannel. -/
  sub : DabSub
  /-- 0 Layer II, 1 DAB+, 2 stream data, 3 packet data. -/
  typ : Nat
  /-- Packet address. -/
  addr : Option Nat
deriving DecidableEq, Repr

/-- DAB state of one context (16). -/
structure DabSt where
  /-- FIG delivery masks of FIG 0 and, packed, of 1, 2 and 5/6; reset 0. -/
  figMask : Nat × Nat × Nat × Nat := (0, 0, 0, 0)
  /-- Accepted masks with their boundary; reset none. -/
  figNext : Option ((Nat × Nat × Nat × Nat) × Nat) := none
  /-- Selection in force; reset none. -/
  sel : Option DabSel := none
  /-- Accepted selection with its boundary; reset none. -/
  selNext : Option (Option DabSel × Nat) := none
  /-- Component selected, while it resolves; reset none. -/
  res : Option DabRes := none
  /-- The reply of DAB_SERVICE_SELECT reported the resolution, so that no event repeats it. -/
  told : Bool := false
  /-- A pending selection's failure has been reported since the last completeness or reconfiguration. -/
  failed : Bool := false
  /-- Subchannel decoded, with the CIFs decoded since its start (R457); reset none. -/
  decode : Option (DabSub × Nat) := none
  /-- The decode restarts with the next CIF (R454, R457, R464): this subchannel; reset none. -/
  restart : Option DabSub := none
  /-- DAB+ rather than Layer II, where known (R460). -/
  plus : Option Bool := none
  /-- Superframe synchronised, with consecutive failed tests and CIFs since the last superframe (R459). -/
  sf : Option (Nat × Nat) := none
  /-- Announcements that apply, by cluster, with the flags in force and follow state of R473. -/
  annos : List (Nat × Nat × Nat) := []
  /-- Cluster followed (R464), and the boundary at which the decode moves or returns. -/
  follow : Option Nat := none
  /-- The decode moves to this subchannel, or back to the selection (none), at this boundary. -/
  move : Option (Option Nat × Nat × Nat) := none
  /-- ber_pre. -/
  ber : Nat := 0
  /-- rs_corrected, u32. -/
  rsOk : Nat := 0
  /-- rs_failed, u32. -/
  rsBad : Nat := 0
  /-- au_errors, u32. -/
  auErr : Nat := 0
  /-- frames_lost, u32. -/
  lost : Nat := 0
deriving DecidableEq, Repr

/-! ## Chapter 17: DRM -/

/-- DRM_CFG settings (17 R500). -/
structure DrmCfg where
  /-- modes; default 0x0F. -/
  modes : Nat := 15
  /-- deliver; default 0. -/
  deliver : Nat := 0
deriving DecidableEq, Repr

/-- DRM state of one context (17). -/
structure DrmSt where
  /-- Settings; reset the defaults of R500. -/
  cfg : DrmCfg := {}
  /-- Accepted settings with their action and boundary; reset none. -/
  next : Option (DrmCfg × Nat × Nat) := none
  /-- Selection in force: sid, flags, short_id; R501; reset none. -/
  sel : Option (Nat × Nat × Nat) := none
  /-- Accepted selection with its boundary; reset none. -/
  selNext : Option (Option (Nat × Nat × Nat) × Nat) := none
  /-- The service that the selection resolves to; reset none. -/
  res : Option DrmServ := none
  /-- The reply of DRM_SERVICE_SELECT reported the resolution; reset false. -/
  told : Bool := false
  /-- Failure reported since the first good SDC or the last reconfiguration; reset false. -/
  failed : Bool := false
  /-- Signal path. -/
  dsp : DrmDsp := {}
  /-- Sync state, 0-5; reset 0. -/
  sync : Nat := 0
  /-- Warm at the last dispatch; reset false. -/
  warm : Bool := false
  /-- Robustness mode found, 0-4; reset none. -/
  mode : Option Nat := none
  /-- Spectrum occupancy; reset none. -/
  occ : Option Nat := none
  /-- Occupancy named by the last good FAC and consecutive good FACs that named it; reset none. -/
  occRun : Option (Nat × Nat) := none
  /-- New centre offset o_s waiting for its Round boundary (R476); reset none. -/
  offNext : Option (Nat × Nat) := none
  /-- Consecutive good FACs that name another robustness mode; reset 0. -/
  modeRun : Nat := 0
  /-- Frame time; reset 0. -/
  frameTime : Nat := 0
  /-- The last good FAC; reset none. -/
  fac : Option DrmFac := none
  /-- Services that the SDC in force describes; reset none. -/
  servs : List DrmServ := []
  /-- FACs of the last 10 frames, newest first: good; reset none. -/
  facs : List Bool := []
  /-- Consecutive frames without a good FAC; R480; reset 0. -/
  facMiss : Nat := 0
  /-- fac_bad, u32; reset 0. -/
  facBad : Nat := 0
  /-- sdc_bad, u32; reset 0. -/
  sdcBad : Nat := 0
  /-- Datum time of the last good SDC; reset 0. -/
  sdcAt : Nat := 0
  /-- A reconfiguration is announced, with its index; reset none. -/
  reconf : Option Nat := none
  /-- Alarm active; R497; reset false. -/
  alarm : Bool := false
  /-- Consecutive good SDCs for the next change of the alarm; reset 0. -/
  alarmRun : Nat := 0
  /-- Service that announces the alarm; reset 0. -/
  alarmSid : Nat := 0
  /-- Decode runs; R492; reset false. -/
  decode : Bool := false
  /-- Toggle and bytes of the last text message delivered; R494; reset none. -/
  text : Option (Nat × List Byte) := none
  /-- Residual frequency, mHz, since the last write of C; reset 0. -/
  residual : Int := 0
  /-- Level, MER, WMER, Doppler and spread of the last frame; reset 0. -/
  level : Int := 0
  /-- mer. -/
  mer : Int := 0
  /-- wmer. -/
  wmer : Int := 0
  /-- doppler. -/
  doppler : Nat := 0
  /-- spread. -/
  spread : Nat := 0
  /-- HOLD in the last frame; reset false. -/
  hold : Bool := false
  /-- au_errors, u32; reset 0. -/
  auErr : Nat := 0
  /-- frames_lost, u32; reset 0. -/
  lost : Nat := 0
  /-- resyncs, u16; reset 0. -/
  resyncs : Nat := 0
  /-- utc of entity 8, minutes; reset 0. -/
  utc : Nat := 0
  /-- Offers made last; R487; reset none. -/
  offered : List FbOffer := []
deriving DecidableEq, Repr

/-- What the demodulators keep per context and per ensemble instance (chapters 14-17). -/
structure DemodSt where
  /-- Narrowband, by context; reset none. -/
  nb : List (Nat × NbSt) := []
  /-- RDS, by context; reset none. -/
  rds : List (Nat × RdsSt) := []
  /-- DAB, by context; reset none. -/
  dab : List (Nat × DabSt) := []
  /-- DAB receivers, by ensemble instance; reset none. -/
  insts : List (Nat × DabInst) := []
  /-- DRM, by context; reset none. -/
  drm : List (Nat × DrmSt) := []
  /-- Check measurement in progress, by context; 14 R411; reset none. -/
  meas : List (Nat × Meas) := []
  /-- Live metrics since the last evaluation of its follow group, by context; 19 R544; reset none. -/
  live : List (Nat × Meas) := []
  /-- Check result held, by context; 14 R415; reset none. -/
  checks : List (Nat × CheckRes) := []
deriving DecidableEq, Repr


/-! ## Chapter 18: diversity combining -/

/-- State of a branch (18 R512). -/
inductive BranchState where
  | active
  | probation
  | dropped
deriving DecidableEq, Repr

/-- The samples of a branch and what the combiner keeps of it (18 R508-R510, R517, R518). -/
structure BranchDsp where
  /-- Samples not yet combined, oldest first; R509; reset none. -/
  buf : List SlotSample := []
  /-- Phase by which a remote branch is derotated, 2^-32 turns; R510; reset 0. -/
  rot : Nat := 0
  /-- C of the anchor with the datum tick from which it counts, oldest first; R510; reset none. -/
  corr : List (Nat × Int) := []
  /-- Values ahead of the channel filter, newest first, at most 127; R517; reset none. -/
  line : List Cx := []
  /-- Rms magnitude behind it over the last combined Round, units of 2^-64; R517; reset 0. -/
  rms : Nat := 0
  /-- Taps of the branch; R517; reset zero. -/
  eq : EqSt := {}
  /-- Noise blanker; R518; reset none. -/
  blank : BlankSt := {}
  /-- Samples of its clean Rounds in this window, oldest first; R518; reset none. -/
  win : List Cx := []
  /-- Weight in force, units of 2^-160 over 2^-64; R518; reset 0. -/
  w : Cx := {}
  /-- Weight of the window before, from which it cross-fades. -/
  wOld : Cx := {}
  /-- Moments of this window: samples, Σ|x|², Σ|x|⁴ at the common gain; R409, R523; reset 0. -/
  sums : NbSums := {}
  /-- Σ x_b · conj(x_0) of this window; R523; reset 0. -/
  corr0 : Cx := {}
deriving DecidableEq, Repr

/-- One branch of a combined service (18 R506, R512, R523). -/
structure BranchSt where
  /-- Remote, rather than local. -/
  remote : Bool
  /-- Input, or fabric address. -/
  source : Nat
  /-- Fabric stream of a remote branch, 0 otherwise. -/
  stream : Nat := 0
  /-- Slot of a local branch; branch 0 uses the anchor's. -/
  slot : Option Nat := none
  /-- State. -/
  state : BranchState := .probation
  /-- Consecutive clean Rounds, 0-8. -/
  clean : Nat := 0
  /-- Rounds combined since it was last active or was added. -/
  away : Nat := 0
  /-- drops, u16 saturating. -/
  drops : Nat := 0
  /-- late, u16 saturating. -/
  late : Nat := 0
  /-- weight, quality and phase as last measured. -/
  weight : Nat := 0
  /-- quality, 0.1 dB. -/
  quality : Int := 0
  /-- phase. -/
  phase : Int := 0
  /-- Round number and cause of R511 of the Rounds of a remote branch not yet combined, 0xFF clean. -/
  hist : List (Nat × Nat) := []
  /-- Frame count of the last frame of a remote branch (23 R642). -/
  count : Option Nat := none
  /-- Round whose first frame of a pair has come (23 R641), with its cause. -/
  half : Option (Nat × Nat) := none
  /-- Boundary from which it belongs to the service. -/
  since : Nat := 0
  /-- Samples and combining. -/
  dsp : BranchDsp := {}
deriving DecidableEq, Repr

/-- A combined service (18 R505). -/
structure CmbSt where
  /-- Anchor context. -/
  anchor : Nat
  /-- Latency L. -/
  latency : Nat
  /-- Branches 0-7. -/
  branches : List BranchSt
  /-- Samples of the cross-fade between weights made, 64 where none runs; R518; reset 64. -/
  fade : Nat := 64
  /-- Datum time of the last combined Round's boundary. -/
  boundary : Nat := 0
  /-- Boundary from which it exists. -/
  since : Nat
deriving DecidableEq, Repr

/-- An accepted CMB_CFG (18 R522). -/
structure CmbAct where
  /-- Service. -/
  service : Nat
  /-- Anchor, none for a release. -/
  anchor : Option Nat
  /-- Latency. -/
  latency : Nat
  /-- Branches besides branch 0. -/
  branches : List BranchSt
  /-- Boundary. -/
  due : Nat
deriving DecidableEq, Repr

/-- Diversity combining (chapter 18). -/
structure CombSt where
  /-- Combined services by number 0-7; 18 R505; reset none. -/
  services : List (Nat × CmbSt) := []
  /-- Accepted CMB_CFG not yet applied; 18 R522; reset none. -/
  acts : List CmbAct := []
deriving DecidableEq, Repr

/-! ## Chapter 19: Field Book and Service Following -/

/-- One valid Field Book entry (19 R525, R526). -/
structure FbEntry where
  /-- standard. -/
  std : Nat
  /-- pinned. -/
  pinned : Bool := false
  /-- tuned. -/
  tuned : Bool := false
  /-- stale. -/
  stale : Bool := false
  /-- source, 7 bits. -/
  source : Nat := 0
  /-- freq, kHz; 0 an identifier record. -/
  freq : Nat
  /-- input, 0xFF none. -/
  input : Nat := 0xFF
  /-- id. -/
  id : Nat := 0
  /-- eid. -/
  eid : Nat := 0
  /-- link. -/
  link : Nat := 0
  /-- level. -/
  level : Nat := 0
  /-- class. -/
  cls : Nat := 0
  /-- checked. -/
  checked : Bool := false
  /-- level_valid. -/
  levelValid : Bool := false
  /-- regional. -/
  regional : Bool := false
  /-- due, 18 bits. -/
  due : Nat := 0
  /-- seen, u32. -/
  seen : Nat := 0
  /-- checks, u8. -/
  checks : Nat := 0
  /-- misses, u8. -/
  misses : Nat := 0
  /-- Bytes 24-31. -/
  detail : List Nat := [0, 0, 0, 0, 0, 0, 0, 0]
deriving DecidableEq, Repr

/-- A host command accepted for a boundary (19 R528). -/
inductive FbCmd where
  | put (handle pin : Nat) (image : List Byte) (src : Nat)
  | drop (handle scope : Nat)
  | import_ (entries : List (List Byte)) (src accepted : Nat)
deriving DecidableEq, Repr

/-- The Field Book (19 R525-R540). -/
structure FieldBookSt where
  /-- Valid entries by handle 0-8191; R534; reset none. -/
  entries : List (Nat × FbEntry) := []
  /-- Offers not yet applied, in order of arrival; R528; reset none. -/
  offers : List FbOffer := []
  /-- Accepted commands with their boundary; R528; reset none. -/
  cmds : List (Nat × FbCmd) := []
  /-- Field Book generation, u32; R535; reset 0, DESIGN CHOICE log 12. -/
  gen : Nat := 0
  /-- First handle of the next sweep; R532; reset 0, DESIGN CHOICE log 12. -/
  sweep : Nat := 0
  /-- Offers refused since the last FB_FULL, u32; R533; reset 0. -/
  refused : Nat := 0
  /-- Datum time of the last FB_FULL; reset none. -/
  fullAt : Option Nat := none
  /-- Entries created, freed and updated since the last FB_CHANGED; R555; reset 0. -/
  created : Nat := 0
  /-- freed. -/
  freed : Nat := 0
  /-- updated. -/
  updated : Nat := 0
  /-- Last boundary at which an entry was created, updated, freed or pinned; R535; reset none. -/
  changedAt : Option Nat := none
  /-- Datum time of the last FB_CHANGED; reset none. -/
  eventAt : Option Nat := none
deriving DecidableEq, Repr

/-- A follow group (19 R541-R552). -/
structure FollowGrp where
  /-- mode: 1 advise, 2 automatic (an entry that is off is not in the table). -/
  mode : Nat
  /-- Regional variants admitted. -/
  regional : Bool
  /-- Contexts of the set. -/
  set : List Nat
  /-- CHECK contexts of the pool. -/
  pool : List Nat
  /-- Link set to follow, 0 for R531. -/
  link : Nat
  /-- On air. -/
  onAir : Nat
  /-- Handle of the prepared candidate. -/
  handle : Option Nat := none
  /-- Identifier whose service the prepared partner still has to select, with its boundary. -/
  prep : Option (Nat × Nat) := none
  /-- Datum time of the last evaluation, or of the arming. -/
  evalAt : Nat := 0
  /-- A switch that starts at this boundary, with its partner; true for a cut. -/
  switchDue : Option (Nat × Nat × Bool) := none
  /-- Entries that the pool measures: context and handle. -/
  checking : List (Nat × Nat) := []
  /-- s_air. -/
  sAir : Nat := 0
  /-- s_partner. -/
  sPartner : Nat := 0
  /-- Evaluations running at which s_air was 0. -/
  zero : Nat := 0
  /-- confirm. -/
  confirm : Nat := 0
  /-- Datum time of the last preparation failure. -/
  failAt : Option Nat := none
  /-- Datum time of the last switch. -/
  switchAt : Option Nat := none
  /-- switches, u16. -/
  switches : Nat := 0
  /-- reversals, u16. -/
  reversals : Nat := 0
  /-- checks, u32. -/
  checks : Nat := 0
deriving DecidableEq, Repr

/-- An accepted FOLLOW_CFG (19 R552). -/
structure FollowAct where
  /-- Programme. -/
  prog : Nat
  /-- The group as configured, none for mode 0. -/
  grp : Option FollowGrp
  /-- Switch now. -/
  switch : Bool
  /-- Boundary. -/
  due : Nat
deriving DecidableEq, Repr

/-- Following (19 R541-R553). -/
structure FollowSt where
  /-- Armed groups by programme; reset none. -/
  groups : List (Nat × FollowGrp) := []
  /-- Accepted FOLLOW_CFG not yet applied; reset none. -/
  acts : List FollowAct := []
deriving DecidableEq, Repr


/-! ## Chapter 20: audio -/

/-- PORT_CFG of one port (20 R584). -/
structure PortCfg where
  /-- 0 master, 1 slave. -/
  role : Nat
  /-- Format code. -/
  format : Nat
  /-- Rate code. -/
  rate : Nat
  /-- Slots per frame. -/
  slots : Nat
  /-- Bits per slot. -/
  slotBits : Nat
  /-- Bits per word. -/
  wordBits : Nat
  /-- Leader, 0xFF none. -/
  group : Nat
  /-- flags. -/
  flags : Nat
deriving DecidableEq, Repr

/-- Running state of a port or SPDO output (20 R575, R577). -/
inductive RunState where
  | stopped
  | running
  | stopping (since : Nat)
deriving DecidableEq, Repr

/-- A change of gain under way or over, raised-cosine (20 R560). -/
structure Ramp where
  /-- Gain before it, units of 2^-24. -/
  from_ : Nat
  /-- Gain after it. -/
  target : Nat
  /-- Datum time of the deciding event. -/
  at_ : Nat
  /-- Length, samples at 48 kHz. -/
  len : Nat
deriving DecidableEq, Repr

/-- A sample of the 48 kHz programme path (20 R559). -/
structure AudioSample where
  /-- Time stamp in thirds of a datum tick: 48 kHz samples stand 65,536 thirds apart. -/
  t3 : Nat
  /-- Left, 24 bits. -/
  l : Int
  /-- Right, 24 bits. -/
  r : Int
  /-- The two are the channels of a Layer II dual-channel stream (20 R557). -/
  dual : Bool := false
deriving DecidableEq, Repr

/-- A source behind its domain converter (20 R559). -/
structure AudioFeed where
  /-- Source samples, newest first, at most 64; reset none. -/
  line : List (Int × Int) := []
  /-- Phase of the interpolation; reset 0. -/
  phase : Nat := 0
  /-- 48 kHz samples of the last 5 s and those not yet due, newest first; reset none. -/
  out : List AudioSample := []
deriving DecidableEq, Repr

/-- The sample-rate converter of a programme (20 R564). -/
structure AsrcSt where
  /-- Its last 48 kHz samples, newest first, at most 512; reset none. -/
  line : List (Int × Int) := []
  /-- Input samples from the newest one to the next output, units of 2^-32; reset 0. -/
  pos : Nat := 0
  /-- Integrator of the ratio loop, ppm; reset 0. -/
  loop : Int := 0
  /-- Ratio deviation, ppm; reset 0. -/
  ratio : Int := 0
deriving DecidableEq, Repr

/-- A route of a programme to an output, while it sounds (20 R583). -/
structure RouteSt where
  /-- Programme. -/
  prog : Nat
  /-- Output: 0-3 AP0-AP3, 4-5 SPDO0-SPDO1. -/
  out : Nat
  /-- First slot. -/
  slot : Nat
  /-- flags of PROG_ROUTE. -/
  flags : Nat
  /-- Its ramps, newest first. -/
  gain : List Ramp
deriving DecidableEq, Repr

/-- One audio port (20 R568-R576). A group's frame FIFO, fault frames and clock are kept with its leader. -/
structure PortSt where
  /-- Configuration; reset unconfigured. -/
  cfg : Option PortCfg := none
  /-- Configuration that applies at the next boundary; reset none. -/
  next : Option PortCfg := none
  /-- Running; reset stopped. -/
  run : RunState := .stopped
  /-- A slave port's clock is valid; R573; reset false. -/
  clockOk : Bool := false
  /-- A slave port's clock was lost since the run; R573; reset false. -/
  clockLost : Bool := false
  /-- This port's part of the group's FIFO, oldest frame first, each a word per slot; R570; reset empty. -/
  fifo : List (List Int) := []
  /-- What each programme routed to the port has delivered and no frame holds yet: per sample the words by slot; R570; reset none. -/
  pend : List (Nat × List (List (Nat × Int))) := []
  /-- Frames sent in the last Round, oldest first, and fault frames since; R568, R571; reset none. -/
  sent : List (List Int) := []
  /-- The last complete frame sent; R571; reset none. -/
  last : List Int := []
  /-- Ramps of every route on the port at its start and stop and under R572 and R573, newest first; reset none. -/
  gate : List Ramp := []
  /-- The group is out of step; R570; reset false. -/
  outOfStep : Bool := false
  /-- Datum times of the fault frames of the last 1,024 frame periods, newest first; R572; reset none. -/
  faults : List Nat := []
  /-- Kind of the last fault frame; R591; reset 0, DESIGN CHOICE log 12. -/
  lastKind : Nat := 0
  /-- The routes of the group are muted by R572; reset false. -/
  muted : Bool := false
  /-- fault_frames since the run, saturating; R589; reset 0. -/
  faultFrames : Nat := 0
  /-- saturations since the run, saturating; R589; reset 0. -/
  saturations : Nat := 0
  /-- BCLK and FS are driven low because the port is or was a master; R575, R584; reset false. -/
  drivesLow : Bool := false
deriving DecidableEq, Repr

/-- One IEC 60958 output (20 R577-R580, R586). -/
structure SpdoSt where
  /-- Rate code; reset unconfigured. -/
  rate : Option Nat := none
  /-- Host text; reset none. -/
  text : List Byte := []
  /-- Running; reset stopped. -/
  run : RunState := .stopped
  /-- Frames begun since its start; R577, R579; reset 0. -/
  frames : Nat := 0
  /-- Channel status property in force since the last block start; R579; reset 0. -/
  cs : Nat := 0
  /-- Ramps of its start and stop, newest first; R575, R577; reset none. -/
  gate : List Ramp := []
  /-- What its programme has delivered since the last boundary; R577, R578; reset none. -/
  pend : List (Int × Int × Bool) := []
  /-- Frames sent in the last Round, oldest first: left, right and validity bit; R577, R578; reset none. -/
  sent : List (Int × Int × Bool) := []
  /-- Text whose message the user bits carry; R580; reset none. -/
  user : List Byte := []
  /-- Frame, counted from the start, at which that message last began; R580; reset 0. -/
  userAt : Nat := 0
deriving DecidableEq, Repr

/-- The partner of a programme and its alignment (19 R546-R548, 20 R567). -/
structure BlendSt where
  /-- Partner context. -/
  partner : Nat
  /-- Target of a manual blend rather than a group's partner. -/
  manual : Bool
  /-- Standard and frequency it was prepared for. -/
  place : Nat × Nat
  /-- Boundary from which it should hold that tuning. -/
  since : Nat
  /-- Boundary from which it has run on that tuning. -/
  runAt : Option Nat := none
  /-- Boundary from which its audio has been released. -/
  relAt : Option Nat := none
  /-- Datum time of the last measurement. -/
  measAt : Option Nat := none
  /-- Lag of the last measurement, where its peak was 0.5 or more. -/
  lastLag : Option Int := none
  /-- λ once aligned, samples at 48 kHz. -/
  lag : Option Int := none
  /-- Mismatched. -/
  mismatched : Bool := false
  /-- Ready. -/
  ready : Bool := false
  /-- Change of the lag from the measurement before the last to the last, samples; R566. -/
  drift : Int := 0
deriving DecidableEq, Repr

/-- A fade or cut under way (19 R549-R551, 20 R566). -/
structure FadeSt where
  /-- Outgoing context. -/
  from_ : Nat
  /-- Incoming context. -/
  target : Nat
  /-- Boundary at which it started. -/
  start : Nat
  /-- Datum time at which it ends. -/
  ends : Nat
  /-- Result as FOLLOW_SWITCH codes it: 0 switched, 1 cut, 2 reversed, 3 completed early, 4 both lost. -/
  result : Nat
  /-- A cut rather than a cross-fade. -/
  cut : Bool := false
  /-- Position at the datum time from which it takes its present course, units of 2^-24. -/
  x0 : Nat := 0
  /-- That datum time. -/
  t0 : Nat := start
deriving DecidableEq, Repr

/-- What a programme takes from a PROG_ROUTE, PROG_LEVEL or BLEND_CFG (20 R583, R587, R588). -/
structure ProgSt where
  /-- Source context; reset none. -/
  src : Option Nat := none
  /-- ports mask: APn, SPDO0, SPDO1; reset 0. -/
  ports : Nat := 0
  /-- First slot; reset 0. -/
  slot : Nat := 0
  /-- flags; reset 0. -/
  flags : Nat := 0
  /-- Host gain, half dB; reset 0. -/
  gain : Int := 0
  /-- Mute causes of R561, bits 0-5; reset bit 1 (no source). -/
  causes : Nat := 2
  /-- Blend shape; reset 1. -/
  shape : Nat := 1
  /-- Fade time, ms; reset 200. -/
  fade : Nat := 200
  /-- The blend buffer is held by BLEND_CFG; reset false. -/
  hold : Bool := false
  /-- bad_frames since the last route, u16 saturating; reset 0. -/
  badFrames : Nat := 0
  /-- Sample-rate converter, with its ratio deviation of R589. -/
  asrc : AsrcSt := {}
  /-- Ramps of the programme's mute, newest first; R561; reset none (muted). -/
  mute : List Ramp := []
  /-- Ramps of the host gain, newest first; R562; reset none (0 dB). -/
  level : List Ramp := []
  /-- Partner of a follow group or a manual blend; 19 R546-R548, 20 R567; reset none. -/
  blend : Option BlendSt := none
  /-- Fade or cut under way; 19 R549-R551; reset none. -/
  fading : Option FadeSt := none
  /-- Delay of the blend buffer at `deltaAt`, in units of 1/65,536,000,000 sample; 19 R548; reset 0. -/
  delta : Nat := 0
  /-- Datum time at which `delta` was taken; 19 R548; reset 0. -/
  deltaAt : Nat := 0
  /-- `delta` and `deltaAt` as they were before; 19 R548; reset 0. -/
  deltaWas : Nat × Nat := (0, 0)
  /-- What the buffer delay of the on-air version lies below δ since a switch, in the same units; 19 R549; reset 0. -/
  base : Nat := 0
deriving DecidableEq, Repr

/-- An accepted audio command waiting for its boundary (20 "Commands"). -/
inductive AudAct where
  | route (prog : Nat) (src : Option Nat) (ports slot flags : Nat)
  | level (prog : Nat) (mute : Bool) (gain : Int)
  | blend (prog shape fade : Nat) (hold : Bool) (action target : Nat)
  | run (outputs : Nat) (on : Bool)
  | spdif (out rate : Nat) (text : List Byte)
deriving DecidableEq, Repr

/-- Audio (chapter 20). -/
structure AudioSt where
  /-- Programmes 0-3; R562; reset without source and route. -/
  progs : List ProgSt := List.replicate 4 {}
  /-- Ports AP0-AP3; R584; reset unconfigured. -/
  ports : List PortSt := List.replicate 4 {}
  /-- SPDO0 and SPDO1; R586; reset unconfigured. -/
  spdo : List SpdoSt := List.replicate 2 {}
  /-- Routes that sound, removed ones while they ramp down included; R583; reset none. -/
  routes : List RouteSt := []
  /-- Sources and partners behind their domain converters, by context; R559; reset none. -/
  feeds : List (Nat × AudioFeed) := []
  /-- Datum time up to which the programme path has run; R559; reset 0. -/
  done : Nat := 0
  /-- Accepted commands in sequence-index order with their boundary; reset none. -/
  acts : List (Nat × AudAct) := []
  /-- SPDI is lost, none while the receiver has not judged it; R581; reset none. -/
  spdiLost : Option Bool := none
  /-- P.MCLK_OUT as it acts; R582; reset 0. -/
  mclkOut : Nat := 0
deriving DecidableEq, Repr

/-! ## Chapter 21: data queues -/

/-- One data queue, Q8-Q127 (21 R592-R607). -/
structure DQueue where
  /-- Size, pages; 07 R224; reset 0 (disabled). -/
  pages : Nat := 0
  /-- Complete records, oldest first, each with its header; 07 R192; reset none. -/
  recs : List (List Byte) := []
  /-- Records dropped since the last QUEUE_CFG, u32 saturating; R607; reset 0. -/
  drops : Nat := 0
  /-- Records dropped since the previous gap record, u32 saturating; R594; reset 0. -/
  gap : Nat := 0
  /-- Low time of the first of them; R594; reset 0. -/
  gapFirst : Nat := 0
  /-- Highest fill level; R607; reset 0. -/
  high : Nat := 0
  /-- Head sequence, u16; R604; reset 0, DESIGN CHOICE log 12. -/
  seq : Nat := 0
  /-- MOT objects written, u32 saturating; R607; reset 0. -/
  motDone : Nat := 0
  /-- MOT objects discarded, u32 saturating; R607; reset 0. -/
  motFailed : Nat := 0
deriving DecidableEq, Repr

/-- An accepted QUEUE_CFG or QUEUE_BIND waiting for its boundary (21 R602, R603). -/
inductive QAct where
  | size (queue pages : Nat)
  | bind (ctx : Nat) (queue : Option Nat) (mot : Bool)
deriving DecidableEq, Repr

/-- A MOT object in reassembly (21 R598, R599). -/
structure MotObj where
  /-- Transport ID. -/
  tid : Nat
  /-- MOT header. -/
  header : List Byte
  /-- BodySize of its header core. -/
  bodyLen : Nat
  /-- Segments received, by number. -/
  segs : List (Nat × List Byte)
  /-- Number of the segment marked last. -/
  last : Option Nat
  /-- Datum time of its last segment, or of its opening. -/
  at_ : Nat
deriving DecidableEq, Repr

/-- MOT reassembly and binding of one context (21 R598-R603). -/
structure BindSt where
  /-- Bound queue. -/
  queue : Nat
  /-- MOT reassembly is on. -/
  mot : Bool
  /-- Objects in reassembly, at most 8. -/
  objs : List MotObj := []
  /-- The directory's entries: transport ID and MOT header. -/
  dir : List (Nat × List Byte) := []
  /-- The last 64 objects written, newest first: transport ID and CRC-32 of the header. -/
  done : List (Nat × Nat) := []
deriving DecidableEq, Repr

/-- Data queues and bindings (chapter 21). -/
structure DataSt where
  /-- Queues that have been configured, by number 8-127; 07 R224; reset none (every size 0). -/
  queues : List (Nat × DQueue) := []
  /-- Bindings by context; R603; reset none. -/
  binds : List (Nat × BindSt) := []
  /-- Accepted changes in sequence-index order with their boundary; reset none. -/
  acts : List (Nat × QAct) := []
deriving DecidableEq, Repr


/-! ## Chapter 22: standby watch receiver -/

/-- One entry of the watch list, with what its dwells showed (22 R613, R617, R624). -/
structure WatchEntry where
  /-- freq, kHz. -/
  freq : Nat
  /-- std: 0 FM, 2 DAB, 3 DRM30, 4 DRM+. -/
  std : Nat
  /-- flags: bit 0 RDS2 alert group, bit 1 RBDS. -/
  flags : Nat
  /-- gtype. -/
  gtype : Nat
  /-- min_level, coded as R318. -/
  minLevel : Nat
  /-- Expected PI, EId or service identifier, 0 any. -/
  id : Nat
  /-- Alarm state; R617. -/
  alarm : Bool := false
  /-- result of the last dwell. -/
  result : Nat := 0
  /-- level. -/
  level : Nat := 0
  /-- alerts, u16 saturating. -/
  alerts : Nat := 0
  /-- dwells, u16 saturating. -/
  dwells : Nat := 0
deriving DecidableEq, Repr

/-- The parameters of WATCH_ENTER (22 R623). -/
structure WatchOpts where
  /-- Wake on an alarm beginning. -/
  wake : Bool := false
  /-- Keep contexts and the Field Book. -/
  retain : Bool := false
  /-- ax0. -/
  ax0 : Nat := 0
  /-- gpio, 0xFF none. -/
  gpio : Nat := 0xFF
  /-- R619 applies to IRQ_N. -/
  irq : Bool := false
deriving DecidableEq, Repr

/-- state of WATCH_STATUS (22 R624). -/
inductive WatchPhase where
  | off
  | entering
  | watching
  | leaving
deriving DecidableEq, Repr

/-- A watch command that waits for the SYN1 calibration in progress (22 R622). -/
inductive WatchWait where
  | list (l : List WatchEntry)
  | enter (o : WatchOpts)
deriving DecidableEq, Repr

/-- The standby watch receiver (chapter 22). -/
structure WatchSt where
  /-- Watch list, at most 16 entries; R613; reset empty. -/
  list : List WatchEntry := []
  /-- Accepted list that applies at the next boundary or at the end of the dwell; R613; reset none. -/
  next : Option (List WatchEntry) := none
  /-- Boundary at which an accepted list applies in ACTIVE; R613; reset 0, DESIGN CHOICE log 12. -/
  nextDue : Nat := 0
  /-- Commands that wait for SYN1, in order; R622; reset none. -/
  waits : List WatchWait := []
  /-- Options of the last WATCH_ENTER; R623; reset gpio 0xFF, others 0 (DESIGN CHOICE log 60). -/
  opts : WatchOpts := {}
  /-- Phase; R618-R620, R624; reset not watching. -/
  phase : WatchPhase := .off
  /-- When the phase began; reset 0, DESIGN CHOICE log 12. -/
  since : Nat := 0
  /-- The boundary of R618 has parked or closed the contexts; reset false. -/
  parked : Bool := false
  /-- Cause and entry of the exit under way; R620, R625; reset 0, 0xFF, DESIGN CHOICE log 12. -/
  exit : Nat × Nat := (0, 0xFF)
  /-- Entry in dwell; R614; reset none. -/
  current : Option Nat := none
  /-- Entry to which a hop runs; R611; reset none. -/
  hop : Option Nat := none
  /-- The hop waits for a SYN1 calibration; R611; reset false. -/
  hopCal : Bool := false
  /-- Start of the dwell; R614; reset 0, DESIGN CHOICE log 12. -/
  dwellAt : Nat := 0
  /-- Its level has been measured; R615; reset false. -/
  measured : Bool := false
  /-- cycles, u32 saturating; R624; reset 0. -/
  cycles : Nat := 0
  /-- Datum time of the last WATCH_ALERT, 0 none; R624; reset 0. -/
  lastAlert : Nat := 0
  /-- GPIO driven and its level, none while every GPIO is an input of this chapter; R619; reset none. -/
  gpio : Option (Nat × Bool) := none
deriving DecidableEq, Repr

/-! ## Chapters 23 and 24: Carillon -/

/-- State of a port (23 R627). -/
inductive ClPortMode where
  | off
  | training
  | linked
  | up
deriving DecidableEq, Repr

/-- A frame begun on a port: the datum time scheduled for its /S/ and its bytes (24 R658). -/
structure TxFrame where
  /-- Port. -/
  port : Nat
  /-- Scheduled instant. -/
  at_ : Nat
  /-- Bytes of R629. -/
  bytes : List Byte
deriving DecidableEq, Repr

/-- The Toll last accepted on a port (24 R661). -/
structure TollSeen where
  /-- Number of the Round, of this device, in which it arrived. -/
  round : Nat
  /-- ttl as received. -/
  ttl : Nat
  /-- flags bit 0: upstream holdover. -/
  held : Bool
deriving DecidableEq, Repr

/-- One Carillon port (23 R626-R632, 24 R667, R672). -/
structure ClPortSt where
  /-- Enabled by CL_PORT; 23 R648; reset false. -/
  enabled : Bool := false
  /-- Accepted CL_PORT with its boundary; 23 R648; reset none. -/
  next : Option (Nat × Bool) := none
  /-- State; 23 R627; reset OFF. -/
  mode : ClPortMode := .off
  /-- Code errors, u16 saturating; 23 R654; reset 0. -/
  errors : Nat := 0
  /-- Own present challenge; 23 R632; reset 0. -/
  challenge : BitVec 64 := 0
  /-- The neighbour's last challenge, 8 bytes, none received; 23 R632; reset none. -/
  heard : List Byte := []
  /-- A HELLO with a response has been sent since LINKED; 23 R632; reset false. -/
  answered : Bool := false
  /-- Datum time of the last HELLO since LINKED; 23 R632; reset none. -/
  helloAt : Option Nat := none
  /-- Neighbour unique ID, none unknown; 23 R654, R656; reset none. -/
  neighbour : List Byte := []
  /-- Neighbour's port; 23 R656; reset 0. -/
  nbrPort : Nat := 0
  /-- Neighbour's KEY_REV; 23 R656; reset 0. -/
  nbrKey : Nat := 0
  /-- Best-effort frames that wait, in order of arrival, each with whether this device originates it; 23 R631; reset
  none. -/
  waiting : List (Bool × List Byte) := []
  /-- Datum time of the last best-effort frame sent before Toll timing; 23 R631; reset none. -/
  sentAt : Option Nat := none
  /-- Arrival error e, 1/16 tick; 24 R667; reset none. -/
  e : Option Int := none
  /-- fwd_err of the neighbour's last Toll; 24 R668; reset none. -/
  fwdErr : Option Int := none
  /-- Datum time of the last accepted frame; 24 R672; reset none. -/
  frameAt : Option Nat := none
  /-- Drift-suspect; 24 R672; reset false. -/
  suspect : Bool := false
  /-- Arrival of the last Toll counted for R672; reset none. -/
  tollX : Option Int := none
  /-- Boundary at which a drift-suspect port passes to normal; 24 R672; reset none. -/
  normalDue : Option Nat := none
  /-- The Toll last accepted; 24 R662; reset none. -/
  toll : Option TollSeen := none
deriving DecidableEq, Repr

/-- A row of the address table (23 R636). -/
structure AddrEnt where
  /-- Unique ID. -/
  uid : List Byte
  /-- Address. -/
  addr : Nat
  /-- Refreshes since the device was last present. -/
  absent : Nat := 0
deriving DecidableEq, Repr

/-- A topology answer (23 R633, R637). -/
structure TopoAns where
  /-- Unique ID of the answering device. -/
  uid : List Byte
  /-- Its address. -/
  addr : Nat
  /-- Unique IDs of its neighbours on ports 0-3, none where not UP. -/
  nbrs : List (List Byte)
deriving DecidableEq, Repr

/-- One row of the route table (23 R637). -/
structure RouteEnt where
  /-- Address. -/
  addr : Nat
  /-- Next port, none for this device. -/
  port : Option Nat
  /-- Hops, 0 for this device. -/
  hops : Nat
  /-- Unique ID. -/
  uid : List Byte
  /-- Its port has left UP since the route was made: it carries nothing, also when the port returns (R638). -/
  cut : Bool := false
deriving DecidableEq, Repr

/-- A stream that this device serves (23 R639-R643). -/
structure StreamSt where
  /-- Stream number. -/
  stream : Nat
  /-- Context. -/
  ctx : Nat
  /-- Destination. -/
  dest : Nat
  /-- k. -/
  k : Nat
  /-- Stream number by which its bundle is named; its own where it is the first member or k is 3. -/
  bundle : Nat
  /-- First fabric slot, 0 while none is granted. -/
  first : Nat := 0
  /-- Slots used. -/
  slots : Nat
  /-- Boundary from which it is sent. -/
  start : Nat := 0
  /-- Suspended. -/
  suspended : Bool := false
  /-- It has asked for slots and has no answer. -/
  asked : Bool := false
  /-- Boundary at which it stops. -/
  closeDue : Option Nat := none
  /-- Samples of its slot in the last Rounds, oldest first; R639; reset none. -/
  buf : List SlotSample := []
  /-- Frame count of its next frame. -/
  seq : Nat := 0
deriving DecidableEq, Repr

/-- A slot request that the Benchmark holds (24 R664). -/
structure SlotReq where
  /-- Unique ID of the serving device. -/
  uid : List Byte
  /-- Stream. -/
  stream : Nat
  /-- Destination. -/
  dest : Nat
  /-- k. -/
  k : Nat
  /-- Slots asked for. -/
  count : Nat
  /-- Frame type. -/
  frame : Nat
deriving DecidableEq, Repr

/-- A grant that the Benchmark has made (24 R663-R666). -/
structure GrantSt where
  /-- Stream. -/
  stream : Nat
  /-- Source address. -/
  src : Nat
  /-- Destination. -/
  dest : Nat
  /-- First slot. -/
  first : Nat
  /-- Slots. -/
  count : Nat
  /-- Addresses along the path, source first. -/
  path : List Nat
  /-- Boundary at which its slots come free, none while it is in force. -/
  freeAt : Option Nat := none
deriving DecidableEq, Repr

/-- An outstanding remote command of this device (23 R644). -/
structure RemoteCmd where
  /-- Remote sequence. -/
  rseq : Nat
  /-- Target address. -/
  dev : Nat
  /-- The packet. -/
  packet : List Byte
  /-- Interface of the sender. -/
  src : Iface
  /-- Sends so far. -/
  sends : Nat
  /-- Datum time of the last send. -/
  sentAt : Nat
  /-- Acknowledged: no further repeat, and the packet has left Q6. -/
  acked : Bool := false
deriving DecidableEq, Repr

/-- A reply to a remote command that waits for its REPLY_ACK (23 R646). -/
structure RemoteReply where
  /-- Destination address. -/
  dev : Nat
  /-- Remote sequence of the command. -/
  rseq : Nat
  /-- The reply. -/
  bytes : List Byte
  /-- Sends so far. -/
  sends : Nat
  /-- Datum time of the last send. -/
  sentAt : Nat
deriving DecidableEq, Repr

/-- State of the discipline loop (24 R669, R676). -/
inductive LoopState where
  | none_
  | acquiring
  | tracking
  | locked
  | holdover
  | benchmark
deriving DecidableEq, Repr

/-- Whether the device takes part in a fabric (23 R649, R654). -/
inductive ClPhase where
  | apart
  | discovering
  | joined
deriving DecidableEq, Repr

/-- Carillon (chapters 23 and 24). -/
structure ClSt where
  /-- Ports CL0-CL3; 23 R627; reset OFF. -/
  ports : List ClPortSt := List.replicate 4 {}
  /-- Frames that the last step begun any of them began; 24 R658; reset none. -/
  tx : List TxFrame := []
  /-- Not joined, discovering or joined; 23 R649, R654; reset not joined. -/
  phase : ClPhase := .apart
  /-- Boundary at which an accepted CL_JOIN starts; 23 R649; reset none. -/
  joinDue : Option Nat := none
  /-- Boundary of an accepted CL_LEAVE; 23 R650; reset none. -/
  leaveDue : Option Nat := none
  /-- LEAVE payload computed when it joined; 23 R633; reset none. -/
  leave : List Byte := []
  /-- Serial of the next peal, u16; 23 R633; reset 1, DESIGN CHOICE log 12. -/
  serial : Nat := 1
  /-- Benchmark held: preference and unique ID; 23 R635; reset none. -/
  best : Option (Nat × List Byte) := none
  /-- quiet of R635 while an election runs; reset none. -/
  quiet : Option Nat := none
  /-- Datum time of the last announce; 23 R635; reset none. -/
  announceAt : Option Nat := none
  /-- Devices that an election excludes as departed; 23 R635; reset none. -/
  excluded : List (List Byte) := []
  /-- Unique IDs heard in announces; 23 R636; reset none. -/
  heard : List (List Byte) := []
  /-- Address table: the Benchmark's own, or that of the last grant; 23 R636; reset none. -/
  addrs : List AddrEnt := []
  /-- CL_DISCOVERY_DONE raised since the join; 23 R636; reset false. -/
  told : Bool := false
  /-- Seen-cache of 64, newest first: origin and serial; 23 R634; reset none. -/
  seen : List (List Byte × Nat) := []
  /-- Peals refused, u16 saturating; 23 R634, R654; reset 0. -/
  refused : Nat := 0
  /-- Frames discarded, u32 saturating; 23 R631, R642, R654; reset 0. -/
  discarded : Nat := 0
  /-- Route table; 23 R637; reset empty. -/
  routes : List RouteEnt := []
  /-- Refresh number of the table in use; 23 R654; reset 0, DESIGN CHOICE log 12. -/
  refresh : Nat := 0
  /-- Answers behind the table in use; 24 R663; reset none. -/
  topo : List TopoAns := []
  /-- Refreshes under way, oldest first: number, the boundary at which the table applies, answers; 23 R637; reset none. -/
  pending : List (Nat × Nat × List TopoAns) := []
  /-- Number of the last topology request heard or sent, u16; 23 R637; reset 0, DESIGN CHOICE log 12. -/
  lastRefresh : Nat := 0
  /-- Datum time of the last request of this Benchmark; 23 R637; reset none. -/
  requestAt : Option Nat := none
  /-- An unsolicited answer asks for a request; 23 R637; reset false. -/
  unsolicited : Bool := false
  /-- Refreshes under way that an unsolicited answer brought on; 23 R637, R638; reset none. -/
  early : List Nat := []
  /-- Links, by device and port, that some answer since the last scheduled table did not show; 23 R638, 24 R672; reset none. -/
  gone : List (List Byte × Nat) := []
  /-- Devices whose LEAVE was accepted, removed at the next boundary; 23 R638; reset none. -/
  left : List (List Byte) := []
  /-- Contexts that pass to the port of HOST_SEL at the next boundary; 07 R208; reset none. -/
  orphans : List Nat := []
  /-- Streams served; 23 R639; reset none. -/
  streams : List StreamSt := []
  /-- CL_STREAM_OPEN that waits for the Benchmark: the stream asked for and when; 23 R651; reset none. -/
  opening : Option (StreamSt × Nat) := none
  /-- Releases not confirmed: stream and datum time of the last release peal; 24 R665; reset none. -/
  releases : List (Nat × Nat) := []
  /-- Requests that this Benchmark holds; 24 R664; reset none. -/
  requests : List SlotReq := []
  /-- Grants in force in the order first made, as this device made or heard them; 24 R663, R664; reset none. -/
  grants : List GrantSt := []
  /-- Serial of the last slot grant peal accepted; 24 R661; reset 0, DESIGN CHOICE log 12. -/
  grantSerial : Nat := 0
  /-- Remote sequence of the next command; 23 R644; reset 1. -/
  rseq : Nat := 1
  /-- Outstanding remote commands (Q6); 23 R644, R653; reset none. -/
  cmds : List RemoteCmd := []
  /-- Per source address, the last 16 sequences with the result acknowledged, newest first; 23 R645; reset none. -/
  pairs : List (Nat × List (Nat × Nat)) := []
  /-- Replies not yet acknowledged; 23 R646; reset none. -/
  replies : List RemoteReply := []
  /-- Per target, the last 16 reply sequences, newest first; 23 R646; reset none. -/
  replySeqs : List (Nat × List Nat) := []
  /-- Stored replies, newest first, 8 for each local interface: interface, remote sequence, reply; 23 R646; reset none. -/
  stored : List (Iface × Nat × List Byte) := []
  /-- Duplicates counted since the last CL_DUPLICATE; 23 R656; reset 0. -/
  dups : Nat := 0
  /-- The last duplicate: source, remote sequence, kind; 23 R656; reset 0. -/
  lastDup : Nat × Nat × Nat := (0, 0, 0)
  /-- Datum time of the last CL_DUPLICATE; 23 R656; reset none. -/
  dupAt : Option Nat := none
  /-- State of the loop; 24 R669; reset not joined. -/
  loop : LoopState := .none_
  /-- Why the loop acquires, as CL_PHASE_STEP codes it; 24 R678; reset 1, DESIGN CHOICE log 12. -/
  acquireCause : Nat := 1
  /-- Toll port; 24 R662; reset none. -/
  tollPort : Option Nat := none
  /-- A Toll to be sent on in the device's next own slot 0; 24 R662, R672; reset none. -/
  heldToll : List Byte := []
  /-- The trim of PLL_A, ppb; 24 R669; reset 0. -/
  trim : Int := 0
  /-- What the loop has integrated, units of 2^-16 ppb; 24 R669; reset 0. -/
  integ : Int := 0
  /-- Trim of the last lock, ppb; 24 R669; reset 0. -/
  lockTrim : Int := 0
  /-- Cause of the present or last holdover; 24 R678; reset 0, DESIGN CHOICE log 12. -/
  holdCause : Nat := 0
  /-- Trims of the last 64 Rounds, newest first; 24 R673; reset none. -/
  trims : List Int := []
  /-- Twice φ of the Toll port at the last boundary, 1/16 tick; 24 R668; reset none. -/
  phi2 : Option Int := none
  /-- A slew runs; 24 R670; reset false. -/
  slewing : Bool := false
  /-- Consecutive Rounds with |φ| below 1 tick; 24 R669; reset 0. -/
  near : Nat := 0
  /-- Consecutive Rounds with |φ| at or above 4 ticks; 24 R669; reset 0. -/
  far : Nat := 0
  /-- Rounds in the present or last holdover, u32; 24 R676; reset 0. -/
  holdRounds : Nat := 0
  /-- Ticks of the last step; 24 R676; reset 0. -/
  lastStep : Int := 0
  /-- Boundary after the last step, for member header bit 5; 24 R671; reset none. -/
  stepAt : Option Nat := none
  /-- steps, u16 saturating; 24 R676; reset 0. -/
  steps : Nat := 0
  /-- holdovers, u16 saturating; 24 R676; reset 0. -/
  holdovers : Nat := 0
  /-- late, u32 saturating; 24 R660; reset 0. -/
  late : Nat := 0
  /-- window, u32 saturating; 24 R667; reset 0. -/
  window : Nat := 0
  /-- suspects, u16 saturating; 24 R676; reset 0. -/
  suspects : Nat := 0
  /-- Datum time of the last Round boundary; 24 R676; reset 0, DESIGN CHOICE log 12. -/
  boundary : Nat := 0
  /-- It was joining or joined when WATCH began; 24 R672; reset false. -/
  rejoin : Bool := false
deriving DecidableEq, Repr

/-- Everything the spec gives the block apart from the queue of waiting commands. -/
structure Dev where
  /-- Datum time, in ticks (its low 64 bits are the counter of 01 R26-R28); 03 R78; reset 0, DESIGN CHOICE log 2. -/
  now : Nat := 0
  /-- Chapters 02, 03, 26. -/
  pwr : PowerSt := {}
  /-- Chapter 04. -/
  clk : ClockSt := {}
  /-- Chapter 05. -/
  regs : RegSt := {}
  /-- Chapter 06, target. -/
  tw : TwSt := {}
  /-- Chapter 06, controller. -/
  twc : TwcSt := {}
  /-- Chapter 07. -/
  proto : ProtoSt := {}
  /-- Chapter 08. -/
  sec : SecSt := {}
  /-- Chapter 09. -/
  rf : RfSt := {}
  /-- Chapter 10. -/
  cal : CalSt := {}
  /-- Chapter 11. -/
  survey : SurveySt := {}
  /-- Chapter 12. -/
  chan : ChanSt := {}
  /-- Chapter 13. -/
  trav : TravSt := {}
  /-- Chapters 14-17. -/
  dem : DemodSt := {}
  /-- Chapter 18. -/
  comb : CombSt := {}
  /-- Chapter 19, the Field Book. -/
  fb : FieldBookSt := {}
  /-- Chapter 19, following. -/
  follow : FollowSt := {}
  /-- Chapter 20. -/
  audio : AudioSt := {}
  /-- Chapter 21. -/
  data : DataSt := {}
  /-- Chapter 22. -/
  watch : WatchSt := {}
  /-- Chapters 23 and 24. -/
  cl : ClSt := {}
  /-- Chapter 25. -/
  toc : TocsinSt := {}
  /-- The model's own counter of free values drawn; no rule of the spec; reset 0, DESIGN CHOICE log 1. -/
  draws : Nat := 0
deriving DecidableEq, Repr

/-- The machine: the block and the commands waiting for it, first in, first out. -/
structure State where
  /-- The block. -/
  dev : Dev
  /-- The commands that wait, the next one first. -/
  pending : List Instr
deriving DecidableEq, Repr

/-- Why a step stops with a fault. -/
inductive Fault where
  /-- Raised by no meaning: the spec names no command that stops the block without an effect. Safe. -/
  | noneKnown
deriving DecidableEq, Repr

/-- Why a command has no meaning. -/
inductive Refusal where
  /-- Raised by `exec` for a command whose meaning is not written. Safe: the model stops. -/
  | notModelled (mnemonic : String)
  /-- Raised by RESERVED_OPCODE for a factory test opcode that SEC_DEBUG_UNLOCK has opened: the spec gives the
  factory test opcodes no effect (07 R228, 08 R244). Safe: the model stops. -/
  | factoryTest (opcode : Nat)
deriving DecidableEq, Repr

/-- The machine held in reset with its supplies in range, REFCLK running and RESET_N low: every field at its value at
reset, no command waiting. -/
def State.reset : State := { dev := {}, pending := [] }

end Sys2Proof.Machine
end

