-- ==== Sys2Proof/Machine/Ops.lean ====
section
/-!
DEFINITION. The named operations that every chapter's meanings are written over: bytes and their little-endian
fields (00 R19), time (00 R21), the part and its fitted resources (00 R1), table access, the way a meaning runs on
the state, and the CRCs of 07 R189 and 08 R245.
-/
namespace Sys2Proof.Machine

/-! ## Bytes -/

/-- The `n` low bytes of `v`, least significant first (00 R19). -/
def leBytes : Nat → Nat → List Byte
  | 0, _ => []
  | n + 1, v => BitVec.ofNat 8 v :: leBytes n (v / 256)

/-- The number that little-endian bytes spell (00 R19). -/
def leNat : List Byte → Nat
  | [] => 0
  | b :: rest => b.toNat + 256 * leNat rest

/-- A u8 field. -/
def u8 (v : Nat) : List Byte := leBytes 1 v
/-- A u16 field. -/
def u16 (v : Nat) : List Byte := leBytes 2 v
/-- A u32 field. -/
def u32 (v : Nat) : List Byte := leBytes 4 v
/-- A u64 field. -/
def u64 (v : Nat) : List Byte := leBytes 8 v
/-- A flag as a u8 field. -/
def ub (b : Bool) : List Byte := leBytes 1 (bit b)
/-- `n` zero bytes. -/
def zeros (n : Nat) : List Byte := List.replicate n 0

/-- The two's complement of `v` in `n` bytes. -/
def leInt (n : Nat) (v : Int) : List Byte := leBytes n (v % (256 ^ n : Nat)).toNat
/-- An s8 field. -/
def s8 (v : Int) : List Byte := leInt 1 v
/-- An s16 field. -/
def s16 (v : Int) : List Byte := leInt 2 v
/-- An s32 field. -/
def s32 (v : Int) : List Byte := leInt 4 v

/-- `v` read as an `n`-byte two's complement number. -/
def toSigned (n v : Nat) : Int :=
  let top := 256 ^ n
  let w := v % top
  if 2 * w < top then (w : Int) else (w : Int) - (top : Int)

/-- The `n` bytes of `l` from `off` on. -/
def slice (l : List Byte) (off n : Nat) : List Byte := (l.drop off).take n
/-- The u8 at offset `off`, 0 beyond the end. -/
def at8 (l : List Byte) (off : Nat) : Nat := leNat (slice l off 1)
/-- The u16 at offset `off`. -/
def at16 (l : List Byte) (off : Nat) : Nat := leNat (slice l off 2)
/-- The u32 at offset `off`. -/
def at32 (l : List Byte) (off : Nat) : Nat := leNat (slice l off 4)
/-- The u64 at offset `off`. -/
def at64 (l : List Byte) (off : Nat) : Nat := leNat (slice l off 8)
/-- The s8 at offset `off`. -/
def atS8 (l : List Byte) (off : Nat) : Int := toSigned 1 (at8 l off)
/-- The s16 at offset `off`. -/
def atS16 (l : List Byte) (off : Nat) : Int := toSigned 2 (at16 l off)
/-- The s32 at offset `off`. -/
def atS32 (l : List Byte) (off : Nat) : Int := toSigned 4 (at32 l off)
/-- All `n` bytes from `off` on are zero. -/
def zeroAt (l : List Byte) (off n : Nat) : Bool := (slice l off n).all (· == 0)
/-- Bit `n` of the number `v`. -/
def hasBit (v n : Nat) : Bool := v.testBit n
/-- The numbers below `n` whose bit is set in the mask `m`. -/
def bitsOf (n m : Nat) : List Nat := (List.range n).filter (m.testBit ·)
/-- The mask whose set bits are the numbers of `l`. -/
def maskOf (l : List Nat) : Nat := l.foldl (fun m i => m ||| (1 <<< i)) 0
/-- `l` cut or filled with zeros to exactly `n` bytes. -/
def padTo (n : Nat) (l : List Byte) : List Byte := l.take n ++ zeros (n - l.length)
/-- `l` in runs of `n` entries, by fuel. -/
def chunks {α : Type} (n : Nat) : Nat → List α → List (List α)
  | 0, _ => []
  | f + 1, l => if l.isEmpty then [] else l.take n :: chunks n f (l.drop n)
/-- The entries of `l` of `n` bytes each. -/
def entriesOf (n : Nat) (l : List Byte) : List (List Byte) := chunks n l.length l
/-- Two entries of `l` are equal. -/
def hasRepeat : List Nat → Bool
  | [] => false
  | a :: l => l.contains a || hasRepeat l

/-! ## Tables keyed by a number -/

/-- The value at key `k`. -/
def tabGet {α : Type} (t : List (Nat × α)) (k : Nat) : Option α := (t.find? (·.1 == k)).map (·.2)
/-- The table without key `k`. -/
def tabDel {α : Type} (t : List (Nat × α)) (k : Nat) : List (Nat × α) := t.filter (·.1 != k)
/-- The table with `v` at key `k`, in rising order of keys. -/
def tabSet {α : Type} (t : List (Nat × α)) (k : Nat) (v : α) : List (Nat × α) :=
  t.filter (·.1 < k) ++ [(k, v)] ++ t.filter (k < ·.1)
/-- `l` with entry `i` changed by `f`. -/
def upd {α : Type} (l : List α) (i : Nat) (f : α → α) : List α := l.modify i f
/-- `l` with every entry that satisfies `p` changed by `f`. -/
def updWhere {α : Type} (l : List α) (p : α → Bool) (f : α → α) : List α := l.map fun a => if p a then f a else a
/-- `l` with its indices. -/
def indexed {α : Type} (l : List α) : List (Nat × α) := (List.range l.length).zip l
/-- The indices of the entries of `l` that satisfy `p`. -/
def indicesWhere {α : Type} (l : List α) (p : α → Bool) : List Nat := ((indexed l).filter fun x => p x.2).map (·.1)
/-- `f` applied for every index in `l`, first to last. -/
def forAll {σ : Type} (l : List Nat) (f : Nat → σ → σ) (d : σ) : σ := l.foldl (fun d i => f i d) d
/-- The smallest entry of `l` by `key`, the first of several. -/
def minBy {α : Type} (key : α → Nat) : List α → Option α
  | [] => none
  | a :: l => match minBy key l with
    | none => some a
    | some b => if key b < key a then some b else some a

/-! ## Time (00 R21) -/

/-- Number of the Round that contains datum time `t`. -/
def roundOf (t : Nat) : Nat := t / roundTicks
/-- Datum time of the first Round boundary after `t`. -/
def boundaryAfter (t : Nat) : Nat := (t / roundTicks + 1) * roundTicks
/-- The number of the Round that `d` is in. -/
def Dev.round (d : Dev) : Nat := roundOf d.now
/-- Datum time of the next Round boundary. -/
def Dev.nextBoundary (d : Dev) : Nat := boundaryAfter d.now
/-- `ms` milliseconds in ticks. -/
def msec (ms : Nat) : Nat := ms * msTicks

/-! ## The part and what is fitted (00 R1) -/

/-- The part code of the fuse array (08 R229, factory-locked). -/
def Dev.partCode (d : Dev) : Nat := at16 d.sec.fuses 8
/-- Fitted RF inputs. -/
def Dev.nInputs (d : Dev) : Nat := if d.partCode = 0x4820 then 1 else if d.partCode = 0x4841 then 2 else 4
/-- Fitted slots. -/
def Dev.nSlots (d : Dev) : Nat := 16 * d.nInputs
/-- Fitted filter engines. -/
def Dev.nEngines (d : Dev) : Nat := 2 * d.nInputs
/-- Fitted contexts. -/
def Dev.nCtx (d : Dev) : Nat := 32 * d.nInputs
/-- DRM is fitted. -/
def Dev.hasDrm (d : Dev) : Bool := d.partCode == 0x4880 || d.partCode == 0x4862
/-- The Carillon fabric is fitted. -/
def Dev.hasFabric (d : Dev) : Bool := d.partCode == 0x4880
/-- features of SYS_INFO (03 R94): AM, FM/RDS and DAB on every part. -/
def Dev.features (d : Dev) : Nat := 7 + (if d.hasDrm then 8 else 0) + (if d.hasFabric then 16 else 0)

/-! ## States of the block -/

/-- In reset (03 R74). -/
def Dev.inReset (d : Dev) : Bool := d.pwr.stage == .held
/-- SYS_STATUS.BOOTED (05). -/
def Dev.booted (d : Dev) : Bool := d.pwr.stage == .done
/-- Booted and not halted. -/
def Dev.up (d : Dev) : Bool := d.booted && !d.toc.halted
/-- Up and in ACTIVE. -/
def Dev.active (d : Dev) : Bool := d.up && d.pwr.mode == .active
/-- Up and in WATCH. -/
def Dev.watching (d : Dev) : Bool := d.up && d.pwr.mode == .watch
/-- Up and in SLEEP. -/
def Dev.sleeping (d : Dev) : Bool := d.up && d.pwr.mode == .sleep
/-- Izosh runs: up, in ACTIVE or WATCH. -/
def Dev.izosh (d : Dev) : Bool := d.up && (d.pwr.mode == .active || d.pwr.mode == .watch)

/-- Datum time after `dt` ticks' worth of time: it advances tick by tick while PLL_A delivers the sample clock, and by 32 ticks
at each REFCLK or RC oscillator cycle while PLL_A is stopped (01 R26, R28, 04 R103); those cycles end at the multiples of 32
(DEDUCED log 113). -/
def Dev.later (d : Dev) (dt : Nat) : Nat :=
  if d.clk.pllA = .stopped then max d.now ((d.now + dt) / refTicks * refTicks) else d.now + dt

/-- The device once `dt` ticks' worth of time has passed. -/
def Dev.tick (dt : Nat) (d : Dev) : Dev := { d with now := d.later dt }

/-- REFCLK cycles are not a whole number of ticks while PLL_A is trimmed (04 R108): at least `cycles` of them have passed since
datum time `t`, PLL_A running `pllAOffset` ppb above 32 × REFCLK. -/
def Dev.sinceRef (d : Dev) (t cycles : Nat) : Bool :=
  ((cycles * refTicks : Nat) : Int) * (1000000000 + d.clk.pllAOffset) ≤ ((d.now - t : Nat) : Int) * 1000000000

/-- Whole REFCLK cycles in `ticks` datum ticks (04 R108). -/
def Dev.refCycles (d : Dev) (ticks : Nat) : Nat :=
  (((ticks : Int) * 1000000000) / ((refTicks : Nat) * (1000000000 + d.clk.pllAOffset))).toNat

/-- PLL_AUD's outputs run: it is locked or coasting, and a change or relock has not gated them (04 R105, R106, R126). -/
def Dev.audClocks (d : Dev) : Bool := d.clk.audOn && !(d.clk.audState == 4 && d.clk.audSince.any (· ≤ d.now))

/-- The way a meaning runs: time moves on by `dt`, then `f` acts; nothing but the passing of time moves datum time
(01 R28), and the queue of commands is not touched. -/
def State.run (s : State) (dt : Nat) (f : Dev → Dev) : Host.Outcome State Fault Refusal :=
  let d := s.dev.tick dt
  .next { s with dev := { f d with now := d.now } }

/-- As `State.run`, where `f` may act only while `p` holds; otherwise only time passes (DESIGN CHOICE log 7)
(DESIGN CHOICE log 111) (DESIGN CHOICE log 112). -/
def State.runIf (s : State) (dt : Nat) (p : Dev → Bool) (f : Dev → Dev) : Host.Outcome State Fault Refusal :=
  s.run dt fun d => if p d then f d else d

/-! ## CRCs -/

/-- One bit of CRC-16/CCITT-FALSE (07 R189): polynomial 0x1021, not reflected. -/
def crc16Step (c : Nat) : Nat :=
  if c.testBit 15 then ((c <<< 1) ^^^ 0x1021) % 65536 else (c <<< 1) % 65536

/-- One byte of CRC-16/CCITT-FALSE. -/
def crc16Byte (c : Nat) (b : Byte) : Nat :=
  (List.range 8).foldl (fun c _ => crc16Step c) (c ^^^ (b.toNat <<< 8))

/-- CRC-16/CCITT-FALSE with initial value 0xFFFF and no final XOR (07 R189). -/
def crc16 (l : List Byte) : Nat := l.foldl crc16Byte 0xFFFF

/-- One bit of the reflected CRC-32 of 08 R245. -/
def crc32Step (c : Nat) : Nat := if c.testBit 0 then (c >>> 1) ^^^ 0xEDB88320 else c >>> 1

/-- CRC-32 of 08 R245: polynomial 0x04C1_1DB7 reflected, initial value and final XOR 0xFFFF_FFFF. -/
def crc32 (l : List Byte) : Nat :=
  (l.foldl (fun c b => (List.range 8).foldl (fun c _ => crc32Step c) (c ^^^ b.toNat)) 0xFFFFFFFF) ^^^ 0xFFFFFFFF

end Sys2Proof.Machine
end

