-- ==== Sys2Proof/Machine/Numeric.lean ====
section
/-!
DEFINITION. The numbers of the signal processing: rounding and saturation (12 R325), complex integers, sums of products, and the
real-valued functions of the spec (powers of ten, cosine and sine, the angle of a complex number, decibels, first-order
responses) as integers on a stated scale. Where the spec gives no rounding for a result it may come out either way (log 83).
-/
namespace Sys2Proof.Machine

/-! ## Rounding and saturation -/

/-- `v` over 2^k to the nearest integer, ties toward +∞ (12 R325); a shift to the left is exact. -/
def shiftRound (v k : Int) : Int := if k ≤ 0 then v * 2 ^ (-k).toNat else (v + 2 ^ (k.toNat - 1)) / 2 ^ k.toNat

/-- `v` over `n`, rounded in the direction that the spec does not give where it is not whole (DESIGN CHOICE log 83). -/
def openDiv (v : Int) (n : Nat) : Int := v / n + (if v % n != 0 && Config.roundsUp n v then 1 else 0)

/-- A rational number rounded to the nearest whole number, ties away from zero: `num / den`. -/
def roundAway (num : Int) (den : Nat) : Int :=
  let m := (2 * num.natAbs + den) / (2 * den)
  if num < 0 then -(m : Int) else m

/-- The number saturated at ±(2^(w-1) - 1), and whether it was beyond (12 R325). -/
def saturate (w : Nat) (v : Int) : Int × Bool :=
  let top : Int := 2 ^ (w - 1) - 1
  if top < v then (top, true) else if v < -top then (-top, true) else (v, false)

/-- The number saturated at -2^(w-1) and 2^(w-1) - 1, and whether it was beyond (11 R307, 12 R334). -/
def saturateFull (w : Nat) (v : Int) : Int × Bool :=
  let top : Int := 2 ^ (w - 1) - 1
  if top < v then (top, true) else if v < -top - 1 then (-top - 1, true) else (v, false)

/-- `v` in a register of `w` bits (two's complement). -/
def wrapInt (w : Nat) (v : Int) : Int := (v + 2 ^ (w - 1)) % 2 ^ w - 2 ^ (w - 1)

/-! ## Complex integers -/

/-- Sum. -/
def Cx.add (a b : Cx) : Cx := { re := a.re + b.re, im := a.im + b.im }
/-- Difference. -/
def Cx.sub (a b : Cx) : Cx := { re := a.re - b.re, im := a.im - b.im }
/-- Product. -/
def Cx.mul (a b : Cx) : Cx := { re := a.re * b.re - a.im * b.im, im := a.re * b.im + a.im * b.re }
/-- Conjugate. -/
def Cx.conj (a : Cx) : Cx := { re := a.re, im := -a.im }
/-- A real multiple. -/
def Cx.scale (k : Int) (a : Cx) : Cx := { re := k * a.re, im := k * a.im }
/-- Squared magnitude. -/
def Cx.sq (a : Cx) : Nat := (a.re * a.re + a.im * a.im).toNat
/-- Each rail changed by `f`. -/
def Cx.each (f : Int → Int) (a : Cx) : Cx := { re := f a.re, im := f a.im }
/-- Each rail changed by `f`, with whether one of them saturated. -/
def Cx.eachSat (f : Int → Int × Bool) (a : Cx) : Cx × Bool :=
  ({ re := (f a.re).1, im := (f a.im).1 }, (f a.re).2 || (f a.im).2)
/-- The larger rail magnitude. -/
def Cx.rail (a : Cx) : Nat := max a.re.natAbs a.im.natAbs
/-- Zero. -/
def Cx.isZero (a : Cx) : Bool := a.re == 0 && a.im == 0

/-- Sum of a list. -/
def Cx.sum (l : List Cx) : Cx := l.foldl Cx.add {}
/-- Σ h[t] · x[t] over the taps of `h`; samples that are not there are zero. -/
def firSum (h : List Int) (x : List Cx) : Cx := (h.zip x).foldl (fun a p => a.add (p.2.scale p.1)) {}
/-- Σ h[t] · x[t] with complex taps. -/
def firSumCx (h x : List Cx) : Cx := (h.zip x).foldl (fun a p => a.add (p.1.mul p.2)) {}
/-- The newest sample first, at most `n` of them. -/
def pushLine {α : Type} (n : Nat) (a : α) (l : List α) : List α := a :: l.take (n - 1)
/-- `l` with zeros up to `n` samples. -/
def fullLine (n : Nat) (l : List Cx) : List Cx := l.take n ++ List.replicate (n - l.length) ({} : Cx)

/-- A linear-phase half-band filter of `n` taps in Q1.17: centre 0.5, zero at every other even distance, and free symmetric
coefficients at odd distances (11 R304, 12 R329). -/
def halfBand (n : Nat) (free : Nat → Int) : List Int :=
  (List.range n).map fun t =>
    let dist := ((t : Int) - ((n - 1) / 2 : Nat)).natAbs
    if dist = 0 then 65536 else if dist % 2 = 0 then 0 else free (dist / 2)
/-- A linear-phase filter of `n` taps: coefficients by distance from the centre. -/
def linearPhase (n : Nat) (free : Nat → Int) : List Int :=
  (List.range n).map fun t => free (((2 * t : Nat) : Int) - (n - 1 : Nat)).natAbs

/-! ## Roots and powers of ten -/

/-- The greatest v below 2^bits for which `holds` is true, `holds` being true up to some number and false beyond it. -/
def greatest (bits : Nat) (holds : Nat → Bool) : Nat :=
  (List.range bits).foldl (fun v i => let w := v + 2 ^ (bits - 1 - i); if holds w then w else v) 0

/-- Integer square root. -/
def rootNat (v : Nat) : Nat := greatest (v.log2 / 2 + 1) fun w => w * w ≤ v
/-- Magnitude of a complex integer, rounded down. -/
def Cx.abs (a : Cx) : Nat := rootNat a.sq

/-- 10^(h/40), the amplitude ratio of `h` half decibels, in units of 2^-24, rounded down. -/
def ampOf (h : Int) : Nat :=
  if 0 ≤ h then greatest 64 fun v => v ^ 40 ≤ 10 ^ h.toNat * 2 ^ 960 else greatest 25 fun v => v ^ 40 * 10 ^ (-h).toNat ≤ 2 ^ 960


/-- The greatest whole number not above `k` · 10 log10(num / den), both positive. -/
def dbFloor (k num den : Nat) : Int :=
  let holds (n : Int) : Bool :=
    if 0 ≤ n then decide (10 ^ n.toNat * den ^ (10 * k) ≤ num ^ (10 * k)) else decide (den ^ (10 * k) ≤ num ^ (10 * k) * 10 ^ (-n).toNat)
  (greatest 14 fun v => holds ((v : Int) - 8192) : Int) - 8192
/-- The least whole number not below it. -/
def dbCeil (k num den : Nat) : Int := -dbFloor k den num
/-- It rounded to the nearest whole number, halves upward. -/
def dbNear (k num den : Nat) : Int := (dbFloor (2 * k) num den + 1) / 2
/-- A power ratio in units of 0.1 dB, to the nearest (11 R320). -/
def tenthsDb (num den : Nat) : Int := dbNear 10 num den

/-! ## Angles -/

/-- π in units of 2^-48. -/
def piFix : Nat := 884279719003555
/-- cos and sin of 2π·p/2^32 in units of 2^-48: the power series of the angle in [-π, π). -/
def trigFix (p : Nat) : Int × Int :=
  let x : Int := wrapInt 32 p * (2 * piFix : Nat) / 2 ^ 32
  let x2 := x * x / 2 ^ 48
  let (c, s, _) := (List.range 20).foldl (fun (c, s, t) k =>
    -- t = x^(2k)/(2k)!, signs alternating
    (c + t, s + t * x / 2 ^ 48 / (2 * k + 1 : Nat), -(t * x2 / 2 ^ 48) / ((2 * k + 1) * (2 * k + 2) : Nat))) ((0, 0, (2 : Int) ^ 48))
  (c, s)
/-- e^(-j2πp/2^32) with 18-bit cosine and sine (11 R303, 12 R324): full scale 2^17, rounding open. -/
def rotor18 (p : Nat) : Cx :=
  let (c, s) := trigFix p
  let q (v : Int) : Int := max (-131072) (min 131071 (openDiv v (2 ^ 31)))
  { re := q c, im := q (-s) }
/-- e^(-j2πp/2^32) in units of 2^-30. -/
def rotor30 (p : Nat) : Cx :=
  let (c, s) := trigFix p
  { re := c / 2 ^ 18, im := -s / 2 ^ 18 }

/-- e^(-j2πp/2^32) in units of 2^-48. -/
def rotor48 (p : Nat) : Cx :=
  let (c, s) := trigFix p
  { re := c, im := -s }
/-- Σ x[m] · e^(-j2πkm/n) in units of 2^-48, for `n` a divisor of 2^32. -/
def dftBin (n k : Nat) (x : List Cx) : Cx :=
  ((indexed x).foldl fun a s => a.add (s.2.mul (rotor48 (k * s.1 % n * (2 ^ 32 / n))))) {}

/-- The complex number brought below 2^60, its angle kept. -/
def Cx.shrink (a : Cx) : Cx :=
  let k := a.rail.log2 - 60
  if a.rail < 2 ^ 60 then a else a.each (· / 2 ^ k)

/-- Angle of a complex number other than 0 in units of 2^-bits turns, -2^(bits-1) to 2^(bits-1) - 1: squaring doubles the angle,
and the half-plane gives one bit. The angle of 0 is not given (DESIGN CHOICE log 83). -/
def turnOf (bits : Nat) (a : Cx) : Int :=
  if a.isZero then Config.angleOfZero bits
  else
    let step := fun (acc : Nat × Cx) (_ : Nat) =>
      let low := acc.2.im < 0 || (acc.2.im == 0 && acc.2.re < 0)
      (2 * acc.1 + bit low, (acc.2.mul acc.2).shrink)
    let (v, _) := (List.range bits).foldl step (0, a.shrink)
    wrapInt bits v

/-! ## Raised-cosine ramps (20 R560) -/

/-- Gain of a ramp for the 48 kHz sample at `t3` thirds of a tick: the first sample after the event is the ramp's first. -/
def Ramp.gain (t3 : Nat) (r : Ramp) : Nat :=
  if t3 ≤ 3 * r.at_ then r.from_
  else
    let i := (t3 - 3 * r.at_ - 1) / 65536
    if r.len ≤ i then r.target
    else
      let w := 2 ^ 48 - (trigFix (i * 2 ^ 31 / r.len)).1
      ((r.from_ : Int) + openDiv ((r.target - r.from_ : Int) * w) (2 ^ 49)).toNat
/-- Gain at `t3` of a stage whose ramps stand in `l`, newest first; `rest` before any of them. -/
def rampGain (rest : Nat) (l : List Ramp) (t3 : Nat) : Nat := match l.find? fun r => 3 * r.at_ < t3 with
  | some r => r.gain t3
  | none => match l.getLast? with
    | some r => r.from_
    | none => rest
/-- A ramp to `target` over `ms` milliseconds begins at datum time `now`, from the gain that stands. -/
def rampTo (rest target ms now : Nat) (l : List Ramp) : List Ramp :=
  { from_ := rampGain rest l (3 * now + 1), target := target, at_ := now, len := 48 * ms } :: l
/-- Ramps that still say something of the gain from datum time `t` on. -/
def rampsFrom (t : Nat) (l : List Ramp) : List Ramp :=
  l.takeWhile (fun r => t < r.at_) ++ (l.dropWhile fun r => t < r.at_).take 1

/-! ## First-order responses -/

/-- e^(-num/den) in units of 2^-48: the series of the argument over 2^12, squared 12 times. -/
def expNeg (num den : Nat) : Nat :=
  let x : Int := (num * 2 ^ 36 / den : Nat)
  let (e, _) := (List.range 20).foldl (fun (e, t) k => (e + t, -(t * x / 2 ^ 48) / (k + 1 : Nat))) (((0, 2 ^ 48)) : Int × Int)
  (List.range 12).foldl (fun v _ => v * v / 2 ^ 48) e.toNat

/-- A first-order response of time constant `tc` after `t`, from `y` toward `target`. -/
def approach (y target : Int) (t tc : Nat) : Int :=
  target + openDiv ((y - target) * (expNeg t tc : Nat)) (2 ^ 48)

end Sys2Proof.Machine
end

