-- ==== Sys2Proof/Machine/AudioDsp.lean ====
section
/-!
DEFINITION. The sample arithmetic of the audio path (chapter 20): the domain converter and the blend buffer (R559, 19 R548), the gains of
a fade (R566), the sample-rate converter (R564), the correlation of two versions (19 R547), the words and clocks of a port frame (R568),
and the subframes of IEC 60958 (R577-R580). Coefficients that the spec bounds only by a response are free (UNVERIFIED log 130).
-/
namespace Sys2Proof.Machine

/-! ## Domain converter (R559) -/

/-- Interpolation and decimation of the domain converter from `rate` kHz to 48 kHz: by 1, 3/2, 2, 3 or 4. -/
def domainRatio (rate : Nat) : Nat × Nat :=
  if rate = 32 then (3, 2) else if rate = 24 then (2, 1) else if rate = 16 then (3, 1) else if rate = 12 then (4, 1) else (1, 1)

/-- Output `j` of the `up` phases: linear phase with the delay of 0.25 ms; at a ratio of 1 the samples are only delayed (DEDUCED log 138). -/
def domainSample (rate up j : Nat) (line : List Int) : Int :=
  if up = 1 then line.getD 12 0
  else
    let mid := rate * up / 4
    let tap (m : Nat) : Int := if 2 * mid < j + up * m then 0 else Config.domainTap rate (((j + up * m : Nat) : Int) - (mid : Nat)).natAbs
    (saturate 24 (openDiv (((indexed line).map fun x => tap x.1 * x.2).sum) (2 ^ 17))).1

/-- Samples that the blend buffer and an alignment look back on: 5 s and the interpolation. -/
def feedLength : Nat := 240128

/-- One source sample at `rate` kHz with the time stamp `t3`. -/
def AudioFeed.push (rate t3 : Nat) (dual : Bool) (s : Int × Int) (x : AudioFeed) : AudioFeed :=
  let (up, down) := domainRatio rate
  let line := pushLine 64 s x.line
  let js := (List.range up).filter fun j => x.phase ≤ j && (j - x.phase) % down == 0
  let new := js.map fun j => ({
    t3 := t3 + j * (3145728 / rate) / up, l := domainSample rate up j (line.map (·.1)), r := domainSample rate up j (line.map (·.2))
    dual := dual } : AudioSample)
  { line := line, phase := x.phase + down * js.length - up, out := (new.reverse ++ x.out).take feedLength }

/-- Source samples from datum time `t` on, one after the other; samples of an earlier frame that reach beyond `t` are dropped
(DEDUCED log 138). -/
def AudioFeed.frame (rate t : Nat) (dual : Bool) (l : List (Int × Int)) (x : AudioFeed) : AudioFeed :=
  (indexed l).foldl (fun x s => x.push rate (3 * t + s.1 * (3145728 / rate)) dual s.2)
    { x with out := x.out.filter (·.t3 < 3 * t) }

/-- Left and right as the programme's route flags place them (R557). -/
def AudioSample.placed (flags : Nat) (s : AudioSample) : Int × Int :=
  if !s.dual || flags / 2 % 4 = 0 then (s.l, s.r) else if flags / 2 % 4 = 1 then (s.l, s.l) else (s.r, s.r)

/-! ## Blend buffer (R559, 19 R548) -/

/-- A sample as the blend buffer holds it: 16 bits, rounded. -/
def bufferWord (v : Int) : Int := 256 * (saturate 16 (openDiv v 256)).1

/-- The buffer read at `pos`, millionths of a third of a tick, with interpolation between the samples. -/
def AudioFeed.read (flags : Nat) (pos : Int) (x : AudioFeed) : Int × Int :=
  let late := (x.out.takeWhile fun s => decide (pos < (s.t3 * 1000000 : Nat))).length
  match x.out[late]? with
  | none => (0, 0)
  | some s =>
    let f := ((pos - (s.t3 * 1000000 : Nat)).toNat / 1000000) % 65536
    let at_ (k : Nat) : Int × Int := match x.out[k]? with
      | some s => let p := s.placed flags; (bufferWord p.1, bufferWord p.2)
      | none => (0, 0)
    if f = 0 then at_ late
    else
      let sum (g : Int × Int → Int) : Int :=
        (saturate 24 (openDiv (((List.range 64).map fun k =>
          Config.blendTap f k * (if late = 0 && k = 0 then 0 else g (at_ (late + k - 1)))).sum) (2 ^ 17))).1
      (sum (·.1), sum (·.2))

/-- Outgoing and incoming gain of a fade at position `x`, units of 2^-24 (R566): shape 0 linear, 1 equal power; a cut ramps down in its
first half and up in its second one (19 R550). -/
def fadeGains (cut : Bool) (shape x : Nat) : Nat × Nat :=
  if cut then
    let w := ((2 ^ 48 + (trigFix (x * 256)).1) / 2 ^ 25).toNat
    if x < 2 ^ 23 then (w, 0) else (0, w)
  else if shape = 0 then (2 ^ 24 - x, x)
  else
    let (c, s) := trigFix (x * 64)
    ((openDiv c (2 ^ 24)).toNat, (openDiv s (2 ^ 24)).toNat)

/-- Position of a fade at `t3` thirds of a tick: toward the incoming version, or back where it is reversed (R566, 19 R551). -/
def FadeSt.position (t3 : Nat) (f : FadeSt) : Nat :=
  let goal : Int := if f.result = 2 then 0 else 2 ^ 24
  let len := 3 * (f.ends - f.t0)
  let done := min len (t3 - 3 * f.t0)
  if len = 0 then goal.toNat else ((f.x0 : Int) + (goal - f.x0) * done / len).toNat

/-! ## Sample-rate converter (R564) -/

/-- The ratio loop of 0.5 Hz bandwidth, held within ±2.5 %; the gains follow from the bandwidth, for which the spec gives no formula
(UNVERIFIED log 134). -/
def AsrcSt.track (measured : Int) (x : AsrcSt) : AsrcSt :=
  let (kp, ki) := Config.loopGain 4 true
  let clip (v : Int) : Int := max (-25000) (min 25000 v)
  let err := measured - x.ratio
  let loop := clip (x.loop + openDiv (ki * err) 65536)
  { x with loop := loop, ratio := clip (loop + openDiv (kp * err) 65536) }

/-- One 48 kHz sample goes in; the samples at `rate` Hz that come out. -/
def AsrcSt.push (rate : Nat) (s : Int × Int) (x : AsrcSt) : AsrcSt × List (Int × Int) :=
  let line := pushLine 512 s x.line
  let step := 2 ^ 32 * 48000 * 1000000 / (rate * (1000000 + x.ratio).toNat)
  let out (pos : Nat) : Int × Int :=
    let sum (l : List Int) : Int :=
      (saturate 24 (openDiv (((indexed l).map fun v => Config.asrcTap rate (pos / 65536) v.1 * v.2).sum) (2 ^ 17))).1
    (sum (line.map (·.1)), sum (line.map (·.2)))
  let (pos, l) := (List.range 3).foldl (fun (pos, l) _ => if 2 ^ 32 ≤ pos then (pos, l) else (pos + step, l ++ [out pos])) (x.pos, [])
  ({ x with line := line, pos := pos - 2 ^ 32 }, l)

/-! ## Correlation (19 R547) -/

/-- Mono sums of a version as the blend domain holds them, newest first. -/
def AudioFeed.mono (flags : Nat) (now : Nat) (x : AudioFeed) : List Int :=
  (x.out.filter (·.t3 ≤ 3 * now)).map fun s => let p := s.placed flags; bufferWord p.1 + bufferWord p.2
/-- The same at 8 kHz. -/
def coarseMono (l : List Int) : List Int :=
  (List.range (l.length / 6)).map fun i =>
    openDiv ((((l.drop (6 * i)).take 512).zip (List.range 512)).map fun x => Config.coarseTap x.2 * x.1).sum (2 ^ 17)

/-- Correlation of the partner `b` with the on-air version `a` at the lag λ over the last 2 s, `n` samples (DEDUCED log 138), and the
two energies. -/
def correlation (n : Nat) (a b : List Int) (lag : Int) : Int × Nat × Nat :=
  let x := (a.drop lag.toNat).take n
  let y := (b.drop (-lag).toNat).take n
  (((x.zip y).map fun p => p.1 * p.2).sum, ((x.map fun v => v.natAbs ^ 2).sum), ((y.map fun v => v.natAbs ^ 2).sum))

/-- The first correlation's normalised value lies above the second's. -/
def peakAbove (p q : Int × Nat × Nat) : Bool :=
  let sq (c : Int × Nat × Nat) : Int := c.1 * c.1.natAbs
  decide (sq q * (p.2.1 * p.2.2 : Nat) < sq p * (q.2.1 * q.2.2 : Nat))
/-- The normalised value is 0.5 or more. -/
def peakHolds (p : Int × Nat × Nat) : Bool := 0 < p.1 && decide (p.2.1 * p.2.2 ≤ 4 * p.1.natAbs ^ 2)

/-- The best lag among `l`, the first of equals. -/
def bestLag (n : Nat) (a b : List Int) (l : List Int) : Int :=
  match l with
  | [] => 0
  | k :: l => (l.foldl (fun (m : Int × (Int × Nat × Nat)) lag =>
      let c := correlation n a b lag
      if peakAbove c m.2 then (lag, c) else m) (k, correlation n a b k)).1

/-- The lag of the partner against the on-air version in 48 kHz samples, and whether its peak is 0.5 or more: coarse at 8 kHz over ±3 s,
fine within ±16 samples. -/
def measureLag (a b : List Int) : Int × Bool :=
  let coarse := 6 * bestLag 16000 (coarseMono a) (coarseMono b) ((List.range 48001).map fun (i : Nat) => (i : Int) - 24000)
  let fine := bestLag 96000 a b ((List.range 33).map fun (i : Nat) => coarse + (i : Int) - 16)
  (fine, peakHolds (correlation 96000 a b fine))

/-! ## Port frames (R568, R569) -/

/-- A sample as a word of `bits` bits; the spec gives no rounding to 16 bits (DESIGN CHOICE log 83). -/
def portWord (bits : Nat) (v : Int) : Int := if bits = 16 then (saturate 16 (openDiv v 256)).1 else v

/-- Words by slot that one stereo sample gives on a route (R583): the pair, or the mono sum (L + R) / 2 with the mono flag or on a port of
one slot. -/
def routeWords (c : PortCfg) (slot flags : Nat) (s : Int × Int) : List (Nat × Int) :=
  if hasBit flags 0 || c.slots = 1 then [(slot, portWord c.wordBits (openDiv (s.1 + s.2) 2))]
  else [(slot, portWord c.wordBits s.1), (slot + 1, portWord c.wordBits s.2)]

/-- A frame of `c.slots` words from the words by slot. -/
def frameOf (c : PortCfg) (l : List (Nat × Int)) : List Int :=
  (List.range c.slots).map fun n => (saturate c.wordBits (((l.filter (·.1 == n)).map (·.2)).sum)).1

/-- DOUT over a slot (R568): the word, most significant bit first, and zeros to the end of the slot. -/
def slotBits (c : PortCfg) (word : Int) : List Bool :=
  (List.range c.slotBits).map fun i => decide (i < c.wordBits) && ((word % 2 ^ c.wordBits).toNat).testBit (c.wordBits - 1 - i)

/-- DOUT over a frame, one bit per BCLK period from the first bit of slot 0 on. -/
def frameBits (c : PortCfg) (f : List Int) : List Bool := f.flatMap (slotBits c)

/-- BCLK periods from the start of the frame, where FS changes, to the first bit of slot 0 (R568). -/
def firstBit (format : Nat) : Nat := if format = 0 || format = 2 then 1 else 0

/-- FS in the BCLK period `i` of a frame, before the inversion of the flags (R568): I²S low and left-justified high for slot 0, short FS
one BCLK high, long FS high throughout slot 0. -/
def fsLevel (c : PortCfg) (i : Nat) : Bool :=
  match c.format with
  | 0 => decide (c.slotBits ≤ i)
  | 1 => decide (i < c.slotBits)
  | 2 => i == 0
  | _ => decide (i < c.slotBits)

/-- PLL_AUD's frequency in the family of 44.1 kHz or of 48 kHz, which R569's dividers 8 to 128 and 4 to 192 give (DEDUCED log 138). -/
def pllAudHz (of441 : Bool) : Nat := if of441 then 90316800 else 98304000
/-- Divider N from PLL_AUD to the BCLK of a master port at `rateHz` (R569). -/
def bclkDivider (of441 : Bool) (rateHz : Nat) (c : PortCfg) : Nat := pllAudHz of441 / (rateHz * c.slots * c.slotBits)

/-! ## IEC 60958 (R577-R580) -/

/-- Bits of `v`, least significant first. -/
def bitsLow (n v : Nat) : List Bool := (List.range n).map v.testBit

/-- Channel status of output rate code `rate` and channel 1 (A) or 2 (B) from P.SPDOn_CS (R579, R590); the codes of the sampling
frequency and of the word length are those of IEC 60958-3 (PRESUMED log 138). -/
def channelStatus (cs rate channel : Nat) : List Bool :=
  [false, false, hasBit cs 8] ++ List.replicate 5 false ++ bitsLow 7 (cs % 128) ++ [hasBit cs 9] ++ bitsLow 4 (cs / 1024 % 16)
    ++ bitsLow 4 channel ++ bitsLow 4 ([3, 0, 2, 10].getD rate 2) ++ bitsLow 2 (cs / 16384 % 4) ++ [false, false]
    ++ [true, true, false, true] ++ List.replicate 156 false

/-- The 28 bits of a subframe after its preamble: 24 audio bits, least significant first, validity, user and channel status bit, and
even parity (IEC 60958). -/
def subframe (v : Int) (validity user status : Bool) : List Bool :=
  let l := bitsLow 24 (v % 2 ^ 24).toNat ++ [validity, user, status]
  l ++ [l.foldl Bool.xor false]

/-- Preamble of a subframe: Z at the start of a block, X before the other subframes A, Y before subframe B (IEC 60958). -/
inductive Preamble where
  | x
  | y
  | z
deriving DecidableEq, Repr
/-- The preamble of frame `n` of a block. -/
def preambleOf (n : Nat) (b : Bool) : Preamble := if b then .y else if n % 192 = 0 then .z else .x

end Sys2Proof.Machine
end

