-- ==== Sys2Proof/Machine/Aes.lean ====
section
/-!
DEFINITION. AES-128 and AES-128-CMAC (00 R17, NIST SP 800-38B), which authenticate commands (08 R239), check keys
(08 R232) and authenticate the fabric (23). Bytes are numbers below 256.
-/
namespace Sys2Proof.Machine

/-- The AES S-box, 16 rows of 16. -/
def aesSBoxRows : List (List Nat) := [
  [0x63, 0x7C, 0x77, 0x7B, 0xF2, 0x6B, 0x6F, 0xC5, 0x30, 0x01, 0x67, 0x2B, 0xFE, 0xD7, 0xAB, 0x76],
  [0xCA, 0x82, 0xC9, 0x7D, 0xFA, 0x59, 0x47, 0xF0, 0xAD, 0xD4, 0xA2, 0xAF, 0x9C, 0xA4, 0x72, 0xC0],
  [0xB7, 0xFD, 0x93, 0x26, 0x36, 0x3F, 0xF7, 0xCC, 0x34, 0xA5, 0xE5, 0xF1, 0x71, 0xD8, 0x31, 0x15],
  [0x04, 0xC7, 0x23, 0xC3, 0x18, 0x96, 0x05, 0x9A, 0x07, 0x12, 0x80, 0xE2, 0xEB, 0x27, 0xB2, 0x75]]
  ++ [
  [0x09, 0x83, 0x2C, 0x1A, 0x1B, 0x6E, 0x5A, 0xA0, 0x52, 0x3B, 0xD6, 0xB3, 0x29, 0xE3, 0x2F, 0x84],
  [0x53, 0xD1, 0x00, 0xED, 0x20, 0xFC, 0xB1, 0x5B, 0x6A, 0xCB, 0xBE, 0x39, 0x4A, 0x4C, 0x58, 0xCF],
  [0xD0, 0xEF, 0xAA, 0xFB, 0x43, 0x4D, 0x33, 0x85, 0x45, 0xF9, 0x02, 0x7F, 0x50, 0x3C, 0x9F, 0xA8],
  [0x51, 0xA3, 0x40, 0x8F, 0x92, 0x9D, 0x38, 0xF5, 0xBC, 0xB6, 0xDA, 0x21, 0x10, 0xFF, 0xF3, 0xD2]]
  ++ [
  [0xCD, 0x0C, 0x13, 0xEC, 0x5F, 0x97, 0x44, 0x17, 0xC4, 0xA7, 0x7E, 0x3D, 0x64, 0x5D, 0x19, 0x73],
  [0x60, 0x81, 0x4F, 0xDC, 0x22, 0x2A, 0x90, 0x88, 0x46, 0xEE, 0xB8, 0x14, 0xDE, 0x5E, 0x0B, 0xDB],
  [0xE0, 0x32, 0x3A, 0x0A, 0x49, 0x06, 0x24, 0x5C, 0xC2, 0xD3, 0xAC, 0x62, 0x91, 0x95, 0xE4, 0x79],
  [0xE7, 0xC8, 0x37, 0x6D, 0x8D, 0xD5, 0x4E, 0xA9, 0x6C, 0x56, 0xF4, 0xEA, 0x65, 0x7A, 0xAE, 0x08]]
  ++ [
  [0xBA, 0x78, 0x25, 0x2E, 0x1C, 0xA6, 0xB4, 0xC6, 0xE8, 0xDD, 0x74, 0x1F, 0x4B, 0xBD, 0x8B, 0x8A],
  [0x70, 0x3E, 0xB5, 0x66, 0x48, 0x03, 0xF6, 0x0E, 0x61, 0x35, 0x57, 0xB9, 0x86, 0xC1, 0x1D, 0x9E],
  [0xE1, 0xF8, 0x98, 0x11, 0x69, 0xD9, 0x8E, 0x94, 0x9B, 0x1E, 0x87, 0xE9, 0xCE, 0x55, 0x28, 0xDF],
  [0x8C, 0xA1, 0x89, 0x0D, 0xBF, 0xE6, 0x42, 0x68, 0x41, 0x99, 0x2D, 0x0F, 0xB0, 0x54, 0xBB, 0x16]]

/-- The S-box at one byte. -/
def aesSub (b : Nat) : Nat := (aesSBoxRows.getD (b / 16) []).getD (b % 16) 0

/-- Doubling in the AES field. -/
def aesDouble (b : Nat) : Nat := if b.testBit 7 then ((b <<< 1) ^^^ 0x11B) % 256 else b <<< 1

/-- Bytewise exclusive or. -/
def xorBytes (a b : List Nat) : List Nat := List.zipWith (fun x y => x ^^^ y) a b

/-- One column of MixColumns. -/
def aesMixColumn (c : List Nat) : List Nat :=
  let a := c.getD 0 0; let b := c.getD 1 0; let e := c.getD 2 0; let f := c.getD 3 0
  [aesDouble a ^^^ (aesDouble b ^^^ b) ^^^ e ^^^ f, a ^^^ aesDouble b ^^^ (aesDouble e ^^^ e) ^^^ f,
   a ^^^ b ^^^ aesDouble e ^^^ (aesDouble f ^^^ f), (aesDouble a ^^^ a) ^^^ b ^^^ e ^^^ aesDouble f]

/-- MixColumns over the 16 bytes of a block. -/
def aesMixColumns (l : List Nat) : List Nat := (chunks 4 4 l).flatMap aesMixColumn

/-- SubBytes and ShiftRows: byte `r + 4c` comes from byte `r + 4(c + r)`. -/
def aesSubShift (l : List Nat) : List Nat :=
  (List.range 16).map fun i => aesSub (l.getD ((i + 4 * (i % 4)) % 16) 0)

/-- The next round key from the one before it and the round constant. -/
def aesNextKey (k : List Nat) (rcon : Nat) : List Nat :=
  let t := [aesSub (k.getD 13 0) ^^^ rcon, aesSub (k.getD 14 0), aesSub (k.getD 15 0), aesSub (k.getD 12 0)]
  let w0 := xorBytes (k.take 4) t
  let w1 := xorBytes (slice4 k 4) w0
  let w2 := xorBytes (slice4 k 8) w1
  let w3 := xorBytes (slice4 k 12) w2
  w0 ++ w1 ++ w2 ++ w3
where
  slice4 (l : List Nat) (off : Nat) : List Nat := (l.drop off).take 4

/-- The rounds from the given round constant on; `n` counts the rounds left, the last one without MixColumns. -/
def aesRounds : Nat → Nat → List Nat → List Nat → List Nat
  | 0, _, _, st => st
  | n + 1, rcon, key, st =>
    let key' := aesNextKey key rcon
    let st' := aesSubShift st
    aesRounds n (aesDouble rcon) key' (xorBytes (if n = 0 then st' else aesMixColumns st') key')

/-- AES-128 encryption of one block. -/
def aes128 (key block : List Nat) : List Nat := aesRounds 10 1 key (xorBytes block key)

/-- Doubling of a 16-byte string, most significant bit first, with the constant 0x87 (SP 800-38B). -/
def cmacDouble (l : List Nat) : List Nat :=
  let shifted := List.zipWith (fun a b => ((a <<< 1) % 256) ||| (b >>> 7)) l (l.drop 1 ++ [0])
  if (l.getD 0 0).testBit 7 then shifted.take 15 ++ [(shifted.getD 15 0) ^^^ 0x87] else shifted

/-- The last block of a CMAC: whole under K1, or padded with 0x80 and zeros under K2. -/
def cmacLast (k1 last : List Nat) : List Nat :=
  if last.length = 16 then xorBytes last k1
  else xorBytes (last ++ [0x80] ++ List.replicate (15 - last.length) 0) (cmacDouble k1)

/-- The CBC chain over blocks of 16 bytes, the last one treated by `cmacLast`; `n` bounds the number of blocks. -/
def cmacChain (key k1 : List Nat) : Nat → List Nat → List Nat → List Nat
  | 0, x, _ => x
  | n + 1, x, m =>
    if m.length ≤ 16 then aes128 key (xorBytes x (cmacLast k1 m))
    else cmacChain key k1 n (aes128 key (xorBytes x (m.take 16))) (m.drop 16)

/-- AES-128-CMAC of NIST SP 800-38B. -/
def cmac (key msg : List Nat) : List Nat :=
  let k1 := cmacDouble (aes128 key (List.replicate 16 0))
  cmacChain key k1 (msg.length + 1) (List.replicate 16 0) msg

/-- The first 8 bytes of the CMAC of `msg` under `key` (00 R17). -/
def mac8 (key msg : List Byte) : List Byte :=
  ((cmac (key.map (·.toNat)) (msg.map (·.toNat))).take 8).map (BitVec.ofNat 8)

/-- The key check value of 08 R232: the first 4 bytes of the encryption of an all-zero block. -/
def keyCheck (key : List Byte) : List Byte :=
  ((aes128 (key.map (·.toNat)) (List.replicate 16 0)).take 4).map (BitVec.ofNat 8)

end Sys2Proof.Machine
end

