-- ==== Sys2Proof/Machine/Flags.lean ====
section
/-!
DEFINITION. Status bits, event records and the interrupt pins: what raising an event does (07 R216-R221), what IRQ_N
and TW_ALERT_N show (05 R149, 06 R174, 02 R51), and the names of the event sources.
-/
namespace Sys2Proof.Machine

/-- The event sources that the spec defines (07 R222: each is delivered somewhere at boot). -/
def sourceDefined (n : Nat) : Bool :=
  n ≤ 18 || (32 ≤ n && n ≤ 51) || (64 ≤ n && n ≤ 84) || (96 ≤ n && n ≤ 125)

/-- A source that belongs only to a feature the part lacks never raises (00 R7): 112-125 belong to the fabric. -/
def Dev.sourceFitted (d : Dev) (n : Nat) : Bool := !(112 ≤ n && n ≤ 125) || d.hasFabric

/-- IRQ_STATUS bit `n`. -/
def Dev.irqBit (d : Dev) (n : Nat) : Bool := d.regs.irqStatus.getLsbD n
/-- IRQ_ENABLE bit `n`. -/
def Dev.irqEnabled (d : Dev) (n : Nat) : Bool := d.regs.irqEnable.getLsbD n
/-- Bit `n` is routed to output `o`: 0 IRQ_N, 1 TW_ALERT_N (05 R149). -/
def Dev.irqRouted (d : Dev) (n o : Nat) : Bool := d.regs.irqRoute.getLsbD (2 * (n / 8) + o)
/-- Some routed source is set and enabled for output `o` (05 R149). -/
def Dev.irqAsserts (d : Dev) (o : Nat) : Bool :=
  (List.range 128).any fun n => d.irqBit n && d.irqEnabled n && d.irqRouted n o

/-- IRQ_N is pulled low (05 R149; in a halt always, 02 R51; released in reset and below the bank's range, R53)
(DEDUCED log 109). -/
def Dev.irqLow (d : Dev) : Bool :=
  d.pwr.bankH.inRange && !d.inReset && (d.toc.halted || d.irqAsserts 0
    || (d.watching && d.watch.opts.irq && (d.irqBit 48 || d.irqBit 49)))

/-- IRQ_ROUTE sends the group of source 4 to TW_ALERT_N, so that a halt pulls it low (02 R51). -/
def Dev.haltAlerts (d : Dev) : Bool := d.toc.halted && d.irqRouted 4 1

/-- TW_ALERT_N is pulled low (05 R149, 06 R174, 02 R51). -/
def Dev.alertLow (d : Dev) : Bool :=
  d.pwr.bankH.inRange && !d.inReset && (d.haltAlerts || (d.irqAsserts 1 && !d.regs.alertAcked))

/-- Number of the REFCLK edge now (00 R21). -/
def Dev.edge (d : Dev) : Nat := d.now / refTicks

/-- The registers as they stand on REFCLK edge `e`, on which no bit has been set unless it is the edge of the last setting. -/
def RegSt.onEdge (e : Nat) (r : RegSt) : RegSt :=
  if r.setEdge = e then r else { r with setEdge := e, irqNew := 0, sysNew := 0, twNew := 0 }

/-- Set status bit `n` (05 R148). A routed and enabled bit that was 0 re-arms TW_ALERT_N (06 R174). -/
def Dev.setStatus (n : Nat) (d : Dev) : Dev :=
  let fresh := !d.irqBit n && d.irqEnabled n && d.irqRouted n 1
  let m := BitVec.ofNat 128 (1 <<< n)
  let r := d.regs.onEdge d.edge
  { d with regs := { r with irqStatus := r.irqStatus ||| m, irqNew := r.irqNew ||| m, alertAcked := r.alertAcked && !fresh } }

/-- Set RWS fields of SYS_STATUS, bits 20:16 (05 R147). -/
def Dev.flagSys (m : BitVec 5) (d : Dev) : Dev :=
  let r := d.regs.onEdge d.edge
  { d with regs := { r with sysRws := r.sysRws ||| m, sysNew := r.sysNew ||| m } }

/-- Set RWS fields of TW_STATUS, bits 4:2 (05 R147). -/
def Dev.flagTw (m : BitVec 3) (d : Dev) : Dev :=
  let r := d.regs.onEdge d.edge
  { d with regs := { r with twRws := r.twRws ||| m, twNew := r.twNew ||| m } }

/-- The 64 bytes of an event record (07 R191). -/
def eventBytes (src ctx time index : Nat) (payload : List Byte) : List Byte :=
  let body := u8 src ++ u8 ctx ++ u16 (min payload.length 48) ++ u64 time ++ padTo 48 payload ++ u16 index
  body ++ u16 (crc16 body)

/-- A record that the SPI port or the two-wire port still has to take. -/
def EvtRec.held (r : EvtRec) : Bool := r.forSpi || r.forTw

/-- Put a record of source `src` into Q4 for the ports of `deliver` (07 R216, R218-R221). -/
def Dev.queueRecord (src ctx : Nat) (payload : List Byte) (deliver : Nat) (d : Dev) : Dev :=
  let rcd : EvtRec :=
    { bytes := eventBytes src ctx d.now d.proto.evtIndex payload, forSpi := hasBit deliver 0, forTw := hasBit deliver 1 }
  let d1 := { d with proto.evtIndex := (d.proto.evtIndex + 1) % 65536 }
  if 256 ≤ d.proto.q4.length then d1
  else
    let firstForPort := (rcd.forSpi && !d.proto.q4.any (·.forSpi)) || (rcd.forTw && !d.proto.q4.any (·.forTw))
    let d2 := { d1 with proto.q4 := d.proto.q4 ++ [rcd] }
    if firstForPort then d2.setStatus 1 else d2

/-- A source raises an event for context `ctx` (0xFF for none) with a payload (07 R216): its status bit is set, and a
record is created when the source is enabled and delivered somewhere. Sources 0-2 create no record. In a halt no record is
created (R221), in SLEEP nothing is raised (03 R727), and a source of an unfitted feature never raises (00 R7). -/
def Dev.raise (src ctx : Nat) (payload : List Byte) (d : Dev) : Dev :=
  if (d.pwr.mode == .sleep && !d.toc.halted) || !d.sourceFitted src then d
  else
    let d1 := d.setStatus src
    let deliver := d.proto.deliver.getD src 0
    if !d.toc.halted && 3 ≤ src && d.irqEnabled src && deliver != 0 then d1.queueRecord src ctx payload deliver else d1

/-- Raise an event that concerns no context. -/
def Dev.emit (src : Nat) (payload : List Byte) (d : Dev) : Dev := d.raise src 0xFF payload

/-- The GPIO of WATCH_ENTER returns to input once the device is not in WATCH and source 48's status bit is clear (22 R619). -/
def Dev.gpioRelease (d : Dev) : Dev :=
  if d.pwr.mode != .watch && !d.irqBit 48 then { d with watch.gpio := none } else d

/-- An update guarded by a condition. -/
def Dev.onlyIf (c : Bool) (f : Dev → Dev) (d : Dev) : Dev := if c then f d else d

end Sys2Proof.Machine
end

