-- ==== Sys2Proof/Machine/Operands.lean ====
section
/-!
DEFINITION. Command packets and replies: reading a packet's fields (07 R188), the status codes (R201), the list of
checks in which the first failure answers (R202), and the result of executing a command.
-/
namespace Sys2Proof.Machine

/-- The status codes of 07 R201. -/
inductive Status where
  | ok | deferred | duplicate | badOpcode | badLength | badParam | badCrc | notOwner | wrongState | notFitted
  | noContext | noSlot | noPages | noEngine | queueFull | authFail | replay | locked | calRejected | calDisagree
  | busy | halted
deriving DecidableEq, Repr

/-- The code of a status (07 R201). -/
def Status.code : Status → Nat
  | .ok => 0x00 | .deferred => 0x01 | .duplicate => 0x02 | .badOpcode => 0x10 | .badLength => 0x11
  | .badParam => 0x12 | .badCrc => 0x13 | .notOwner => 0x14 | .wrongState => 0x15 | .notFitted => 0x16
  | .noContext => 0x20 | .noSlot => 0x21 | .noPages => 0x22 | .noEngine => 0x23 | .queueFull => 0x24
  | .authFail => 0x30 | .replay => 0x31 | .locked => 0x32 | .calRejected => 0x40 | .calDisagree => 0x41
  | .busy => 0x50 | .halted => 0x7F

/-- A change of state takes place only with OK or DEFERRED (07 R201). -/
def Status.acts : Status → Bool
  | .ok | .deferred => true
  | _ => false

/-- What executing a command gives: its status, the reply's payload, and the state with the command's effect.
`later` says that the reply is not sent now but when the operation ends (08 R235, 23 R651). -/
structure Res where
  status : Status
  payload : List Byte
  dev : Dev
  later : Bool := false

/-- The body of a command: what it answers and does once steps 1 to 6 of 07 R202 have passed. -/
abbrev Body := Req → Dev → Res

/-- The command is executed and answers OK with `payload`. -/
def okWith (payload : List Byte) (d : Dev) : Res := { status := .ok, payload := payload, dev := d }
/-- The command is executed and answers OK without payload. -/
def ok (d : Dev) : Res := okWith [] d
/-- The command is accepted and answers DEFERRED. -/
def deferred (d : Dev) : Res := { status := .deferred, payload := [], dev := d }
/-- The command is refused with `st`. -/
def refuse (st : Status) (d : Dev) : Res := { status := st, payload := [], dev := d }

/-- The status of the first check that fails: the checks in the order of 07 R202, each with whether it fails. -/
def firstFailure : List (Bool × Status) → Option Status
  | [] => none
  | (bad, st) :: rest => if bad then some st else firstFailure rest

/-- Refuse with the first failing check, else go on. -/
def checked (d : Dev) (checks : List (Bool × Status)) (go : Res) : Res :=
  match firstFailure checks with
  | some st => refuse st d
  | none => go

/-! ## Fields of a packet -/

/-- Length of the parameters. -/
def Req.len (q : Req) : Nat := q.params.length
/-- u8 parameter at `i`. -/
def Req.p8 (q : Req) (i : Nat) : Nat := at8 q.params i
/-- u16 parameter at `i`. -/
def Req.p16 (q : Req) (i : Nat) : Nat := at16 q.params i
/-- u32 parameter at `i`. -/
def Req.p32 (q : Req) (i : Nat) : Nat := at32 q.params i
/-- s8 parameter at `i`. -/
def Req.ps8 (q : Req) (i : Nat) : Int := atS8 q.params i
/-- s16 parameter at `i`. -/
def Req.ps16 (q : Req) (i : Nat) : Int := atS16 q.params i
/-- s32 parameter at `i`. -/
def Req.ps32 (q : Req) (i : Nat) : Int := atS32 q.params i
/-- The header's flags bits 7:1 and reserved byte are not zero (07 R202 step 8). -/
def Req.badHeader (q : Req) : Bool := q.flags / 2 != 0 || q.rsv != 0
/-- The sender is not the system owner (07 R205, R206). -/
def Req.notSystem (q : Req) (d : Dev) : Bool := q.src != d.proto.owner

/-- Length that a packet's header announces: 10 + param_len, and 12 more with flags.AUTH (07 R188, 05 R140). -/
def packetLength (bytes : List Byte) : Nat :=
  10 + at16 bytes 6 + (if hasBit (at8 bytes 3) 0 then 12 else 0)

/-- The CRC field of a packet. -/
def packetCrc (bytes : List Byte) : Nat := at16 bytes (bytes.length - 2)
/-- The CRC field is right (07 R189). -/
def crcGood (bytes : List Byte) : Bool := crc16 (bytes.take (bytes.length - 2)) == packetCrc bytes

/-- The fields of a complete packet taken with sequence index `seq`. -/
def QPkt.req (p : QPkt) (seq : Nat) : Req :=
  let b := p.bytes
  { opcode := at16 b 0, tag := at8 b 2, flags := at8 b 3, ctx := at8 b 4, rsv := at8 b 5,
    params := slice b 8 (at16 b 6), src := p.src, seq := seq, crc := packetCrc b, serial := p.serial }

/-- The counter of an authenticated packet (07 R188). -/
def packetCounter (b : List Byte) : Nat := at32 b (8 + at16 b 6)
/-- The MAC of an authenticated packet. -/
def packetMac (b : List Byte) : List Byte := slice b (12 + at16 b 6) 8
/-- The message under a packet's MAC (08 R239): boot nonce, counter, packet bytes 0 to 7 + param_len. -/
def macMessage (nonce : BitVec 64) (b : List Byte) : List Byte :=
  (leBytes 8 nonce.toNat).reverse ++ slice b (8 + at16 b 6) 4 ++ b.take (8 + at16 b 6)

/-- A reply's bytes (07 R190). -/
def replyBytes (opcode tag ctx seq : Nat) (st : Status) (orig : Nat) (payload : List Byte) : List Byte :=
  let body := u16 opcode ++ u8 tag ++ u8 st.code ++ u8 ctx ++ u8 orig ++ u16 payload.length ++ u32 seq ++ payload
  body ++ u16 (crc16 body)

end Sys2Proof.Machine
end

