-- ==== Sys2Proof/Machine/Props.lean ====
section
/-!
DEFINITION. The properties: their identifiers, ranges, defaults and kinds (07 R210, and the property table of each
chapter), their current and staged values (R212, R213), and the agreement sets.
-/
namespace Sys2Proof.Machine

namespace P

/-- P.THERMAL_WARN (03 R99). -/
abbrev thermalWarn : Nat := 0x0001
/-- P.SPUR_AUTO (04 R130). -/
abbrev spurAuto : Nat := 0x0801
/-- P.SPUR_GUARD (04 R130). -/
abbrev spurGuard : Nat := 0x0802
/-- P.SPUR_INTERVAL (04 R130). -/
abbrev spurInterval : Nat := 0x0803
/-- P.SURVEY_EVT_CYCLES (11 R321). -/
abbrev surveyEvtCycles : Nat := 0x0301
/-- P.DS_QUOTA_FG (13 R388). -/
abbrev dsQuotaFg : Nat := 0x0101
/-- P.DS_QUOTA_BG (13 R388). -/
abbrev dsQuotaBg : Nat := 0x0102
/-- P.DS_QUOTA_QUEUE (13 R388). -/
abbrev dsQuotaQueue : Nat := 0x0103
/-- P.DS_QUOTA_MOT (13 R388). -/
abbrev dsQuotaMot : Nat := 0x0104
/-- P.DS_QUOTA_BLEND (13 R388). -/
abbrev dsQuotaBlend : Nat := 0x0105
/-- P.DWELL_CHECK (13 R388). -/
abbrev dwellCheck : Nat := 0x0106
/-- P.DWELL_SCAN (13 R388). -/
abbrev dwellScan : Nat := 0x0107
/-- P.DWELL_BG (13 R388). -/
abbrev dwellBg : Nat := 0x0108
/-- P.CHECK_RESUME_MAX (13 R388). -/
abbrev checkResumeMax : Nat := 0x0109
/-- P.STARVE_LIMIT (13 R388). -/
abbrev starveLimit : Nat := 0x010A
/-- P.CTX_EVT_ROTATE (13 R388). -/
abbrev ctxEvtRotate : Nat := 0x010B
/-- P.FM_DEEMPH (14 R416). -/
abbrev fmDeemph : Nat := 0x1000
/-- P.FM_AFC (14 R416). -/
abbrev fmAfc : Nat := 0x1001
/-- P.FM_ACI_HI (14 R416). -/
abbrev fmAciHi : Nat := 0x1002
/-- P.FM_ACI_LO (14 R416). -/
abbrev fmAciLo : Nat := 0x1003
/-- P.FM_CMA_MU (14 R416). -/
abbrev fmCmaMu : Nat := 0x1004
/-- P.FM_CMA_ON_MP (14 R416). -/
abbrev fmCmaOnMp : Nat := 0x1005
/-- P.FM_BLEND_LO (14 R416). -/
abbrev fmBlendLo : Nat := 0x1006
/-- P.FM_BLEND_HI (14 R416). -/
abbrev fmBlendHi : Nat := 0x1007
/-- P.FM_BLEND_MP_LO (14 R416). -/
abbrev fmBlendMpLo : Nat := 0x1008
/-- P.FM_BLEND_MP_HI (14 R416). -/
abbrev fmBlendMpHi : Nat := 0x1009
/-- P.NB_CTRL_ATTACK (14 R416). -/
abbrev nbCtrlAttack : Nat := 0x100A
/-- P.NB_CTRL_RELEASE (14 R416). -/
abbrev nbCtrlRelease : Nat := 0x100B
/-- P.FM_HICUT_LO (14 R416). -/
abbrev fmHicutLo : Nat := 0x100C
/-- P.FM_HICUT_HI (14 R416). -/
abbrev fmHicutHi : Nat := 0x100D
/-- P.FM_HICUT_MIN (14 R416). -/
abbrev fmHicutMin : Nat := 0x100E
/-- P.FM_SOFTMUTE_CNR (14 R416). -/
abbrev fmSoftmuteCnr : Nat := 0x100F
/-- P.FM_SOFTMUTE_MAX (14 R416). -/
abbrev fmSoftmuteMax : Nat := 0x1010
/-- P.FM_PILOT_MIN (14 R416). -/
abbrev fmPilotMin : Nat := 0x1011
/-- P.AM_AGC_TC (14 R416). -/
abbrev amAgcTc : Nat := 0x1040
/-- P.AM_NB_THRESH (14 R416). -/
abbrev amNbThresh : Nat := 0x1041
/-- P.AM_NB_MAXRATE (14 R416). -/
abbrev amNbMaxrate : Nat := 0x1042
/-- P.AM_ACI_HI (14 R416). -/
abbrev amAciHi : Nat := 0x1043
/-- P.AM_ACI_LO (14 R416). -/
abbrev amAciLo : Nat := 0x1044
/-- P.AM_SOFTMUTE_CNR (14 R416). -/
abbrev amSoftmuteCnr : Nat := 0x1045
/-- P.AM_SOFTMUTE_MAX (14 R416). -/
abbrev amSoftmuteMax : Nat := 0x1046
/-- P.RDS_CORR_MAX (15 R439). -/
abbrev rdsCorrMax : Nat := 0x1080
/-- P.RDS_SYNC_LOSS (15 R439). -/
abbrev rdsSyncLoss : Nat := 0x1081
/-- P.RDS_ALARM_CONFIRM (15 R439). -/
abbrev rdsAlarmConfirm : Nat := 0x1082
/-- P.RDS_FB_FEED (15 R439). -/
abbrev rdsFbFeed : Nat := 0x1083
/-- P.RDS_WARM_MAX (15 R439). -/
abbrev rdsWarmMax : Nat := 0x1084
/-- P.RDS2_ALERT_AID (15 R439). -/
abbrev rds2AlertAid : Nat := 0x1085
/-- P.DAB_FB_FEED (16 R472). -/
abbrev dabFbFeed : Nat := 0x1100
/-- P.DAB_ANNO_MASK (16 R472). -/
abbrev dabAnnoMask : Nat := 0x1101
/-- P.DAB_ANNO_FOLLOW (16 R472). -/
abbrev dabAnnoFollow : Nat := 0x1102
/-- P.DAB_LOSS_FRAMES (16 R472). -/
abbrev dabLossFrames : Nat := 0x1103
/-- P.DAB_WARM_MAX (16 R472). -/
abbrev dabWarmMax : Nat := 0x1104
/-- P.DRM_FB_FEED (17 R503). -/
abbrev drmFbFeed : Nat := 0x1200
/-- P.DRM_LOSS_FRAMES (17 R503). -/
abbrev drmLossFrames : Nat := 0x1201
/-- P.DRM_WARM_MAX (17 R503). -/
abbrev drmWarmMax : Nat := 0x1202
/-- P.DRM_MLC_ITER (17 R503). -/
abbrev drmMlcIter : Nat := 0x1203
/-- P.DRM_DF_WEIGHT (17 R503). -/
abbrev drmDfWeight : Nat := 0x1204
/-- P.FB_STALE (19 R554). -/
abbrev fbStale : Nat := 0x0401
/-- P.FB_EXPIRE (19 R554). -/
abbrev fbExpire : Nat := 0x0402
/-- P.FOLLOW_HYST (19 R554). -/
abbrev followHyst : Nat := 0x0403
/-- P.FOLLOW_CONFIRM (19 R554). -/
abbrev followConfirm : Nat := 0x0404
/-- P.FOLLOW_HOLDOFF (19 R554). -/
abbrev followHoldoff : Nat := 0x0405
/-- P.FOLLOW_PREP_BELOW (19 R554). -/
abbrev followPrepBelow : Nat := 0x0406
/-- P.FOLLOW_CHECK_INT (19 R554). -/
abbrev followCheckInt : Nat := 0x0407
/-- P.FOLLOW_SLEW (19 R554). -/
abbrev followSlew : Nat := 0x0408
/-- P.FOLLOW_BIAS (19 R554). -/
abbrev followBias : Nat := 0x0409
/-- P.FOLLOW_EVAL (19 R554). -/
abbrev followEval : Nat := 0x040A
/-- P.FB_EVT_ROUNDS (19 R554). -/
abbrev fbEvtRounds : Nat := 0x040B
/-- P.MCLK_OUT (20 R590). -/
abbrev mclkOut : Nat := 0x0501
/-- P.CONCEAL_MAX (20 R590). -/
abbrev concealMax : Nat := 0x0502
/-- P.SPDO0_CS (20 R590). -/
abbrev spdo0Cs : Nat := 0x0510
/-- P.SPDO1_CS (20 R590). -/
abbrev spdo1Cs : Nat := 0x0511
/-- P.SPDO0_USER (20 R590). -/
abbrev spdo0User : Nat := 0x0512
/-- P.SPDO1_USER (20 R590). -/
abbrev spdo1User : Nat := 0x0513
/-- P.SPDI_MON (20 R590). -/
abbrev spdiMon : Nat := 0x0514
/-- P.MOT_TIMEOUT (21 R608). -/
abbrev motTimeout : Nat := 0x0601
/-- P.CL_PREFERENCE (23 R655). -/
abbrev clPreference : Nat := 0x0900
/-- P.CL_REFRESH (23 R655). -/
abbrev clRefresh : Nat := 0x0901
/-- P.CL_REMOTE_TRIES (23 R655). -/
abbrev clRemoteTries : Nat := 0x0902
/-- P.CL_REMOTE_ACCEPT (23 R655). -/
abbrev clRemoteAccept : Nat := 0x0903
/-- P.CL_ADDR_HOLD (23 R655). -/
abbrev clAddrHold : Nat := 0x0904
/-- P.CL_LOOP_BW (24 R677). -/
abbrev clLoopBw : Nat := 0x0980
/-- P.CL_TOLL_LOSS (24 R677). -/
abbrev clTollLoss : Nat := 0x0981
/-- P.CL_HOLDOVER_MAX (24 R677). -/
abbrev clHoldoverMax : Nat := 0x0982
/-- P.AGC_TARGET of input `i` (09 R279). -/
abbrev agcTarget (i : Nat) : Nat := 0x0200 + 16 * i
/-- P.AGC_HYST of input `i` (09 R279). -/
abbrev agcHyst (i : Nat) : Nat := 0x0201 + 16 * i
/-- P.AGC_CLIP_LIMIT of input `i` (09 R279). -/
abbrev agcClipLimit (i : Nat) : Nat := 0x0202 + 16 * i
/-- P.AGC_DECAY of input `i` (09 R279). -/
abbrev agcDecay (i : Nat) : Nat := 0x0203 + 16 * i
/-- P.AGC_HEADROOM of input `i` (09 R279). -/
abbrev agcHeadroom (i : Nat) : Nat := 0x0204 + 16 * i
/-- P.AGC_MIN_GAIN of input `i` (09 R279). -/
abbrev agcMinGain (i : Nat) : Nat := 0x0205 + 16 * i
/-- P.AGC_MAX_GAIN of input `i` (09 R279). -/
abbrev agcMaxGain (i : Nat) : Nat := 0x0206 + 16 * i
/-- P.LB_TARGET of input `i` (09 R279). -/
abbrev lbTarget (i : Nat) : Nat := 0x0207 + 16 * i
/-- P.XAMP_GAIN of input `i` (09 R279). -/
abbrev xampGain (i : Nat) : Nat := 0x0208 + 16 * i
/-- P.XAMP_INRUSH of input `i` (09 R279). -/
abbrev xampInrush (i : Nat) : Nat := 0x0209 + 16 * i
/-- P.XAMP_SETTLE of input `i` (09 R279). -/
abbrev xampSettle (i : Nat) : Nat := 0x020A + 16 * i
/-- P.XAMP_OPEN_MV of input `i` (09 R279). -/
abbrev xampOpenMv (i : Nat) : Nat := 0x020B + 16 * i
/-- P.XAMP_OC_MV of input `i` (09 R279). -/
abbrev xampOcMv (i : Nat) : Nat := 0x020C + 16 * i
/-- P.XAMP_RETRY of input `i` (09 R279). -/
abbrev xampRetry (i : Nat) : Nat := 0x020D + 16 * i

end P

/-- One property: identifier, range, default, whether each context has its own copy, and the feature it needs: 0 none,
1 DRM, 2 the fabric, 16 + i RF input i. -/
structure PropRow where
  id : Nat
  lo : Int
  hi : Int
  dflt : Int
  perCtx : Bool
  feature : Nat
deriving DecidableEq, Repr

/-- The property rows of 03 R99. -/
def propRows03 : List PropRow := [
  ⟨0x0001, 85, 130, 115, false, 0⟩]

/-- The property rows of 04 R130. -/
def propRows04 : List PropRow := [
  ⟨0x0801, 0, 1, 0, false, 0⟩,
  ⟨0x0802, 1, 2000, 150, false, 0⟩,
  ⟨0x0803, 800, 80000, 8000, false, 0⟩]

/-- The property rows of 11 R321. -/
def propRows11 : List PropRow := [
  ⟨0x0301, 0, 250, 0, false, 0⟩]

/-- The property rows of 13 R388. -/
def propRows13 : List PropRow := [
  ⟨0x0101, 0, 2496, 1024, false, 0⟩,
  ⟨0x0102, 0, 2496, 512, false, 0⟩,
  ⟨0x0103, 0, 2496, 256, false, 0⟩,
  ⟨0x0104, 0, 512, 128, false, 0⟩,
  ⟨0x0105, 0, 576, 576, false, 0⟩,
  ⟨0x0106, 8, 8000, 320, false, 0⟩,
  ⟨0x0107, 8, 80000, 2400, false, 0⟩,
  ⟨0x0108, 8, 80000, 800, false, 0⟩,
  ⟨0x0109, 0, 800, 80, false, 0⟩,
  ⟨0x010A, 0, 80000, 8000, false, 0⟩,
  ⟨0x010B, 0, 1, 0, false, 0⟩]

/-- The property rows of 14 R416. -/
def propRows14 : List PropRow := [
  ⟨0x1000, 0, 2, 0, true, 0⟩,
  ⟨0x1001, 0, 1, 1, true, 0⟩,
  ⟨0x1002, 2, 30, 10, true, 0⟩,
  ⟨0x1003, 1, 29, 4, true, 0⟩,
  ⟨0x1004, 6, 16, 10, true, 0⟩,
  ⟨0x1005, 5, 100, 15, true, 0⟩,
  ⟨0x1006, 0, 49, 14, true, 0⟩,
  ⟨0x1007, 1, 50, 30, true, 0⟩,
  ⟨0x1008, 0, 99, 10, true, 0⟩,
  ⟨0x1009, 1, 100, 40, true, 0⟩,
  ⟨0x100A, 2, 100, 10, true, 0⟩,
  ⟨0x100B, 10, 5000, 500, true, 0⟩,
  ⟨0x100C, 0, 49, 10, true, 0⟩,
  ⟨0x100D, 1, 50, 24, true, 0⟩,
  ⟨0x100E, 1500, 15000, 3000, true, 0⟩,
  ⟨0x100F, 0, 20, 6, true, 0⟩,
  ⟨0x1010, 0, 40, 20, true, 0⟩,
  ⟨0x1011, 10, 100, 35, true, 0⟩,
  ⟨0x1040, 20, 2000, 200, true, 0⟩,
  ⟨0x1041, 20, 200, 60, true, 0⟩,
  ⟨0x1042, 1, 50, 10, true, 0⟩,
  ⟨0x1043, -60, -10, -40, true, 0⟩,
  ⟨0x1044, -70, -20, -50, true, 0⟩,
  ⟨0x1045, 0, 30, 10, true, 0⟩,
  ⟨0x1046, 0, 40, 20, true, 0⟩]

/-- The property rows of 15 R439. -/
def propRows15 : List PropRow := [
  ⟨0x1080, 0, 5, 2, true, 0⟩,
  ⟨0x1081, 1, 50, 23, true, 0⟩,
  ⟨0x1082, 1, 8, 2, true, 0⟩,
  ⟨0x1083, 0, 1, 1, true, 0⟩,
  ⟨0x1084, 0, 80000, 8000, true, 0⟩,
  ⟨0x1085, 0, 65535, 0, true, 0⟩]

/-- The property rows of 16 R472. -/
def propRows16 : List PropRow := [
  ⟨0x1100, 0, 1, 1, true, 0⟩,
  ⟨0x1101, 0, 65534, 0, true, 0⟩,
  ⟨0x1102, 0, 1, 0, true, 0⟩,
  ⟨0x1103, 2, 50, 11, true, 0⟩,
  ⟨0x1104, 0, 16000, 8000, true, 0⟩]

/-- The property rows of 17 R503. -/
def propRows17 : List PropRow := [
  ⟨0x1200, 0, 1, 1, true, 1⟩,
  ⟨0x1201, 2, 20, 5, true, 1⟩,
  ⟨0x1202, 0, 80000, 16000, true, 1⟩,
  ⟨0x1203, 0, 2, 1, true, 1⟩,
  ⟨0x1204, 2, 8, 4, true, 1⟩]

/-- The property rows of 19 R554. -/
def propRows19 : List PropRow := [
  ⟨0x0401, 1, 86400, 600, false, 0⟩,
  ⟨0x0402, 60, 2000000, 604800, false, 0⟩,
  ⟨0x0403, 1, 7, 2, false, 0⟩,
  ⟨0x0404, 1, 50, 5, false, 0⟩,
  ⟨0x0405, 800, 800000, 24000, false, 0⟩,
  ⟨0x0406, 0, 7, 5, false, 0⟩,
  ⟨0x0407, 800, 2400000, 40000, false, 0⟩,
  ⟨0x0408, 1000, 50000, 10000, false, 0⟩,
  ⟨0x0409, 0, 489335, 0, false, 0⟩,
  ⟨0x040A, 80, 8000, 800, false, 0⟩,
  ⟨0x040B, 0, 80000, 0, false, 0⟩]

/-- The property rows of 20 R590. -/
def propRows20 : List PropRow := [
  ⟨0x0501, 0, 2, 0, false, 0⟩,
  ⟨0x0502, 1, 16, 4, false, 0⟩,
  ⟨0x0510, 0, 65535, 0, false, 0⟩,
  ⟨0x0511, 0, 65535, 0, false, 0⟩,
  ⟨0x0512, 0, 2, 0, false, 0⟩,
  ⟨0x0513, 0, 2, 0, false, 0⟩,
  ⟨0x0514, 0, 1, 0, false, 0⟩]

/-- The property rows of 21 R608. -/
def propRows21 : List PropRow := [
  ⟨0x0601, 1, 600, 60, false, 0⟩]

/-- The property rows of 23 R655. -/
def propRows23 : List PropRow := [
  ⟨0x0900, 0, 7, 0, false, 2⟩,
  ⟨0x0901, 800, 80000, 8000, false, 2⟩,
  ⟨0x0902, 1, 16, 8, false, 2⟩,
  ⟨0x0903, 0, 1, 0, false, 2⟩,
  ⟨0x0904, 1, 64, 8, false, 2⟩]

/-- The property rows of 24 R677. -/
def propRows24 : List PropRow := [
  ⟨0x0980, 0, 2, 1, false, 2⟩,
  ⟨0x0981, 2, 16, 4, false, 2⟩,
  ⟨0x0982, 800, 800000, 80000, false, 2⟩]

/-- The property rows of RF input `i` (09 R279). -/
def propRowsInput (i : Nat) : List PropRow := [
  ⟨0x0200 + 16 * i, -30, -10, -18, false, 16 + i⟩,
  ⟨0x0201 + 16 * i, 1, 6, 2, false, 16 + i⟩,
  ⟨0x0202 + 16 * i, 1, 16384, 16, false, 16 + i⟩,
  ⟨0x0203 + 16 * i, 1, 8000, 80, false, 16 + i⟩,
  ⟨0x0204 + 16 * i, 6, 20, 12, false, 16 + i⟩,
  ⟨0x0205 + 16 * i, -72, 48, -72, false, 16 + i⟩,
  ⟨0x0206 + 16 * i, -72, 48, 48, false, 16 + i⟩,
  ⟨0x0207 + 16 * i, -30, -10, -21, false, 16 + i⟩,
  ⟨0x0208 + 16 * i, 0, 80, 0, false, 16 + i⟩,
  ⟨0x0209 + 16 * i, 0, 100, 5, false, 16 + i⟩,
  ⟨0x020A + 16 * i, 1, 500, 20, false, 16 + i⟩,
  ⟨0x020B + 16 * i, 0, 1800, 0, false, 16 + i⟩,
  ⟨0x020C + 16 * i, 1, 1800, 1500, false, 16 + i⟩,
  ⟨0x020D + 16 * i, 0, 15, 0, false, 16 + i⟩]

/-- Every property that a chapter defines (07 R210). -/
def propTable : List PropRow :=
  propRows03 ++ propRows04 ++ propRows11 ++ propRows13 ++ propRows14 ++ propRows15 ++ propRows16 ++ propRows17 ++ propRows19 ++ propRows20 ++ propRows21 ++ propRows23 ++ propRows24
    ++ propRowsInput 0 ++ propRowsInput 1 ++ propRowsInput 2 ++ propRowsInput 3

/-- The row of an identifier, none where it is reserved. -/
def propRow (id : Nat) : Option PropRow := propTable.find? (·.id == id)

/-- The default of a property. -/
def propDefault (id : Nat) : Int := match propRow id with
  | some r => r.dflt
  | none => 0

/-- The property belongs to a feature or input that the part lacks (00 R6). -/
def Dev.propUnfitted (d : Dev) (r : PropRow) : Bool :=
  (r.feature == 1 && !d.hasDrm) || (r.feature == 2 && !d.hasFabric) || (16 ≤ r.feature && d.nInputs ≤ r.feature - 16)

/-- A u32 value as the property's number: two's complement where the range holds negative numbers (09 R279). -/
def PropRow.value (r : PropRow) (v : Nat) : Int := if r.lo < 0 then toSigned 4 v else v

/-- The value lies in the property's range; for P.DAB_ANNO_MASK bit 0 is zero (16 R472). The range of P.FOLLOW_BIAS is
read as a range of the whole number (DEDUCED log 8). -/
def PropRow.inRange (r : PropRow) (v : Int) : Bool :=
  r.lo ≤ v && v ≤ r.hi
    && !(r.id == P.dabAnnoMask && v.toNat % 2 == 1)

/-- The current value of a system property. -/
def Dev.prop (d : Dev) (id : Nat) : Int := (tabGet d.proto.props id).getD (propDefault id)
/-- The current value of a system property as a number that is never negative. -/
def Dev.propN (d : Dev) (id : Nat) : Nat := (d.prop id).toNat
/-- The current value of a property of context `c`; its default where the context is not open. -/
def Dev.ctxProp (d : Dev) (c id : Nat) : Int :=
  (((tabGet d.proto.ctxProps c).bind fun t => tabGet t id)).getD (propDefault id)
/-- The current value of a property of context `c` as a number. -/
def Dev.ctxPropN (d : Dev) (c id : Nat) : Nat := (d.ctxProp c id).toNat

/-- The value that the last accepted list of kind `ctx` gives to `id`. -/
def stagedIn (sets : List PropSet) (ctx id : Nat) : Option Int :=
  (sets.reverse.filter (·.ctx == ctx)).findSome? fun s => tabGet s.entries id

/-- The staged value of property `id`, of the system (ctx 0xFF) or of a context (07 R212). -/
def Dev.stagedProp (d : Dev) (ctx id : Nat) : Int :=
  (stagedIn d.proto.staged ctx id).getD (if ctx = 0xFF then d.prop id else d.ctxProp ctx id)
/-- The staged value of a system property (07 R214). -/
def Dev.staged (d : Dev) (id : Nat) : Int := d.stagedProp 0xFF id
/-- The staged value of a system property as a number. -/
def Dev.stagedN (d : Dev) (id : Nat) : Nat := (d.staged id).toNat

/-- The agreement sets of input `i` (09 R280), over the values that `get` gives: each with its members. -/
def agreementsInput (get : Nat → Int) (i : Nat) : List (List Nat × Bool) := [
  ([P.agcMinGain i, P.agcMaxGain i], decide (get (P.agcMinGain i) ≤ get (P.agcMaxGain i))),
  ([P.xampInrush i, P.xampSettle i], decide (get (P.xampInrush i) ≤ get (P.xampSettle i))),
  ([P.xampOpenMv i, P.xampOcMv i],
    decide (get (P.xampOpenMv i) = 0 ∨ get (P.xampOpenMv i) < get (P.xampOcMv i)))]

/-- The five quotas of 13 R378. -/
def quotaIds : List Nat := [P.dsQuotaFg, P.dsQuotaBg, P.dsQuotaQueue, P.dsQuotaMot, P.dsQuotaBlend]

/-- The agreement sets of the system properties (09 R280, 13 R378, 19 R554), over the values that `get` gives and the
pages already charged to each quota class. -/
def agreementsSystem (get : Nat → Int) (charged : List Nat) : List (List Nat × Bool) :=
  [(quotaIds, decide ((quotaIds.map get).sum ≤ 2496) &&
      (List.zipWith (fun id n => decide ((n : Int) ≤ get id)) quotaIds charged).all id),
   ([P.fbStale, P.fbExpire], decide (get P.fbStale < get P.fbExpire))]
  ++ (List.range 4).flatMap (agreementsInput get)

/-- The agreement sets of the per-context properties (14 R416, 16 R472). -/
def agreementsCtx (get : Nat → Int) : List (List Nat × Bool) := [
  ([P.fmAciHi, P.fmAciLo], decide (get P.fmAciLo < get P.fmAciHi)),
  ([P.fmBlendLo, P.fmBlendHi, P.fmBlendMpLo, P.fmBlendMpHi],
    decide (get P.fmBlendLo < get P.fmBlendHi) && decide (get P.fmBlendMpLo < get P.fmBlendMpHi)),
  ([P.fmHicutLo, P.fmHicutHi], decide (get P.fmHicutLo < get P.fmHicutHi)),
  ([P.amAciHi, P.amAciLo], decide (get P.amAciLo < get P.amAciHi)),
  ([P.dabAnnoMask, P.dabAnnoFollow], !(get P.dabAnnoFollow == 1 && get P.dabAnnoMask == 0))]

end Sys2Proof.Machine
end

