-- ==== Sys2Proof/Machine/Link.lean ====
section
/-!
DEFINITION. The Carillon frame (23 R629), the states of a port (23 R627, R628) and how the device falls silent on the fabric:
the operations that a halt, a reset and the power states share with chapters 23 and 24.
-/
namespace Sys2Proof.Machine

/-- The unique ID as this boot read it (08 R229). -/
def Dev.uid (d : Dev) : List Byte := padTo 8 (d.sec.fuseRead.take 8)

/-- Carillon port `p`. -/
def Dev.clPort (d : Dev) (p : Nat) : ClPortSt := d.cl.ports.getD p {}
/-- Change Carillon port `p`. -/
def Dev.setClPort (p : Nat) (f : ClPortSt → ClPortSt) (d : Dev) : Dev := { d with cl.ports := upd d.cl.ports p f }
/-- Ports that are UP. -/
def Dev.upPorts (d : Dev) : List Nat := indicesWhere d.cl.ports (·.mode == .up)
/-- The device is joining or joined (23 R649). -/
def Dev.joined (d : Dev) : Bool := d.cl.phase != .apart

/-- Address that the address table gives unique ID `u`, 0 none (23 R636). -/
def Dev.addrOf (d : Dev) (u : List Byte) : Nat := ((d.cl.addrs.find? (·.uid == u)).map (·.addr)).getD 0
/-- Own address, or 0. -/
def Dev.ownAddr (d : Dev) : Nat := d.addrOf d.uid
/-- The source has Toll timing (23 R629): its phase is corrected, or it keeps the time itself. -/
def Dev.tollTimed (d : Dev) : Bool := d.cl.loop != .none_ && d.cl.loop != .acquiring
/-- pos of a frame first sent in slot `n` now. -/
def Dev.framePos (d : Dev) (n : Nat) : Nat := if d.tollTimed then n + 64 * (d.round % 1024) else 0

/-! ## Frames (R629) -/

/-- A frame: header with its CRC, payload, and CRC-32. -/
def frameBytes (dest src typ ttl seq pos stream flags : Nat) (payload : List Byte) : List Byte :=
  let h := u8 dest ++ u8 src ++ u8 typ ++ u8 ttl ++ u16 seq ++ u16 pos ++ u16 payload.length ++ u16 stream ++ u16 flags
  let b := h ++ u16 (crc16 h) ++ payload
  b ++ u32 (crc32 b)

/-- dest of a frame. -/
def frameDest (b : List Byte) : Nat := at8 b 0
/-- src. -/
def frameSrc (b : List Byte) : Nat := at8 b 1
/-- type. -/
def frameType (b : List Byte) : Nat := at8 b 2
/-- ttl. -/
def frameTtl (b : List Byte) : Nat := at8 b 3
/-- seq. -/
def frameSeq (b : List Byte) : Nat := at16 b 4
/-- pos. -/
def framePosOf (b : List Byte) : Nat := at16 b 6
/-- stream. -/
def frameStream (b : List Byte) : Nat := at16 b 10
/-- flags. -/
def frameFlags (b : List Byte) : Nat := at16 b 12
/-- payload. -/
def framePayload (b : List Byte) : List Byte := slice b 16 (at16 b 8)
/-- The header CRC is right (R631). -/
def headerGood (b : List Byte) : Bool := 16 ≤ b.length && crc16 (b.take 14) == at16 b 14
/-- The frame is whole and its CRC-32 is right. -/
def trailerGood (b : List Byte) : Bool :=
  b.length == 20 + at16 b 8 && at16 b 8 ≤ 448 && crc32 (b.take (16 + at16 b 8)) == at32 b (16 + at16 b 8)
/-- The frame with another ttl, pos and payload. -/
def frameSet (ttl pos : Nat) (payload b : List Byte) : List Byte :=
  frameBytes (frameDest b) (frameSrc b) (frameType b) ttl (frameSeq b) pos (frameStream b) (frameFlags b) payload
/-- Two CRC fields added without carry. -/
def addCrc (a b : List Byte) : List Byte := List.zipWith (· ^^^ ·) a b
/-- A frame forwarded before its trailer has arrived: an error of its CRC-32 stays an error (DESIGN CHOICE log 61). -/
def frameThrough (ttl : Nat) (payload b : List Byte) : List Byte :=
  let good := frameSet ttl (framePosOf b) payload b
  let n := 16 + at16 b 8
  good.take n ++ addCrc (slice good n 4) (addCrc (slice b n 4) (u32 (crc32 (b.take n))))

/-! ## The lane (R626, R627) -/

/-- What a lane carries (R626): the ordered sets, and data code groups. Their 8b/10b coding is that of IEEE 802.3 Clause 36. -/
inductive LaneSet where
  | idle
  | start
  | data (b : Byte)
  | stop
deriving DecidableEq, Repr

/-- A frame on the lane (R626): /S/, its bytes with byte 0 first, /T/. -/
def laneFrame (b : List Byte) : List LaneSet := .start :: b.map LaneSet.data ++ [.stop]
/-- Time of a frame on the lane, ns: one code group at 2.5 Gbaud takes 4 ns (R626). -/
def laneTime (b : List Byte) : Nat := 4 * (laneFrame b).length
/-- Idles that separate two frames at least (R626). -/
def laneGap : Nat := 2

/-- What a port transmits (R627): nothing, idles alone, idles and HELLO frames, or every frame. -/
inductive LaneUse where
  | electricalIdle
  | idles
  | hellos
  | frames
deriving DecidableEq, Repr

/-- What a port transmits in each state (R627). -/
def ClPortMode.transmits : ClPortMode → LaneUse
  | .off => .electricalIdle
  | .training => .idles
  | .linked => .hellos
  | .up => .frames

/-! ## Falling silent -/

/-- A port that is OFF: nothing of its neighbour or timing is kept but the time of its last frame. -/
def ClPortSt.toOff (x : ClPortSt) : ClPortSt :=
  { enabled := x.enabled, next := x.next, errors := x.errors, frameAt := x.frameAt }
/-- A port that enters TRAINING. -/
def ClPortSt.toTraining (x : ClPortSt) : ClPortSt := { x.toOff with mode := .training }

/-- CL_PORT_DOWN (R656), with the neighbour and code errors as they stand before the port leaves UP. -/
def Dev.portDown (p cause : Nat) (d : Dev) : Dev :=
  let x := d.clPort p
  d.emit (116 + p) (u8 cause ++ padTo 8 x.neighbour ++ u16 x.errors)

/-- The frame of this device's LEAVE (R633), its payload computed when it joined. -/
def Dev.leaveFrame (d : Dev) : List Byte :=
  frameBytes 0xFF d.ownAddr 6 8 (at16 d.cl.leave 8) (d.framePos 0) 0 0 d.cl.leave

/-- One LEAVE frame goes out on each UP port (03 R89, 23 R650). -/
def Dev.sendLeaves (d : Dev) : Dev :=
  if d.cl.leave.isEmpty then d
  else { d with cl.tx := d.upPorts.map fun p => { port := p, at_ := d.now, bytes := d.leaveFrame } }

/-- Q6, every pending repeat and the stored replies are discarded (R647). -/
def Dev.dropRemote (d : Dev) : Dev :=
  { d with cl.cmds := [], cl.replies := [], cl.stored := [], proto.fabricOut := [] }

/-- The device takes part in no fabric: its election, tables, streams and timing end (R650, R676). -/
def ClSt.apart (x : ClSt) : ClSt :=
  { x with
    phase := .apart, joinDue := none, leaveDue := none, leave := [], best := none, quiet := none, announceAt := none
    excluded := [], heard := [], addrs := [], told := false, routes := [], refresh := 0, topo := [], pending := []
    requestAt := none, unsolicited := false, early := [], gone := [], left := [], streams := [], opening := none, releases := [], requests := []
    grants := [], grantSerial := 0, loop := .none_, trim := 0, trims := [], tollPort := none, heldToll := [], phi2 := none, slewing := false
    near := 0, far := 0 }

/-- Every port goes to OFF; each that was UP is told down with `cause` (R628). -/
def Dev.portsOff (cause : Nat) (d : Dev) : Dev :=
  let e := d.upPorts.foldl (fun d p => d.portDown p cause) d
  { e with cl.ports := e.cl.ports.map ClPortSt.toOff }

/-- Entry into WATCH or SLEEP on the fabric (03 R89, 23 R628, R647): LEAVE frames, ports OFF with cause 0x05, PLL_F stopped;
a device that was joining or joined will rejoin (24 R672). -/
def Dev.fabricSleeps (d : Dev) : Dev :=
  let was := d.joined
  let e := (d.sendLeaves.portsOff 5).dropRemote
  { e with cl := { e.cl.apart with rejoin := was }, clk.pllF := false, clk.pllFSince := none }

/-- What SLEEP and the boot that ends it keep of the fabric (24 R669, R672): which ports were enabled, whether the device will rejoin, and
the trim. -/
def ClSt.kept (x : ClSt) : ClSt := { ports := x.ports.map ClPortSt.toOff, lockTrim := x.lockTrim, rejoin := x.rejoin }

/-- On return to ACTIVE every enabled port starts again as CL_PORT would start it: PLL_F starts (24 R672, 23 R648). -/
def Dev.restartPorts (d : Dev) : Dev :=
  if d.cl.ports.any (·.enabled) && !d.clk.pllF && d.clk.pllFSince.isNone then { d with clk.pllFSince := some d.now } else d

/-- On return to ACTIVE a device that was joining or joined as WATCH or SLEEP began rejoins as CL_JOIN would have it (24 R672). -/
def Dev.rejoins (d : Dev) : Dev :=
  { d.restartPorts with cl.joinDue := if d.cl.rejoin then some d.nextBoundary else none, cl.rejoin := false }

/-- A halt on the fabric (02 R51, 23 R627, R633, R647): LEAVE frames, and the ports OFF. -/
def Dev.fabricHalts (d : Dev) : Dev :=
  let e := d.sendLeaves.dropRemote
  { e with cl.ports := e.cl.ports.map ClPortSt.toOff }

end Sys2Proof.Machine
end

