-- ==== Sys2Proof/Machine/Halt.lean ====
section
/-!
DEFINITION. Errors and the halt: filling and merging the first-error record (25 R682, R683), counting correctable
errors and their escalation (R686, R687), the fault log (R698), and what a halt does (R689).
-/
namespace Sys2Proof.Machine

/-- At least `us` microseconds have passed since `t` (one µs is 1,048.576 ticks, 00 R21). -/
def Dev.sinceUs (d : Dev) (t us : Nat) : Bool := us * 1048576 ≤ (d.now - t) * 1000

/-- The order of R682 among errors of one cycle: a real error before an injected one, then region, then block. -/
def ErrIn.rank (e : ErrIn) : Nat := (if e.injected then 0x100000 else 0) + e.region * 0x10000 + e.block

/-- The record filled by its first error (R682). -/
def Dev.fillRecord (e : ErrIn) (halts : Bool) (d : Dev) : Dev :=
  let n := if d.toc.captures % 65536 = 65535 then 1 else d.toc.captures + 1
  { d with
    toc.captures := n
    toc.rcd := { valid := true, halted := halts, injected := e.injected, real := !e.injected, level := e.level,
                 cls := e.cls, region := e.region, block := e.block, master := e.master, access := e.access,
                 addr := e.addr, time := d.now, lastSeq := d.proto.lastReady, capture := n, detail := e.detail } }

/-- An error merged into the record held (R683). -/
def Dev.mergeRecord (e : ErrIn) (halts : Bool) (d : Dev) : Dev :=
  let r := d.toc.rcd
  { d with toc.rcd := { r with
      merge := satAdd 0xFFFF r.merge 1
      merged := r.merged ||| BitVec.ofNat 32 (1 <<< e.cls)
      injected := r.injected || e.injected
      real := r.real || !e.injected
      halted := r.halted || halts } }

/-- The error halts the device (R688): a real one, or an injected one of mode 1. -/
def Dev.errorHalts (d : Dev) (e : ErrIn) : Bool :=
  !e.injected || (match d.toc.inject with | some j => j.mode == 1 | none => false)

/-- One error reaches Tocsin: it fills the record, or merges where one is held. -/
def Dev.recordError (e : ErrIn) (d : Dev) : Dev :=
  if d.toc.rcd.valid then d.mergeRecord e (d.errorHalts e) else d.fillRecord e (d.errorHalts e)

/-- Fuse bits that a halt or reset cut short leaves in place: some of those asked for, which ones is open (08 R235). -/
def Dev.dropFuseJob (d : Dev) : Dev :=
  match d.sec.job with
  | none => d
  | some j =>
    let set (f : List Byte) : List Byte := (indexed f).map fun (i, b) =>
      if j.offset ≤ i && i < j.offset + j.data.length
      then b ||| (j.data.getD (i - j.offset) 0 &&& Config.fusePart d.draws i) else b
    { d with sec.fuses := set d.sec.fuses, sec.job := none, draws := d.draws + 1 }

/-- A controller transfer that the device drives when a halt begins ends as 02 R52 states: where it holds SDA low (which the bus
decides, a free value) it releases SCL and then SDA, which forms a STOP; otherwise it releases both lines at once. Either is done
within 10 µs, which the model does not spread out (DEDUCED log 123). No other transfer starts until reset: every row of the
controller asks that the device is up. -/
def Dev.endTwcForHalt (d : Dev) : Dev :=
  let e := { d with twc.state := 0, twc.req := none }
  if d.twc.state = 2 then
    if Config.holdsSda d.draws then { e with draws := d.draws + 1, tw.busBusy := false, tw.lastStop := some d.now }
    else { e with draws := d.draws + 1 }
  else e

/-- Every AXn_PWR low and AXn_BYP high, and no sequence running (02 R51, 03 R89, 25 R689). -/
def Dev.ampsOff (d : Dev) : Dev :=
  { d with rf.inputs := d.rf.inputs.map fun x =>
      { x with amp := { x.amp with pwr := false, byp := true, seqn := none } }, rf.eepQueue := [] }

/-- The RF inputs in a halt (02 R51, 09 R247): isolation switches open, converters off. -/
def Dev.inputsHalt (d : Dev) : Dev :=
  { d with rf.inputs := d.rf.inputs.map fun x => { x with iso := false, lband := .off } }

/-- The halt of 25 R689 with t_hot at its beginning: engines stopped where they stand, PLL_A, PLL_F and SYN0 stopped (04 R104), the
inputs, amplifiers and GPIO as in reset (02 R51), the record's HALT_TEMP and LAST_SEQ taken, source 4's status bit set. What each
ball then shows, the audio outputs among them, stands in Pins.lean. -/
def Dev.halt (tHot : Int) (d : Dev) : Dev :=
  if d.toc.halted then d
  else
    let d1 := ((d.setStatus 4).dropFuseJob.endTwcForHalt).ampsOff.inputsHalt.fabricHalts
    { d1 with
      pwr.tHot := tHot
      clk.pllA := .stopped
      clk.syn0 := 0
      clk.syn1 := 0
      clk.pllF := false
      clk.pllFSince := none
      clk.change := none
      proto.running := none
      proto.waitOn := none
      watch.gpio := none
      toc.halted := true
      toc.alive := false
      toc.inject := none
      toc.rcd := { d1.toc.rcd with halted := true, haltTemp := tHot, lastSeq := d1.proto.lastReady } }

/-- The words that the SRAM errors of a report name are marked poisoned (01 R43). Nothing derived from one leaves the device: unless
it is the test word of a mode 0 injection, which no consumer uses, its error halts the device in the row that reports it. -/
def Dev.poison (errs : List ErrIn) (d : Dev) : Dev :=
  { d with toc.poisoned := errs.foldl (fun l e =>
      let w := (e.region, e.block, e.addr)
      if e.cls != 1 || l.contains w then l else l ++ [w]) d.toc.poisoned }

/-- Errors reach Tocsin on one REFCLK cycle (25 R682, R683): recorded in the order of R682, then the halt if one of
them halts (R688). In reset nothing is recorded. -/
def Dev.errorsArrive (errs : List ErrIn) (tHot : Int) (d : Dev) : Dev :=
  if d.inReset then d
  else
    match minBy ErrIn.rank errs with
    | none => d
    | some first =>
      let halts := errs.any d.errorHalts
      let d1 := (errs.erase first).foldl (fun d e => d.recordError e) (d.recordError first)
      (d1.poison errs).onlyIf halts (Dev.halt tHot)

/-- A real error of class `cls` that Tocsin itself decides (25 R732): chip level, region 4, block 8. -/
def chipError (cls addr : Nat) : ErrIn :=
  { cls := cls, level := 3, region := 4, block := 8, master := Config.faultMaster cls addr % 256,
    access := Config.faultAccess cls addr % 7, addr := addr, detail := 0, injected := false }

/-- The device halts on a real chip-level error (25 R732). -/
def Dev.chipFault (cls addr : Nat) (d : Dev) : Dev := d.errorsArrive [chipError cls addr] d.pwr.tHot

/-- One log entry of Q7 (25 R698): appended, or dropped and counted when 64 are held; never in a halt. -/
def Dev.logFault (entry : List Byte) (d : Dev) : Dev :=
  if d.toc.halted then d
  else if 64 ≤ d.toc.q7.length then { d with toc.logDrops := satAdd 0xFFFF d.toc.logDrops 1 }
  else { d with toc.q7 := d.toc.q7 ++ [entry] }

/-- flags of the record layout (25 R699): VALID, HALTED, INJECTED, REAL and LEVEL. -/
def recordFlags (r : FaultRec) : Nat :=
  bit r.valid + 2 * bit r.halted + 4 * bit r.injected + 8 * bit r.real + 16 * (r.level % 4)

/-- The 64 bytes of a record or log entry (25 R699). -/
def recordBytes (r : FaultRec) (ce : List Nat) (drops entries kind : Nat) : List Byte :=
  u8 (recordFlags r) ++ u8 r.cls ++ u16 r.merge ++ u8 r.region ++ u8 r.block ++ u8 r.master ++ u8 r.access
    ++ u32 r.addr ++ u32 r.merged.toNat ++ u64 r.time ++ ce.flatMap u16 ++ s16 r.haltTemp ++ u32 r.lastSeq
    ++ u16 r.capture ++ u16 drops ++ u8 entries ++ u8 kind ++ u16 0 ++ u64 r.detail ++ zeros 8

/-- The log entry of a correctable error (25 R698, R699): kind 0x03, class 0x10, counts zero. -/
def ceEntry (e : ErrIn) (time : Nat) : List Byte :=
  recordBytes { injected := e.injected, cls := 0x10, region := e.region, block := e.block, master := e.master,
                access := e.access, addr := e.addr, time := time, detail := e.detail } [0, 0, 0, 0, 0] 0 0 3

/-- The escalation error that a correctable error causes (25 R687): class 0x08, level region, the count as address. -/
def escalation (e : ErrIn) (count : Nat) : ErrIn :=
  { cls := 0x08, level := 2, region := e.region, block := Config.escalationBlock e.region % 256,
    master := Config.faultMaster 8 count % 256, access := Config.faultAccess 8 count % 7, addr := count, detail := 0,
    injected := e.injected }

/-- One corrected error (25 R686, R687, R698): counted, logged as the first of its region in the Round while log_ce
is 1, and an escalation at or above the threshold within an open window. -/
def Dev.correctable (e : ErrIn) (d : Dev) : Dev :=
  if d.inReset || d.toc.halted then d
  else
    let r := e.region
    let d1 := { d with
      toc.ce := upd d.toc.ce r (satAdd 0xFFFF · 1)
      toc.ceNew := upd d.toc.ceNew r (satAdd 0xFFFF · 1)
      toc.ceTotal := (d.toc.ceTotal + 1) % 2 ^ 32
      toc.ceWindow := if d.toc.windowOpen then upd d.toc.ceWindow r (· + 1) else d.toc.ceWindow }
    let logs := d.toc.policy.logCe && !d.toc.ceLogged.contains r
    let d2 := d1.onlyIf logs fun d => ({ d with toc.ceLogged := r :: d.toc.ceLogged }).logFault (ceEntry e d.now)
    let count := d2.toc.ceWindow.getD r 0
    let t := d2.toc.policy.threshold
    d2.onlyIf (t != 0 && d2.toc.windowOpen && t ≤ count) (Dev.errorsArrive [escalation e count] d2.pwr.tHot)

end Sys2Proof.Machine
end

