-- ==== Sys2Proof/Machine/Stream.lean ====
section
/-!
DEFINITION. The merged command stream (07 R193-R202): room in the queues, replies and repeat caches, the opcode map,
authentication (08 R236-R240), and the one way in which a command's row is executed.
-/
namespace Sys2Proof.Machine

/-! ## Queues -/

/-- Bytes of the packets in a command queue. -/
def queueBytes (l : List QPkt) : Nat := (l.map fun p => p.bytes.length).sum
/-- Bytes of the replies in a reply queue. -/
def replyBytesHeld (l : List (List Byte)) : Nat := (l.map List.length).sum

/-- Free space of the holding buffer of 03 R92. -/
def Dev.holdingFree (d : Dev) : Nat := if d.pwr.wakeHeld.isSome then 0 else 1046

/-- CMDQ_FREE (05; 03 R82, R728, 05 R729): 0 before BOOT_DONE unless a halt during the boot serves packets (R692)
(DEDUCED log 23). -/
def Dev.cmdqFree (d : Dev) : Nat :=
  if !(d.booted || d.toc.halted) then 0
  else if d.sleeping then d.holdingFree
  else if d.pwr.sleepSince.isSome then 0
  else 8192 - queueBytes d.proto.q0

/-- room of the command mailbox (06 R167). -/
def Dev.mailRoom (d : Dev) : Nat :=
  if !(d.booted || d.toc.halted) then 0
  else if d.sleeping then d.holdingFree
  else if d.pwr.sleepSince.isSome then 0
  else 8192 - queueBytes d.proto.q2

/-- Raise CMD_SPACE where CMDQ_FREE or the mailbox room rose to 1,046 or more from below (07 R218). -/
def Dev.spaceFrom (d before : Dev) : Dev :=
  let rose (f : Dev → Nat) : Bool := f before < 1046 && 1046 ≤ f d
  d.onlyIf (rose Dev.cmdqFree || rose Dev.mailRoom) (Dev.emit 2 [])

/-- Free bytes of Q1 (reply queue 1) or Q3. -/
def Dev.replyRoom (d : Dev) (queue : Nat) : Nat :=
  16384 - replyBytesHeld (if queue = 1 then d.proto.q1 else d.proto.q3)

/-- The reply queue of an interface: 1 for SPI, 3 for two-wire, none for the fabric (07 R196). -/
def Iface.replyQueue : Iface → Option Nat
  | .spi => some 1
  | .twoWire => some 3
  | .fabric _ => none

/-- The interface's reply queue has room for a reply of 1,038 bytes (07 R197). -/
def Dev.canReply (d : Dev) (src : Iface) : Bool :=
  match src.replyQueue with
  | none => true
  | some k => 1038 ≤ d.replyRoom k

/-- Put a reply into reply queue 1 or 3 (07 R218: REPLY_READY). -/
def Dev.putReply (queue : Nat) (bytes : List Byte) (d : Dev) : Dev :=
  let d1 := if queue = 1 then { d with proto.q1 := d.proto.q1 ++ [bytes] }
            else { d with proto.q3 := d.proto.q3 ++ [bytes] }
  d1.emit 0 []

/-- A reply goes to the interface that sent the packet (07 R196). -/
def Dev.sendReply (src : Iface) (serial : Nat) (bytes : List Byte) (d : Dev) : Dev :=
  match src with
  | .spi => d.putReply 1 bytes
  | .twoWire => d.putReply 3 bytes
  | .fabric dev => { d with proto.fabricOut := d.proto.fabricOut ++ [(dev, serial, bytes)] }

/-- Discards counted for reply queue 1 or 3, and QUEUE_OVERFLOW with `cause` (07 R197, R227, R730). -/
def Dev.replyDropped (queue cause : Nat) (d : Dev) : Dev :=
  let (a, b) := d.proto.replyDrops
  let drops := if queue = 1 then (satAdd 0xFFFFFFFF a 1, b) else (a, satAdd 0xFFFFFFFF b 1)
  let n := if queue = 1 then drops.1 else drops.2
  ({ d with proto.replyDrops := drops }).emit 111 (u8 queue ++ u8 cause ++ u32 n)

/-- A reply that a port produces for a packet that never entered a queue (05 R140, 06 R166): index 0, the header's
opcode and tag; discarded where the queue has no room (07 R730). -/
def Dev.portReply (queue : Nat) (header : List Byte) (st : Status) (d : Dev) : Dev :=
  let r := replyBytes (at16 header 0) (at8 header 2) (at8 header 4) 0 st 0 []
  if d.replyRoom queue < r.length then d.replyDropped queue 2 else d.putReply queue r

/-! ## The front of the stream -/

/-- The heads of Q0, Q2 and Q5, in the order that decides a tie (07 R193). -/
def Dev.heads (d : Dev) : List QPkt := d.proto.q0.take 1 ++ d.proto.q2.take 1 ++ d.proto.q5.take 1

/-- The packet that Izosh takes next: the one complete on the earliest REFCLK cycle (07 R193). -/
def Dev.front (d : Dev) : Option QPkt := minBy (fun p => p.doneAt / refTicks) d.heads

/-- The front packet's opcode. -/
def QPkt.opcode (p : QPkt) : Nat := at16 p.bytes 0

/-- The stream without packet `p`, which stood at the front of its queue. -/
def Dev.dropFront (p : QPkt) (d : Dev) : Dev :=
  let d1 := match p.src with
    | .spi => { d with proto.q0 := d.proto.q0.drop 1 }
    | .twoWire => { d with proto.q2 := d.proto.q2.drop 1 }
    | .fabric _ => { d with proto.q5 := d.proto.q5.drop 1 }
  d1.spaceFrom d

/-- Izosh can take a packet: it runs, executes no other command, no SLEEP entry is under way, and WATCH is not being left
(07 R195, 03 R728, 22 R620). -/
def Dev.takes (d : Dev) : Bool :=
  d.izosh && d.proto.running.isNone && d.pwr.sleepSince.isNone && d.watch.phase != .leaving

/-- The next sequence index (07 R194). -/
def nextSeq (n : Nat) : Nat := if n = 0xFFFFFFFF then 1 else n + 1

/-! ## Repeat caches -/

/-- The repeat cache of an interface. -/
def Dev.cache (d : Dev) (src : Iface) : List CacheEntry :=
  ((d.proto.caches.find? (·.1 == src)).map (·.2)).getD []

/-- Add an entry to an interface's cache, which keeps the last 8 (07 R198). -/
def Dev.remember (src : Iface) (e : CacheEntry) (d : Dev) : Dev :=
  { d with proto.caches := (src, (e :: d.cache src).take 8) :: d.proto.caches.filter (·.1 != src) }

/-- The cached reply as a DUPLICATE reply (07 R198): status 0x02, the original status in flags, the rest as it was. -/
def duplicateOf (reply : List Byte) : List Byte :=
  let body := reply.take 3 ++ u8 0x02 ++ slice reply 4 1 ++ slice reply 3 1 ++ (reply.take (reply.length - 2)).drop 6
  body ++ u16 (crc16 body)

/-- The reply to a taken packet becomes ready: queued, cached unless BUSY, HALTED or DUPLICATE (07 R199), and noted
for LAST_SEQ. -/
def Dev.reply (q : Req) (st : Status) (payload : List Byte) (d : Dev) : Dev :=
  let bytes := replyBytes q.opcode q.tag q.ctx q.seq st 0 payload
  let d1 := d.onlyIf (st != .busy && st != .halted) (Dev.remember q.src { tag := q.tag, crc := q.crc, reply := bytes })
  ({ d1 with proto.lastReady := q.seq }).sendReply q.src q.serial bytes

/-- The DUPLICATE reply to a repeat (07 R198); LAST_SEQ takes the repeat's own index (DEDUCED log 10). -/
def Dev.replyDuplicate (q : Req) (orig : List Byte) (d : Dev) : Dev :=
  ({ d with proto.lastReady := q.seq }).sendReply q.src q.serial (duplicateOf orig)

/-! ## Opcode map (07 R228) -/

/-- The highest opcode number of each group; 0 for a group that is not listed. -/
def groupTop (g : Nat) : Nat :=
  [9, 9, 5, 5, 7, 7, 4, 5, 3, 8, 4, 4, 3, 3, 0, 0, 4, 4, 3, 2].getD g 0

/-- The opcode is one of the table of R228. -/
def opcodeDefined (op : Nat) : Bool := 1 ≤ op % 256 && op % 256 ≤ groupTop (op / 256)
/-- A factory test opcode (07 R228). -/
def opcodeFactory (op : Nat) : Bool := 0xF000 ≤ op && op ≤ 0xFFFF
/-- The opcode's group is fitted (00 R4): group 0x09 is Carillon, 0x12 is DRM. -/
def Dev.groupFitted (d : Dev) (op : Nat) : Bool :=
  (op / 256 != 0x09 || d.hasFabric) && (op / 256 != 0x12 || d.hasDrm)

/-! ## Authentication (08) -/

/-- Key state from the fuses read at boot (08 R232): 0 unkeyed, 1 keyed, 2 key check failure. -/
def Dev.keyState (d : Dev) : Nat :=
  let key := slice d.sec.fuseRead 0x14 16
  let kcv := slice d.sec.fuseRead 0x24 4
  if (key ++ kcv).all (· == 0) then 0 else if keyCheck key == kcv then 1 else 2

/-- Fabric key state (08 R232, R242): 0 none, 1 present, 2 check failed. -/
def Dev.fabKeyState (d : Dev) : Nat :=
  let key := slice d.sec.fuseRead 0x2C 16
  let kcv := slice d.sec.fuseRead 0x3C 4
  if (key ++ kcv).all (· == 0) then 0 else if keyCheck key == kcv then 1 else 2

/-- Commands that are never critical (08 R236). -/
def exemptOpcodes : List Nat := [0x0001, 0x0A01, 0x0B01, 0x0B02]
/-- The baseline critical commands (08 R236). -/
def baselineOpcodes : List Nat := [0x0003, 0x0004, 0x0703, 0x0705, 0x0B03, 0x0B04]

/-- The command is critical (08 R236, R237). -/
def Dev.critical (d : Dev) (q : Req) : Bool :=
  let mask := at64 d.sec.fuseRead 0x0C
  let fromFabric := match q.src with | .fabric _ => true | _ => false
  !exemptOpcodes.contains q.opcode &&
    (baselineOpcodes.contains q.opcode || fromFabric || opcodeFactory q.opcode
      || (q.opcode / 256 ≤ 19 && mask.testBit (q.opcode / 256)))

/-- Authentication state of an interface, all zero where it has none yet (08 R238). -/
def Dev.ifaceSec (d : Dev) (src : Iface) : IfaceSec :=
  (d.sec.ifaces.find? (·.iface == src)).getD { iface := src }

/-- Store an interface's authentication state. -/
def Dev.setIfaceSec (x : IfaceSec) (d : Dev) : Dev :=
  { d with sec.ifaces := x :: d.sec.ifaces.filter (·.iface != x.iface) }

/-- SYS_STATUS.AUTH_LOCKED (08 R238). -/
def Dev.authLocked (d : Dev) : Bool := (d.ifaceSec .spi).locked || (d.ifaceSec .twoWire).locked

/-- Interface code and device of an interface (08 R241, 03 R94). -/
def Iface.code : Iface → Nat × Nat
  | .spi => (0, 0)
  | .twoWire => (1, 0)
  | .fabric dev => (2, dev)

/-- A counted authentication failure (08 R240, R241). -/
def Dev.authFailure (q : Req) (counter : Nat) (st : Status) (d : Dev) : Dev :=
  let x := d.ifaceSec q.src
  let n := x.failures + 1
  let y := { x with failures := n, locked := x.locked || n == 8 }
  (d.setIfaceSec y).emit 14
    (u8 q.src.code.1 ++ u8 q.src.code.2 ++ u16 q.opcode ++ u8 st.code ++ u8 n ++ u32 counter)

/-- Step 6 of 07 R202 (08 R240): the status that refuses, if any, and the state after the check. -/
def Dev.authenticate (q : Req) (raw : List Byte) (d : Dev) : Option Status × Dev :=
  let auth := hasBit q.flags 0
  let crit := d.critical q
  if !crit && !auth then (none, d)
  else
    let x := d.ifaceSec q.src
    let counter := if auth then packetCounter raw else 0
    if x.locked || d.keyState = 2 then (some .locked, d)
    else if d.keyState = 0 then
      if d.pwr.fuseEn && !auth && crit then (none, d) else (some .authFail, d)
    else if !auth || packetMac raw != mac8 (slice d.sec.fuseRead 0x14 16) (macMessage d.sec.nonce raw) then
      (some .authFail, d.authFailure q counter .authFail)
    else if counter = 0 || counter ≤ x.last then (some .replay, d.authFailure q counter .replay)
    else (none, d.setIfaceSec { x with last := counter, failures := 0 })

/-! ## Executing a packet -/

/-- The effect of a body's result: a reply now, or later with the state kept; a status that does not act leaves the
state as it was before the body (07 R201). -/
def Dev.conclude (q : Req) (r : Res) (d : Dev) : Dev :=
  if r.later then { r.dev with proto.running := some q }
  else if r.status.acts then r.dev.reply q r.status r.payload
  else d.reply q r.status r.payload

/-- The interface is a fabric device. -/
def Iface.isFabric : Iface → Bool
  | .fabric _ => true
  | _ => false

/-- Largest payload that a reply may have under the parameters of a command whose reply varies with them, 0 for the others
(23 R646) (DEDUCED log 102). -/
def Req.largestReply (q : Req) : Nat :=
  match q.opcode with
  | 0x0006 => 4 * q.len
  | 0x0302 => 16 + 2 * q.p16 4
  | 0x0304 => 32 * q.p8 1
  | 0x0401 => 8 + 34 * q.p8 4
  | 0x0404 => 8 + 34 * q.p8 2
  | 0x0603 => 32 * q.p8 1
  | 0x1103 => 8 + [24, 8, 12, 32].getD (q.p8 0) 32 * q.p8 2
  | _ => 0

/-- Largest payload of a reply that a REMOTE_REPLY frame carries: 448 bytes less the reply's 14 (23 R646, 07 R190). -/
def fabricPayload : Nat := 434

/-- The result of a fabric packet whose reply would be too long is BAD_LENGTH, without effect (23 R646). -/
def Res.forFabric (q : Req) (d : Dev) (r : Res) : Res :=
  if q.src.isFabric && (fabricPayload < q.largestReply || fabricPayload < r.payload.length) then
    { status := .badLength, payload := [], dev := d }
  else r

/-- Steps 3 and 5 to 12 of 07 R202 for a taken packet whose opcode is defined; a fabric packet's own CRC is checked here
(step 1) (DEDUCED log 15) (DEDUCED log 103). -/
def Dev.execute (q : Req) (raw : List Byte) (body : Body) (d : Dev) : Dev :=
  if !crcGood raw then d.reply q .badCrc [] else
  match (d.cache q.src).find? (fun e => e.tag == q.tag && e.crc == q.crc) with
  | some e => d.replyDuplicate q e.reply
  | none =>
    if !d.groupFitted q.opcode || (q.ctx != 0xFF && d.nCtx ≤ q.ctx) then d.reply q .notFitted []
    else
      match d.authenticate q raw with
      | (some st, d1) => d1.reply q st []
      | (none, d1) => d1.conclude q ((body q d1).forFabric q d1)

/-- Izosh takes packet `p` and hands it to `run`, with the next sequence index; where its reply queue has no room, the
stream waits instead (07 R194, R197). -/
def Dev.take (p : QPkt) (run : Req → Dev → Dev) (d : Dev) : Dev :=
  if d.canReply p.src then
    let n := nextSeq d.proto.seq
    run (p.req n) { d.dropFront p with proto.seq := n, proto.waitOn := none }
  else
    match d.proto.waitOn, p.src.replyQueue with
    | none, some k => { d with proto.waitOn := some (k, d.now) }
    | _, _ => d

/-- The row of a host command: Izosh takes the front packet and executes it, where it is a packet of opcode `op`. -/
def Dev.command (op : Nat) (body : Body) (d : Dev) : Dev :=
  match d.front with
  | none => d
  | some p => if p.opcode = op then d.take p (fun q e => e.execute q p.bytes body) else d

/-- The meaning of a host command's row. -/
def State.command (s : State) (dt op : Nat) (body : Body) : Host.Outcome State Fault Refusal :=
  s.runIf dt Dev.takes (Dev.command op body)

/-- The reply of a command that was answered later (08 R235, 23 R651). -/
def Dev.answerLater (st : Status) (payload : List Byte) (d : Dev) : Dev :=
  match d.proto.running with
  | none => d
  | some q => ({ d with proto.running := none }).reply q st payload

/-- Not in ACTIVE: a command that R90 does not name answers WRONG_STATE in WATCH (03 R90). -/
def Dev.inWatch (d : Dev) : Bool := d.pwr.mode == .watch

end Sys2Proof.Machine
end

