-- ==== Sys2Proof/Machine/Queries.lean ====
section
/-!
DEFINITION. Questions that one chapter asks of another's state, and the shared operations that act across chapters.
-/
namespace Sys2Proof.Machine

/-- Some context is open (03 R95). -/
def Dev.anyOpen (d : Dev) : Bool := !d.trav.ctxs.isEmpty
/-- A calibration run is in progress (03 R95). -/
def Dev.calBusy (d : Dev) : Bool := !d.cal.runs.isEmpty || d.cal.syn0Run.isSome || d.cal.syn1Run.isSome
/-- t_cal of input `i`, none where no values are in use (03 R98). -/
def Dev.tCal (d : Dev) (i : Nat) : Option Int := (d.cal.vals.getD i none).map (·.tCal)
/-- WATCH ends for a cause of WATCH_WAKE and an entry (22 R620): the receiver stops at once. -/
def Dev.leaveWatch (cause entry : Nat) (d : Dev) : Dev :=
  { d with watch.phase := .leaving, watch.since := d.now, watch.exit := (cause, entry), watch.hop := none, watch.hopCal := false }

/-- LO ranges of the settings of SYN1, kHz (22 R610). -/
def syn1Ranges : List (Nat × Nat) :=
  [(187500, 250000), (142860, 190480), (83330, 111110), (62500, 83330), (23440, 31250), (17860, 23810), (13390, 17860), (10140, 13510)]
/-- Setting of SYN1 for a channel at `f`: the lowest-numbered one whose range contains it (22 R610) (DEDUCED log 92). -/
def syn1Setting (f : Nat) : Nat := (syn1Ranges.findIdx? fun r => r.1 ≤ f && f ≤ r.2).getD 0
/-- Output dividers N of SYN1, by setting (22 R610). -/
def syn1Dividers : List Nat := [16, 21, 36, 48, 128, 168, 224, 296]
/-- VCO frequency of SYN1 for a channel at `f`, kHz: f × N (22 R610). -/
def syn1Vco (f : Nat) : Nat := f * syn1Dividers.getD (syn1Setting f) 16
/-- Frequency of the watch receiver's quadrature LO, kHz: the tuned frequency, for DRM30 the search offset above it (22 R610). -/
def watchLo (std f : Nat) : Nat := if std = 3 then f + 5 else f
/-- Rate of the watch receiver's decimated baseband, samples a second (22 R610). -/
def watchRate (std : Nat) : Nat := if std = 2 then 2048000 else if std = 3 then 64000 else 256000
/-- Channels of the watch list, kHz, in list order (22 R613, 10 R294). -/
def Dev.watchChannels (d : Dev) : List Nat := d.watch.list.map (·.freq)
/-- SYN1 calibrates a channel (04 R128). -/
def Dev.syn1Busy (d : Dev) : Bool := d.cal.syn1Run.isSome || d.watch.hopCal

/-- TW_CFG.CTRL_EN (05). -/
def Dev.ctrlEn (d : Dev) : Bool := d.regs.twCfg.getLsbD 5

/-- The identity EEPROM read of input `i` ends with `st` (09 R277) and the bytes read; its sequence finishes at the next
Round boundary (09 R271). -/
def Dev.eepDone (i st : Nat) (bytes : List Byte) (d : Dev) : Dev :=
  let fin (x : InputSt) : InputSt :=
    let y := { x.amp with eepState := st, eep := bytes }
    { x with amp := match x.amp.seqn with
      | some { kind := k, stage := .reading } => { y with seqn := some { kind := k, stage := .toFinish (boundaryAfter d.now) } }
      | _ => y }
  { d with rf.inputs := upd d.rf.inputs i fin, rf.eepQueue := d.rf.eepQueue.erase i }

/-- A controller transfer cut off by a cleared CTRL_EN or by the shutdown sequence ends with the recovery sequence,
result 0x08 (06 R181); an EEPROM read cut off so ends with a bus error. How many bytes a transfer on the bus had moved by then is a
free value; one that waited keeps what its last attempt moved (R186). -/
def Dev.abortTwc (d : Dev) : Dev :=
  if d.twc.state = 0 || d.twc.state = 4 then d
  else
    let e := { d with twc.state := 4, twc.req := none, twc.recCause := 1, twc.since := d.now }
    match d.twc.req with
    | some { input := some i, .. } => e.eepDone i 4 []
    | some r =>
      if d.twc.state = 2 then
        let p := Config.busProgress d.draws
        { e with draws := d.draws + 1, twc.result := 8, twc.wrDone := min p.1 r.wr.length, twc.rdData := p.2.take r.rdLen }
      else { e with twc.result := 8 }
    | none => { e with twc.result := 8 }

/-- The waiting EEPROM read of input `i` begins (09 R273): it waits for a free bus. -/
def Dev.startEep (i : Nat) (d : Dev) : Dev :=
  { d with
    twc.state := 1, twc.attempts := 0, twc.since := d.now
    twc.req := some { addr := ((d.rf.inputs.getD i {}).amp.eepAddr), flags := 0, wr := [0], rdLen := 32, input := some i } }

/-- Start the first waiting EEPROM read once the controller is idle (09 R273); while CTRL_EN is 0 every one that waits is refused. -/
def Dev.pumpEep (d : Dev) : Dev :=
  if d.twc.state != 0 then d
  else if d.ctrlEn then
    match d.rf.eepQueue with
    | [] => d
    | i :: _ => d.startEep i
  else d.rf.eepQueue.foldl (fun d i => d.eepDone i 3 []) d

/-- The fuse values of this boot are valid (05 R146). -/
def Dev.fuseValid (d : Dev) : Bool :=
  !(d.pwr.stage == .held || d.pwr.stage == .released || d.pwr.stage == .strapped)

/-- The ports answer register accesses (05 R135, R152, 06 R171): from the fuse read on, and in a halt, also one that began before
the fuse read. -/
def Dev.portAnswers (d : Dev) : Bool := d.fuseValid || d.toc.halted

/-- DATAQ_READY0-3 as one number's bits: queue n is bit n, set when it holds a complete record (05; R729). -/
def Dev.dataReady (d : Dev) : BitVec 128 :=
  BitVec.ofNat 128 (maskOf ((d.data.queues.filter fun x => !x.2.recs.isEmpty).map (·.1)))

/-- The context is open (13). -/
def Dev.ctxOpen (d : Dev) (c : Nat) : Bool := (tabGet d.trav.ctxs c).isSome
/-- The context is closing: every command naming it but CTX_STATUS answers WRONG_STATE (13 R380). -/
def Dev.ctxClosing (d : Dev) (c : Nat) : Bool := (tabGet d.trav.ctxs c).any (·.closing.isSome)
/-- Owner of an open context (07 R204). -/
def Dev.ctxOwner (d : Dev) (c : Nat) : Option Iface := (tabGet d.trav.ctxs c).map (·.owner)
/-- The fabric device is in the route table (23). -/
def Dev.inRoutes (d : Dev) (dev : Nat) : Bool := d.cl.routes.any (·.addr == dev)
/-- Pages charged to the queue class, accepted sizes counted (13 R375, 21 R592). -/
def Dev.queuePages (d : Dev) : Nat :=
  let accepted (k pages : Nat) : Nat := d.data.acts.foldl (fun n a => match a.2 with
    | .size q p => if q = k then max n p else n
    | _ => n) pages
  (((List.range 120).map (8 + ·)).map fun k => accepted k (((tabGet d.data.queues k).map (·.pages)).getD 0)).sum
/-- Pages charged to the MOT class (21). -/
def Dev.motPages (d : Dev) : Nat :=
  (d.data.binds.map fun x => (x.2.objs.map fun o => (o.header.length + o.bodyLen + 4095) / 4096).sum).sum
/-- Programme `p` holds its blend buffer, accepted commands counted (19 R548, 20 R588): by BLEND_CFG, for a manual blend, or
for a follow group. -/
def Dev.blendHeld (d : Dev) (p : Nat) : Bool :=
  let x := d.audio.progs.getD p {}
  x.hold || x.blend.any (·.manual) || d.follow.groups.any (·.1 == p)
    || d.follow.acts.any (fun a => a.prog == p && a.grp.isSome)
    || d.audio.acts.any fun a => match a.2 with
      | .blend k _ _ hold action _ => k == p && (hold || action == 1)
      | _ => false
/-- Pages charged to the blend class (13 R375): 144 for each buffer held. -/
def Dev.blendPages (d : Dev) : Nat := 144 * ((List.range 4).filter d.blendHeld).length

/-- The sender is not the owner of the open context `c` (07 R205); a context that is not open is refused later. -/
def Req.notCtxOwner (q : Req) (c : Nat) (d : Dev) : Bool :=
  match d.ctxOwner c with
  | some o => q.src != o
  | none => false

end Sys2Proof.Machine
end

