-- ==== Sys2Proof/Machine/Bands.lean ====
section
/-!
DEFINITION. Segments, frequencies and scales: the segments and their useful bands (11 R302), the tuned word (12 R323),
the segment exponent (11 R305), gains (09 R249), and the delay of a slot (12 R337).
-/
namespace Sys2Proof.Machine

/-- The first Round boundary at or after `t`. -/
def boundaryAt (t : Nat) : Nat := ((t + roundTicks - 1) / roundTicks) * roundTicks
/-- `us` microseconds in ticks, rounded up (one µs is 1,048.576 ticks). -/
def usec (us : Nat) : Nat := (us * 1048576 + 999) / 1000

/-- SYN0 of the L-band converters, kHz (09 R252). -/
def syn0Freq : Nat := 1172000
/-- Frequency at the ball less that at the converter, kHz: the L-band converter takes f - 1172 MHz, not inverted (09 R252). -/
def ballShift (n : Nat) : Nat := if n = 3 then syn0Freq else 0
/-- Centre of segment type `n` at the converter, kHz (11 R302). -/
def converterCentre (n : Nat) : Nat := [32768, 86016, 207000, 300000].getD n 0
/-- Useful band of segment type `n` at the converter, kHz (11 R302). -/
def converterBand (n : Nat) : Nat × Nat :=
  [(144, 30000), (64000, 110000), (170000, 245000), (280000, 320000)].getD n (0, 0)
/-- Useful band at the ball of segment type `n`, kHz (11 R302): 1,452-1,492 MHz for segment 3. -/
def bandOf (n : Nat) : Nat × Nat := ((converterBand n).1 + ballShift n, (converterBand n).2 + ballShift n)
/-- Centre of segment type `n` as seen at the ball, kHz: 1,472 MHz for segment 3 (11 R303). -/
def centreOf (n : Nat) : Nat := converterCentre n + ballShift n
/-- Lowest and highest Survey bin of segment type `n` (11 R302). -/
def binsOf (n : Nat) : Int × Int := [(-1019, -87), (-688, 749), (-1156, 1187), (-625, 625)].getD n (0, 0)
/-- Number of Survey bins of segment type `n`. -/
def binCount (n : Nat) : Nat := ((binsOf n).2 - (binsOf n).1 + 1).toNat
/-- A frequency in kHz lies in the useful band of segment type `n`. -/
def inBand (n f : Nat) : Bool := (bandOf n).1 ≤ f && f ≤ (bandOf n).2
/-- Segment type whose useful band holds the frequency. -/
def segmentOf (f : Nat) : Option Nat := (List.range 4).find? fun n => inBand n f
/-- The standard suits the segment type (11 R319). -/
def stdSuits (std n : Nat) : Bool :=
  match std with
  | 0 | 4 => n == 1
  | 1 | 3 => n == 0
  | 2 => n == 2 || n == 3
  | _ => false

/-- The tuned word W for a frequency in kHz and a further offset in hertz on segment type `n` (12 R323). -/
def tunedWord (n f : Nat) (offset : Int) : Int :=
  let o : Int := ((f : Int) - (centreOf n : Int)) * 1000 + offset
  roundAway (o * 32768) 1000

/-! ## Gains and exponents -/

/-- Attenuator setting, dB, of main gain `g` in half dB (09 R249). -/
def attOf (g : Int) : Nat := if -12 ≤ g then 0 else ((-12 - g + 1) / 2).toNat
/-- LNA setting in half dB (09 R249). -/
def lnaOf (g : Int) : Int := g + 2 * attOf g

/-- floor(log2 (10 ^ (h / 40))) for `h` half decibels (11 R305). -/
def exponentOf (h : Int) : Int :=
  let holds (e : Int) : Bool :=   -- 2^e ≤ 10^(h/40)
    if 0 ≤ h then (if e ≤ 0 then true else decide (2 ^ (40 * e.toNat) ≤ 10 ^ h.toNat))
    else (if 0 ≤ e then false else decide (10 ^ (-h).toNat ≤ 2 ^ (40 * (-e).toNat)))
  ((List.range 32).foldl (fun best i => let e : Int := (i : Int) - 12; if holds e then e else best) (-12))

/-- Input `i`'s state. -/
def Dev.inp (d : Dev) (i : Nat) : InputSt := d.rf.inputs.getD i {}
/-- Change input `i`. -/
def Dev.setInp (i : Nat) (f : InputSt → InputSt) (d : Dev) : Dev := { d with rf.inputs := upd d.rf.inputs i f }

/-- The converter is on, or switching (09 R278) (DEDUCED log 44). -/
def LbandMode.isOn : LbandMode → Bool
  | .off => false
  | _ => true
/-- Segment n.3 has gone live and is not yet withdrawn. -/
def LbandMode.isLive : LbandMode → Bool
  | .on | .switchingOff _ => true
  | _ => false

/-- SYN0 is lost as the slots see it (09 R255). -/
def Dev.loIsLost (d : Dev) : Bool :=
  match d.rf.loLost with
  | some b => b ≤ d.now && !(match d.rf.loBack with | some e => e ≤ d.now | none => false)
  | none => false

/-- Input `i` feeds its segments: live, or held by a calibration run of a live input (09 R264, 11 R309). -/
def Dev.inputLive (d : Dev) (i : Nat) : Bool := (d.inp i).mode == .live
/-- A calibration run of input `i` has begun (10 R283). -/
def Dev.calRunning (d : Dev) (i : Nat) : Bool := d.cal.runs.any fun r => r.input == i && r.began
/-- A run of input `i` that interrupts live service: the slots hold (10 R287). -/
def Dev.calHolds (d : Dev) (i : Nat) : Bool := d.cal.runs.any fun r => r.input == i && r.began && !r.startup
/-- Segment n.3 has its converter: it is on and past its start time, and SYN0 is locked, or re-acquires, when R255 applies
(11 R309). -/
def Dev.lbandFeeds (d : Dev) (i : Nat) : Bool :=
  (d.inp i).lband.isLive && (d.clk.syn0 == 1 || (d.clk.syn0 == 2 && d.rf.syn0Attempt != 0))
/-- Segment 4i + n can serve slots: its input is live, or held by a run, and for n = 3 its converter feeds it (11 R309). -/
def Dev.segLive (d : Dev) (seg : Nat) : Bool :=
  (d.inputLive (seg / 4) || d.calHolds (seg / 4)) && (seg % 4 != 3 || d.lbandFeeds (seg / 4))

/-- Delay D of R337 in ticks for decimation exponent `k` and FIR delay `dl` in half samples. -/
def slotDelay (k dl : Nat) : Nat := 140 + 1856 * (2 ^ k - 1) + 32 * 2 ^ k * dl

/-- Width of a DRM30 spectrum occupancy, 100 Hz (17). -/
def occWidth (o : Nat) : Nat := [45, 50, 90, 100, 180, 200].getD o 200

/-- Centre offset of an occupancy, Hz (17 R476). -/
def occOffset (o : Nat) : Int := [2250, 2500, 0, 0, 4500, 5000].getD o 5000

end Sys2Proof.Machine
end

