-- ==== Sys2Proof/Machine/Programs.lean ====
section
/-!
DEFINITION. Contexts, instances, slots and programmes as every chapter looks them up, and the mute causes of a programme
(20 R561): which become active or clear, with the PROG_MUTE event of each ramp.
-/
namespace Sys2Proof.Machine

/-- The open context `c`. -/
def Dev.ctx? (d : Dev) (c : Nat) : Option CtxSt := tabGet d.trav.ctxs c
/-- Change context `c` where it is open. -/
def Dev.setCtx (c : Nat) (f : CtxSt → CtxSt) (d : Dev) : Dev :=
  match d.ctx? c with
  | some x => { d with trav.ctxs := tabSet d.trav.ctxs c (f x) }
  | none => d
/-- Ensemble instance `n`. -/
def Dev.inst? (d : Dev) (n : Nat) : Option InstSt := tabGet d.trav.insts n
/-- Change instance `n` where it exists. -/
def Dev.setInst (n : Nat) (f : InstSt → InstSt) (d : Dev) : Dev :=
  match d.inst? n with
  | some x => { d with trav.insts := tabSet d.trav.insts n (f x) }
  | none => d
/-- Slot `n`. -/
def Dev.slot (d : Dev) (n : Nat) : SlotSt := d.chan.slots.getD n {}
/-- Change slot `n`. -/
def Dev.setSlot (n : Nat) (f : SlotSt → SlotSt) (d : Dev) : Dev := { d with chan.slots := upd d.chan.slots n f }
/-- Programme `p`. -/
def Dev.prog (d : Dev) (p : Nat) : ProgSt := d.audio.progs.getD p {}
/-- Change programme `p`. -/
def Dev.setProg (p : Nat) (f : ProgSt → ProgSt) (d : Dev) : Dev := { d with audio.progs := upd d.audio.progs p f }

/-- Slot that a context receives through: its own, or its instance's (01 R33). -/
def Dev.slotOf (d : Dev) (c : Nat) : Option Nat :=
  match d.ctx? c with
  | none => none
  | some x => match x.inst with
    | some n => (d.inst? n).bind (·.slot)
    | none => x.slot
/-- Input that a context receives on. -/
def Dev.inputOf (d : Dev) (c : Nat) : Option Nat :=
  match d.ctx? c with
  | none => none
  | some x => match x.inst with
    | some n => (d.inst? n).bind (·.input)
    | none => x.input

/-- The combined service that context `c` anchors (18 R505), directly or through its instance. -/
def Dev.serviceOf (d : Dev) (c : Nat) : Option (Nat × CmbSt) :=
  d.comb.services.find? fun (_, v) =>
    v.anchor == c || (match (d.ctx? v.anchor).bind (·.inst), (d.ctx? c).bind (·.inst) with
      | some a, some b => a == b
      | _, _ => false)

/-- Segments on which a context's signal comes in: those of its slot and of the slots of its combined service's local branches;
a remote branch counts as no segment of this device, a local branch without a slot brings in nothing. -/
def Dev.sourceSegs (d : Dev) (c : Nat) : List (Option Nat) :=
  let own := ((d.slotOf c).map fun s => some (d.slot s).seg).toList
  match d.serviceOf c with
  | none => own
  | some (_, v) => own ++ (v.branches.drop 1).filterMap fun b =>
      if b.remote then some none else b.slot.map fun s => some (d.slot s).seg

/-- The segment is being withdrawn: its input is being disabled, or its converter switched off (09 R266, R267). -/
def Dev.segLeaving (d : Dev) (seg : Nat) : Bool :=
  let x := d.inp (seg / 4)
  x.offDue.isSome || (seg % 4 == 3 && (match x.lband with | .switchingOff _ => true | _ => false))

/-- Every slot of context `c` lies on segments that are being withdrawn. -/
def Dev.losingInput (d : Dev) (c : Nat) : Bool :=
  let l := d.sourceSegs c
  !l.isEmpty && l.all fun o => match o with
    | some seg => d.segLeaving seg
    | none => false

/-- The audio of context `c` is released and neither closing nor losing its input (20 R561). -/
def Dev.srcReleased (d : Dev) (c : Nat) : Bool :=
  match d.ctx? c with
  | some x => x.state == .running && x.released && x.closing.isNone && !d.losingInput c
  | none => false

/-- PROG_MUTE (20 R591). -/
def Dev.progMute (p state : Nat) (d : Dev) : Dev :=
  let x := d.prog p
  d.emit (74 + p) (u8 state ++ u8 x.causes ++ u8 (x.src.getD 0xFF) ++ u16 x.badFrames)

/-- The mute causes of programme `p` become `new`; the first cause starts the ramp to zero over 5 ms, and the ramp up over 5 ms
starts when the last one clears (20 R561). -/
def Dev.setCauses (p new : Nat) (d : Dev) : Dev :=
  let old := (d.prog p).causes
  if new = old then d
  else
    let e := d.setProg p fun x => { x with causes := new }
    let ramp (gain : Nat) (e : Dev) : Dev := e.setProg p fun x => { x with mute := rampTo 0 gain 5 d.now x.mute }
    if old = 0 then (ramp 0 e).progMute p 0 else if new = 0 then (ramp (2 ^ 24) e).progMute p 1 else e

/-- The mask `m` with bit `n` set or cleared. -/
def withBit (m n : Nat) (on : Bool) : Nat := if on then m ||| (1 <<< n) else m - (m &&& (1 <<< n))

/-- Mute cause `bitNo` of programme `p` becomes active or clears. -/
def Dev.setCause (p bitNo : Nat) (on : Bool) (d : Dev) : Dev := d.setCauses p (withBit (d.prog p).causes bitNo on)

/-- The decoder of context `c` conceals with the cause "conceal" active (20 R558). -/
def Dev.conceals (d : Dev) (c : Nat) : Bool := match d.ctx? c with
  | some x => x.dec.conceal
  | none => false

/-- Contexts whose audio programme `p` puts out: its source, and the partner of a fade that goes on to the partner. -/
def Dev.heard (d : Dev) (p : Nat) : List Nat :=
  let x := d.prog p
  x.src.toList ++ (match x.fading with
    | some f => if f.result = 2 || f.result = 4 then [] else [f.target]
    | none => [])

/-- Programme `p` has released audio: of its source, or of the version that a fade brings in. -/
def Dev.progReleased (d : Dev) (p : Nat) : Bool := (d.heard p).any d.srcReleased

/-- Mute causes "source", "conceal" and "blend" of each programme follow its source (20 R561): "blend" clears once a version is
released; a fade that goes on to a good partner is muted by neither "source" nor "conceal", so that no gap but its own ramps is
heard (19 R551) (DEDUCED log 145). -/
def Dev.audioSync (d : Dev) : Dev :=
  forAll (List.range 4) (fun p d =>
    let x := d.prog p
    let l := d.heard p
    let out : Bool := !d.progReleased p
    let con : Bool := !l.isEmpty && l.all d.conceals
    d.setCauses p (withBit (withBit (withBit x.causes 1 out) 2 con) 4 (x.causes.testBit 4 && out))) d

/-- Every programme ramps to mute with cause "power" (03 R89, R97). -/
def Dev.rampAll (d : Dev) : Dev := forAll (List.range 4) (fun p d => d.setCause p 5 true) d

/-- The port or SPDO output `n` (0-3 ports, 4-5 SPDO) runs. -/
def Dev.outRunning (d : Dev) (n : Nat) : Bool :=
  let r := if n < 4 then (d.audio.ports.getD n {}).run else (d.audio.spdo.getD (n - 4) {}).run
  match r with
  | .running | .stopping _ => true
  | _ => false

/-- Programmes routed to a running port ramp to mute with cause "clock" (04 R123, R126). -/
def Dev.clockMute (d : Dev) : Dev :=
  forAll (List.range 4) (fun p d =>
    d.onlyIf ((bitsOf 4 (d.prog p).ports).any d.outRunning) (Dev.setCause p 3 true)) d
/-- The programmes that the clock muted ramp up (04 R124, R126). -/
def Dev.clockUnmute (d : Dev) : Dev := forAll (List.range 4) (fun p d => d.setCause p 3 false) d

end Sys2Proof.Machine
end

