-- ==== Sys2Proof/Machine/Segments.lean ====
section
/-!
DEFINITION. The segment down-converters (chapter 11): mixer, half-band stages, gain compensation and sample format (R302-R308; 09 R259,
R272).
-/
namespace Sys2Proof.Machine

/-- The mixer word of segment type `n` (R302): its centre in hertz × 4.096. -/
def mixerWord (n : Nat) : Nat := [0x08000000, 0x15000000, 0x32898000, 0x493E0000].getD n 0

/-- Pure delay of the chain in ticks besides its filters: with their 201 ticks and the analogue delay of 09 R251 it makes the 384 of
R308; the fraction of a tick lies in the third stage (DEDUCED log 130). -/
def segLag (n : Nat) : Nat := if n = 3 then 180 else 181

/-- Half decibels of c that act at datum tick `t` (R305, R307). -/
def SegDsp.gainAt (x : SegDsp) (t : Nat) : Option Int := (x.gains.find? (·.1 ≤ t)).map (·.2)

/-- The exponent of the segment sample that leaves the down-converter at datum tick `t` (R307, R308). -/
def SegDsp.expAt (x : SegDsp) (t : Nat) : Int := exponentOf ((x.gainAt (t - 384)).getD ((x.gains.getLast?.map (·.2)).getD 0))

/-- The segment mantissa of a filtered value: 2^92 stands for one ADC step, and a full-scale sine gives 16,384 with c = 1 (R306). -/
def mantissaOf (e v : Int) : Int := openDiv (16 * v) (2 ^ (92 + e).toNat)

/-- One ADC code enters the down-converter of segment type `n` at datum tick `t`: it is scaled by c and mixed with e^(-jφ) (R303, R305),
and every eighth tick a segment sample leaves (R304, R308). -/
def SegDsp.push (n : Nat) (x0 : SegDsp) (t : Nat) (code : Int) : SegDsp × List SegSample :=
  let v := (rotor18 x0.phase).scale (code * ampOf ((x0.gainAt t).getD 0))
  let clips := code = -2048 || code = 2047
  let x := { x0 with
    phase := (x0.phase + mixerWord n) % 2 ^ 32, line := pushLine 188 v x0.line, clipAt := if clips then some t else x0.clipAt }
  if t % 2 != 0 then (x, [])
  else
    let x := { x with mid := pushLine 11 (firSum (halfBand 7 (Config.segTap 1)) (fullLine 188 x.line |>.drop (segLag n))) x.mid }
    if t % 4 != 0 then (x, [])
    else
      let x := { x with low := pushLine 95 (firSum (halfBand 11 (Config.segTap 2)) x.mid) x.low }
      if t % 8 != 0 then (x, [])
      else
        let e := x.expAt t
        let y := firSum ((List.range 95).map (Config.segTrimTap (n / 3))) x.low
        let (m, sat) := y.eachSat fun v => saturateFull 16 (mantissaOf e v)
        (x, [{ m := m, e := e, sat := sat, clipped := x.clipAt.any fun a => decide (t < a + 8) }])

/-- The ADC codes of one AGC window enter the down-converter: `t` is its first datum tick, `h` the half decibels of c in it. -/
def SegDsp.window (n t : Nat) (h : Int) (codes : List Int) (x : SegDsp) : SegDsp × List SegSample :=
  let x := if (x.gains.head?.map (·.2)) == some h then x else { x with gains := ((t, h) :: x.gains).take 4 }
  (indexed codes).foldl (fun (x, l) c => let (y, o) := x.push n (t + c.1) c.2; (y, l ++ o)) (x, [])

/-- Half decibels of c of segment 4i + n now (R305): the external amplifier counts while AXn_BYP is low (09 R272). -/
def Dev.segGain (d : Dev) (seg : Nat) : Int :=
  let x := d.inp (seg / 4)
  if seg % 4 = 3 then 2 * (30 - (x.lbg : Int)) else 48 - x.g - (if x.amp.byp then 0 else d.prop (P.xampGain (seg / 4)))

/-- The segment exponent E of segment 4i + n now. -/
def Dev.segExp (d : Dev) (seg : Nat) : Int := exponentOf (d.segGain seg)

/-- The factor f of R305, 1 ≤ f < 2, in units of 2^-24: c = 2^E · f. -/
def Dev.segFactor (d : Dev) (seg : Nat) : Nat :=
  let e := d.segExp seg
  if 0 ≤ e then ampOf (d.segGain seg) / 2 ^ e.toNat else ampOf (d.segGain seg) * 2 ^ (-e).toNat

/-- E of the segment sample that leaves at the datum time now, which stands for the ball 384 ticks ago (12 R335). -/
def Dev.firstExp (d : Dev) (seg : Nat) : Int :=
  match (d.rf.segs.getD seg {}).gainAt (d.now - 384) with
  | some h => exponentOf h
  | none => d.segExp seg

/-- The gains of input `i` change now: a new E and f act from this datum tick on (R307, 09 R259, R272). -/
def Dev.noteGain (i : Nat) (d : Dev) : Dev :=
  { d with rf.segs := (indexed d.rf.segs).map fun x =>
      if x.1 / 4 = i && (x.2.gains.head?.map (·.2)).any (· != d.segGain x.1)
      then { x.2 with gains := ((d.now, d.segGain x.1) :: x.2.gains).take 4 } else x.2 }

/-- The window of `codes` of input `i` that ends now passes the down-converters of its live segments: the samples of each. -/
def Dev.convert (i : Nat) (codes : List Int) (d : Dev) : List (Nat × List SegSample) × Dev :=
  (List.range 4).foldl (fun (out, e) n =>
    let seg := 4 * i + n
    if !e.segLive seg then (out, e)
    else
      let (x, l) := (e.rf.segs.getD seg {}).window n (e.now - 16384) (d.segGain seg) codes
      (out ++ [(seg, l)], { e with rf.segs := e.rf.segs.set seg x })) ([], d)

/-- The down-converters of input `i` start afresh. -/
def Dev.clearSegs (p : Nat → Bool) (d : Dev) : Dev :=
  { d with rf.segs := (indexed d.rf.segs).map fun x => if p x.1 then {} else x.2 }

end Sys2Proof.Machine
end

