-- ==== Sys2Proof/Machine/SlotDsp.lean ====
section
/-!
DEFINITION. The signal path of one slot (chapter 12): exponent alignment, the NCO and mixer, the CIC, the half-band stages, the
final FIR, the output normaliser, slips, and the scaling of the stored state (R324-R336, R340-R342).
-/
namespace Sys2Proof.Machine

/-- What a slot's setting, its bank and its Round fix for its samples. -/
structure SlotPar where
  /-- Tuned word W (R323). -/
  w : Int
  /-- Slot exponent Es (R335). -/
  es : Int
  /-- Normaliser shift r (R334). -/
  r : Nat
  /-- Decimation exponent k (R328). -/
  k : Nat
  /-- Shifts of the half-band stages (R333). -/
  hbShift : List Int
  /-- Shift of the FIR (R333). -/
  firShift : Int
  /-- Coefficients h (R330). -/
  h : List Int
  /-- Settling time 2D (R337). -/
  settling : Nat

/-- What holds of a slot's output at one grid tick (R338, R340). -/
structure SlotCond where
  /-- HOLD is flagged. -/
  hold : Bool
  /-- A calibration holds now: the output repeats the last sample before it. -/
  held : Bool
  /-- LO_LOST. -/
  lo : Bool
  /-- NOSEG. -/
  noseg : Bool
  /-- SETTLE. -/
  settle : Bool

/-- The front-end takes zero in place of the segment samples (R340). -/
def SlotCond.feedsZero (c : SlotCond) : Bool := c.held || c.lo || c.noseg

/-- Output exponent Eo (R334). -/
def SlotPar.eo (p : SlotPar) : Int := p.es - ((p.hbShift.take p.k).sum + p.firShift) + p.r

/-- Exponent alignment x = m · 2^(E - Es) on 24 bits (R325). -/
def alignTo (es : Int) (s : SegSample) : Cx × Bool := s.m.eachSat fun v => saturate 24 (shiftRound v (es - s.e))

/-- One input of the five integrators (R326). -/
def cicIn (ints : List Cx) (x : Cx) : List Cx × Cx :=
  ints.foldl (fun (l, v) i => let s := (i.add v).each (wrapInt 39); (l ++ [s], s)) ([], x)
/-- One output of the five combs, brought back to the scale of x (R326). -/
def cicOut (combs : List Cx) (x : Cx) : List Cx × Cx × Bool :=
  let (l, v) := combs.foldl (fun (l, v) p => (l ++ [v], (v.sub p).each (wrapInt 39))) (([], x) : List Cx × Cx)
  let (y, s) := v.eachSat fun a => saturate 24 (shiftRound a 15)
  (l, y, s)

/-- Half-band stages from stage `i` on, at grid tick `t`: their inputs, the output if the last of them gives one now, and the stages
that saturated (R329, R333). -/
def hbRun (t : Nat) : Nat → List (List Cx) → List Int → Cx → List (List Cx) × Option Cx × List Nat
  | i, x :: xs, s :: ss, v =>
    let line := pushLine 59 v x
    if t % (64 * 2 ^ i) = 0 then
      let (y, sat) := (firSum (halfBand 59 Config.slotTap) line).eachSat fun a => saturate 24 (shiftRound a (17 - s))
      let (l, o, m) := hbRun t (i + 1) xs ss y
      (line :: l, o, if sat then (i + 1) :: m else m)
    else (line :: xs, none, [])
  | _, xs, _, v => (xs, some v, [])

/-- The writes of C whose tick has come take effect (R341). -/
def SlotDsp.takeC (t : Nat) (x : SlotDsp) : SlotDsp :=
  { x with
    cNow := ((x.cNext.filter (·.1 ≤ t)).getLast?.map (·.2)).getD x.cNow
    cNext := x.cNext.filter (t < ·.1) }

/-- A requested slip at an output: how often it is delivered, and the state after it (R342). -/
def SlotDsp.slips (x : SlotDsp) : Nat × SlotDsp :=
  if x.slip = 0 || x.spaced < 64 then (1, { x with spaced := min 64 (x.spaced + 1) })
  else if 0 < x.slip then (0, { x with slip := x.slip - 1, spaced := 0 })
  else (2, { x with slip := x.slip + 1, spaced := 0 })

/-- An output of mantissa `m` at grid tick `t`: repeated in a hold, zero under LO_LOST and NOSEG (R338, R340). -/
def SlotDsp.deliver (p : SlotPar) (c : SlotCond) (t : Nat) (m : Cx) (x : SlotDsp) : SlotDsp × List SlotSample :=
  let v := if c.held then x.last else if c.lo || c.noseg then {} else m
  let s : SlotSample := { t := t, m := v, eo := p.eo, hold := c.hold, lo := c.lo, noseg := c.noseg, settle := c.settle
                          sat := x.satAt.any fun a => decide (t < a + p.settling) }
  let (n, y) := x.slips
  ({ y with last := v }, if n = 0 then [] else if n = 1 then [s] else [s, { s with slip := true }])

/-- Saturation mask of SLOT_STATUS (R345) of the stages that saturated on one sample. -/
def satMaskOf (l : List Nat) : Nat := maskOf l

/-- One segment sample enters the slot at datum tick `t` (R324-R334); gives the state, the outputs, and the saturated stages as R345
numbers them. -/
def SlotDsp.step (p : SlotPar) (c : SlotCond) (t : Nat) (s : Option SegSample) (x0 : SlotDsp) :
    SlotDsp × List SlotSample × List Nat :=
  let x1 := x0.takeC t
  let s := if c.feedsZero then none else s
  let (a, satA) := match s with
    | some v => alignTo p.es v
    | none => ({}, false)
  let m := (a.mul (rotor18 x1.phase)).each fun v => openDiv v (2 ^ 17)
  let (ints, v) := cicIn x1.ints m
  let x2 := { x1 with phase := ((x1.phase + p.w + x1.cNow) % 2 ^ 32).toNat, ints := ints, next := t + 8 }
  let head := (if satA then [0] else []) ++ (if s.any (·.sat) then [14] else [])
  let note (l : List Nat) (x : SlotDsp) : SlotDsp := if l.isEmpty then x else { x with satAt := some t }
  if t % 64 != 0 then (note head x2, [], head)
  else
    let (combs, z, satC) := cicOut x2.combs v
    let (hb, o, satH) := hbRun t 1 (x2.hb.take p.k) (p.hbShift.take p.k) z
    let head := head ++ (if satC then [1] else []) ++ satH
    let x3 := { x2 with combs := combs, hb := hb ++ x2.hb.drop p.k }
    match o with
    | none => (note head x3, [], head)
    | some z =>
      let fir := pushLine p.h.length z x3.fir
      let (y, satF) := (firSum p.h fir).eachSat fun a => saturate 24 (shiftRound (wrapInt 48 a) (17 - p.firShift))
      let (out, satO) := y.eachSat fun a => saturateFull 16 (shiftRound a p.r)
      let all := head ++ (if satF then [12] else []) ++ (if satO then [13] else [])
      let (x4, l) := (note all { x3 with fir := fir, peak := max x3.peak y.rail }).deliver p c t out
      (x4, l, all)

/-- Nothing is stored in the chain and nothing is due, so that zeros in give zeros out. -/
def SlotDsp.quiet (x : SlotDsp) : Bool :=
  x.ints.all Cx.isZero && x.combs.all Cx.isZero && x.hb.all (·.all Cx.isZero) && x.fir.all Cx.isZero && x.cNext.isEmpty && x.slip == 0

/-- Zeros enter a quiet chain until datum tick `until_`: only the NCO moves, and every output is delivered as its flags say. -/
def SlotDsp.idle (p : SlotPar) (cond : Nat → SlotCond) (until_ : Nat) (x : SlotDsp) : SlotDsp × List SlotSample :=
  let n := (until_ - x.next) / 8
  let grid := 64 * 2 ^ p.k
  let first := (x.next + grid - 1) / grid
  let ticks := (List.range ((until_ + grid - 1) / grid - first)).map fun j => (first + j) * grid
  ticks.foldl (fun (x, l) t => let (y, o) := x.deliver p (cond t) t {}; (y, l ++ o))
    ({ x with phase := ((x.phase + (p.w + x.cNow) * n) % 2 ^ 32).toNat, next := until_ }, [])

/-- Segment samples, each with its datum tick, enter the slot. -/
def SlotDsp.feed (p : SlotPar) (cond : Nat → SlotCond) (l : List (Nat × Option SegSample)) (x : SlotDsp) :
    SlotDsp × List SlotSample × List Nat :=
  l.foldl (fun (x, out, sats) s => let (y, o, m) := x.step p (cond s.1) s.1 s.2; (y, out ++ o, sats ++ m)) (x, [], [])

/-- Samples that are missing before datum tick `until_` enter as zeros (R340). -/
def SlotDsp.catchUp (p : SlotPar) (cond : Nat → SlotCond) (until_ : Nat) (x : SlotDsp) : SlotDsp × List SlotSample × List Nat :=
  if until_ ≤ x.next then (x, [], [])
  else if x.quiet then let (y, o) := x.idle p cond until_; (y, o, [])
  else x.feed p cond ((List.range ((until_ - x.next) / 8)).map fun j => (x.next + 8 * j, none))

/-- The stored words multiplied by 2^(-dE) (R335). -/
def SlotDsp.rescale (dE : Int) (x : SlotDsp) : SlotDsp :=
  if dE = 0 then x
  else
    let f (w : Nat) (a : Cx) : Cx := a.each fun v => (saturate w (shiftRound v dE)).1
    { x with ints := x.ints.map (f 39), combs := x.combs.map (f 39), hb := x.hb.map (·.map (f 24)), fir := x.fir.map (f 24) }

end Sys2Proof.Machine
end

