-- ==== Sys2Proof/Machine/Channel.lean ====
section
/-!
DEFINITION. The channeliser (chapter 12): coefficient banks, starting, retuning and stopping a slot, its exponents, flags
and state, and the commands COEF_LOAD and SLOT_STATUS. SLOT_PIN stands with Traverse.
-/
namespace Sys2Proof.Machine

/-- Decimation exponent of a standard (R328): FM, AM, DAB, DRM30, DRM+. -/
def stdK (std : Nat) : Nat := [6, 8, 3, 8, 6].getD std 0
/-- Factory bank of a standard (R332). -/
def stdBank (std : Nat) : Nat := [1, 2, 0, 3, 4].getD std 0

/-- Output rate of a slot at decimation exponent `k`, samples per second (R328). -/
def slotRate (k : Nat) : Nat := 16384000 / 2 ^ k
/-- Output samples per Round at decimation exponent `k` (R328). -/
def slotPerRound (k : Nat) : Nat := 2048 / 2 ^ k

/-- Factory bank `b` (R332): k, T and d of the table, every shift 0, and coefficients that the spec bounds only by their response. -/
def factoryBank (b : Nat) : BankSt :=
  let taps := [63, 95, 63, 63, 95].getD b 0
  { k := [3, 6, 8, 8, 6].getD b 0, d := [62, 94, 62, 62, 94].getD b 0, firShift := 0, hbShift := List.replicate 10 0
    h := (List.range taps).map (Config.bankTap b) }
/-- A bank's contents (R331): factory profiles 0-4, host banks 16-31 where they have been loaded, no other. -/
def Dev.bankOf (d : Dev) (b : Nat) : Option BankSt := if b ≤ 4 then some (factoryBank b) else tabGet d.chan.banks b
/-- k of a bank, none where it cannot be used (R331, R332). -/
def Dev.bankK (d : Dev) (b : Nat) : Option Nat := (d.bankOf b).map (·.k)
/-- FIR delay d of a bank (R332). -/
def Dev.bankD (d : Dev) (b : Nat) : Nat := ((d.bankOf b).map (·.d)).getD 0
/-- S, the sum of the shifts that a slot on the bank runs (R333). -/
def Dev.bankS (d : Dev) (b : Nat) : Int := ((d.bankOf b).map fun x => (x.hbShift.take x.k).sum + x.firShift).getD 0
/-- Delay D of a slot on the bank (R337). -/
def Dev.bankDelay (d : Dev) (b : Nat) : Nat := slotDelay ((d.bankK b).getD 0) (d.bankD b)
/-- The slot is pinned for context `c`. -/
def SlotSt.pinnedTo (x : SlotSt) (c : Nat) : Bool := match x.pin with
  | some (k, _) => k == c
  | none => false
/-- The slot without a pin for context `c`. -/
def SlotSt.unpin (c : Nat) (x : SlotSt) : SlotSt := if x.pinnedTo c then { x with pin := none } else x

/-- Output exponent Eo (R334). -/
def Dev.slotEo (d : Dev) (x : SlotSt) : Int := x.es - d.bankS x.bank + x.r

/-- A slot starts at this boundary (R334-R336, R339): its filter state cleared, settling, with correction `c`. -/
def Dev.startSlot (n : Nat) (user : SlotUser) (seg : Nat) (w : Int) (bank : Nat) (c : Int) (d : Dev) : Dev :=
  d.setSlot n fun x => { x with
    user := some user, seg := seg, w := w, c := c, bank := bank, es := d.firstExp seg, r := 8, settleFrom := d.now
    satMask := 0, satCount := 0, slips := 0, since := d.now, dsp := { next := d.now, cNow := c } }

/-- The filter state that the pager restores into slot `n`, scaled to its exponent (R335, R339). -/
def Dev.restoreSlot (n : Nat) (p : ParkSt) (d : Dev) : Dev :=
  d.setSlot n fun x => { x with dsp := { p.dsp.rescale (x.es - p.es) with next := d.now, cNow := x.c, cNext := [], slip := 0, peak := 0, last := {} } }

/-- A new W takes effect at this boundary (R339, R341): on the same segment the filter state is kept, with the phase continuous; on
another one it is cleared and C returns to zero, and a write of C that has not acted yet is discarded (R343). -/
def Dev.retuneSlot (n seg : Nat) (w : Int) (d : Dev) : Dev :=
  d.setSlot n fun x =>
    if x.seg = seg then { x with w := w, settleFrom := d.now }
    else { x with w := w, seg := seg, c := 0, es := d.firstExp seg, r := 8, settleFrom := d.now, dsp := { next := d.now } }

/-- A slot stops; its pin and exclusion stay. -/
def Dev.stopSlot (n : Nat) (d : Dev) : Dev :=
  d.setSlot n fun x => { excluded := x.excluded, pin := x.pin }

/-- A consumer writes the correction C of slot `n`, saturated at ±2^22; it acts from the first segment sample at most 16 datum ticks
later (R341) (UNVERIFIED log 131). -/
def Dev.writeC (n : Nat) (c : Int) (d : Dev) : Dev :=
  let v := max (-(2 ^ 22)) (min (2 ^ 22) c)
  d.setSlot n fun x =>
    if x.user.isSome then { x with c := v, dsp.cNext := x.dsp.cNext ++ [(d.now + min 16 (Config.corrDelay d.draws), v)] } else x

/-- The slot with a slip requested, +1 an advance (R342). -/
def SlotSt.request (by_ : Int) (x : SlotSt) : SlotSt := { x with slips := x.slips + by_, dsp.slip := x.dsp.slip + by_ }

/-- A consumer requests slips of slot `n`, +1 an advance; a slot of a combiner branch or a fabric stream never slips
(R342). -/
def Dev.slipSlot (n : Nat) (by_ : Int) (d : Dev) : Dev :=
  d.setSlot n fun x => match x.user with
    | some (.branch _ _) => x
    | some (.ctx c) => if ((d.ctx? c).map (·.kind)) == some 0x0B || (d.serviceOf c).isSome then x else x.request by_
    | some (.inst k) =>
      if (d.inst? k).any fun y => (d.serviceOf y.anchor).isSome then x else x.request by_
    | none => x

/-- Smallest r of R334: the peak of y at the old exponent, expressed at the new one, over 2^r lies below 16,384. -/
def normShift (peak : Nat) (dE : Int) : Nat :=
  let fits (r : Nat) : Bool :=
    if 0 ≤ dE then decide (peak < 16384 * 2 ^ (dE.toNat + r)) else decide (peak * 2 ^ (-dE).toNat < 16384 * 2 ^ r)
  ((List.range 9).find? fits).getD 8

/-- One slot at a Round boundary (R334, R335): the exponent of the first sample of the new Round, the stored words scaled with it, and r
from the peak of the Round; while no sample comes in, the exponent stays. A slot that starts here has both already. -/
def Dev.slotRound (n : Nat) (d : Dev) : Dev :=
  let x := d.slot n
  if x.user.isNone || x.since = d.now then d
  else
    let e := if d.segLive x.seg && d.inputLive (x.seg / 4) then d.firstExp x.seg else x.es
    d.setSlot n fun x => { x with
      es := e, r := if x.settleFrom = d.now && x.dsp.next = d.now && x.dsp.fir.isEmpty then 8 else normShift x.dsp.peak (e - x.es)
      dsp := { x.dsp.rescale (e - x.es) with peak := 0 } }

/-- HOLD flags a slot on input `i` now (R287, R338): during a hold, and until its end + 2D. -/
def Dev.slotHolds (d : Dev) (x : SlotSt) : Bool :=
  d.calHolds (x.seg / 4) || (match d.cal.holdEnd.getD (x.seg / 4) none with
    | some t => x.since < t && d.now < t + 2 * d.bankDelay x.bank
    | none => false)
/-- SETTLE flags a slot now (R338). -/
def Dev.slotSettles (d : Dev) (x : SlotSt) : Bool := d.now < x.settleFrom + 2 * d.bankDelay x.bank
/-- LO_LOST flags a slot now (R338). -/
def Dev.slotLoLost (d : Dev) (x : SlotSt) : Bool := x.seg % 4 == 3 && d.loIsLost

/-- What holds of an output of slot `n` at grid tick `t` (R338, R340). -/
def Dev.slotCond (d : Dev) (x : SlotSt) (t : Nat) : SlotCond :=
  let e := { d with now := t }
  { hold := e.slotHolds x, held := e.calHolds (x.seg / 4), lo := e.slotLoLost x, noseg := !e.segLive x.seg, settle := e.slotSettles x }

/-- What fixes the samples of a slot on its bank. -/
def Dev.slotPar (d : Dev) (x : SlotSt) : SlotPar :=
  let b := (d.bankOf x.bank).getD (factoryBank 0)
  { w := x.w, es := x.es, r := x.r, k := b.k, hbShift := b.hbShift, firShift := b.firShift, h := b.h, settling := 2 * d.bankDelay x.bank }

/-- The slot with the state after samples, and the saturations counted (R336). -/
def SlotSt.after (sats : List Nat) (y : SlotDsp) (x : SlotSt) : SlotSt :=
  { x with dsp := y, satMask := x.satMask ||| satMaskOf sats, satCount := satAdd 0xFFFF x.satCount sats.length }

/-- Segment samples from datum tick `t` on enter slot `n`; what was missing before them enters as zeros. -/
def Dev.feedSlot (n t : Nat) (l : List SegSample) (d : Dev) : List SlotSample × Dev :=
  let x := d.slot n
  let (p, cond) := (d.slotPar x, d.slotCond x)
  let (y, o, m) := x.dsp.catchUp p cond t
  let (z, o1, m1) := y.feed p cond (((indexed l).map fun s => (t + 8 * s.1, some s.2)).filter (y.next ≤ ·.1))
  (o ++ o1, d.setSlot n (SlotSt.after (m ++ m1) z))

/-- Position p of the slot's filter engine, and its position skew in datum ticks (R322, R327). -/
def slotSkew (n : Nat) : Nat := 8 * (n % 8)
/-- Datum tick at which the output of slot `n` at grid tick `t` leaves its filter engine (R337). -/
def leavesAt (n t : Nat) : Nat := t + 64 + slotSkew n
/-- Datum tick at the ball that the output at grid tick `t` stands for, with the slips made so far (R337, R342). -/
def Dev.standsFor (d : Dev) (x : SlotSt) (t : Nat) : Int :=
  (t : Int) - 384 - d.bankDelay x.bank + x.slips * (64 * 2 ^ ((d.bankK x.bank).getD 0))

/-- The slot's samples carry a flag that keeps them out of measurements (13 R374, R338). -/
def Dev.slotFlagged (d : Dev) (n : Nat) : Bool :=
  let x := d.slot n
  x.user.isNone || d.slotHolds x || d.slotSettles x || d.slotLoLost x || !d.segLive x.seg

/-- state of SLOT_STATUS (R345). -/
def Dev.slotState (d : Dev) (x : SlotSt) : Nat :=
  if x.user.isNone then 0 else if !d.segLive x.seg then 5 else if d.slotLoLost x then 4
  else if d.slotHolds x then 2 else if d.slotSettles x then 3 else 1

/-- Context of a slot: itself, its instance's anchor, or the anchor of its service (DEDUCED log 34). -/
def Dev.slotCtx (d : Dev) (x : SlotSt) : Option Nat :=
  match x.user with
  | some (.ctx c) => some c
  | some (.inst n) => (d.inst? n).map (·.anchor)
  | some (.branch v _) => (tabGet d.comb.services v).map (·.anchor)
  | none => none

/-- consumer and consumer_id of a slot (01 R33, R345): a combined service takes the slot of its anchor as branch 0
(DEDUCED log 38). -/
def Dev.consumer (d : Dev) (x : SlotSt) : Nat × Nat :=
  match x.user with
  | none => (0, 0)
  | some (.branch _ b) => (3, b)
  | some (.inst n) =>
    if (d.inst? n).any fun y => (d.serviceOf y.anchor).isSome then (3, 0)
    else (2, ((d.inst? n).bind (·.unit)).getD 0)
  | some (.ctx c) =>
    if (d.serviceOf c).isSome then (3, 0)
    else match d.ctx? c with
      | some y => if y.kind = 0x0B then (4, ((d.cl.streams.find? (·.ctx == c)).map (·.stream)).getD 0) else match y.nb with
        | some k => (1, k)
        | none => (2, y.halves.headD 0 / 2)
      | none => (0, 0)

/-! ## Commands -/

/-- Most FIR taps at decimation exponent `k` (R328). -/
def maxTaps (k : Nat) : Nat := if k ≤ 3 then 16 * 2 ^ k else 128

/-- A bank is in use (R331): by a slot that runs, holds or is pinned. -/
def Dev.bankInUse (d : Dev) (b : Nat) : Bool :=
  d.chan.slots.any (fun x => (x.user.isSome && x.bank == b) || (match x.pin with | some (_, k) => k == b | none => false))
    || d.chan.pins.any (fun p => p.action == 2 && p.bank == b)

/-- COEF_LOAD (R344). -/
def coefLoadBody : Body := fun q d =>
  let (bank, k, taps) := (q.p8 0, q.p8 1, q.p8 2)
  let hb := (List.range 10).map fun i => q.ps8 (4 + i)
  let h := (List.range taps).map fun t => q.ps32 (16 + 4 * t)
  let badShift (v : Int) : Bool := v < -4 || 7 < v
  checked d [(taps == 0 || maxTaps (min k 10) < taps || q.len != 16 + 4 * taps, .badLength),
    (q.badHeader || bank < 16 || 31 < bank || 10 < k || badShift (q.ps8 3) || hb.any badShift
      || (hb.drop k).any (· != 0) || 2 * (taps - 1) < q.p8 14 || q.p8 15 != 0
      || h.any (fun v => v < -131072 || 131071 < v), .badParam),
    (q.notSystem d, .notOwner), (d.inWatch || d.bankInUse bank, .wrongState)] <|
    let b : BankSt := { k := k, d := q.p8 14, firShift := q.ps8 3, hbShift := hb, h := h }
    ok { d with chan.banks := tabSet d.chan.banks bank b }

/-- The row COEF_LOAD. -/
def execCoefLoad (dt : Nat) (s : State) : Host.Outcome State Fault Refusal := s.command dt 0x0303 coefLoadBody

/-- The 32 bytes of one slot (R345). -/
def Dev.slotEntry (d : Dev) (n : Nat) : List Byte :=
  let x := d.slot n
  let run := x.user.isSome
  let (kind, id) := d.consumer x
  u8 n ++ u8 (d.slotState x) ++ u8 ((d.slotCtx x).getD 0xFF) ++ u8 (if run then x.seg else 0xFF) ++ s32 x.w ++ s32 x.c
    ++ u8 (if run then (d.bankK x.bank).getD 0 else 0) ++ u8 (if run then x.bank else 0xFF) ++ u8 kind ++ u8 id
    ++ s8 x.es ++ s8 (if run then d.slotEo x else 0) ++ u8 (if run then x.r else 0)
    ++ u8 (if x.pin.isSome then 2 else bit x.excluded) ++ u16 x.satMask ++ u16 x.satCount ++ s16 x.slips ++ u16 0
    ++ u32 (if run then x.since % 2 ^ 32 else 0)

/-- SLOT_STATUS (R345). -/
def slotStatusBody : Body := fun q d =>
  let (first, count) := (q.p8 0, q.p8 1)
  checked d [(q.len != 4 || count == 0 || 32 < count, .badLength),
    (first < 64 && d.nSlots < min 64 (first + count), .notFitted),
    (q.badHeader || 64 < first + count || !zeroAt q.params 2 2, .badParam), (d.inWatch, .wrongState)] <|
    okWith ((List.range count).flatMap fun i => d.slotEntry (first + i)) d

/-- The row SLOT_STATUS. -/
def execSlotStatus (dt : Nat) (s : State) : Host.Outcome State Fault Refusal := s.command dt 0x0304 slotStatusBody

end Sys2Proof.Machine
end

