-- ==== Sys2Proof/Machine/Queues.lean ====
section
/-!
DEFINITION. Data queues (chapter 21): writing records whole with their gap record (07 R225-R227, 21 R592-R594), and MOT
reassembly (R598-R601).
-/
namespace Sys2Proof.Machine

/-- Data queue `q`, disabled where it was never configured. -/
def Dev.dq (d : Dev) (q : Nat) : DQueue := (tabGet d.data.queues q).getD {}
/-- Change data queue `q`. -/
def Dev.setDq (q : Nat) (f : DQueue → DQueue) (d : Dev) : Dev := { d with data.queues := tabSet d.data.queues q (f (d.dq q)) }
/-- Fill level, bytes of complete records (R592). -/
def DQueue.fill (x : DQueue) : Nat := (x.recs.map List.length).sum
/-- Binding of context `c`. -/
def Dev.bind? (d : Dev) (c : Nat) : Option BindSt := tabGet d.data.binds c
/-- Change the binding of context `c`, where it has one. -/
def Dev.setBind (c : Nat) (f : BindSt → BindSt) (d : Dev) : Dev :=
  match d.bind? c with
  | some b => { d with data.binds := tabSet d.data.binds c (f b) }
  | none => d

/-- A record's bytes (07 R192). -/
def recordOf (typ ctx time : Nat) (payload : List Byte) : List Byte :=
  u8 typ ++ u8 ctx ++ u16 payload.length ++ u32 time ++ payload

/-- Ready mask of the group of queue `q` (07 R226). -/
def Dev.groupReady (d : Dev) (g : Nat) : Nat :=
  maskOf ((List.range 8).filter fun m => !(d.dq (8 + 8 * g + m)).recs.isEmpty)

/-- Records as they would enter the queue at datum time `now`: a pending gap record ahead of them (R594). -/
def DQueue.withGap (x : DQueue) (now : Nat) (rs : List (List Byte)) : List (List Byte) :=
  (if x.gap = 0 then [] else [recordOf 1 0xFF now (u32 x.gap ++ u32 x.gapFirst)]) ++ rs
/-- The queue has room for these records with their gap record (07 R225). -/
def DQueue.takes (x : DQueue) (now : Nat) (rs : List (List Byte)) : Bool :=
  x.fill + ((x.withGap now rs).map List.length).sum ≤ x.pages * 4096

/-- Records of context `c` enter queue `q` together, with the gap record ahead of them, or are all dropped (07 R225, 21
R594) (DEDUCED log 53). -/
def Dev.enqueue (q c : Nat) (rs : List (List Byte)) (d : Dev) : Dev :=
  let x := d.dq q
  if rs.isEmpty || x.pages = 0 then d
  else if !x.takes d.now rs then
    let n := rs.length
    let e := d.setDq q fun x => { x with
      drops := satAdd 0xFFFFFFFF x.drops n, gap := satAdd 0xFFFFFFFF x.gap n
      gapFirst := if x.gap = 0 then d.now % 2 ^ 32 else x.gapFirst }
    e.raise 111 c (u8 q ++ u8 0 ++ u32 (e.dq q).drops)
  else
    let all := x.withGap d.now rs
    let e := d.setDq q fun x => { x with
      recs := x.recs ++ all, gap := 0, gapFirst := 0, high := max x.high (x.fill + (all.map List.length).sum) }
    e.onlyIf x.recs.isEmpty fun e => e.emit (96 + (q - 8) / 8) (u8 (e.groupReady ((q - 8) / 8)))

/-- Context `c` writes records of type `typ` with time `time` and these payloads to its bound queue (R592). -/
def Dev.writeRecords (c typ time : Nat) (payloads : List (List Byte)) (d : Dev) : Dev :=
  match d.bind? c with
  | some b => d.enqueue b.queue c (payloads.map (recordOf typ c time))
  | none => d
/-- One record. -/
def Dev.writeRecord (c typ time : Nat) (payload : List Byte) (d : Dev) : Dev := d.writeRecords c typ time [payload]

/-- ALERT_RECEIVED for context `c`, and its record of type 0x40 (R596). -/
def Dev.alert (c : Nat) (payload : List Byte) (d : Dev) : Dev := (d.raise 71 c payload).writeRecord c 0x40 d.now payload

/-! ## MOT (R598-R601) -/

/-- BodySize of a MOT header core: its first 28 bits (ETSI EN 301 234). -/
def motBodyLen (h : List Byte) : Nat := (at8 h 0 * 2 ^ 24 + at8 h 1 * 65536 + at8 h 2 * 256 + at8 h 3) / 16
/-- MOT pages of an object (R599). -/
def MotObj.pages (o : MotObj) : Nat := (o.header.length + o.bodyLen + 4095) / 4096
/-- Every segment from 0 to the one marked last has arrived (R598). -/
def MotObj.complete (o : MotObj) : Bool := match o.last with
  | some n => (List.range (n + 1)).all fun k => (tabGet o.segs k).isSome
  | none => false

/-- `n` objects of context `c` count as failed (R599). -/
def Dev.motFail (c n : Nat) (d : Dev) : Dev :=
  match d.bind? c with
  | some b => d.setDq b.queue fun x => { x with motFailed := satAdd 0xFFFFFFFF x.motFailed n }
  | none => d

/-- Every object of context `c` that satisfies `p` is discarded (R599). -/
def Dev.motDrop (c : Nat) (p : MotObj → Bool) (d : Dev) : Dev :=
  match d.bind? c with
  | some b => (d.motFail c (b.objs.filter p).length).setBind c fun b => { b with objs := b.objs.filter (!p ·) }
  | none => d
/-- Reassembly of context `c` ends: its objects are discarded and its directory is forgotten. -/
def Dev.motReset (c : Nat) (d : Dev) : Dev := (d.motDrop c fun _ => true).setBind c fun b => { b with dir := [] }

/-- The MOT pages in use (13 R375). -/
def Dev.motUsed (d : Dev) : Nat := (d.data.binds.map fun x => (x.2.objs.map MotObj.pages).sum).sum

/-- A user application that MOT reassembly serves (R598): Slideshow, Broadcast Website, SPI. -/
def motApp (app : Nat) : Bool := app == 2 || app == 3 || app == 7

/-- An object opens (R599), its time without a segment starting (DEDUCED log 140): a ninth discards the one whose last segment is oldest, and without room in the quota the new
one is discarded. -/
def Dev.motOpen (c tid : Nat) (header : List Byte) (d : Dev) : Dev :=
  let o : MotObj := { tid := tid, header := header, bodyLen := motBodyLen header, segs := [], last := none, at_ := d.now }
  match d.bind? c with
  | none => d
  | some b =>
    let e := if 8 ≤ b.objs.length then
        match minBy (fun o => o.at_ * 65536 + o.tid) b.objs with
        | some old => d.motDrop c (·.tid == old.tid)
        | none => d
      else d
    if e.propN P.dsQuotaMot < e.motUsed + o.pages then e.motFail c 1
    else e.setBind c fun b => { b with objs := b.objs ++ [o] }

/-- The parts of a complete object (R600). -/
def motParts (tid headerLen bodyLen flags : Nat) (content : List Byte) : List (List Byte) :=
  let parts := (content.length + 4071) / 4072
  (indexed (entriesOf 4072 content)).map fun (k, part) =>
    u16 tid ++ u16 k ++ u16 parts ++ u16 headerLen ++ u32 bodyLen ++ u8 flags ++ zeros 3 ++ part

/-- A complete object leaves reassembly: written, dropped, or discarded as a repeat (R600, R601). -/
def Dev.motDeliver (c tid headerLen bodyLen flags key : Nat) (content : List Byte) (d : Dev) : Dev :=
  match d.bind? c with
  | none => d
  | some b =>
    if b.done.contains (tid, key) then d
    else
      let parts := motParts tid headerLen bodyLen flags content
      let e := d.writeRecords c 0x24 d.now parts
      if (d.dq b.queue).takes d.now (parts.map (recordOf 0x24 c d.now)) then
        (e.setDq b.queue fun x => { x with motDone := satAdd 0xFFFFFFFF x.motDone 1 }).setBind c fun b =>
          { b with done := ((tid, key) :: b.done).take 64 }
      else e

/-- The object `tid` of context `c` is delivered once complete. -/
def Dev.motFinish (c tid : Nat) (d : Dev) : Dev :=
  match (d.bind? c).bind fun b => b.objs.find? (·.tid == tid) with
  | none => d
  | some o =>
    if o.complete then
      let e := d.setBind c fun b => { b with objs := b.objs.filter (·.tid != tid) }
      e.motDeliver c tid o.header.length o.bodyLen 0 (crc32 o.header) (o.header ++ o.segs.flatMap (·.2))
    else d

/-- A body segment enters the open object `tid` (R598). -/
def Dev.motSegment (c tid seg : Nat) (last : Bool) (bytes : List Byte) (d : Dev) : Dev :=
  d.setBind c fun b => { b with objs := updWhere b.objs (·.tid == tid) fun o =>
    if (tabGet o.segs seg).isSome then o
    else { o with segs := tabSet o.segs seg bytes, last := if last then some seg else o.last, at_ := d.now } }

/-- A MOT data group of a context whose binding asks for reassembly (R598). -/
def Dev.motGroup (c typ tid seg : Nat) (last : Bool) (bytes : List Byte) (entries : List (Nat × List Byte)) (d : Dev) : Dev :=
  match d.bind? c with
  | none => d
  | some b =>
    let held := b.objs.any (·.tid == tid)
    match typ with
    | 3 =>
      if held then (d.setBind c fun b => { b with objs := updWhere b.objs (·.tid == tid) fun o =>
        { o with header := bytes, bodyLen := motBodyLen bytes } }).motFinish c tid
      else d.motOpen c tid bytes
    | 4 =>
      let e := if held then d else match tabGet b.dir tid with
        | some h => d.motOpen c tid h
        | none => d
      (e.motSegment c tid seg last bytes).motFinish c tid
    | 6 =>
      let e := (d.setBind c fun b => { b with dir := entries }).motDeliver c tid 0 bytes.length 1 (crc32 bytes) bytes
      entries.foldl (fun e x => if ((e.bind? c).any fun b => b.objs.any (·.tid == x.1)) then e else e.motOpen c x.1 x.2) e
    | 5 | 7 => d.motFail c 1
    | _ => d

/-- MOT_OBJECT_TIMEOUT (R599, R608). -/
def execMotObjectTimeout (dt : Nat) (s : State) : Host.Outcome State Fault Refusal :=
  s.runIf dt Dev.active fun d =>
    let limit := msec (1000 * d.propN P.motTimeout)
    d.data.binds.foldl (fun d x => d.motDrop x.1 fun o => o.at_ + limit ≤ d.now) d

/-! ## Configuration and taking records -/

/-- Size of queue `q` with every accepted QUEUE_CFG. -/
def Dev.stagedPages (d : Dev) (q : Nat) : Nat :=
  d.data.acts.foldl (fun n a => match a.2 with
    | .size k p => if k = q then p else n
    | _ => n) (d.dq q).pages
/-- Queue to which context `c` is bound with every accepted QUEUE_BIND. -/
def Dev.stagedBind (d : Dev) (c : Nat) : Option Nat :=
  d.data.acts.foldl (fun b a => match a.2 with
    | .bind k q _ => if k = c then q else b
    | _ => b) ((d.bind? c).map (·.queue))
/-- Contexts bound to queue `q`. -/
def Dev.boundTo (d : Dev) (q : Nat) : List (Nat × BindSt) := d.data.binds.filter (·.2.queue == q)

/-- QUEUE_CFG (R602). -/
def queueCfgBody : Body := fun q d =>
  let (k, pages) := (q.p8 0, q.p16 2)
  let others := (((List.range 120).map (8 + ·)).filter (· != k)).map d.stagedPages
  checked d [(q.len != 4, .badLength), (q.badHeader || k < 8 || 127 < k || 512 < pages || q.p8 1 != 0, .badParam),
    (q.notSystem d, .notOwner),
    (d.inWatch || (pages == 0 && (List.range 128).any fun c => d.ctxOpen c && d.stagedBind c == some k), .wrongState),
    (d.stagedN P.dsQuotaQueue < others.sum + pages && d.stagedPages k != pages, .noPages)] <|
    okWith (u64 d.nextBoundary) { d with data.acts := d.data.acts ++ [(d.nextBoundary, .size k pages)] }

/-- The row QUEUE_CFG. -/
def execQueueCfg (dt : Nat) (s : State) : Host.Outcome State Fault Refusal := s.command dt 0x0601 queueCfgBody

/-- QUEUE_BIND (R603). -/
def queueBindBody : Body := fun q d =>
  let (k, flags) := (q.p8 0, q.p8 1)
  checked d [(q.len != 4, .badLength),
    (q.badHeader || (1 ≤ k && k ≤ 7) || 127 < k || 1 < flags || (k == 0 && flags != 0) || !zeroAt q.params 2 2, .badParam),
    (q.notCtxOwner q.ctx d, .notOwner),
    (d.inWatch || !(d.ctx? q.ctx).any (·.closing.isNone) || (k != 0 && d.stagedPages k == 0), .wrongState)] <|
    let a : QAct := .bind q.ctx (if k = 0 then none else some k) (flags == 1)
    okWith (u64 d.nextBoundary) { d with data.acts := d.data.acts ++ [(d.nextBoundary, a)] }

/-- The row QUEUE_BIND. -/
def execQueueBind (dt : Nat) (s : State) : Host.Outcome State Fault Refusal := s.command dt 0x0602 queueBindBody

/-- One accepted change of the queues at its boundary (R602, R603). -/
def Dev.applyQAct (a : QAct) (d : Dev) : Dev :=
  match a with
  | .size k p => if (d.dq k).pages = p then d else d.setDq k fun _ => { pages := p }
  | .bind c none _ => let e := d.motReset c; { e with data.binds := tabDel e.data.binds c }
  | .bind c (some k) mot =>
    match d.bind? c with
    | none =>
      let b : BindSt := { queue := k, mot := mot }
      if d.ctxOpen c then { d with data.binds := tabSet d.data.binds c b } else d
    | some b =>
      let e := d.onlyIf (b.mot != mot) (Dev.motReset c)
      e.setBind c fun b => { b with queue := k, mot := mot }

/-- Every change of the queues whose boundary has come, in sequence-index order. -/
def Dev.dataRound (d : Dev) : Dev :=
  (d.data.acts.filter (·.1 ≤ d.now)).foldl (fun d a => d.applyQAct a.2)
    { d with data.acts := d.data.acts.filter (d.now < ·.1) }

/-- `n` records leave the head of queue `q` (R604). -/
def Dev.takeHead (q n : Nat) (d : Dev) : Dev := d.setDq q fun x => { x with recs := x.recs.drop n, seq := (x.seq + n) % 65536 }

/-- How many whole records from the head fit within `room` bytes. -/
def fitting : Nat → List (List Byte) → Nat
  | _, [] => 0
  | room, r :: l => if r.length ≤ room then 1 + fitting (room - r.length) l else 0

/-- The reply of a take (R605): fill level, head sequence, flags, records, bytes. -/
def takeReply (q seq flags n : Nat) (bytes : List Byte) (d : Dev) : Res :=
  okWith (u32 (d.dq q).fill ++ u16 seq ++ u8 flags ++ u8 n ++ bytes) d

/-- QUEUE_FLUSH (R604-R606). A discard replies with the header too (DEDUCED log 76). -/
def queueFlushBody : Body := fun q d =>
  let (k, act, mx, off, sq) := (q.p8 0, q.p8 1, q.p16 2, q.p16 4, q.p16 6)
  let x := d.dq k
  let head := x.recs.headD []
  let badTake := act == 1 && (1016 < mx || (off == 0 && sq != 0) || (off != 0 && (head.length ≤ mx || head.length ≤ off)))
  checked d [(q.len != 8, .badLength),
    (q.badHeader || k < 8 || 127 < k || 1 < act || (act == 0 && (mx != 0 || off != 0 || sq != 0)) || badTake, .badParam),
    (q.notSystem d, .notOwner), (d.inWatch || x.pages == 0 || (off != 0 && sq != x.seq), .wrongState)] <|
    if act = 0 then
      let e := d.takeHead k x.recs.length
      let e := e.setDq k fun x => { x with gap := 0, gapFirst := 0 }
      takeReply k (e.dq k).seq 0 0 [] e
    else if mx = 0 then takeReply k x.seq 0 0 [] d
    else if head.length ≤ mx then
      let n := fitting mx x.recs
      takeReply k x.seq 0 n (x.recs.take n).flatten (d.takeHead k n)
    else
      let part := slice head off mx
      if head.length ≤ off + mx then takeReply k x.seq 3 0 part (d.takeHead k 1) else takeReply k x.seq 1 0 part d

/-- The row QUEUE_FLUSH. -/
def execQueueFlush (dt : Nat) (s : State) : Host.Outcome State Fault Refusal := s.command dt 0x0604 queueFlushBody

/-- The 32 bytes of one queue (R607). -/
def Dev.queueEntry (d : Dev) (k : Nat) : List Byte :=
  let x := d.dq k
  let bound := d.boundTo k
  u8 k ++ ub (x.pages != 0) ++ u16 x.pages ++ u32 x.fill ++ u16 x.recs.length ++ u8 bound.length ++ u8 0 ++ u32 x.drops
    ++ u32 x.high ++ u16 x.seq ++ u8 (bound.map fun b => b.2.objs.length).sum ++ u8 0 ++ u32 x.motDone ++ u32 x.motFailed

/-- QUEUE_STATUS (R607). -/
def queueStatusBody : Body := fun q d =>
  let (first, count) := (q.p8 0, q.p8 1)
  checked d [(q.len != 4, .badLength),
    (q.badHeader || first < 8 || 127 < first || count < 1 || 31 < count || 128 < first + count || !zeroAt q.params 2 2, .badParam),
    (d.inWatch, .wrongState)] <| okWith ((List.range count).flatMap fun j => d.queueEntry (first + j)) d

/-- The row QUEUE_STATUS. -/
def execQueueStatus (dt : Nat) (s : State) : Host.Outcome State Fault Refusal := s.command dt 0x0603 queueStatusBody

/-- SPI_DATA_PULL (05 R143): `clocked` bytes after the instruction, the queue number and the dummy byte first. Records that
were clocked out whole leave the queue (DEDUCED log 52). -/
def execSpiDataPull (dt queue clocked : Nat) (s : State) : Host.Outcome State Fault Refusal :=
  s.runIf dt (fun d => !d.inReset) fun d =>
    if clocked < 2 then { d with regs.spiOut := [] }
    else
      let x := d.dq queue
      let bad := d.izosh && (queue < 8 || 127 < queue || x.pages == 0)
      let recs := if d.izosh && !bad then x.recs else []
      let out := padTo (clocked - 2) (u32 (recs.map List.length).sum ++ recs.flatten)
      let e := ({ d with regs.spiOut := out }).onlyIf bad (Dev.flagSys 0x08)
      e.onlyIf (!recs.isEmpty) (Dev.takeHead queue (fitting (clocked - 6) recs))

end Sys2Proof.Machine
end

