-- ==== Sys2Proof/Machine/FieldBook.lean ====
section
/-!
DEFINITION. The Field Book (chapter 19): entries and their bytes (R525-R527), matching of offers (R529), ties (R530), ageing
and replacement (R532-R534), and the commands FB_QUERY, FB_PUT, FB_DROP, FB_EXPORT and FB_IMPORT (R536-R540).
-/
namespace Sys2Proof.Machine

/-! ## Entries -/

/-- Bits 51:20 of a datum time (R525). -/
def seenOf (t : Nat) : Nat := t / 2 ^ 20 % 2 ^ 32
/-- Due value: bits 44:27 of a datum time, rounded up (R527). -/
def dueOf (t : Nat) : Nat := ((t + 2 ^ 27 - 1) / 2 ^ 27) % 2 ^ 18
/-- Age of an entry, in units of 2^20 ticks, which are milliseconds (R526). -/
def FbEntry.age (e : FbEntry) (now : Nat) : Nat := (seenOf now + 2 ^ 32 - e.seen) % 2 ^ 32
/-- The entry is due for a check (R527, R542). -/
def FbEntry.isDue (e : FbEntry) (now : Nat) : Bool :=
  e.checks == 0 || (now / 2 ^ 27 % 2 ^ 18 + 2 ^ 18 - e.due) % 2 ^ 18 < 2 ^ 17

/-- The 32 bytes of an entry (R525); `word` stands in bytes 16-19. -/
def FbEntry.bytesWith (e : FbEntry) (word : Nat) : List Byte :=
  u8 (e.std + 16 * bit e.pinned + 32 + 64 * bit e.tuned + 128 * bit e.stale) ++ u8 e.source ++ leBytes 3 e.freq
    ++ u8 e.input ++ u32 e.id ++ u16 e.eid ++ u16 e.link ++ u8 e.level
    ++ u8 (e.cls + 8 * bit e.checked + 16 * bit e.levelValid + 32 * bit e.regional + 64 * (e.due / 65536))
    ++ u32 word ++ u8 e.checks ++ u8 e.misses ++ u16 (e.due % 65536) ++ e.detail.flatMap u8

/-- Field Book entry `h`. -/
def Dev.fbe (d : Dev) (h : Nat) : Option FbEntry := tabGet d.fb.entries h
/-- Change entry `h` where it is valid. -/
def Dev.setFbe (h : Nat) (f : FbEntry → FbEntry) (d : Dev) : Dev :=
  match d.fbe h with
  | some e => { d with fb.entries := tabSet d.fb.entries h (f e) }
  | none => d
/-- Change every entry that satisfies `p`. -/
def Dev.mapFbe (p : FbEntry → Bool) (f : FbEntry → FbEntry) (d : Dev) : Dev :=
  { d with fb.entries := d.fb.entries.map fun x => if p x.2 then (x.1, f x.2) else x }
/-- Handles of the entries that satisfy `p`, ascending. -/
def Dev.fbFind (d : Dev) (p : FbEntry → Bool) : List Nat := (d.fb.entries.filter fun x => p x.2).map (·.1)

/-- Standard family of an identifier (R530): FM with PI, DAB and DRM with SId; AM has none. -/
def family (std : Nat) : Nat := if std = 0 then 0 else if std = 1 then 2 else 1

/-- Entries that a follow group is checking or has prepared (R533). -/
def Dev.fbHeld (d : Dev) : List Nat :=
  d.follow.groups.flatMap fun g => g.2.handle.toList ++ g.2.checking.map (·.2)

/-! ## Creation and replacement (R533) -/

/-- The least recently seen entry that an offer may replace. -/
def Dev.fbVictim (d : Dev) (id : Nat) : Option Nat :=
  let held := d.fbHeld
  let ok := d.fb.entries.filter fun x => !x.2.pinned && !x.2.tuned && !held.contains x.1 && !(id == 0 && x.2.id != 0)
  (minBy (fun x => (2 ^ 32 - x.2.age d.now) * 8192 + x.1) ok).map (·.1)

/-- The handle that a new entry takes: the lowest free one, else the victim's. -/
def Dev.fbRoom (d : Dev) (id : Nat) : Option Nat :=
  if d.fb.entries.length < 8192 then (List.range 8192).find? fun h => (d.fbe h).isNone else d.fbVictim id

/-- An offer refused for want of an entry: counted, and FB_FULL at most once per 8,000 Rounds (R533). -/
def Dev.fbRefuse (source : Nat) (d : Dev) : Dev :=
  let e := { d with
    fb.refused := satAdd 0xFFFFFFFF d.fb.refused 1
    survey.refused := if source = 0 then satAdd 0xFFFF d.survey.refused 1 else d.survey.refused }
  let quiet : Bool := match d.fb.fullAt with
    | some t => t + 8000 * roundTicks ≤ d.now
    | none => true
  if quiet then ({ e with fb.refused := 0, fb.fullAt := some d.now }).emit 69 (u32 e.fb.refused ++ u8 source) else e

/-- A new entry, where there is room. -/
def Dev.fbCreate (x : FbEntry) (source : Nat) (d : Dev) : Option Nat × Dev :=
  match d.fbRoom x.id with
  | some h => (some h, { d with fb.entries := tabSet d.fb.entries h x, fb.created := d.fb.created + 1 })
  | none => (none, d.fbRefuse source)

/-! ## Offers (R529) -/

/-- Counters and due time after a check result (R543). -/
def Dev.afterCheck (d : Dev) (kind : Nat) (e : FbEntry) : FbEntry :=
  let int := d.propN P.followCheckInt * roundTicks
  match kind with
  | 1 => { e with checks := satAdd 255 e.checks 1, misses := 0, due := dueOf (d.now + int) }
  | 2 =>
    let m := satAdd 255 e.misses 1
    { e with checks := satAdd 255 e.checks 1, misses := m, due := dueOf (d.now + int * 2 ^ min m 5) }
  | 3 => { e with due := d.now / 2 ^ 27 % 2 ^ 18 }
  | _ => e

/-- An update of an entry by an offer (R529): source, seen, and the fields that the offer carries. -/
def Dev.fbUpdate (d : Dev) (o : FbOffer) (e : FbEntry) : FbEntry :=
  let e := { e with
    source := e.source ||| (1 <<< o.source), seen := seenOf o.time, stale := false
    eid := o.eid.getD e.eid, input := o.input.getD e.input, regional := o.regional.getD e.regional
    link := o.link.getD e.link, level := o.level.getD e.level, levelValid := e.levelValid || o.level.isSome
    cls := o.cls.getD e.cls, checked := e.checked || o.cls.isSome
    detail := o.detail.foldl (fun l x => l.set x.1 x.2) e.detail }
  d.afterCheck o.check e

/-- A fresh entry for an offer. -/
def offerBlank (o : FbOffer) : FbEntry :=
  { std := o.std, freq := o.freq, id := o.id, detail := if o.std = 0 || o.std = 3 || o.std = 4 then [0xFF, 0, 0, 0, 0, 0, 0, 0] else List.replicate 8 0 }

/-- The identifier records of a family and identifier carry their link set to the other entries (R530). A host number is
never replaced by an automatic one. -/
def Dev.spreadLinks (d : Dev) : Dev :=
  let recs := d.fb.entries.filter fun x => x.2.freq == 0 && x.2.link != 0
  let linkFor (e : FbEntry) : Option Nat :=
    (recs.find? fun r => family r.2.std == family e.std && r.2.id == e.id).map (·.2.link)
  { d with fb.entries := d.fb.entries.map fun x => match linkFor x.2 with
      | some l => if x.2.id != 0 && x.2.freq != 0 && (x.2.link < 0x8000 || 0x8000 ≤ l) then (x.1, { x.2 with link := l }) else x
      | none => x }

/-- An offer without its tie is matched (R529): the handle it names first, whether it was created, and the state. -/
def Dev.fbMatch (o : FbOffer) (d : Dev) : Option (Nat × Bool) × Dev :=
  let here (e : FbEntry) : Bool := e.std == o.std && e.freq == o.freq
  let touch (p : FbEntry → Bool) (d : Dev) : Option (Nat × Bool) × Dev :=
    let hs := d.fbFind p
    (hs.head?.map fun h => (h, false), { d.mapFbe p (d.fbUpdate o) with fb.updated := d.fb.updated + hs.length })
  let create (d : Dev) : Option (Nat × Bool) × Dev :=
    let (h, e) := d.fbCreate (d.fbUpdate o (offerBlank o)) o.source
    (h.map fun h => (h, true), e)
  let byEid (e : FbEntry) : Bool := here e && some e.eid == o.eid && e.eid != 0
  if o.id = 0 then
    if d.fb.entries.any (byEid ·.2) then touch byEid d
    else if d.fb.entries.any (here ·.2) then touch here d
    else create d
  else if d.fb.entries.any (fun x => here x.2 && x.2.id == o.id) then touch (fun e => here e && e.id == o.id) d
  else match d.fbFind fun e => here e && e.id == 0 with
    | h :: _ =>
      (some (h, false), { d.setFbe h (fun e => d.fbUpdate o { e with id := o.id }) with fb.updated := d.fb.updated + 1 })
    | [] =>
      let (r, e) := create d
      (r, e.onlyIf (o.station && r.isSome) (Dev.mapFbe (fun x => here x && x.id != o.id) fun x => { x with stale := true }))

/-! ## Ties (R530) -/

/-- The identifier record of a standard and identifier, made where it is missing. -/
def Dev.idRecord (std id source time : Nat) (d : Dev) : Option Nat × Dev :=
  match d.fbFind fun e => e.freq == 0 && family e.std == family std && e.id == id with
  | h :: _ => (some h, d.setFbe h fun e => { e with source := e.source ||| (1 <<< source), seen := seenOf time, stale := false })
  | [] =>
    let o : FbOffer := { std := std, freq := 0, id := id, source := source, time := time }
    d.fbCreate (d.fbUpdate o (offerBlank o)) source

/-- The lowest automatic link number that no entry carries. -/
def Dev.freeLink (d : Dev) : Option Nat :=
  ((List.range 0x6000).map (0x2000 + ·)).find? fun l => !d.fb.entries.any (·.2.link == l)
/-- Link set `a` becomes `b` in every entry. -/
def Dev.relink (a b : Nat) (d : Dev) : Dev := d.mapFbe (·.link == a) fun e => { e with link := b }

/-- The tie of two identifier records. -/
def Dev.fbTie (o : FbOffer) (other : Nat × Nat) (d : Dev) : Dev :=
  if o.id = 0 || other.2 = 0 then d
  else
    let (a, d1) := d.idRecord o.std o.id o.source o.time
    let (b, d2) := d1.idRecord other.1 other.2 o.source o.time
    match a, b with
    | some a, some b =>
      let la := ((d2.fbe a).map (·.link)).getD 0
      let lb := ((d2.fbe b).map (·.link)).getD 0
      let put (h l : Nat) (d : Dev) : Dev := d.setFbe h fun e => { e with link := l }
      let d3 :=
        if la = 0 && lb = 0 then match d2.freeLink with
          | some l => put b l (put a l d2)
          | none => d2
        else if la = 0 then put a lb d2
        else if lb = 0 then put b la d2
        else if la = lb then d2
        else if la < 0x8000 && lb < 0x8000 then d2.relink (max la lb) (min la lb)
        else if la < 0x8000 then d2.relink la lb
        else if lb < 0x8000 then d2.relink lb la
        else d2
      d3.spreadLinks
    | _, _ => d2

/-- One offer applied (R528-R530). -/
def Dev.fbApply (o : FbOffer) (d : Dev) : Dev :=
  let e := if o.freq = 0 then d else (d.fbMatch o).2.spreadLinks
  match o.tie with
  | some other => e.fbTie o other
  | none => e

/-- A writer produces an offer now (R528). -/
def Dev.offer (o : FbOffer) (d : Dev) : Dev := { d with fb.offers := d.fb.offers ++ [{ o with time := d.now }] }

/-! ## Versions (R531) -/

/-- `a` and `b` differ only in bits 11:8. -/
def regionalPi (a b : Nat) : Bool := a != b && (a &&& 0xF0FF) == (b &&& 0xF0FF) && a < 65536 && b < 65536

/-- Handles of the versions of identifier `i`; `link` is a link set fixed by the host, or 0. -/
def Dev.versions (d : Dev) (i link : Nat) (regional : Bool) : List Nat :=
  let sets := if link != 0 then [link]
    else (d.fb.entries.filter fun x => x.2.freq == 0 && x.2.id == i && x.2.link != 0).map (·.2.link)
  d.fbFind fun e =>
    e.freq != 0 && (if link != 0 then e.link == link else e.id == i || sets.contains e.link || (regional && e.std == 0 && regionalPi e.id i))
      && (regional || !(e.regional || (e.std == 0 && regionalPi e.id i)))

/-! ## Host commands (R536-R540) -/

/-- A standard number of the Field Book that the part lacks (00 R4): 3 and 4 are DRM. -/
def Dev.drmUnfitted (d : Dev) (std : Nat) : Bool := (std == 3 || std == 4) && !d.hasDrm
/-- An entry image names an unfitted standard or an absent input (07 R202 step 8). -/
def Dev.imageUnfitted (d : Dev) (b : List Byte) : Bool :=
  d.drmUnfitted (at8 b 0 % 16) || (at8 b 5 ≤ 3 && d.nInputs ≤ at8 b 5)

/-- The sender's source bit: 5, or 6 from the fabric. -/
def Iface.fbBit : Iface → Nat
  | .fabric _ => 6
  | _ => 5

/-- Pinned entries. -/
def Dev.fbPinned (d : Dev) : Nat := (d.fb.entries.filter (·.2.pinned)).length

/-- Pin action of FB_PUT on entry `h` within R534: false where the limit refuses it. -/
def Dev.fbPin (h pin : Nat) (d : Dev) : Bool × Dev :=
  match pin with
  | 1 => if (d.fbe h).any (·.pinned) then (true, d)
      else if 1024 ≤ d.fbPinned then (false, d) else (true, d.setFbe h fun e => { e with pinned := true })
  | 2 => (true, d.setFbe h fun e => { e with pinned := false })
  | _ => (true, d)

/-- The offer that an FB_PUT image spells (R537). -/
def putOffer (b : List Byte) (src now : Nat) : FbOffer :=
  { std := at8 b 0 % 16, freq := leNat (slice b 2 3), id := at32 b 6
    eid := if at16 b 10 = 0 then none else some (at16 b 10)
    level := if hasBit (at8 b 15) 4 then some (at8 b 14) else none
    detail := (List.range 8).map fun j => (j, at8 b (24 + j))
    input := if at8 b 5 = 0xFF then none else some (at8 b 5)
    link := if at16 b 12 = 0 then none else some (at16 b 12), source := src, time := now }

/-- FB_PUT over a named entry: the image's fields take the place of the entry's (R537). -/
def putOver (b : List Byte) (src now : Nat) (e : FbEntry) : FbEntry :=
  let o := putOffer b src now
  { e with freq := o.freq, id := o.id, eid := o.eid.getD 0, input := at8 b 5, link := o.link.getD 0
           level := o.level.getD e.level, levelValid := e.levelValid || o.level.isSome
           detail := o.detail.map (·.2), source := e.source ||| (1 <<< src), seen := seenOf now, stale := false }

/-- Outcome of FB_PUT on a state: status, handle, result, and the state with its effect (R537). -/
def Dev.fbPut (handle pin : Nat) (b : List Byte) (src : Nat) (d : Dev) : Status × Nat × Nat × Dev :=
  if handle = 0xFFFF then
    match d.fbMatch (putOffer b src d.now) with
    | (some (h, made), e) =>
      let (fine, e1) := e.fbPin h pin
      if fine then (.ok, h, bit (!made), e1.spreadLinks) else (.noPages, 0, 0, d)
    | (none, _) => (.noPages, 0, 0, d)
  else match d.fbe handle with
    | none => (.wrongState, 0, 0, d)
    | some e =>
      if e.std != at8 b 0 % 16 then (.wrongState, 0, 0, d)
      else
        let d1 := { d.setFbe handle (putOver b src d.now) with fb.updated := d.fb.updated + 1 }
        let (fine, d2) := d1.fbPin handle pin
        if fine then (.ok, handle, 1, d2.spreadLinks) else (.noPages, 0, 0, d)

/-- FB_DROP on a state (R538). -/
def Dev.fbDrop (handle scope : Nat) (d : Dev) : Dev :=
  let goes (x : Nat × FbEntry) : Bool := match scope with
    | 0 => x.1 == handle
    | 1 => !x.2.pinned
    | _ => true
  { d with fb.entries := d.fb.entries.filter fun x => !goes x, fb.freed := d.fb.freed + (d.fb.entries.filter goes).length }

/-- A frequency suits a standard, or names an identifier record (R537). -/
def fbFreqOk (std freq : Nat) : Bool := freq == 0 || (match segmentOf freq with
  | some n => stdSuits std n
  | none => false)

/-- An identifier or EId is out of range for its standard (R525). -/
def fbIdBad (std id eid : Nat) : Bool :=
  match std with
  | 0 => 65535 < id || eid != 0
  | 1 => id != 0 || eid != 0
  | 2 => false
  | _ => 0xFFFFFF < id || eid != 0

/-- Reserved bytes of the detail fields that are not zero (R526). -/
def fbDetailBad (std : Nat) (b : List Byte) : Bool :=
  match std with
  | 0 => !zeroAt b 28 4
  | 1 => !(zeroAt b 24 2 && zeroAt b 27 5)
  | 2 => !zeroAt b 27 5
  | _ => !zeroAt b 27 1

/-- A field of an entry image that no command may give (R537, R540). -/
def fbFieldBad (b : List Byte) : Bool :=
  let std := at8 b 0 % 16
  4 < std || !fbFreqOk std (leNat (slice b 2 3)) || !(at8 b 5 ≤ 3 || at8 b 5 == 0xFF)
    || fbIdBad std (at32 b 6) (at16 b 10) || fbDetailBad std b

/-- One entry of FB_IMPORT (R540): its result code and the state. An entry of a standard that the part lacks gets result 0x02 and does
not refuse the packet, and the hint of an input that the part lacks is taken as it stands: R540 lists no NOT_FITTED (DESIGN CHOICE
log 129). -/
def Dev.fbImportOne (b : List Byte) (src accepted : Nat) (d : Dev) : Nat × Dev :=
  let std := at8 b 0 % 16
  if !hasBit (at8 b 0) 5 || fbFieldBad b || d.drmUnfitted std then (2, d)
  else
    let age := min (at32 b 16) (1000 * d.propN P.fbExpire)
    let o := { putOffer b src (accepted - age * 2 ^ 20) with
      cls := if hasBit (at8 b 15) 3 then some (at8 b 15 % 8) else none
      regional := some (hasBit (at8 b 15) 5) }
    match d.fbMatch o with
    | (none, e) => (3, e)
    | (some (h, made), e) =>
      let e1 := e.setFbe h fun x => { x with source := x.source ||| (at8 b 1 % 128) }
      if hasBit (at8 b 0) 4 then
        let (fine, e2) := e1.fbPin h 1
        (if fine then bit (!made) else 4, e2)
      else (bit (!made), e1)

/-- FB_IMPORT: the result codes in order and the state. -/
def Dev.fbImport (l : List (List Byte)) (src accepted : Nat) (d : Dev) : List Nat × Dev :=
  let (rs, e) := l.foldl (fun (acc : List Nat × Dev) b =>
    let (r, e) := acc.2.fbImportOne b src accepted
    (acc.1 ++ [r], e)) ([], d)
  (rs, e.spreadLinks)

/-- One accepted command applied at its boundary (R528). -/
def Dev.fbCmd (c : FbCmd) (d : Dev) : Dev :=
  match c with
  | .put h pin b src => (d.fbPut h pin b src).2.2.2
  | .drop h scope => d.fbDrop h scope
  | .import_ l src t => (d.fbImport l src t).2

/-- Offers in order of their datum time, then the commands whose boundary has come (R528). -/
def Dev.fbPending (d : Dev) (cmds : List (Nat × FbCmd)) : Dev :=
  let e := d.fb.offers.foldl (fun d o => d.fbApply o) { d with fb.offers := [] }
  cmds.foldl (fun d c => d.fbCmd c.2) e

/-- The Field Book as the next boundary will leave it, by what is known now: a command's reply is judged on it (DEDUCED
log 40). -/
def Dev.fbStaged (d : Dev) : Dev := d.fbPending d.fb.cmds

/-- A command is accepted for the next boundary. -/
def Dev.fbAccept (c : FbCmd) (d : Dev) : Dev := { d with fb.cmds := d.fb.cmds ++ [(d.nextBoundary, c)] }

/-- FB_QUERY (R536). -/
def fbQueryBody : Body := fun q d =>
  let (std, flags, first, count) := (q.p8 0, q.p8 1, q.p16 2, q.p8 4)
  let (id, lo, hi) := (q.p32 8, q.p32 12, q.p32 16)
  let byId := hasBit flags 0
  let byVer := hasBit flags 4
  let vers := if byVer then d.versions id 0 false else []
  let pass (x : Nat × FbEntry) : Bool :=
    first ≤ x.1 && (std == 0xFF || x.2.std == std) && (!byId || x.2.id == id)
      && (!hasBit flags 1 || (lo ≤ x.2.freq && x.2.freq ≤ hi)) && !(hasBit flags 2 && x.2.stale)
      && (!hasBit flags 3 || x.2.pinned) && (!byVer || vers.contains x.1)
  let hits := d.fb.entries.filter pass
  let sent := hits.take count
  let next := if sent.length < count then 0xFFFF else match sent.getLast? with
    | some (h, _) => if h = 8191 then 0xFFFF else h + 1
    | none => 0xFFFF
  checked d [(q.len != 20 || count < 1 || 28 < count, .badLength), (d.drmUnfitted std, .notFitted),
    (q.badHeader || (4 < std && std != 0xFF) || 32 ≤ flags || 8191 < first || !zeroAt q.params 5 3
      || (!byId && !byVer && id != 0) || (!hasBit flags 1 && (lo != 0 || hi != 0)) || hi < lo, .badParam),
    (d.inWatch, .wrongState)] <|
    okWith (u8 sent.length ++ u8 0 ++ u16 next ++ u32 d.fb.gen
      ++ sent.flatMap fun x => u16 x.1 ++ x.2.bytesWith x.2.seen) d

/-- The row FB_QUERY. -/
def execFbQuery (dt : Nat) (s : State) : Host.Outcome State Fault Refusal := s.command dt 0x0401 fbQueryBody

/-- Bytes of an FB_PUT image that must be zero are not (R537). -/
def putZeroBad (b : List Byte) : Bool :=
  15 < at8 b 0 || at8 b 1 != 0 || !zeroAt b 16 8 || (at8 b 15 != 0 && at8 b 15 != 16) || (at8 b 15 == 0 && at8 b 14 != 0)

/-- FB_PUT (R537). -/
def fbPutBody : Body := fun q d =>
  let (h, pin) := (q.p16 0, q.p8 2)
  let b := slice q.params 4 32
  let link := at16 b 12
  let (st, rh, res, _) := d.fbStaged.fbPut h pin b q.src.fbBit
  checked d [(q.len != 36, .badLength), (d.imageUnfitted b, .notFitted),
    (q.badHeader || (8191 < h && h != 0xFFFF) || 2 < pin || q.p8 3 != 0 || putZeroBad b || fbFieldBad b
      || (link != 0 && link < 0x8000), .badParam),
    (q.notSystem d, .notOwner), (d.inWatch || st == .wrongState, .wrongState), (st == .noPages, .noPages)] <|
    okWith (u16 rh ++ u8 res ++ u8 0) (d.fbAccept (.put h pin b q.src.fbBit))

/-- The row FB_PUT. -/
def execFbPut (dt : Nat) (s : State) : Host.Outcome State Fault Refusal := s.command dt 0x0402 fbPutBody

/-- FB_DROP (R538). -/
def fbDropBody : Body := fun q d =>
  let (h, scope) := (q.p16 0, q.p8 2)
  checked d [(q.len != 4, .badLength),
    (q.badHeader || 8191 < h || 2 < scope || (scope != 0 && h != 0) || q.p8 3 != 0, .badParam), (q.notSystem d, .notOwner),
    (d.inWatch || (scope == 0 && (d.fbStaged.fbe h).isNone), .wrongState)] <|
    ok (d.fbAccept (.drop h scope))

/-- The row FB_DROP. -/
def execFbDrop (dt : Nat) (s : State) : Host.Outcome State Fault Refusal := s.command dt 0x0403 fbDropBody

/-- FB_EXPORT (R539). -/
def fbExportBody : Body := fun q d =>
  let (first, count) := (q.p16 0, q.p8 2)
  let sent := (d.fb.entries.filter (first ≤ ·.1)).take count
  let next := if sent.length < count then 0xFFFF else match sent.getLast? with
    | some (h, _) => if h = 8191 then 0xFFFF else h + 1
    | none => 0xFFFF
  checked d [(q.len != 4, .badLength), (q.badHeader || 8191 < first || count < 1 || 29 < count || q.p8 3 != 0, .badParam),
    (d.inWatch, .wrongState)] <|
    okWith (u8 sent.length ++ u8 0 ++ u16 next ++ u32 d.fb.gen
      ++ sent.flatMap fun x => u16 x.1 ++ x.2.bytesWith (x.2.age d.now)) d

/-- The row FB_EXPORT. -/
def execFbExport (dt : Nat) (s : State) : Host.Outcome State Fault Refusal := s.command dt 0x0404 fbExportBody

/-- FB_IMPORT (R540). -/
def fbImportBody : Body := fun q d =>
  let n := q.p8 0
  let l := entriesOf 32 (q.params.drop 4)
  let (rs, _) := d.fbStaged.fbImport l q.src.fbBit d.now
  checked d [(n < 1 || 31 < n || q.len != 4 + 32 * n, .badLength), (q.badHeader || !zeroAt q.params 1 3, .badParam),
    (q.notSystem d, .notOwner), (d.inWatch, .wrongState)] <|
    okWith ((List.range 32).flatMap fun j => u8 (rs.getD j 0xFF)) (d.fbAccept (.import_ l q.src.fbBit d.now))

/-- The row FB_IMPORT. -/
def execFbImport (dt : Nat) (s : State) : Host.Outcome State Fault Refusal := s.command dt 0x0405 fbImportBody

/-! ## At a boundary (R528, R532, R535) -/

/-- One sweep of 128 entries (R532). -/
def Dev.fbSweep (d : Dev) : Dev :=
  let a := d.fb.sweep
  let here (x : Nat × FbEntry) : Bool := a ≤ x.1 && x.1 < a + 128
  let old (x : Nat × FbEntry) (p : Nat) : Bool := 1000 * d.propN p < x.2.age d.now
  let gone (x : Nat × FbEntry) : Bool := here x && !x.2.pinned && !x.2.tuned && old x P.fbExpire
  { d with
    fb.sweep := (a + 128) % 8192
    fb.freed := d.fb.freed + (d.fb.entries.filter gone).length
    fb.entries := (d.fb.entries.filter fun x => !gone x).map fun x =>
      if here x && old x P.fbStale then (x.1, { x.2 with stale := true }) else x }

/-- The tuned bits follow the foreground contexts' tunings, each a standard, frequency and identifier (R532). -/
def Dev.fbTuned (tunings : List (Nat × Nat × Nat)) (d : Dev) : Dev :=
  { d with fb.entries := d.fb.entries.map fun x => (x.1, { x.2 with tuned := tunings.contains (x.2.std, x.2.freq, x.2.id) }) }

/-- The Field Book at a Round boundary (R528, R532, R535). -/
def Dev.fbRound (tunings : List (Nat × Nat × Nat)) (d : Dev) : Dev :=
  let due := d.fb.cmds.filter (·.1 ≤ d.now)
  let e := (({ d with fb.cmds := d.fb.cmds.filter (d.now < ·.1) }.fbPending due).fbSweep).fbTuned tunings
  if e.fb.entries = d.fb.entries then e
  else { e with fb.gen := (e.fb.gen + 1) % 2 ^ 32, fb.changedAt := some d.now }

/-- FB_CHANGED_REPORT (R535, R555): at the boundary that changed an entry, P.FB_EVT_ROUNDS after the previous report. -/
def execFbChangedReport (dt : Nat) (s : State) : Host.Outcome State Fault Refusal :=
  s.runIf dt Dev.active fun d =>
    let n := d.propN P.fbEvtRounds
    let due : Bool := match d.fb.eventAt with
      | some t => t + n * roundTicks ≤ d.now
      | none => true
    if n != 0 && due && d.fb.changedAt == some d.now then
      ({ d with fb.created := 0, fb.freed := 0, fb.updated := 0, fb.eventAt := some d.now }).emit 70
        (u32 d.fb.gen ++ u16 (min 0xFFFF d.fb.created) ++ u16 (min 0xFFFF d.fb.freed) ++ u16 d.fbPinned
          ++ u16 d.fb.entries.length ++ u32 (min 0xFFFFFFFF d.fb.updated))
    else d

end Sys2Proof.Machine
end

