-- ==== Sys2Proof/Machine/NbDsp.lean ====
section
/-!
DEFINITION. The signal path of a narrowband channel (chapter 14): normaliser, channel filter, equaliser, discriminator, stereo
decoder, AM carrier recovery and detection, audio (R391-R407, R413), and what a window measures (R408, R409). Signals behind the
normaliser are in units of 2^-16 of the unit rms, the MPX in units of 256,000 / 2^24 Hz.
-/
namespace Sys2Proof.Machine

/-- What the context's settings and decisions fix for its samples. -/
structure NbPar where
  /-- 0 FM, 1 AM. -/
  std : Nat
  /-- NB_CFG settings in force. -/
  cfg : NbCfg
  /-- Decisions in force. -/
  run : NbRun
  /-- Properties in force. -/
  props : NbProps

/-- A slot sample on the common scale: units of 2^-64 of the scale of R306 and R334. -/
def SlotSample.value (s : SlotSample) : Cx := s.m.scale (2 ^ (s.eo + 64).toNat)

/-- The sample freezes the loops (R393). -/
def SlotSample.frozen (s : SlotSample) : Bool := s.hold || s.noseg
/-- The sample is excluded from the metrics (R393). -/
def SlotSample.excluded (s : SlotSample) : Bool := s.frozen || s.settle || s.sat

/-- Result of a division by a measured value; where that value is 0 the spec states none (UNVERIFIED log 134). -/
def openRatio (num : Int) (den : Nat) : Int := if den = 0 then Config.overNothing num else openDiv num den
/-- A power ratio in 0.1 dB; where one of the powers is 0 the spec states none (UNVERIFIED log 132). -/
def levelOf (num den : Nat) : Int := if num = 0 || den = 0 then Config.levelOfNothing else tenthsDb num den
/-- Sample `k` of a cross-fade from `a` to `b`, whose shape the spec does not give (UNVERIFIED log 134). -/
def fadeMix (k : Nat) (a b : Int) : Int :=
  let g := Config.crossFade k
  openDiv (a * (65536 - g) + b * g) 65536
/-- ln 10 in units of 2^-48. -/
def ln10Fix : Nat := 648120085424802
/-- The amplitude ratio of an attenuation in units of 2^-16 dB, in units of 2^-48. -/
def attenuation (v : Nat) : Nat := expNeg (v * ln10Fix) (20 * 2 ^ 64)
/-- A real filter of `n` taps over samples, newest first, in Q1.17 (UNVERIFIED log 130). -/
def realFir (which n : Nat) (l : List Int) : Int :=
  openDiv (((List.range n).zip l).foldl (fun a p => a + Config.nbFir which p.1 * p.2) 0) (2 ^ 17)

/-! ## Normaliser and channel filter (R394, R395, R403, R406) -/

/-- The sums of a Round that is over give the gain of the next one. -/
def NbFront.roll (round : Nat) (x : NbFront) : NbFront :=
  if x.n = 0 || x.round = round then { x with round := round }
  else { x with norm := rootNat (x.sq / x.n), round := round, sq := 0, n := 0 }

/-- The normaliser: the sample over the rms magnitude of the Round before, on 18 + 18 bits. -/
def NbFront.normalise (round : Nat) (v : Cx) (x0 : NbFront) : NbFront × Cx :=
  let x := x0.roll round
  let u := v.each fun a => (saturate 18 (openRatio (a * 65536) x.norm)).1
  ({ x with sq := x.sq + v.sq, n := x.n + 1, line := pushLine 127 u x.line }, u)

/-- The output of the channel filter of index `bw`: 127 taps, linear phase, a delay of 63 samples (R395, R406). -/
def nbFiltered (std bw : Nat) (line : List Cx) : Cx :=
  (firSum (linearPhase 127 (Config.nbTap std bw)) line).each fun v => (saturate 18 (openDiv v (2 ^ 17))).1

/-- The channel filter with its cross-fade of 64 samples after a change of bandwidth to index `bw`. -/
def NbFront.filter (std bw : Nat) (x0 : NbFront) : NbFront × Cx :=
  let x := if x0.bw = bw then x0 else { x0 with bw := bw, bwOld := x0.bw, fade := 0 }
  let y := nbFiltered std x.bw x.line
  if x.fade < 64 then
    let o := nbFiltered std x.bwOld x.line
    ({ x with fade := x.fade + 1 }, { re := fadeMix x.fade o.re y.re, im := fadeMix x.fade o.im y.im })
  else (x, y)

/-- The normaliser output in the edge band above and below 0 Hz (R396, R406): 95-110 kHz for FM, 10.5-12 kHz for AM. -/
def edgePower (std : Nat) (line : List Cx) : Nat × Nat :=
  let h : List Cx := (List.range 127).map fun t => { re := (Config.edgeTap std t).1, im := (Config.edgeTap std t).2 }
  let p (l : List Cx) : Nat := ((firSumCx l line).each fun v => openDiv v (2 ^ 17)).sq
  (p h, p (h.map Cx.conj))

/-! ## Equaliser (R397) -/

/-- Taps of Q2.16 on 18 bits. -/
def eqClip (a : Cx) : Cx := a.each fun v => (saturate 18 v).1
/-- Σ|w_t|² in units of 2^-32. -/
def eqNorm (l : List Cx) : Nat := (l.map Cx.sq).sum
/-- Every tap is multiplied by 1 - 2^-16, once per Round. -/
def EqSt.leaked (x : EqSt) : EqSt := { x with w := x.w.map (·.each fun v => openDiv (v * 65535) 65536) }
/-- The output of the taps, before it is brought to 18 bits. -/
def EqSt.sum (x : EqSt) : Cx := (firSumCx x.w x.line).each fun v => openDiv v (2 ^ 16)
/-- The constant-modulus update of every tap from an output `y` (18 R517 has a combined service use the common sum). -/
def EqSt.adapt (mu : Nat) (y : Cx) (x : EqSt) : EqSt :=
  let e : Int := (y.sq : Int) - 2 ^ 32
  { x with w := (x.w.zip (fullLine 16 x.line)).map fun p =>
      eqClip (p.1.sub (((y.mul p.2.conj).scale e).each fun v => openDiv v (2 ^ (48 + mu)))) }
/-- |w4|² lies below a quarter of Σ|w_t|², or that sum exceeds 16. -/
def EqSt.failed (x : EqSt) : Bool := decide (4 * (x.w.getD 4 {}).sq < eqNorm x.w) || decide (16 * 2 ^ 32 < eqNorm x.w)

/-- One sample passes the equaliser: a reset that is due first, the leakage of a new Round, the output, and while it is on the update. -/
def NbDsp.equalise (p : NbPar) (round : Nat) (v : Cx) (x0 : NbDsp) : NbDsp × Cx :=
  let q : EqSt := if x0.eqDue || !p.run.eqOn then { x0.eq with w := ({} : EqSt).w } else if x0.leak != round then x0.eq.leaked else x0.eq
  let q := { q with line := pushLine 16 v q.line }
  let y := eqClip q.sum
  if !p.run.eqOn then ({ x0 with eq := q, eqDue := false, leak := round }, y)
  else
    let q := q.adapt p.props.mu y
    ({ x0 with eq := q, eqDue := q.failed, leak := round, resets := x0.resets + bit q.failed }, y)

/-! ## Controls (R401, R407) -/

/-- Value of a control at datum time `t`: a first-order response toward its target. -/
def NbCtl.at (t : Nat) (x : NbCtl) : Int := approach x.v x.target (t - x.at_) (msec x.tc)
/-- A new target; `worse` says which way the audio worsens: true where a fall of the value does. -/
def NbCtl.aim (t : Nat) (target : Int) (fallWorse : Bool) (attack release : Nat) (x : NbCtl) : NbCtl :=
  let v := x.at t
  { v := v, target := target, at_ := t, tc := if decide (target < v) == fallWorse then attack else release }
/-- The control holds its value. -/
def NbCtl.hold (t : Nat) (x : NbCtl) : NbCtl := { v := x.at t, target := x.at t, at_ := t, tc := x.tc }

/-! ## Audio (R391, R393, R394, R403, R413) -/

/-- Delay of R391 in ticks. -/
def nbDelay (std : Nat) : Nat := if std = 0 then msec 5 / 4 else msec 3

/-- One sample of L and R enters the decimation, and every 32 kS/s one audio sample pair is handed over after the delay of R391. -/
def NbDsp.emit (std t leaves : Nat) (l r : Int) (x0 : NbDsp) : NbDsp :=
  let x := { x0 with outL := pushLine 512 l x0.outL, outR := pushLine 512 r x0.outR }
  if t % 32768 != 0 then x
  else
    let out (l : List Int) : Int :=
      let v := realFir (3 + std) 512 l
      (saturate 24 (if std = 0 then openDiv (v * (128 * ampOf (-12))) (75 * 2 ^ 24) else openDiv (v * ampOf (-12)) (2 ^ 25))).1
    { x with audio := x.audio ++ [{ t := leaves + nbDelay std, l := out x.outL, r := out x.outR }] }

/-- A frozen sample hands over zero audio. -/
def NbDsp.emitZero (std t leaves : Nat) (x : NbDsp) : NbDsp :=
  if t % 32768 != 0 then x else { x with audio := x.audio ++ [{ t := leaves + nbDelay std, l := 0, r := 0 }] }

/-- Gain of the audio handed over at datum time `t`, units of 2^-16 (R393, R413): what the path still held when it was cut off fades
to zero over its last 1.0 ms; released audio ramps up over 5 ms; other audio is zero. The shapes are not given (UNVERIFIED log 134). -/
def NbDsp.gainAt (std t : Nat) (x : NbDsp) : Int :=
  let ramp (rel : Option Nat) : Int := match rel with
    | some r => if t < r then 0 else if t < r + msec 5 then Config.rampShape 0 (t - r) else 65536
    | none => 0
  match x.fadeAt with
  | some (f, rel) =>
    let stop := f + nbDelay std
    if t < stop then openDiv (ramp rel * (if t + msec 1 < stop then 65536 else Config.rampShape 1 (stop - t))) 65536 else ramp x.relAt
  | none => ramp x.relAt

/-- The audio that the programme receives at or before datum time `t`: left and right of each sample with its datum time. -/
def NbDsp.handed (std t : Nat) (x : NbDsp) : List NbAudio :=
  (x.audio.filter (·.t ≤ t)).map fun a =>
    let g := x.gainAt std a.t
    { a with l := openDiv (a.l * g) 65536, r := openDiv (a.r * g) 65536 }

/-- The audio is cut off at datum time `t` (R393). -/
def NbDsp.cut (t : Nat) (x : NbDsp) : NbDsp := { x with fadeAt := some (t, x.relAt), relAt := none }
/-- The audio is released at datum time `t` (R413). -/
def NbDsp.release (t : Nat) (x : NbDsp) : NbDsp := { x with relAt := some t }

/-! ## FM (R394-R402) -/

/-- Nominal advance of the pilot phase, 19 kHz at 256 kS/s. -/
def pilotStep : Int := 318767104
/-- 10 Hz at 256 kS/s: the range of the pilot PLL (R399). -/
def pilotRange : Int := 167772

/-- A loop moves on by a sample: its integrator by a phase error in 2^-24 turns, within `range`; the gains follow from the loop's
bandwidth, for which the spec gives no formula (UNVERIFIED log 134). -/
def PllSt.step (kind : Nat) (locked : Bool) (base range err : Int) (x : PllSt) : PllSt :=
  let (kp, ki) := Config.loopGain kind locked
  let f := max (-range) (min range (x.freq + openDiv (ki * err) 65536))
  { phase := ((x.phase + base + f + openDiv (kp * err) 65536) % 2 ^ 32).toNat, freq := f }
/-- A loop runs on without correction. -/
def PllSt.coast (base : Int) (x : PllSt) : PllSt := { x with phase := ((x.phase + base + x.freq) % 2 ^ 32).toNat }

/-- One MPX sample as the RDS decoder takes it (R394, 15 R418). -/
structure MpxOut where
  /-- Datum tick of the slot sample. -/
  t : Nat
  /-- MPX. -/
  v : Int
  /-- Pilot phase. -/
  theta : Nat
  /-- Pilot frequency beyond 19 kHz, 2^-32 turns per sample. -/
  freq : Int
  /-- HOLD or NOSEG (15 R420). -/
  erased : Bool

/-- The stereo decoder's pilot PLL (R399): the error is the phase of the filtered 19 kHz component, which stands an eighth of a turn
behind θ where cos 2θ is the subcarrier (PRESUMED log 134, ITU-R BS.450). Gives the error as well. -/
def NbDsp.pilot (p : NbPar) (mpx : Int) (x : NbDsp) : NbDsp × Int :=
  let z := ((rotor30 x.pll.phase).scale mpx).each fun v => openDiv v (2 ^ 30)
  let line := pushLine 512 z x.pil
  let f (g : Cx → Int) : Int := realFir 5 512 (line.map g)
  let err := wrapInt 24 (turnOf 24 { re := f Cx.re, im := f Cx.im } + 2 ^ 21)
  ({ x with pil := line, pll := x.pll.step 0 p.run.locked pilotStep pilotRange err }, err)

/-- The discriminator and everything behind it, for a sample `y` of the equaliser or of the combiner (R394, R399-R401). -/
def NbDsp.fmOut (p : NbPar) (t leaves : Nat) (y : Cx) (x0 : NbDsp) : NbDsp × MpxOut × Int :=
  let mpx := turnOf 24 (y.mul x0.y.conj)
  let theta := x0.pll.phase
  let c2 := (rotor30 (2 * theta % 2 ^ 32)).re
  let (x1, err) := ({ x0 with y := y, mpx := pushLine 512 mpx x0.mpx, sub := pushLine 512 (openDiv (2 * mpx * c2) (2 ^ 30)) x0.sub } : NbDsp).pilot p mpx
  let m := realFir 1 512 x1.mpx
  let s := realFir 2 512 x1.sub
  let de (old v : Int) : Int := if p.props.deemph = 2 then v else approach old v 10 (if p.props.deemph = 0 then 128 else 192)
  let (m, s) := (de x1.deM m, de x1.deS s)
  let beta := if p.run.locked && p.cfg.mode = 0 then x1.beta.at t else 0
  let side := openDiv (beta * s) (2 ^ 24)
  let hc (old v : Int) : Int := approach old v (2 * piFix * (x1.hicut.at t).toNat) (2 ^ 48 * 256000000)
  let (l, r) := (hc x1.hcL (m + side), hc x1.hcR (m - side))
  let g : Int := attenuation (x1.mute.at t).toNat
  let x2 := ({ x1 with deM := m, deS := s, hcL := l, hcR := r } : NbDsp).emit 0 t leaves (openDiv (l * g) (2 ^ 48)) (openDiv (r * g) (2 ^ 48))
  (x2, { t := t, v := mpx, theta := theta, freq := x0.pll.freq, erased := false }, err)

/-- An FM sample enters the sums of its window (R409): `v` the slot sample on the common scale of the normaliser, `x` before and `y`
behind the equaliser, `edge` the powers of the edge bands. -/
def NbSums.fm (norm : Nat) (x y : Cx) (mpx : List Int) (err : Int) (theta : Nat) (edge : Nat × Nat) (s : NbSums) : NbSums :=
  let v := mpx.headD 0
  { s with
    n := s.n + 1, pw := s.pw + x.sq * norm ^ 2, m2 := s.m2 + y.sq, m4 := s.m4 + y.sq ^ 2
    rx := s.rx + rootNat (x.sq * 2 ^ 32), rx2 := s.rx2 + x.sq, ry := s.ry + rootNat (y.sq * 2 ^ 32)
    us := s.us + (realFir 0 512 mpx).natAbs ^ 2, f := s.f + v, fMax := max s.fMax v, fMin := min s.fMin v
    pil := s.pil.add ((rotor30 theta).scale v), ph := s.ph + err.natAbs ^ 2, eUp := s.eUp + edge.1, eDown := s.eDown + edge.2 }

/-- One slot sample of an FM channel, up to the equaliser's input. -/
def NbDsp.fmFront (p : NbPar) (s : SlotSample) (x : NbDsp) : NbDsp × Cx :=
  let (f, _) := x.front.normalise (roundOf s.t) s.value
  let (f, v) := f.filter 0 p.run.bw
  ({ x with front := f }, v)

/-- The sums take a sample of the window unless a flag excludes it. -/
def NbDsp.measureFm (s : SlotSample) (v y : Cx) (o : MpxOut) (err : Int) (x : NbDsp) : NbDsp :=
  if s.excluded then { x with sums.sat := x.sums.sat || (s.sat && !s.frozen && !s.settle) }
  else { x with sums := x.sums.fm x.front.norm v y x.mpx err o.theta (edgePower 0 x.front.line) }

/-- One slot sample of an FM channel (R394). A frozen one hands over zero and leaves every loop as it is, the pilot phase running on. -/
def NbDsp.fm (p : NbPar) (leaves : Nat) (s : SlotSample) (x : NbDsp) : NbDsp × MpxOut :=
  if s.frozen then
    ({ (x.emitZero 0 s.t leaves) with pll := x.pll.coast pilotStep }, { t := s.t, v := 0, theta := x.pll.phase, freq := x.pll.freq, erased := true })
  else
    let (x1, v) := x.fmFront p s
    let (x2, y) := x1.equalise p (roundOf s.t) v
    let (x3, o, err) := x2.fmOut p s.t leaves y
    (x3.measureFm s v y o err, o)

/-! ## AM (R403-R407) -/

/-- One sample passes the noise blanker (R405). Before an unblanked sample there is no mean, and nothing is blanked (DEDUCED log 134). -/
def BlankSt.step (p : NbPar) (freq : Int) (v : Cx) (x : BlankSt) : BlankSt × Cx :=
  let a : Int := v.abs
  let loud := decide (x.m * p.props.thresh < 10 * a)
  let on := p.cfg.blanker = 1 && !x.stopped && x.m != 0
  let blanks := on && (if x.run = 0 then loud else decide (x.run < 64) && (loud || decide (x.tail < 4)))
  if blanks then
    let z := (x.last.mul (rotor30 (freq % 2 ^ 32).toNat).conj).each fun b => openDiv b (2 ^ 30)
    let n := x.count + 1
    ({ x with last := z, run := x.run + 1, tail := if loud then 0 else x.tail + 1, count := n
              stopped := decide (p.props.maxRate * 128 ≤ 100 * n) }, z)
  else ({ x with m := if x.m = 0 then a else approach x.m a 1 256, last := v, run := 0, tail := 0 }, v)

/-- 200 Hz at 64 kS/s, where the integrator moves into C (R404). -/
def carrierLimit : Int := 13421773

/-- An AM sample enters the sums of its window (R409). -/
def NbSums.am (norm : Nat) (v z : Cx) (a freq : Int) (edge : Nat × Nat) (s : NbSums) : NbSums :=
  { s with
    n := s.n + 1, pw := s.pw + v.sq * norm ^ 2, f := s.f + freq, eUp := s.eUp + edge.1, eDown := s.eDown + edge.2
    a := s.a + a, q := s.q + z.im, q2 := s.q2 + z.im.natAbs ^ 2, i := s.i + z.re, env := s.env + rootNat (v.sq * 2 ^ 32)
    depth := max s.depth (openRatio ((256 * z.re - a).natAbs * 2 ^ 24) a.natAbs).natAbs }

/-- The 40 Hz second-order high-pass, whose coefficients the spec does not give (UNVERIFIED log 130). -/
def highPass (v : Int) (h : List Int) : Int × List Int :=
  let k := Config.highPassCoef
  let y := openDiv (k 0 * v + k 1 * h.getD 0 0 + k 2 * h.getD 1 0 + k 3 * h.getD 2 0 + k 4 * h.getD 3 0) (2 ^ 24)
  (y, [v, h.getD 0 0, y, h.getD 2 0])

/-- Detection, audio AGC, high-pass, soft mute and decimation of one AM sample (R403, R404, R407): `z` is the sample brought to the
carrier's phase. -/
def NbDsp.amOut (p : NbPar) (t leaves : Nat) (v z : Cx) (x0 : NbDsp) : NbDsp :=
  let x := if x0.synch = p.run.synch then x0 else { x0 with synch := p.run.synch, detFade := 0 }
  let env : Int := rootNat v.sq
  let (new, old) := if x.synch then (z.re, env) else (env, z.re)
  let det := if x.detFade < 64 then fadeMix x.detFade old new else new
  let a := approach x.a (256 * det) 1 (64 * p.props.agc)
  let (h, line) := highPass (openRatio (det * 256 * 2 ^ 24 * a.sign) a.natAbs) x.hp
  let mute : Int := attenuation (x.mute.at t).toNat
  let out := if p.cfg.mode = 1 && !p.run.locked then 0 else openDiv (h * mute) (2 ^ 48)
  ({ x with a := a, hp := line, detFade := min 64 (x.detFade + 1) } : NbDsp).emit 1 t leaves out out

/-- The carrier loop takes one sample (R404): the coarse search collects valid samples until it has found the carrier, then the
PLL runs. Gives the sample brought to the carrier's phase. -/
def NbDsp.carrier (p : NbPar) (s : SlotSample) (v : Cx) (x : NbDsp) : NbDsp × Cx :=
  let z := (v.mul (rotor30 x.pll.phase)).each fun a => openDiv a (2 ^ 30)
  if p.run.coarse then ({ x with pll := x.pll.step 1 p.run.locked 0 (2 ^ 31) (turnOf 24 z) }, z)
  else if s.excluded || 256 ≤ x.search.length then (x, z) else ({ x with search := x.search ++ [v] }, z)

/-- The sums take a sample of the window unless a flag excludes it. -/
def NbDsp.measureAm (s : SlotSample) (v z : Cx) (x : NbDsp) : NbDsp :=
  if s.excluded then { x with sums.sat := x.sums.sat || (s.sat && !s.frozen && !s.settle) }
  else { x with sums := x.sums.am x.front.norm v z x.a x.pll.freq (edgePower 1 x.front.line) }

/-- One sample of an AM channel behind the blanker, or of the combiner (18 R518). -/
def NbDsp.amBehind (p : NbPar) (leaves : Nat) (s : SlotSample) (b : Cx) (x : NbDsp) : NbDsp :=
  let (f, _) := x.front.normalise (roundOf s.t) b
  let (f, v) := f.filter 1 p.run.bw
  let (x2, z) := ({ x with front := f } : NbDsp).carrier p s v
  (x2.amOut p s.t leaves v z).measureAm s v z

/-- One slot sample of an AM channel (R403). -/
def NbDsp.am (p : NbPar) (leaves : Nat) (s : SlotSample) (x : NbDsp) : NbDsp :=
  if s.frozen then { (x.emitZero 1 s.t leaves) with pll := x.pll.coast 0 }
  else
    let (k, b) := x.blank.step p x.pll.freq s.value
    ({ x with blank := k } : NbDsp).amBehind p leaves s b

/-! ## The coarse search (R404 step 1) -/

/-- Power of bin `k` of the 256-point Hann-windowed FFT. -/
def searchPower (l : List Cx) (k : Nat) : Nat :=
  let w := (indexed l).map fun x => (x.2.scale (2 ^ 48 - (rotor48 (x.1 * 2 ^ 24)).re)).each (· / 2 ^ 49)
  ((dftBin 256 k w).each (· / 2 ^ 32)).sq

/-- The search over 256 samples: offset of the carrier in mHz where its bin stands at least 10 dB above the median bin. The median of
an even count and the measure that the parabola fits are not given (UNVERIFIED log 134). -/
def coarseOffset (l : List Cx) : Option Int :=
  let pw := (List.range 256).map (searchPower l)
  let at_ (k : Int) : Nat := pw.getD (k % 256).toNat 0
  let best := (List.range 17).foldl (fun (b : Int) i => if at_ b < at_ ((i : Int) - 8) then (i : Int) - 8 else b) (-8)
  let sorted := pw.mergeSort (· ≤ ·)
  let median := sorted.getD (if Config.upperMedian then 128 else 127) 0
  if at_ best < 10 * median then none
  else
    let m (k : Int) : Int := Config.binMeasure (at_ k)
    let (a, b, c) := (m (best - 1), m best, m (best + 1))
    let bend := a - 2 * b + c
    some (best * 250000 + openRatio ((a - c) * 125000 * bend.sign) bend.natAbs)

/-! ## What a window measures (R409) -/

/-- 100 % × rms(r - r̄) / r̄ in 0.1 %, from Σr (2^-32) and Σr² (2^-32) over n samples. -/
def multipath (n r r2 : Nat) : Nat := (openRatio (1000 * (rootNat (n * r2 * 2 ^ 32 - r ^ 2) : Nat) : Int) r).toNat

/-- CNR of FM in 0.1 dB: from the second and fourth moments, -10 to 50 dB. -/
def fmCnr (n m2 m4 : Nat) : Int :=
  if 2 * m2 ^ 2 ≤ n * m4 then -100
  else
    let s := rootNat (2 * m2 ^ 2 - n * m4)
    if m2 ≤ s then 500 else max (-100) (min 500 (tenthsDb s (m2 - s)))

/-- CNR of AM in 0.1 dB: A² over twice the variance of Q. -/
def amCnr (x : NbSums) : Int := levelOf (x.a.natAbs ^ 2) (2 ^ 17 * (x.n * x.q2 - x.q.natAbs ^ 2))

/-- Level in 0.1 dBµV from Σ|M|²·4^Eo (2^-160) over `n` samples. -/
def nbLevel (pw n : Nat) : Int := 810 + levelOf pw (n * 2 ^ 188)

/-- USN in 0.1 dB. -/
def nbUsn (us n : Nat) : Int := levelOf (us * 256000 ^ 2 * 2) (n * 2 ^ 48 * 75000 ^ 2)

/-- A window of an FM channel. -/
def NbSums.fmWin (x : NbSums) : NbWin :=
  let unit (v : Int) (k : Nat) : Int := openRatio (v * 256000) (x.n * 2 ^ 24 * k)
  { valid := decide (256 ≤ x.n), sat := x.sat, level := nbLevel x.pw x.n, cnr := some (fmCnr x.n x.m2 x.m4)
    freq := openRatio (x.f * 256000000) (x.n * 2 ^ 24)
    dev := (unit (max (x.fMax * x.n - x.f) (x.f - x.fMin * x.n)) 100).toNat
    usn := nbUsn x.us x.n, mp := multipath x.n x.rx x.rx2, mpRes := multipath x.n x.ry x.m2
    aci := (levelOf x.eUp x.eDown).natAbs
    pilot := (openRatio ((2 * (rootNat x.pil.sq) * 256000 : Nat) : Int) (x.n * 2 ^ 54)).toNat
    phase := (openRatio ((3600 * rootNat (x.n * x.ph) : Nat) : Int) (x.n * 2 ^ 24)).toNat
    ratio := 0, blanks := 0, stopped := false, blend := 0, softmute := 0, hicut := 0 }

/-- A window of an AM channel; CNR is valid while the carrier is locked. -/
def NbSums.amWin (locked : Bool) (b : BlankSt) (x : NbSums) : NbWin :=
  { valid := decide (64 ≤ x.n), sat := x.sat, level := nbLevel x.pw x.n, cnr := if locked then some (amCnr x) else none
    freq := openRatio (x.f * 64000000) (x.n * 2 ^ 32), dev := (openDiv (1000 * x.depth) (2 ^ 24)).toNat
    usn := 0, mp := 0, mpRes := 0, aci := levelOf (max x.eUp x.eDown * x.n * 2 ^ 16) (x.a.natAbs ^ 2)
    pilot := 0, phase := 0, ratio := (openRatio (x.i * 65536 * 1000) x.env).toNat
    blanks := b.count, stopped := b.stopped, blend := 0, softmute := 0, hicut := 0 }

/-- The window with the controls of R401 as they stand at datum time `t`. -/
def NbDsp.shown (t : Nat) (w : NbWin) (x : NbDsp) : NbWin :=
  { w with
    blend := (roundAway ((x.beta.at t) * 255) (2 ^ 24)).toNat, softmute := (openDiv (x.mute.at t) 65536).toNat
    hicut := (openDiv (x.hicut.at t) 10000).toNat }

/-- The window that ends now. -/
def NbDsp.win (std t : Nat) (locked : Bool) (x : NbDsp) : NbWin :=
  x.shown t (if std = 0 then x.sums.fmWin else x.sums.amWin locked x.blank)
/-- A new window begins. -/
def NbDsp.nextWindow (x : NbDsp) : NbDsp := { x with sums := {}, resets := 0, blank := { x.blank with count := 0, stopped := false } }

end Sys2Proof.Machine
end

