-- ==== Sys2Proof/Machine/RdsDsp.lean ====
section
/-!
DEFINITION. The demodulation of an RDS stream unit (15 R418-R420) and the error correction of its blocks (R421, R424).
-/
namespace Sys2Proof.Machine

/-! ## From the MPX to bits (R418-R420) -/

/-- Advance of the bit phase per sample of 16 kS/s at 1,187.5 bit/s, 2^-32 bit. -/
def bitStep : Int := 318767104
/-- 0.05 % of it. -/
def bitRange : Int := 159383
/-- 20 Hz at 256 kS/s. -/
def costasRange : Int := 335544
/-- Four times the carrier of stream `k` over the pilot frequency: 3, 3.5, 3.75 and 4. -/
def streamRatio (k : Nat) : Int := [12, 14, 15, 16].getD k 12

/-- `a` + (`b` - `a`) × num / den on each rail: interpolation between two samples. -/
def between (a b : Cx) (num den : Int) : Cx := a.add ((b.sub a).each fun v => openDiv (v * num) den.toNat)

/-- The unit strobes once per bit: Gardner's timing error, the differential decision, and what it touched (R418, R420). The scale of
the error in bits is not given (UNVERIFIED log 134). -/
def RdsDsp.strobe (t : Nat) (locked : Bool) (v : Cx) (x : RdsDsp) : RdsDsp :=
  let e := openRatio (((v.sub x.sym).mul x.mid.conj).re * Config.gardnerGain) (v.sq + x.sym.sq)
  let bit : RdsBit := { t := t, v := decide ((v.mul x.sym.conj).re < 0), erased := x.dirty || !locked }
  if x.dirty then { x with sym := v, dirty := false, run := x.run + 1, bits := x.bits ++ [bit] }
  else
    let (kp, ki) := Config.loopGain 3 locked
    { x with
      sym := v, run := 0, bits := x.bits ++ [bit], errs := pushLine 32 e x.errs
      freq := max (-bitRange) (min bitRange (x.freq + openDiv (ki * e) 65536))
      tau := ((x.tau - openDiv (kp * e) 65536) % 2 ^ 32).toNat }

/-- One sample of 16 kS/s passes the matched filter and the timing loop. -/
def RdsDsp.symbol (t : Nat) (locked erased : Bool) (z : Cx) (x0 : RdsDsp) : RdsDsp :=
  let line := pushLine 64 z x0.mf
  let m := (firSum ((List.range 64).map Config.rdsMatch) line).each fun v => openDiv v (2 ^ 17)
  let step := bitStep + x0.freq
  let next := (x0.tau : Int) + step
  let x := { x0 with mf := line, out := m, dirty := x0.dirty || erased }
  if (x0.tau : Int) < 2 ^ 31 && 2 ^ 31 ≤ next then { x with mid := between x0.out m (2 ^ 31 - x0.tau) step, tau := next.toNat }
  else if 2 ^ 32 ≤ next then
    ({ x with tau := (next - 2 ^ 32).toNat } : RdsDsp).strobe t locked (between x0.out m (2 ^ 32 - x0.tau) step)
  else { x with tau := next.toNat }

/-- One MPX sample enters stream unit `k` (R418): its carrier, mixing, the low-pass and the decimation by 16. -/
def RdsDsp.push (k : Nat) (pilotLocked locked : Bool) (o : MpxOut) (x0 : RdsDsp) : RdsDsp :=
  let follows := k = 0 && pilotLocked
  let phase := if follows then 3 * o.theta % 2 ^ 32 else x0.pll.phase
  let base := streamRatio k * (pilotStep + (if pilotLocked then o.freq else 0)) / 4
  let z := ((rotor30 phase).scale o.v).each fun v => openDiv v (2 ^ 30)
  let x := { x0 with line := pushLine 63 z x0.line, pll := x0.pll.coast base, at_ := o.t, dirty := x0.dirty || o.erased }
  if o.t % 65536 != 0 then x
  else
    let d := (firSum (linearPhase 63 Config.rdsTap) x.line).each fun v => openDiv v (2 ^ 17)
    let err := openDiv (turnOf 24 (d.mul d).shrink) 2
    let (kp, ki) := Config.loopGain 2 locked
    let pll : PllSt := if follows || o.erased then x.pll else
      { phase := ((x.pll.phase + openDiv (kp * err) 65536) % 2 ^ 32).toNat
        freq := max (-costasRange) (min costasRange (x.pll.freq + openDiv (ki * err) 65536)) }
    ({ x with pll := pll } : RdsDsp).symbol o.t locked o.erased d

/-- Σ of the squared timing errors of the last 32 bits, units of (2^-16 bit)². -/
def RdsDsp.jitter (x : RdsDsp) : Nat := (x.errs.map fun e => e.natAbs ^ 2).sum
/-- Bit lock as the last 32 bits decide it (R419, R420): gained below 0.1 bit rms, lost above 0.2 bit rms or after 24 bits of
erasure. -/
def RdsDsp.lock (locked : Bool) (x : RdsDsp) : Bool :=
  if locked then !(decide (32 * 2 ^ 32 < 25 * x.jitter) || decide (24 ≤ x.run))
  else x.errs.length == 32 && decide (100 * x.jitter < 32 * 2 ^ 32) && x.run == 0

/-- The bit position and the bit phase extrapolated to datum time `t` (R428); the bits between are not received. -/
def RdsDsp.extrapolate (t : Nat) (x : RdsDsp) : RdsDsp :=
  let total : Nat := x.tau + (t - x.at_) * (bitStep + x.freq).toNat / 65536
  { x with
    tau := total % 2 ^ 32, pos := x.pos + x.bits.length + total / 2 ^ 32, clean := 0, bits := [], line := [], mf := [], dirty := false, run := 0, at_ := t }

/-! ## Blocks (R421, R424) -/

/-- Remainder of a 26-bit window under x^10 + x^8 + x^7 + x^5 + x^4 + x^3 + 1 (R421). -/
def rdsRemainder (w : Nat) : Nat :=
  (List.range 16).foldl (fun r i => if r.testBit (25 - i) then r ^^^ (0x5B9 <<< (15 - i)) else r) w

/-- Offset words A, B, C, C′, D, E of IEC 62106 and NRSC-4 (PRESUMED log 42). -/
def offsetWord (o : Nat) : Nat := [0x0FC, 0x198, 0x168, 0x350, 0x1B4, 0x000].getD o 0

/-- Offset that the window holds without an error, among `l`. -/
def offsetIn (l : List Nat) (w : Nat) : Option Nat := l.find? fun o => rdsRemainder w == offsetWord o

/-- Error patterns that are one burst of exactly `n` bits. -/
def bursts (n : Nat) : List Nat :=
  let shapes := if n = 1 then [1] else (List.range (2 ^ (n - 2))).map fun m => 2 ^ (n - 1) + 2 * m + 1
  shapes.flatMap fun b => (List.range (27 - n)).map fun s => b <<< s

/-- A window at an expected position whose offset is among `l` (R424): offset, length of the burst corrected, and information word. -/
def correctBlock (most : Nat) (l : List Nat) (w : Nat) : Option (Nat × Nat × Nat) :=
  (List.range (most + 1)).findSome? fun n =>
    if n = 0 then (offsetIn l w).map fun o => (o, 0, w / 1024)
    else (bursts n).findSome? fun e => (offsetIn l (w ^^^ e)).map fun o => (o, n, (w ^^^ e) / 1024)

end Sys2Proof.Machine
end

