-- ==== Sys2Proof/Machine/PerContext.lean ====
section
/-!
DEFINITION. What the demodulators keep per context and per ensemble instance: starting afresh, warm starts after a park
(15 R428, 16 R443, 17 R479), retunes, check results and their quality classes (14 R411, 16 R467, 17 R499), and what a
closing context releases (13 R380).
-/
namespace Sys2Proof.Machine

/-! ## Access -/

/-- Change the value at key `k` where there is one. -/
def tabMod {α : Type} (t : List (Nat × α)) (k : Nat) (f : α → α) : List (Nat × α) :=
  t.map fun x => if x.1 == k then (x.1, f x.2) else x

/-- Narrowband state of context `c`. -/
def Dev.nb (d : Dev) (c : Nat) : NbSt := (tabGet d.dem.nb c).getD {}
/-- Change it. -/
def Dev.setNb (c : Nat) (f : NbSt → NbSt) (d : Dev) : Dev := { d with dem.nb := tabSet d.dem.nb c (f (d.nb c)) }
/-- RDS state of context `c`. -/
def Dev.rds (d : Dev) (c : Nat) : RdsSt := (tabGet d.dem.rds c).getD {}
/-- Change it. -/
def Dev.setRds (c : Nat) (f : RdsSt → RdsSt) (d : Dev) : Dev := { d with dem.rds := tabSet d.dem.rds c (f (d.rds c)) }
/-- DAB state of context `c`. -/
def Dev.dab (d : Dev) (c : Nat) : DabSt := (tabGet d.dem.dab c).getD {}
/-- Change it. -/
def Dev.setDab (c : Nat) (f : DabSt → DabSt) (d : Dev) : Dev := { d with dem.dab := tabSet d.dem.dab c (f (d.dab c)) }
/-- DRM state of context `c`. -/
def Dev.drm (d : Dev) (c : Nat) : DrmSt := (tabGet d.dem.drm c).getD {}
/-- Change it. -/
def Dev.setDrm (c : Nat) (f : DrmSt → DrmSt) (d : Dev) : Dev := { d with dem.drm := tabSet d.dem.drm c (f (d.drm c)) }
/-- Receiver of ensemble instance `n`. -/
def Dev.dabInst (d : Dev) (n : Nat) : DabInst := (tabGet d.dem.insts n).getD {}
/-- Change it. -/
def Dev.setDabInst (n : Nat) (f : DabInst → DabInst) (d : Dev) : Dev :=
  { d with dem.insts := tabSet d.dem.insts n (f (d.dabInst n)) }
/-- Members of instance `n`, by number. -/
def Dev.memberNums (d : Dev) (n : Nat) : List Nat := (d.trav.ctxs.filter fun x => x.2.inst == some n).map (·.1)
/-- Standard of context `c`, 0xFF untuned. -/
def Dev.stdOf (d : Dev) (c : Nat) : Nat := ((d.ctx? c).bind (·.tuning) |>.map (·.std)).getD 0xFF
/-- Present frequency of context `c`, kHz. -/
def Dev.freqOf (d : Dev) (c : Nat) : Nat := match d.ctx? c with
  | some x => match x.tuning with
    | some t => t.freq + x.scanAt * t.step
    | none => 0
  | none => 0

/-- The level byte of an entry or record (11 R318): twice the level above −20 dBµV, from tenths of a decibel. -/
def levelByte (l : Int) : Nat := (max 0 (min 255 (roundAway (l + 200) 5))).toNat
/-- A signed byte in half decibels from tenths of a decibel. -/
def halfDb (v : Int) : Nat := ((max (-128) (min 127 (roundAway v 5))) % 256).toNat

/-! ## Starting afresh -/

/-- Centre offset of a slot before a FAC names the occupancy (17 R476). -/
def searchOffset (std : Nat) : Int := if std = 3 then 5000 else 0

/-- Properties of context `c` as a window boundary takes them (14 R416). -/
def Dev.nbProps (d : Dev) (c : Nat) : NbProps :=
  { mu := d.ctxPropN c P.fmCmaMu, deemph := d.ctxPropN c P.fmDeemph, agc := d.ctxPropN c P.amAgcTc
    thresh := d.ctxPropN c P.amNbThresh, maxRate := d.ctxPropN c P.amNbMaxrate }

/-- The narrowband audio of context `c` is cut off (14 R393) and waits for a new release (14 R413). -/
def Dev.nbCut (c : Nat) (d : Dev) : Dev :=
  let e := { d with dem.nb := tabMod d.dem.nb c fun x => { x with dsp := x.dsp.cut d.now } }
  e.setCtx c fun x => { x with released := false }

/-- The demodulator and measurement of context `c` start afresh (12 R339, 13 R373): settings, selections and the last
check result are kept. -/
def Dev.demodCold (c : Nat) (d : Dev) : Dev :=
  let e := { d with
    dem.nb := tabMod d.dem.nb c fun x => { x with
      run := { bw := x.cfg.bw, eqOn := x.cfg.eq == 1 }, props := d.nbProps c
      dsp := { front := { bw := x.cfg.bw }, audio := x.dsp.audio, relAt := x.dsp.relAt, fadeAt := x.dsp.fadeAt : NbDsp }.cut d.now }
    dem.rds := tabMod d.dem.rds c fun x => { cfg := x.cfg, next := x.next }
    dem.dab := tabMod d.dem.dab c fun x => { figMask := x.figMask, figNext := x.figNext, sel := x.sel, selNext := x.selNext }
    dem.drm := tabMod d.dem.drm c fun x => { cfg := x.cfg, next := x.next, sel := x.sel, selNext := x.selNext }
    dem.meas := tabDel d.dem.meas c, dem.live := tabDel d.dem.live c }
  (e.setCtx c fun x => { x with
    occ := none, offset := searchOffset ((x.tuning.map (·.std)).getD 0), kbps := none }).motReset c
/-- The measurement of a CHECK or SCAN is discarded (13 R374). -/
def Dev.dropMeasure (c : Nat) (d : Dev) : Dev := { d with dem.meas := tabDel d.dem.meas c }

/-- What a DAB member keeps when its instance starts afresh. -/
def DabSt.cold (x : DabSt) : DabSt :=
  { x with res := none, failed := false, decode := none, restart := none, plus := none, sf := none, annos := [], follow := none, move := none }
/-- The OFDM unit of instance `n` starts afresh, and its database is empty (16 R451). -/
def Dev.instCold (n : Nat) (d : Dev) : Dev :=
  let e := { d with dem.insts := tabDel d.dem.insts n }
  (e.memberNums n).foldl (fun e c => { e with dem.dab := tabMod e.dem.dab c DabSt.cold }) e

/-- The slot of context `c` moved or changed its bank (14 R393, 15 R420): loops reacquire and the RDS decoder is reset. -/
def Dev.bankChanged (c : Nat) (d : Dev) : Dev :=
  let e := { d with
    dem.nb := tabMod d.dem.nb c fun x => { x with
      run.eqLow := 0, run.locked := false, run.lockRun := 0, run.afc := [], run.coarse := false
      dsp := { x.dsp with eq := {}, eqDue := false, pll := {}, search := [] } }
    dem.rds := tabMod d.dem.rds c fun x => { x with units := List.replicate 4 {}, part := none, lf := false } }
  e.nbCut c

/-- A retune applied: to another frequency it clears the service selections (16 R469, 17 R501). -/
def Dev.retuned (c oldFreq : Nat) (d : Dev) : Dev :=
  if oldFreq = 0 || d.freqOf c = oldFreq then d
  else { d with
    dem.dab := tabMod d.dem.dab c fun x => { x with sel := none }
    dem.drm := tabMod d.dem.drm c fun x => { x with sel := none } }

/-! ## Warm starts -/

/-- A park that began at `since` lasted no longer than the property of context `c`, in Rounds; 0 means never warm. -/
def Dev.warmWithin (d : Dev) (c prop since : Nat) : Bool :=
  let n := d.ctxPropN c prop
  n != 0 && decide (d.now - since ≤ n * roundTicks)

/-- `t` moved on by whole periods `p`, as far as `now`. -/
def extrapolate (t p now : Nat) : Nat := if now < t then t else t + (now - t) / p * p

/-- Transmission frame of a robustness mode, Rounds (17 R475). -/
def drmFrame (mode : Nat) : Nat := if mode = 4 then 800 else 3200

/-- A stream unit restored (15 R427, R428): the group it was in is discarded; a warm one checks the first two blocks at the
extrapolated positions. -/
def RdsUnit.restored (warm : Bool) (now : Nat) (u : RdsUnit) : RdsUnit :=
  if warm then { u with dsp := u.dsp.extrapolate now, blocks := [], verB := false, lost := false, warm := if u.sync.isSome then (2, 0) else (0, 0) }
  else {}

/-- A context with a demodulator of its own is restored after a park that began at `since`. -/
def Dev.ctxRestored (c since : Nat) (d : Dev) : Dev :=
  let rw := d.warmWithin c P.rdsWarmMax since
  let dw := d.warmWithin c P.drmWarmMax since
  { d with
    dem.nb := tabMod d.dem.nb c fun x => { x with
      props := d.nbProps c
      run := { x.run with locked := false, lockRun := 0, lowRun := 0, eqLow := 0, synch := false, afc := [], eqResets := 0, suspended := 0 }
      dsp := { x.dsp with sums := {}, resets := 0, search := [], eqDue := false : NbDsp }.cut d.now }
    dem.rds := tabMod d.dem.rds c fun x => { x with
      warm := rw, units := x.units.map (RdsUnit.restored rw d.now), part := if rw then x.part else none }
    dem.drm := tabMod d.dem.drm c fun x =>
      if dw then { x with
        warm := true, sync := if x.mode.isSome then 2 else 0, facMiss := 0, facs := [], dsp := {}
        frameTime := match x.mode with
          | some m => extrapolate x.frameTime (drmFrame m * roundTicks) d.now
          | none => x.frameTime }
      else { cfg := x.cfg, next := x.next, sel := x.sel, selNext := x.selNext, facBad := x.facBad, sdcBad := x.sdcBad
             auErr := x.auErr, lost := x.lost, resyncs := x.resyncs, alarm := x.alarm, alarmSid := x.alarmSid } }

/-- The offset at which a DRM30 context restored after a park that began at `since` takes its slot: the search offset unless
it starts warm (17 R476, R479). -/
def Dev.restoreOffset (d : Dev) (c : Nat) (x : CtxSt) : Int :=
  match x.park with
  | some p => if d.warmWithin c P.drmWarmMax p.since then x.offset else searchOffset ((x.tuning.map (·.std)).getD 0)
  | none => x.offset

/-- An ensemble instance restored after a park that began at `since` (16 R443): warm, or as from a dispatch without parked
state. -/
def Dev.instRestored (n anchor since : Nat) (d : Dev) : Dev :=
  if d.warmWithin anchor P.dabWarmMax since then
    d.setDabInst n fun x => { x with
      warm := true, sync := 1, cWritten := false, resids := [], dsp := {}, complete := false, nullSeen := true, nullMiss := 0, fibMiss := 0, fibs := []
      frameTime := extrapolate x.frameTime (768 * roundTicks) d.now }
  else
    let bad := (d.dabInst n).fibsBad
    let re := (d.dabInst n).resyncs
    (d.instCold n).setDabInst n fun x => { x with fibsBad := bad, resyncs := re }

/-! ## Check results -/

/-- The highest class of a list of classes, each with its conditions. -/
def highest (l : List (Nat × Bool)) : Nat := ((l.find? (·.2)).map (·.1)).getD 0

/-- Quality class of a measurement over `n` windows or frames (14 R411, 16 R467, 17 R499). -/
def qualityClass (std n : Nat) (q : Quality) : Nat :=
  let c := q.cnr
  let p := q.pct
  match std with
  | 0 => if n < 4 then 0 else highest [(7, decide (300 ≤ c) && decide (q.mpRes ≤ 100)), (6, decide (260 ≤ c) && decide (q.mpRes ≤ 150)),
      (5, decide (220 ≤ c) && decide (q.mpRes ≤ 200)), (4, decide (180 ≤ c) && decide (q.mpRes ≤ 300)),
      (3, decide (140 ≤ c) && decide (q.mpRes ≤ 400)), (2, decide (100 ≤ c)), (1, true)]
  | 1 => if n < 4 then 0 else highest [(7, decide (360 ≤ c)), (6, decide (320 ≤ c)), (5, decide (280 ≤ c)),
      (4, decide (240 ≤ c)), (3, decide (200 ≤ c)), (2, decide (140 ≤ c)), (1, true)]
  | 2 => if n = 0 then 0 else highest [(7, decide (99 ≤ p) && decide (180 ≤ c)), (6, decide (98 ≤ p) && decide (150 ≤ c)),
      (5, decide (95 ≤ p) && decide (120 ≤ c)), (4, decide (90 ≤ p) && decide (100 ≤ c)),
      (3, decide (80 ≤ p) && decide (80 ≤ c)), (2, decide (50 ≤ p)), (1, q.good)]
  | _ => if n = 0 then 0 else highest [(7, decide (99 ≤ p) && decide (200 ≤ c)), (6, decide (98 ≤ p) && decide (160 ≤ c)),
      (5, decide (95 ≤ p) && decide (130 ≤ c)), (4, decide (90 ≤ p) && decide (100 ≤ c)),
      (3, decide (80 ≤ p) && decide (80 ≤ c)), (2, decide (50 ≤ p)), (1, q.good)]

/-- Detail bytes of a check result (19 R526). -/
def checkDetail (std : Nat) (mode : Option Nat) (q : Quality) : List (Nat × Nat) :=
  match std with
  | 0 => [(2, halfDb q.cnr), (3, min 255 q.pct)]
  | 1 => [(2, halfDb q.cnr)]
  | 2 => [(1, halfDb q.cnr), (2, min 255 q.pct)]
  | _ => [(1, halfDb q.cnr), (2, min 255 q.pct)] ++ (match mode with | some m => [(0, m)] | none => [])

/-- A valid window or frame of context `c` enters the measurement of its dwell (13 R374), and the live metrics that its follow group takes
over an evaluation period (19 R544). -/
def Dev.measureBy (c : Nat) (f : Meas → Meas) (d : Dev) : Dev :=
  let check := (d.ctx? c).any fun x => x.kind == 8 || x.kind == 9
  let follows := d.follow.groups.any fun g => g.2.onAir == c || g.2.set.contains c
  let put (t : List (Nat × Meas)) : List (Nat × Meas) := tabSet t c (f ((tabGet t c).getD {}))
  { d with dem.meas := if check then put d.dem.meas else d.dem.meas, dem.live := if follows then put d.dem.live else d.dem.live }

/-- Offers of a check result (19 R529, R543): the identifiers it names, with their check kind. An FM result with a PI other
than the one expected counts as a miss of the expected one; the source bit of a check result is open in the spec (log 41). -/
def Dev.checkOffers (d : Dev) (c : Nat) (r : CheckRes) : List FbOffer :=
  let std := d.stdOf c
  let x := d.rds c
  let kind := if r.open_ then 3 else if r.cls = 0 then 2 else 1
  let some_ := r.m.n != 0
  let base : FbOffer :=
    { std := std, freq := d.freqOf c, source := Config.checkSource std % 7, check := kind
      cls := if r.open_ then none else some r.cls
      level := if some_ then some (levelByte r.m.q.level) else none
      detail := if some_ then checkDetail std (d.drm c).mode r.m.q else []
      input := d.inputOf c }
  match std with
  | 0 =>
    if x.piState = 1 then [{ base with id := x.conf, station := true }]
    else if x.piState = 2 then [{ base with id := x.cfg.pi, check := if r.open_ then 3 else 2 }] else [base]
  | 1 => [base]
  | 2 => [{ base with eid := if r.m.q.eid = 0 then none else some r.m.q.eid }]
  | _ => if r.m.q.sids.isEmpty then [base] else r.m.q.sids.map fun id => { base with id := id }

/-- The dwell of context `c` has ended: its check result is held and goes to the Field Book (13 R363, 14 R411). -/
def Dev.deliverCheck (c : Nat) (d : Dev) : Dev :=
  match d.ctx? c with
  | none => d
  | some x =>
    if x.kind != 8 && x.kind != 9 then d
    else
      let std := d.stdOf c
      let m0 := (tabGet d.dem.meas c).getD {}
      let eid := match x.inst with | some n => (d.dabInst n).eid | none => 0
      let m := if std = 2 && m0.n != 0 then { m0 with q.eid := eid } else m0
      let r : CheckRes := { m := m, cls := qualityClass std m.n m.q, open_ := decide (2 ≤ std) && m.n == 0, time := d.now % 2 ^ 32 }
      let e := (d.checkOffers c r).foldl (fun e o => e.offer o) { d with dem.checks := tabSet d.dem.checks c r }
      { e.dropMeasure c with follow.groups := e.follow.groups.map fun g =>
          if g.2.pool.contains c then
            (g.1, { g.2 with checks := satAdd 0xFFFFFFFF g.2.checks 1, checking := g.2.checking.filter (·.1 != c) })
          else g }

/-! ## Combined services and what a closing context releases -/

/-- Combined service `v` ends and its local branch slots are free (18 R516, R522). -/
def Dev.releaseService (v : Nat) (d : Dev) : Dev :=
  match tabGet d.comb.services v with
  | none => d
  | some x =>
    let e := (x.branches.drop 1).foldl (fun e b => match b.slot with
      | some n => e.stopSlot n
      | none => e) d
    { e with comb.services := tabDel e.comb.services v }
/-- The service that context `c` anchors ends. -/
def Dev.releaseAnchored (c : Nat) (d : Dev) : Dev :=
  ((d.comb.services.filter (·.2.anchor == c)).map (·.1)).foldl (fun d v => d.releaseService v) d

/-- Everything that hangs on context `c` is released as it closes (13 R380): its service, bindings, streams (23 R652), routes, places in follow
groups (a group whose on-air context closes is disarmed) and demodulator state. -/
def Dev.ctxGone (c : Nat) (d : Dev) : Dev :=
  let e := d.releaseAnchored c
  let keep (g : Nat × FollowGrp) : Bool := g.2.onAir != c
  { e with
    comb.acts := e.comb.acts.filter (·.anchor != some c)
    cl.streams := updWhere e.cl.streams (·.ctx == c) fun (x : StreamSt) => { x with closeDue := some d.now }
    data.binds := tabDel e.data.binds c
    data.acts := e.data.acts.filter fun a => match a.2 with
      | .bind k _ _ => k != c
      | _ => true
    audio.progs := e.audio.progs.map fun p => if p.src == some c then { p with src := none, ports := 0 } else p
    follow.groups := (e.follow.groups.filter keep).map fun g =>
      (g.1, { g.2 with set := g.2.set.filter (· != c), pool := g.2.pool.filter (· != c), checking := g.2.checking.filter (·.1 != c) })
    dem.nb := tabDel e.dem.nb c, dem.rds := tabDel e.dem.rds c, dem.dab := tabDel e.dem.dab c
    dem.drm := tabDel e.dem.drm c, dem.meas := tabDel e.dem.meas c, dem.live := tabDel e.dem.live c, dem.checks := tabDel e.dem.checks c }

end Sys2Proof.Machine
end

