-- ==== Sys2Proof/Machine/Traverse.lean ====
section
/-!
DEFINITION. Traverse (chapter 13): what a context needs, where it is placed (R361), withdrawal, pre-emption (R362),
ensemble instances (R366-R370), the ledger and admission (R354-R358), and the plan of a boundary (R359-R365).
-/
namespace Sys2Proof.Machine

/-! ## Order -/

/-- Lexicographic order of keys. -/
def lexLt : List Nat → List Nat → Bool
  | [], [] => false
  | [], _ :: _ => true
  | _ :: _, [] => false
  | a :: l, b :: m => a < b || (a == b && lexLt l m)
/-- Insert by a key. -/
def insertBy {α : Type} (key : α → List Nat) (a : α) : List α → List α
  | [] => [a]
  | b :: l => if lexLt (key a) (key b) then a :: b :: l else b :: insertBy key a l
/-- Sort by a key, the smallest first. -/
def sortBy {α : Type} (key : α → List Nat) (l : List α) : List α := l.foldr (insertBy key) []
/-- A number that falls as `v` rises, for descending keys. -/
def desc (v : Nat) : Nat := 2 ^ 80 - v

/-! ## Kinds (R348) -/

/-- The kind exists. -/
def kindKnown (k : Nat) : Bool := 1 ≤ k && k ≤ 0x0B
/-- The class is permitted for the kind. -/
def classPermitted (k : Nat) (fg : Bool) : Bool :=
  if k = 8 || k = 9 then !fg else if k = 5 || k = 6 || k = 7 || k = 0x0A then true else fg
/-- The standard suits the kind (R348, R382). -/
def kindTakes (k std : Nat) : Bool :=
  match k with
  | 0x01 | 0x07 => std == 0
  | 0x02 => std == 1
  | 0x03 | 0x05 | 0x0A => std == 2
  | 0x04 | 0x06 => std == 3 || std == 4
  | _ => std ≤ 4
/-- The context receives through an ensemble instance (R366). -/
def usesInst (k std : Nat) : Bool := std == 2 && k != 0x0B
/-- The kind decodes a subchannel or MSC stream. -/
def kindDecodes (k : Nat) : Bool := 3 ≤ k && k ≤ 6
/-- The kind has an audio decoder. -/
def kindAudio (k : Nat) : Bool := k == 3 || k == 4
/-- Deep Store pages beyond the park area (R348). -/
def furtherPages (k : Nat) : Nat := if k = 3 || k = 5 then 18 else if k = 4 || k = 6 then 40 else 0
/-- OFDM half units of a context with a slot of its own. -/
def kindHalves (k std : Nat) : Nat := if k = 0x0B then 0 else if std = 3 then 1 else if std = 4 then 2 else 0
/-- The context takes a narrowband channel. -/
def kindNb (k std : Nat) : Bool := std ≤ 1 && k != 0x0B

/-- Present frequency, kHz: the present channel of a SCAN. -/
def CtxSt.freq (x : CtxSt) : Nat := match x.tuning with
  | some t => t.freq + x.scanAt * t.step
  | none => 0
/-- Standard in force, 0xFF untuned. -/
def CtxSt.std (x : CtxSt) : Nat := (x.tuning.map (·.std)).getD 0xFF
/-- It receives through an instance. -/
def CtxSt.dab (x : CtxSt) : Bool := usesInst x.kind x.std
/-- It waits for a dispatch: READY or PARKED. -/
def CtxSt.waits (x : CtxSt) : Bool := x.state == .ready || x.state == .parked
/-- Code of a state (R352). -/
def CtxState.code : CtxState → Nat
  | .opened => 1 | .ready => 2 | .running => 3 | .parked => 4 | .halted => 5
/-- Pages charged to a context (R348, R376). -/
def CtxSt.pages (x : CtxSt) : Nat := 4 + (if x.tuning.isSome then furtherPages x.kind else 0)

/-! ## Inputs and resources -/

/-- The input that a tuning takes: the lowest-numbered live one permitted, whose segment holds the frequency (R361). -/
def Dev.inputFor (d : Dev) (mask f : Nat) : Option Nat :=
  match segmentOf f with
  | none => none
  | some n => (bitsOf 4 mask).find? fun i => i < d.nInputs && d.segLive (4 * i + n) && !d.segLeaving (4 * i + n)

/-- Members of instance `n`. -/
def Dev.members (d : Dev) (n : Nat) : List (Nat × CtxSt) := d.trav.ctxs.filter fun x => x.2.inst == some n
/-- Instance `n` is foreground (R367). -/
def Dev.instFg (d : Dev) (n : Nat) : Bool := (d.members n).any (·.2.fg)
/-- Priority of instance `n` (R351). -/
def Dev.instPrio (d : Dev) (n : Nat) : Nat := (d.members n).foldl (fun p x => max p x.2.prio) 0

/-- What a slot serves is foreground. -/
def Dev.userFg (d : Dev) : SlotUser → Bool
  | .ctx c => (d.ctx? c).any (·.fg)
  | .inst n => d.instFg n
  | .branch _ _ => true
/-- Slot `n` is held by foreground. -/
def Dev.slotFg (d : Dev) (n : Nat) : Bool := match (d.slot n).user with
  | some u => d.userFg u
  | none => false
/-- Slot `n` is free for Traverse's use (R347). -/
def Dev.slotFree (d : Dev) (n : Nat) : Bool :=
  (d.slot n).user.isNone && !(d.slot n).excluded && (d.slot n).pin.isNone
/-- A slot whose shadow bank still holds the state of an earlier boundary is not offered for a restore (R372). -/
def Dev.slotOffered (d : Dev) (restore : Bool) (n : Nat) : Bool :=
  d.slotFree n && !(restore && d.trav.parking.any fun p => p.2.1 == n && p.2.2 < d.now)

/-- Foreground slots of filter engine `e`. -/
def Dev.engineFg (d : Dev) (e : Nat) : Nat := ((List.range 8).filter fun p => d.slotFg (8 * e + p)).length
/-- The free slot that R361 names. -/
def Dev.freeSlot (d : Dev) (fg restore : Bool) : Option Nat :=
  let free := (List.range d.nSlots).filter (d.slotOffered restore)
  if fg then minBy (fun n => d.engineFg (n / 8) * 64 + n) free else free.head?

/-- Narrowband channels in use. -/
def Dev.nbUsed (d : Dev) : List Nat := d.trav.ctxs.filterMap (·.2.nb)
/-- The narrowband channel that R361 names, 24 on each demodulator. -/
def Dev.freeNb (d : Dev) : Option Nat :=
  let used := d.nbUsed
  let count (u : Nat) : Nat := (used.filter (· / 24 == u)).length
  let u := if count 1 < count 0 then 1 else 0
  ((List.range 24).map (24 * u + ·)).find? fun k => !used.contains k
/-- OFDM half units in use; an instance takes both halves of its unit. -/
def Dev.halvesUsed (d : Dev) : List Nat :=
  d.trav.ctxs.flatMap (·.2.halves)
    ++ d.trav.insts.flatMap fun x => match x.2.unit with | some u => [2 * u, 2 * u + 1] | none => []
/-- A free half unit in the lowest-numbered engine with room, beside an occupied half if there is one (R361, R36). -/
def Dev.freeHalf (d : Dev) : Option Nat :=
  let used := d.halvesUsed
  let free := (List.range 32).filter fun h => !used.contains h
  let other (h : Nat) : Nat := if h % 2 = 0 then h + 1 else h - 1
  minBy (fun h => (h / 8) * 128 + (if used.contains (other h) then 0 else 64) + h) free
/-- A whole free unit in the lowest-numbered engine with room. -/
def Dev.freeUnit (d : Dev) : Option Nat :=
  let used := d.halvesUsed
  (List.range 16).find? fun u => !used.contains (2 * u) && !used.contains (2 * u + 1)
/-- The half units for `n` halves. -/
def Dev.freeHalves (d : Dev) (n : Nat) : Option (List Nat) :=
  if n = 0 then some [] else if n = 1 then d.freeHalf.map fun h => [h]
  else d.freeUnit.map fun u => [2 * u, 2 * u + 1]
/-- Decodes in use. -/
def Dev.decodesUsed (d : Dev) : Nat := (d.trav.ctxs.filter (·.2.decode)).length
/-- A free audio decoder (20 R556). -/
def Dev.freeAdec (d : Dev) : Option Nat :=
  (List.range 4).find? fun a => !d.trav.ctxs.any fun x => x.2.adec == some a
/-- Local branches hold slots as combined services do (18 R507). -/
def Dev.branchSlots (d : Dev) : Nat := (d.chan.slots.filter fun x => match x.user with | some (.branch _ _) => true | _ => false).length

/-! ## Events (R389) -/

/-- cond of CTX_STATUS (R384). -/
def Dev.ctxCond (d : Dev) (c : Nat) (x : CtxSt) : Nat :=
  let seg := (d.slotOf c).map fun n => (d.slot n).seg
  bit ((d.inputOf c).any d.calHolds) + 2 * bit (seg.any fun s => s % 4 == 3 && d.loIsLost)
    + 4 * bit (match x.tuning with | some t => (d.inputFor t.inputs x.freq).isNone | none => false)
    + 8 * bit x.closing.isSome + 16 * bit x.park.isSome
    + 32 * bit (x.park.any (·.partialM) || (x.state == .running && x.partialM))
    + 64 * bit (d.chan.slots.any (SlotSt.pinnedTo · c))

/-- CTX_STATE (R389): for a foreground context, for any cause but dispatch and rotation, or while P.CTX_EVT_ROTATE is 1. -/
def Dev.ctxEvent (c old new cause : Nat) (d : Dev) : Dev :=
  match d.ctx? c with
  | none => d
  | some x =>
    d.onlyIf (x.fg || !(cause == 1 || cause == 2) || d.prop P.ctxEvtRotate == 1) <| Dev.raise 64 c
      (u8 old ++ u8 new ++ u8 cause ++ u8 ((d.slotOf c).getD 0xFF) ++ u8 ((d.inputOf c).getD 0xFF) ++ u8 (d.ctxCond c x))

/-- Context `c` goes to state `new` (R352): the wait of READY and PARKED begins. -/
def Dev.ctxTo (c : Nat) (new : CtxState) (cause : Nat) (d : Dev) : Dev :=
  match d.ctx? c with
  | none => d
  | some x =>
    let old := x.evOld.getD x.state
    let waits := new == .ready || new == .parked
    let e := d.setCtx c fun x => { x with
      state := new, since := d.now, evOld := none
      waitFrom := if waits then some d.now else none, starved := false
      released := x.released && new == .running, dec := if new == .running && x.state == .running then x.dec else {} }
    (e.ctxEvent c old.code new.code cause).audioSync

/-! ## Instances (R366-R370) -/

/-- Instance `n` after its members changed: its anchor is the lowest-numbered one, its inputs those that all permit;
without members it is released. -/
def Dev.instRefresh (n : Nat) (d : Dev) : Dev :=
  match d.members n with
  | [] =>
    let e := match (d.inst? n).bind (·.slot) with | some s => d.stopSlot s | none => d
    ({ e with trav.insts := tabDel e.trav.insts n }).instCold n
  | l => d.setInst n fun x => { x with
      anchor := (l.map (·.1)).foldl min 0xFF
      inputs := l.foldl (fun m y => m &&& ((y.2.tuning.map (·.inputs)).getD 15)) 15 }

/-- Dwell of a background context, Rounds (R363). -/
def Dev.dwellOf (d : Dev) (kind : Nat) : Nat :=
  d.propN (if kind = 8 then P.dwellCheck else if kind = 9 then P.dwellScan else P.dwellBg)

/-- Context `c` leaves its instance (R368); when the last foreground member leaves, the dwell of the instance begins. -/
def Dev.leaveInst (c : Nat) (d : Dev) : Dev :=
  match (d.ctx? c).bind (·.inst) with
  | none => d
  | some n =>
    let wasFg := d.instFg n
    let e := d.setCtx c fun x => { x with inst := none }
    let e := e.onlyIf (wasFg && !e.instFg n) (Dev.setInst n fun x => { x with
      dwellEnd := if x.running then some (d.now + d.propN P.dwellBg * roundTicks) else none })
    e.instRefresh n

/-- Context `c`, tuned to a DAB frequency, joins the instance of that frequency whose input it permits, or creates one at
the lowest free number (R366); none is free where 16 exist (DEDUCED log 32). -/
def Dev.joinInst (c : Nat) (d : Dev) : Dev :=
  match d.ctx? c with
  | none => d
  | some x =>
    let mask := (x.tuning.map (·.inputs)).getD 0
    let suits (y : InstSt) : Bool := y.freq == x.freq &&
      (match y.input with | some i => hasBit mask i && y.running | none => mask &&& y.inputs != 0)
    match d.trav.insts.find? fun y => suits y.2 with
    | some (n, _) => (d.setCtx c fun x => { x with inst := some n }).instRefresh n
    | none =>
      match (List.range 16).find? fun n => (d.inst? n).isNone with
      | none => d
      | some n =>
        let y : InstSt := { freq := x.freq, inputs := mask, anchor := c, waitFrom := some d.now }
        { d.setCtx c fun x => { x with inst := some n } with trav.insts := tabSet d.trav.insts n y }

/-! ## Placement (R361) -/

/-- Slot pinned for context `c`, with its bank. -/
def Dev.pinOf (d : Dev) (c : Nat) : Option (Nat × Nat) :=
  (indexed d.chan.slots).findSome? fun (n, s) => match s.pin with
    | some (k, b) => if k = c then some (n, b) else none
    | none => none
/-- The pin of an entity: its own, or one of its instance's members. -/
def Dev.entPin (d : Dev) : Ent → Option (Nat × Nat)
  | .ctx c => d.pinOf c
  | .inst n => (d.members n).findSome? fun x => d.pinOf x.1
  | .mem _ => none

/-- The slot an entity takes: its pinned one where that is free, else a preferred free one, else that of R361. -/
def Dev.slotFor (d : Dev) (e : Ent) (fg restore : Bool) (prefer : Option Nat) : Option Nat :=
  match d.entPin e with
  | some (n, _) => if (d.slot n).user.isNone then some n else none
  | none => match prefer with
    | some n => if d.slotFree n then some n else d.freeSlot fg restore
    | none => d.freeSlot fg restore

/-- The bank of an entity's slot: the pin's, or the factory bank of the standard (12 R331). -/
def Dev.bankFor (d : Dev) (e : Ent) (std : Nat) : Nat :=
  match d.entPin e with
  | some (_, b) => if b = 0xFF then stdBank std else b
  | none => stdBank std

/-- Dwell that a dispatched background context runs, and whether its measurement continues (R363, R374) (DEDUCED log 33). -/
def Dev.dwellAt (d : Dev) (x : CtxSt) : Nat × Bool :=
  match x.park with
  | some p =>
    if x.kind = 8 && p.partialM && (d.now - p.since) ≤ d.propN P.checkResumeMax * roundTicks
    then (p.dwellLeft, true) else (d.dwellOf x.kind, false)
  | none => (d.dwellOf x.kind, false)

/-- Context `c` is dispatched: its dwell starts, and a measurement that may not continue is discarded (R374). -/
def Dev.ctxRuns (c cause : Nat) (d : Dev) : Dev :=
  match d.ctx? c with
  | none => d
  | some x =>
    let (dwell, goesOn) := d.dwellAt x
    let e := d.setCtx c fun x => { x with
      dispatched := d.now, dispatches := satAdd 0xFFFF x.dispatches 1, park := none, partialM := goesOn
      dwellDone := false, dwellEnd := if x.fg then none else some (d.now + dwell * roundTicks) }
    let e := e.onlyIf (!goesOn) (Dev.dropMeasure c)
    let e := match x.park with
      | some p => e.ctxRestored c p.since
      | none => e.demodCold c
    e.ctxTo c .running cause

/-- Decode and audio decoder of a member or DRM context are free. -/
def Dev.decodeFree (d : Dev) (kind : Nat) : Bool :=
  (!kindDecodes kind || d.decodesUsed < 32) && (!kindAudio kind || d.freeAdec.isSome)

/-- A member of a running instance takes its decode and runs (R366). -/
def Dev.placeMember (c : Nat) (d : Dev) : Option Dev :=
  match d.ctx? c with
  | none => none
  | some x =>
    if x.waits && (x.inst.bind d.inst?).any (·.running) && d.decodeFree x.kind then
      some ((d.setCtx c fun x => { x with
        decode := kindDecodes x.kind, adec := if kindAudio x.kind then d.freeAdec else none }).ctxRuns c 1)
    else none

/-- A context with a slot of its own is dispatched (R361); none where an input or resource lacks. -/
def Dev.placeCtx (c : Nat) (prefer : Option Nat) (d : Dev) : Option Dev :=
  match d.ctx? c with
  | none => none
  | some x => match x.tuning with
    | none => none
    | some t =>
      let std := t.std
      if !x.waits || x.dab || !d.decodeFree x.kind then none
      else
        match d.inputFor t.inputs x.freq, segmentOf x.freq, d.slotFor (.ctx c) x.fg x.park.isSome prefer,
          d.freeHalves (kindHalves x.kind std) with
        | some i, some n, some s, some hs =>
          let nb := if kindNb x.kind std then d.freeNb else none
          if kindNb x.kind std && nb.isNone then none
          else
            let off := d.restoreOffset c x
            let e := d.startSlot s (.ctx c) (4 * i + n) (tunedWord n x.freq off) (d.bankFor (.ctx c) std)
              ((x.park.map (·.c)).getD 0)
            let e := match x.park with
              | some p => e.restoreSlot s p
              | none => e
            some ((e.setCtx c fun x => { x with
              slot := some s, input := some i, offset := off, nb := nb, halves := hs, decode := kindDecodes x.kind
              adec := if kindAudio x.kind then d.freeAdec else none }).ctxRuns c 1)
        | _, _, _, _ => none

/-- An ensemble instance is dispatched, and every member that finds its decode runs, foreground ones first (R361, R370). -/
def Dev.placeInst (n : Nat) (prefer : Option Nat) (d : Dev) : Option Dev :=
  match d.inst? n with
  | none => none
  | some y =>
    if y.running then none
    else
      match d.inputFor y.inputs y.freq, segmentOf y.freq, d.slotFor (.inst n) (d.instFg n) y.park.isSome prefer,
        d.freeUnit with
      | some i, some k, some s, some u =>
        let anchorKind := ((d.ctx? y.anchor).map (·.kind)).getD 0
        let e := d.startSlot s (.inst n) (4 * i + k) (tunedWord k y.freq 0) (d.bankFor (.inst n) 2)
          ((y.park.map (·.c)).getD 0)
        let e := match y.park with
          | some p => e.restoreSlot s p
          | none => e
        let e := (e.setInst n fun y => { y with
          running := true, input := some i, slot := some s, unit := some u, dispatched := d.now, waitFrom := none
          park := none
          dwellEnd := if d.instFg n then none else some (d.now + d.dwellOf anchorKind * roundTicks) })
        let e := match y.park with
          | some p => e.instRestored n y.anchor p.since
          | none => e.instCold n
        let order := sortBy (fun (x : Nat × CtxSt) => [bit (!x.2.fg), x.1]) (d.members n)
        some (order.foldl (fun e x => (e.placeMember x.1).getD e) e)
      | _, _, _, _ => none

/-- Place an entity; none where an input or a resource lacks. -/
def Dev.place (e : Ent) (prefer : Option Nat) (d : Dev) : Option Dev :=
  match e with
  | .ctx c => d.placeCtx c prefer
  | .inst n => d.placeInst n prefer
  | .mem c => d.placeMember c

/-! ## Withdrawal -/

/-- What the dwell of a context has left, in Rounds: a Round that runs counts until its end (R363; DEDUCED log 69). -/
def CtxSt.dwellLeft (x : CtxSt) (now : Nat) : Nat := match x.dwellEnd with
  | some t => (t - now + roundTicks - 1) / roundTicks
  | none => (x.park.map (·.dwellLeft)).getD 0

/-- The slot state of slot `s` goes into the parked state (R373, 12 R339). -/
def Dev.keepSlot (d : Dev) (s : Option Nat) (p : ParkSt) : ParkSt := match s with
  | some n => { p with c := (d.slot n).c, dsp := (d.slot n).dsp, es := (d.slot n).es }
  | none => p

/-- Context `c` releases its engines: parked, or its state discarded (R373). -/
def Dev.ctxOut (c cause : Nat) (park : Bool) (d : Dev) : Dev :=
  match d.ctx? c with
  | none => d
  | some x =>
    let left := x.dwellLeft d.now
    let p := d.keepSlot x.slot { since := d.now, dwellLeft := left, partialM := x.kind == 8 && left != 0, c := 0 }
    let e := match x.slot with
      | some s => { d.stopSlot s with trav.parking := if park then d.trav.parking ++ [(c, s, d.now)] else d.trav.parking }
      | none => d
    let e := e.setCtx c fun x => { x with
      slot := none, input := none, nb := none, halves := [], decode := false, adec := none, released := false
      dwellEnd := none, park := if park then some p else none }
    (e.onlyIf (!park) (Dev.demodCold c)).ctxTo c (if park then .parked else .ready) cause

/-- Instance `n` is withdrawn whole, with all its members (R370). -/
def Dev.instOut (n cause : Nat) (park : Bool) (d : Dev) : Dev :=
  match d.inst? n with
  | none => d
  | some y =>
    let p := d.keepSlot y.slot { since := d.now, dwellLeft := 0, partialM := false, c := 0 }
    let e := ((d.members n).filter (·.2.state == .running)).foldl (fun e x => e.ctxOut x.1 cause park) d
    let e := match y.slot with
      | some s => { e.stopSlot s with trav.parking := if park then e.trav.parking ++ [(y.anchor, s, d.now)] else e.trav.parking }
      | none => e
    (e.onlyIf (!park) (Dev.instCold n)).setInst n fun y => { y with
      running := false, slot := none, unit := none, input := none, dwellEnd := none, waitFrom := some d.now
      park := if park then some p else none }

/-- Withdraw an entity, parking it (R370, R373). -/
def Dev.withdraw (e : Ent) (cause : Nat) (d : Dev) : Dev :=
  match e with
  | .ctx c => d.ctxOut c cause true
  | .mem c => d.ctxOut c cause true
  | .inst n => d.instOut n cause true

/-- Contexts that an entity stands for and that run. -/
def Dev.entCtxs (d : Dev) : Ent → List Nat
  | .ctx c => [c]
  | .mem c => [c]
  | .inst n => ((d.members n).filter (·.2.state == .running)).map (·.1)

/-- CTX_PREEMPTED for context `c` as it stood in `before` (R389). -/
def Dev.preemptEvent (c by_ resource result : Nat) (before d : Dev) : Dev :=
  match before.ctx? c with
  | none => d
  | some x => d.raise 65 c (u8 by_ ++ u8 resource ++ u8 result ++ u8 0 ++ u16 ((d.now - x.dispatched) / roundTicks)
      ++ u16 (x.dwellLeft d.now))

/-- A victim of pre-emption is withdrawn (R362) (DEDUCED log 36). -/
def Dev.preempt (e : Ent) (by_ resource : Nat) (d : Dev) : Dev :=
  let cs := d.entCtxs e
  let d1 := cs.foldl (fun d c => (Dev.preemptEvent c by_ resource 0 d d).setCtx c fun x =>
    { x with preemptions := satAdd 0xFFFF x.preemptions 1 }) d
  (({ d1 with trav.preemptions := satAdd 0xFFFFFFFF d1.trav.preemptions cs.length }).withdraw e 3)

/-! ## Entities of the plan -/

/-- Number of an entity in orders: the context, or the instance's anchor. -/
def Dev.entNum (d : Dev) : Ent → Nat
  | .ctx c => c
  | .mem c => c
  | .inst n => ((d.inst? n).map (·.anchor)).getD 0
/-- Priority of an entity. -/
def Dev.entPrio (d : Dev) : Ent → Nat
  | .ctx c => ((d.ctx? c).map (·.prio)).getD 0
  | .mem c => ((d.ctx? c).map (·.prio)).getD 0
  | .inst n => d.instPrio n
/-- Wait start of an entity. -/
def Dev.entWait (d : Dev) : Ent → Nat
  | .ctx c => ((d.ctx? c).bind (·.waitFrom)).getD 0
  | .mem c => ((d.ctx? c).bind (·.waitFrom)).getD 0
  | .inst n => ((d.inst? n).bind (·.waitFrom)).getD 0
/-- Dispatch time of an entity. -/
def Dev.entDispatched (d : Dev) : Ent → Nat
  | .ctx c => ((d.ctx? c).map (·.dispatched)).getD 0
  | .mem c => ((d.ctx? c).map (·.dispatched)).getD 0
  | .inst n => ((d.inst? n).map (·.dispatched)).getD 0
/-- Boundary at which the dwell of an entity ends. -/
def Dev.entEnd (d : Dev) : Ent → Option Nat
  | .ctx c => (d.ctx? c).bind (·.dwellEnd)
  | .mem c => (d.ctx? c).bind (·.dwellEnd)
  | .inst n => (d.inst? n).bind (·.dwellEnd)
/-- The entity has parked state to restore. -/
def Dev.entParked (d : Dev) : Ent → Bool
  | .ctx c => ((d.ctx? c).bind (·.park)).isSome
  | .mem c => ((d.ctx? c).bind (·.park)).isSome
  | .inst n => ((d.inst? n).bind (·.park)).isSome

/-- The entity's state leaves its engines at this very boundary, so that nothing of it can be restored yet (R372). -/
def Dev.entLeaves (d : Dev) (e : Ent) : Bool :=
  let park := match e with
    | .ctx c => (d.ctx? c).bind (·.park)
    | .mem c => (d.ctx? c).bind (·.park)
    | .inst n => (d.inst? n).bind (·.park)
  park.any (·.since == d.now)

/-- Entities that wait for a dispatch, of one class (R360). -/
def Dev.waitingEnts (d : Dev) (fg : Bool) : List Ent :=
  (d.trav.ctxs.filter fun x => x.2.fg == fg && x.2.waits && !x.2.dab && x.2.tuning.isSome).map (fun x => Ent.ctx x.1)
    ++ (d.trav.insts.filter fun x => !x.2.running && d.instFg x.1 == fg).map (fun x => Ent.inst x.1)
    ++ (d.trav.ctxs.filter fun x => x.2.fg == fg && x.2.waits && x.2.dab && (x.2.inst.bind d.inst?).any (·.running)).map
        (fun x => Ent.mem x.1)

/-- A calibration holds the entity's input, so that Traverse keeps it in its slot (10 R288). -/
def Dev.entHeld (d : Dev) : Ent → Bool
  | .ctx c => (d.inputOf c).any d.calHolds
  | .mem c => (d.inputOf c).any d.calHolds
  | .inst n => ((d.inst? n).bind (·.input)).any d.calHolds

/-- RUNNING background entities that Traverse may withdraw (R360, R370, 10 R288). -/
def Dev.bgRunning (d : Dev) : List Ent :=
  List.filter (fun e => !d.entHeld e) <| (d.trav.ctxs.filter fun x => !x.2.fg && x.2.state == .running && !x.2.dab).map (fun x => Ent.ctx x.1)
    ++ (d.trav.insts.filter fun x => x.2.running && !d.instFg x.1).map (fun x => Ent.inst x.1)
    ++ (d.trav.ctxs.filter fun x => !x.2.fg && x.2.state == .running && x.2.dab && x.2.decode
          && x.2.inst.any d.instFg).map (fun x => Ent.mem x.1)

/-- Input and frequency of an entity have a permitted live input. -/
def Dev.entInput (d : Dev) : Ent → Bool
  | .ctx c => (d.ctx? c).any fun x => (x.tuning.bind fun t => d.inputFor t.inputs x.freq).isSome
  | .mem _ => true
  | .inst n => (d.inst? n).any fun y => (d.inputFor y.inputs y.freq).isSome

/-- Resources that an entity lacks now (R389 codes): slot, narrowband channel, OFDM unit, decode. -/
def Dev.lacks (d : Dev) (e : Ent) : List Nat :=
  let res (slot nb ofdm dec : Bool) : List Nat :=
    (if slot then [0] else []) ++ (if nb then [1] else []) ++ (if ofdm then [2] else []) ++ (if dec then [3] else [])
  match e with
  | .ctx c => match d.ctx? c with
    | some x => res (d.slotFor e x.fg x.park.isSome none).isNone (kindNb x.kind x.std && d.freeNb.isNone)
        (d.freeHalves (kindHalves x.kind x.std)).isNone (!d.decodeFree x.kind)
    | none => []
  | .inst n => res (d.slotFor e (d.instFg n) ((d.inst? n).any (·.park.isSome)) none).isNone false d.freeUnit.isNone false
  | .mem c => match d.ctx? c with
    | some x => res false false false (!d.decodeFree x.kind)
    | none => []

/-- An entity holds a resource of a kind. -/
def Dev.holds (d : Dev) (e : Ent) (r : Nat) : Bool :=
  match e, r with
  | .inst _, 0 => true
  | .inst _, 2 => true
  | .inst n, 3 => (d.members n).any (·.2.decode)
  | .ctx c, 0 => ((d.ctx? c).bind (·.slot)).isSome
  | .ctx c, 1 => ((d.ctx? c).bind (·.nb)).isSome
  | .ctx c, 2 => (d.ctx? c).any fun x => !x.halves.isEmpty
  | .ctx c, 3 => (d.ctx? c).any (·.decode)
  | .mem c, 3 => (d.ctx? c).any (·.decode)
  | _, _ => false

/-- Slot of an entity. -/
def Dev.entSlot (d : Dev) : Ent → Option Nat
  | .ctx c => (d.ctx? c).bind (·.slot)
  | .inst n => (d.inst? n).bind (·.slot)
  | .mem _ => none

/-- Pre-emption for a foreground entity (R362): victims by priority ascending, latest dispatch first, number descending,
until it can be placed. Gives the victims taken, each with the resource it was taken for, and the state with it placed
(DEDUCED log 35). -/
def Dev.preemptLoop (e : Ent) : Nat → List (Ent × Nat) → Option Nat → Dev → Option (List (Ent × Nat) × Dev)
  | 0, _, _, _ => none
  | fuel + 1, taken, prefer, d =>
    match d.place e prefer with
    | some d1 => some (taken, d1)
    | none =>
      let lack := d.lacks e
      let helps (v : Ent) : Option Nat := lack.find? (d.holds v)
      let victims := sortBy (fun v => [d.entPrio v, desc (d.entDispatched v), desc (d.entNum v)])
        (d.bgRunning.filter fun v => (helps v).isSome)
      match victims with
      | [] => none
      | v :: _ =>
        let r := (helps v).getD 0
        let slot := if r = 0 then d.entSlot v else prefer
        (d.preempt v (d.entNum e) r).preemptLoop e fuel (taken ++ [(v, r)]) slot

/-! ## Changes that apply at a boundary (R353, R380-R385) -/

/-- A tuning that leaves a PARKED context on its frequency, so that its parked state stays (R373). -/
def CtxSt.keepsPark (x : CtxSt) (t : Tuning) : Bool := x.state == .parked && x.std == t.std && x.freq == t.freq

/-- A PARKED context is tuned to its own frequency: its inputs and list change and its measurement is discarded (R373, R383); a member
of an instance that the new inputs do not suit joins another (R366). -/
def Dev.applyRetuneParked (c : Nat) (t : Tuning) (x : CtxSt) (d : Dev) : Dev :=
  let e := (d.setCtx c fun x => { x with
    tuning := some t, scanAt := 0, dwellDone := false, park := x.park.map fun p => { p with partialM := false } }).dropMeasure c
  match x.inst with
  | none => e
  | some n =>
    if (d.members n).all fun y => y.1 == c || ((y.2.tuning.map (·.inputs)).getD 15) &&& t.inputs != 0 then e.instRefresh n
    else (e.leaveInst c).joinInst c

/-- A retune applied (R383): on the same segment of its input the slot keeps and takes the new W; otherwise the context is
withdrawn, or leaves its instance for another. -/
def Dev.applyTune (c : Nat) (t : Tuning) (cause : Nat) (d : Dev) : Dev :=
  match d.ctx? c with
  | none => d
  | some x =>
    if x.keepsPark t then d.applyRetuneParked c t x
    else
    let offset : Int := if t.std = 3 then 5000 else 0
    let set (d : Dev) : Dev := d.setCtx c fun x => { x with
      tuning := some t, scanAt := 0, offset := offset, park := none, kbps := none, partialM := false, dwellDone := false }
    let same := x.state == .running && !x.dab && !usesInst x.kind t.std && x.std == t.std
      && (match x.input, segmentOf t.freq, x.slot with
          | some i, some n, some s => hasBit t.inputs i && (d.slot s).seg == 4 * i + n
          | _, _, _ => false)
    if same then
      let n := (segmentOf t.freq).getD 0
      let e := set d
      let e := match x.slot, x.input with
        | some s, some i => e.retuneSlot s (4 * i + n) (tunedWord n t.freq offset)
        | _, _ => e
      (((e.setCtx c fun x => { x with
        released := false, dec := {}
        dwellEnd := if x.fg then none else some (d.now + d.dwellOf x.kind * roundTicks) }).demodCold c).retuned c x.freq).audioSync
    else
      let old := x.state
      let e := d.onlyIf (x.state == .running) (Dev.ctxOut c cause false)
      let e := ((set (e.leaveInst c)).demodCold c).retuned c x.freq
      let e := e.setCtx c fun x => { x with
        state := if x.state == .opened || x.state == .parked then .ready else x.state
        evOld := if old == .opened then some .opened else x.evOld
        waitFrom := if x.waitFrom.isSome then x.waitFrom else some d.now, since := d.now }
      if usesInst x.kind t.std then e.joinInst c else e

/-- A close applied (R380): the context is CLOSED and everything it held is released. CTX_STATE shows it with nothing held
(R352) (DEDUCED log 37). -/
def Dev.applyClose (c : Nat) (d : Dev) : Dev :=
  match d.ctx? c with
  | none => d
  | some x =>
    let e := match x.slot with | some s => d.stopSlot s | none => d
    let e := { e with
      chan.slots := e.chan.slots.map (SlotSt.unpin c)
      chan.pins := e.chan.pins.filter fun p => !(p.action == 2 && p.ctx == c) }
    let e := ((e.setCtx c fun x => { x with slot := none, input := none, park := none }).leaveInst c).ctxEvent c x.state.code 0 0
    let e := { e with
      trav.ctxs := tabDel e.trav.ctxs c
      trav.acts := e.trav.acts.filter (·.ctx != c)
      trav.parking := e.trav.parking.filter (·.1 != c)
      proto.ctxProps := tabDel e.proto.ctxProps c }
    ((e.demodCold c).ctxGone c).audioSync

/-- A suspend applied (R385): the context is HALTED, a RUNNING one parked, and its grants are released. -/
def Dev.applySuspend (c : Nat) (d : Dev) : Dev :=
  match d.ctx? c with
  | none => d
  | some x =>
    let park := x.state == .running
    let p := d.keepSlot x.slot { since := d.now, dwellLeft := x.dwellLeft d.now, partialM := false, c := 0 }
    let d := d.releaseAnchored c
    let e := match x.slot with
      | some s => { d.stopSlot s with trav.parking := d.trav.parking ++ [(c, s, d.now)] }
      | none => d
    let e := e.leaveInst c
    let e := e.setCtx c fun x => { x with
      slot := none, input := none, nb := none, halves := [], decode := false, adec := none, dwellEnd := none
      park := if park then some p else x.park }
    e.ctxTo c .halted 0

/-- A resume applied (R385). -/
def Dev.applyResume (c : Nat) (d : Dev) : Dev :=
  match d.ctx? c with
  | none => d
  | some x =>
    if x.state != .halted then d
    else
      let e := d.ctxTo c (if x.tuning.isNone then .opened else if x.park.isSome then .parked else .ready) 0
      if x.dab then e.joinInst c else e

/-- A class or priority change applied (R381): a context that becomes background keeps running, its dwell starting. -/
def Dev.applyConfig (c : Nat) (fg : Bool) (prio : Nat) (d : Dev) : Dev :=
  match d.ctx? c with
  | none => d
  | some x =>
    let wasFg := x.inst.any d.instFg
    let e := d.setCtx c fun x => { x with
      fg := fg, prio := prio
      dwellEnd := if fg then none else if x.fg && x.state == .running then some (d.now + d.dwellOf x.kind * roundTicks) else x.dwellEnd }
    match x.inst with
    | none => e
    | some n => e.setInst n fun y => { y with
        dwellEnd := if e.instFg n then none
          else if wasFg && y.running then some (d.now + d.propN P.dwellBg * roundTicks) else y.dwellEnd }

/-- One scheduled change applied. -/
def Dev.applyAct (a : CtxSched) (d : Dev) : Dev :=
  match a.act with
  | .close => d.applyClose a.ctx
  | .suspend => d.applySuspend a.ctx
  | .resume => d.applyResume a.ctx
  | .tune t => d.applyTune a.ctx t a.cause
  | .config fg prio => d.applyConfig a.ctx fg prio

/-- Every scheduled change whose boundary has come, in sequence-index order. -/
def Dev.applyActs (d : Dev) : Dev :=
  let due := d.trav.acts.filter (·.due ≤ d.now)
  due.foldl (fun d a => d.applyAct a) { d with trav.acts := d.trav.acts.filter (d.now < ·.due) }

/-! ## Pins (12 R347) -/

/-- A context pinned to slot `n` that runs elsewhere moves there (R339): a new slot, its filter state cleared. -/
def Dev.moveToPin (n c bank : Nat) (d : Dev) : Dev :=
  match d.slotOf c with
  | none => d
  | some s =>
    let x := d.slot s
    let b := if bank = 0xFF then (match d.ctx? c with | some y => stdBank y.std | none => x.bank) else bank
    if s = n && x.bank = b then d
    else match x.user with
      | none => d
      | some u =>
        let e := (d.stopSlot s).startSlot n u x.seg x.w b x.c
        match u with
        | .ctx k => ((e.setCtx k fun y => { y with slot := some n }).bankChanged k).audioSync
        | .inst k => e.setInst k fun y => { y with slot := some n }
        | .branch _ _ => e

/-- A pin, exclusion or release applied at its boundary: a background holder of the slot is withdrawn as at the end of its
dwell. -/
def Dev.applyPin (p : PinAct) (d : Dev) : Dev :=
  let out (d : Dev) : Dev :=
    match (d.slot p.slot).user with
    | some (.ctx c) => if d.slotFg p.slot || p.ctx = c then d
        else { d.ctxOut c 2 true with trav.rotations := satAdd 0xFFFFFFFF d.trav.rotations 1 }
    | some (.inst n) => if d.slotFg p.slot then d
        else { d.instOut n 2 true with trav.rotations := satAdd 0xFFFFFFFF d.trav.rotations 1 }
    | _ => d
  match p.action with
  | 0 => d.setSlot p.slot fun x => { x with excluded := false, pin := none }
  | 1 => (out d).setSlot p.slot fun x => { x with excluded := true, pin := none }
  | _ =>
    let e := out d
    let e := { e with chan.slots := e.chan.slots.map (SlotSt.unpin p.ctx) }
    (e.setSlot p.slot fun x => { x with excluded := false, pin := some (p.ctx, p.bank) }).moveToPin p.slot p.ctx p.bank

/-- Every accepted pin whose boundary has come. -/
def Dev.applyPins (d : Dev) : Dev :=
  let due := d.chan.pins.filter (·.due ≤ d.now)
  due.foldl (fun d p => d.applyPin p) { d with chan.pins := d.chan.pins.filter (d.now < ·.due) }

/-! ## The plan (R360) -/

/-- DAB contexts that found every instance taken try again to join one. -/
def Dev.joinAll (d : Dev) : Dev :=
  (d.trav.ctxs.filter fun x => x.2.dab && x.2.waits && x.2.inst.isNone).foldl (fun d x => d.joinInst x.1) d

/-- The first loop: foreground entities that are granted but not RUNNING. -/
def Dev.planFg (d : Dev) : List PlanItem × Dev :=
  (sortBy (fun e => [d.entNum e]) ((d.waitingEnts true).filter fun e => d.entInput e && !d.entLeaves e)).foldl
    (fun (acc : List PlanItem × Dev) e =>
      match acc.2.preemptLoop e 65 [] none with
      | some (vs, d1) =>
        (acc.1 ++ [{ out := vs.map fun v => (v.1, OutCause.preempt (d.entNum e) v.2), inn := some e }], d1)
      | none => acc) ([], d)

/-- RUNNING background entities whose dwell has ended, in the order of R360. -/
def Dev.ending (d : Dev) : List Ent :=
  sortBy (fun e => [d.entPrio e, d.entDispatched e, d.entNum e])
    (d.bgRunning.filter fun e => match d.entEnd e with | some t => t ≤ d.now | none => false)

/-- The second loop: one waiting background entity, at most 12 restores. -/
def Dev.planOne (w : Ent) (acc : List PlanItem × Nat × Dev) : List PlanItem × Nat × Dev :=
  let (items, restores, d) := acc
  let parked := d.entParked w
  if 12 ≤ restores && parked then acc
  else
    let n := if parked then restores + 1 else restores
    match d.place w none with
    | some d1 => (items ++ [{ out := [], inn := some w }], n, d1)
    | none =>
      let try_ (e : Ent) : Option (Ent × Dev) :=
        if d.entPrio e ≤ d.entPrio w then ((d.withdraw e 2).place w (d.entSlot e)).map fun x => (e, x) else none
      match d.ending.findSome? try_ with
      | some (e, d1) => (items ++ [{ out := [(e, OutCause.rotation)], inn := some w }], n, d1)
      | none => acc

/-- Waiting background entities in the order of R360. -/
def Dev.waitingBg (d : Dev) : List Ent :=
  sortBy (fun e => [7 - d.entPrio e, d.entWait e, d.entNum e]) ((d.waitingEnts false).filter fun e => d.entInput e && !d.entLeaves e)

/-- The plan built on the state as it will stand at the boundary. -/
def Dev.buildPlan (d : Dev) : List PlanItem :=
  let (fgItems, d1) := d.planFg
  let restores := ((fgItems.filterMap (·.inn)).filter d.entParked).length
  (d1.waitingBg.foldl (fun acc w => Dev.planOne w acc) (fgItems, restores, d1)).1

end Sys2Proof.Machine
end

