-- ==== Sys2Proof/Machine/Ledger.lean ====
section
/-!
DEFINITION. Traverse's ledger and admission (13 R354-R358, R375-R378): what foreground contexts are granted, the totals
of 01 R34, and the pages charged to each class.
-/
namespace Sys2Proof.Machine

/-! ## Ledger (R354) -/

/-- A context as the ledger sees it: with every accepted change, but keeping what it holds until a close or suspend takes
effect. -/
structure LedgerRow where
  ctx : Nat
  kind : Nat
  fg : Bool
  tuning : Option Tuning
  halted : Bool
deriving DecidableEq, Repr

/-- A change as the ledger sees it. -/
def LedgerRow.apply (r : LedgerRow) (a : CtxAct) : LedgerRow :=
  match a with
  | .tune t => { r with tuning := some t }
  | .config fg _ => { r with fg := fg }
  | .resume => { r with halted := false }
  | .close | .suspend => r

/-- The ledger's row of context `c`. -/
def Dev.ledgerRow (d : Dev) (c : Nat) (x : CtxSt) : LedgerRow :=
  (d.trav.acts.filter (·.ctx == c)).foldl (fun r a => r.apply a.act)
    { ctx := c, kind := x.kind, fg := x.fg, tuning := x.tuning, halted := x.state == .halted }

/-- The ledger. -/
def Dev.ledger (d : Dev) : List LedgerRow := d.trav.ctxs.map fun x => d.ledgerRow x.1 x.2

/-- The row holds a foreground grant (DEDUCED log 45). -/
def LedgerRow.granted (r : LedgerRow) : Bool := r.fg && r.tuning.isSome && !r.halted
/-- Standard of a context: fixed by its kind, else that of its tuning, 0xFF untuned (R348) (DEDUCED log 55). -/
def CtxSt.stdFixed (x : CtxSt) : Nat :=
  match x.kind with
  | 0x01 | 0x07 => 0
  | 0x02 => 1
  | 0x03 | 0x05 | 0x0A => 2
  | _ => x.std
/-- Standard of the row, 0xFF untuned. -/
def LedgerRow.std (r : LedgerRow) : Nat := (r.tuning.map (·.std)).getD 0xFF
/-- Frequency and inputs of the row. -/
def LedgerRow.place (r : LedgerRow) : Nat × Nat := match r.tuning with
  | some t => (t.freq, t.inputs)
  | none => (0, 0)
/-- Pages of the row. -/
def LedgerRow.pages (r : LedgerRow) : Nat := 4 + (if r.tuning.isSome then furtherPages r.kind else 0)

/-- Granted rows that receive through instances, one per instance (R366). -/
def instGroups (l : List LedgerRow) : List LedgerRow :=
  (l.filter fun r => r.granted && usesInst r.kind r.std).foldl (fun acc r =>
    if acc.any fun a => a.place.1 == r.place.1 && a.place.2 &&& r.place.2 != 0 then acc else acc ++ [r]) []

/-- Local branches granted to combined services, accepted ones included (18 R507). -/
def Dev.branchGrants (d : Dev) : Nat :=
  let later (v : Nat) : Option CmbAct := (d.comb.acts.reverse.find? (·.service == v))
  ((List.range 8).map fun v => match later v with
    | some a => (a.branches.filter (!·.remote)).length
    | none => ((tabGet d.comb.services v).map fun x => ((x.branches.drop 1).filter (!·.remote)).length).getD 0).sum

/-- Pins as accepted: for each slot its last accepted action, else its present pin. -/
def Dev.stagedPin (d : Dev) (n : Nat) : Nat × Nat × Nat :=
  match d.chan.pins.reverse.find? (·.slot == n) with
  | some p => (p.action, p.ctx, p.bank)
  | none => match (d.slot n).pin with
    | some (c, b) => (2, c, b)
    | none => (bit (d.slot n).excluded, 0xFF, 0)
/-- The slot that context `c` is pinned to, as accepted, with its bank. -/
def Dev.stagedPinOf (d : Dev) (c : Nat) : Option (Nat × Nat) :=
  (List.range 64).findSome? fun n => match d.stagedPin n with
    | (2, k, b) => if k = c then some (n, b) else none
    | _ => none

/-- Foreground slots of the ledger (R350, 12 R347): an untuned pinned context is charged one. -/
def Dev.fgSlots (d : Dev) (l : List LedgerRow) : Nat :=
  (l.filter fun r => r.granted && !usesInst r.kind r.std).length + (instGroups l).length + d.branchGrants
    + (l.filter fun r => r.fg && !r.granted && (d.stagedPinOf r.ctx).isSome).length

/-- Highest rate that a standard permits a decode, kbit/s (R349, 16 R456, 17 R491). -/
def rateMax (std : Nat) : Nat := if std = 2 then 640 else if std = 3 then 240 else 600
/-- Rate of the FAC and SDC of a DRM context, kbit/s (17 R491). -/
def facRate (kind std : Nat) : Nat := if (std == 3 || std == 4) && kind != 0x0B then 16 else 0
/-- Trellis throughput of a decode, kbit/s: the actual rate, or the highest its standard permits (R349). -/
def CtxSt.trellis (x : CtxSt) : Nat := if kindDecodes x.kind then x.kbps.getD (rateMax x.std) else 0

/-- Units of foreground engine capacity in a ledger: narrowband channels, OFDM half units, decodes, audio decoders. -/
def engineUse (l : List LedgerRow) : Nat × Nat × Nat × Nat :=
  let g := l.filter LedgerRow.granted
  ((g.filter fun r => kindNb r.kind r.std).length,
   (g.map fun r => if usesInst r.kind r.std then 0 else kindHalves r.kind r.std).sum + 2 * (instGroups l).length,
   (g.filter fun r => kindDecodes r.kind).length,
   (g.filter fun r => kindAudio r.kind).length)

/-- Trellis throughput of a row, kbit/s: a tuning not yet in force counts at the highest rate (R349). -/
def LedgerRow.trellis (r : LedgerRow) (x : Option CtxSt) : Nat :=
  (if kindDecodes r.kind then ((x.filter (·.tuning == r.tuning)).bind (·.kbps)).getD (rateMax r.std) else 0) + facRate r.kind r.std

/-- Trellis throughput of foreground decodes, FAC, SDC and FIC, kbit/s (01 R34). -/
def Dev.fgTrellis (d : Dev) (l : List LedgerRow) : Nat :=
  ((l.filter LedgerRow.granted).map fun r => r.trellis (d.ctx? r.ctx)).sum + 32 * (instGroups l).length

/-- Pages of one class in a ledger (R375). -/
def classPages (l : List LedgerRow) (fg : Bool) : Nat := ((l.filter (·.fg == fg)).map LedgerRow.pages).sum

/-- The check of R355 for a foreground admission that makes the ledger `l`. -/
def Dev.admitFg (d : Dev) (l : List LedgerRow) : List (Bool × Status) :=
  let (nb, halves, decodes, adecs) := engineUse l
  [(min 48 d.nSlots < d.fgSlots l || 16 < (l.filter (·.fg)).length, .noSlot),
   (48 < nb || 32 < halves || 32 < decodes || 4 < adecs || 600000 < d.fgTrellis l
      || 32 < (l.filter fun r => r.granted && r.kind == 0x0B).length, .noEngine),
   (d.stagedN P.dsQuotaFg < classPages l true, .noPages)]
/-- The check of R356 for a background admission. -/
def Dev.admitBg (d : Dev) (l : List LedgerRow) : List (Bool × Status) :=
  [(d.stagedN P.dsQuotaBg < classPages l false, .noPages)]
/-- The ledger with context `c`'s row changed. -/
def Dev.ledgerWith (d : Dev) (c : Nat) (f : LedgerRow → LedgerRow) : List LedgerRow :=
  d.ledger.map fun r => if r.ctx = c then f r else r
/-- Admission of context `c` with its row changed, by its class (R355, R356). -/
def Dev.admission (d : Dev) (c : Nat) (f : LedgerRow → LedgerRow) : List (Bool × Status) :=
  let l := d.ledgerWith c f
  if (l.find? (·.ctx == c)).any (·.fg) then d.admitFg l else d.admitBg l

/-- Deep Store pages charged to the five quota classes, in the order of `quotaIds` (R375). -/
def Dev.charged (d : Dev) : List Nat :=
  [classPages d.ledger true, classPages d.ledger false, d.queuePages, d.motPages, d.blendPages]

end Sys2Proof.Machine
end

