-- ==== Sys2Proof/Machine/Power.lean ====
section
/-!
DEFINITION. Power, reset and start-up (chapter 03): what each reset keeps and loses, the boot step by step, SLEEP, the
thermal warning and shutdown, REFCLK loss (04 R102), the I/O banks (26 R707), and the commands SYS_INFO, SYS_POWER,
SYS_RESET and SYS_TEMP.
-/
namespace Sys2Proof.Machine

/-! ## Resets -/

/-- boot_cause of a reset (03 R94). -/
def ResetKind.cause : ResetKind → Nat
  | .aonLoss => 1
  | .resetN => 2
  | .restart => 3
  | .full => 4
  | .wake => 5

/-- The reset keeps what SYS_RESET scope 0x01 and a wake from SLEEP keep (03 R87): the calibration values, the system
owner, the Tocsin record and counts (25 R684), and the authentication locks (08 R238). -/
def ResetKind.keeps : ResetKind → Bool
  | .restart | .wake => true
  | _ => false

/-- Supplies, pins and straps through a reset: what stands outside the device stays, the rest starts anew. The strap fields, and
the owner taken from HOST_SEL, keep their last values until the next sampling, also after VDD_AON was lost (DESIGN CHOICE
log 114). -/
def PowerSt.reset (k : ResetKind) (p : PowerSt) : PowerSt :=
  { aonOk := p.aonOk, coreOk := p.coreOk, resetN := p.resetN, testMode := p.testMode, refclk := p.refclk,
    bankH := p.bankH, bankA := p.bankA, bank18 := p.bank18, bankRf := p.bankRf, bankSer := p.bankSer, fuseEn := p.fuseEn, vppOk := p.vppOk,
    hostSel := p.hostSel, twAddr := p.twAddr, sampleStraps := p.sampleStraps || k == .aonLoss || !p.resetN,
    seenHighAt := p.seenHighAt, causes := k.cause :: p.causes, tHot := p.tHot, tAvg := p.tAvg,
    wakeHeld := if k = .wake then p.wakeHeld else none, wakeHeaderOnly := k == .wake && p.wakeHeaderOnly }

/-- The fuse array and what survives of the authentication state (08 R238); the nonce stays for the next draw to
differ from it. -/
def SecSt.reset (k : ResetKind) (x : SecSt) : SecSt :=
  { fuses := x.fuses, nonce := x.nonce,
    ifaces := if k.keeps then (x.ifaces.filter (·.locked)).map fun y => { iface := y.iface, locked := true } else [] }

/-- Tocsin through a reset (25 R682, R684, R690, R698, R702) (DEDUCED log 17). -/
def TocsinSt.reset (k : ResetKind) (t : TocsinSt) : TocsinSt :=
  if k.keeps then
    { rcd := t.rcd, captures := if k = .wake then t.captures else 0, ce := t.ce, ceNew := t.ceNew, ceTotal := t.ceTotal }
  else {}

/-- What is kept of the calibration through a reset or SLEEP (10 R290, 03 R86, R87): the values, the SYN0 codes and the
SYN1 table; a run is abandoned with the values that stood before it (10 R289). -/
def CalSt.kept (x : CalSt) : CalSt := { vals := x.vals, syn0 := x.syn0, syn1 := x.syn1 }

/-- The device after a reset of kind `k` has taken effect, held in reset (03 R74-R78, R86, R87) (DEDUCED log 16). -/
def Dev.reset (k : ResetKind) (d0 : Dev) : Dev :=
  let d := d0.dropFuseJob
  { now := d.now
    pwr := d.pwr.reset k
    proto := { owner := if k.keeps then d.proto.owner else if d.pwr.hostSel then .twoWire else .spi }
    sec := d.sec.reset k
    cal := if k.keeps then d.cal.kept else {}
    cl := if k = .wake then d.cl.kept else if k = .restart || k = .full then { tx := d.cl.tx } else {}
    toc := d.toc.reset k
    draws := d.draws }

/-- Boot begins once both rails are above their thresholds, REFCLK runs, TEST_MODE is low and RESET_N is seen high
(03 R74, 02 R61, 04 R102). -/
def Dev.tryBoot (d : Dev) : Dev :=
  if d.inReset && d.pwr.aonOk && d.pwr.coreOk && d.pwr.resetN && !d.pwr.testMode && d.pwr.refclk
  then { d with pwr.stage := .released, pwr.bootAt := d.now } else d

/-! ## Supplies and reset pins -/

/-- POWER_ON: VDD_AON comes into range; the device stays in reset until R74 lets it boot. -/
def execPowerOn (dt : Nat) (s : State) : Host.Outcome State Fault Refusal :=
  s.runIf dt (fun d => !d.pwr.aonOk) fun d => ({ d with pwr.aonOk := true, pwr.seenHighAt := d.now }).tryBoot

/-- VDD_AON_BROWN_OUT (03 R75): everything resets; datum time is lost, and where it starts again is open. -/
def execVddAonBrownOut (dt : Nat) (s : State) : Host.Outcome State Fault Refusal :=
  let d := s.dev.tick dt
  let e := ({ d with pwr.aonOk := false }).reset .aonLoss
  .next { s with dev := { e with now := Config.datumStart e.draws, draws := e.draws + 1 } }

/-- VDD_CORE_BROWN_OUT (03 R74, R76): in reset it holds the reset; from the start of the boot on it is a halt. -/
def execVddCoreBrownOut (dt : Nat) (s : State) : Host.Outcome State Fault Refusal :=
  s.run dt fun d => ({ d with pwr.coreOk := false }).chipFault 0x0A 0

/-- VDD_CORE_BROWN_OUT_RELEASE (03 R74): a boot that was waiting begins; a halt stays (25 R685). -/
def execVddCoreBrownOutRelease (dt : Nat) (s : State) : Host.Outcome State Fault Refusal :=
  s.run dt fun d => ({ d with pwr.coreOk := true }).tryBoot

/-- RESET_N_ASSERT (03 R77-R79): a confirmed low resets every island and ends any halt. The synchroniser runs from
REFCLK, or from the RC oscillator once REFCLK was lost in a halt (25 R685). -/
def execResetNAssert (dt : Nat) (s : State) : Host.Outcome State Fault Refusal :=
  s.run dt fun d => ({ d with pwr.resetN := false }).reset .resetN

/-- RESET_N_RELEASE (03 R74): the synchroniser, clocked by REFCLK, sees RESET_N high. -/
def execResetNRelease (dt : Nat) (s : State) : Host.Outcome State Fault Refusal :=
  s.runIf dt (fun d => d.pwr.refclk) fun d => ({ d with pwr.resetN := true, pwr.seenHighAt := d.now }).tryBoot

/-- TEST_MODE_CHANGE (02 R61): high holds the device in reset, also out of a halt, although 03 R79 names RESET_N and a power
cycle alone for that (DESIGN CHOICE log 115); low lets R74 decide. -/
def execTestModeChange (dt : Nat) (level : Bool) (s : State) : Host.Outcome State Fault Refusal :=
  s.run dt fun d =>
    if level then ({ d with pwr.testMode := true }).reset .resetN
    else ({ d with pwr.testMode := false }).tryBoot

/-- IO_BANK_SUPPLY_CHANGE (02 R53, 26 R707): bank 0 is VDDIO_H, 1 VDDIO_A, 2 VDDA_18, 3 VDDA_RF, 4 VDD_SER; a bank that arrives
senses its level. What the balls of a bank out of range show stands in Pins.lean. -/
def execIoBankSupplyChange (dt bank : Nat) (inRange is33 : Bool) (s : State) : Host.Outcome State Fault Refusal :=
  s.run dt fun d =>
    let ch (b : IoBank) : IoBank := if inRange then { inRange := true, is33 := is33 } else { b with inRange := false }
    match bank with
    | 0 => { d with pwr.bankH := ch d.pwr.bankH }
    | 1 => { d with pwr.bankA := ch d.pwr.bankA }
    | 2 => { d with pwr.bank18 := ch d.pwr.bank18 }
    | 3 => { d with pwr.bankRf := ch d.pwr.bankRf }
    | 4 => { d with pwr.bankSer := ch d.pwr.bankSer }
    | _ => d

/-- REFCLK_LOSS (04 R102, R103): outside reset it halts with class CLOCK and sets the status bit of source 8; the
record's time is that of the last REFCLK edge, `sinceEdge` ticks ago. In reset it is no fault. -/
def execRefclkLoss (dt sinceEdge : Nat) (s : State) : Host.Outcome State Fault Refusal :=
  s.run dt fun d =>
    let d1 := { d with pwr.refclk := false }
    if d.inReset then d1
    else
      let d2 := { d1 with pwr.onRc := true }.setStatus 8
      let held := d2.toc.rcd.valid
      let d3 := d2.chipFault 0x09 0
      if held then d3 else { d3 with toc.rcd.time := d.now - sinceEdge }

/-- REFCLK_RESTORED_IN_RESET (04 R102): in reset, datum time counts from REFCLK again; in a halt the RC oscillator
stays until reset (25 R685). -/
def execRefclkRestoredInReset (dt : Nat) (s : State) : Host.Outcome State Fault Refusal :=
  s.run dt fun d => ({ d with pwr.refclk := true }).tryBoot

/-! ## The boot (03 R80) -/

/-- The boot runs and stands at stage `st`, not halted. -/
def Dev.bootAtStage (st : BootStage) (d : Dev) : Bool := d.pwr.stage == st && !d.toc.halted

/-- The straps are sampled now (02 R57, R59, 03 R74): on the 32nd REFCLK edge after RESET_N is seen high, whether the boot has
begun or still waits for its supplies; only once after each time RESET_N was low. -/
def Dev.samplesStraps (d : Dev) : Bool :=
  (d.pwr.stage == .held || d.pwr.stage == .released) && !d.toc.halted && d.pwr.aonOk && d.pwr.refclk && d.pwr.resetN
    && d.pwr.sampleStraps && d.pwr.seenHighAt + 32 * refTicks ≤ d.now

/-- STRAP_SAMPLING (02 R57-R60). HOST_SEL fixes the system owner (R58). -/
def execStrapSampling (dt : Nat) (hostSel : Bool) (twAddr : BitVec 3) (s : State) :
    Host.Outcome State Fault Refusal :=
  s.runIf dt Dev.samplesStraps fun d =>
    { d with pwr.stage := if d.pwr.stage = .released then .strapped else d.pwr.stage, pwr.hostSel := hostSel, pwr.twAddr := twAddr, pwr.sampleStraps := false,
             proto.owner := if hostSel then .twoWire else .spi }

/-- FUSE_READ_DONE (05 R146, 08 R231): the fuse values of this boot become valid, or the device halts with class BOOT,
ADDR 0. A boot that does not sample the straps goes straight to it. -/
def execFuseReadDone (dt : Nat) (ok : Bool) (s : State) : Host.Outcome State Fault Refusal :=
  s.runIf dt (fun d => d.bootAtStage .strapped || (d.bootAtStage .released && !d.pwr.sampleStraps)) fun d =>
    if ok then { d with pwr.stage := .fused, sec.fuseRead := d.sec.fuses } else d.chipFault 0x0C 0

/-- BOOT_PLL_A_LOCK (03 R80): PLL_A locks, or the device halts with class CLOCK, ADDR 1 (25 R679). -/
def execBootPllALock (dt : Nat) (ok : Bool) (s : State) : Host.Outcome State Fault Refusal :=
  s.runIf dt (Dev.bootAtStage .fused) fun d =>
    if ok then { d with pwr.stage := .pllLocked, clk.pllA := .locked } else d.chipFault 0x09 1

/-- BOOT_SRAM_INIT_DONE (03 R80): all SRAM is zero with valid check bits, or an uncorrectable error halts. -/
def execBootSramInitDone (dt : Nat) (bad : Option ErrIn) (s : State) : Host.Outcome State Fault Refusal :=
  s.runIf dt (Dev.bootAtStage .pllLocked) fun d =>
    match bad with
    | none => { d with pwr.stage := .sramDone }
    | some e => d.errorsArrive [{ e with cls := 0x01, level := 0, injected := false }] d.pwr.tHot

/-- BOOT_ROM_CHECK_DONE (03 R80): PLL_D0 and PLL_AUD run, the control processor is in lockstep and the ROM CRC-32 is
right, or the device halts with class BOOT, ADDR 1. -/
def execBootRomCheckDone (dt : Nat) (ok : Bool) (s : State) : Host.Outcome State Fault Refusal :=
  s.runIf dt (Dev.bootAtStage .sramDone) fun d =>
    if ok then { d with pwr.stage := .romDone, clk.audOn := true } else d.chipFault 0x0C 1

/-- The boot nonce drawn: never zero and never the one before (08, before R238). -/
def drawNonce (old drawn : BitVec 64) : BitVec 64 :=
  if drawn != 0 && drawn != old then drawn else if old = 1 then 2 else 1

/-- The held packet of a wake becomes the first command (03 R92): into its queue, or answered BAD_CRC or BAD_LENGTH. -/
def Dev.releaseHeld (d : Dev) : Dev :=
  match d.pwr.wakeHeld with
  | none => d
  | some (src, bytes) =>
    let d1 := { d with pwr.wakeHeld := none, pwr.wakeHeaderOnly := false }
    let queue := (src.replyQueue).getD 1
    if d.pwr.wakeHeaderOnly then d1.portReply queue bytes .badLength
    else if !crcGood bytes then d1.portReply queue bytes .badCrc
    else
      let p : QPkt := { src := src, doneAt := d.now, bytes := bytes }
      if queue = 1 then { d1 with proto.q0 := d1.proto.q0 ++ [p] } else { d1 with proto.q2 := d1.proto.q2 ++ [p] }

/-- BOOT_DONE (03 R80-R83): ACTIVE, boot_cause fixed, the nonce drawn, events delivered to the port of HOST_SEL (07
R222), source 3 raised, ALIVE and the heartbeat watch started, and a packet held from SLEEP placed first (DEDUCED log 21). A boot
that ends before BOOT_DONE leaves its cause to the next (DESIGN CHOICE log 116). EVENT_READY comes with the record of source 3
and CMD_SPACE with CMDQ_FREE's rise from 0 (07 R218) (DEDUCED log 117). -/
def execBootDone (dt : Nat) (s : State) : Host.Outcome State Fault Refusal :=
  s.runIf dt (Dev.bootAtStage .romDone) fun d =>
    let port := if d.pwr.hostSel then 2 else 1
    let d1 := { d with
      pwr.stage := .done
      pwr.mode := .active
      pwr.bootCause := (minBy id d.pwr.causes).getD 0
      pwr.causes := []
      proto.deliver := (List.range 128).map fun n => if sourceDefined n then port else 0
      sec.nonce := drawNonce d.sec.nonce (Config.entropy d.draws)
      toc.aliveAt := d.now
      toc.beatAt := d.now
      draws := d.draws + 1 }
    (((d1.emit 3 []).spaceFrom d).rejoins).releaseHeld

/-! ## Temperatures -/

/-- New sensor readings (03 R98, R99): the warning is raised once and re-arms 5 °C below its threshold. -/
def Dev.setTemps (tHot tAvg : Int) (d : Dev) : Dev :=
  let d1 := { d with pwr.tHot := tHot, pwr.tAvg := tAvg, pwr.tMax := max d.pwr.tMax tHot }
  let limit := 8 * d.prop P.thermalWarn
  if !d.pwr.thermal && limit ≤ tHot then ({ d1 with pwr.thermal := true }).emit 7 []
  else if d.pwr.thermal && tHot ≤ limit - 40 then { d1 with pwr.thermal := false }
  else d1

/-- THERMAL_WARNING (03 R99), read by Izosh, which does not run in SLEEP or in a halt (DEDUCED log 77). -/
def execThermalWarning (dt : Nat) (tHot tAvg : Int) (s : State) : Host.Outcome State Fault Refusal :=
  s.runIf dt Dev.izosh (Dev.setTemps tHot tAvg)

/-- Region of thermal sensor `n` (25 R680, R732): sensors 5-7 report region 0. -/
def sensorRegion (n : Nat) : Nat := if n < 5 then n else 0

/-- The error of sensor `n`'s comparator (25 R679, R680). -/
def thermalError (n : Nat) : ErrIn :=
  { cls := 0x0B, level := 3, region := sensorRegion n, block := 0xE0 + n,
    master := Config.faultMaster 0x0B n % 256, access := Config.faultAccess 0x0B n % 7, addr := n, detail := 0,
    injected := false }

/-- THERMAL_SHUTDOWN (03 R100, 02 R67, 25 R732): the sensors whose comparators trip on this cycle. -/
def execThermalShutdown (dt : Nat) (sensors : List Nat) (tHot : Int) (s : State) : Host.Outcome State Fault Refusal :=
  s.run dt (Dev.errorsArrive (sensors.map thermalError) tHot)

/-! ## Commands -/

/-- power_state of SYS_INFO (03 R94). -/
def Dev.powerState (d : Dev) : Nat :=
  match d.pwr.mode with
  | .active => 0
  | .watch => 1
  | .sleep => 2
  | .boot => Config.bootHaltPower

/-- Straps byte: HOST_SEL in bit 0, TW_ADDR in bits 3:1 (03 R94). -/
def Dev.strapByte (d : Dev) : Nat := bit d.pwr.hostSel + 2 * d.pwr.twAddr.toNat

/-- The 32-byte payload of SYS_INFO (03 R94, R733). -/
def Dev.infoPayload (d : Dev) : List Byte :=
  u16 (at16 d.sec.fuseRead 8) ++ u8 (at8 d.sec.fuseRead 10) ++ u8 Config.dieRev ++ u32 Config.romRev
    ++ u32 d.sec.patchRev ++ u32 0x20250901 ++ padTo 8 (d.sec.fuseRead.take 8) ++ u8 d.strapByte
    ++ u8 d.proto.owner.code.1 ++ u8 d.powerState ++ u8 d.pwr.bootCause ++ u32 d.features

/-- SYS_INFO (03 R94). -/
def sysInfoBody : Body := fun q d =>
  checked d [(q.len != 0, .badLength), (q.badHeader, .badParam)] (okWith d.infoPayload d)

/-- The row SYS_INFO. -/
def execSysInfo (dt : Nat) (s : State) : Host.Outcome State Fault Refusal := s.command dt 0x0001 sysInfoBody

/-- SYS_TEMP (03 R98): the temperatures are those that the sensors show now (DEDUCED log 20). -/
def sysTempBody (tHot tAvg : Int) : Body := fun q d =>
  checked d [(q.len != 0, .badLength), (q.badHeader, .badParam)] <|
    let e := { d with pwr.tHot := tHot, pwr.tAvg := tAvg, pwr.tMax := max d.pwr.tMax tHot }
    okWith (s16 tHot ++ s16 tAvg ++ s16 e.pwr.tMax
      ++ (List.range 4).flatMap (fun i => s16 ((d.tCal i).getD (-32768))) ++ ub d.pwr.thermal ++ u8 0) e

/-- The row SYS_TEMP. -/
def execSysTemp (dt : Nat) (tHot tAvg : Int) (s : State) : Host.Outcome State Fault Refusal :=
  s.command dt 0x0009 (sysTempBody tHot tAvg)

/-- SYS_POWER (03 R95): ACTIVE leaves WATCH; SLEEP starts the entry of R89. The 5 ms of a WATCH entry (22 R618) still count as
ACTIVE (DESIGN CHOICE log 118). -/
def sysPowerBody : Body := fun q d =>
  let target := q.p8 0
  checked d [(q.len != 4, .badLength),
    (q.badHeader || !(target == 0 || target == 2) || !zeroAt q.params 1 3, .badParam), (q.notSystem d, .notOwner),
    (target == 2 && (d.anyOpen || d.joined || d.calBusy || d.sec.job.isSome || d.inWatch), .wrongState)] <|
    if target = 2 then ok { d.rampAll with pwr.sleepSince := some d.now }
    else if d.inWatch then ok (d.leaveWatch 3 0xFF)
    else ok d

/-- The row SYS_POWER. -/
def execSysPower (dt : Nat) (s : State) : Host.Outcome State Fault Refusal := s.command dt 0x0002 sysPowerBody

/-- SYS_RESET (03 R96, R97): 6 ms after the reply the reset begins; the programmes ramp to mute meanwhile. -/
def sysResetBody : Body := fun q d =>
  let scope := q.p8 0
  checked d [(q.len != 4, .badLength),
    (q.badHeader || !(scope == 1 || scope == 2) || !zeroAt q.params 1 3, .badParam), (q.notSystem d, .notOwner),
    (d.sec.job.isSome || d.inWatch, .wrongState)] <|
    ok { d.rampAll.abortTwc with pwr.resetDue := some (scope, d.now + msec 6) }

/-- The row SYS_RESET. -/
def execSysReset (dt : Nat) (s : State) : Host.Outcome State Fault Refusal := s.command dt 0x0004 sysResetBody

/-- SYS_RESET_TAKES_EFFECT (03 R97): LEAVE frames, AXn pins, then the reset without strap sampling; boot begins. -/
def execSysResetTakesEffect (dt : Nat) (s : State) : Host.Outcome State Fault Refusal :=
  s.runIf dt Dev.up fun d =>
    match d.pwr.resetDue with
    | none => d
    | some (scope, due) =>
      if due ≤ d.now then (d.sendLeaves.ampsOff.reset (if scope = 1 then .restart else .full)).tryBoot else d

/-- SLEEP begins (03 R87, R89, R91, R727, R728): the main regions are gated and their contents lost; the always-on
island keeps the registers, the two-wire pointer, the record and the reply of SYS_POWER. A controller transfer or recovery still
running then is dropped without recovery, event or a new result: 06 R181 names only CTRL_EN and R97 (DESIGN CHOICE log 124). -/
def Dev.enterSleep (d : Dev) : Dev :=
  let last (l : List (List Byte)) : List (List Byte) :=
    l.filter fun r => at16 r 0 == 0x0002 && at32 r 8 == d.proto.lastReady
  { now := d.now
    pwr := { d.pwr with mode := .sleep, sleepSince := none }
    clk := { d.clk with pllA := .stopped, audOn := false, audState := 0, audSince := none, audPending := false, refFaults := [], change := none, pllF := false, syn0 := 0, syn1 := 0 }
    regs := d.regs
    tw := { d.tw with box := [], waiting := none }
    twc := { result := d.twc.result, xfer := d.twc.xfer }
    proto := { owner := d.proto.owner, q1 := last d.proto.q1, q3 := last d.proto.q3, seq := d.proto.seq,
               lastReady := d.proto.lastReady, deliver := d.proto.deliver }
    sec := { d.sec with patchRev := 0, patch := none, committed := none }
    cal := d.cal.kept
    cl := { d.cl.kept with tx := d.cl.tx }
    watch := { gpio := d.watch.gpio }
    toc := { d.toc with inject := none }
    draws := d.draws }

/-- SLEEP_ENTRY (03 R89, R728): 5 ms after the reply became ready, the programmes being muted. -/
def execSleepEntry (dt : Nat) (s : State) : Host.Outcome State Fault Refusal :=
  s.runIf dt Dev.active fun d =>
    match d.pwr.sleepSince with
    | none => d
    | some t => if d.sinceUs t 5000 then d.fabricSleeps.enterSleep else d

/-- A packet wakes the device from SLEEP (03 R92): held, and the device boots without sampling the straps
(DEDUCED log 18). -/
def Dev.wake (src : Iface) (bytes : List Byte) (headerOnly : Bool) (d : Dev) : Dev :=
  (({ d with pwr.wakeHeld := some (src, bytes), pwr.wakeHeaderOnly := headerOnly }).reset .wake).tryBoot

end Sys2Proof.Machine
end

