-- ==== Sys2Proof/Machine/Spi.lean ====
section
/-!
DEFINITION. The direct register window and the SPI port (chapter 05): what each register reads and what a write does,
and the SPI instructions.
-/
namespace Sys2Proof.Machine

/-! ## Register reads -/

/-- A flag at bit `n` of a word. -/
def wbit (n : Nat) (b : Bool) : Nat := if b then 2 ^ n else 0

/-- The code of SYS_STATUS.POWER. -/
def PowerMode.code : PowerMode → Nat
  | .active => 0
  | .watch => 1
  | .sleep => 2
  | .boot => 3

/-- SYS_STATUS (05). -/
def Dev.sysStatus (d : Dev) : Nat :=
  wbit 0 d.booted + wbit 1 d.toc.halted + 4 * d.pwr.mode.code + wbit 4 d.pwr.hostSel + 32 * d.pwr.twAddr.toNat
    + 256 * d.proto.owner.code.1 + wbit 10 d.pwr.fuseEn + wbit 11 d.authLocked + wbit 12 d.pwr.thermal
    + wbit 13 d.pwr.wakeHeld.isSome + 65536 * d.regs.sysRws.toNat + 2 ^ 24 * d.pwr.bootCause

/-- TW_STATUS (05). -/
def Dev.twStatus (d : Dev) : Nat :=
  wbit 0 d.tw.busBusy + wbit 1 (d.twc.state == 2) + 4 * d.regs.twRws.toNat + 65536 * (0x60 + d.pwr.twAddr.toNat)
    + 2 ^ 23 * d.regs.nackCount

/-- VARIANT (05). -/
def Dev.variant (d : Dev) : Nat :=
  at16 d.sec.fuseRead 8 + 65536 * (at8 d.sec.fuseRead 10 % 4) + 2 ^ 24 * (at8 d.sec.fuseRead 11 % 32)
    + wbit 30 (d.fuseValid && d.keyState != 0) + wbit 31 (hasBit (at8 d.sec.fuseRead 0x40) 0)

/-- Records are delivered: in ACTIVE and WATCH only (05 R729). -/
def Dev.delivers (d : Dev) : Bool := d.izosh

/-- A word of the Tocsin mirror, 0x0200 + 4n (05). TIME_HI reads the live record's high word until TIME_LO has been read, and what
that read latched from then until reset, also once the record has gone (DESIGN CHOICE log 122). -/
def Dev.mirror (d : Dev) (n : Nat) : Nat :=
  let r := d.toc.rcd
  let ce (a b : Nat) : Nat := d.toc.ce.getD a 0 + 65536 * d.toc.ce.getD b 0
  match n with
  | 0 => recordFlags r + 256 * r.cls + 65536 * r.merge
  | 1 => r.region + 256 * r.block + 65536 * r.master + 2 ^ 24 * r.access
  | 2 => r.addr
  | 3 => r.merged.toNat
  | 4 => r.time % 2 ^ 32
  | 5 => match d.regs.timeHi with
    | some w => w.toNat
    | none => r.time / 2 ^ 32
  | 6 => ce 0 1
  | 7 => ce 2 3
  | 8 => d.toc.ce.getD 4 0
  | 9 => leNat (s16 r.haltTemp)
  | 10 => r.lastSeq
  | _ => 0

/-- Registers that answer before BOOT_DONE (05 R152): identity, SYS_STATUS, interrupt and two-wire registers. -/
def earlyRegister (a : Nat) : Bool := a ≤ 0x60 || a == 0x0100 || a == 0x0104

/-- The value of the register at word address `a` in the states in which the port reads it. -/
def Dev.regValue (d : Dev) (a : Nat) : Nat :=
  if a = 0x0000 then 0x73594880
  else if a = 0x0004 then Config.dieRev % 256
  else if a = 0x0008 then d.variant
  else if a = 0x000C then at32 d.sec.fuseRead 0
  else if a = 0x0010 then at32 d.sec.fuseRead 4
  else if a = 0x0020 then d.sysStatus
  else if 0x0040 ≤ a ∧ a ≤ 0x004C then (d.regs.irqStatus >>> (8 * (a - 0x0040))).toNat
  else if 0x0050 ≤ a ∧ a ≤ 0x005C then (d.regs.irqEnable >>> (8 * (a - 0x0050))).toNat
  else if a = 0x0060 then d.regs.irqRoute.toNat
  else if a = 0x0080 then d.cmdqFree
  else if a = 0x0084 then d.proto.q1.length + 65536 * (d.proto.q1.headD []).length
  else if a = 0x0088 then (if d.delivers then d.proto.q4.length else 0)
  else if 0x00C0 ≤ a ∧ a ≤ 0x00CC then (if d.delivers then (d.dataReady >>> (8 * (a - 0x00C0))).toNat else 0)
  else if a = 0x0100 then d.regs.twCfg.toNat
  else if a = 0x0104 then d.twStatus
  else if 0x0200 ≤ a ∧ a ≤ 0x023C then d.mirror ((a - 0x0200) / 4)
  else 0

/-- A register as a port reads it (05 R136, R144, R152): address bits 1:0 ignored; zero before the fuse read, beyond
0x7FFC, at reserved addresses, and before BOOT_DONE for registers that do not answer yet. -/
def Dev.readReg (d : Dev) (addr : Nat) : Word :=
  let a := 4 * (addr / 4)
  if !d.portAnswers || !(d.booted || d.toc.halted || earlyRegister a) then 0
  else BitVec.ofNat 32 (d.regValue a)

/-- The effect of a read: TIME_LO latches TIME_HI (05 R151). -/
def Dev.readEffect (addr : Nat) (d : Dev) : Dev :=
  if addr / 4 = 0x0210 / 4 then { d with regs.timeHi := some (BitVec.ofNat 32 (d.toc.rcd.time / 2 ^ 32)) } else d

/-! ## Register writes -/

/-- The port whose writes to IRQ_ENABLE, IRQ_ROUTE and TW_CFG take effect (05 R145). -/
def Dev.ownerPort (d : Dev) : RegPort :=
  match d.proto.owner with
  | .spi => .spi
  | .twoWire => .twoWire
  | .fabric _ => if d.pwr.hostSel then .twoWire else .spi

/-- The port takes register writes at all: from the fuse read on (05 R152). -/
def Dev.takesWrites (d : Dev) : Bool := d.portAnswers

/-- A write that only the owner's port may make, refused with REG_WR_DENIED from the other (05 R145); ignored in a
halt (R152). -/
def Dev.ownedWrite (port : RegPort) (f : Dev → Dev) (d : Dev) : Dev :=
  if !d.takesWrites || d.toc.halted then d
  else if port = d.ownerPort then f d
  else d.flagSys 0x10

/-- Writing 1 clears bits of IRQ_STATUSg; a bit that the device sets on the same REFCLK edge stays set (05 R148). -/
def Dev.clearIrq (g : Nat) (v : Word) (d : Dev) : Dev :=
  if d.takesWrites then
    let r := d.regs.onEdge d.edge
    { d with regs.irqStatus := d.regs.irqStatus &&& ~~~(((v.zeroExtend 128) <<< (32 * g)) &&& ~~~r.irqNew) }.gpioRelease
  else d

/-- Writing 1 clears RWS fields of SYS_STATUS, bits 20:16; a setting on the same REFCLK edge wins (05 R147). -/
def Dev.clearSys (v : Word) (d : Dev) : Dev :=
  if d.takesWrites then
    { d with regs.sysRws := d.regs.sysRws &&& ~~~((v.extractLsb' 16 5) &&& ~~~(d.regs.onEdge d.edge).sysNew) }
  else d

/-- Writing 1 clears RWS fields of TW_STATUS, bits 4:2; a setting on the same REFCLK edge wins (05 R147). -/
def Dev.clearTw (v : Word) (d : Dev) : Dev :=
  if d.takesWrites then
    { d with regs.twRws := d.regs.twRws &&& ~~~((v.extractLsb' 2 3) &&& ~~~(d.regs.onEdge d.edge).twNew) }
  else d

/-- TW_CFG takes bits 8:0, unless CTRL_SPEED would be 0b11 (05 R150); clearing CTRL_EN ends a controller transfer with
the recovery sequence (06 R181). -/
def Dev.writeTwCfg (v : Word) (d : Dev) : Dev :=
  if v.extractLsb' 6 2 = 3 then d
  else
    let d1 := { d with regs.twCfg := v.extractLsb' 0 9 }
    if d.ctrlEn && !d1.ctrlEn then d1.abortTwc else d1

/-- IRQ_ENABLEg takes a word. -/
def Dev.writeEnable (g : Nat) (v : Word) (d : Dev) : Dev :=
  let mask : BitVec 128 := (0xFFFFFFFF : BitVec 128) <<< (32 * g)
  { d with regs.irqEnable := (d.regs.irqEnable &&& ~~~mask) ||| ((v.zeroExtend 128) <<< (32 * g)) }

/-- A complete write of one register (05 R137, R144, R145): read-only and reserved addresses ignore it. -/
def Dev.writeReg (port : RegPort) (addr : Nat) (v : Word) (d : Dev) : Dev :=
  let a := 4 * (addr / 4)
  if 0x0040 ≤ a ∧ a ≤ 0x004C then d.clearIrq ((a - 0x0040) / 4) v
  else if 0x0050 ≤ a ∧ a ≤ 0x005C then d.ownedWrite port (Dev.writeEnable ((a - 0x0050) / 4) v)
  else if a = 0x0060 then d.ownedWrite port fun d => { d with regs.irqRoute := v }
  else if a = 0x0020 then d.clearSys v
  else if a = 0x0104 then d.clearTw v
  else if a = 0x0100 then d.ownedWrite port (Dev.writeTwCfg v)
  else d

/-- The complete words of one transaction go to the registers at `addr`, `addr` + 4 and so on, without wrapping past 0x7FFC
(05 R136, R137). -/
def Dev.writeRegs (port : RegPort) : Nat → List Word → Dev → Dev
  | _, [], d => d
  | addr, v :: rest, d => Dev.writeRegs port (addr + 4) rest (d.writeReg port addr v)

/-- REGISTER_WRITE (05 R136, R137, R145): the words of one WRITE_REG transaction. -/
def execRegisterWrite (dt : Nat) (port : RegPort) (addr : Nat) (values : List Word) (s : State) :
    Host.Outcome State Fault Refusal :=
  s.run dt (Dev.writeRegs port addr values)

/-- IRQ_STATUS_WRITE (05 R148): from either port. -/
def execIrqStatusWrite (dt : Nat) (_port : RegPort) (reg : Nat) (value : Word) (s : State) :
    Host.Outcome State Fault Refusal :=
  s.run dt (Dev.clearIrq reg value)

/-- SYS_STATUS_CLEAR (05 R147): from either port. -/
def execSysStatusClear (dt : Nat) (_port : RegPort) (value : Word) (s : State) : Host.Outcome State Fault Refusal :=
  s.run dt (Dev.clearSys value)

/-- TW_STATUS_CLEAR (05 R147): from either port. -/
def execTwStatusClear (dt : Nat) (_port : RegPort) (value : Word) (s : State) : Host.Outcome State Fault Refusal :=
  s.run dt (Dev.clearTw value)

/-- TW_CFG_WRITE (05 R145, R150). -/
def execTwCfgWrite (dt : Nat) (port : RegPort) (value : Word) (s : State) : Host.Outcome State Fault Refusal :=
  s.run dt (Dev.ownedWrite port (Dev.writeTwCfg value))

/-- One register of a READ_REG transaction: its data follow most significant byte first (05 R136). -/
def Dev.readOne (addr : Nat) (d : Dev) : Dev :=
  ({ d with regs.spiOut := d.regs.spiOut ++ (leBytes 4 (d.readReg addr).toNat).reverse }).readEffect addr

/-- A READ_REG transaction of `n` registers from `addr` on (05 R136, R152). -/
def Dev.readRegs (addr n : Nat) (d : Dev) : Dev :=
  (List.range n).foldl (fun d k => d.readOne (addr + 4 * k)) { d with regs.spiOut := [] }

/-- TOCSIN_TIME_LO_READ (05 R136, R151, R152): a READ_REG transaction, of which a read of TIME_LO changes state beyond what the
port drives; the table has no other row for READ_REG (DESIGN CHOICE log 121). Ignored in reset. -/
def execTocsinTimeLoRead (dt addr count : Nat) (s : State) : Host.Outcome State Fault Refusal :=
  s.runIf dt (fun d => !d.inReset) (Dev.readRegs addr count)

/-! ## SPI instructions -/

/-- The seven instructions of the port. -/
inductive SpiInstr where
  | writeReg | readReg | fastStatus | cmdPush | rspPull | evtPull | dataPull
deriving DecidableEq, Repr

/-- Which instruction an instruction byte is, and whether in quad form (05 R135). -/
def spiInstr (b : Byte) : Option (SpiInstr × Bool) :=
  match b.toNat with
  | 0x02 => some (.writeReg, false) | 0x03 => some (.readReg, false) | 0x05 => some (.fastStatus, false)
  | 0x10 => some (.cmdPush, false) | 0x11 => some (.rspPull, false) | 0x12 => some (.evtPull, false)
  | 0x13 => some (.dataPull, false) | 0x30 => some (.cmdPush, true) | 0x31 => some (.rspPull, true)
  | 0x32 => some (.evtPull, true) | 0x33 => some (.dataPull, true)
  | _ => none

/-- SPI_UNKNOWN_INSTRUCTION (05 R135): a byte that is no instruction; nothing is driven, and the flag is set from the fuse read on.
A byte that is an instruction sets nothing: its transaction has a row of its own. -/
def execSpiUnknownInstruction (dt : Nat) (code : Byte) (s : State) : Host.Outcome State Fault Refusal :=
  s.runIf dt (fun d => !d.inReset && (spiInstr code).isNone) fun d =>
    ({ d with regs.spiOut := [] }).onlyIf d.portAnswers (Dev.flagSys 1)

/-- The byte of FAST_STATUS (05 R139, R152, R729). -/
def Dev.fastStatus (d : Dev) : Nat :=
  if !d.portAnswers then 0
  else
    wbit 7 d.toc.halted + wbit 6 d.booted + wbit 5 (d.regs.irqStatus &&& d.regs.irqEnable != 0)
      + wbit 4 (!d.proto.q1.isEmpty) + wbit 3 (d.delivers && !d.proto.q4.isEmpty)
      + wbit 2 (d.delivers && d.dataReady != 0) + wbit 1 (1046 ≤ d.cmdqFree) + wbit 0 (d.regs.sysRws != 0)

/-- SPI_FAST_STATUS. -/
def execSpiFastStatus (dt : Nat) (s : State) : Host.Outcome State Fault Refusal :=
  s.runIf dt (fun d => !d.inReset) fun d => { d with regs.spiOut := u8 d.fastStatus }

/-- A CMD_PUSH with the bytes of one transaction, in ACTIVE, WATCH or a halt (05 R140); between the reply of SYS_POWER SLEEP and
SLEEP each is discarded as one larger than CMDQ_FREE (03 R728). -/
def Dev.pushPacket (bytes : List Byte) (d : Dev) : Dev :=
  if bytes.isEmpty then d
  else if bytes.length < 8 then d.flagSys 2
  else if d.pwr.sleepSince.isSome && !d.toc.halted then d.flagSys 4
  else if 1024 < at16 bytes 6 then d.portReply 1 bytes .badLength
  else if d.cmdqFree < packetLength bytes then d.flagSys 4
  else if bytes.length != packetLength bytes then d.flagSys 2
  else if !crcGood bytes then d.portReply 1 bytes .badCrc
  else { d with proto.q0 := d.proto.q0 ++ [{ src := .spi, doneAt := d.now, bytes := bytes }] }

/-- A CMD_PUSH in SLEEP wakes the device once its packet, or a header with param_len above 1,024, is complete (03
R92). -/
def Dev.pushAsleep (bytes : List Byte) (d : Dev) : Dev :=
  if bytes.isEmpty then d
  else if bytes.length < 8 then d.flagSys 2
  else if 1024 < at16 bytes 6 then d.wake .spi (bytes.take 8) true
  else if bytes.length != packetLength bytes then d.flagSys 2
  else d.wake .spi bytes false

/-- SPI_CMD_PUSH (05 R140, R152): before BOOT_DONE it is discarded. -/
def execSpiCmdPush (dt : Nat) (bytes : List Byte) (s : State) : Host.Outcome State Fault Refusal :=
  s.runIf dt (fun d => !d.inReset) fun d =>
    let d1 := { d with regs.spiOut := [] }
    if d.toc.halted then d1.pushPacket bytes
    else if !d.booted then d1
    else if d.sleeping then d1.pushAsleep bytes
    else d1.pushPacket bytes

/-- Reply queues are delivered: from BOOT_DONE on and in a halt (05 R152). -/
def Dev.deliversReplies (d : Dev) : Bool := d.booted || d.toc.halted

/-- The stream no longer waits on a queue that has room again (07 R197). -/
def Dev.roomAgain (queue : Nat) (d : Dev) : Dev :=
  match d.proto.waitOn with
  | some (k, _) => if k = queue && 1038 ≤ d.replyRoom queue then { d with proto.waitOn := none } else d
  | none => d

/-- What a pull sends: `clocked` bytes of `content`, zeros beyond it. -/
def pulled (clocked : Nat) (content : List Byte) : List Byte := padTo clocked content

/-- SPI_RSP_PULL (05 R141): `clocked` bytes after the instruction, the dummy byte first. The reply leaves Q1 once all
of it has been clocked out. -/
def execSpiRspPull (dt clocked : Nat) (s : State) : Host.Outcome State Fault Refusal :=
  s.runIf dt (fun d => !d.inReset) fun d =>
    let head := if d.deliversReplies then d.proto.q1.headD [] else []
    let d1 := { d with regs.spiOut := pulled (clocked - 1) (u16 head.length ++ head) }
    if !head.isEmpty && 3 + head.length ≤ clocked then ({ d1 with proto.q1 := d1.proto.q1.drop 1 }).roomAgain 1 else d1

/-- Take the first `n` records held for a port out of Q4 (05 R142, 06 R170, 07 R221). -/
def takeRecords (forSpi : Bool) : Nat → List EvtRec → List EvtRec
  | _, [] => []
  | 0, l => l
  | n + 1, r :: l =>
    if (if forSpi then r.forSpi else r.forTw) then
      let r' := if forSpi then { r with forSpi := false } else { r with forTw := false }
      (if r'.held then [r'] else []) ++ takeRecords forSpi n l
    else r :: takeRecords forSpi (n + 1) l

/-- The records that a port still has to take, oldest first. -/
def Dev.recordsFor (d : Dev) (forSpi : Bool) : List EvtRec :=
  if d.delivers then d.proto.q4.filter fun r => if forSpi then r.forSpi else r.forTw else []

/-- SPI_EVT_PULL (05 R142): each record clocked out in full leaves. -/
def execSpiEvtPull (dt clocked : Nat) (s : State) : Host.Outcome State Fault Refusal :=
  s.runIf dt (fun d => !d.inReset) fun d =>
    let l := d.recordsFor true
    let out := pulled (clocked - 1) (u16 l.length ++ l.flatMap (·.bytes))
    { d with regs.spiOut := out, proto.q4 := takeRecords true (min l.length ((clocked - 3) / 64)) d.proto.q4 }

end Sys2Proof.Machine
end

