-- ==== Sys2Proof/Machine/TwoWire.lean ====
section
/-!
DEFINITION. The two-wire port (chapter 06): the target's pointer, register mirror and mailboxes, alerts, the controller
role with its commands, and bus recovery.
-/
namespace Sys2Proof.Machine

/-! ## Target -/

/-- The target answers its own address (06 R154, R171): from the fuse read on, or in a halt, while TARGET_EN is 1. In the first
40 µs of the boot that ends SLEEP it does not, as after RESET_N's release (DESIGN CHOICE log 125). -/
def Dev.twAnswers (d : Dev) : Bool := d.regs.twCfg.getLsbD 4 && d.portAnswers

/-- The target answers a write transfer: not while a packet is pending (06 R168). -/
def Dev.twTakesWrite (d : Dev) : Bool := d.twAnswers && d.tw.waiting.isNone

/-- An own-address not-acknowledge while a packet is pending (06 R168) (DEDUCED log 19). -/
def Dev.twNack (d : Dev) : Dev :=
  let d1 := { d with tw.acked := none }
  if d.twAnswers && d.tw.waiting.isSome then { d1 with regs.nackCount := satAdd 511 d.regs.nackCount 1 } else d1

/-- The pointer at the end of a transfer that leaves it at `p` (06 R162): a mailbox pointer returns to its base. -/
def settlePointer (p : Nat) : Nat := if 0x8000 ≤ p ∧ p < 0xB000 then p / 0x1000 * 0x1000 else p

/-- The pointer after `n` acknowledged data bytes of a write transfer: it wraps within its 32-byte page (06 R161). -/
def pageWalk (p n : Nat) : Nat := p / 32 * 32 + (p + n) % 32

/-- The pointer after `n` bytes of a read transfer (06 R161): 16 bits, without a page wrap (DEDUCED log 126). -/
def readWalk (p n : Nat) : Nat := (p + n) % 0x10000

/-- The data bytes of a write transfer into the register mirror (06 R163), with how many were acknowledged: `word` holds the bytes
of the present word that arrived in order; the fourth one writes the register. Once a write has cleared TARGET_EN the target
acknowledges nothing more (R154). -/
def Dev.mirrorWrite : List Byte → Nat → List Byte → Dev → Nat × Dev
  | [], _, _, d => (0, d)
  | b :: rest, p, word, d =>
    if !d.twAnswers then (0, d)
    else
      let word' := if p % 4 = 0 then [b] else if word.length = p % 4 then word ++ [b] else []
      let r :=
        if word'.length = 4 then
          Dev.mirrorWrite rest (pageWalk p 1) [] (d.writeReg .twoWire (p - 3) (BitVec.ofNat 32 (leNat word')))
        else Dev.mirrorWrite rest (pageWalk p 1) (if p % 4 = 3 then [] else word') d
      (r.1 + 1, r.2)

/-- Expected length of a packet whose first 8 bytes are present (06 R165). -/
def boxLength (box : List Byte) : Option Nat := if 8 ≤ box.length then some (packetLength box) else none

/-- The header in the box says param_len above 1,024 (06 R166). -/
def boxTooLong (box : List Byte) : Bool := 8 ≤ box.length && 1024 < at16 box 6

/-- Data bytes of one transfer added to the box at pointer `p` (06 R165, R166): the box after them and how many were
acknowledged. A byte whose offset is not the fill count, one beyond the expected length, or one after a header with
param_len above 1,024 is refused, which ends the transfer. -/
def boxWrite : List Byte → Nat → List Byte → List Byte × Nat
  | [], _, box => (box, 0)
  | b :: rest, p, box =>
    let full := match boxLength box with
      | some l => l ≤ box.length
      | none => false
    if p - 0x8000 != box.length || full || boxTooLong box then (box, 0)
    else
      let (box', n) := boxWrite rest (pageWalk p 1) (box ++ [b])
      (box', n + 1)

/-- The command mailbox takes data bytes: not before BOOT_DONE, nor once a SLEEP entry began (06 R171, 03 R728), also in a halt
that began before SLEEP did (DESIGN CHOICE log 127). -/
def Dev.mailboxOpen (d : Dev) : Bool := (d.booted || d.toc.halted) && d.pwr.sleepSince.isNone

/-- The bytes of a write transfer whose address was acknowledged, pointer first (06 R159-R161, R163, R165): the pointer stands where
they leave it, and `acked` counts those acknowledged. -/
def Dev.twWritten (bytes : List Byte) (d : Dev) : Dev :=
  match bytes with
  | [] => { d with tw.acked := some 0 }
  | [_] => { d with tw.acked := some 1 }
  | hi :: lo :: rest =>
    let p := 256 * hi.toNat + lo.toNat
    if 0xB000 ≤ p then { d with tw.acked := some 1 }
    else if p < 0x8000 then
      let (n, e) := Dev.mirrorWrite rest p [] d
      { e with tw.pointer := pageWalk p n, tw.acked := some (2 + n) }
    else if p < 0x9000 then
      if rest.isEmpty || !d.mailboxOpen then { d with tw.pointer := p, tw.acked := some 2 }
      else
        let (box, n) := boxWrite rest p (if p = 0x8000 then [] else d.tw.box)
        { d with tw.box := box, tw.pointer := pageWalk p n, tw.acked := some (2 + n) }
    else { d with tw.pointer := pageWalk p rest.length, tw.acked := some bytes.length }

/-- The answer to a header with param_len above 1,024, known when byte 7 arrives (06 R166; 03 R92 in SLEEP). -/
def Dev.boxRefused (d : Dev) : Dev :=
  let box := d.tw.box
  if boxTooLong box then
    let d1 := { d with tw.box := [] }
    if d.sleeping then d1.wake .twoWire (box.take 8) true else d1.portReply 3 box .badLength
  else d

/-- What the STOP or repeated START of a write transfer that leaves the fill count at L does (06 R166; 03 R92 in SLEEP). -/
def Dev.boxDone (d : Dev) : Dev :=
  let box := d.tw.box
  if boxLength box != some box.length then d
  else
    let d1 := { d with tw.box := [] }
    if d.sleeping then d1.wake .twoWire box false
    else if !crcGood box then d1.portReply 3 box .badCrc
    else if box.length ≤ d.mailRoom then
      { d1 with proto.q2 := d1.proto.q2 ++ [{ src := .twoWire, doneAt := d.now, bytes := box }] }
    else { d with tw.waiting := some box }

/-- A transfer ends with its pointer where it stands (06 R162). -/
def Dev.twSettled (d : Dev) : Dev := { d with tw.pointer := settlePointer d.tw.pointer }

/-- A whole write transfer (06 R155, R159-R168). -/
def Dev.twWrite (bytes : List Byte) (d : Dev) : Dev :=
  if d.twTakesWrite then (d.twWritten bytes).twSettled.boxRefused.boxDone else d.twNack

/-- TW_POINTER_WRITE (06 R159-R163): a write transfer whose first two bytes are the pointer; further bytes write the
register mirror, or are acknowledged and ignored in the reply and event mailboxes. -/
def execTwPointerWrite (dt : Nat) (bytes : List Byte) (s : State) : Host.Outcome State Fault Refusal :=
  s.runIf dt (fun d => !d.inReset) (Dev.twWrite bytes)

/-- The pointer that these bytes set lies in the command mailbox (06 R160). -/
def aimsAtMailbox (bytes : List Byte) : Bool := 3 ≤ bytes.length && at8 bytes 0 / 16 == 8

/-- TW_COMMAND_MAILBOX_WRITE (06 R165, R166): a write transfer, pointer first, with data bytes for 0x8000-0x8FFF. -/
def execTwCommandMailboxWrite (dt : Nat) (bytes : List Byte) (s : State) : Host.Outcome State Fault Refusal :=
  s.runIf dt (fun d => !d.inReset && aimsAtMailbox bytes) (Dev.twWrite bytes)

/-- TW_PENDING_PACKET_ENTERS_Q2 (06 R168). -/
def execTwPendingPacketEntersQ2 (dt : Nat) (s : State) : Host.Outcome State Fault Refusal :=
  s.runIf dt (fun d => d.booted || d.toc.halted) fun d =>
    match d.tw.waiting with
    | none => d
    | some b =>
      if b.length ≤ d.mailRoom then
        { d with tw.waiting := none, tw.box := [],
                 proto.q2 := d.proto.q2 ++ [{ src := .twoWire, doneAt := d.now, bytes := b }] }
      else d

/-- A read transfer of `count` bytes from a mailbox whose content is `content`: past the end of the mailbox's 4,096 bytes every byte
is zero (06 R161, R162). -/
def Dev.mailRead (base count : Nat) (content : List Byte) (d : Dev) : Dev :=
  { d with tw.sent := pulled count (content.take 0x1000), tw.pointer := readWalk base count }

/-- A read transfer acts at the pointer of this mailbox. -/
def Dev.readsAt (base : Nat) (d : Dev) : Bool := d.twAnswers && d.tw.pointer / 0x1000 == base / 0x1000

/-- state of the mailbox status (06 R167). -/
def Dev.mailState (d : Dev) : Nat := if d.tw.waiting.isSome then 2 else if d.tw.box.isEmpty then 0 else 1

/-- A read transfer in the command mailbox (06 R167). -/
def Dev.statusRead (count : Nat) (d : Dev) : Dev :=
  d.mailRead 0x8000 count (u16 d.tw.box.length ++ u16 (min d.mailRoom 0xFFFF) ++ u8 d.mailState)

/-- TW_MAILBOX_STATUS_READ (06 R167). -/
def execTwMailboxStatusRead (dt count : Nat) (s : State) : Host.Outcome State Fault Refusal :=
  s.runIf dt (Dev.readsAt 0x8000) fun d => (d.statusRead count).twSettled

/-- A read transfer in the reply mailbox: the reply leaves Q3 once all of it has been sent (06 R169). -/
def Dev.replyRead (count : Nat) (d : Dev) : Dev :=
  let head := if d.deliversReplies then d.proto.q3.headD [] else []
  let d1 := d.mailRead 0x9000 count (u16 head.length ++ head)
  if !head.isEmpty && 2 + head.length ≤ count then ({ d1 with proto.q3 := d1.proto.q3.drop 1 }).roomAgain 3 else d1

/-- TW_REPLY_MAILBOX_READ (06 R169). -/
def execTwReplyMailboxRead (dt count : Nat) (s : State) : Host.Outcome State Fault Refusal :=
  s.runIf dt (Dev.readsAt 0x9000) fun d => (d.replyRead count).twSettled

/-- Records of which a read transfer of `count` bytes in the event mailbox sends all 64 bytes: the mailbox's 4,096 bytes hold 63
(06 R161, R170). -/
def recordsSent (count : Nat) : Nat := min 63 ((count - 2) / 64)

/-- A read transfer in the event mailbox: each record sent in full is taken (06 R170). -/
def Dev.eventRead (count : Nat) (d : Dev) : Dev :=
  let l := d.recordsFor false
  let d1 := d.mailRead 0xA000 count (u16 l.length ++ l.flatMap (·.bytes))
  { d1 with proto.q4 := takeRecords false (min l.length (recordsSent count)) d1.proto.q4 }

/-- TW_EVENT_MAILBOX_READ (06 R170). -/
def execTwEventMailboxRead (dt count : Nat) (s : State) : Host.Outcome State Fault Refusal :=
  s.runIf dt (Dev.readsAt 0xA000) fun d => (d.eventRead count).twSettled

/-- `n` bytes of the register mirror from pointer `p` on (06 R161, R164): a word is latched on its first byte read, and
past 0x7FFF every byte is zero. -/
def Dev.mirrorBytes : Nat → Nat → Option Word → Dev → List Byte × Dev
  | 0, _, _, d => ([], d)
  | n + 1, p, latch, d =>
    if 0x8000 ≤ p then
      let (l, e) := Dev.mirrorBytes n (p + 1) none d
      (0 :: l, e)
    else
      let w := latch.getD (d.readReg p)
      let e := if latch.isNone then d.readEffect p else d
      let (l, f) := Dev.mirrorBytes n (p + 1) (if p % 4 = 3 then none else some w) e
      (w.extractLsb' (8 * (p % 4)) 8 :: l, f)

/-- A read transfer in the register mirror (06 R164). -/
def Dev.mirrorRead (count : Nat) (d : Dev) : Dev :=
  let (l, e) := Dev.mirrorBytes count d.tw.pointer none d
  { e with tw.sent := l, tw.pointer := readWalk d.tw.pointer count }

/-- TW_MIRROR_READ (06 R164). -/
def execTwMirrorRead (dt count : Nat) (s : State) : Host.Outcome State Fault Refusal :=
  s.runIf dt (fun d => d.twAnswers && d.tw.pointer < 0x8000) fun d => (d.mirrorRead count).twSettled

/-- The bytes that a read transfer has sent so far have their effect, at whichever range the pointer stands (06 R160, R183). -/
def Dev.twReadPart (count : Nat) (d : Dev) : Dev :=
  if d.tw.pointer < 0x8000 then d.mirrorRead count
  else if d.tw.pointer < 0x9000 then d.statusRead count
  else if d.tw.pointer < 0xA000 then d.replyRead count
  else if d.tw.pointer < 0xB000 then d.eventRead count
  else d

/-- TW_ALERT_RESPONSE (06 R172-R174): while TW_ALERT_N is low the device sends its address; `lostAt` is the bit at which
another device's lower address won. A device that sent its address in full releases TW_ALERT_N. -/
def execTwAlertResponse (dt : Nat) (lostAt : Option Nat) (s : State) : Host.Outcome State Fault Refusal :=
  s.runIf dt (fun d => d.twAnswers && d.alertLow) fun d =>
    match lostAt with
    | some _ => { d with tw.sent := [] }
    | none => { d with tw.sent := u8 (2 * (0x60 + d.pwr.twAddr.toNat)), regs.alertAcked := true }

/-- How far a transfer in progress had come (06 R183): the bytes acknowledged or sent so far keep their effect; the pointer is where
they left it. -/
def Dev.twPart (part : TwPart) (d : Dev) : Dev :=
  match part with
  | .address => d
  | .write bytes => if d.twTakesWrite then d.twWritten bytes else d.twNack
  | .read count => d.twReadPart count

/-- TW_TARGET_TIMEOUT (06 R183, R187): with TIMEOUT_EN set, the target's state machine is reset in the transfer in progress. No STOP
ended it, so a packet complete by then is not submitted. The event tells the pointer at the reset. -/
def execTwTargetTimeout (dt : Nat) (sdaHeld : Bool) (part : TwPart) (s : State) : Host.Outcome State Fault Refusal :=
  s.runIf dt (fun d => d.twAnswers && d.regs.twCfg.getLsbD 8) fun d =>
    let e := d.twPart part
    (e.twSettled.boxRefused.flagTw 2).emit 18 (ub sdaHeld ++ u16 e.tw.pointer)

/-- TW_BUS_START_STOP (06 R175): a START or STOP of another controller. -/
def execTwBusStartStop (dt : Nat) (isStop : Bool) (s : State) : Host.Outcome State Fault Refusal :=
  s.runIf dt (fun d => !d.inReset) fun d =>
    if isStop then { d with tw.busBusy := false, tw.lastStop := some d.now } else { d with tw.busBusy := true }

/-! ## Controller -/

/-- Number reported for the running transfer: 0 for an EEPROM read (09 R273). -/
def Dev.xferNo (d : Dev) : Nat :=
  match d.twc.req with
  | some r => if r.input.isSome then 0 else d.twc.xfer
  | none => d.twc.xfer

/-- The running transfer ends with `result` (06 R180, R186): an internal EEPROM read reports to its input instead (09
R273, R277). The controller then serves a waiting EEPROM read. -/
def Dev.twcEnd (result wrDone : Nat) (rd : List Byte) (d : Dev) : Dev :=
  match d.twc.req with
  | none => d
  | some r =>
    let idle := { d with twc.state := 0, twc.req := none }
    match r.input with
    | some i =>
      (idle.eepDone i (if result = 1 then 1 else if result = 2 ∨ result = 3 then 2 else 4)
        (if result = 1 then rd.take 32 else [])).pumpEep
    | none => ({ idle with twc.result := result, twc.wrDone := min wrDone r.wr.length, twc.rdData := rd.take r.rdLen }).pumpEep

/-- tBUF in REFCLK cycles, by CTRL_SPEED (06 R176). -/
def tBuf (speed : Nat) : Nat := if speed = 0 then 164 else if speed = 1 then 44 else 17

/-- The bus is free after a STOP (06 R175): it has been seen, no START since, and tBUF has passed. -/
def Dev.busFree (d : Dev) : Bool :=
  !d.tw.busBusy && d.tw.lastStop.any fun t => d.sinceRef t (tBuf (d.regs.twCfg.extractLsb' 6 2).toNat)

/-- TWC_ATTEMPT_START (06 R175): with CTRL_EN set, an attempt starts once the bus is free: tBUF after a STOP, or once SCL and SDA
have both been high for 50 µs (`linesHigh`). -/
def execTwcAttemptStart (dt : Nat) (linesHigh : Bool) (s : State) : Host.Outcome State Fault Refusal :=
  s.runIf dt (fun d => d.izosh && d.ctrlEn && (d.twc.state == 1 || d.twc.state == 3) && (d.busFree || linesHigh)) fun d =>
    { d with twc.state := 2, twc.attempts := d.twc.attempts + 1, twc.since := d.now, tw.busBusy := true }

/-- TWC_BUS_FREE_TIMEOUT (06 R175): the bus has not become free within 25 ms: result 0x05. -/
def execTwcBusFreeTimeout (dt : Nat) (s : State) : Host.Outcome State Fault Refusal :=
  s.runIf dt (fun d => d.izosh && (d.twc.state == 1 || d.twc.state == 3) && d.sinceUs d.twc.since 25000 && !d.busFree)
    (fun d => d.twcEnd 5 d.twc.wrDone d.twc.rdData)

/-- TW_ARB_LOST (06 R177, R179, R186): the attempt is lost at a bit of byte `byteNo`, before which `byteNo` - 1 data bytes were
acknowledged or read; the eighth loss ends the transfer with result 0x04, any other waits for the winner's STOP. -/
def execTwArbLost (dt byteNo bitNo : Nat) (rdData : List Byte) (s : State) : Host.Outcome State Fault Refusal :=
  s.runIf dt (fun d => d.izosh && d.twc.state == 2) fun d =>
    let own := (d.twc.req.bind (·.input)).isNone
    let wrLen := ((d.twc.req.map (·.wr)).getD []).length
    let (wr, rd) := (min (byteNo - 1) wrLen, rdData.take (min (byteNo - 1 - wrLen) ((d.twc.req.map (·.rdLen)).getD 0)))
    let d1 := (d.flagTw 1).onlyIf own fun d => { d with
      twc.arbLosses := d.twc.arbLosses + 1, twc.wrDone := wr, twc.rdData := rd }
    let d2 := d1.emit 16 (u16 d.xferNo ++ u8 d.twc.attempts ++ u8 byteNo ++ u8 bitNo)
    if 8 ≤ d.twc.attempts then d2.twcEnd 4 wr rd else { d2 with twc.state := 3, twc.since := d.now }

/-- TWC_TRANSFER_END (06 R180): done (0x01), address or data not acknowledged (0x02, 0x03) or PEC mismatch (0x07), with
a STOP. -/
def execTwcTransferEnd (dt result wrDone : Nat) (rdData : List Byte) (s : State) :
    Host.Outcome State Fault Refusal :=
  s.runIf dt (fun d => d.izosh && d.twc.state == 2 && [1, 2, 3, 7].contains result &&
      (d.twc.req.bind (·.input)).isNone) fun d =>
    ({ d with tw.busBusy := false, tw.lastStop := some d.now }).twcEnd result wrDone rdData

/-- TWC_SCL_LOW_TIMEOUT (06 R180, R186): SCL low for 25 ms ends the transfer with result 0x06, after so many bytes. -/
def execTwcSclLowTimeout (dt wrDone : Nat) (rdData : List Byte) (s : State) : Host.Outcome State Fault Refusal :=
  s.runIf dt (fun d => d.izosh && d.twc.state == 2 && d.sinceUs d.twc.since 25000) fun d => d.twcEnd 6 wrDone rdData

/-- The recovery sequence ends with `result` (06 R182, R187). -/
def Dev.recovered (result pulses : Nat) (d : Dev) : Dev :=
  let d1 := { d with twc.state := 0, twc.req := none }
  let d2 := if result = 0 then { d1.flagTw 4 with tw.busBusy := false, tw.lastStop := some d.now } else d1
  (d2.emit 17 (u8 result ++ u8 pulses ++ u8 d.twc.recCause)).pumpEep

/-- TW_RECOVERY_DONE (06 R182): SDA seen released after `pulses` pulses, or still low after nine. -/
def execTwRecoveryDone (dt pulses : Nat) (released : Bool) (s : State) : Host.Outcome State Fault Refusal :=
  s.runIf dt (fun d => d.up && d.twc.state == 4) fun d =>
    if released then d.recovered 0 (min pulses 9) else d.recovered 1 9

/-- TW_RECOVERY_SCL_TIMEOUT (06 R182): SCL not high for 50 µs within 25 ms. -/
def execTwRecoverySclTimeout (dt : Nat) (s : State) : Host.Outcome State Fault Refusal :=
  s.runIf dt (fun d => d.up && d.twc.state == 4 && d.sinceUs d.twc.since 25000) (Dev.recovered 2 0)

/-- TWC_XFER (06 R184). From its acceptance on the transfer is the last one of R186, with result "none yet" until it ends
(DEDUCED log 128). -/
def twcXferBody : Body := fun q d =>
  let addr := q.p8 0
  let wr := q.p8 2
  let rd := q.p8 3
  checked d [(q.len < 4 || 32 < wr || 32 < rd || (wr == 0 && rd == 0) || q.len != 4 + wr, .badLength),
    (q.badHeader || addr < 0x08 || 0x77 < addr || addr == 0x60 + d.pwr.twAddr.toNat || 4 ≤ q.p8 1, .badParam),
    (q.notSystem d, .notOwner), (!d.ctrlEn || d.inWatch, .wrongState), (d.twc.state != 0, .busy)] <|
    let n := if d.twc.xfer = 0xFFFF then 1 else d.twc.xfer + 1
    { status := .deferred, payload := u16 n, dev := { d with
        twc.state := 1, twc.result := 0, twc.xfer := n, twc.attempts := 0, twc.arbLosses := 0, twc.wrDone := 0, twc.rdData := [],
        twc.since := d.now,
        twc.req := some { addr := addr, flags := q.p8 1, wr := slice q.params 4 wr, rdLen := rd, input := none } } }

/-- The row TWC_XFER. -/
def execTwcXfer (dt : Nat) (s : State) : Host.Outcome State Fault Refusal := s.command dt 0x0C01 twcXferBody

/-- TWC_RECOVER (06 R185). -/
def twcRecoverBody : Body := fun q d =>
  checked d [(q.len != 0, .badLength), (q.badHeader, .badParam), (q.notSystem d, .notOwner),
    (!d.ctrlEn || d.inWatch, .wrongState), (d.twc.state != 0, .busy)] <|
    deferred { d with twc.state := 4, twc.recCause := 0, twc.since := d.now }

/-- The row TWC_RECOVER. -/
def execTwcRecover (dt : Nat) (s : State) : Host.Outcome State Fault Refusal := s.command dt 0x0C02 twcRecoverBody

/-- The 40-byte payload of TWC_STATUS (06 R186); an internal EEPROM read does not show (09 R273). -/
def Dev.twcPayload (d : Dev) : List Byte :=
  let st := if (d.twc.req.bind (·.input)).isSome then 0 else d.twc.state
  u8 st ++ u8 d.twc.result ++ u16 d.twc.xfer ++ u8 d.twc.arbLosses ++ u8 d.twc.wrDone
    ++ u8 d.twc.rdData.length ++ u8 0 ++ padTo 32 d.twc.rdData

/-- TWC_STATUS (06 R186). -/
def twcStatusBody : Body := fun q d =>
  checked d [(q.len != 0, .badLength), (q.badHeader, .badParam), (d.inWatch, .wrongState)] (okWith d.twcPayload d)

/-- The row TWC_STATUS. -/
def execTwcStatus (dt : Nat) (s : State) : Host.Outcome State Fault Refusal := s.command dt 0x0C03 twcStatusBody

end Sys2Proof.Machine
end

