-- ==== Sys2Proof/Machine/Protocol.lean ====
section
/-!
DEFINITION. The commands of chapter 07: PROP_SET, PROP_GET, EVT_ROUTE, SYS_OWNER, reserved opcodes, the reply queue
wait, and the application of properties at a Round boundary.
-/
namespace Sys2Proof.Machine

/-- An entry of PROP_SET (07 R211): identifier, reserved field, value. -/
structure PropEntry where
  id : Nat
  rsv : Nat
  raw : Nat

/-- The entries of a PROP_SET. -/
def propEntries (params : List Byte) : List PropEntry :=
  (entriesOf 8 params).map fun e => { id := at16 e 0, rsv := at16 e 2, raw := at32 e 4 }

/-- The first index at which `bad` holds, with the identifier there, as the payload of 07 R214. -/
def offender (ids : List Nat) (bad : Nat → Bool) : Option (List Byte) :=
  ((List.range ids.length).find? bad).map fun k => u16 k ++ u16 (ids.getD k 0)

/-- The identifier at `k` names a property that the part lacks (00 R6). -/
def Dev.idUnfitted (d : Dev) (id : Nat) : Bool := match propRow id with
  | some r => d.propUnfitted r
  | none => false

/-- The identifier is reserved, repeats an earlier one, or is of the other kind than `ctx` selects (07 R212, R215). -/
def idRefused (ids : List Nat) (ctx k : Nat) : Bool :=
  let id := ids.getD k 0
  (ids.take k).contains id || match propRow id with
    | none => true
    | some r => r.perCtx == (ctx == 0xFF)

/-- Entry `k` is refused by itself (07 R212): its identifier, its reserved field or its range. -/
def entryRefused (es : List PropEntry) (ctx k : Nat) : Bool :=
  let e := es.getD k { id := 0, rsv := 0, raw := 0 }
  idRefused (es.map (·.id)) ctx k || e.rsv != 0 || match propRow e.id with
    | none => true
    | some r => !r.inRange (r.value e.raw)

/-- The values that a list gives. -/
def propValues (es : List PropEntry) : List (Nat × Int) :=
  es.filterMap fun e => (propRow e.id).map fun r => (e.id, r.value e.raw)

/-- The agreement sets that the staged state with this list breaks, by their members (07 R212). -/
def Dev.brokenSets (d : Dev) (ctx : Nat) (vals : List (Nat × Int)) : List (List Nat) :=
  let get (id : Nat) : Int := (tabGet vals id).getD (d.stagedProp ctx id)
  let sets := if ctx = 0xFF then agreementsSystem get d.charged else agreementsCtx get
  ((sets.filter fun s => !s.2).map (·.1)).filter fun m => vals.any fun v => m.contains v.1

/-- The sender may not set properties of `ctx` (07 R205). -/
def Req.notPropOwner (q : Req) (d : Dev) : Bool := if q.ctx = 0xFF then q.notSystem d else q.notCtxOwner q.ctx d

/-- A refusal with a payload. -/
def refuseWith (st : Status) (payload : List Byte) (d : Dev) : Res := { status := st, payload := payload, dev := d }

/-- PROP_SET (07 R211-R214). -/
def propSetBody : Body := fun q d =>
  let es := propEntries q.params
  let ids := es.map (·.id)
  if q.len = 0 || q.len % 8 != 0 || 1024 < q.len then refuse .badLength d
  else match offender ids (fun k => d.idUnfitted (ids.getD k 0)) with
    | some p => refuseWith .notFitted p d
    | none =>
      if q.badHeader then refuse .badParam d
      else match offender ids (entryRefused es q.ctx) with
        | some p => refuseWith .badParam p d
        | none =>
          let vals := propValues es
          let broken := d.brokenSets q.ctx vals
          match offender ids (fun k => broken.any fun m => m.contains (ids.getD k 0)) with
          | some p => refuseWith .badParam p d
          | none =>
            checked d [(q.notPropOwner d, .notOwner),
              (d.inWatch || (q.ctx != 0xFF && (!d.ctxOpen q.ctx || d.ctxClosing q.ctx)), .wrongState)] <|
              okWith (u64 d.nextBoundary)
                { d with proto.staged := d.proto.staged ++ [{ ctx := q.ctx, entries := vals, due := d.nextBoundary }] }

/-- The row PROP_SET. -/
def execPropSet (dt : Nat) (s : State) : Host.Outcome State Fault Refusal := s.command dt 0x0005 propSetBody

/-- A property value as a u32 (two's complement where it is negative). -/
def propWord (v : Int) : List Byte := s32 v

/-- PROP_GET (07 R215): the staged values, in the order asked for. -/
def propGetBody : Body := fun q d =>
  let ids := (entriesOf 2 q.params).map fun e => at16 e 0
  if q.len = 0 || q.len % 2 != 0 || 256 < q.len then refuse .badLength d
  else if ids.any d.idUnfitted then refuse .notFitted d
  else if q.badHeader then refuse .badParam d
  else match offender ids (idRefused ids q.ctx) with
    | some p => refuseWith .badParam p d
    | none =>
      checked d [(q.ctx != 0xFF && (!d.ctxOpen q.ctx || d.ctxClosing q.ctx), .wrongState)] <|
        okWith (ids.flatMap fun id => u16 id ++ u16 0 ++ propWord (d.stagedProp q.ctx id)) d

/-- The row PROP_GET. -/
def execPropGet (dt : Nat) (s : State) : Host.Outcome State Fault Refusal := s.command dt 0x0006 propGetBody

/-- EVT_ROUTE (07 R222). -/
def evtRouteBody : Body := fun q d =>
  let a := q.p8 0
  let b := q.p8 1
  checked d [(q.len != 4, .badLength),
    (q.badHeader || 127 < a || 127 < b || b < a || 4 ≤ q.p8 2 || !zeroAt q.params 3 1, .badParam),
    (q.notSystem d, .notOwner)] <|
    ok { d with proto.deliver := (indexed d.proto.deliver).map fun (n, v) => if a ≤ n && n ≤ b then q.p8 2 else v }

/-- The row EVT_ROUTE. -/
def execEvtRoute (dt : Nat) (s : State) : Host.Outcome State Fault Refusal := s.command dt 0x0007 evtRouteBody

/-- The interface that owner and device fields name (07 R209, 13 R386). -/
def ifaceOf (owner device : Nat) : Iface := if owner = 0 then .spi else if owner = 1 then .twoWire else .fabric device

/-- owner and device are not a valid pair (07 R209). -/
def badOwner (owner device : Nat) : Bool :=
  2 < owner || (if owner = 2 then device < 1 || 0x20 < device else device != 0)

/-- The new owner cannot be reached (07 R209): a fabric device absent from the route table, or two-wire while its
target is disabled. -/
def Dev.ownerAbsent (d : Dev) (owner device : Nat) : Bool :=
  (owner == 2 && !d.inRoutes device) || (owner == 1 && !d.regs.twCfg.getLsbD 4)

/-- SYS_OWNER (07 R209): the new owner holds the system from the next sequence index. -/
def sysOwnerBody : Body := fun q d =>
  let o := q.p8 0
  let dev := q.p8 1
  checked d [(q.len != 4, .badLength), (o == 2 && !d.hasFabric, .notFitted),
    (q.badHeader || badOwner o dev || !zeroAt q.params 2 2, .badParam), (q.notSystem d, .notOwner),
    (d.ownerAbsent o dev || d.inWatch, .wrongState)] <|
    ok { d with proto.owner := ifaceOf o dev, proto.ownerGone := false }

/-- The row SYS_OWNER. -/
def execSysOwner (dt : Nat) (s : State) : Host.Outcome State Fault Refusal := s.command dt 0x0008 sysOwnerBody

/-- The packet is a factory test opcode that SEC_DEBUG_UNLOCK has opened (07 R228, 08 R244). -/
def Dev.factoryOpen (p : QPkt) (d : Dev) : Bool := opcodeFactory p.opcode && d.sec.unlock.getLsbD 0

/-- Steps 1 and 3 to 6 of 07 R202 for a taken packet whose opcode is not one of the table: what it is answered, none for a factory
test packet that passes them all. -/
def Dev.reservedAnswer (p : QPkt) (q : Req) (d : Dev) : Option Dev :=
  if !crcGood p.bytes then some (d.reply q .badCrc [])
  else match (d.cache q.src).find? (fun c => c.tag == q.tag && c.crc == q.crc) with
    | some c => some (d.replyDuplicate q c.reply)
    | none =>
      if !d.factoryOpen p then some (d.reply q .badOpcode [])
      else if q.ctx != 0xFF && d.nCtx ≤ q.ctx then some (d.reply q .notFitted [])
      else match d.authenticate q p.bytes with
        | (some st, e) => some (e.reply q st [])
        | (none, _) => none

/-- A packet whose opcode is undefined, reserved or factory test is taken and answered. -/
def Dev.reservedOpcode (p : QPkt) (d : Dev) : Dev := d.take p fun q e => (e.reservedAnswer p q).getD e

/-- Izosh takes an open factory test packet that passes every check. -/
def Dev.factoryRuns (p : QPkt) (d : Dev) : Bool :=
  d.canReply p.src && (d.reservedAnswer p (p.req (nextSeq d.proto.seq))).isNone

/-- RESERVED_OPCODE (00 R12, 07 R228). A factory test opcode that SEC_DEBUG_UNLOCK has opened and that passes authentication, being
critical (08 R236, R240), is refused by name: the spec gives it no effect (DESIGN CHOICE log 54). -/
def execReservedOpcode (dt : Nat) (s : State) : Host.Outcome State Fault Refusal :=
  let d := s.dev.tick dt
  match d.takes, d.front with
  | true, some p =>
    if opcodeDefined p.opcode then s.run dt id
    else if d.factoryRuns p then .refused (.factoryTest p.opcode)
    else s.run dt (Dev.reservedOpcode p)
  | _, _ => s.run dt id

/-- REPLY_QUEUE_WAIT_TIMEOUT (07 R197): after 800 Rounds of waiting the oldest reply of the queue is discarded. -/
def execReplyQueueWaitTimeout (dt : Nat) (s : State) : Host.Outcome State Fault Refusal :=
  s.runIf dt Dev.izosh fun d =>
    match d.proto.waitOn with
    | none => d
    | some (k, t) =>
      if t + 800 * roundTicks ≤ d.now then
        let d1 := if k = 1 then { d with proto.q1 := d.proto.q1.drop 1 } else { d with proto.q3 := d.proto.q3.drop 1 }
        (({ d1 with proto.waitOn := some (k, d.now) }).replyDropped k 1).roomAgain k
      else d

/-- One accepted list takes effect (07 R213): system properties, or those of a context that is still open. -/
def Dev.applyPropSet (p : PropSet) (d : Dev) : Dev :=
  let put (t : List (Nat × Int)) : List (Nat × Int) := p.entries.foldl (fun t e => tabSet t e.1 e.2) t
  if p.ctx = 0xFF then { d with proto.props := put d.proto.props }
  else if d.ctxOpen p.ctx then
    { d with proto.ctxProps := tabSet d.proto.ctxProps p.ctx (put ((tabGet d.proto.ctxProps p.ctx).getD [])) }
  else d

/-- PROPERTY_APPLY (07 R213): the accepted lists whose boundary has come apply in index order. -/
def Dev.applyProps (d : Dev) : Dev :=
  let due := d.proto.staged.filter fun p => p.due ≤ d.now
  let d1 := due.foldl (fun d p => d.applyPropSet p) d
  { d1 with proto.staged := d.proto.staged.filter fun p => d.now < p.due }

/-- A list that applies at this boundary names a property for which `p` holds (04 R117). -/
def Dev.applies (d : Dev) (p : Nat → Bool) : Bool :=
  d.proto.staged.any fun s => s.due ≤ d.now && s.ctx == 0xFF && s.entries.any fun e => p e.1

end Sys2Proof.Machine
end

