-- ==== Sys2Proof/Machine/Contexts.lean ====
section
/-!
DEFINITION. Contexts (chapter 13): the freeze and the commit of the plan (R359,
R365), the pager's ends, dwell ends and starvation, and the commands of the chapter, with SLOT_PIN (12 R346, R347).
-/
namespace Sys2Proof.Machine

/-! ## The cycle (R359) -/

/-- TRAVERSE_PLAN_FREEZE: the plan for the next boundary is built on the state as it will stand there, with every change
accepted so far. -/
def Dev.freeze (d : Dev) : Dev :=
  let b := d.nextBoundary
  let going (x : InputSt) : InputSt := match x.liveDue with
    | some t => if x.mode == .starting && t ≤ b then { x with mode := .live } else x
    | none => x
  let scratch := (({ d with now := b, rf.inputs := d.rf.inputs.map going }.applyActs).applyPins).joinAll
  let plan := scratch.buildPlan
  { d with trav.plan := some (b, d.now, plan), trav.restored := [] }

/-- The row TRAVERSE_PLAN_FREEZE: 65,536 ticks before a boundary. -/
def execTraversePlanFreeze (dt : Nat) (s : State) : Host.Outcome State Fault Refusal :=
  s.runIf dt (fun d => d.active && d.now % roundTicks == 65536) Dev.freeze

/-- Contexts that the plan dispatches from parked state. -/
def Dev.planRestores (d : Dev) : List Nat :=
  match d.trav.plan with
  | some (_, _, items) => (items.filterMap (·.inn)).filterMap fun e => if d.entParked e then some (d.entNum e) else none
  | none => []

/-- PAGER_RESTORE (R372): a restore of the frozen plan ends between the freeze and the boundary. -/
def execPagerRestore (dt ctx : Nat) (s : State) : Host.Outcome State Fault Refusal :=
  s.runIf dt (fun d => d.active && d.planRestores.contains ctx && !d.trav.restored.contains ctx) fun d =>
    { d with trav.restored := d.trav.restored ++ [ctx] }

/-- PAGER_PARK (R372): the state of a withdrawn context reaches Deep Store and its shadow bank is free. -/
def execPagerPark (dt ctx : Nat) (s : State) : Host.Outcome State Fault Refusal :=
  s.runIf dt (fun d => d.active && d.trav.parking.any (·.1 == ctx)) fun d =>
    { d with trav.parking := d.trav.parking.eraseP (·.1 == ctx) }

/-- The dwell of context `c` has ended (R363): its check result is delivered, and a SCAN goes to its next channel. -/
def Dev.dwellEnds (c : Nat) (d : Dev) : Dev :=
  match d.ctx? c with
  | none => d
  | some x =>
    if x.dwellDone || x.fg || x.state != .running || !(x.dwellEnd.any (· ≤ d.now)) then d
    else (d.deliverCheck c).setCtx c fun x => { x with dwellDone := true }

/-- DWELL_END. -/
def execDwellEnd (dt ctx : Nat) (s : State) : Host.Outcome State Fault Refusal :=
  s.runIf dt Dev.active (Dev.dwellEnds ctx)

/-- A SCAN whose dwell has ended moves to the next channel of its list, the first after the last (R363) (DEDUCED log 49). -/
def Dev.scanNext (c : Nat) (d : Dev) : Dev :=
  match d.ctx? c with
  | none => d
  | some x => match x.tuning with
    | none => d
    | some t =>
      if x.kind != 9 then d
      else
        let k := if x.scanAt + 1 < t.count then x.scanAt + 1 else 0
        let f := t.freq + k * t.step
        let e := (d.setCtx c fun x => { x with scanAt := k }).demodCold c
        if x.dab then
          let e := e.onlyIf (x.state == .running) (Dev.ctxOut c 2 false)
          (e.leaveInst c).joinInst c
        else match x.slot, x.input, segmentOf f with
          | some s, some i, some n => e.retuneSlot s (4 * i + n) (tunedWord n f (searchOffset x.std))
          | _, _, _ => e

/-- The change drops a planned dispatch of its context (R365): a close, suspend or retune. -/
def CtxAct.drops : CtxAct → Bool
  | .close | .suspend | .tune _ => true
  | .config _ _ | .resume => false
/-- Contexts that a change accepted after the freeze closes, suspends or retunes at this boundary (R365). -/
def Dev.lateCtxs (d : Dev) (frozen : Nat) : List Nat :=
  (d.trav.acts.filter fun a => a.due ≤ d.now && frozen ≤ a.accepted && a.act.drops).map (·.ctx)
/-- The entity concerns one of the contexts `l`. -/
def Dev.entIn (d : Dev) (l : List Nat) : Ent → Bool
  | .ctx c => l.contains c
  | .mem c => l.contains c
  | .inst n => (d.members n).all fun x => l.contains x.1

/-- The entity runs. -/
def Dev.entRuns (d : Dev) : Ent → Bool
  | .ctx c => (d.ctx? c).any (·.state == .running)
  | .mem c => (d.ctx? c).any (·.state == .running)
  | .inst n => (d.inst? n).any (·.running)
/-- The entity exists and waits. -/
def Dev.entWaits (d : Dev) : Ent → Bool
  | .ctx c => (d.ctx? c).any (·.waits)
  | .mem c => (d.ctx? c).any (·.waits)
  | .inst n => (d.inst? n).any (!·.running)

/-- An automatic action abandoned under R365. -/
def Dev.abandon (d : Dev) : Dev := { d with trav.abandoned := satAdd 0xFFFFFFFF d.trav.abandoned 1 }

/-- The outgoing half of a plan item. -/
def Dev.commitOut (v : Ent × OutCause) (d : Dev) : Dev :=
  match v.2 with
  | .rotation => { d.withdraw v.1 2 with trav.rotations := satAdd 0xFFFFFFFF d.trav.rotations 1 }
  | .preempt by_ r => d.preempt v.1 by_ r

/-- A pre-emption that a host command made needless: CTX_PREEMPTED with result "abandoned" (R365), for the victim as it
stood in `before`. -/
def Dev.preemptAbandoned (v : Ent × OutCause) (before d : Dev) : Dev :=
  match v.2 with
  | .rotation => d
  | .preempt by_ r =>
    (before.entCtxs v.1).foldl (fun d c => Dev.preemptEvent c by_ r 1 before d) d

/-- One item of the frozen plan at its boundary (R365). `late` are the contexts with a change accepted after the freeze,
`before` is the state before the boundary's changes. -/
def Dev.commitItem (late : List Nat) (it : PlanItem) (before d : Dev) : Dev :=
  match it.inn with
  | none => d
  | some e =>
    if d.entIn late e || !d.entWaits e then d.abandon     -- the dispatch is dropped, the outgoing context keeps running
    else
      let stay := it.out.filter fun v => d.entRuns v.1
      let gone := it.out.filter fun v => !d.entRuns v.1
      let d1 := gone.foldl (fun d v => (Dev.preemptAbandoned v before d).abandon) d
      let fits := !gone.isEmpty && (d1.place e none).isSome
      let d2 := if fits then d1 else stay.foldl (fun d v => d.commitOut v) d1
      match d2.place e (stay.head?.bind fun v => d1.entSlot v.1) with
      | some d3 =>
        let paged := bit (d2.entParked e)
        { d3 with trav.paging := (d3.trav.paging.1 + paged, d3.trav.paging.2) }
      | none => d2

/-- Foreground contexts tuned, resumed or reclassified after the freeze that need no restore are dispatched now (R365). -/
def Dev.commitLate (d : Dev) : Dev :=
  (sortBy (fun e => [d.entNum e]) ((d.waitingEnts true).filter fun e => d.entInput e && !d.entParked e)).foldl
    (fun d e => match d.preemptLoop e 65 [] none with
      | some (_, d1) => d1
      | none => d) d

/-- Background entities whose dwell ended and that keep running start it anew (R360). -/
def Dev.restartDwell (d : Dev) : Dev :=
  let one (d : Dev) (x : Nat × CtxSt) : Dev :=
    if !x.2.fg && x.2.state == .running && x.2.dwellEnd.any (· ≤ d.now) then
      (d.dropMeasure x.1).setCtx x.1 fun y => { y with
        dwellEnd := some (d.now + d.dwellOf y.kind * roundTicks), dwellDone := false, partialM := false }
    else d
  let d1 := d.trav.ctxs.foldl one d
  d1.trav.insts.foldl (fun d (n, y) =>
    if y.running && y.dwellEnd.any (· ≤ d.now) then
      d.setInst n fun y => { y with
        dwellEnd := some (d.now + d.dwellOf (((d.ctx? y.anchor).map (·.kind)).getD 0) * roundTicks) }
    else d) d1

/-- First tunings that found no slot: CTX_STATE from OPEN to READY. -/
def Dev.flushTuned (d : Dev) : Dev :=
  d.trav.ctxs.foldl (fun d x => match x.2.evOld with
    | some old => (d.setCtx x.1 fun y => { y with evOld := none }).ctxEvent x.1 old.code x.2.state.code 0
    | none => d) d

/-- Traverse at a Round boundary: scheduled changes, pins, the frozen plan, and dwells (R353, R359-R365). -/
def Dev.traverseRound (d : Dev) : Dev :=
  let ended := d.trav.ctxs.filter fun x => !x.2.fg && x.2.state == .running && x.2.dwellEnd.any (· ≤ d.now)
  let d0 := ended.foldl (fun d x => d.dwellEnds x.1) d
  let (late, items) := match d.trav.plan with
    | some (b, frozen, items) => if b = d.now then (d.lateCtxs frozen, items) else ([], [])
    | none => ([], [])
  let d1 := ({ d0 with trav.paging := (0, d0.trav.parking.length), trav.plan := none, trav.boundary := d.now }.applyActs).applyPins
  let d2 := d1.joinAll
  let d3 := items.foldl (fun d it => Dev.commitItem late it d0 d) d2
  let d4 := d3.commitLate
  let d5 := ended.foldl (fun d x => d.scanNext x.1) d4
  let d6 := (d5.restartDwell).flushTuned
  { d6 with trav.paging := (d6.trav.paging.1, d6.trav.parking.length) }

/-- NO_RESOURCE for context `c` (R364, R389): resource as event 65 has it, or 0x05. -/
def Dev.noResource (c : Nat) (e : Ent) (waited : Nat) (d : Dev) : Dev :=
  let d1 := d.setCtx c fun x => { x with starved := true }
  ({ d1 with trav.starved := satAdd 0xFFFFFFFF d1.trav.starved 1 }).raise 66 c
    (u8 ((d.lacks e).headD 5) ++ u8 0 ++ u16 (d.waitingEnts false |>.filter d.entInput).length ++ u32 waited)

/-- NO_RESOURCE_STARVATION (R364): every background context that has waited P.STARVE_LIMIT Rounds. -/
def execNoResourceStarvation (dt : Nat) (s : State) : Host.Outcome State Fault Refusal :=
  s.runIf dt Dev.active fun d =>
    let limit := d.propN P.starveLimit
    if limit = 0 then d
    else d.trav.ctxs.foldl (fun d (c, x) =>
      let e : Ent := match x.inst with
        | some n => if (d.inst? n).any (·.running) then .mem c else .inst n
        | none => .ctx c
      match x.waitFrom with
      | some t =>
        let waited := (d.now - t) / roundTicks
        d.onlyIf (!x.fg && x.waits && !x.starved && d.entInput e && decide (limit ≤ waited)) (Dev.noResource c e waited)
      | none => d) d

/-- Slots whose segment satisfies `p` are withdrawn (09 R266, R267): their contexts go to READY with cause "input off". -/
def Dev.withdrawSegs (p : Nat → Bool) (d : Dev) : Dev :=
  forAll (List.range 64) (fun n d =>
    let x := d.slot n
    if x.user.isSome && p x.seg then
      match x.user with
      | some (.ctx c) =>
        if (d.serviceOf c).isSome && (d.serviceOf c).any (fun v => 2 ≤ v.2.branches.length) then
          ((d.stopSlot n).setCtx c fun y => { y with slot := none, input := none }).ctxEvent c 3 3 4
        else d.ctxOut c 4 false
      | some (.inst k) =>
        match (d.inst? k).map (·.anchor) with
        | some a =>
          if (d.serviceOf a).any fun v => 2 ≤ v.2.branches.length then
            let e := (d.stopSlot n).setInst k fun y => { y with slot := none, input := none }
            (d.members k).foldl (fun e m => e.ctxEvent m.1 3 3 4) e
          else d.instOut k 4 false
        | none => d
      | _ => d
    else d) d

/-! ## Commands -/

/-- A context that a command may act on: open and not closing. -/
def Dev.ctxBusy (d : Dev) (c : Nat) : Bool := match d.ctx? c with
  | some x => x.closing.isSome
  | none => true

/-- Schedule a change of context `c`. -/
def Dev.schedule (c : Nat) (a : CtxAct) (due : Nat) (d : Dev) : Dev :=
  let row : CtxSched := { ctx := c, act := a, due := due, accepted := d.now }
  { d with trav.acts := d.trav.acts ++ [row] }

/-- Opening is refused with NOT_FITTED (00 R4): a kind of an unfitted standard, REMOTE_BRANCH without the fabric
(DEDUCED log 31). -/
def Dev.kindUnfitted (d : Dev) (k : Nat) : Bool :=
  ((k == 4 || k == 6) && !d.hasDrm) || (k == 0x0B && !d.hasFabric)

/-- CTX_OPEN (R379). -/
def ctxOpenBody : Body := fun q d =>
  let (kind, cls, prio) := (q.p8 0, q.p8 1, q.p8 2)
  let fg := cls == 1
  let free := if q.ctx = 0xFF then (List.range d.nCtx).find? fun c => (d.ctx? c).isNone else some q.ctx
  let c := free.getD 0xFF
  let l := d.ledger ++ [{ ctx := c, kind := kind, fg := fg, tuning := none, halted := false }]
  checked d [(q.len != 4, .badLength), (d.kindUnfitted kind, .notFitted),
    (q.badHeader || !kindKnown kind || 1 < cls || !classPermitted kind fg || 7 < prio || q.p8 3 != 0, .badParam),
    (d.inWatch || (q.ctx != 0xFF && (d.ctx? q.ctx).isSome), .wrongState), (free.isNone, .noContext),
    (fg && 16 < (l.filter (·.fg)).length, .noSlot),
    ((if fg then d.stagedN P.dsQuotaFg else d.stagedN P.dsQuotaBg) < classPages l fg, .noPages)] <|
    let x : CtxSt := { kind := kind, fg := fg, prio := prio, owner := q.src, since := d.now }
    let e := { d with trav.ctxs := tabSet d.trav.ctxs c x }
    okWith (u8 c ++ zeros 3) (e.ctxEvent c 0 1 0)

/-- The row CTX_OPEN. -/
def execCtxOpen (dt : Nat) (s : State) : Host.Outcome State Fault Refusal := s.command dt 0x0101 ctxOpenBody

/-- CTX_CLOSE (R380). -/
def ctxCloseBody : Body := fun q d =>
  let feeds := d.audio.progs.any (·.src == some q.ctx)
  let b := if feeds then boundaryAt (d.now + msec 5) else d.nextBoundary
  checked d [(q.len != 0, .badLength), (q.badHeader, .badParam), (q.notCtxOwner q.ctx d, .notOwner),
    (d.inWatch || d.ctxBusy q.ctx, .wrongState)] <|
    let e := d.setCtx q.ctx fun x => { x with closing := some b }
    okWith (u64 b) (e.schedule q.ctx .close b).audioSync

/-- The row CTX_CLOSE. -/
def execCtxClose (dt : Nat) (s : State) : Host.Outcome State Fault Refusal := s.command dt 0x0102 ctxCloseBody

/-- The plan for the next boundary is frozen (R365). -/
def Dev.afterFreeze (d : Dev) : Bool := 65536 ≤ d.now % roundTicks
/-- Boundary of a foreground change that needs a dispatch: one Round later where parked state must be restored after the
freeze (R365). -/
def Dev.dispatchBoundary (d : Dev) (x : CtxSt) (fg : Bool) : Nat :=
  if fg && d.afterFreeze && x.park.isSome && x.state != .running then d.nextBoundary + roundTicks else d.nextBoundary

/-- Boundary at which a tuning of a context applies (R365, R382). -/
def Dev.tuneBoundary (d : Dev) (x : CtxSt) (t : Tuning) : Nat := d.dispatchBoundary x (x.fg && x.keepsPark t)

/-- CTX_CONFIG (R377, R381). -/
def ctxConfigBody : Body := fun q d =>
  let (cls, prio) := (q.p8 0, q.p8 1)
  let fg := cls == 1
  match d.ctx? q.ctx with
  | none => checked d [(q.len != 4, .badLength),
      (q.badHeader || 1 < cls || 7 < prio || !zeroAt q.params 2 2, .badParam)] (refuse .wrongState d)
  | some x =>
    let changes := x.fg != fg || (d.ledgerRow q.ctx x).fg != fg
    let l := d.ledgerWith q.ctx fun r => { r with fg := fg }
    let room := if !changes then [] else if fg then d.admitFg l else d.admitBg l
    let b := d.dispatchBoundary x (fg && changes)
    checked d ([(q.len != 4, .badLength),
      (q.badHeader || 1 < cls || 7 < prio || !classPermitted x.kind fg || !zeroAt q.params 2 2, .badParam),
      (q.notCtxOwner q.ctx d, .notOwner), (d.inWatch || x.closing.isSome, .wrongState)] ++ room) <|
      okWith (u64 b) (d.schedule q.ctx (.config fg prio) b)

/-- The row CTX_CONFIG. -/
def execCtxConfig (dt : Nat) (s : State) : Host.Outcome State Fault Refusal := s.command dt 0x0103 ctxConfigBody

/-- The tuning that parameters spell (R382). -/
def Req.tuning (q : Req) : Tuning :=
  { freq := q.p32 0, inputs := q.p8 4, std := q.p8 5, step := q.p16 6, count := q.p16 8 }

/-- A frequency lies in a useful band (R382, 11 R302), whatever the standard: 11 R319 ties the standard to the segment in SURVEY_CFG
alone (DEDUCED log 30). -/
def inUsefulBand (f : Nat) : Bool := (segmentOf f).isSome

/-- A field of CTX_TUNE is out of range for the kind (R382). -/
def badTuning (kind : Nat) (t : Tuning) : Bool :=
  t.inputs < 1 || 15 < t.inputs || 4 < t.std || !kindTakes kind t.std || !inUsefulBand t.freq
    || (if kind = 9 then t.step < 5 || 20000 < t.step || t.count < 1 || 1024 < t.count
          || !(List.range t.count).all (fun k => inUsefulBand (t.freq + k * t.step))
        else t.step != 0 || t.count != 1)

/-- Standard `s` is not fitted (00 R1). -/
def Dev.stdUnfitted (d : Dev) (s : Nat) : Bool := (s == 3 || s == 4) && !d.hasDrm
/-- A mask names an unfitted input. -/
def Dev.maskUnfitted (d : Dev) (m : Nat) : Bool := (bitsOf 4 m).any (d.nInputs ≤ ·)

/-- The pin of context `c` names a bank whose k differs from the standard's (12 R346). -/
def Dev.pinClash (d : Dev) (c std : Nat) : Bool := match d.stagedPinOf c with
  | some (_, b) => b != 0xFF && d.bankK b != some (stdK std)
  | none => false

/-- CTX_TUNE (R382, R383). -/
def ctxTuneBody : Body := fun q d =>
  let t := q.tuning
  match d.ctx? q.ctx with
  | none => checked d [(q.len != 16, .badLength),
      (d.maskUnfitted t.inputs || d.stdUnfitted t.std, .notFitted),
      (q.badHeader || t.inputs < 1 || 15 < t.inputs || 4 < t.std || !zeroAt q.params 10 6, .badParam)] (refuse .wrongState d)
  | some x =>
    checked d ([(q.len != 16, .badLength), (d.maskUnfitted t.inputs || d.stdUnfitted t.std, .notFitted),
      (q.badHeader || badTuning x.kind t || !zeroAt q.params 10 6, .badParam), (q.notCtxOwner q.ctx d, .notOwner),
      (d.inWatch || x.state == .halted || x.closing.isSome || d.pinClash q.ctx t.std, .wrongState)]
      ++ d.admission q.ctx (fun r => { r with tuning := some t })) <|
      okWith (u64 (d.tuneBoundary x t)) (d.schedule q.ctx (.tune t) (d.tuneBoundary x t))

/-- The row CTX_TUNE. -/
def execCtxTune (dt : Nat) (s : State) : Host.Outcome State Fault Refusal := s.command dt 0x0105 ctxTuneBody

/-- The 32 bytes of CTX_STATUS (R384). -/
def Dev.ctxPayload (d : Dev) (c : Nat) (x : CtxSt) : List Byte :=
  let waited := match x.waitFrom with
    | some t => if x.state == .running then 0 else (d.now - t) / roundTicks
    | none => 0
  u8 c ++ u8 x.kind ++ ub x.fg ++ u8 x.prio ++ u8 x.state.code ++ u8 (d.ctxCond c x) ++ u8 ((d.slotOf c).getD 0xFF)
    ++ u8 ((d.inputOf c).getD 0xFF) ++ u8 (x.inst.getD 0xFF) ++ u8 x.owner.code.1 ++ u8 x.owner.code.2 ++ u8 x.std
    ++ u32 x.freq ++ u16 (if x.fg then 0 else x.dwellLeft d.now) ++ u16 x.pages ++ u32 waited ++ u16 x.dispatches
    ++ u16 x.preemptions ++ u32 (x.since % 2 ^ 32)

/-- CTX_STATUS (R384). -/
def ctxStatusBody : Body := fun q d =>
  match d.ctx? q.ctx with
  | none => checked d [(q.len != 0, .badLength), (q.badHeader, .badParam)] (refuse .wrongState d)
  | some x => checked d [(q.len != 0, .badLength), (q.badHeader, .badParam), (d.inWatch, .wrongState)] <|
      okWith (d.ctxPayload q.ctx x) d

/-- The row CTX_STATUS. -/
def execCtxStatus (dt : Nat) (s : State) : Host.Outcome State Fault Refusal := s.command dt 0x0104 ctxStatusBody

/-- CTX_SUSPEND (R385). -/
def ctxSuspendBody : Body := fun q d =>
  let b := d.nextBoundary
  checked d [(q.len != 0, .badLength), (q.badHeader, .badParam), (q.notCtxOwner q.ctx d, .notOwner),
    (d.inWatch || d.ctxBusy q.ctx || (d.ctx? q.ctx).any (·.state == .halted), .wrongState)] <|
    okWith (u64 b) (d.schedule q.ctx .suspend b)

/-- The row CTX_SUSPEND. -/
def execCtxSuspend (dt : Nat) (s : State) : Host.Outcome State Fault Refusal := s.command dt 0x0106 ctxSuspendBody

/-- CTX_RESUME (R385). -/
def ctxResumeBody : Body := fun q d =>
  match d.ctx? q.ctx with
  | none => checked d [(q.len != 0, .badLength), (q.badHeader, .badParam)] (refuse .wrongState d)
  | some x =>
    let b := d.dispatchBoundary x x.fg
    let room := if x.fg then d.admission q.ctx fun r => { r with halted := false } else []
    checked d ([(q.len != 0, .badLength), (q.badHeader, .badParam), (q.notCtxOwner q.ctx d, .notOwner),
      (d.inWatch || x.closing.isSome || x.state != .halted, .wrongState)] ++ room) <|
      okWith (u64 b) (d.schedule q.ctx .resume b)

/-- The row CTX_RESUME. -/
def execCtxResume (dt : Nat) (s : State) : Host.Outcome State Fault Refusal := s.command dt 0x0107 ctxResumeBody

/-- CTX_HANDOVER (R386): the fields and statuses of SYS_OWNER, on the context. -/
def ctxHandoverBody : Body := fun q d =>
  let (o, dev) := (q.p8 0, q.p8 1)
  checked d [(q.len != 4, .badLength), (o == 2 && !d.hasFabric, .notFitted),
    (q.badHeader || badOwner o dev || !zeroAt q.params 2 2, .badParam), (q.notCtxOwner q.ctx d, .notOwner),
    (d.inWatch || d.ctxBusy q.ctx || d.ownerAbsent o dev, .wrongState)] <|
    ok (d.setCtx q.ctx fun x => { x with owner := ifaceOf o dev })

/-- The row CTX_HANDOVER. -/
def execCtxHandover (dt : Nat) (s : State) : Host.Outcome State Fault Refusal := s.command dt 0x0108 ctxHandoverBody

/-- Pages in use and quotas of the five classes (R375, R387). -/
def Dev.pagesUsed (d : Dev) : List Nat := d.charged

/-- The 64 bytes of RES_STATUS (R387). -/
def Dev.resPayload (d : Dev) : List Byte :=
  let slots := (List.range d.nSlots)
  let held (fg : Bool) : Nat := (slots.filter fun n => (d.slot n).user.isSome && d.slotFg n == fg).length
  let excl := (slots.filter fun n => (d.slot n).excluded).length
  let free := (slots.filter fun n => (d.slot n).user.isNone && !(d.slot n).excluded).length
  let trellis := (d.trav.ctxs.map fun x => (if x.2.decode then x.2.trellis else 0)
      + (if x.2.state == .running then facRate x.2.kind x.2.std else 0)).sum
    + 32 * (d.trav.insts.filter (·.2.running)).length
  u8 (held true) ++ u8 (held false) ++ u8 excl ++ u8 free ++ u8 d.nbUsed.length ++ u8 d.halvesUsed.length
    ++ u8 d.decodesUsed ++ u8 (d.trav.ctxs.filter (·.2.adec.isSome)).length ++ u16 ((trellis + 500) / 1000)
    ++ u8 d.trav.ctxs.length ++ u8 (d.trav.ctxs.filter (·.2.fg)).length
    ++ u8 (d.waitingEnts false |>.filter d.entInput).length ++ u8 d.trav.insts.length
    ++ u8 d.trav.paging.1 ++ u8 d.trav.paging.2 ++ d.pagesUsed.flatMap u16 ++ quotaIds.flatMap (fun p => u16 (d.stagedN p))
    ++ u16 64 ++ u16 0 ++ u32 d.trav.rotations ++ u32 d.trav.preemptions ++ u32 d.trav.abandoned ++ u32 d.trav.starved
    ++ u64 d.trav.boundary

/-- RES_STATUS (R387). -/
def resStatusBody : Body := fun q d =>
  checked d [(q.len != 0, .badLength), (q.badHeader, .badParam), (d.inWatch, .wrongState)] (okWith d.resPayload d)

/-- The row RES_STATUS. -/
def execResStatus (dt : Nat) (s : State) : Host.Outcome State Fault Refusal := s.command dt 0x0109 resStatusBody

/-- A named bank does not suit the standard (12 R346). -/
def Dev.bankUnsuited (d : Dev) (bank std : Nat) : Bool := bank != 0xFF && d.bankK bank != some (stdK std)

/-- Another context of the same instance is pinned elsewhere (12 R347). -/
def Dev.instPinned (d : Dev) (c slot : Nat) : Bool := match (d.ctx? c).bind (·.inst) with
  | some n => (d.members n).any fun m => m.1 != c && (d.stagedPinOf m.1).any (·.1 != slot)
  | none => false

/-- A pin of context `c` adds a slot to the foreground total where its grant holds none (12 R347). -/
def Dev.pinExceeds (d : Dev) (c : Nat) : Bool :=
  let l := d.ledger
  let holds := (l.find? (·.ctx == c)).any LedgerRow.granted || (d.stagedPinOf c).isSome
  !holds && min 48 d.nSlots < d.fgSlots l + 1

/-- SLOT_PIN (12 R346, R347). -/
def slotPinBody : Body := fun q d =>
  let (slot, action, bank) := (q.p8 0, q.p8 1, q.p8 2)
  let x := d.ctx? q.ctx
  let stdOf := (x.map CtxSt.stdFixed).getD 0xFF
  let badBank := if action = 2 then !(bank ≤ 4 || (16 ≤ bank && bank ≤ 31) || bank == 0xFF)
      || (stdOf != 0xFF && d.bankUnsuited bank stdOf) else bank != 0
  let staged := d.stagedPin slot
  let holder := (d.slot slot).user
  let mine := match holder with
    | some (.ctx c) => c == q.ctx
    | some (.inst n) => (x.bind (·.inst)) == some n
    | _ => false
  let fgHolds := d.slotFg slot
  checked d [(q.len != 4, .badLength), (d.nSlots ≤ slot && slot < 64, .notFitted),
    (q.badHeader || 63 < slot || 2 < action || badBank || (action != 2 && q.ctx != 0xFF) || q.p8 3 != 0, .badParam),
    (q.notSystem d, .notOwner),
    (d.inWatch
      || (action == 2 && (x.isNone || d.ctxBusy q.ctx || !(x.any (·.fg)) || stdOf == 0xFF || d.instPinned q.ctx slot))
      || (action == 1 && (fgHolds || staged.1 == 2)) || (action == 0 && staged.1 == 0), .wrongState),
    (action == 2 && ((staged.1 == 2 && staged.2.1 != q.ctx) || (fgHolds && !mine) || d.pinExceeds q.ctx), .noSlot)] <|
    let p : PinAct := { slot := slot, action := action, ctx := q.ctx, bank := bank, due := d.nextBoundary }
    okWith (u64 d.nextBoundary) { d with chan.pins := d.chan.pins ++ [p] }

/-- The row SLOT_PIN. -/
def execSlotPin (dt : Nat) (s : State) : Host.Outcome State Fault Refusal := s.command dt 0x0305 slotPinBody

end Sys2Proof.Machine
end

