-- ==== Sys2Proof/Machine/Clocks.lean ====
section
/-!
DEFINITION. Clocks (chapter 04): loss of lock, the change of the demodulation clock, the spur plan that Traverse weighs,
the audio clock and its reference, and the commands CLK_AUDIO, CLK_SPUR_PLAN and CLK_STATUS.
-/
namespace Sys2Proof.Machine

/-- The clocks of the main regions run: PLL_A is not stopped. -/
def Dev.clocked (d : Dev) : Bool := !d.toc.halted && !d.inReset && d.clk.pllA != .stopped

/-! ## Loss of lock (R107) -/

/-- PLL_A_LOCK_LOSS: halt, class CLOCK, ADDR 1 (25 R679). -/
def execPllALockLoss (dt : Nat) (s : State) : Host.Outcome State Fault Refusal :=
  s.runIf dt Dev.clocked (Dev.chipFault 0x09 1)

/-- PLLD_LIVE_LOCK_LOSS: halt, class CLOCK, ADDR 2 or 3. -/
def execPlldLiveLockLoss (dt : Nat) (s : State) : Host.Outcome State Fault Refusal :=
  s.runIf dt Dev.clocked fun d => d.chipFault 0x09 (2 + d.clk.plldLive)

/-- PLL_F_LOCK_LOSS: halt while a port is enabled, class CLOCK, ADDR 4. -/
def execPllFLockLoss (dt : Nat) (s : State) : Host.Outcome State Fault Refusal :=
  s.runIf dt (fun d => d.clocked && d.clk.pllF) (Dev.chipFault 0x09 4)

/-- PLL_AUD_LOCK_LOSS: it relocks with the ports gated; the programmes are muted as by a change (R126), and aud_state reads 0x04
as it does then (DESIGN CHOICE log 119). In a halt nothing relocks it: its clocks stay low (02 R51). -/
def execPllAudLockLoss (dt : Nat) (s : State) : Host.Outcome State Fault Refusal :=
  s.runIf dt (fun d => (d.active || d.toc.halted) && d.clk.audOn && d.clk.audState != 4) fun d =>
    if d.toc.halted then { d with clk.audOn := false }
    else { d.clockMute with clk.audState := 4, clk.audSince := some d.now }

/-- Timeout of a crossing, REFCLK cycles, by its row of the table (R118). -/
def crossingTimeout (crossing : Nat) : Nat := [8, 8, 64, 64, 256, 256, 256].getD crossing 256

/-- The islands that feed and empty a crossing run, so that it is armed (R119): the main regions in ACTIVE and from PLL_A's lock in
the boot, the control island and the watch receiver in WATCH, nothing in SLEEP; an input's crossings while the input is not off; a
fabric crossing while PLL_F runs. -/
def Dev.crossingArmed (crossing farRegion region block : Nat) (d : Dev) : Bool :=
  let fabric := crossing == 5 || (crossing == 2 && (farRegion == 4 || region == 4))
  !d.inReset && !d.toc.halted
    && (if d.pwr.mode = .sleep then false
        else if d.pwr.mode = .watch then crossing == 6
        else d.clk.pllA != .stopped || crossing == 6)
    && (crossing != 0 || (d.inp (block % 4)).mode != .off) && (!fabric || d.clk.pllF)

/-- HANDSHAKE_TIMEOUT (R118, 25 R679): the crossing of row `crossing` holds `held` entries, and its reader has taken none for `stalled`
REFCLK cycles. Crossing row in ADDR bits 7:0 and the far region in bits 11:8 (DEDUCED log 24). A crossing that holds nothing, that has
still made progress or that is disarmed (R119) raises nothing. -/
def execHandshakeTimeout (dt crossing farRegion region block held stalled : Nat) (s : State) :
    Host.Outcome State Fault Refusal :=
  s.runIf dt (fun d => d.crossingArmed crossing farRegion region block && crossing ≤ 6 && 1 ≤ held
      && crossingTimeout crossing ≤ stalled) fun d =>
    let addr := crossing + 256 * (farRegion % 16)
    d.errorsArrive [{ cls := 0x06, level := 2, region := region, block := block, master := Config.faultMaster 6 addr % 256,
                      access := 5, addr := addr, detail := 0, injected := false }] d.pwr.tHot

/-! ## The demodulation clock (R114-R117) -/

/-- A plan change starts (R114 step 1). -/
def Dev.startPlan (plan : Nat) (host : Bool) (d : Dev) : Dev :=
  { d with clk.change := some { plan := plan, attempt := 1, host := host, holding := false, since := d.now }
           clk.lastChange := some d.round }

/-- SPUR_PLAN_APPLIED (R129). -/
def Dev.planEvent (c : PlanChange) (result : Nat) (d : Dev) : Dev :=
  d.emit 13 (u8 c.plan ++ u8 result ++ ub (!c.host))

/-- PLLD_IDLE_LOCK (R114 steps 2 and 3). -/
def execPlldIdleLock (dt : Nat) (s : State) : Host.Outcome State Fault Refusal :=
  s.runIf dt Dev.active fun d => match d.clk.change with
    | some c => { d with clk.change := some { c with holding := true } }
    | none => d

/-- PLLD_LOCK_ATTEMPT_TIMEOUT (R114, R116): 500 µs are 16,384 REFCLK cycles; the third failed attempt leaves the live plan as it
was. -/
def execPlldLockAttemptTimeout (dt : Nat) (s : State) : Host.Outcome State Fault Refusal :=
  s.runIf dt Dev.active fun d => match d.clk.change with
    | none => d
    | some c =>
      if c.holding || !d.sinceRef c.since 16384 then d
      else if c.attempt < 3 then
        { d with clk.change := some { c with attempt := c.attempt + 1, since := d.now } }
      else ({ d with clk.change := none, clk.planFailures := satAdd 0xFFFF d.clk.planFailures 1 }).planEvent c 1

/-- HANDSHAKE_QUIET_POINT (R114 steps 4 and 5). -/
def execHandshakeQuietPoint (dt : Nat) (s : State) : Host.Outcome State Fault Refusal :=
  s.runIf dt Dev.active fun d => match d.clk.change with
    | none => d
    | some c =>
      if !c.holding then d
      else
        let old := d.clk.plldLive
        let e := { d with
          clk.change := none, clk.plldLive := 1 - old, clk.planLive := c.plan, clk.lastSwitch := d.now % 2 ^ 32
          clk.planChanges := satAdd 0xFFFF d.clk.planChanges 1 }
        (e.emit 9 (u8 old ++ u8 (1 - old) ++ u8 c.plan)).planEvent c 0

/-- Spur lines of a plan, kHz (R113). -/
def spurLines (plan : Nat) : List Nat :=
  match plan with
  | 0 => [243750, 97500, 81250, 69643, 73576, 1462500]
  | 1 => [100000, 83333, 71429]
  | _ => [170833, 102500, 85417, 73214, 64063, 23576]

/-- Occupied band of a tuned context, in units of 10 Hz (R117). -/
def CtxSt.band (x : CtxSt) : Int × Int :=
  let f : Int := 100 * x.freq
  match x.std with
  | 0 => (f - 10000, f + 10000)
  | 1 => (f - 500, f + 500)
  | 2 => (f - 76800, f + 76800)
  | 4 => (f - 5000, f + 5000)
  | _ => match x.occ with
    | none => (f - 500, f + 1500)
    | some o =>
      let c := f + occOffset o / 10
      (c - 5 * occWidth o, c + 5 * occWidth o)

/-- Distance of a line from a band: 0 inside or on the edge. -/
def lineDist (line : Nat) (b : Int × Int) : Nat :=
  let l : Int := 100 * line
  if l < b.1 then (b.1 - l).toNat else if b.2 < l then (l - b.2).toNat else 0

/-- d(p) of R117 in units of 10 Hz, none for infinity. -/
def Dev.spurDist (d : Dev) (plan : Nat) : Option Nat :=
  let bands := (d.trav.ctxs.filter fun x => x.2.fg && x.2.tuning.isSome).map fun x => x.2.band
  (bands.flatMap fun b => (spurLines plan).map fun l => lineDist l b).foldl
    (fun m v => some (match m with | some k => min k v | none => v)) none

/-- The first distance is larger. -/
def farther (a b : Option Nat) : Bool := match a, b with
  | none, some _ => true
  | some x, some y => decide (y < x)
  | _, none => false

/-- SPUR_PLAN_EVALUATION (R117) at a Round boundary, before the properties of this boundary apply: a PROP_SET that applies
here and names a property of group 0x08 wins (DEDUCED log 50). -/
def Dev.spurRound (d : Dev) : Dev :=
  let due := match d.clk.lastChange with
    | some r => r + d.propN P.spurInterval ≤ d.round
    | none => true
  if d.prop P.spurAuto != 1 || d.clk.change.isSome || !due then d
  else
    let live := d.spurDist d.clk.planLive
    let best := [1, 0, 2].foldl (fun b p => if farther (d.spurDist p) (d.spurDist b) then p else b) 1
    if farther (some (100 * d.propN P.spurGuard)) live && farther (d.spurDist best) live then
      if d.applies (fun id => id / 256 == 8) then
        d.planEvent { plan := best, attempt := 0, host := false, holding := false, since := 0 } 2
      else d.startPlan best false
    else d

/-! ## The audio clock (R120-R126) -/

/-- Family of a rate code: true for 44.1 kHz (R120). -/
def family441 (rate : Nat) : Bool := rate == 1

/-- Sampling rate of a rate code, Hz (R125). -/
def audRateHz (rate : Nat) : Nat := [32000, 44100, 48000, 96000].getD rate 48000

/-- Expected edges of the reference per second: MCLK_IN at 256 or 512 fs, a port's FS and SPDI at fs (R125). -/
def Dev.refHz (d : Dev) : Nat :=
  audRateHz d.clk.audRate * (if d.clk.audMode = 1 then (if d.clk.mclkRatio = 1 then 512 else 256) else 1)

/-- Datum time `t` lies within the last 64 expected periods (R122). -/
def Dev.inRefWindow (d : Dev) (t : Nat) : Bool := (d.now - t) * d.refHz ≤ 64 * 1048576000

/-- The rate lies within ±2 % of the configured one: ppm (R121). -/
def refInRange (ppm : Int) : Bool := -20000 ≤ ppm && ppm ≤ 20000

/-- Edge faults in an interval of `gap` thousandths of the expected period between two edges (R122): one for an extra edge, and one
for each missing edge, none where the interval is in order or the reference is lost. -/
def edgeFaultsOf (gap : Nat) : Nat :=
  if 250 ≤ gap && gap ≤ 750 then 1 else if 1250 < gap && gap < 4000 then (gap + 500) / 1000 - 1 else 0

/-- AUDIO_CLK_LOST (R129). -/
def Dev.audLost (cause : Nat) (d : Dev) : Dev :=
  ({ d with clk.refLosses := satAdd 0xFFFF d.clk.refLosses 1 }).emit 10 (u8 d.clk.audMode ++ u8 d.clk.audRate ++ u8 cause)

/-- PLL_AUD follows its reference or pulls to it, so that its loss counts (R123, R124). -/
def Dev.refHeld (d : Dev) : Bool := d.active && d.clk.audMode != 0 && (d.clk.audState == 1 || d.clk.audState == 3)

/-- The reference is lost (R123; again while pulling, R124): PLL_AUD coasts. -/
def Dev.refIsLost (cause : Nat) (offset : Int) (d : Dev) : Dev :=
  ({ d.clockMute with clk.audState := 2, clk.refOffset := offset, clk.refFaults := [] }).audLost cause

/-- AUDIO_REF_EDGE_FAULT (R122): an edge comes `gap` thousandths of the expected period after the one before it. More than 4 faults
within 64 expected periods lose the reference. -/
def execAudioRefEdgeFault (dt gap : Nat) (s : State) : Host.Outcome State Fault Refusal :=
  s.runIf dt (fun d => d.active && d.clk.audMode != 0) fun d =>
    let n := edgeFaultsOf gap
    let faults := List.replicate n d.now ++ d.clk.refFaults.filter d.inRefWindow
    let e := { d with clk.edgeFaults := satAdd 0xFFFF d.clk.edgeFaults n, clk.refFaults := faults }
    if d.refHeld && 4 < faults.length then e.refIsLost 2 e.clk.refOffset else e

/-- AUDIO_REF_LOST (R122, R123): no edge for 4 expected periods, `gap` thousandths of one since the last edge, or a rate `offset` ppm
outside ±2 % over 64 edges. -/
def execAudioRefLost (dt gap : Nat) (offset : Int) (s : State) : Host.Outcome State Fault Refusal :=
  s.runIf dt (fun d => d.refHeld && (4000 ≤ gap || !refInRange offset)) fun d =>
    d.refIsLost (if 4000 ≤ gap then 0 else 1) offset

/-- AUDIO_REF_VALID (R121, R124): the last `edges` edges all fell within `worst` ppm of the expected period. -/
def execAudioRefValid (dt edges worst : Nat) (s : State) : Host.Outcome State Fault Refusal :=
  s.runIf dt (fun d => d.active && d.clk.audMode != 0 && d.clk.audState == 2 && 64 ≤ edges && refInRange worst) fun d =>
    { d with clk.audState := 3, clk.refFaults := [] }

/-- AUDIO_PLL_PHASE_LOCK (R121, R124). -/
def execAudioPllPhaseLock (dt : Nat) (offset : Int) (s : State) : Host.Outcome State Fault Refusal :=
  s.runIf dt (fun d => d.active && d.clk.audState == 3 && refInRange offset) fun d =>
    (({ d with clk.audState := 1, clk.refOffset := offset }).emit 11 (u8 d.clk.audMode ++ u8 0 ++ s32 offset)).clockUnmute

/-- Frames in the FIFO. -/
def PortSt.fill (p : PortSt) : Nat := p.fifo.length
/-- `n` frames of zeros. -/
def PortSt.zeroFrames (n : Nat) (p : PortSt) : List (List Int) := List.replicate n (List.replicate ((p.cfg.map (·.slots)).getD 0) 0)
/-- The FIFO refilled to 4 frames: zeros ahead of what it holds, or the oldest frames gone. -/
def PortSt.refill (p : PortSt) : PortSt := { p with fifo := p.zeroFrames (4 - p.fill) ++ p.fifo.drop (p.fill - 4) }

/-- Running port FIFOs are refilled to 4 frames (20 R576). -/
def Dev.refillPorts (d : Dev) : Dev :=
  { d with audio.ports := d.audio.ports.map fun p => match p.run with
      | .running => p.refill
      | _ => p }

/-- AUDIO_PLL_LOCKED (R126, R129). -/
def Dev.audLocked (state present : Nat) (d : Dev) : Dev :=
  ({ d.refillPorts with clk.audState := state, clk.audOn := true, clk.audSince := none, clk.audPending := false }).emit 12
    (u8 d.clk.audMode ++ u8 d.clk.audRate ++ u8 present)

/-- The relock has begun: the mute ramp is over. -/
def Dev.relocking (d : Dev) : Bool := d.clk.audState == 4 && d.clk.audSince.any (· ≤ d.now)

/-- AUDIO_PLL_LOCKED: locked to its reference, REFCLK in mode 0x00; the programmes muted by the change ramp up. -/
def execAudioPllLocked (dt : Nat) (offset : Int) (s : State) : Host.Outcome State Fault Refusal :=
  s.runIf dt (fun d => d.active && d.relocking && (d.clk.audMode == 0 || refInRange offset)) fun d =>
    let free := d.clk.audMode == 0
    (({ d with clk.refOffset := if free then 0 else offset }).audLocked (if free then 0 else 1) 1).clockUnmute

/-- AUDIO_PLL_RELOCK_TIMEOUT (R126): no valid reference within 25 ms; PLL_AUD locks free-running and counts as coasting;
aud_ref_offset keeps its last measured value (DESIGN CHOICE log 120). -/
def execAudioPllRelockTimeout (dt : Nat) (s : State) : Host.Outcome State Fault Refusal :=
  s.runIf dt (fun d => d.active && d.relocking && d.clk.audMode != 0
      && d.clk.audSince.any (fun t => t + msec 25 ≤ d.now)) fun d => (d.audLocked 2 0).audLost 3

/-- Role of port `n` as accepted. -/
def Dev.portCfg (d : Dev) (n : Nat) : Option PortCfg :=
  let p := d.audio.ports.getD n {}
  p.next.orElse fun _ => p.cfg

/-- Output `n` runs once the accepted PORT_RUN has applied (DEDUCED log 59). -/
def Dev.willRun (d : Dev) (n : Nat) : Bool :=
  d.audio.acts.foldl (fun r a => match a.2 with
    | .run outs on => if hasBit outs n then on else r
    | _ => r) (d.outRunning n)

/-- Rate code of SPDO output `n` as accepted. -/
def Dev.spdoRate (d : Dev) (n : Nat) : Option Nat :=
  d.audio.acts.foldl (fun r a => match a.2 with
    | .spdif k rate _ => if k = n then some rate else r
    | _ => r) (d.audio.spdo.getD n {}).rate

/-- Output rate code of output `n` (0-3 ports, 4-5 SPDO), as accepted. -/
def Dev.outRate (d : Dev) (n : Nat) : Option Nat := if n < 4 then (d.portCfg n).map (·.rate) else d.spdoRate (n - 4)

/-- A port or SPDO output that runs, or that an accepted PORT_RUN starts, has a rate of the family other than that of `rate` (R126). -/
def Dev.familyHeld (d : Dev) (rate : Nat) : Bool :=
  (List.range 6).any fun n => (d.outRunning n || d.willRun n) && (match d.outRate n with
      | some r => family441 r != family441 rate
      | none => false)

/-- CLK_AUDIO (R125, R126) (DEDUCED log 51). -/
def clkAudioBody : Body := fun q d =>
  let (mode, rate, port, ratio) := (q.p8 0, q.p8 1, q.p8 2, q.p8 3)
  let same := mode == d.clk.audMode && rate == d.clk.audRate && port == d.clk.refPort && ratio == d.clk.mclkRatio
  checked d [(q.len != 4, .badLength),
    (q.badHeader || 3 < mode || 3 < rate || 3 < port || 1 < ratio || (mode != 2 && port != 0)
      || (mode != 1 && ratio != 0), .badParam),
    (q.notSystem d, .notOwner),
    (d.inWatch || (!same && mode == 2 && (d.portCfg port).map (·.role) != some 1)
      || (family441 rate != family441 d.clk.audRate && d.familyHeld rate), .wrongState),
    (d.clk.audPending, .busy)] <|
    if same then ok d
    else deferred { d.clockMute with
      clk.audMode := mode, clk.audRate := rate, clk.refPort := port, clk.mclkRatio := ratio, clk.audState := 4
      clk.audSince := some (d.now + msec 5), clk.audPending := true, clk.refFaults := [] }

/-- The row CLK_AUDIO. -/
def execClkAudio (dt : Nat) (s : State) : Host.Outcome State Fault Refusal := s.command dt 0x0801 clkAudioBody

/-- CLK_SPUR_PLAN (R127). -/
def clkSpurPlanBody : Body := fun q d =>
  let plan := q.p8 0
  checked d [(q.len != 4, .badLength), (q.badHeader || 2 < plan || !zeroAt q.params 1 3, .badParam),
    (q.notSystem d, .notOwner), (d.inWatch || d.staged P.spurAuto == 1, .wrongState), (d.clk.change.isSome, .busy)] <|
    if plan = d.clk.planLive then ok d else deferred (d.startPlan plan true)

/-- The row CLK_SPUR_PLAN. -/
def execClkSpurPlan (dt : Nat) (s : State) : Host.Outcome State Fault Refusal := s.command dt 0x0802 clkSpurPlanBody

/-- The 32 bytes of CLK_STATUS (R128). -/
def Dev.clkPayload (d : Dev) : List Byte :=
  let c := d.clk
  let a := match c.pllA with | .disciplined => 1 | .holdover => 2 | _ => 0
  u8 a ++ u8 c.plldLive ++ u8 c.planLive ++ u8 ((c.change.map (·.plan)).getD 0xFF) ++ s32 c.pllAOffset ++ u8 c.audMode
    ++ u8 c.audRate ++ u8 c.audState ++ ub c.pllF ++ u8 c.syn0 ++ u8 (if d.syn1Busy then 2 else c.syn1)
    ++ u16 c.refLosses ++ s32 (if c.audMode = 0 then 0 else c.refOffset) ++ u16 c.edgeFaults ++ u16 c.planChanges
    ++ u16 c.planFailures ++ u16 0 ++ u32 c.lastSwitch

/-- CLK_STATUS (R128). -/
def clkStatusBody : Body := fun q d =>
  checked d [(q.len != 0, .badLength), (q.badHeader, .badParam), (d.inWatch, .wrongState)] (okWith d.clkPayload d)

/-- The row CLK_STATUS. -/
def execClkStatus (dt : Nat) (s : State) : Host.Outcome State Fault Refusal := s.command dt 0x0803 clkStatusBody

end Sys2Proof.Machine
end

