-- ==== Sys2Proof/Machine/Narrowband.lean ====
section
/-!
DEFINITION. FM and AM demodulation (chapter 14): the decisions of a window (R395-R413), the AM carrier search (R404), and
the commands NB_CFG and NB_METRICS. The signal path stands in NbDsp.
-/
namespace Sys2Proof.Machine

/-! ## Frequency correction -/

/-- Slots that share the correction of context `c`: its own, and the local branches of its combined service (18 R510). -/
def Dev.corrSlots (d : Dev) (c : Nat) : List Nat :=
  (d.slotOf c).toList ++ match d.serviceOf c with
    | some (_, v) => (v.branches.drop 1).filterMap (·.slot)
    | none => []

/-- `delta` is added to C of every slot of context `c` (12 R341); the remote branches of its service are derotated as much from the same
datum tick (18 R510). -/
def Dev.addC (c : Nat) (delta : Int) (d : Dev) : Dev :=
  let e := forAll (d.corrSlots c) (fun n d => d.writeC n ((d.slot n).c + delta)) d
  match d.serviceOf c, d.slotOf c with
  | some (v, _), some n =>
    let turn (y : BranchSt) : BranchSt :=
      if y.remote then { y with dsp := { y.dsp with corr := y.dsp.corr ++ [(d.now + min 16 (Config.corrDelay d.draws), (e.slot n).c)] } } else y
    { e with comb.services := tabMod e.comb.services v fun x => { x with branches := x.branches.map turn } }
  | _, _ => e

/-- round(f × 32.768) for a frequency in mHz over `n` values summed. -/
def corrOf (sum : Int) (n : Nat) : Int := roundAway (sum * 32768) (n * 1000000)

/-- C / 32.768 of the slot of context `c` plus `mhz`, in Hz (14 R409, 16 R468, 17 R502). -/
def Dev.offsetHz (d : Dev) (c : Nat) (mhz : Int) : Int :=
  let k := ((d.slotOf c).map fun n => (d.slot n).c).getD 0
  roundAway (mhz * 32768 + k * 1000000) (32768 * 1000)

/-- The slot of context `c` carries HOLD, NOSEG or SETTLE, or it has none (14 R392). -/
def Dev.ctxFlagged (d : Dev) (c : Nat) : Bool := match d.slotOf c with
  | some n => d.slotFlagged n
  | none => true

/-! ## The decisions of a window -/

/-- Bandwidth index after a valid window (R396, R406); `hi` and `lo` are the thresholds in tenths. -/
def NbRun.stepBw (r : NbRun) (cfg : NbCfg) (aci hi lo : Int) : NbRun :=
  if cfg.bwMode = 1 then { r with bw := cfg.bw, lowRun := 0 }
  else
    let r1 :=
      if hi < aci then { r with bw := min 7 (r.bw + 1), lowRun := 0 }
      else if aci < lo then
        if 9 ≤ r.lowRun then { r with bw := r.bw - 1, lowRun := 0 } else { r with lowRun := r.lowRun + 1 }
      else { r with lowRun := 0 }
    { r1 with bw := max r1.bw cfg.bw }

/-- The equaliser switch of auto mode (R398); `mp` and `on` in 0.1 %. -/
def NbRun.stepEq (r : NbRun) (cfg : NbCfg) (mp on : Nat) : NbRun :=
  if cfg.eq != 2 then { r with eqOn := cfg.eq == 1, eqLow := 0 }
  else if !r.eqOn then (if on ≤ mp then { r with eqOn := true, eqLow := 0 } else r)
  else if mp + 50 < on then
    if 15 ≤ r.eqLow then { r with eqOn := false, eqLow := 0 } else { r with eqLow := r.eqLow + 1 }
  else { r with eqLow := 0 }

/-- Lock after a valid window: `good` for `up` windows locks, `bad` for `down` windows unlocks (R399, R404). -/
def NbRun.stepLock (r : NbRun) (good bad : Bool) (up down : Nat) : NbRun :=
  let want := if r.locked then bad else good
  let need := if r.locked then down else up
  if !want then { r with lockRun := 0 }
  else if need ≤ r.lockRun + 1 then { r with locked := !r.locked, lockRun := 0 }
  else { r with lockRun := r.lockRun + 1 }

/-- The decisions of a valid window of an FM channel (R396-R400). `auto` is false where a host command takes effect at this
boundary, so that the automatic steps are abandoned (R414). -/
def Dev.fmDecide (d : Dev) (c : Nat) (auto : Bool) (w : NbWin) (x : NbSt) : NbRun :=
  let r := if auto then x.run.stepBw x.cfg w.aci (10 * d.ctxProp c P.fmAciHi) (10 * d.ctxProp c P.fmAciLo) else x.run
  let r := if auto && (d.serviceOf c).isNone then r.stepEq x.cfg w.mp (10 * d.ctxPropN c P.fmCmaOnMp) else r
  let good := decide (100 * d.ctxPropN c P.fmPilotMin ≤ w.pilot) && decide (w.phase < 100)
  r.stepLock good (!good) 2 4

/-- The decisions of a valid window of an AM channel (R404, R406). -/
def Dev.amDecide (d : Dev) (c : Nat) (auto : Bool) (w : NbWin) (x : NbSt) : NbRun :=
  let r := if auto then x.run.stepBw x.cfg w.aci (10 * d.ctxProp c P.amAciHi) (10 * d.ctxProp c P.amAciLo) else x.run
  let r := if r.coarse then r.stepLock (900 ≤ w.ratio) (w.ratio < 700) 2 2 else r
  if !auto then r else { r with synch := if x.cfg.mode = 0 then r.locked else x.cfg.mode == 1 }

/-- FM frequency control after a valid window (R402). -/
def Dev.fmAfc (c : Nat) (w : NbWin) (d : Dev) : Dev :=
  if d.ctxProp c P.fmAfc != 1 then d.setNb c fun x => { x with run.afc := [] }
  else
    let l := (w.freq :: (d.nb c).run.afc).take 10
    if l.length = 10 && decide (5000000 ≤ l.sum.natAbs) && !d.ctxFlagged c then
      (d.setNb c fun x => { x with run.afc := [] }).addC c (corrOf l.sum 10)
    else d.setNb c fun x => { x with run.afc := l }

/-- Boundary from which a window of context `c` may release its audio (R413): the last of its dispatch, its last retune or
bank change, and the end of its last HOLD; none while it holds. -/
def Dev.releaseFrom (d : Dev) (c : Nat) : Option Nat :=
  match d.slotOf c with
  | none => none
  | some n =>
    let x := d.slot n
    if d.slotHolds x || !d.segLive x.seg then none
    else
      let held := match d.cal.holdEnd.getD (x.seg / 4) none with
        | some t => if x.since < t then t + 2 * d.bankDelay x.bank else 0
        | none => 0
      some (max x.settleFrom held)

/-- Ticks of a window (R408). -/
def nbWindow : Nat := 16 * roundTicks

/-- Audio of context `c` is released by the valid window that ends now (R413). -/
def Dev.nbRelease (c : Nat) (d : Dev) : Dev :=
  match d.ctx? c, d.releaseFrom c with
  | some x, some t =>
    if (x.kind == 1 || x.kind == 2) && !x.released && t + nbWindow ≤ d.now then
      ((d.setNb c fun x => { x with dsp := x.dsp.release d.now }).setCtx c fun x => { x with released := true }).audioSync
    else d
  | _, _ => d

/-! ## Samples -/

/-- What fixes the samples of the narrowband channel of context `c`. -/
def Dev.nbPar (d : Dev) (c : Nat) : NbPar :=
  let x := d.nb c
  { std := d.stdOf c, cfg := x.cfg, run := x.run, props := x.props }

/-- Audio that was handed over more than a Round ago is gone. -/
def NbDsp.prune (t : Nat) (x : NbDsp) : NbDsp := { x with audio := x.audio.filter fun a => decide (t < a.t + roundTicks) }

/-- The carrier PLL's integrator has reached ±200 Hz: it moves into C, and as much leaves the integrator (R404 step 3). -/
def Dev.amPll (c : Nat) (d : Dev) : Dev :=
  let x := d.nb c
  if !x.run.coarse || x.dsp.pll.freq.natAbs < carrierLimit.natAbs || d.ctxFlagged c then d
  else
    -- C counts 1/32.768 Hz, which is 2,048 units of the integrator
    let k := roundAway x.dsp.pll.freq 2048
    (d.setNb c fun x => { x with dsp := { x.dsp with pll.freq := x.dsp.pll.freq - 2048 * k } }).addC c k

/-- Samples of the slot `n` of context `c` enter its narrowband channel (R394, R403); gives the MPX. -/
def Dev.nbFeed (c n : Nat) (l : List SlotSample) (d : Dev) : List MpxOut × Dev :=
  let p := d.nbPar c
  if p.std = 0 then
    let (y, out) := l.foldl (fun (y, out) s => let (z, o) := NbDsp.fm p (leavesAt n s.t) s y; (z, out ++ [o])) ((d.nb c).dsp, [])
    (out, d.setNb c fun x => { x with dsp := y.prune d.now })
  else
    let y := l.foldl (fun y s => NbDsp.am p (leavesAt n s.t) s y) (d.nb c).dsp
    ([], (d.setNb c fun x => { x with dsp := y.prune d.now }).amPll c)

/-! ## Windows -/

/-- `a` limited to 0 to `top`. -/
def clamp0 (top a : Int) : Int := max 0 (min top a)

/-- Target of the blend β in units of 2^-24 (R401), from CNR in 0.1 dB and MP_res in 0.1 %. -/
def Dev.blendTarget (d : Dev) (c : Nat) (cnr mpRes : Int) : Int :=
  let p (k : Nat) : Int := 10 * d.ctxProp c k
  let part (v lo hi : Int) : Int := clamp0 (2 ^ 24) (openRatio ((v - lo) * 2 ^ 24) (hi - lo).toNat)
  min (part cnr (p P.fmBlendLo) (p P.fmBlendHi)) (2 ^ 24 - part mpRes (p P.fmBlendMpLo) (p P.fmBlendMpHi))

/-- The corner f_min × (15 kHz / f_min)^(p/q) in mHz, rounded down. -/
def hicutCorner (fmin p q : Nat) : Nat := greatest 24 fun v => v ^ q ≤ (1000 * fmin) ^ (q - p) * 15000000 ^ p

/-- Target of the high-cut corner in mHz (R401). -/
def Dev.hicutTarget (d : Dev) (c : Nat) (cnr : Int) : Int :=
  let lo := 10 * d.ctxProp c P.fmHicutLo
  let hi := 10 * d.ctxProp c P.fmHicutHi
  if hi ≤ cnr then 15000000
  else if cnr ≤ lo then 1000 * d.ctxProp c P.fmHicutMin
  else hicutCorner (d.ctxPropN c P.fmHicutMin) (cnr - lo).toNat (hi - lo).toNat

/-- Target of the soft-mute attenuation in units of 2^-16 dB (R401, R407): `start` and `most` are the properties in dB. -/
def muteTarget (start most cnr : Int) : Int :=
  if start = 0 then 0 else min (65536 * most) (max 0 (openDiv ((10 * start - cnr) * 65536) 10))

/-- The controls after a valid window (R401, R407); `locks` says that the pilot locks in it. While the CNR of AM is not valid its
attenuation holds (DEDUCED log 134). -/
def Dev.nbControls (d : Dev) (c : Nat) (w : NbWin) (locks : Bool) (x : NbDsp) : NbDsp :=
  let at_ := d.ctxPropN c P.nbCtrlAttack
  let re := d.ctxPropN c P.nbCtrlRelease
  match d.stdOf c, w.cnr with
  | _, none => { x with mute := x.mute.hold d.now }
  | 0, some v =>
    let b := d.blendTarget c v w.mpRes
    { x with
      beta := if locks then { v := b, target := b, at_ := d.now } else x.beta.aim d.now b true at_ re
      hicut := x.hicut.aim d.now (d.hicutTarget c v) true at_ re
      mute := x.mute.aim d.now (muteTarget (d.ctxProp c P.fmSoftmuteCnr) (d.ctxProp c P.fmSoftmuteMax) v) false at_ re }
  | _, some v =>
    { x with mute := x.mute.aim d.now (muteTarget (d.ctxProp c P.amSoftmuteCnr) (d.ctxProp c P.amSoftmuteMax) v) false at_ re }

/-- A valid window enters the check measurement (R411): power means of the level and of USN, the CNR from moments summed over the
windows, the means of MP_res and of the offset. -/
def Meas.window (std : Nat) (s : NbSums) (w : NbWin) (off : Int) (m : Meas) : Meas :=
  let counts := w.cnr.isSome
  let k := if counts then s else {}
  let sums : NbSums := { m.sums with
    n := m.sums.n + k.n, m2 := m.sums.m2 + k.m2, m4 := m.sums.m4 + k.m4, a := m.sums.a + k.a, q := m.sums.q + k.q, q2 := m.sums.q2 + k.q2 }
  let n := m.n + 1
  let pw := m.pw + s.pw / s.n
  let us := m.us + s.us / s.n
  let part := m.part + w.mpRes
  let sum := m.off + off
  { n := n, pw := pw, part := part, off := sum, us := us, sums := sums
    q := { m.q with
      level := nbLevel pw n, cnr := if sums.n = 0 then -0x8000 else if std = 0 then fmCnr sums.n sums.m2 sums.m4 else amCnr sums
      pct := (openDiv part (10 * n)).toNat, mpRes := (part.toNat + n - 1) / n, usn := if std = 0 then nbUsn us n else 0
      offset := openDiv sum n } }

/-- A window of context `c` ends (R408): what it measured, and, where it is valid, every automatic decision. -/
def Dev.nbWindowEnd (c : Nat) (d : Dev) : Dev :=
  let std := d.stdOf c
  let x0 := d.nb c
  let w := x0.dsp.win std d.now x0.run.locked
  let d0 := d.setNb c fun x => { x with
    props := d.nbProps c
    run.eqResets := if std = 0 then satAdd 255 x.run.eqResets x.dsp.resets else x.run.eqResets
    run.suspended := if std = 1 && w.stopped then satAdd 0xFFFF x.run.suspended 1 else x.run.suspended
    dsp := x.dsp.nextWindow }
  if !w.valid then
    d0.setNb c fun x => { x with
      dsp := { x.dsp with beta := x.dsp.beta.hold d.now, hicut := x.dsp.hicut.hold d.now, mute := x.dsp.mute.hold d.now } }
  else
    let x := d0.nb c
    let auto := x.cfgAt != some d.now
    let r := if std = 0 then d0.fmDecide c auto w x else d0.amDecide c auto w x
    let off := d0.offsetHz c w.freq
    let d1 := d0.setNb c fun x => { x with
      run := { r with last := some (w, d.now % 2 ^ 32), lastOff := off }
      dsp := d0.nbControls c w (r.locked && !x.run.locked) { x.dsp with eqDue := x.dsp.eqDue || (x.run.eqOn && !r.eqOn) } }
    let d2 := d1.onlyIf (std == 0) (Dev.fmAfc c w)
    let d3 := d2.measureBy c (Meas.window std x0.dsp.sums w off)
    d3.nbRelease c

/-- Context `c` runs on a narrowband channel. -/
def Dev.nbRuns (d : Dev) (c : Nat) : Bool := (d.ctx? c).any fun x => x.state == .running && x.nb.isSome

/-- AM_COARSE_SEARCH_DONE (R404 step 1): the search over the 256 valid samples that it holds. A search that found no carrier takes the
next 256. -/
def execAmCoarseSearchDone (dt ctx : Nat) (s : State) : Host.Outcome State Fault Refusal :=
  s.runIf dt (fun d => d.active && d.nbRuns ctx && d.stdOf ctx == 1 && !(d.nb ctx).run.coarse && (d.nb ctx).dsp.search.length == 256
      && !d.ctxFlagged ctx) fun d =>
    let e := d.setNb ctx fun x => { x with dsp := { x.dsp with search := [], pll := {} } }
    match coarseOffset (d.nb ctx).dsp.search with
    | some f => (e.setNb ctx fun x => { x with run.coarse := true }).addC ctx (corrOf f 1)
    | none => e

/-! ## Commands -/

/-- A command on a narrowband context answers WRONG_STATE. -/
def Dev.nbWrong (d : Dev) (c : Nat) : Bool := d.inWatch || d.ctxBusy c || 1 < d.stdOf c

/-- A field of NB_CFG is out of range for the standard (R414). -/
def badNbCfg (std : Nat) (q : Req) : Bool :=
  1 < q.p8 0 || 7 < q.p8 1 || 2 < q.p8 2 || 2 < q.p8 3 || 1 < q.p8 4 || 3 < q.p8 5 || !zeroAt q.params 6 2
    || (std == 0 && (1 < q.p8 3 || q.p8 4 != 0)) || (std == 1 && (q.p8 2 != 0 || 1 < q.p8 5))

/-- NB_CFG (R414). -/
def nbCfgBody : Body := fun q d =>
  let c := q.ctx
  let cfg : NbCfg := { bwMode := q.p8 0, bw := q.p8 1, eq := q.p8 2, mode := q.p8 3, blanker := q.p8 4 }
  let before := match (d.nb c).next with | some (_, a, _) => a | none => 0
  checked d [(q.len != 8, .badLength), (q.badHeader || badNbCfg (d.stdOf c) q, .badParam), (q.notCtxOwner c d, .notOwner),
    (d.nbWrong c, .wrongState)] <|
    okWith (u64 d.nextBoundary) (d.setNb c fun x => { x with next := some (cfg, before ||| q.p8 5, d.nextBoundary) })

/-- The row NB_CFG. -/
def execNbCfg (dt : Nat) (s : State) : Host.Outcome State Fault Refusal := s.command dt 0x1001 nbCfgBody

/-- Settings accepted by NB_CFG take effect, with their action (R414). -/
def Dev.applyNb (c : Nat) (d : Dev) : Dev :=
  match (d.nb c).next with
  | none => d
  | some (cfg, action, due) =>
    if d.now < due then d
    else
      let am := d.stdOf c = 1
      let carrier := hasBit action 0 && am
      let run (r : NbRun) : NbRun :=
        let r := if cfg.bwMode = 1 then { r with bw := cfg.bw, lowRun := 0 } else { r with bw := max r.bw cfg.bw }
        let r := if cfg.eq != 2 then { r with eqOn := cfg.eq == 1, eqLow := 0 } else r
        let r := if cfg.mode != 0 && am then { r with synch := cfg.mode == 1 } else r
        let r := if carrier then { r with coarse := false, locked := false, lockRun := 0 } else r
        if hasBit action 1 then { r with locked := false, lockRun := 0 } else r
      let dsp (y : NbDsp) : NbDsp := { y with
        eqDue := y.eqDue || (hasBit action 0 && !am), pll := if carrier || hasBit action 1 then {} else y.pll
        search := if carrier then [] else y.search }
      d.setNb c fun x => { x with cfg := cfg, next := none, cfgAt := some d.now, run := run x.run, dsp := dsp x.dsp }
/-- Every narrowband setting whose boundary has come. -/
def Dev.nbRound (d : Dev) : Dev := forAll (d.dem.nb.map (·.1)) (fun c d => d.applyNb c) d

/-- A value in a field of `top` values; what the field holds of a greater one the spec does not state (UNVERIFIED log 86). -/
def fitted (top : Nat) (v : Int) : Nat := if 0 ≤ v && v < top then v.toNat else Config.narrowed v

/-- Bytes 4-31 of NB_METRICS for a window. -/
def nbWindowBytes (std : Nat) (w : NbWin) (x : NbSt) (t : Nat) : List Byte :=
  let fm := std = 0
  let beta := if x.run.locked && x.cfg.mode = 0 then w.blend else 0
  s16 w.level ++ (match w.cnr with | some v => s16 v | none => u16 0x8000) ++ s32 x.run.lastOff ++ u16 (fitted 65536 w.dev)
    ++ (if fm then s16 w.usn else u16 0x8000) ++ u8 (if fm then fitted 256 (openDiv w.mp 10) else 0)
    ++ u8 (if fm then fitted 256 (openDiv w.mpRes 10) else 0) ++ u8 (fitted 256 (roundAway w.aci 5).natAbs) ++ u8 x.run.bw ++ u8 (if fm then beta else 0) ++ u8 w.softmute
    ++ u16 (if fm then w.hicut else 0) ++ u8 (if fm then fitted 256 (openDiv w.pilot 100) else 0) ++ u8 (if fm then x.run.eqResets else 0)
    ++ u16 (if fm then 0 else w.blanks) ++ u32 t

/-- The 48 bytes of NB_METRICS (R415). -/
def Dev.nbPayload (d : Dev) (c : Nat) : List Byte :=
  let std := d.stdOf c
  let x := d.nb c
  let ch := (d.ctx? c).bind (·.nb)
  let last := if ch.isSome then x.run.last else none
  let r := tabGet d.dem.checks c
  let stereo := match last with
    | some (w, _) => std == 0 && x.run.locked && x.cfg.mode == 0 && w.blend != 0
    | none => false
  let live (b : Bool) : Bool := ch.isSome && b
  let sat := match last with | some (w, _) => w.sat | none => false
  let flags := bit last.isSome + 2 * bit r.isSome + 4 * bit stereo + 8 * bit (live x.run.locked)
    + 16 * bit (live (std == 0 && x.run.eqOn)) + 32 * bit (live (std == 1 && x.run.synch))
    + 64 * bit sat + 128 * bit ((d.ctx? c).any (·.released))
  u8 c ++ u8 std ++ u8 flags ++ u8 (ch.getD 0xFF)
    ++ (match last with | some (w, t) => nbWindowBytes std w x t | none => zeros 28)
    ++ (match r with
      | some r => u8 r.cls ++ u8 (min 255 r.m.n) ++ s16 r.m.q.level ++ s16 r.m.q.cnr ++ u8 r.m.q.pct ++ u8 0 ++ s16 r.m.q.usn
      | none => zeros 10)
    ++ u16 (if std = 1 then x.run.suspended else 0) ++ u32 ((r.map (·.time)).getD 0)

/-- NB_METRICS (R415). -/
def nbMetricsBody : Body := fun q d =>
  checked d [(q.len != 0, .badLength), (q.badHeader, .badParam), (d.nbWrong q.ctx, .wrongState)] (okWith (d.nbPayload q.ctx) d)

/-- The row NB_METRICS. -/
def execNbMetrics (dt : Nat) (s : State) : Host.Outcome State Fault Refusal := s.command dt 0x1002 nbMetricsBody

end Sys2Proof.Machine
end

