-- ==== Sys2Proof/Machine/Rds.lean ====
section
/-!
DEFINITION. RDS, RDS2 and RBDS (chapter 15): block synchronisation and PI confirmation (R421-R430), group delivery (R425),
the items the device extracts (R431-R435), and the commands RDS_CFG and RDS_STATUS. The bit positions of items within groups
are those of IEC 62106 (PRESUMED log 42).
-/
namespace Sys2Proof.Machine

/-! ## Blocks -/

/-- Offsets as a row gives them: 0 A, 1 B, 2 C, 3 C′, 4 D, 5 E. Its place in the group. -/
def offsetPlace (off : Nat) : Nat := match off with | 3 => 2 | 4 => 3 | n => n

/-- Change unit `k` of context `c`. -/
def Dev.setUnit (c k : Nat) (f : RdsUnit → RdsUnit) (d : Dev) : Dev := d.setRds c fun x => { x with units := upd x.units k f }
/-- Unit `k` of context `c`. -/
def RdsSt.unit (x : RdsSt) (k : Nat) : RdsUnit := x.units.getD k {}

/-- The decoder of stream `k` of context `c` runs (R417). -/
def Dev.rdsRuns (d : Dev) (c k : Nat) : Bool :=
  d.nbRuns c && d.stdOf c == 0 && k < 4 && hasBit (d.rds c).cfg.streams k
    && (d.ctx? c).any fun x => x.kind == 1 || x.kind == 7 || x.kind == 8 || x.kind == 9

/-- The Field Book feed is on (R431). -/
def Dev.rdsFeeds (d : Dev) (c : Nat) : Bool := d.ctxProp c P.rdsFbFeed == 1

/-- The station offer (R431): on the first confirmation and whenever its PI, PTY or ECC changes; `src` is its source bit. -/
def Dev.rdsStation (c src : Nat) (d : Dev) : Dev :=
  let x := d.rds c
  let now := (x.conf, x.pty.getD 0xFF, x.ecc)
  if x.piState != 1 || x.offered == some now then d
  else
    let o : FbOffer :=
      { std := 0, freq := d.freqOf c, id := x.conf, source := src, input := d.inputOf c, station := true
        detail := (match x.pty with | some p => [(0, p)] | none => []) ++ (if x.ecc = 0 then [] else [(1, x.ecc)]) }
    (d.setRds c fun x => { x with offered := some now }).onlyIf (d.rdsFeeds c) (Dev.offer o)

/-- The PI state becomes `st` with PI `pi` (R430). -/
def Dev.setPi (c st pi k : Nat) (d : Dev) : Dev :=
  let x := d.rds c
  if x.piState = st && x.conf = pi then d
  else (d.setRds c fun x => { x with piState := st, conf := pi, piTime := if st = 1 then d.now % 2 ^ 32 else 0 }).rdsStation c
    (if k = 0 then 1 else 2)

/-- An error-free block at offset A or C′ that holds the expected PI confirms it at any bit-locked position (R430). -/
def Dev.expectPi (c k : Nat) (off : Option Nat) (burst word : Nat) (d : Dev) : Dev :=
  let x := d.rds c
  d.onlyIf (hasBit x.cfg.flags 0 && (off == some 0 || off == some 3) && burst == 0 && word == x.cfg.pi) (Dev.setPi c 1 word k)

/-- A block of quality 0 or 1 at offset A or C′ of a synchronised unit carries PI `word` (R430). -/
def Dev.seenPi (c k word : Nat) (d : Dev) : Dev :=
  let x := d.rds c
  let again := (x.unit k).pis.contains word
  let e := (d.setRds c fun x => { x with pi := word }).onlyIf (!again) (Dev.setUnit c k fun u => { u with pis := word :: u.pis })
  if !again then e
  else if !hasBit x.cfg.flags 0 then e.setPi c 1 word k
  else if word != x.cfg.pi then e.setPi c 2 word k else e

/-- Quality of a block at the expected place `pl` (R424). -/
def blockQuality (maxBurst pl : Nat) (off : Option Nat) (burst : Nat) (erased : Bool) : Nat :=
  match off with
  | none => 3
  | some o =>
    if erased || offsetPlace o != pl || o = 5 || maxBurst < burst then 3
    else if burst = 0 then 0 else if burst ≤ 2 then 1 else 2

/-- One decoded block enters its group; the group is complete at block D (R425). -/
def RdsUnit.push (u : RdsUnit) (pl : Nat) (b : RdsBlock) (isCp : Bool) (now : Nat) : RdsUnit :=
  let start := pl = 0
  let bs := if start then [b] else u.blocks ++ [b]
  let vb := (!start && u.verB) || isCp
  let lost := !start && u.lost
  if pl = 3 then
    { u with blocks := [], verB := false, lost := false
             group := if bs.length = 4 then some (bs, vb, lost, now) else u.group }
  else { u with blocks := bs, verB := vb, lost := lost }

/-- A block at an expected position (R422-R424, R428). -/
def Dev.expectedBlock (c k pos pl t : Nat) (off : Option Nat) (burst word : Nat) (erased : Bool) (d : Dev) : Dev :=
  let q := blockQuality (d.ctxPropN c P.rdsCorrMax) pl off burst erased
  let cp := q != 3 && off == some 3
  let u := (d.rds c).unit k
  let errs := if erased then u.errs else ((q == 3) :: u.errs).take 50
  let warm := if u.warm.1 = 0 then (0, 0) else (u.warm.1 - 1, u.warm.2 + bit (q == 3))
  let lostSync := d.ctxPropN c P.rdsSyncLoss < (errs.filter id).length || warm == (0, 2)
  let b : RdsBlock := { q := q, w := if q = 3 then 0 else word }
  let d1 := d.setUnit c k fun u => { u.push pl b cp t with
    sync := some (pos + 26, (pl + 1) % 4), errs := errs, warm := if warm.1 = 0 then (0, 0) else warm }
  let full := pl = 3 && u.blocks.length = 3
  let d2 := d1.setRds c fun x => { x with
    corrected := if q = 1 || q = 2 then satAdd 0xFFFFFFFF x.corrected 1 else x.corrected
    uncorrectable := if q = 3 then satAdd 0xFFFFFFFF x.uncorrectable 1 else x.uncorrectable
    groups := if full then satAdd 0xFFFFFFFF x.groups 1 else x.groups
    groupTime := if full then t % 2 ^ 32 else x.groupTime }
  let d3 := d2.onlyIf (q ≤ 1 && (pl == 0 || cp)) (Dev.seenPi c k word)
  d3.onlyIf lostSync (Dev.setUnit c k fun u => { dsp := u.dsp, locked := u.locked, group := u.group })

/-- A block decoded by stream unit `k`. -/
def Dev.rdsBlock (c k pos t : Nat) (off : Option Nat) (burst word : Nat) (erased : Bool) (d : Dev) : Dev :=
  let x := d.rds c
  let u := x.unit k
  if off == some 5 && x.cfg.rbds == 0 then d
  else
    let d0 := if erased then d else d.expectPi c k off burst word
    match u.sync with
    | some (e, pl) =>
      if pos < e || (pos - e) % 26 != 0 then d0
      else if off == some 5 then
        (d0.setRds c fun x => { x with eBlocks := satAdd 0xFFFF x.eBlocks 1 }).setUnit c k fun u =>
          { u with sync := some (pos + 26, (pl + (pos - e) / 26) % 4) }
      else
        let skipped := (pos - e) / 26
        let d1 := d0.onlyIf (skipped != 0) (Dev.setUnit c k fun u => { u with blocks := [] })
        d1.expectedBlock c k pos ((pl + skipped) % 4) t off burst word erased
    | none =>
      match off with
      | none => d0
      | some o =>
        if o = 5 then d0.setRds c fun x => { x with eBlocks := satAdd 0xFFFF x.eBlocks 1 }
        else if erased || burst != 0 then d0
        else
          let pl := offsetPlace o
          let follows (f : Nat × Nat) : Bool :=
            f.1 < pos && (pos - f.1) % 26 == 0 && (f.2 + (pos - f.1) / 26) % 4 == pl
          if u.found.any follows then
            (d0.setUnit c k fun u => { u with found := [], errs := [], pis := [], blocks := [] }).expectedBlock c k pos pl t off
              burst word erased
          else d0.setUnit c k fun u => { u with found := (pos, pl) :: u.found }

/-- Offsets that an unsynchronised unit looks for, and E with RBDS selected (R421). -/
def RdsCfg.offsets (g : RdsCfg) : List Nat := [0, 1, 2, 3, 4] ++ (if g.rbds = 1 then [5] else [])
/-- Offsets expected at place `pl` of a group (R422, R424). -/
def placeOffsets (pl : Nat) : List Nat := if pl = 2 then [2, 3] else if pl = 3 then [4] else [pl]

/-- Stream unit `k` takes its decided bits one by one until they end a block: at an expected position in synchronisation, at any
position where an offset is found without it, and wherever the expected PI stands at offset A or C′ (R421, R422, R424, R430). -/
def Dev.rdsTake (c k : Nat) : List RdsBit → Dev → Dev
  | [], d => d.setUnit c k fun u => { u with dsp := { u.dsp with bits := [] } }
  | b :: rest, d =>
    let x := d.rds c
    let y := (x.unit k).dsp
    let y := { y with
      pos := y.pos + 1, win := (2 * y.win + bit b.v) % 2 ^ 26, clean := if b.erased then 0 else min 26 (y.clean + 1), bits := rest }
    let d1 := d.setUnit c k fun u => { u with dsp := y }
    let whole := y.clean == 26
    let found := if whole then offsetIn x.cfg.offsets y.win else none
    let here := match (x.unit k).sync with
      | some (e, _) => decide (e ≤ y.pos) && (y.pos - e) % 26 == 0
      | none => false
    match (x.unit k).sync with
    | some (e, pl) =>
      if here then
        let place := (pl + (y.pos - e) / 26) % 4
        if whole && found == some 5 then d1.rdsBlock c k y.pos b.t (some 5) 0 0 false
        else match (if whole then correctBlock (d.ctxPropN c P.rdsCorrMax) (placeOffsets place) y.win else none) with
          | some (o, n, w) => d1.rdsBlock c k y.pos b.t (some o) n w false
          | none => d1.rdsBlock c k y.pos b.t none 0 0 (!whole)
      else if found == some 0 || found == some 3 then (d1.expectPi c k found 0 (y.win / 1024)).rdsTake c k rest
      else d1.rdsTake c k rest
    | none => match found with
      | some o => d1.rdsBlock c k y.pos b.t (some o) 0 (y.win / 1024) false
      | none => d1.rdsTake c k rest

/-- RDS_BLOCK_DECODED: the next block that the decided bits of the stream hold. -/
def execRdsBlockDecoded (dt ctx stream : Nat) (s : State) : Host.Outcome State Fault Refusal :=
  s.runIf dt (fun d => d.active && d.rdsRuns ctx stream) fun d => d.rdsTake ctx stream (((d.rds ctx).unit stream).dsp.bits)

/-- RDS_BIT_LOCK_CHANGE (R419, R420): the lock becomes what the unit's last bits decide. -/
def execRdsBitLockChange (dt ctx stream : Nat) (s : State) : Host.Outcome State Fault Refusal :=
  s.runIf dt (fun d => d.active && d.rdsRuns ctx stream) (Dev.setUnit ctx stream fun u =>
    let v := u.dsp.lock u.locked
    { u with locked := v, lost := u.lost || (u.locked && !v && !u.blocks.isEmpty) })

/-- MPX samples of context `c` enter the stream units that run (R417, R418). -/
def Dev.rdsFeed (c : Nat) (l : List MpxOut) (d : Dev) : Dev :=
  let pilot := (d.nb c).run.locked
  (List.range 4).foldl (fun e k =>
    e.onlyIf (e.rdsRuns c k) (Dev.setUnit c k fun u => { u with dsp := l.foldl (fun y o => y.push k pilot u.locked o) u.dsp })) d

/-! ## Alternative frequencies (R432) -/

/-- Frequency of an AF code, kHz. -/
def afFreq (rbds lf : Bool) (code : Nat) : Option Nat :=
  if lf then
    if 1 ≤ code && code ≤ 15 then some (153 + 9 * (code - 1))
    else if rbds && 16 ≤ code && code ≤ 125 then some (530 + 10 * (code - 16))
    else if !rbds && 16 ≤ code && code ≤ 135 then some (531 + 9 * (code - 16)) else none
  else if 1 ≤ code && code ≤ 204 then some (87500 + 100 * code) else none

/-- The frequencies of a pair of codes, with whether an LF/MF mark stands after it. -/
def afPair (rbds lf : Bool) (a b : Nat) : List Nat × Bool :=
  let fa := if a = 250 then none else afFreq rbds lf a
  let lf1 := a = 250
  let fb := if b = 250 then none else afFreq rbds lf1 b
  (fa.toList ++ fb.toList, b = 250)

/-- The frequencies of a later pair enter the list; `mark` says that its first code exceeds its second. -/
def AfList.add (l : AfList) (fs : List Nat) (mark : Bool) : AfList :=
  { l with
    freqs := fs.foldl (fun acc f => if acc.any (·.1 == f) then acc else acc ++ [(f, mark)]) l.freqs
    methodB := some (l.methodB.getD true && fs.contains l.first) }

/-- Offers of a complete list (R432). -/
def Dev.afOffers (d : Dev) (c : Nat) (l : AfList) : List FbOffer :=
  let tuned := d.freqOf c
  (l.freqs.filter (·.1 != tuned)).map fun (f, mark) =>
    let o : FbOffer := { std := 0, freq := f, source := 1, input := d.inputOf c }
    if f < 87500 then { o with std := 1 }
    else { o with id := (d.rds c).conf, regional := some (mark && l.methodB == some true) }

/-- A partial list after a pair: complete, still partial, or discarded beyond its number. -/
def Dev.afStep (c : Nat) (l : AfList) (d : Dev) : Dev :=
  if l.n < l.freqs.length then d.setRds c fun x => { x with part := none }
  else if l.freqs.length = l.n then
    let changed := (d.rds c).af != some l
    let e := d.setRds c fun x => { x with part := none, af := some l }
    if changed && d.rdsFeeds c then (d.afOffers c l).foldl (fun e o => e.offer o) e else e
  else d.setRds c fun x => { x with part := some l }

/-- Block C of a group 0A. -/
def Dev.afBlock (c w : Nat) (d : Dev) : Dev :=
  let x := d.rds c
  let rbds := x.cfg.rbds = 1
  let (a, b) := (w / 256, w % 256)
  if 225 ≤ a && a ≤ 249 then
    match afFreq rbds false b with
    | some f => (d.setRds c fun x => { x with lf := false }).afStep c { n := a - 224, first := f, freqs := [(f, false)] }
    | none => d.setRds c fun x => { x with part := some { n := a - 224, first := 0, freqs := [] }, lf := b == 250 }
  else
    let (fs, lf) := afPair rbds x.lf a b
    let e := d.setRds c fun x => { x with lf := lf }
    match x.part with
    | some l => if fs.isEmpty then e else e.afStep c (l.add fs (b < a))
    | none => e

/-! ## Groups -/

/-- ALERT_RECEIVED of the RDS decoder (R436). -/
def Dev.rdsAlert (c origin stream : Nat) (blocks : List Nat) (d : Dev) : Dev :=
  let x := d.rds c
  d.alert c (u8 origin ++ u8 stream ++ u16 (if x.piState = 1 then x.conf else x.pi) ++ u32 (d.freqOf c)
    ++ padTo 6 (blocks.flatMap u16))

/-- The alarm of R434 after a group of stream 0; `pty` is none where block B is not of quality 0 or 1. -/
def Dev.rdsAlarm (c : Nat) (pty : Option Nat) (d : Dev) : Dev :=
  let x := d.rds c
  let toward := match pty with
    | some p => (p == 31) != x.alarm
    | none => false
  if !toward then d.setRds c fun x => { x with alarmRun := 0 }
  else if d.ctxPropN c P.rdsAlarmConfirm ≤ x.alarmRun + 1 then
    let e := d.setRds c fun x => { x with
      alarm := !x.alarm, alarmRun := 0, alarms := if x.alarm then x.alarms else satAdd 0xFFFF x.alarms 1 }
    e.rdsAlert c (bit x.alarm) 0 []
  else d.setRds c fun x => { x with alarmRun := x.alarmRun + 1 }

/-- EON information of a group 14A or 14B (R431, R433): the other network is held, and its frequencies are offered. -/
def Dev.rdsEon (c : Nat) (verA : Bool) (b cw : Option Nat) (pi : Nat) (d : Dev) : Dev :=
  let e := d.setRds c fun x => { x with eon := (pi :: x.eon.filter (· != pi)).take 8 }
  match verA, b, cw with
  | true, some b, some w =>
    if b % 16 = 4 && d.rdsFeeds c then
      let fs := (afPair ((d.rds c).cfg.rbds = 1) false (w / 256) (w % 256)).1
      fs.foldl (fun e f =>
        let o : FbOffer := { std := if f < 87500 then 1 else 0, freq := f, id := if f < 87500 then 0 else pi, source := 1
                             input := d.inputOf c }
        e.offer o) e
    else e
  | _, _, _ => e

/-- What the decoder takes from a confirmed group of stream 0 (R431): only blocks of quality 0 or 1 are given. -/
def Dev.rdsExtract (c : Nat) (b cw dw : Option Nat) (d : Dev) : Dev :=
  match b with
  | none => d.rdsAlarm c none
  | some w =>
    let (t, verB, pty) := (w / 4096, hasBit w 11, w / 32 % 32)
    let e := d.setRds c fun x => { x with
      pty := some pty, tp := hasBit w 10
      ta := if t = 0 || (t = 15 && verB) then hasBit w 4 else x.ta
      ms := if t = 0 || (t = 15 && verB) then hasBit w 3 else x.ms }
    let e := match t, verB, cw with
      | 0, false, some v => e.afBlock c v
      | 1, false, some v => if v / 4096 % 8 = 0 then e.setRds c fun x => { x with ecc := v % 256 } else e
      | _, _, _ => e
    let e := match t, dw with
      | 14, some pi => e.rdsEon c (!verB) b cw pi
      | _, _ => e
    (e.rdsStation c 1).rdsAlarm c (some pty)

/-- Payload of a record of type 0x10 (R426). -/
def groupPayload (k : Nat) (rbds : Bool) (bs : List RdsBlock) (verB lost : Bool) : List Byte :=
  let qs := (indexed bs).foldl (fun n (i, b) => n + b.q * 4 ^ i) 0
  u8 k ++ u8 (bit verB + 2 * bit rbds + 4 * bit lost) ++ u8 qs ++ u8 0 ++ bs.flatMap fun b => u16 b.w

/-- The delivery mode selects a group (R425). -/
def RdsCfg.delivers (g : RdsCfg) (bs : List RdsBlock) : Bool :=
  let b := bs.getD 1 { q := 3, w := 0 }
  let typ := b.w / 2048      -- type and version: bits 15:11 of block B
  (g.deliver == 1 || (g.deliver == 2 && hasBit g.mask typ)) && b.q ≤ 2 && (hasBit g.flags 1 || bs.all (·.q ≤ 2))

/-- A complete group is handled (R425, R431, R434, R435). -/
def Dev.rdsGroup (c k : Nat) (d : Dev) : Dev :=
  match ((d.rds c).unit k).group with
  | none => d
  | some (bs, verB, lost, t) =>
    let g := (d.rds c).cfg
    let e := d.setUnit c k fun u => { u with group := none }
    let e := e.onlyIf (g.delivers bs) (Dev.writeRecord c 0x10 t (groupPayload k (g.rbds = 1) bs verB lost))
    let good (i : Nat) : Option Nat := match bs[i]? with
      | some b => if b.q ≤ 1 then some b.w else none
      | none => none
    let aid := d.ctxPropN c P.rds2AlertAid
    let names := match good 1, good 3 with
      | some b, some v => k == 0 && aid != 0 && b / 2048 == 6 && v == aid
      | _, _ => false
    let e := if aid = 0 then e.setRds c fun x => { x with alertType := none }
      else e.onlyIf names (Dev.setRds c fun x => { x with alertType := some (aid, (good 1).getD 0 % 32) })
    let alerts := aid != 0 && bs.all (·.q ≤ 1) && (d.rds c).alertType == (good 1).map fun b => (aid, b / 2048)
    let e := e.onlyIf alerts (Dev.rdsAlert c 2 k ((bs.drop 1).map (·.w)))
    let x := e.rds c
    let confirmed := x.piState == 1 && (match good 0 with | some pi => pi == x.conf | none => true)
    if k = 0 && confirmed then e.rdsExtract c (good 1) (good 2) (good 3) else e

/-- RDS_GROUP_COMPLETE. -/
def execRdsGroupComplete (dt ctx stream : Nat) (s : State) : Host.Outcome State Fault Refusal :=
  s.runIf dt (fun d => d.active && d.rdsRuns ctx stream) (Dev.rdsGroup ctx stream)

/-! ## Commands -/

/-- Standard of context `c`, by its kind where the kind fixes it. -/
def Dev.stdFixedOf (d : Dev) (c : Nat) : Nat := ((d.ctx? c).map CtxSt.stdFixed).getD 0xFF

/-- A command on an RDS context answers WRONG_STATE. -/
def Dev.rdsWrong (d : Dev) (c : Nat) : Bool := d.inWatch || d.ctxBusy c || d.stdFixedOf c != 0

/-- RDS_CFG (R437). -/
def rdsCfgBody : Body := fun q d =>
  let g : RdsCfg := { streams := q.p8 0, rbds := q.p8 1, deliver := q.p8 2, flags := q.p8 3, pi := q.p16 4, mask := q.p32 8 }
  checked d [(q.len != 16, .badLength),
    (q.badHeader || 15 < g.streams || 1 < g.rbds || 2 < g.deliver || 3 < g.flags || (!hasBit g.flags 0 && g.pi != 0)
      || (g.deliver == 2) == (g.mask == 0) || !zeroAt q.params 6 2 || !zeroAt q.params 12 4, .badParam),
    (q.notCtxOwner q.ctx d, .notOwner), (d.rdsWrong q.ctx, .wrongState)] <|
    okWith (u64 d.nextBoundary) (d.setRds q.ctx fun x => { x with next := some (g, d.nextBoundary) })

/-- The row RDS_CFG. -/
def execRdsCfg (dt : Nat) (s : State) : Host.Outcome State Fault Refusal := s.command dt 0x1003 rdsCfgBody

/-- Settings accepted by RDS_CFG take effect (R437). -/
def Dev.applyRds (c : Nat) (d : Dev) : Dev :=
  match (d.rds c).next with
  | none => d
  | some (g, due) =>
    if d.now < due then d
    else d.setRds c fun x =>
      let expect := (hasBit g.flags 0, g.pi) != (hasBit x.cfg.flags 0, x.cfg.pi)
      let unit (k : Nat) (u : RdsUnit) : RdsUnit :=
        if hasBit g.streams k != hasBit x.cfg.streams k then {}
        else if g.rbds != x.cfg.rbds then { dsp := u.dsp, locked := u.locked } else u
      { x with
        cfg := g, next := none, units := (indexed x.units).map fun (k, u) => unit k u
        piState := if expect then 0 else x.piState, conf := if expect then 0 else x.conf
        piTime := if expect then 0 else x.piTime, offered := if expect then none else x.offered }
/-- Every RDS setting whose boundary has come. -/
def Dev.rdsRound (d : Dev) : Dev := forAll (d.dem.rds.map (·.1)) (fun c d => d.applyRds c) d

/-- % of uncorrectable blocks among the last 50. -/
def RdsUnit.bler (u : RdsUnit) : Nat := if u.errs.isEmpty then 0 else 100 * (u.errs.filter id).length / u.errs.length

/-- The 48 bytes of RDS_STATUS (R438). -/
def Dev.rdsPayload (d : Dev) (c : Nat) : List Byte :=
  let x := d.rds c
  let synced := maskOf (indicesWhere x.units (·.sync.isSome))
  let flags := bit (x.unit 0).locked + 2 * x.cfg.rbds + 4 * bit x.tp + 8 * bit x.ta + 16 * bit x.ms + 32 * bit x.alarm
    + 64 * bit x.warm
  let (n, method) := match x.af, x.part with
    | some l, _ => (l.freqs.length, if l.methodB == some true then 2 else 1)
    | none, some l => (l.freqs.length, 3)
    | none, none => (0, 0)
  u8 c ++ u8 synced ++ u8 flags ++ u8 (x.pty.getD 0xFF) ++ u16 x.pi ++ u8 x.piState ++ u8 x.ecc
    ++ x.units.flatMap (fun u => u8 u.bler) ++ u8 n ++ u8 method ++ u16 x.eon.length ++ u32 x.groups ++ u32 x.corrected
    ++ u32 x.uncorrectable ++ u16 x.eBlocks ++ u16 x.alarms ++ u32 x.piTime ++ u32 x.groupTime ++ zeros 8

/-- RDS_STATUS (R438). -/
def rdsStatusBody : Body := fun q d =>
  checked d [(q.len != 0, .badLength), (q.badHeader, .badParam), (d.rdsWrong q.ctx, .wrongState)] (okWith (d.rdsPayload q.ctx) d)

/-- The row RDS_STATUS. -/
def execRdsStatus (dt : Nat) (s : State) : Host.Outcome State Fault Refusal := s.command dt 0x1004 rdsStatusBody

end Sys2Proof.Machine
end

