-- ==== Sys2Proof/Machine/DabData.lean ====
section
/-!
DEFINITION. The database of a DAB ensemble (16 R450-R452): what each FIG puts into it, and how a service selection resolves
in it (R469). The FIGs' own coding is that of ETSI EN 300 401: a row gives each FIG with its parsed content.
-/
namespace Sys2Proof.Machine

/-! ## Elements -/

/-- The element that `same` names takes the new value; otherwise it is appended within the capacity. The flag says that a new
element appeared. -/
def putElem {α : Type} (cap : Nat) (same : α → Bool) (merge : α → α) (new : α) (l : List α) : List α × Bool :=
  if l.any same then (updWhere l same merge, false) else if l.length < cap then (l ++ [new], true) else (l, false)

/-- Every element of `l` put into a table. -/
def putAll {α β : Type} (put : β → List α → List α × Bool) (l : List β) (t : List α) : List α × Bool :=
  l.foldl (fun (acc : List α × Bool) b =>
    let (t, n) := put b acc.1
    (t, acc.2 || n)) (t, false)

/-- One subchannel (FIG 0/1). -/
def putSub (s : DabSub) (l : List DabSub) : List DabSub × Bool := putElem 64 (·.id == s.id) (fun _ => s) s l
/-- One service (FIG 0/2). -/
def putServ (s : DabServ) (l : List DabServ) : List DabServ × Bool :=
  putElem 64 (·.sid == s.sid) (fun x => { x with data := s.data, ca := s.ca }) s l
/-- One component of a service (FIG 0/2). -/
def putComp (s : DabComp) (l : List DabComp) : List DabComp × Bool :=
  putElem 128 (fun x => x.sid == s.sid && x.tmid == s.tmid && x.subch == s.subch && x.scid == s.scid
      || (x.sid == s.sid && s.scid.isSome && x.scid == s.scid))
    (fun x => { x with typ := s.typ, ca := s.ca }) s l

/-- The configuration with a FIG's elements (R450), and whether a new one appeared. -/
def DabConf.take (x : DabConf) (b : FigBody) : DabConf × Bool :=
  match b with
  | .subs _ l => let (t, n) := putAll putSub l x.subs; ({ x with subs := t }, n)
  | .servs _ l cs =>
    let (t, n) := putAll putServ l x.servs
    let (u, m) := putAll putComp cs x.comps
    ({ x with servs := t, comps := u }, n || m)
  | .packets _ l =>
    let step (cs : List DabComp) (p : Nat × Nat × Nat) : List DabComp :=
      updWhere cs (·.scid == some p.1) fun y => { y with subch := some p.2.1, addr := some p.2.2 }
    ({ x with comps := l.foldl step x.comps }, false)
  | .globals _ l =>
    let step (cs : List DabComp) (p : Nat × Nat × Option Nat × Option Nat) : List DabComp :=
      updWhere cs (fun y => y.sid == p.1 && ((p.2.2.1.isSome && y.subch == p.2.2.1) || (p.2.2.2.isSome && y.scid == p.2.2.2)))
        fun y => { y with scids := p.2.1 }
    ({ x with comps := l.foldl step x.comps }, false)
  | .eccs _ l =>
    let step (ss : List DabServ) (p : Nat × Nat) : List DabServ := updWhere ss (·.sid == p.1) fun y => { y with ecc := p.2 }
    ({ x with servs := l.foldl step x.servs }, false)
  | .servLabel sid cs bytes => ({ x with servs := updWhere x.servs (·.sid == sid) fun y => { y with label := some (cs, padTo 16 bytes) } }, false)
  | _ => (x, false)

/-- The FIG belongs to the announced next configuration (C/N set). -/
def figForNext : FigBody → Bool
  | .subs n _ | .servs n _ _ | .packets n _ | .globals n _ => n
  | _ => false

/-- The database with a FIG's elements: a new one restarts the count of quiet frames (R451). -/
def DabInst.take (x : DabInst) (b : FigBody) : DabInst :=
  match b with
  | .eccs ens _ => { x with ecc := if ens = 0 then x.ecc else ens, conf := (x.conf.take b).1 }
  | .apps l => { x with apps := l.foldl (fun t a => if t.contains a then t else t ++ [a]) x.apps }
  | .fec l => { x with fec := l.foldl (fun t a => tabSet t a.1 a.2) x.fec }
  | .support l => { x with support := l.foldl (fun t a => tabSet t a.1 a.2) x.support }
  | .ensLabel cs bytes => { x with label := some (cs, padTo 16 bytes) }
  | _ =>
    if figForNext b then { x with nextConf := (x.nextConf.take b).1 }
    else
      let (t, n) := x.conf.take b
      { x with conf := t, quiet := if n then 0 else x.quiet }

/-- Every subchannel that a component references has its FIG 0/1 (R451). -/
def DabConf.referenced (x : DabConf) : Bool :=
  x.comps.all fun y => match y.subch with
    | some k => x.subs.any (·.id == k)
    | none => y.scid.isNone

/-! ## Selections (R469) -/

/-- Type of a component: 0 Layer II, 1 DAB+, 2 stream data, 3 packet data; none where it is another. -/
def compKind (x : DabComp) : Option Nat :=
  match x.tmid with
  | 0 => if x.typ = 0 then some 0 else if x.typ = 63 then some 1 else none
  | 1 => some 2
  | 3 => some 3
  | _ => none

/-- The component suits the context's kind: audio for DAB_AUDIO, data for DAB_DATA. -/
def kindSuits (ctxKind : Nat) (t : Option Nat) : Bool := match t with
  | some n => if ctxKind = 3 then n ≤ 1 else 2 ≤ n
  | none => false

/-- The component that a selection names. -/
def DabSel.names (q : DabSel) (ensEcc : Nat) (x : DabConf) (y : DabComp) : Bool :=
  if hasBit q.flags 1 then y.subch == some q.subch
  else
    y.scids == q.scids && (if hasBit q.flags 0 then y.sid == q.sid else y.sid == q.sid % 65536)
      && x.servs.any fun v => v.sid == y.sid && v.data == hasBit q.flags 0
        && (hasBit q.flags 0 || q.sid / 65536 == 0 || q.sid / 65536 == (if v.ecc = 0 then ensEcc else v.ecc))

/-- What a selection resolves to, or the reason why it does not: 0 absent, 1 type mismatch, 2 CA, 3 too large. -/
def DabSel.resolve (q : DabSel) (ctxKind ensEcc : Nat) (x : DabConf) : Except Nat DabRes :=
  match x.comps.filter (q.names ensEcc x) with
  | [] => .error 0
  | l =>
    match l.find? fun y => kindSuits ctxKind (compKind y) with
    | none => .error 1
    | some y =>
      if y.ca then .error 2
      else match y.subch.bind fun k => x.subs.find? (·.id == k) with
        | none => .error 0
        | some s =>
          if (compKind y) == some 3 && y.addr.isNone then .error 0
          else if 288 < s.size then .error 3
          else .ok { sub := s, typ := (compKind y).getD 0, addr := y.addr }

/-- Service that a selection selects, for its announcements (R463). -/
def DabSel.service (q : DabSel) (x : DabConf) : Nat :=
  if hasBit q.flags 1 then ((x.comps.find? (·.subch == some q.subch)).map (·.sid)).getD 0
  else if hasBit q.flags 0 then q.sid else q.sid % 65536

end Sys2Proof.Machine
end

