-- ==== Sys2Proof/Machine/Combine.lean ====
section
/-!
DEFINITION. Combining the samples of the branches of an FM or AM service (18 R508-R510, R513, R517, R518), and what CMB_STATUS shows
of them (R523).
-/
namespace Sys2Proof.Machine

/-- Grid ticks between samples at decimation exponent `k` (12 R337). -/
def gridTicks (k : Nat) : Nat := 64 * 2 ^ k

/-- C that counts for the sample at grid tick `t` (R510). -/
def BranchDsp.corrAt (t : Nat) (x : BranchDsp) : Int := ((x.corr.filter (·.1 ≤ t)).getLast?.map (·.2)).getD 0

/-- The value of a sample of the branch; a remote one is derotated by the anchor's correction, its phase going on (R510). -/
def BranchSt.take (k : Nat) (s : SlotSample) (y : BranchSt) : BranchSt × Cx :=
  if !y.remote then (y, s.value)
  else
    let z := (s.value.mul (rotor30 y.dsp.rot)).each fun v => openDiv v (2 ^ 30)
    ({ y with dsp := { y.dsp with rot := ((y.dsp.rot + y.dsp.corrAt s.t * (8 * 2 ^ k : Nat)) % 2 ^ 32).toNat } }, z)

/-- The sample of the branch at grid tick `t`. -/
def BranchSt.at (t : Nat) (y : BranchSt) : Option SlotSample := y.dsp.buf.find? (·.t == t)

/-- Grid ticks of Round `r` at decimation exponent `k`. -/
def roundGrid (k r : Nat) : List Nat := (List.range (slotPerRound k)).map fun j => r * roundTicks + j * gridTicks k

/-- What one grid tick gives the demodulator. -/
structure CombOut where
  /-- Branches after the tick. -/
  branches : List BranchSt
  /-- The combined sample. -/
  y : Cx
  /-- Input of the equaliser on the active branch of highest weight. -/
  x : Cx
  /-- A branch contributed; without one the sample carries NOSEG (R513). -/
  any_ : Bool
  /-- A contributing sample carried SAT. -/
  sat : Bool

/-- Number of the active branch of highest weight (R517). -/
def leadBranch (l : List BranchSt) : Nat :=
  let act := (indexed l).filter (·.2.state == .active)
  ((act.foldl (fun best b => match best with
    | some (c : Nat × BranchSt) => if c.2.weight < b.2.weight then some b else some c
    | none => some b) none).map (·.1)).getD 0

/-! ## FM (R517) -/

/-- The taps at creation: tap 4 of branch 0 is 1, every other tap 0. -/
def firstTaps (b : Nat) (q : EqSt) : EqSt := if b = 0 then { q with w := ({} : EqSt).w } else { q with w := List.replicate 16 {} }

/-- Reset conditions of R397 over the sum of all branches. -/
def tapsFailed (l : List BranchSt) : Bool :=
  let all := (l.map fun y => eqNorm y.dsp.eq.w).sum
  let ref := (l.map fun y => (y.dsp.eq.w.getD 4 {}).sq).sum
  decide (4 * ref < all) || decide (16 * 2 ^ 32 < all)

/-- The moments and the correlation with branch 0 of a branch sample at the common gain (R409, R523). -/
def BranchDsp.note (x x0 : Cx) (y : BranchDsp) : BranchDsp :=
  { y with
    sums := { y.sums with n := y.sums.n + 1, m2 := y.sums.m2 + x.sq, m4 := y.sums.m4 + x.sq ^ 2 }
    corr0 := y.corr0.add (x.mul x0.conj) }

/-- One grid tick of an FM service: the channel filter of every branch, the common gain, the taps, their sum and the update. -/
def combineFm (bw mu norm t lead : Nat) (l : List BranchSt) : CombOut :=
  let one (y : BranchSt) : BranchSt × Cx × Nat × Bool :=
    match y.at t with
    | none => (y, {}, 0, false)
    | some s =>
      let (y, v) := y.take 6 s
      let line := pushLine 127 v y.dsp.line
      let f := (firSum (linearPhase 127 (Config.nbTap 0 bw)) line).each fun a => openDiv a (2 ^ 17)
      let x := f.each fun a => (saturate 18 (openRatio (a * 65536) norm)).1
      ({ y with dsp := { y.dsp with line := line, eq := { y.dsp.eq with line := pushLine 16 x y.dsp.eq.line } } }, x, f.sq, s.sat)
  let ys := l.map one
  let acts := ys.filter (·.1.state == .active)
  let y := eqClip (Cx.sum (acts.map fun a => a.1.dsp.eq.sum))
  let x0 := (ys.head?.map (·.2.1)).getD {}
  let next (a : BranchSt × Cx × Nat × Bool) : BranchSt :=
    let d := a.1.dsp.note a.2.1 x0
    { a.1 with dsp := if a.1.state == .active then { d with eq := d.eq.adapt mu y } else d }
  { branches := ys.map next, y := y, x := ((ys[lead]?).map (·.2.1)).getD {}, any_ := !acts.isEmpty, sat := acts.any (·.2.2.2) }

/-- The common gain of a Round: the rms magnitude of the strongest active branch over the Round before (R517 step 2). -/
def commonNorm (l : List BranchSt) : Nat := ((l.filter (·.state == .active)).map (·.dsp.rms)).foldl max 0

/-- Rms magnitude of the branch behind the channel filter over the ticks `ts`, for the common gain of the next Round. -/
def branchRms (bw : Nat) (ts : List Nat) (y : BranchSt) : Nat :=
  let go := ts.foldl (fun (acc : BranchSt × Nat × Nat) t => match acc.1.at t with
    | none => acc
    | some s =>
      let (z, v) := acc.1.take 6 s
      let line := pushLine 127 v z.dsp.line
      let f := (firSum (linearPhase 127 (Config.nbTap 0 bw)) line).each fun a => openDiv a (2 ^ 17)
      ({ z with dsp := { z.dsp with line := line } }, acc.2.1 + f.sq, acc.2.2 + 1)) (y, 0, 0)
  if go.2.2 = 0 then 0 else rootNat (go.2.1 / go.2.2)

/-- The taps as a Round begins: those of a dropped branch are zero, and every tap leaks once (R397, R512, R517). -/
def BranchSt.tapsRound (y : BranchSt) : BranchSt :=
  { y with dsp := { y.dsp with eq := if y.state == .active then y.dsp.eq.leaked else { y.dsp.eq with w := List.replicate 16 {} } } }

/-! ## AM (R518) -/

/-- The carrier phasor ĉ of a window's samples, and σ² times the number of samples. -/
def carrierOf (l : List Cx) : Cx × Nat :=
  let n := l.length
  let c := (Cx.sum l).each fun v => openRatio v n
  (c, (l.map fun x => (openRatio ((x.mul c.conj).im.natAbs ^ 2) c.sq).toNat).sum)

/-- The weights at a window's end: conj(ĉ_b) / σ_b² over Σ|ĉ_b|² / σ_b² of the active branches; a branch without clean samples in the
window keeps its weight. -/
def amWeights (l : List BranchSt) : List BranchSt :=
  let est := l.map fun y => (y, carrierOf y.dsp.win, y.dsp.win.length)
  let snr (e : BranchSt × (Cx × Nat) × Nat) : Nat := (openRatio ((e.2.1.1.sq * e.2.2 * 2 ^ 48 : Nat) : Int) e.2.1.2).toNat
  let s := ((est.filter fun e => e.1.state == .active && e.2.2 != 0).map snr).sum
  est.map fun e =>
    if e.2.2 = 0 then { e.1 with dsp := { e.1.dsp with wOld := e.1.dsp.w } }
    else { e.1 with dsp := { e.1.dsp with
      w := (e.2.1.1.conj.scale (2 ^ 208 * e.2.2 : Nat)).each fun v => openRatio v (e.2.1.2 * s), wOld := e.1.dsp.w, win := [] } }

/-- Weight 1 of the sample scale, with which branch 0 of an AM service begins (DESIGN CHOICE log 136). -/
def unitWeight : Cx := { re := 2 ^ 96 }

/-- One grid tick of an AM service: the blanker of every branch, and the weighted sum with the cross-fade of its weights. -/
def combineAm (p : NbPar) (freq : Int) (fade t : Nat) (clean : Nat → Bool) (l : List BranchSt) : CombOut :=
  let one (b : Nat × BranchSt) : BranchSt × Cx × Bool × Bool :=
    match b.2.at t with
    | none => (b.2, {}, false, false)
    | some s =>
      let (y, v) := b.2.take 8 s
      let (k, x) := y.dsp.blank.step p freq v
      ({ y with dsp := { y.dsp with blank := k, win := if clean b.1 then y.dsp.win ++ [x] else y.dsp.win } }, x, true, s.sat)
  let ys := (indexed l).map one
  let acts := ys.filter fun a => a.1.state == .active && a.2.2.1
  let part (a : BranchSt × Cx × Bool × Bool) : Cx :=
    let w := if fade < 64 then { re := fadeMix fade a.1.dsp.wOld.re a.1.dsp.w.re, im := fadeMix fade a.1.dsp.wOld.im a.1.dsp.w.im : Cx } else a.1.dsp.w
    (w.mul a.2.1).each fun v => openDiv v (2 ^ 96)
  { branches := ys.map (·.1), y := Cx.sum (acts.map part), x := {}, any_ := !acts.isEmpty, sat := acts.any (·.2.2.2) }

/-! ## What CMB_STATUS shows (R523) -/

/-- 10^(q/10) of a quality in 0.1 dB, in units of 2^-24. -/
def snrOf (q : Int) : Nat := ampOf (2 * q / 5) ^ 2 / 2 ^ 24

/-- weight of every branch: 255 × its share of the combined signal-to-noise power, rounded; a branch that does not contribute has none. -/
def sharedWeights (l : List BranchSt) : List BranchSt :=
  let snr (y : BranchSt) : Nat := if y.state == .active then snrOf y.quality else 0
  let s := (l.map snr).sum
  l.map fun y => { y with weight := if s = 0 then 0 else (roundAway ((255 * snr y : Nat) : Int) s).toNat }

/-- quality and phase of a branch of an FM service from a window, and of an AM service from its carrier phasors. -/
def BranchSt.measured (std : Nat) (c0 : Cx) (y : BranchSt) : BranchSt :=
  let x := y.dsp
  if std = 0 then
    if x.sums.n = 0 then y
    else { y with quality := fmCnr x.sums.n x.sums.m2 x.sums.m4, phase := turnOf 16 x.corr0.shrink, dsp := { x with sums := {}, corr0 := {} } }
  else if x.win.isEmpty then y
  else
    let (c, s) := carrierOf x.win
    { y with quality := levelOf (c.sq * x.win.length) (2 * s), phase := turnOf 16 (c.mul c0.conj).shrink }

/-- A window of R408 of the anchor ends with Round `r`. -/
def Dev.windowEnds (d : Dev) (c r : Nat) : Bool := (d.ctx? c).any fun a => ((r + 1) * roundTicks - a.dispatched) % nbWindow == 0

/-- What the branches have measured by the end of a window. -/
def branchesMeasured (std : Nat) (l : List BranchSt) : List BranchSt :=
  let c0 := (carrierOf ((l.head?.map (·.dsp.win)).getD [])).1
  sharedWeights (l.map (BranchSt.measured std c0))

/-! ## A Round of a service -/

/-- The combined sample as the demodulator sees it. -/
def CombOut.sample (t : Nat) (o : CombOut) : SlotSample := { t := t, m := {}, eo := 0, noseg := !o.any_, sat := o.sat }

/-- Branch `b` of service `v` is clean in the Round that is combined now (R511). -/
def BranchSt.cleanNow (y : BranchSt) : Bool := y.clean != 0

/-- One grid tick of an FM service reaches the anchor's channel (R517). -/
def fmTick (p : NbPar) (norm lead t leaves : Nat) (l : List BranchSt) (x : NbDsp) : List BranchSt × NbDsp × MpxOut :=
  let o := combineFm p.run.bw p.props.mu norm t lead l
  let s := o.sample t
  if s.frozen then
    let (y, m) := NbDsp.fm p leaves s x
    (o.branches, y, m)
  else
    let fail := tapsFailed o.branches
    let bs := if fail then (indexed o.branches).map fun b => { b.2 with dsp := { b.2.dsp with eq := firstTaps b.1 b.2.dsp.eq } } else o.branches
    -- the edge bands are measured on the leading branch
    let line := ((bs[lead]?).map (·.dsp.line)).getD []
    let front := { x.front with norm := norm, line := line.map (·.each fun a => (saturate 18 (openRatio (a * 65536) norm)).1) }
    let (y, m, err) := ({ x with resets := x.resets + bit fail, front := front } : NbDsp).fmOut p t leaves o.y
    (bs, y.measureFm s o.x o.y m err, m)

/-- Round `r` of FM service `v` (R509, R517); gives the MPX. -/
def Dev.combineFmRound (v r : Nat) (d : Dev) : List MpxOut × Dev :=
  match tabGet d.comb.services v with
  | none => ([], d)
  | some x =>
    let c := x.anchor
    let p := d.nbPar c
    let ts := roundGrid 6 r
    let norm := commonNorm x.branches
    let lead := leadBranch x.branches
    let rms := x.branches.map (branchRms p.run.bw ts)
    let late := x.latency * roundTicks + 64
    let (bs, y, out) := ts.foldl (fun (acc : List BranchSt × NbDsp × List MpxOut) t =>
      let (bs, y, m) := fmTick p norm lead t (t + late) acc.1 acc.2.1
      (bs, y, acc.2.2 ++ [m])) (x.branches.map BranchSt.tapsRound, (d.nb c).dsp, [])
    let bs := (bs.zip rms).map fun b => { b.1 with dsp := { b.1.dsp with rms := b.2, buf := b.1.dsp.buf.filter ((r + 1) * roundTicks ≤ ·.t) } }
    let bs := if d.windowEnds c r then branchesMeasured 0 bs else bs
    (out, ({ d with comb.services := tabMod d.comb.services v fun z => { z with branches := bs } }).setNb c fun z => { z with dsp := y.prune d.now })

/-- Round `r` of AM service `v` (R509, R518). -/
def Dev.combineAmRound (v r : Nat) (d : Dev) : Dev :=
  match tabGet d.comb.services v with
  | none => d
  | some x =>
    let c := x.anchor
    let p := d.nbPar c
    let late := x.latency * roundTicks + 64
    let clean (b : Nat) : Bool := (x.branches[b]?).any BranchSt.cleanNow
    let (bs, y, fade) := (roundGrid 8 r).foldl (fun (acc : List BranchSt × NbDsp × Nat) t =>
      let o := combineAm p acc.2.1.pll.freq acc.2.2 t clean acc.1
      let s := o.sample t
      let y := if s.frozen then NbDsp.am p (t + late) s acc.2.1 else acc.2.1.amBehind p (t + late) s o.y
      (o.branches, y, min 64 (acc.2.2 + 1))) (x.branches, (d.nb c).dsp, x.fade)
    let bs := bs.map fun b => { b with dsp := { b.dsp with buf := b.dsp.buf.filter ((r + 1) * roundTicks ≤ ·.t) } }
    let (bs, fade) := if d.windowEnds c r then (amWeights (branchesMeasured 1 bs), 0) else (bs, fade)
    (({ d with comb.services := tabMod d.comb.services v fun z => { z with branches := bs, fade := fade } }).setNb c fun z =>
      { z with dsp := y.prune d.now }).amPll c

/-- Samples of Round `r` of an FM or AM service are combined and demodulated. -/
def Dev.combineNb (v r : Nat) (d : Dev) : Dev :=
  match tabGet d.comb.services v with
  | none => d
  | some x =>
    if !d.nbRuns x.anchor then d
    else if d.stdOf x.anchor = 0 then
      let (out, e) := (d.combineFmRound v r)
      e.rdsFeed x.anchor out
    else d.combineAmRound v r

end Sys2Proof.Machine
end

