-- ==== Sys2Proof/Machine/Ofdm.lean ====
section
/-!
DEFINITION. The OFDM units: the samples of their branches, transforms, and the demodulation of DAB (16 R442-R448, 18 R519, R521).
What EN 300 401 fixes and this spec does not (the phase reference symbol, the order of the carriers) is open (PRESUMED log 43).
-/
namespace Sys2Proof.Machine

/-! ## Samples -/

/-- The slot sample as an OFDM unit takes it. -/
def SlotSample.ofdm (s : SlotSample) (unclean : Bool) : OfdmSample :=
  { t := s.t, v := s.value, bad := unclean || s.frozen || s.settle, held := s.frozen, sat := s.sat }

/-- Number of samples received. -/
def OfdmBranch.total (b : OfdmBranch) : Nat := b.base + b.buf.length
/-- Samples enter the branch, of which the last `keep` stay. -/
def OfdmBranch.append (keep : Nat) (l : List OfdmSample) (b : OfdmBranch) : OfdmBranch :=
  let all := b.buf ++ l
  let drop := all.length - keep
  { b with buf := all.drop drop, base := b.base + drop }
/-- Samples `a` to `a + n - 1`. -/
def OfdmBranch.span (b : OfdmBranch) (a n : Nat) : List OfdmSample := if a < b.base then [] else (b.buf.drop (a - b.base)).take n
/-- They have all been received and are still there. -/
def OfdmBranch.has (b : OfdmBranch) (a n : Nat) : Bool := decide (b.base ≤ a) && decide (a + n ≤ b.total)
/-- Number of the first sample at or after grid tick `t`. -/
def OfdmBranch.indexAt (b : OfdmBranch) (t : Nat) : Option Nat := (b.buf.findIdx? (t ≤ ·.t)).map (b.base + ·)

/-- Phase that a schedule of frequencies has reached at sample `a`, 2^-32 turns. -/
def phaseAt (a : Nat) : List (Nat × Int) → Int
  | [] => 0
  | (i, f) :: rest =>
    let stop := match rest with
      | (j, _) :: _ => min a j
      | [] => a
    f * ((stop - i : Nat) : Int) + phaseAt a rest

/-- Samples from number `a` on, derotated by the schedule (16 R445, 17 R482). -/
def derotated (freqs : List (Nat × Int)) (a : Nat) (l : List OfdmSample) : List Cx :=
  (indexed l).map fun s => (s.2.v.mul (rotor48 ((phaseAt (a + s.1) freqs) % 2 ^ 32).toNat)).each (· / 2 ^ 48)

/-- Σ x[m] · e^(-j2πkm/n). -/
def ofdmBin (n : Nat) (x : List Cx) (k : Int) : Cx :=
  ((indexed x).foldl (fun a s => a.add (s.2.mul (rotor48 (((k * s.1) % n).toNat * 2 ^ 32 / n)))) ({} : Cx)).each (· / 2 ^ 48)

/-- `p^5` reaches 10^`tenths-of-two` times `q^5`: a power ratio of at least 2·e dB, exactly. -/
def reachesDb (e : Nat) (p q : Nat) : Bool := 10 ^ e * q ^ 5 ≤ p ^ 5

/-- The best of some candidates by their powers, where it stands at least 8 dB above the mean of all (16 R442, 17 R478). -/
def bestShift (l : List (Int × Nat)) : Option Int :=
  let total := (l.map (·.2)).sum
  match l.foldl (fun (b : Option (Int × Nat)) c => match b with
    | some x => if x.2 < c.2 then some c else some x
    | none => some c) none with
  | some (k, p) => if reachesDb 4 (p * l.length) total && 0 < p then some k else none
  | none => none

/-- Taps of an impulse response by their powers, from tap `-early` on: the earliest and the latest within 15 dB of the strongest. -/
def pathsOf (n early : Nat) (pw : Nat → Nat) : Option (Int × Int) :=
  let all := (List.range n).map fun (i : Nat) => ((i : Int) - (early : Int), pw ((i + n - early) % n))
  let top := (all.map (·.2)).foldl max 0
  let near := all.filter fun x => 0 < x.2 && decide (top ^ 2 ≤ x.2 ^ 2 * 10 ^ 3)
  match near.head?, near.getLast? with
  | some a, some b => some (a.1, b.1)
  | _, _ => none

/-- Level in 0.1 dBµV of a mean of |v|² (14 R409, 16 R466, 17 R498). -/
def ofdmLevel (pw n : Nat) : Int := 810 + levelOf pw (n * 2 ^ 156)

/-! ## DAB: structure of mode I (16 R440) -/

/-- Useful part, symbol, null symbol and transmission frame, samples. -/
def dabUseful : Nat := 2048
/-- Samples of a symbol. -/
def dabSymbol : Nat := 2552
/-- Samples of the null symbol. -/
def dabNull : Nat := 2656
/-- Samples of a transmission frame. -/
def dabFrame : Nat := 196608
/-- Start of the FFT window in its symbol (R444). -/
def dabLead : Nat := 472
/-- The 1,536 carriers in rising order, with none at 0 Hz. -/
def dabCarriers : List Int := (List.range 768).map (fun i => (i : Int) - 768) ++ (List.range 768).map (fun i => (i : Int) + 1)
/-- Place of carrier `k` in that list. -/
def carrierPlace (k : Int) : Nat := (if k < 0 then k + 768 else k + 767).toNat

/-- Mean power of the 8,192 samples ahead of sample `a`, times 128 (R442). -/
def OfdmBranch.before (b : OfdmBranch) (a : Nat) : Nat := ((b.span (a - 8192) 8192).map (·.v.sq)).sum
/-- Power of the block of 64 samples at `a`. -/
def OfdmBranch.block (b : OfdmBranch) (a : Nat) : Nat := ((b.span a 64).map (·.v.sq)).sum

/-- A null begins at sample `a`: 21 consecutive blocks at least 10 dB below the mean block power of the preceding 8,192 samples. -/
def OfdmBranch.nullAt (b : OfdmBranch) (a : Nat) : Bool :=
  decide (8192 ≤ a) && b.has (a - 8192) (8192 + 21 * 64) && (List.range 21).all fun i => decide (1280 * b.block (a + 64 * i) ≤ b.before a)

/-- The null that begins at `a` ends at the first block back within 3 dB of that mean. -/
def OfdmBranch.nullEnd (b : OfdmBranch) (a : Nat) : Option Nat :=
  let m := b.before a
  ((List.range 64).map fun i => a + 64 * (21 + i)).find? fun j => b.has j 64 && decide (m ^ 10 ≤ (128 * b.block j) ^ 10 * 10 ^ 3)

/-- The first null in the samples that are there, with its end (R442 step 1). -/
def OfdmBranch.findNull (b : OfdmBranch) : Option (Nat × Nat) :=
  let starts := (List.range (b.buf.length / 64)).map fun i => (b.base + 63) / 64 * 64 + 64 * i
  match starts.find? b.nullAt with
  | some a => (b.nullEnd a).map fun e => (a, e)
  | none => none

/-- The active branch of highest level. -/
def strongest (l : List OfdmBranch) : OfdmBranch :=
  let power (b : OfdmBranch) : Nat := ((b.buf.filter (!·.mute)).map (·.v.sq)).sum
  (l.foldl (fun (b : Option OfdmBranch) c => match b with
    | some y => if power y < power c then some c else some y
    | none => some c) none).getD {}
/-- The branch on which acquisition runs: the first, or for a combined service the one of highest level among the active (18 R519). -/
def DabDsp.lead (x : DabDsp) : OfdmBranch := strongest x.branches

/-! ## DAB: the phase reference symbol (R442 steps 2 and 3, R444) -/

/-- The known PRS on carrier `k`, 0 where there is none. -/
def prsOf (k : Int) : Cx := if k = 0 || 768 < k.natAbs then {} else { re := (Config.dabPrs k).1, im := (Config.dabPrs k).2 }

/-- Step 2: the products of adjacent carriers correlated with those of the known PRS at shifts of -100 to +100 carriers. -/
def coarseShift (y : Int → Cx) : Option Int :=
  let ref := (List.range 1536).map fun i => ((i : Int) - 768, (prsOf ((i : Int) - 767)).mul (prsOf ((i : Int) - 768)).conj)
  bestShift <| (List.range 201).map fun i =>
    let s : Int := (i : Int) - 100
    (s, (Cx.sum (ref.map fun r => ((y (r.1 + s + 1)).mul (y (r.1 + s)).conj).mul r.2.conj)).sq)

/-- Step 3: powers of the impulse response, the inverse FFT of the received PRS times the conjugate of the known one. -/
def prsTaps (y : Int → Cx) (shift : Int) (n : Nat) : Nat :=
  let prod := dabCarriers.map fun k => (k, (y (k + shift)).mul (prsOf k).conj)
  (prod.foldl (fun a p => a.add (p.2.mul (rotor48 (((-p.1 * n) % 2048).toNat * 2 ^ 21)))) ({} : Cx)).each (· / 2 ^ 48) |>.sq

/-- Transform of the branch's samples from `a` on. -/
def OfdmBranch.bins (b : OfdmBranch) (freqs : List (Nat × Int)) (a : Nat) : Int → Cx := ofdmBin dabUseful (derotated freqs a (b.span a dabUseful))

/-- What a PRS gives: the shift, and the first and latest path relative to the one on which the window is held. -/
def DabDsp.prs (acquire : Bool) (w : Nat) (x : DabDsp) : Option (Int × Int × Int) :=
  let shift := if acquire then coarseShift (x.lead.bins [] w) else some 0
  match shift with
  | none => none
  | some s =>
    let freqs := if acquire then [] else x.freqs
    let taps (n : Nat) : Nat := (x.branches.map fun b => prsTaps (b.bins freqs w) s n).sum
    -- a path on which the window begins 472 samples after the symbol stands at tap 32
    (pathsOf dabUseful 512 taps).map fun p => (s, p.1 - 32, p.2 - 32)

/-! ## DAB: symbols (R447, R448; 18 R519, R521) -/

/-- Carriers of the symbol whose FFT window begins at `a`, none where a sample of it is bad, and whether one carried SAT. -/
def OfdmBranch.symbol (b : OfdmBranch) (freqs : List (Nat × Int)) (ramp : Int) (a : Nat) : Option (List Cx) × Bool :=
  let s := b.span (a - dabLead) dabSymbol
  let bin := b.bins freqs a
  let turn (k : Int) : Cx := (rotor30 (((-k * ramp) % 8192).toNat * 2 ^ 19))
  (if s.any (·.bad) || s.isEmpty then none else some (dabCarriers.map fun k => ((bin k).mul (turn k)).each (· / 2 ^ 30)), s.any (·.sat))

/-- Mean magnitude of a symbol's products. -/
def meanAbs (l : List Cx) : Nat := (l.map Cx.abs).sum / max 1 l.length
/-- The products at unit mean magnitude, units of 2^-16. -/
def unitMean (l : List Cx) : List Cx := l.map fun z => z.each fun v => openRatio (v * 65536) (meanAbs l)
/-- Squared distance from the nearest of (±1 ± j)/√2, units of 2^-32. -/
def pointError (z : Cx) : Nat :=
  let r (v : Int) : Nat := (v.natAbs : Int) - 46341 |>.natAbs
  r z.re ^ 2 + r z.im ^ 2

/-- 4-bit soft values of a symbol from its products (R447): the real parts first, in the order of the standard. -/
def softValues (z : List Cx) : List Int :=
  let m := meanAbs z
  let q (v : Int) : Int := max (-7) (min 7 (if m = 0 then Config.overNothing (8 * v) else roundAway (8 * v) m))
  let at_ (i : Nat) : Cx := z.getD (carrierPlace (Config.dabCarrier i)) {}
  ((List.range 1536).map fun i => q (at_ i).re) ++ ((List.range 1536).map fun i => q (at_ i).im)

/-- What a branch gives for one symbol. -/
structure DabBranchOut where
  /-- The branch after it. -/
  b : OfdmBranch
  /-- Its differential products, where it contributes. -/
  z : Option (List Cx)
  /-- The symbol or the one before it carried SAT. -/
  sat : Bool

/-- A branch takes its next symbol: its differential products count where this symbol and the one before it are both good, and they
contribute where the branch was active throughout (R448, 18 R512, R513, R521). -/
def OfdmBranch.differ (freqs : List (Nat × Int)) (ramp : Int) (a l : Nat) (b : OfdmBranch) : DabBranchOut :=
  let (y, sat) := b.symbol freqs ramp a
  let mute := (b.span (a - dabLead) dabSymbol).any (·.mute)
  let z := match y, b.y with
    | some v, some u => some ((v.zip u).map fun p => p.1.mul p.2.conj)
    | _, _ => none
  let dist := match z with
    | some z => pushLine 16 ((unitMean z).map pointError) b.dist
    | none => b.dist
  let fic := if l = 1 || 4 < l then [] else unitMean (z.getD [])
  let own := if l = 1 then (0, 0) else (b.own.1 + (fic.map Cx.sq).sum, b.own.2 + (fic.map pointError).sum)
  { b := { b with y := y, ySat := sat, yMute := mute, dist := dist, own := own }, z := if mute || b.yMute then none else z, sat := sat || b.ySat }

/-- N_b(k) times the number of symbols it is taken over (18 R519). -/
def OfdmBranch.noise (b : OfdmBranch) (i : Nat) : Nat := (b.dist.map fun l => l.getD i 0).sum

/-- The products of a symbol: those of the one branch, or the sum over the branches that contribute, each over its N_b. -/
def combineDab (l : List DabBranchOut) : Option (List Cx) :=
  match l with
  | [x] => x.z
  | _ =>
    let some_ := l.filterMap fun x => x.z.map fun z => (x.b, z)
    if some_.isEmpty then none
    else some ((List.range 1536).map fun i => Cx.sum (some_.map fun x =>
      ((x.2.getD i {}).scale (x.1.dist.length * 2 ^ 32 : Nat)).each fun v => openRatio v (x.1.noise i)))

/-- Symbol `l` of the frame is demodulated (R447, R448): its soft values are zero where no branch contributes, and halved with SAT. -/
def DabDsp.demod (w l : Nat) (x : DabDsp) : DabDsp :=
  let res := x.branches.map (OfdmBranch.differ x.freqs x.ramp (w + (l - 1) * dabSymbol) l)
  let y0 := (res.head?.bind (·.b.y)).getD []
  let cross (b : OfdmBranch) : Cx :=
    if l = 1 then {} else if 4 < l then b.cross else b.cross.add (Cx.sum (((b.y.getD []).zip y0).map fun p => p.1.mul p.2.conj))
  let y := { x with branches := res.map fun r => { r.b with cross := cross r.b }, next := l + 1 }
  if l = 1 then y
  else
    let z := combineDab res
    let soft := match z with
      | some z => (softValues z).map fun v => if res.any (·.sat) then v.tdiv 2 else v
      | none => List.replicate 3072 0
    let fic := if 4 < l then [] else unitMean (z.getD [])
    { y with soft := y.soft ++ [soft], zz := y.zz + (fic.map Cx.sq).sum, ze := y.ze + (fic.map pointError).sum }

/-- Step 4: Σ r[n] · r*[n + 2,048] over the guard intervals of the PRS and the FIC symbols. -/
def OfdmBranch.guards (b : OfdmBranch) (w : Nat) : Cx :=
  Cx.sum ((List.range 4).map fun l =>
    let a := w - dabLead + l * dabSymbol
    Cx.sum (((b.span a 504).zip (b.span (a + dabUseful) 504)).map fun p => p.1.v.mul p.2.v.conj))

/-- A frequency in mHz as 2^-32 turns per sample at `rate` samples per second. -/
def turnsOf (mhz : Int) (rate : Nat) : Int := openDiv (mhz * 2 ^ 32) (1000 * rate)

/-- The PRS and the FIC symbols are there: the residual is measured, and the four symbols are demodulated without it. -/
def DabDsp.fic (w : Nat) (x : DabDsp) : DabDsp :=
  let g := Cx.sum (x.branches.map (·.guards w))
  -- the phase falls by a turn of the useful part per kHz
  let mhz := x.shift * 1000000 - openDiv (turnOf 24 g.shrink * 1000000) (2 ^ 24)
  let y := { x with freqs := [(w - dabLead, turnsOf mhz 2048000)], resid := some mhz, branches := x.branches.map fun b => { b with y := none, ySat := false, yMute := false } }
  (List.range 4).foldl (fun y i => y.demod w (i + 1)) y

/-- Every symbol whose samples are there is demodulated. -/
def DabDsp.run : Nat → DabDsp → DabDsp
  | 0, x => x
  | fuel + 1, x =>
    match x.win with
    | none => x
    | some w =>
      if x.next = 0 then x
      else if x.next = 1 then
        if x.branches.all (·.has w (3 * dabSymbol + dabUseful)) then (x.fic w).run fuel else x
      else if x.branches.all (·.has (w + (x.next - 1) * dabSymbol) dabUseful) then
        let y := x.demod w x.next
        (if x.next = 76 then { y with next := 0, win := some (w + dabFrame) } else y).run fuel
      else x

/-- Samples of every branch enter the unit; those with SETTLE enter no step before it is synchronised (R442). -/
def DabDsp.take (l : List (List OfdmSample)) (x : DabDsp) : DabDsp :=
  let old (i : Nat) : OfdmBranch := x.branches.getD i {}
  let first : List OfdmSample := l.headD []
  let y : DabDsp := { x with
    branches := (indexed l).map fun b => (old b.1).append 32768 b.2
    pw := x.pw + (first.map fun s => s.v.sq).sum, pn := x.pn + first.length, held := x.held || l.all fun b => b.any fun s => s.held }
  y.run 80

end Sys2Proof.Machine
end

