-- ==== Sys2Proof/Machine/Dab.lean ====
section
/-!
DEFINITION. DAB and DAB+ reception (chapter 16): synchronisation of an ensemble instance, the FIC, reconfiguration,
subchannel decoding, announcements and alarms, and the commands DAB_ENSEMBLE, DAB_SERVICE_SELECT, DAB_FIC_DUMP and
DAB_METRICS.
-/
namespace Sys2Proof.Machine

/-! ## Events (R473) -/

/-- ENSEMBLE_CHANGED for member `c` of instance `n`. -/
def Dev.ensChanged (n c cause reason : Nat) (d : Dev) : Dev :=
  let x := d.dabInst n
  d.raise 73 c (u8 cause ++ u8 reason ++ u16 x.eid ++ u16 x.cif ++ u8 (((d.dab c).res.map (·.sub.id)).getD 0xFF) ++ u8 0
    ++ u64 x.frameTime)
/-- ENSEMBLE_CHANGED once for each member. -/
def Dev.ensAll (n cause : Nat) (d : Dev) : Dev := forAll (d.memberNums n) (fun c d => d.ensChanged n c cause 0) d

/-- Instance `n` runs. -/
def Dev.instRuns (d : Dev) (n : Nat) : Bool := (d.inst? n).any (·.running)
/-- Kind of context `c`, 0 where it is not open. -/
def Dev.kindOf (d : Dev) (c : Nat) : Nat := ((d.ctx? c).map (·.kind)).getD 0
/-- RUNNING members of instance `n`. -/
def Dev.runningMembers (d : Dev) (n : Nat) : List Nat :=
  (d.trav.ctxs.filter fun x => x.2.inst == some n && x.2.state == .running).map (·.1)
/-- Slot of instance `n` carries HOLD, NOSEG or SETTLE now. -/
def Dev.instFlagged (d : Dev) (n : Nat) : Bool := match (d.inst? n).bind (·.slot) with
  | some k => d.slotFlagged k
  | none => true
/-- Anchor of instance `n`. -/
def Dev.anchorOf (d : Dev) (n : Nat) : Nat := ((d.inst? n).map (·.anchor)).getD 0

/-! ## Synchronisation (R442-R446) -/

/-- A null begins within 64 samples of sample `a` on some branch. -/
def DabDsp.nullNear (a : Nat) (x : DabDsp) : Bool := x.branches.any fun b => (List.range 129).any fun i => b.nullAt (a + i - 64)

/-- A null in the samples that are there: in search the first one (R442 step 1), from then on that of the frame near its place (R446). -/
def DabInst.nullFound (x : DabInst) : DabInst :=
  match x.sync, x.dsp.win with
  | 0, _ => match x.dsp.lead.findNull with
    | some (_, e) => { x with sync := 1, nullSeen := true, dsp := { x.dsp with win := some (e + dabLead), next := 0 } }
    | none => x
  | _, some w => if x.dsp.next = 0 && x.dsp.nullNear (w - dabLead - dabNull) then { x with nullSeen := true } else x
  | _, none => x

/-- DAB_NULL_DETECTED. -/
def execDabNullDetected (dt inst : Nat) (s : State) : Host.Outcome State Fault Refusal :=
  s.runIf dt (fun d => d.active && d.instRuns inst) (Dev.setDabInst inst DabInst.nullFound)

/-- Present C of the slot of context `c`. -/
def Dev.ctxC (d : Dev) (c : Nat) : Int := ((d.slotOf c).map fun n => (d.slot n).c).getD 0

/-- Sample of a stream of period `grid` ticks at which a write of C made now comes out of the slot of context `c`: `last` is the tick of
the newest sample, `total` the number of samples (12 R337, R341). -/
def Dev.actsAt (d : Dev) (c grid last total : Nat) : Nat :=
  let delay := ((d.slotOf c).map fun n => d.bankDelay (d.slot n).bank).getD 0
  total + (d.now + delay - (last + grid)) / grid

/-- Instance `n` writes C (R445, R510): `sum` mHz over `count` values; what is left of the residual is derotated from where the write
acts on. -/
def Dev.dabWrite (n : Nat) (sum : Int) (count : Nat) (d : Dev) : Dev :=
  let c := d.anchorOf n
  let e := d.addC c (corrOf sum count)
  let left := (d.dabInst n).residual - roundAway ((e.ctxC c - d.ctxC c) * 1000000) 32768
  let b := ((d.dabInst n).dsp.branches.head?).getD {}
  let at_ := e.actsAt c 512 ((b.buf.getLast?.map (·.t)).getD e.now) b.total
  e.setDabInst n fun x => { x with
    cWritten := true, resids := [], residual := left
    dsp := { x.dsp with shift := 0, freqs := x.dsp.freqs ++ [(at_, turnsOf left 2048000)] } }

/-- Tracking of the frequency (R445): C moves when the residual over 4 frames reaches 5 Hz. -/
def Dev.dabTrack (n : Nat) (resid : Int) (d : Dev) : Dev :=
  let l := (resid :: (d.dabInst n).resids).take 4
  if l.length = 4 && decide (20000 ≤ l.sum.natAbs) && !d.instFlagged n then d.dabWrite n l.sum 4
  else d.setDabInst n fun x => { x with resids := l }

/-- A frame enters the check measurement (R467): power-mean level and mean MER; `pw` is its mean power. -/
def Meas.frame (pw : Nat) (mer : Int) (m : Meas) : Meas :=
  let n := m.n + 1
  { m with n := n, pw := m.pw + pw, part := m.part + mer
           q := { m.q with level := ofdmLevel (m.pw + pw) n, cnr := openDiv (m.part + mer) n } }
/-- Good and all FIBs or FACs of the frames of a measurement (R467, 17 R499). -/
def Meas.count (good : Bool) (m : Meas) : Meas :=
  let k := (m.oks.1 + bit good, m.oks.2 + 1)
  { m with oks := k, q := { m.q with pct := 100 * k.1 / k.2, good := decide (0 < k.1) } }

/-- The PRS and the FIC symbols of a frame have been demodulated: level, MER and residual, the frequency correction, and the check
measurements, which take no frame with HOLD or NOSEG. -/
def Dev.dabFreq (n : Nat) (d : Dev) : Dev :=
  let x := d.dabInst n
  match x.dsp.resid with
  | none => d
  | some mhz =>
    let mer := levelOf x.dsp.zz x.dsp.ze
    let d0 := d.setDabInst n fun x => { x with
      residual := mhz, level := ofdmLevel x.dsp.pw x.dsp.pn, mer := mer, dsp := { x.dsp with resid := none, pw := 0, pn := 0 } }
    let d1 := if x.cWritten then d0.dabTrack n mhz else d0.onlyIf (!d0.instFlagged n) (Dev.dabWrite n mhz 1)
    if x.dsp.held then d1 else (d1.runningMembers n).foldl (fun d c => d.measureBy c (Meas.frame (x.dsp.pw / max 1 x.dsp.pn) mer)) d1

/-- The counts of R446 as one frame ends: a frame with HOLD or NOSEG counts toward neither. -/
def DabInst.endFrame (x : DabInst) : DabInst :=
  let y := { x with hold := x.dsp.held, nullSeen := false }
  if x.dsp.held then y
  else { y with
    nullMiss := if x.nullSeen then 0 else y.nullMiss + 1
    fibMiss := if ((x.fibs.head?).map (·.1)).getD 0 = 0 then y.fibMiss + 1 else 0 }

/-- The window moves within the null symbol (R444): by slips of the slot, or in a combined service on its delay buffers (18 R510). -/
def Dev.dabMove (n : Nat) (d : Dev) : Dev :=
  let x := d.dabInst n
  let total := ((x.dsp.branches.head?).map (·.total)).getD 0
  match x.dsp.win with
  | none => d
  | some w =>
    if x.dsp.moves = 0 || x.dsp.next != 0 || total + dabFrame < w + 75 * dabSymbol + (dabSymbol - dabLead) then d
    else
      let e := d.setDabInst n fun x => { x with dsp.moves := 0 }
      if (d.serviceOf (d.anchorOf n)).isSome then e.setDabInst n fun x => { x with dsp.win := some ((w : Int) + x.dsp.moves).toNat }
      else match (d.inst? n).bind (·.slot) with
        | some k => e.slipSlot k x.dsp.moves
        | none => e

/-- What the samples that have come give: `was` is the symbol that was to be demodulated next before them. -/
def Dev.dabSettle (n was : Nat) (d : Dev) : Dev :=
  let e := d.dabFreq n
  (e.onlyIf (was != 0 && (e.dabInst n).dsp.next == 0) (Dev.setDabInst n DabInst.endFrame)).dabMove n

/-- Samples of every branch reach the OFDM unit of instance `n`. -/
def Dev.dabTake (n : Nat) (l : List (List OfdmSample)) (d : Dev) : Dev :=
  let was := (d.dabInst n).dsp.next
  (d.setDabInst n fun x => { x with dsp := x.dsp.take l }).dabSettle n was
/-- Samples of the slot of instance `n` reach its OFDM unit; those with SETTLE enter no step before it is synchronised (R442). -/
def Dev.dabFeed (n : Nat) (l : List SlotSample) (d : Dev) : Dev :=
  d.dabTake n [((if (d.dabInst n).sync < 3 then l.filter (!·.settle) else l).map (SlotSample.ofdm · false))]

/-- The window of the next expected PRS of a warm instance (R443): its frame time extrapolated by whole frames to the samples that are
there. -/
def Dev.dabWarmWindow (d : Dev) (n : Nat) : Option Nat :=
  let x := d.dabInst n
  let b := x.dsp.lead
  match (d.inst? n).bind (·.slot), b.buf.head? with
  | some k, some s =>
    let stands (t : Nat) : Int := d.standsFor (d.slot k) t
    let due : Int := (x.frameTime + (dabNull + dabLead) * 512 : Nat)
    let late := stands s.t - due
    let p : Int := (768 * roundTicks : Nat)
    let t := if late ≤ 0 then due else due + (late + p - 1) / p * p
    (b.buf.findIdx? fun s => decide (t ≤ stands s.t)).map (b.base + ·)
  | _, _ => none

/-- The PRS in the window at sample `w` gave shift, first and latest path: a new frame begins (R442 steps 2 and 3, R444). -/
def DabInst.newFrame (acquire : Bool) (w : Nat) (p : Int × Int × Int) (frameTime : Nat) (x : DabInst) : DabInst :=
  let y := x.dsp
  let errs := if acquire then [] else (p.2.1 :: y.errs).take 4
  let due := if errs.length = 4 && 4 ≤ errs.sum.natAbs then roundAway errs.sum 4 else 0
  let start := w - dabLead - dabNull
  { x with
    sync := max x.sync 3, frameTime := frameTime, spread := (p.2.2 - p.2.1).toNat, fibs := ((0, 0) :: x.fibs).take 10, quiet := x.quiet + 1
    dsp := { y with
      win := some (if acquire then (w + p.2.1 : Int).toNat else w), next := 1, shift := if acquire then p.1 else y.shift
      errs := if due = 0 then errs else [], ramp := if errs.isEmpty then 0 else openDiv (4 * errs.sum) errs.length - 4 * due, moves := due
      soft := [], zz := 0, ze := 0, held := y.branches.all fun b => (b.span start (b.total - start)).any (·.held) } }

/-- The PRS of one frame (R442 steps 2 and 3, R444). -/
def Dev.dabPrs (n : Nat) (d : Dev) : Dev :=
  let x := d.dabInst n
  match (match x.dsp.win with | some w => some w | none => if x.warm then d.dabWarmWindow n else none), (d.inst? n).bind (·.slot) with
  | some w, some k =>
    if x.sync = 0 || x.dsp.next != 0 || !x.dsp.branches.all (·.has w dabUseful) then d
    else
      let acquire := decide (x.sync < 3)
      let r := x.dsp.prs acquire w
      if acquire && r.isNone then d.setDabInst n fun x => { x with sync := 0, nullSeen := false, dsp := { x.dsp with win := none } }
      else
        let p := r.getD (0, 0, x.spread)
        let t := (((x.dsp.lead.span (w - dabLead) 1).head?).map (·.t)).getD 0
        let began := d.standsFor (d.slot k) t + 512 * (p.2.1 - dabNull)
        (d.setDabInst n fun x =>
          let y := x.newFrame acquire w p began.toNat
          { y with dsp := y.dsp.run 80 }).dabSettle n 1
  | _, _ => d

/-- DAB_PRS_PROCESSED. -/
def execDabPrsProcessed (dt inst : Nat) (s : State) : Host.Outcome State Fault Refusal :=
  s.runIf dt (fun d => d.active && d.instRuns inst) (Dev.dabPrs inst)

/-- DAB_SYNC_LOSS (R446): the instance keeps its C and database. -/
def execDabSyncLoss (dt inst : Nat) (s : State) : Host.Outcome State Fault Refusal :=
  s.runIf dt (fun d => d.active && d.instRuns inst) fun d =>
    let x := d.dabInst inst
    let limit := d.ctxPropN (d.anchorOf inst) P.dabLossFrames
    if x.sync != 0 && (decide (limit ≤ x.nullMiss) || decide (limit ≤ x.fibMiss)) then
      (d.ensAll inst 5).setDabInst inst fun x => { x with
        sync := 0, nullSeen := false, nullMiss := 0, fibMiss := 0, fibs := [], resids := [], cWritten := false
        dsp := { x.dsp with win := none, next := 0, shift := 0, errs := [], ramp := 0, moves := 0, soft := [], freqs := [] }
        complete := false, resyncs := satAdd 0xFFFF x.resyncs 1 }
    else d

/-! ## Selections (R454, R469) -/

/-- Selection of member `c` of instance `n`, resolved in the configuration in force. -/
def Dev.dabResolve (d : Dev) (n c : Nat) : Option (Except Nat DabRes) :=
  (d.dab c).sel.map fun q => q.resolve (d.kindOf c) (d.dabInst n).ecc (d.dabInst n).conf

/-- A decode starts afresh with the next CIF on subchannel `s` (R457), and counts at its bitrate (R456). -/
def Dev.dabRestart (c : Nat) (s : DabSub) (d : Dev) : Dev :=
  (d.setDab c fun x => { x with restart := some s, sf := none, plus := none }).setCtx c fun x => { x with kbps := some s.rate }

/-- A pending selection of RUNNING member `c` is tried (R469): resolved with cause 0x03, or failed with cause 0x04 once the
database is complete. -/
def Dev.dabTry (n c : Nat) (d : Dev) : Dev :=
  let x := d.dab c
  if x.res.isSome then d
  else match d.dabResolve n c with
    | none => d
    | some (.ok r) =>
      let e := (d.setDab c fun y => { y with res := some r, failed := false, told := false }).dabRestart c r.sub
      e.onlyIf (!x.told) (Dev.ensChanged n c 3 0)
    | some (.error why) =>
      if (d.dabInst n).complete && !x.failed then
        (d.setDab c fun y => { y with failed := true, told := false }).ensChanged n c 4 why
      else d.setDab c fun y => { y with told := false }
/-- Every pending selection of instance `n`. -/
def Dev.dabTryAll (n : Nat) (d : Dev) : Dev := forAll (d.runningMembers n) (fun c d => d.dabTry n c) d

/-- The selection of member `c` after the configuration changed (R454). -/
def Dev.dabRemap (n c : Nat) (d : Dev) : Dev :=
  let x := d.dab c
  match x.res, d.dabResolve n c with
  | some old, some (.ok r) =>
    let e := d.setDab c fun y => { y with res := some r }
    if old.sub.id = r.sub.id && old.sub.size = r.sub.size && old.sub.prot = r.sub.prot then e
    else if x.follow.isSome then e else e.dabRestart c r.sub
  | some _, _ =>
    (d.ensChanged n c 7 0).setDab c fun y => { y with
      res := none, decode := none, restart := none, sf := none, plus := none, failed := false }
  | none, _ => d.setDab c fun y => { y with failed := false }

/-- The announced configuration applies (R454), with cause 0x02. -/
def Dev.dabApply (n : Nat) (d : Dev) : Dev :=
  let e := d.setDabInst n fun x => { x with conf := x.nextConf, nextConf := {}, change := none }
  let e := forAll (e.memberNums n) (fun c e => e.dabRemap n c) (e.ensAll n 2)
  let was := (e.dabInst n).complete
  ((e.setDabInst n fun x => { x with complete := true }).dabTryAll n).setDabInst n fun x => { x with complete := was }

/-- CIF count `cif` is reached: the configuration whose occurrence change it equals applies. The occurrence change is the
count modulo 250 (EN 300 401, PRESUMED log 43); a FIG 0/0 names the first of a frame's four CIFs. -/
def Dev.dabReach (n cif within : Nat) (d : Dev) : Dev :=
  let e := d.setDabInst n fun x => { x with cif := cif % 5000 }
  match (d.dabInst n).change with
  | some occ => e.onlyIf ((cif % 250 + 250 - occ % 250) % 250 < within) (Dev.dabApply n)
  | none => e

/-! ## Announcements and alarms (R463-R465) -/

/-- ANNOUNCEMENT for member `c` (R473). -/
def Dev.annEvent (c state : Nat) (k : DabCluster) (follow : Nat) (d : Dev) : Dev :=
  d.raise 72 c (u8 state ++ u8 k.id ++ u16 k.asw ++ u8 k.subch ++ u8 follow)

/-- ALERT_RECEIVED for every member of instance `n` (R465). -/
def Dev.dabAlert (n origin : Nat) (k : DabCluster) (d : Dev) : Dev :=
  let y := d.dabInst n
  let f := ((d.inst? n).map (·.freq)).getD 0
  forAll (d.memberNums n) (fun c d => d.alert c
    (u8 origin ++ u8 k.id ++ u16 y.eid ++ u32 f ++ u8 k.subch ++ u8 k.region ++ u16 k.asw)) d

/-- The cluster applies to member `c`: FIG 0/18 lists it for the selected service, and an ASw bit of the mask stood in two
consecutive occurrences. -/
def Dev.annApplies (d : Dev) (n c : Nat) (k : DabCluster) : Bool :=
  let y := d.dabInst n
  match (d.dab c).sel with
  | none => false
  | some q => y.support.any (fun s => s.1 == q.service y.conf && s.2.2.contains k.id)
      && (k.asw &&& k.prev &&& d.ctxPropN c P.dabAnnoMask) != 0

/-- An announcement of cluster `k` begins for member `c` (R463, R464). -/
def Dev.annBegin (n c : Nat) (k : DabCluster) (d : Dev) : Dev :=
  let x := d.dab c
  let size := ((d.dabInst n).conf.subs.find? (·.id == k.subch)).map (·.size)
  let wants := d.ctxProp c P.dabAnnoFollow == 1 && x.follow.isNone && x.move.isNone && x.res.isSome
  let f := if !wants then 0 else match size with
    | some z => if 288 < z then 3 else 1
    | none => 0
  let e := d.setDab c fun x => { x with
    annos := tabSet x.annos k.id (k.asw, f), move := if f = 1 then some (some k.subch, k.id, d.nextBoundary) else x.move }
  e.annEvent c 0 k f

/-- An announcement of cluster `k` ends for member `c`: a followed decode returns at the next boundary. -/
def Dev.annEnd (c : Nat) (k : DabCluster) (d : Dev) : Dev :=
  match tabGet (d.dab c).annos k.id with
  | none => d
  | some (_, f) =>
    let e := d.setDab c fun x => { x with
      annos := tabDel x.annos k.id, move := if f = 1 then some (none, k.id, d.nextBoundary) else x.move }
    e.annEvent c 1 k (if f = 1 then 2 else f)

/-- What cluster `k` begins and ends, for the members and for the alarm. -/
def Dev.clusterSeen (n : Nat) (k : DabCluster) (d : Dev) : Dev :=
  let member (c : Nat) (d : Dev) : Dev :=
    if k.asw = 0 then d.annEnd c k
    else d.onlyIf ((tabGet (d.dab c).annos k.id).isNone && d.annApplies n c k) (Dev.annBegin n c k)
  let e := forAll (d.memberNums n) member d
  let y := e.dabInst n
  if k.id != 0xFF then e
  else if !y.alarm && y.al && hasBit (k.asw &&& k.prev) 0 then
    (e.setDabInst n fun x => { x with alarm := true }).dabAlert n 0x10 k
  else if y.alarm && k.asw = 0 then (e.setDabInst n fun x => { x with alarm := false }).dabAlert n 0x11 k
  else e

/-- One entry of FIG 0/19: cluster, ASw flags, SubChId, region. -/
def Dev.dabSwitch (n : Nat) (s : Nat × Nat × Nat × Nat) (d : Dev) : Dev :=
  let y := d.dabInst n
  let old := y.clusters.find? (·.id == s.1)
  let k : DabCluster := { id := s.1, asw := s.2.1, subch := s.2.2.1, region := s.2.2.2, prev := (old.map (·.asw)).getD 0, at_ := d.now }
  let e := d.setDabInst n fun x => { x with clusters := x.clusters.filter (·.id != s.1) ++ [k] }
  e.clusterSeen n k

/-- DAB_ANNOUNCEMENT_TIMEOUT (R463): no FIG 0/19 of a cluster for 16,000 Rounds. -/
def execDabAnnouncementTimeout (dt : Nat) (s : State) : Host.Outcome State Fault Refusal :=
  s.runIf dt Dev.active fun d =>
    forAll (d.dem.insts.map (·.1)) (fun n d =>
      let late (k : DabCluster) : Bool := k.at_ + 16000 * roundTicks ≤ d.now
      let gone := (d.dabInst n).clusters.filter late
      let e := gone.foldl (fun d k => d.clusterSeen n { k with asw := 0 }) d
      e.setDabInst n fun x => { x with clusters := x.clusters.filter (!late ·) }) d

/-! ## FIBs (R449-R453) -/

/-- Some member of the instance feeds the Field Book (R452). -/
def Dev.dabFeeds (d : Dev) (n : Nat) : Bool := (d.memberNums n).any fun c => d.ctxProp c P.dabFbFeed == 1

/-- An offer is made unless it repeats the last one of its frequency and identifier but for the level (R452, R487). -/
def offerOnce (o : FbOffer) (l : List FbOffer) : List FbOffer × Bool :=
  let key (x : FbOffer) : Bool := x.std == o.std && x.freq == o.freq && x.id == o.id && x.tie == o.tie
  let plain := { o with level := none, time := 0 }
  if l.contains plain then (l, false) else (l.filter (!key ·) ++ [plain], true)

/-- Offer of a FIG or an SDC entity. -/
def feedOffer (it : FeedItem) (source : Nat) (input : Option Nat) : FbOffer :=
  { std := it.std, freq := it.freq, id := if it.std = 1 then 0 else it.id, eid := if it.eid = 0 then none else some it.eid
    tie := it.tie, source := source, input := input
    detail := if it.sched = 0 then [] else (List.range 4).map fun j => (4 + j, it.sched / 256 ^ j % 256) }

/-- Offers of instance `n`, each made once per content. -/
def Dev.dabOffer (n : Nat) (o : FbOffer) (d : Dev) : Dev :=
  let (l, new) := offerOnce o (d.dabInst n).offered
  (d.setDabInst n fun x => { x with offered := l }).onlyIf new (Dev.offer o)

/-- Offers of the ensemble's services (R452). -/
def Dev.dabServices (n : Nat) (d : Dev) : Dev :=
  let y := d.dabInst n
  if !d.dabFeeds n || y.eid = 0 then d
  else match d.inst? n with
    | none => d
    | some i => y.conf.servs.foldl (fun d v => d.dabOffer n
        { std := 2, freq := i.freq, id := v.sid, eid := some y.eid, level := some (levelByte y.level), input := i.input, source := 3 }) d

/-- A FIG 0/0 (R450, R451, R454). -/
def Dev.dabEnsemble (n eid cif change occ : Nat) (al : Bool) (d : Dev) : Dev :=
  let y := d.dabInst n
  let other := y.eid != 0 && y.eid != eid
  let clear (x : DabInst) : DabInst :=
    { x with conf := {}, nextConf := {}, change := none, quiet := 0, complete := false, label := none, ecc := 0, apps := [], fec := [], support := [], clusters := [] }
  let d1 := d.setDabInst n fun x => { (if other then clear x else x) with eid := eid, al := al }
  let drop (c : Nat) (d : Dev) : Dev := d.setDab c fun x =>
    { x with res := none, decode := none, restart := none, sf := none, plus := none, failed := false, follow := none, move := none }
  let d2 := if other then (forAll (d1.memberNums n) drop d1).ensAll n 6 else d1
  let d3 := if change != 0 && (d2.dabInst n).change.isNone then
      (d2.setDabInst n fun x => { x with change := some occ, cif := cif }).ensAll n 1
    else d2
  d3.dabReach n cif 4

/-- One FIG of a good FIB. -/
def Dev.dabFig (n : Nat) (f : Fig) (d : Dev) : Dev :=
  match f.body with
  | .ensemble eid cif change occ al => d.dabEnsemble n eid cif change occ al
  | .switching l => l.foldl (fun d s => d.dabSwitch n s) d
  | .feed l =>
    if d.dabFeeds n then l.foldl (fun d it => d.dabOffer n (feedOffer it 3 ((d.inst? n).bind (·.input)))) d else d
  | b => d.setDabInst n fun x => x.take b

/-- The masks of a member select a FIG (R453, R468). -/
def figSelected (m : Nat × Nat × Nat × Nat) (f : Fig) : Bool :=
  match f.typ with
  | 0 => hasBit m.1 f.ext
  | 1 => hasBit m.2.1 f.ext
  | 2 => hasBit m.2.2.1 f.ext
  | 5 => hasBit m.2.2.2 0
  | 6 => hasBit m.2.2.2 1
  | _ => false

/-- Raw delivery of a FIG to every member that selects it (R453). -/
def Dev.dabDeliver (n : Nat) (f : Fig) (d : Dev) : Dev :=
  forAll (d.memberNums n) (fun c d => d.onlyIf (figSelected (d.dab c).figMask f) (Dev.writeRecord c 0x20 d.now
    (u8 f.typ ++ u8 f.ext ++ u8 f.flags ++ u8 0 ++ u16 (d.dabInst n).cif ++ f.bytes))) d

/-- A FIB of instance `n` (R449). -/
def Dev.dabFib (n : Nat) (good : Bool) (bytes : List Byte) (figs : List Fig) (d : Dev) : Dev :=
  let count (g : Nat) (l : List (Nat × Nat)) : List (Nat × Nat) := match l with
    | (a, b) :: t => (a + g, b + 1) :: t
    | [] => [(g, 1)]
  let d0 := if (d.dabInst n).dsp.held then d else (d.runningMembers n).foldl (fun d c => d.measureBy c (Meas.count good)) d
  if !good then
    d0.setDabInst n fun x => { x with fibs := count 0 x.fibs, fibsBad := satAdd 0xFFFFFFFF x.fibsBad 1 }
  else
    let d1 := d0.setDabInst n fun x => { x with
      sync := 4, fibs := count 1 x.fibs, recent := (padTo 32 bytes :: x.recent).take 12, fibMiss := 0 }
    let d2 := figs.foldl (fun d f => (d.dabFig n f).dabDeliver n f) d1
    (d2.dabServices n).dabTryAll n

/-- DAB_FIB_DECODED: `bytes` is the FIB with its CRC, `figs` its FIGs. -/
def execDabFibDecoded (dt inst : Nat) (good : Bool) (bytes : List Byte) (figs : List Fig) (s : State) : Host.Outcome State Fault Refusal :=
  s.runIf dt (fun d => d.active && d.instRuns inst && 3 ≤ (d.dabInst inst).sync) (Dev.dabFib inst good bytes figs)

/-- DAB_DATABASE_COMPLETE (R451): raised once per synchronisation; pending selections fail from here on. -/
def execDabDatabaseComplete (dt inst : Nat) (s : State) : Host.Outcome State Fault Refusal :=
  s.runIf dt (fun d => d.active && d.instRuns inst) fun d =>
    let x := d.dabInst inst
    if x.sync = 4 && !x.complete && 10 ≤ x.quiet && x.conf.referenced then
      ((d.setDabInst inst fun x => { x with complete := true }).ensAll inst 0).dabTryAll inst
    else d

/-! ## Decoding (R455-R462) -/

/-- The MSC decode of context `c` runs: it holds a decode, and its instance decodes the FIC. -/
def Dev.dabDecodes (d : Dev) (c : Nat) : Bool :=
  match d.ctx? c with
  | some x => x.state == .running && x.decode && (match x.inst with
      | some n => d.instRuns n && (d.dabInst n).sync == 4
      | none => false)
  | none => false

/-- DAB_CIF_DECODED: CIF `cif` of the selected subchannel is decoded; a restart takes effect with it (R454, R457), and
stream data is delivered (R462). -/
def Dev.dabCif (c cif : Nat) (bytes : List Byte) (ber : Nat) (d : Dev) : Dev :=
  let n := ((d.ctx? c).bind (·.inst)).getD 16
  let d0 := d.dabReach n cif 1
  let x := d0.dab c
  let dec := match x.restart, x.decode with
    | some s, _ => some (s, 1)
    | none, some (s, k) => some (s, k + 1)
    | none, none => none
  match dec with
  | none => d0
  | some (s, k) =>
    let e := d0.setDab c fun x => { x with decode := some (s, k), restart := none, ber := ber }
    e.onlyIf (d.kindOf c == 5 && (x.res.map (·.typ)) == some 2) (Dev.writeRecord c 0x21 d.now
      (u8 s.id ++ u8 0 ++ u16 (cif % 5000) ++ bytes.take (3 * s.rate)))

/-- The row DAB_CIF_DECODED. -/
def execDabCifDecoded (dt ctx cif : Nat) (bytes : List Byte) (ber : Nat) (s : State) : Host.Outcome State Fault Refusal :=
  s.runIf dt (fun d => d.active && d.dabDecodes ctx) (Dev.dabCif ctx cif bytes ber)

/-- The context decodes an audio subchannel whose framing may be that of `plus`. -/
def Dev.dabAudio (d : Dev) (c : Nat) (plus : Bool) : Bool :=
  let x := d.dab c
  d.dabDecodes c && d.kindOf c == 3 && x.decode.isSome && (match x.plus, x.sel, x.res with
    | some p, _, _ => p == plus
    | none, some q, some r => hasBit q.flags 1 || r.typ == bit plus
    | _, _, _ => x.follow.isSome)

/-- DAB_LAYER2_FRAME (R458): a frame whose header CRC fails is lost. -/
def execDabLayer2Frame (dt ctx : Nat) (headerOk : Bool) (s : State) : Host.Outcome State Fault Refusal :=
  s.runIf dt (fun d => d.active && d.dabAudio ctx false) (Dev.setDab ctx fun x =>
    if headerOk then { x with plus := some false }
    else { x with lost := satAdd 0xFFFFFFFF x.lost 1, auErr := satAdd 0xFFFFFFFF x.auErr 1 })

/-- A superframe or a candidate (R459): `aus` are the CRC results of its access units. -/
def DabSt.superframe (x : DabSt) (pass : Bool) (corrected failed : Nat) (aus : List Bool) : DabSt :=
  let y := { x with rsOk := satAdd 0xFFFFFFFF x.rsOk corrected, rsBad := satAdd 0xFFFFFFFF x.rsBad failed }
  if pass then
    { y with sf := some (0, 0), plus := some true, auErr := satAdd 0xFFFFFFFF y.auErr (aus.filter (!·)).length }
  else
    { y with
      lost := satAdd 0xFFFFFFFF y.lost aus.length
      sf := match x.sf with
        | some (k, _) => if 2 ≤ k then none else some (k + 1, 0)
        | none => none }

/-- DAB_SUPERFRAME. -/
def execDabSuperframe (dt ctx : Nat) (pass : Bool) (corrected failed : Nat) (aus : List Bool) (s : State) :
    Host.Outcome State Fault Refusal :=
  s.runIf dt (fun d => d.active && d.dabAudio ctx true) (Dev.setDab ctx fun x => x.superframe pass corrected failed aus)

/-- Records of a data group (21 R597). -/
def groupRecords (subch addr : Nat) (crc : Bool) (bytes : List Byte) : List (List Byte) :=
  let parts := entriesOf 4080 bytes
  (indexed parts).map fun (k, part) =>
    u8 subch ++ u8 (bit (k = 0) + 2 * bit (k + 1 = parts.length) + 4 * bit crc) ++ u16 addr ++ u16 k ++ u16 bytes.length ++ part

/-- The selected component carries a MOT application (21 R598). -/
def Dev.dabMot (d : Dev) (c : Nat) : Bool :=
  let n := ((d.ctx? c).bind (·.inst)).getD 16
  let y := d.dabInst n
  match (d.dab c).sel with
  | some q => y.apps.any fun a => a.1 == q.service y.conf && (hasBit q.flags 1 || a.2.1 == q.scids)
      && motApp a.2.2
  | none => false

/-- An X-PAD application type that carries MOT (21 R598): 12 and 13 of ETSI EN 300 401 (PRESUMED log 140). -/
def xpadMot (addr : Nat) : Bool := addr == 12 || addr == 13

/-- DAB_PACKET_DATA_GROUP (21 R597): a complete data group of the selected address, or an X-PAD data group. It becomes
records unless MOT reassembly takes it. -/
def execDabPacketDataGroup (dt ctx addr : Nat) (xpad crc : Bool) (bytes : List Byte) (s : State) :
    Host.Outcome State Fault Refusal :=
  s.runIf dt (fun d => d.active && d.dabDecodes ctx && (d.dab ctx).decode.isSome) fun d =>
    let x := d.dab ctx
    let fits := match x.res, x.sel with
      | some r, some q => if xpad then r.typ ≤ 1 && hasBit q.flags 2 else r.typ == 3 && r.addr == some addr
      | _, _ => false
    let mot := (d.bind? ctx).any (·.mot) && d.dabMot ctx && (!xpad || xpadMot addr)
    let sub := ((x.decode.map (·.1.id)).getD 0)
    d.onlyIf (fits && !mot && !bytes.isEmpty)
      (Dev.writeRecords ctx (if xpad then 0x23 else 0x22) d.now (groupRecords sub addr crc bytes))

/-! ## At a Round boundary -/

/-- Accepted masks, a selection or a move of the decode of context `c` take effect (R464, R468, R469). -/
def Dev.dabCtxRound (c : Nat) (d : Dev) : Dev :=
  let x := d.dab c
  let d1 := match x.figNext with
    | some (m, due) => d.onlyIf (due ≤ d.now) (Dev.setDab c fun x => { x with figMask := m, figNext := none })
    | none => d
  let running := (d.ctx? c).any (·.state == .running)
  let n := ((d.ctx? c).bind (·.inst)).getD 16
  match x.selNext with
  | some (sel, due) =>
    if d.now < due then d1
    else
      let annos := x.annos.map fun a => if a.2.2 = 1 then (a.1, a.2.1, 4) else a
      let e := d1.setDab c fun x => { x with
        sel := sel, selNext := none, res := none, failed := false, decode := none, restart := none, plus := none, sf := none
        follow := none, move := none, annos := annos }
      e.onlyIf (running && (d.dabInst n).sync == 4) (Dev.dabTry n c)
  | none => match x.move with
    | none => d1
    | some (target, k, due) =>
      if d.now < due then d1
      else
        let e := d1.setDab c fun x => { x with move := none }
        match target with
        | some sub => match (d.dabInst n).conf.subs.find? (·.id == sub) with
          | some s => (e.dabRestart c s).setDab c fun x => { x with follow := some k }
          | none => e
        | none =>
          let e := e.setDab c fun x => { x with follow := none }
          match x.res with
          | some r => e.dabRestart c r.sub
          | none => e
/-- Every DAB context. -/
def Dev.dabRound (d : Dev) : Dev := forAll (d.dem.dab.map (·.1)) (fun c d => d.dabCtxRound c) d

/-! ## Commands -/

/-- A command on a DAB context answers WRONG_STATE. -/
def Dev.dabWrong (d : Dev) (c : Nat) : Bool := d.inWatch || d.ctxBusy c || d.stdFixedOf c != 2
/-- Instance of context `c`. -/
def Dev.instOf (d : Dev) (c : Nat) : Option Nat := (d.ctx? c).bind (·.inst)

/-- The 48 bytes of DAB_ENSEMBLE (R468). -/
def Dev.dabEnsPayload (d : Dev) (c : Nat) : List Byte :=
  let n := d.instOf c
  let y := match n with | some n => d.dabInst n | none => {}
  let members := match n with | some n => (d.memberNums n).length | none => 0
  let (cs, label) := y.label.getD (0, zeros 16)
  u8 (n.getD 0xFF) ++ u8 y.sync ++ u8 (bit y.al + 2 * bit y.change.isSome + 4 * bit y.complete + 8 * bit y.label.isSome)
    ++ u8 y.ecc ++ u16 y.eid ++ u16 y.cif ++ u8 y.conf.servs.length ++ u8 y.conf.subs.length ++ u8 y.conf.comps.length
    ++ u8 members ++ u8 cs ++ zeros 3 ++ padTo 16 label ++ u64 (if y.sync < 3 then 0 else y.frameTime)
    ++ s32 (d.offsetHz c y.residual) ++ zeros 4

/-- DAB_ENSEMBLE (R468). -/
def dabEnsembleBody : Body := fun q d =>
  let m := (q.p32 0, q.p8 4, q.p8 5, q.p8 6)
  checked d [(q.len != 8, .badLength), (q.badHeader || 3 < q.p8 6 || q.p8 7 != 0, .badParam),
    (q.notCtxOwner q.ctx d, .notOwner), (d.dabWrong q.ctx, .wrongState)] <|
    okWith (d.dabEnsPayload q.ctx) (d.setDab q.ctx fun x => { x with figNext := some (m, d.nextBoundary) })

/-- The row DAB_ENSEMBLE. -/
def execDabEnsemble (dt : Nat) (s : State) : Host.Outcome State Fault Refusal := s.command dt 0x1101 dabEnsembleBody

/-- The 16 bytes of a resolved selection (R469). -/
def DabRes.bytes (r : DabRes) : List Byte :=
  u8 r.sub.id ++ u8 r.typ ++ u16 r.sub.start ++ u16 r.sub.size ++ u16 r.sub.rate ++ u8 r.sub.prot ++ u8 0
    ++ u16 (r.addr.getD 0xFFFF) ++ zeros 2

/-- DAB_SERVICE_SELECT (R469). -/
def dabServiceSelectBody : Body := fun q d =>
  let c := q.ctx
  let (flags, sid) := (q.p8 4, q.p32 0)
  let bySub := hasBit flags 1
  let sel : DabSel := { sid := sid, flags := flags, scids := q.p8 5, subch := q.p8 6 }
  let clears := sid == 0 && flags == 0
  let y := match d.instOf c with | some n => d.dabInst n | none => {}
  let r := sel.resolve (d.kindOf c) y.ecc y.conf
  let large := !clears && (match r with | .error 3 => true | _ => false)
  let put (sel : Option DabSel) (told : Bool) : Dev :=
    d.setDab c fun x => { x with selNext := some (sel, d.nextBoundary), told := told }
  checked d [(q.len != 8, .badLength),
    (q.badHeader || 7 < flags || (hasBit flags 0 && bySub) || (!hasBit flags 0 && !bySub && 0xFFFFFF < sid)
      || (bySub && (sid != 0 || sel.scids != 0)) || (!bySub && sel.subch != 0) || 15 < sel.scids || 63 < sel.subch
      || q.p8 7 != 0, .badParam),
    (q.notCtxOwner c d, .notOwner),
    (d.inWatch || d.ctxBusy c || d.stdFixedOf c != 2 || (d.kindOf c != 3 && d.kindOf c != 5)
      || (hasBit flags 2 && d.kindOf c == 5), .wrongState), (large, .noEngine)] <|
    if clears then ok (put none false)
    else match r with
      | .ok r => okWith r.bytes (put (some sel) true)
      | .error _ => deferred (put (some sel) false)

/-- The row DAB_SERVICE_SELECT. -/
def execDabServiceSelect (dt : Nat) (s : State) : Host.Outcome State Fault Refusal := s.command dt 0x1102 dabServiceSelectBody

/-- Entry of a service in DAB_FIC_DUMP. -/
def DabConf.servBytes (x : DabConf) (v : DabServ) : List Byte :=
  let (cs, label) := v.label.getD (0, zeros 16)
  u32 v.sid ++ u8 v.ecc ++ u8 (bit v.data + 2 * bit v.ca + 4 * bit v.label.isSome)
    ++ u8 (x.comps.filter (·.sid == v.sid)).length ++ u8 cs ++ padTo 16 label
/-- Entry of a subchannel. -/
def subBytes (v : DabSub) : List Byte := u8 v.id ++ u8 v.prot ++ u16 v.start ++ u16 v.size ++ u16 v.rate
/-- Entry of a component. -/
def compBytes (v : DabComp) : List Byte :=
  u32 v.sid ++ u8 v.scids ++ u8 v.tmid ++ u8 v.typ ++ u8 (v.subch.getD 0xFF) ++ u16 (v.scid.getD 0xFFFF) ++ u16 (v.addr.getD 0xFFFF)

/-- The entries that DAB_FIC_DUMP names. -/
def DabInst.dump (y : DabInst) (what : Nat) : List (List Byte) :=
  match what with
  | 0 => y.conf.servs.map y.conf.servBytes
  | 1 => y.conf.subs.map subBytes
  | 2 => y.conf.comps.map compBytes
  | _ => y.recent

/-- DAB_FIC_DUMP (R470). -/
def dabFicDumpBody : Body := fun q d =>
  let (what, first, count) := (q.p8 0, q.p8 1, q.p8 2)
  let y := match d.instOf q.ctx with | some n => d.dabInst n | none => {}
  let l := y.dump what
  checked d [(q.len != 4 || count < 1 || 31 < count, .badLength),
    (q.badHeader || 3 < what || ((d.instOf q.ctx).isSome && l.length < first) || q.p8 3 != 0, .badParam),
    (d.dabWrong q.ctx || (d.instOf q.ctx).isNone, .wrongState)] <|
    let sent := (l.drop first).take count
    okWith (u8 what ++ u8 l.length ++ u8 first ++ u8 sent.length ++ u16 y.cif ++ zeros 2 ++ sent.flatten) d

/-- The row DAB_FIC_DUMP. -/
def execDabFicDump (dt : Nat) (s : State) : Host.Outcome State Fault Refusal := s.command dt 0x1103 dabFicDumpBody

/-- fib_ok: good FIBs among those of the last 10 frames, % (R466). -/
def DabInst.fibOk (y : DabInst) : Nat :=
  let all := (y.fibs.map (·.2)).sum
  if all = 0 then 0 else 100 * (y.fibs.map (·.1)).sum / all

/-- The 64 bytes of DAB_METRICS (R471). -/
def Dev.dabPayload (d : Dev) (c : Nat) : List Byte :=
  let n := d.instOf c
  let y := match n with | some n => d.dabInst n | none => {}
  let x := d.dab c
  let r := tabGet d.dem.checks c
  let slips := ((d.slotOf c).map fun k => (d.slot k).slips).getD 0
  let flags := bit (3 ≤ y.sync) + 2 * bit x.decode.isSome + 4 * bit x.sf.isSome + 8 * bit (x.plus == some true)
    + 16 * bit r.isSome + 32 * bit (r.any (·.open_)) + 64 * bit y.hold + 128 * bit y.warm
  u8 c ++ u8 (if n.isSome then y.sync else 0xFF) ++ u8 flags ++ u8 ((x.decode.map (·.1.id)).getD 0xFF) ++ s16 y.level
    ++ s16 y.mer ++ s32 (d.offsetHz c y.residual) ++ u16 y.spread ++ s16 slips ++ u8 y.fibOk ++ u8 ((r.map (·.cls)).getD 0)
    ++ u8 (min 255 ((r.map (·.m.n)).getD 0)) ++ u8 0 ++ u32 x.ber ++ u32 y.fibsBad ++ u32 x.rsOk ++ u32 x.rsBad ++ u32 x.auErr
    ++ u32 x.lost ++ u16 y.resyncs ++ u16 0 ++ u64 (if y.sync < 3 then 0 else y.frameTime)
    ++ s16 ((r.map (·.m.q.cnr)).getD 0) ++ u8 ((r.map (·.m.q.pct)).getD 0) ++ u8 0 ++ u32 ((r.map (·.time)).getD 0)

/-- DAB_METRICS (R471). -/
def dabMetricsBody : Body := fun q d =>
  checked d [(q.len != 0, .badLength), (q.badHeader, .badParam), (d.dabWrong q.ctx, .wrongState)] (okWith (d.dabPayload q.ctx) d)

/-- The row DAB_METRICS. -/
def execDabMetrics (dt : Nat) (s : State) : Host.Outcome State Fault Refusal := s.command dt 0x1104 dabMetricsBody

end Sys2Proof.Machine
end

