-- ==== Sys2Proof/Machine/DrmDsp.lean ====
section
/-!
DEFINITION. The demodulation of DRM (17 R474-R484, 18 R520, R521): the elementary stream, acquisition, symbols, the channel estimate
with decision feedback, and what a frame measures. The cells of ES 201 980 are open (PRESUMED log 43).
-/
namespace Sys2Proof.Machine

/-! ## Modes (R475) -/

/-- Tu of a mode, elementary samples. -/
def drmTu (m : Nat) : Nat := [1152, 1024, 704, 448, 432].getD m 1152
/-- Tg of a mode, elementary samples. -/
def drmTg (m : Nat) : Nat := [128, 256, 256, 352, 48].getD m 128
/-- Symbols in a transmission frame. -/
def drmSymbols (m : Nat) : Nat := [15, 15, 20, 24, 40].getD m 15
/-- Elementary rate, samples per second (R474). -/
def drmRate (m : Nat) : Nat := if m = 4 then 192000 else 48000
/-- Carriers of a symbol. -/
def drmCarriers (m : Nat) : List Int := (List.range (drmTu m)).map fun i => (i : Int) - (drmTu m / 2 : Nat)
/-- A reference cell's known value. -/
def drmRefOf (m l : Nat) (k : Int) : Cx := { re := (Config.drmRef m l k).1, im := (Config.drmRef m l k).2 }

/-! ## The elementary stream (R474) -/

/-- One slot sample passes the resampler: three elementary samples for every four. -/
def OfdmBranch.resample (s : OfdmSample) (b : OfdmBranch) : OfdmBranch :=
  let raw := pushLine 32 s b.raw
  let b := { b with raw := raw, rawN := (b.rawN + 1) % 4 }
  if b.rawN = 0 then b
  else
    let v := (firSum ((List.range 32).map (Config.resampleTap (b.rawN - 1))) (raw.map (·.v))).each fun a => openDiv a (2 ^ 17)
    let last := raw.take 2
    b.append 32768 [{ t := s.t, v := v, bad := last.any (·.bad), held := last.any (·.held), sat := last.any (·.sat) }]

/-! ## Acquisition (R478) -/

/-- Σ r[n] · r*[n + Tu] over the guard interval that ends at sample `n`, the schedule of frequencies removed. -/
def OfdmBranch.guardTurn (b : OfdmBranch) (freqs : List (Nat × Int)) (tu tg n : Nat) : Cx :=
  let l := derotated freqs (n + 1 - tg) (b.span (n + 1 - tg) tg)
  let u := derotated freqs (n + 1 - tg + tu) (b.span (n + 1 - tg + tu) tg)
  Cx.sum ((l.zip u).map fun p => p.1.mul p.2.conj)

/-- Sums of step 1 over the window of Tg samples that ends at sample `n`. -/
def OfdmBranch.guardSums (b : OfdmBranch) (tu tg n : Nat) : Cx × Nat :=
  let l := b.span (n + 1 - tg) tg
  let u := b.span (n + 1 - tg + tu) tg
  (Cx.sum ((l.zip u).map fun p => p.1.v.mul p.2.v.conj), ((l.zip u).map fun p => p.1.v.sq + p.2.v.sq).sum / 2)

/-- Step 1 for mode `m`: ρ in per mille, the last sample of its window, and the sum whose angle gives the fractional frequency; over the
last 8 symbol periods. -/
def OfdmBranch.rho (b : OfdmBranch) (m : Nat) : Option (Int × Nat × Cx) :=
  let (tu, tg) := (drmTu m, drmTg m)
  let ts := tu + tg
  let from_ := b.total - (8 * ts + ts)
  if !b.has from_ (9 * ts) || (b.span from_ (9 * ts)).any (·.bad) then none
  else
    let phases := (List.range ts).map fun p =>
      let sums := (List.range 8).map fun j => b.guardSums tu tg (from_ + tg - 1 + p + j * ts)
      let c := Cx.sum (sums.map (·.1))
      (openRatio (1000 * (c.abs : Nat)) ((sums.map (·.2)).sum), from_ + tg - 1 + p, c)
    phases.foldl (fun (best : Option (Int × Nat × Cx)) x => match best with
      | some y => if y.1 < x.1 then some x else some y
      | none => some x) none

/-- Step 1: the permitted mode whose ρ reaches 0.3 and exceeds every other by at least 0.1. -/
def OfdmBranch.findMode (b : OfdmBranch) (modes : List Nat) : Option (Nat × Nat × Cx) :=
  let all := modes.filterMap fun m => (b.rho m).map fun r => (m, r)
  let wins (x : Nat × Int × Nat × Cx) : Bool := 300 ≤ x.2.1 && all.all fun y => y.1 == x.1 || decide (y.2.1 + 100 ≤ x.2.1)
  if all.length < modes.length then none else (all.find? wins).map fun x => (x.1, x.2.2.1, x.2.2.2)

/-- Transform of the samples from `a` on. -/
def OfdmBranch.drmBins (b : OfdmBranch) (m : Nat) (freqs : List (Nat × Int)) (a : Nat) : Int → Cx :=
  ofdmBin (drmTu m) (derotated freqs a (b.span a (drmTu m)))

/-- Windows of whole symbols that are there on the symbol timing `w`. -/
def OfdmBranch.windows (b : OfdmBranch) (m w : Nat) : List Nat :=
  let ts := drmTu m + drmTg m
  ((List.range (b.buf.length / ts + 2)).map fun j => w % ts + (b.base / ts + j) * ts).filter fun a => b.has a (drmTu m)

/-- Carriers of the references of step 2: 750, 2,250 and 3,000 Hz for DRM30, the time reference cells for DRM+. -/
def searchCells (m occ : Nat) : List Int :=
  if m = 4 then (drmCarriers 4).filter fun k => Config.drmCell 4 occ 0 k == 2
  else [750, 2250, 3000].map fun f => ((f * drmTu m / 48000 : Nat) : Int)

/-- Step 2: the reference cells correlated at integer carrier shifts within ±2 kHz, over the symbols that are there. -/
def OfdmBranch.integerShift (b : OfdmBranch) (m occ w : Nat) (freqs : List (Nat × Int)) : Option Int :=
  let most := 2000 * drmTu m / drmRate m
  let cells := searchCells m occ
  let ys := (b.windows m w).map (b.drmBins m freqs)
  bestShift <| (List.range (2 * most + 1)).map fun i =>
    let s : Int := (i : Int) - most
    let p (y : Int → Cx) : Nat := (Cx.sum (cells.map fun k => (y (k + s)).mul (drmRefOf m 0 k).conj)).sq
    (s, if m = 4 then (ys.map p).foldl max 0 else (ys.map p).sum)

/-- Step 3: the time reference cells correlated against each symbol position of a frame; gives the window of the frame's first symbol,
where one position stands out as step 2 has it (DEDUCED log 137). -/
def OfdmBranch.frameStart (b : OfdmBranch) (m occ w : Nat) (freqs : List (Nat × Int)) : Option Nat :=
  let cells := (drmCarriers m).filter fun k => Config.drmCell m occ 0 k == 2
  let all := b.windows m w
  let last := (all.drop (all.length - drmSymbols m))
  if last.length < drmSymbols m then none
  else (bestShift (last.map fun a =>
    let y := b.drmBins m freqs a
    ((a : Int), (Cx.sum (cells.map fun k => (y k).mul (drmRefOf m 0 k).conj)).sq))).map Int.toNat

/-! ## Symbols (R481) -/

/-- One symbol of a branch: its carriers, none where a sample of it is bad, SAT, and whether the branch contributes nothing. -/
def OfdmBranch.drmSymbol (b : OfdmBranch) (m : Nat) (freqs : List (Nat × Int)) (a : Nat) : Option (List Cx) × Bool × Bool :=
  let s := b.span (a - drmTg m) (drmTu m + drmTg m)
  (if s.any (·.bad) || s.isEmpty then none else some ((drmCarriers m).map (b.drmBins m freqs a)), s.any (·.sat), s.any (·.mute))
/-- The remainder `ramp` of the first path, eighths of a sample, removed as a phase ramp across the carriers. -/
def unramped (m : Nat) (ramp : Int) (y : List Cx) : List Cx :=
  let turn (k : Int) : Cx := rotor30 (((-k * ramp) % (8 * drmTu m : Nat)).toNat * 2 ^ 32 / (8 * drmTu m))
  ((drmCarriers m).zip y).map fun p => (p.2.mul (turn p.1)).each (· / 2 ^ 30)

/-- Value of carrier `k` in a symbol. -/
def cellOf (m : Nat) (y : List Cx) (k : Int) : Cx := y.getD (k + (drmTu m / 2 : Nat)).toNat {}

/-- a / b of complex numbers, units of 2^-16. -/
def Cx.over (a b : Cx) : Cx := (a.mul b.conj).each fun v => openRatio (v * 65536) b.sq

/-- Gain reference cells of a symbol with their raw estimates, units of 2^-16. -/
def gainCells (m occ l : Nat) (y : List Cx) : List (Int × Cx) :=
  ((drmCarriers m).filter fun k => Config.drmCell m occ l k == 3).map fun k => (k, (cellOf m y k |>.scale 65536).over (drmRefOf m l k))

/-- First and latest path of a symbol from the gain reference cells of every branch. -/
def drmPaths (m occ l : Nat) (ys : List (List Cx)) : Option (Int × Int) :=
  let tu := drmTu m
  let cells := ys.map (gainCells m occ l)
  pathsOf tu (tu / 2) fun n => (cells.map fun c =>
    (c.foldl (fun a p => a.add (p.2.mul (rotor48 (((-p.1 * n) % tu).toNat * 2 ^ 32 / tu)))) ({} : Cx)).each (· / 2 ^ 48) |>.sq).sum

/-- The step that a first path smoothed over 8 symbols asks for: a slip of one slot sample, which is three quarters of an elementary
sample (R481), or in a combined service one elementary sample (18 R510). -/
def DrmDsp.slips (combined : Bool) (x : DrmDsp) : Int :=
  if x.errs.length < 8 || x.errs.sum.natAbs < (if combined then 8 else 6) then 0 else if 0 < x.errs.sum then 1 else -1

/-- The branch on which acquisition runs: the first, or for a combined service the one of highest level (DEDUCED log 137). -/
def DrmDsp.lead (x : DrmDsp) : OfdmBranch := strongest x.branches

/-- The next symbol is demodulated; the last one of a frame completes it. -/
def DrmDsp.symbol (m occ w : Nat) (x : DrmDsp) : DrmDsp :=
  let raw := x.branches.map fun b => b.drmSymbol m x.freqs w
  let p := (drmPaths m occ x.sym (raw.filterMap (·.1))).getD x.paths
  let errs := (p.1 :: x.errs).take 8
  let ramp := openDiv (8 * errs.sum) errs.length
  let res := raw.map fun y => (y.1.map (unramped m ramp), y.2)
  let start := (x.branches.head?.bind fun b => (b.span (((w : Int) - drmTg m + p.1).toNat) 1).head?).map (·.t)
  let g := Cx.sum (x.branches.map fun b => b.guardTurn x.freqs (drmTu m) (drmTg m) (w - 1))
  let last := drmSymbols m ≤ x.sym + 1
  { x with
    branches := (x.branches.zip res).map fun b => { b.1 with symbols := (if x.sym = 0 then [] else b.1.symbols) ++ [b.2] }
    win := some (w + drmTu m + drmTg m), sym := if last then 0 else x.sym + 1, full := x.full || last, paths := p, errs := errs
    ramp := ramp, guard := (if x.sym = 0 then {} else x.guard).add g
    began := if x.sym = 0 then start.getD x.began else x.began }

/-- Every symbol whose samples are there is demodulated, up to the end of the frame. -/
def DrmDsp.run (m occ : Nat) : Nat → DrmDsp → DrmDsp
  | 0, x => x
  | fuel + 1, x =>
    match x.win with
    | none => x
    | some w => if !x.full && x.branches.all (·.has w (drmTu m)) then (x.symbol m occ w).run m occ fuel else x

/-- Slot samples of every branch enter the unit. -/
def DrmDsp.take (l : List (List OfdmSample)) (x : DrmDsp) : DrmDsp :=
  let old (i : Nat) : OfdmBranch := x.branches.getD i {}
  let first : List OfdmSample := l.headD []
  { x with
    branches := (indexed l).map fun b => b.2.foldl (fun b s => b.resample s) (old b.1)
    pw := x.pw + (first.map fun s => s.v.sq).sum, pn := x.pn + first.length, held := x.held || l.all fun b => b.any fun s => s.held }

/-! ## The channel estimate (R483) -/

/-- A symbol of a branch that counts: in an uncombined service the one after a bad symbol does not (R484, 18 R521). -/
def OfdmBranch.drmGood (combined : Bool) (b : OfdmBranch) (l : Nat) : Option (List Cx) :=
  let at_ (i : Nat) : Option (List Cx) := (b.symbols[i]?).bind (·.1)
  if !combined && 0 < l && (at_ (l - 1)).isNone then none else at_ l
/-- SAT quarters the CSI of symbol `l` and of the one after it (R484). -/
def OfdmBranch.drmSat (b : OfdmBranch) (l : Nat) : Bool :=
  ((b.symbols[l]?).any (·.2.1)) || (0 < l && (b.symbols[l - 1]?).any (·.2.1))
/-- The branch contributes nothing to symbol `l` (18 R513). -/
def OfdmBranch.drmMute (b : OfdmBranch) (l : Nat) : Bool := (b.symbols[l]?).any (·.2.2)

/-- Raw estimates of a frame: symbol, carrier and value. -/
def OfdmBranch.rawGains (m occ : Nat) (combined : Bool) (b : OfdmBranch) : List (Nat × Int × Cx) :=
  (List.range b.symbols.length).flatMap fun l => match b.drmGood combined l with
    | some y => (gainCells m occ l y).map fun g => (l, g.1, g.2)
    | none => []

/-- Doppler spread of a frame, 0.1 Hz (R498). -/
def frameDoppler (m : Nat) (g : List (Nat × Int × Cx)) : Nat :=
  let next (x : Nat × Int × Cx) : Option Cx := (g.find? fun y => y.2.1 == x.2.1 && x.1 < y.1).map (·.2.2)
  let pairs := g.filterMap fun x => (next x).map fun y => (x.2.2, y)
  Config.dopplerOf m (openRatio ((Cx.sum (pairs.map fun p => p.2.mul p.1.conj)).re * 65536) ((pairs.map fun p => p.1.sq).sum))

/-- Time filter of a frame: the narrowest whose bandwidth holds the Doppler spread, the widest beyond (DEDUCED log 137). -/
def timeFilter (m doppler : Nat) : Nat :=
  let widths := if m = 4 then [100, 400, 1000, 2500] else [10, 30, 80, 200]
  (widths.findIdx? (doppler ≤ ·)).getD 3
/-- Span of the frequency interpolation: the delay spread rounded up to a quarter of Tg, in quarters. -/
def spanQuarters (m spread : Nat) : Nat := (4 * spread + drmTg m - 1) / drmTg m

/-- Interpolated estimate of cell (`l`, `k`), units of 2^-16. -/
def interpolated (m filter span : Nat) (g : List (Nat × Int × Cx)) (l : Nat) (k : Int) : Cx :=
  (g.foldl (fun a x => a.add (x.2.2.scale (Config.drmTimeTap m filter ((l : Int) - x.1) * Config.drmFreqTap m span (k - x.2.1)))) ({} : Cx)).each
    fun v => openDiv v (2 ^ 34)

/-- Nearest point of a square constellation of 4, 16 or 64 points at unit mean power, units of 2^-16, and half its minimum distance. -/
def nearestPoint (points : Nat) (z : Cx) : Cx × Nat :=
  let a : Nat := if points = 4 then 46341 else if points = 16 then 20724 else 10112
  let top : Int := if points = 4 then 1 else if points = 16 then 3 else 7
  let q (v : Int) : Int := max (-top) (min top (2 * (v / (2 * a : Nat)) + 1)) * a
  (z.each q, a)

/-- What the combiner of a DRM service makes of one cell (18 R520): the cell over its channel in units of 2^-16, and its CSI in units of
2^-16. With one branch it is Y / H and |H|² / σ² (R483). -/
def combineCell (l : List (Cx × Cx × Nat × Bool)) : Cx × Nat :=
  let den := (l.map fun b => (openRatio ((b.2.1.sq * 2 ^ 16 : Nat) : Int) b.2.2.1).toNat).sum
  let num := Cx.sum (l.map fun b => ((b.2.1.conj.mul b.1).scale (2 ^ 16)).each fun v => openRatio v b.2.2.1)
  let csi := (l.map fun b => (openRatio ((b.2.1.sq * 2 ^ 16 : Nat) : Int) b.2.2.1).toNat / (if b.2.2.2 then 4 else 1)).sum
  (num.each fun v => openRatio (v * 65536) den, csi)

/-- Estimate of a frame as far as it goes: per branch its corrections by carrier, and the sums of FAC and MSC. -/
structure DrmEst where
  /-- Corrections that decision feedback has made, by branch and carrier. -/
  fix : List (List (Int × Cx)) := []
  /-- Σ|z|² and Σ|z - ẑ|² over the FAC cells, units of 2^-32. -/
  fac : Nat × Nat := (0, 0)
  /-- The same over the MSC cells, each term weighted by its CSI. -/
  msc : Nat × Nat := (0, 0)

/-- Correction of carrier `k`. -/
def fixOf (l : List (Int × Cx)) (k : Int) : Cx := ((l.find? (·.1 == k)).map (·.2)).getD {}

/-- What fixes the estimate of a frame. -/
structure DrmPar where
  /-- Mode. -/
  m : Nat
  /-- Occupancy. -/
  occ : Nat
  /-- P.DRM_DF_WEIGHT. -/
  weight : Nat
  /-- Constellations of SDC and MSC, 0 unknown. -/
  sdc : Nat
  /-- MSC. -/
  msc : Nat
  /-- The frame opens a superframe, so that SDC cells carry the SDC; MSC otherwise. -/
  first : Bool
  /-- The service is combined. -/
  combined : Bool

/-- Interpolation, Doppler filter, span and noise power of one branch over a frame (R483). -/
structure DrmChan where
  /-- Raw estimates. -/
  g : List (Nat × Int × Cx)
  /-- Time filter. -/
  filter : Nat
  /-- Span. -/
  span : Nat
  /-- σ², units of 2^-128. -/
  noise : Nat

/-- The channel of a branch over a frame: σ² is the noise power on its reference cells. -/
def OfdmBranch.channel (p : DrmPar) (spread : Nat) (b : OfdmBranch) : DrmChan :=
  let g := b.rawGains p.m p.occ p.combined
  let filter := timeFilter p.m (frameDoppler p.m g)
  let span := spanQuarters p.m spread
  let errs := (List.range b.symbols.length).flatMap fun l => match b.drmGood p.combined l with
    | some y => ((drmCarriers p.m).filter fun k => let c := Config.drmCell p.m p.occ l k; c == 1 || c == 2 || c == 3).map fun k =>
        ((cellOf p.m y k).sub (((interpolated p.m filter span g l k).mul (drmRefOf p.m l k)).each fun v => openDiv v (2 ^ 32))).sq
    | none => []
  { g := g, filter := filter, span := span, noise := errs.sum / max 1 errs.length }

/-- One cell of a frame (R483): the estimate of every branch that counts, the combined cell, its metrics, and decision feedback where
the cell lies within 0.25 of the minimum distance of a point. -/
def DrmEst.cell (p : DrmPar) (bs : List (OfdmBranch × DrmChan)) (l : Nat) (k : Int) (e : DrmEst) : DrmEst :=
  let cell := Config.drmCell p.m p.occ l k
  let kind := if cell = 5 && !p.first then 6 else cell
  let points := if kind = 4 then 4 else if kind = 5 then p.sdc else if kind = 6 then p.msc else 0
  if points = 0 then e
  else
    let part (i : Nat) (b : OfdmBranch × DrmChan) : Option (Cx × Cx × Nat × Bool) := (if b.1.drmMute l then none else b.1.drmGood p.combined l).map fun y =>
      (cellOf p.m y k, ((interpolated p.m b.2.filter b.2.span b.2.g l k).each fun v => openDiv v 65536).add (fixOf (e.fix.getD i []) k), b.2.noise, b.1.drmSat l)
    let parts := (indexed bs).map fun b => (b.1, part b.1 b.2)
    let good := parts.filterMap (·.2)
    if good.isEmpty then e
    else
      let (z, csi) := combineCell good
      let (pt, half) := nearestPoint points z
      let err := (z.sub pt).sq
      let near := decide (4 * err ≤ half ^ 2)
      let step (b : Nat × Option (Cx × Cx × Nat × Bool)) : List (Int × Cx) :=
        let old := e.fix.getD b.1 []
        match b.2 with
        | some (y, h, _, _) =>
          let d := (((y.scale 65536).over pt).each fun v => openDiv v 65536).sub h |>.each fun v => openDiv v (2 ^ p.weight)
          (k, (fixOf old k).add d) :: old.filter (·.1 != k)
        | none => old
      { fix := if near then parts.map step else e.fix
        fac := if kind = 4 then (e.fac.1 + z.sq, e.fac.2 + err) else e.fac
        msc := if kind = 6 then (e.msc.1 + csi * z.sq, e.msc.2 + csi * err) else e.msc }

/-- What one DRM frame measures (R498). -/
structure DrmFrame where
  /-- A sample carried HOLD or NOSEG. -/
  flagged : Bool
  /-- Level, 0.1 dBµV. -/
  level : Int
  /-- Σ|v|² and number of its slot samples. -/
  pw : Nat × Nat
  /-- MER, 0.1 dB. -/
  mer : Int
  /-- WMER, 0.1 dB. -/
  wmer : Int
  /-- Doppler spread, 0.1 Hz. -/
  doppler : Nat
  /-- Delay spread, µs. -/
  spread : Nat
  /-- Residual frequency averaged over the frame, mHz. -/
  resid : Int
  /-- Grid tick at which it began on the first path. -/
  began : Nat

/-- The frame that is complete (R483, R498). -/
def DrmDsp.frame (p : DrmPar) (x : DrmDsp) : DrmFrame :=
  let spread := (x.paths.2 - x.paths.1).toNat
  let bs := x.branches.map fun b => (b, b.channel p spread)
  let cells := (List.range (drmSymbols p.m)).flatMap fun l => (drmCarriers p.m).map fun k => (l, k)
  let e := cells.foldl (fun e c => e.cell p bs c.1 c.2) { fix := bs.map fun _ => [] : DrmEst }
  { flagged := x.held, level := ofdmLevel x.pw x.pn, pw := (x.pw, x.pn), mer := levelOf e.fac.1 e.fac.2, wmer := levelOf e.msc.1 e.msc.2
    doppler := (bs.head?.map fun b => frameDoppler p.m b.2.g).getD 0, spread := spread * 1000000 / drmRate p.m
    -- the phase of the guard correlation falls by a turn of Tu samples per carrier
    resid := x.res + openDiv (-(turnOf 24 x.guard.shrink) * (1000 * drmRate p.m : Nat)) (2 ^ 24 * drmTu p.m)
    began := x.began }

/-- MER of every branch alone over the FAC cells of the frame, and its gains against those of branch 0 (18 R523). -/
def DrmDsp.branchFrames (p : DrmPar) (x : DrmDsp) : DrmDsp :=
  let spread := (x.paths.2 - x.paths.1).toNat
  let cells := (List.range (drmSymbols p.m)).flatMap fun l => (drmCarriers p.m).map fun k => (l, k)
  let one (b : OfdmBranch) : OfdmBranch × List (Nat × Int × Cx) :=
    let c := b.channel p spread
    let alone := { b with symbols := b.symbols.map fun s => (s.1, s.2.1, false) }
    ({ b with own := (cells.foldl (fun e k => e.cell p [(alone, c)] k.1 k.2) { fix := [[]] : DrmEst }).fac }, c.g)
  let all := x.branches.map one
  let g0 := ((all.head?).map (·.2)).getD []
  let cross (g : List (Nat × Int × Cx)) : Cx := Cx.sum (g.filterMap fun y =>
    (g0.find? fun z => z.1 == y.1 && z.2.1 == y.2.1).map fun z => y.2.2.mul z.2.2.conj)
  { x with branches := all.map fun b => { b.1 with cross := cross b.2 } }

/-- Entries of a schedule that samples from number `a` on no longer need, left out. -/
def dropOld (a : Nat) : List (Nat × Int) → List (Nat × Int)
  | x :: y :: rest => if y.1 ≤ a then dropOld a (y :: rest) else x :: y :: rest
  | l => l

/-- The frame has been decoded, and the next one begins. -/
def DrmDsp.nextFrame (m : Nat) (x : DrmDsp) : DrmDsp :=
  { x with full := false, guard := {}, pw := 0, pn := 0, held := false, freqs := dropOld (x.win.getD 0 - drmTg m) x.freqs }

/-! ## Frequencies -/

/-- A frequency in turns · 2^-32 per elementary sample, reduced by whole carrier spacings to the one nearest 0 (R478 step 1). -/
def centred (m : Nat) (f : Int) : Int := f - openDiv (roundAway (f * drmTu m) (2 ^ 32) * 2 ^ 32) (drmTu m)
/-- A frequency of 2^-32 turns per elementary sample in mHz. -/
def mhzOf (m : Nat) (f : Int) : Int := openDiv (f * (1000 * drmRate m : Nat)) (2 ^ 32)

end Sys2Proof.Machine
end

