-- ==== Sys2Proof/Machine/Drm.lean ====
section
/-!
DEFINITION. DRM reception (chapter 17): synchronisation, FAC and SDC, reconfiguration, the service selection, audio, text and
data, alarms, and the commands DRM_CFG, DRM_SERVICE_SELECT and DRM_METRICS.
-/
namespace Sys2Proof.Machine

/-- The context is a DRM context: by its kind, or by its standard. -/
def Dev.isDrm (d : Dev) (c : Nat) : Bool :=
  d.kindOf c == 4 || d.kindOf c == 6 || (d.kindOf c != 0x0B && (d.stdOf c == 3 || d.stdOf c == 4))
/-- A DRM receiver runs for context `c`. -/
def Dev.drmRuns (d : Dev) (c : Nat) : Bool :=
  (d.ctx? c).any fun x => x.state == .running && x.kind != 0x0B && (x.std == 3 || x.std == 4)

/-- ENSEMBLE_CHANGED of a DRM context (R504). -/
def Dev.drmChanged (c cause reason : Nat) (d : Dev) : Dev :=
  let x := d.drm c
  let sid := match x.res, x.sel with
    | some r, _ => r.sid
    | none, some (sid, _, _) => sid
    | none, none => 0
  d.raise 73 c (u8 cause ++ u8 reason ++ u32 sid ++ u8 ((x.fac.map (·.reconf)).getD 0) ++ u8 0 ++ u64 x.frameTime)

/-! ## Acquisition (R478-R482) -/

/-- Centre offset of the slot of context `c`, mHz: the signal's reference frequency lies as much below it (R476). -/
def Dev.drmShift (d : Dev) (c : Nat) : Int := 1000 * ((d.ctx? c).map (·.offset)).getD 0
/-- Robustness modes that context `c` searches. -/
def Dev.drmModes (d : Dev) (c : Nat) : List Nat := if d.stdOf c = 4 then [4] else (List.range 4).filter (hasBit (d.drm c).cfg.modes)
/-- Occupancy whose cells are taken: before a FAC names one, the narrowest, whose cells every occupancy has (DEDUCED log 137). -/
def DrmSt.cells (x : DrmSt) : Nat := x.occ.getD 0

/-- Step 1 on the samples that are there: mode, symbol timing, and the fractional frequency, the centre offset taken into account. -/
def Dev.drmMode (c : Nat) (d : Dev) : Dev :=
  let b := (d.drm c).dsp.lead
  match b.findMode (d.drmModes c) with
  | none => d
  | some (m, n, g) =>
    let shift := turnsOf (d.drmShift c) (drmRate m)
    -- the phase of r[i] · r*[i + Tu] falls by a turn of Tu samples per carrier
    let off := centred m (openDiv (-(turnOf 24 g.shrink) * 2 ^ 8) (drmTu m) + shift)
    d.setDrm c fun x => { x with
      sync := 1, mode := some m
      dsp := { x.dsp with win := some (n + 1), sym := 0, full := false, frac := off, freqs := [(b.base, off - shift)], res := 0, errs := [], ramp := 0 } }

/-- DRM_MODE_FOUND (step 1). -/
def execDrmModeFound (dt ctx : Nat) (s : State) : Host.Outcome State Fault Refusal :=
  s.runIf dt (fun d => d.active && d.drmRuns ctx && (d.drm ctx).sync == 0) (Dev.drmMode ctx)

/-- What is left of a frequency of `mhz` after C moved by `moved`. -/
def leftOf (mhz moved : Int) : Int := mhz - roundAway (moved * 1000000) 32768

/-- The unit of context `c` writes C (R482, 18 R510), and derotates what is left of `mhz` from where the write acts on. -/
def Dev.drmWrite (c : Nat) (mhz : Int) (d : Dev) : Dev :=
  let x := d.drm c
  let m := x.mode.getD 0
  let e := d.addC c (corrOf mhz 1)
  let left := leftOf mhz (e.ctxC c - d.ctxC c)
  let b := (x.dsp.branches.head?).getD {}
  let grid := (if m = 4 then 16384 else 65536) / 3
  let at_ := e.actsAt c grid ((b.buf.getLast?.map (·.t)).getD e.now) b.total
  e.setDrm c fun x => { x with
    residual := left, dsp := { x.dsp with res := left, freqs := x.dsp.freqs ++ [(at_, turnsOf (left - d.drmShift c) (drmRate m))] } }

/-- Step 2: the integer frequency; C is written once, otherwise step 1 repeats. -/
def Dev.drmFrequency (c : Nat) (d : Dev) : Dev :=
  let x := d.drm c
  let m := x.mode.getD 0
  let y := x.dsp
  match y.win.bind fun w => y.lead.integerShift m x.cells w y.freqs with
  | none => d.setDrm c fun x => { x with sync := 0, mode := none, dsp := { x.dsp with win := none } }
  | some k =>
    let off := y.frac + openDiv (k * 2 ^ 32) (drmTu m)
    let mhz := mhzOf m off
    let e := d.setDrm c fun x => { x with
      sync := 2, residual := mhz
      dsp := { x.dsp with res := mhz, freqs := x.dsp.freqs.map fun f => (f.1, f.2 + (off - y.frac)) } }
    e.onlyIf (!e.ctxFlagged c) (Dev.drmWrite c mhz)

/-- DRM_FREQUENCY_FOUND (step 2). -/
def execDrmFrequencyFound (dt ctx : Nat) (s : State) : Host.Outcome State Fault Refusal :=
  s.runIf dt (fun d => d.active && d.drmRuns ctx && (d.drm ctx).sync == 1) (Dev.drmFrequency ctx)

/-- Ball instant of the elementary sample whose grid tick is `t`, in the slot of context `c` (R477). -/
def Dev.drmStands (d : Dev) (c t : Nat) : Int := match d.slotOf c with
  | some n => d.standsFor (d.slot n) t - Config.resampleDelay ((d.bankK (d.slot n).bank).getD 0)
  | none => t

/-- Symbol timing of a warm context (R479): its frame time extrapolated by whole frames to the samples that are there. -/
def Dev.drmWarmWindow (d : Dev) (c m : Nat) : Option Nat :=
  let x := d.drm c
  let b := x.dsp.lead
  match b.buf.head? with
  | none => none
  | some s =>
    let late := d.drmStands c s.t - x.frameTime
    let p : Int := (drmFrame m * roundTicks : Nat)
    let t := if late ≤ 0 then (x.frameTime : Int) else x.frameTime + (late + p - 1) / p * p
    (b.buf.findIdx? fun s => decide (t ≤ d.drmStands c s.t)).map (b.base + · + drmTg m)

/-- Samples of context `c` that are there are demodulated; between symbols the window moves with the first path, by a slip of the slot
within a guard interval, or in a combined service on its delay buffers (R481, 18 R510). -/
def Dev.drmRun (c : Nat) (d : Dev) : Dev :=
  let x := d.drm c
  match x.mode with
  | none => d
  | some m =>
    if x.sync < 3 then d
    else
      let combined := (d.serviceOf c).isSome
      let y := x.dsp.run m x.cells 48
      let k := y.slips combined
      let total := ((y.branches.head?).map (·.total)).getD 0
      let e := d.setDrm c fun x => { x with dsp := y }
      match y.win with
      | none => e
      | some w =>
        if k = 0 || w ≤ total + 1 then e
        else
          let e := e.setDrm c fun x => { x with dsp := { x.dsp with errs := [], win := some (if combined then ((w : Int) + k).toNat else w) } }
          match d.slotOf c with
          | some n => e.onlyIf (!combined) (Dev.slipSlot n k)
          | none => e

/-- Step 3: the frame start; where it fails on a warm context, the context goes on from step 1 (R479). -/
def Dev.drmFrameStart (c : Nat) (d : Dev) : Dev :=
  let x := d.drm c
  let m := x.mode.getD 0
  let b := x.dsp.lead
  let w0 := match x.dsp.win with
    | some w => some w
    | none => if x.warm then d.drmWarmWindow c m else none
  let freqs := if x.dsp.freqs.isEmpty then [(b.base, turnsOf (x.residual - d.drmShift c) (drmRate m))] else x.dsp.freqs
  match w0.bind fun w => b.frameStart m x.cells w freqs with
  | some a =>
    let t := (((b.span (a - drmTg m) 1).head?).map (·.t)).getD 0
    (d.setDrm c fun x => { x with
      sync := 3, frameTime := (d.drmStands c t).toNat, facMiss := 0, facs := []
      dsp := { x.dsp with win := some a, sym := 0, full := false, freqs := freqs, res := x.residual, errs := [], ramp := 0, guard := {}, began := t } }).drmRun c
  | none => d.onlyIf x.warm (Dev.setDrm c fun x => { x with sync := 0, mode := none, dsp := { x.dsp with win := none } })

/-- DRM_FRAME_FOUND (step 3). -/
def execDrmFrameFound (dt ctx : Nat) (s : State) : Host.Outcome State Fault Refusal :=
  s.runIf dt (fun d => d.active && d.drmRuns ctx && (d.drm ctx).sync == 2) (Dev.drmFrameStart ctx)

/-- Samples of every branch reach the OFDM unit of context `c`. -/
def Dev.drmTakes (c : Nat) (l : List (List OfdmSample)) (d : Dev) : Dev :=
  (d.setDrm c fun x => { x with dsp := x.dsp.take l }).drmRun c
/-- Samples of the slot of context `c` reach its OFDM unit; those with SETTLE enter no step of the acquisition (R478). -/
def Dev.drmFeed (c : Nat) (l : List SlotSample) (d : Dev) : Dev :=
  d.drmTakes c [((if (d.drm c).sync < 3 then l.filter (!·.settle) else l).map (SlotSample.ofdm · false))]

/-- The context returns to state 0 (R480), keeping C; the event is left out where DRM_CFG resynchronises it. -/
def Dev.drmLost (c : Nat) (event : Bool) (d : Dev) : Dev :=
  (d.onlyIf event (Dev.drmChanged c 0x25 0)).setDrm c fun x => { x with
    sync := 0, facMiss := 0, modeRun := 0, facs := [], dsp := { x.dsp with win := none, full := false, sym := 0, errs := [], freqs := [] }, resyncs := satAdd 0xFFFF x.resyncs 1 }

/-- DRM_SYNC_LOSS (R480). -/
def execDrmSyncLoss (dt ctx : Nat) (s : State) : Host.Outcome State Fault Refusal :=
  s.runIf dt (fun d => d.active && d.drmRuns ctx) fun d =>
    let x := d.drm ctx
    d.onlyIf (x.sync != 0 && decide (d.ctxPropN ctx P.drmLossFrames ≤ x.facMiss)) (Dev.drmLost ctx true)

/-- Tracking of the frequency by one frame (R482): C moves when the residual reaches its limit, otherwise it is derotated. -/
def Dev.drmTrack (c : Nat) (resid : Int) (d : Dev) : Dev :=
  let limit : Nat := if d.stdOf c = 4 then 10000 else 2000
  if limit ≤ resid.natAbs && !d.ctxFlagged c then d.drmWrite c resid
  else
    let x := d.drm c
    let total := ((x.dsp.branches.head?).map (·.total)).getD 0
    d.setDrm c fun x => { x with
      residual := resid
      dsp := { x.dsp with res := resid, freqs := x.dsp.freqs ++ [(total, turnsOf (resid - d.drmShift c) (drmRate (x.mode.getD 0)))] } }

/-! ## FAC (R476, R480, R485) -/

/-- The occupancy that a good FAC names (R476): the first one, or a new one named twice, moves the slot at the next
boundary. -/
def Dev.drmOcc (c o : Nat) (d : Dev) : Dev :=
  let x := d.drm c
  let next (d : Dev) : Dev := (d.setDrm c fun x => { x with
    occ := some o, occRun := none, offNext := some (o, d.nextBoundary) })
  let d := d.setCtx c fun y => { y with occ := some o }      -- the last good FAC's, for the occupied band of 04 R117
  if d.stdOf c != 3 then d
  else if x.occ.isNone then next d
  else if x.occ == some o then d.setDrm c fun x => { x with occRun := none }
  else if x.occRun == some (o, 1) then next d
  else d.setDrm c fun x => { x with occRun := some (o, 1) }

/-- A good FAC. -/
def Dev.drmFac (c : Nat) (f : DrmFac) (d : Dev) : Dev :=
  let x := d.drm c
  let other := x.mode != some f.mode
  if other && 1 ≤ x.modeRun then d.drmLost c true
  else
    let announced := match x.fac with
      | some o => o.reconf != f.reconf
      | none => false
    let d1 := d.setDrm c fun x => { x with
      fac := some f, modeRun := if other then x.modeRun + 1 else 0
      reconf := if announced then some f.reconf else x.reconf }
    (d1.onlyIf announced (Dev.drmChanged c 0x21 0)).drmOcc c f.occ

/-- What fixes the estimate of the frame whose FAC is `fac`, where it is good: without one the constellations of the last one stand. -/
def Dev.drmPar (d : Dev) (c : Nat) (good : Bool) (fac : DrmFac) : DrmPar :=
  let x := d.drm c
  let f := if good then some fac else x.fac
  { m := x.mode.getD 0, occ := if good then fac.occ else x.cells, weight := d.ctxPropN c P.drmDfWeight
    sdc := (f.map (·.sdc)).getD 0, msc := (f.map (·.msc)).getD 0, first := good && fac.first, combined := (d.serviceOf c).isSome }

/-- The FAC of the frame that is complete: what the frame measured, and the next one begins (R480-R483, R498, R499). -/
def Dev.drmFacFrame (c : Nat) (good : Bool) (fac : DrmFac) (d : Dev) : Dev :=
  let x := d.drm c
  let p := d.drmPar c good fac
  let frm := x.dsp.frame p
  let y := if p.combined then x.dsp.branchFrames p else x.dsp
  let d0 := d.setDrm c fun x => { x with
    frameTime := (d.drmStands c frm.began).toNat, hold := frm.flagged, level := frm.level, mer := frm.mer, wmer := frm.wmer
    doppler := frm.doppler, spread := frm.spread, facs := (good :: x.facs).take 10
    facBad := if good then x.facBad else satAdd 0xFFFFFFFF x.facBad 1
    facMiss := if good then 0 else if frm.flagged then x.facMiss else x.facMiss + 1
    sync := if good then max x.sync 4 else x.sync, dsp := y.nextFrame p.m }
  let measured (m : Meas) : Meas :=
    let n := (m.frame (frm.pw.1 / max 1 frm.pw.2) frm.mer).count good
    if good then { n with q := { n.q with sids := fac.servs.map (·.sid) } } else n
  let d1 := (d0.drmTrack c frm.resid).onlyIf (!frm.flagged) (Dev.measureBy c measured)
  (d1.onlyIf good (Dev.drmFac c fac)).drmRun c

/-- DRM_FAC_DECODED: the FAC of one frame. -/
def execDrmFacDecoded (dt ctx : Nat) (good : Bool) (fac : DrmFac) (s : State) : Host.Outcome State Fault Refusal :=
  s.runIf dt (fun d => d.active && d.drmRuns ctx && 3 ≤ (d.drm ctx).sync && (d.drm ctx).dsp.full) (Dev.drmFacFrame ctx good fac)

/-! ## Selection (R488, R492, R501) -/

/-- What a selection resolves to, or the reason why it does not: 0 absent, 1 type mismatch, 2 CA. -/
def drmResolve (ctxKind : Nat) (fac : Option DrmFac) (servs : List DrmServ) (sel : Nat × Nat × Nat) : Except Nat DrmServ :=
  let (sid, flags, short) := sel
  match fac.bind fun f => f.servs.find? fun v => if hasBit flags 1 then v.short == short else v.sid == sid with
  | none => .error 0
  | some v =>
    match servs.filter (·.short == v.short) with
    | [] => .error 0
    | l =>
      match l.find? fun s => if ctxKind = 4 then s.typ ≤ 1 else 2 ≤ s.typ with
      | none => .error 1
      | some s => if v.ca then .error 2 else .ok { s with sid := v.sid }

/-- The selection of context `c` in the FAC and SDC in force. -/
def Dev.drmResolved (d : Dev) (c : Nat) : Option (Except Nat DrmServ) :=
  let x := d.drm c
  x.sel.map (drmResolve (d.kindOf c) x.fac x.servs)

/-- The service takes its decode: the throughput counts at three times its net bit rate (R491), in kbit/s rounded up. -/
def Dev.drmTake (c : Nat) (r : DrmServ) (d : Dev) : Dev :=
  (d.setDrm c fun x => { x with res := some r, failed := false }).setCtx c fun x => { x with kbps := some ((3 * r.rate + 9) / 10) }

/-- A pending selection is tried (R501). -/
def Dev.drmTry (c : Nat) (told : Bool) (d : Dev) : Dev :=
  let x := d.drm c
  if x.res.isSome then d
  else match d.drmResolved c with
    | none => d
    | some (.ok r) => (d.drmTake c r).onlyIf (!told) (Dev.drmChanged c 0x23 0)
    | some (.error why) =>
      if x.failed || told then d else (d.setDrm c fun x => { x with failed := true }).drmChanged c 0x24 why

/-- A reconfiguration applies (R488). -/
def Dev.drmApply (c : Nat) (d : Dev) : Dev :=
  let old := (d.drm c).res
  let e := (d.setDrm c fun x => { x with reconf := none, failed := false }).drmChanged c 0x22 0
  match old with
  | none => e
  | some r =>
    match e.drmResolved c with
    | some (.ok n) =>
      let same := r.prot == n.prot && r.stream == n.stream
      (e.drmTake c n).onlyIf (!same) (Dev.setDrm c fun x => { x with decode := false })
    | _ => (e.drmChanged c 0x27 0).setDrm c fun x => { x with res := none, decode := false }

/-! ## SDC (R486-R488, R497) -/

/-- ALERT_RECEIVED of a DRM context (R497). -/
def Dev.drmAlert (c origin : Nat) (d : Dev) : Dev :=
  d.alert c (u8 origin ++ u8 0 ++ u32 (d.drm c).alarmSid ++ u32 (d.freqOf c))

/-- The alarm after a good SDC: two consecutive ones that show the other state change it. -/
def Dev.drmAlarm (c : Nat) (on : Option Nat) (d : Dev) : Dev :=
  let x := d.drm c
  if on.isSome = x.alarm then d.setDrm c fun x => { x with alarmRun := 0 }
  else if x.alarmRun = 0 then d.setDrm c fun x => { x with alarmRun := 1 }
  else
    let e := d.setDrm c fun x => { x with alarm := on.isSome, alarmRun := 0, alarmSid := on.getD x.alarmSid }
    e.drmAlert c (if x.alarm then 0x21 else 0x20)

/-- Offers of context `c`, each made once per content (R487). -/
def Dev.drmOffer (c : Nat) (o : FbOffer) (d : Dev) : Dev :=
  let (l, new) := offerOnce o (d.drm c).offered
  (d.setDrm c fun x => { x with offered := l }).onlyIf new (Dev.offer o)

/-- The offers of a good SDC (R487): the tuned frequency with the services of the FAC, and entities 3, 4 and 11. -/
def Dev.drmOffers (c : Nat) (sdc : DrmSdc) (d : Dev) : Dev :=
  let x := d.drm c
  let own : List FbOffer := ((x.fac.map (·.servs)).getD []).map fun v =>
    { std := d.stdOf c, freq := d.freqOf c, id := v.sid, level := some (levelByte x.level), source := 4, input := d.inputOf c
      detail := match x.mode with | some m => [(0, m)] | none => [] }
  let others := sdc.feed.map fun it => feedOffer it 4 (d.inputOf c)
  if d.ctxProp c P.drmFbFeed = 1 then (own ++ others).foldl (fun d o => d.drmOffer c o) d else d

/-- A good SDC. -/
def Dev.drmSdc (c : Nat) (sdc : DrmSdc) (d : Dev) : Dev :=
  let x := d.drm c
  let applies := x.reconf.isSome && sdc.applies
  let d1 := d.setDrm c fun x => { x with
    sync := 5, sdcAt := d.now, utc := sdc.utc.getD x.utc
    servs := if x.reconf.isNone || applies then sdc.servs else x.servs, failed := if x.sync = 5 then x.failed else false }
  let d2 := d1.onlyIf (x.sync != 5) (Dev.drmChanged c 0x20 0)
  let d3 := d2.onlyIf applies (Dev.drmApply c)
  ((d3.drmTry c false).drmOffers c sdc).drmAlarm c sdc.alarm

/-- DRM_SDC_DECODED. -/
def execDrmSdcDecoded (dt ctx : Nat) (good : Bool) (sdc : DrmSdc) (s : State) : Host.Outcome State Fault Refusal :=
  s.runIf dt (fun d => d.active && d.drmRuns ctx && 4 ≤ (d.drm ctx).sync) fun d =>
    if good then d.drmSdc ctx sdc
    else d.setDrm ctx fun x => { x with sdcBad := satAdd 0xFFFFFFFF x.sdcBad 1 }

/-- DRM_ALARM_SDC_TIMEOUT (R497): superframes of 1,200 ms for DRM30 and 400 ms for DRM+. -/
def execDrmAlarmSdcTimeout (dt : Nat) (s : State) : Host.Outcome State Fault Refusal :=
  s.runIf dt Dev.active fun d =>
    forAll (d.dem.drm.map (·.1)) (fun c d =>
      let x := d.drm c
      let span := d.ctxPropN c P.drmLossFrames * (if d.stdOf c = 4 then 3200 else 9600) * roundTicks
      if d.drmRuns c && x.alarm && decide (x.sdcAt + span ≤ d.now) then
        (d.setDrm c fun x => { x with alarm := false, alarmRun := 0 }).drmAlert c 0x21
      else d) d

/-! ## MSC, audio, text and data (R489-R495) -/

/-- The MSC of context `c` can be decoded: it holds a decode, and the SDC in force resolves its selection. -/
def Dev.drmDecodes (d : Dev) (c : Nat) : Bool :=
  d.drmRuns c && (d.drm c).sync == 5 && (d.drm c).res.isSome && (d.ctx? c).any (·.decode)

/-- DRM_MSC_FRAME_DECODED (R490, R492). -/
def execDrmMscFrameDecoded (dt ctx : Nat) (s : State) : Host.Outcome State Fault Refusal :=
  s.runIf dt (fun d => d.active && d.drmDecodes ctx) (Dev.setDrm ctx fun x => { x with decode := true })

/-- DRM_AUDIO_SUPERFRAME (R493): `aus` are the CRC results of its access units. -/
def execDrmAudioSuperframe (dt ctx : Nat) (headerOk : Bool) (aus : List Bool) (s : State) : Host.Outcome State Fault Refusal :=
  s.runIf dt (fun d => d.active && d.drmDecodes ctx && (d.drm ctx).decode && d.kindOf ctx == 4) (Dev.setDrm ctx fun x =>
    if headerOk then { x with auErr := satAdd 0xFFFFFFFF x.auErr (aus.filter (!·)).length }
    else { x with lost := satAdd 0xFFFFFFFF x.lost 1 })

/-- DRM_TEXT_MESSAGE_COMPLETE (R494): delivered where its content or toggle differs from the last one delivered. -/
def execDrmTextMessageComplete (dt ctx toggle : Nat) (bytes : List Byte) (s : State) : Host.Outcome State Fault Refusal :=
  s.runIf dt (fun d => d.active && d.drmDecodes ctx && (d.drm ctx).decode && d.kindOf ctx == 4
      && hasBit (d.drm ctx).cfg.deliver 0 && 1 ≤ bytes.length && bytes.length ≤ 128) fun d =>
    let x := d.drm ctx
    if x.text == some (toggle, bytes) then d
    else (d.setDrm ctx fun x => { x with text := some (toggle, bytes) }).writeRecord ctx 0x30 d.now
      (u32 ((x.res.map (·.sid)).getD 0) ++ u8 toggle ++ u8 0 ++ u16 bytes.length ++ bytes)

/-- DRM_DATA_UNIT (R495): a data unit that passes its CRC becomes a record, or goes to MOT reassembly (21 R598). -/
def execDrmDataUnit (dt ctx : Nat) (crcOk : Bool) (bytes : List Byte) (s : State) : Host.Outcome State Fault Refusal :=
  s.runIf dt (fun d => d.active && d.drmDecodes ctx && (d.drm ctx).decode && crcOk
      && (d.kindOf ctx == 6 || hasBit (d.drm ctx).cfg.deliver 1)) fun d =>
    match (d.drm ctx).res with
    | none => d
    | some r =>
      let mot := (d.bind? ctx).any (·.mot) && motApp r.app
      d.onlyIf (!mot) (Dev.writeRecord ctx 0x31 d.now
        (u32 r.sid ++ u8 r.short ++ u8 r.stream ++ u8 (r.packet.getD 0xFF) ++ u8 0 ++ u16 r.app ++ bytes))

/-- The component that context `c` decodes delivers MOT data groups to reassembly (21 R598): packet mode, or an audio component with
PAD delivery, for DAB; the data units of the selected application for DRM. -/
def Dev.takesMot (d : Dev) (c : Nat) : Bool :=
  (d.dabDecodes c && (d.dab c).decode.isSome && d.dabMot c
      && (match (d.dab c).res, (d.dab c).sel with
          | some r, some q => r.typ == 3 || (r.typ ≤ 1 && hasBit q.flags 2)
          | _, _ => false))
    || (d.drmDecodes c && (d.drm c).decode && (d.kindOf c == 6 || hasBit (d.drm c).cfg.deliver 1)
      && (d.drm c).res.any fun r => motApp r.app)

/-- MOT_DATA_GROUP (21 R598): a header (`bytes`), a body segment, or a directory (`bytes`, with the transport ID and MOT header of
each object it lists) of a component that R598 names. -/
def execMotDataGroup (dt ctx typ tid seg : Nat) (last : Bool) (bytes : List Byte) (entries : List (Nat × List Byte)) (s : State) :
    Host.Outcome State Fault Refusal :=
  s.runIf dt (fun d => d.active && (d.bind? ctx).any (·.mot) && d.takesMot ctx) (Dev.motGroup ctx typ tid seg last bytes entries)

/-! ## At a Round boundary -/

/-- The centre offset of a DRM30 slot moves (R476); the unit removes the step of its frequency (R482). -/
def Dev.drmMove (c : Nat) (d : Dev) : Dev :=
  match (d.drm c).offNext, d.ctx? c with
  | some (o, due), some x =>
    if d.now < due then d
    else
      let y := (d.drm c).dsp
      let b := (y.branches.head?).getD {}
      let m := (d.drm c).mode.getD 0
      let grid := (if m = 4 then 16384 else 65536) / 3
      let at_ := d.actsAt c grid ((b.buf.getLast?.map (·.t)).getD d.now) b.total
      let freqs := if y.freqs.isEmpty then [] else y.freqs ++ [(at_, turnsOf (y.res - 1000 * occOffset o) (drmRate m))]
      let e := (d.setDrm c fun x => { x with offNext := none, dsp := { x.dsp with freqs := freqs } }).setCtx c fun x => { x with offset := occOffset o }
      match x.slot, segmentOf x.freq with
      | some n, some g =>
        if occOffset o = x.offset then e else e.retuneSlot n ((d.slot n).seg / 4 * 4 + g) (tunedWord g x.freq (occOffset o))
      | _, _ => e
  | _, _ => d

/-- Settings accepted by DRM_CFG, a selection and a new offset of context `c` take effect (R476, R500, R501). -/
def Dev.drmCtxRound (c : Nat) (d : Dev) : Dev :=
  let d1 := match (d.drm c).next with
    | some (g, action, due) =>
      if d.now < due then d
      else (d.setDrm c fun x => { x with cfg := g, next := none }).onlyIf (hasBit action 0 && (d.drm c).sync != 0) (Dev.drmLost c false)
    | none => d
  let d2 := match (d1.drm c).selNext with
    | some (sel, due) =>
      if d1.now < due then d1
      else
        let told := (d1.drm c).told
        let e := d1.setDrm c fun x => { x with
          sel := sel, selNext := none, told := false, res := none, failed := false, decode := false }
        e.onlyIf ((e.drm c).sync == 5 && d1.drmRuns c) (Dev.drmTry c told)
    | none => d1
  d2.drmMove c
/-- Every DRM context. -/
def Dev.drmRound (d : Dev) : Dev := forAll (d.dem.drm.map (·.1)) (fun c d => d.drmCtxRound c) d

/-! ## Commands -/

/-- A command on a DRM context answers WRONG_STATE. -/
def Dev.drmWrong (d : Dev) (c : Nat) : Bool := d.inWatch || d.ctxBusy c || !d.isDrm c

/-- DRM_CFG (R500). -/
def drmCfgBody : Body := fun q d =>
  let c := q.ctx
  let g : DrmCfg := { modes := q.p8 0, deliver := q.p8 1 }
  let before := match (d.drm c).next with | some (_, a, _) => a | none => 0
  checked d [(q.len != 4, .badLength), (!d.hasDrm, .notFitted),
    (q.badHeader || 15 < g.modes || (d.stdOf c == 3 && g.modes == 0) || (d.stdOf c == 4 && g.modes != 0) || 3 < g.deliver
      || (d.kindOf c == 6 && hasBit g.deliver 1) || 1 < q.p8 2 || q.p8 3 != 0, .badParam),
    (q.notCtxOwner c d, .notOwner), (d.drmWrong c, .wrongState)] <|
    okWith (u64 d.nextBoundary) (d.setDrm c fun x => { x with next := some (g, before ||| q.p8 2, d.nextBoundary) })

/-- The row DRM_CFG. -/
def execDrmCfg (dt : Nat) (s : State) : Host.Outcome State Fault Refusal := s.command dt 0x1201 drmCfgBody

/-- The 12 bytes of a resolved selection (R501). -/
def drmServBytes (r : DrmServ) : List Byte :=
  u8 r.short ++ u8 r.typ ++ u8 r.stream ++ u8 (r.packet.getD 0xFF) ++ u16 r.rate ++ u8 r.arate ++ u8 r.mapping ++ u16 r.app ++ zeros 2

/-- DRM_SERVICE_SELECT (R501). -/
def drmServiceSelectBody : Body := fun q d =>
  let c := q.ctx
  let (sid, flags, short) := (q.p32 0, q.p8 4, q.p8 5)
  let byShort := hasBit flags 1
  let clears := sid == 0 && flags == 0
  let x := d.drm c
  let put (sel : Option (Nat × Nat × Nat)) (told : Bool) : Dev :=
    d.setDrm c fun x => { x with selNext := some (sel, d.nextBoundary), told := told }
  checked d [(q.len != 8, .badLength), (!d.hasDrm, .notFitted),
    (q.badHeader || 0xFFFFFF < sid || 3 < flags || (byShort && sid != 0) || (!byShort && short != 0) || 3 < short
      || !zeroAt q.params 6 2, .badParam),
    (q.notCtxOwner c d, .notOwner),
    (d.drmWrong c || (d.kindOf c != 4 && d.kindOf c != 6)
      || (!clears && (hasBit flags 0 == (d.kindOf c == 4))), .wrongState)] <|
    if clears then ok (put none false)
    else match drmResolve (d.kindOf c) x.fac x.servs (sid, flags, short) with
      | .ok r => okWith (drmServBytes r) (put (some (sid, flags, short)) true)
      | .error _ => deferred (put (some (sid, flags, short)) false)

/-- The row DRM_SERVICE_SELECT. -/
def execDrmServiceSelect (dt : Nat) (s : State) : Host.Outcome State Fault Refusal := s.command dt 0x1202 drmServiceSelectBody

/-- The 64 bytes of DRM_METRICS (R502). -/
def Dev.drmPayload (d : Dev) (c : Nat) : List Byte :=
  let x := d.drm c
  let r := tabGet d.dem.checks c
  let facOk := if x.facs.isEmpty then 0 else 100 * (x.facs.filter id).length / x.facs.length
  let slips := ((d.slotOf c).map fun k => (d.slot k).slips).getD 0
  let flags := bit (x.fac.any (·.long)) + 2 * bit x.decode + 4 * bit x.alarm + 8 * bit r.isSome + 16 * bit (r.any (·.open_))
    + 32 * bit x.warm + 64 * bit x.hold + 128 * bit x.reconf.isSome
  let occ := if d.stdOf c = 4 then 0xFF else x.occ.getD 0xFF
  u8 c ++ u8 x.sync ++ u8 (x.mode.getD 0xFF) ++ u8 occ ++ u8 flags ++ u8 facOk ++ u8 ((r.map (·.cls)).getD 0)
    ++ u8 ((x.fac.map (·.servs.length)).getD 0) ++ s16 x.level ++ s16 x.mer ++ s16 x.wmer ++ u16 x.doppler
    ++ s32 (d.offsetHz c x.residual) ++ u16 x.spread ++ s16 slips ++ u32 x.facBad ++ u32 x.sdcBad ++ u32 x.auErr ++ u32 x.lost
    ++ u16 x.resyncs ++ u8 (min 255 ((r.map (·.m.n)).getD 0)) ++ u8 ((r.map (·.m.q.pct)).getD 0)
    ++ s16 ((r.map (·.m.q.cnr)).getD 0) ++ u16 0 ++ u64 x.frameTime ++ u32 x.utc ++ u32 ((r.map (·.time)).getD 0)

/-- DRM_METRICS (R502). -/
def drmMetricsBody : Body := fun q d =>
  checked d [(q.len != 0, .badLength), (!d.hasDrm, .notFitted), (q.badHeader, .badParam), (d.drmWrong q.ctx, .wrongState)]
    (okWith (d.drmPayload q.ctx) d)

/-- The row DRM_METRICS. -/
def execDrmMetrics (dt : Nat) (s : State) : Host.Outcome State Fault Refusal := s.command dt 0x1203 drmMetricsBody

end Sys2Proof.Machine
end

