-- ==== Sys2Proof/Machine/Rf.lean ====
section
/-!
DEFINITION. The RF inputs (chapter 09): the wideband AGC, the external amplifiers and the antenna supply, SYN0 and the
L-band converters, and the commands FE_INPUT, FE_AGC, FE_XAMP, FE_DIAG and FE_LBAND.
-/
namespace Sys2Proof.Machine

/-! ## Wideband AGC (R258-R263) -/

/-- headroom_ok of path `lb` of input `i` for a raise by `step` tenths of a decibel (R258, 11 R315): true while a segment
of the path has not been visited. -/
def Dev.headroomOk (d : Dev) (i : Nat) (lb : Bool) (step : Int) : Bool :=
  let segs := if lb then [4 * i + 3] else [4 * i, 4 * i + 1, 4 * i + 2]
  segs.all fun s => match (d.survey.segs.getD s {}).peak with
    | none => true
    | some p => !(segs.all fun t => (d.survey.segs.getD t {}).peak.isSome) || p + step ≤ -10 * d.prop (P.agcHeadroom i)

/-- One path as a loop sees it: whether it is live, its gain in steps, its step in tenths of a decibel, its detector
reading, its target in tenths of a decibel, its decay count, and whether its start ramp runs. -/
structure AgcPath where
  live : Bool
  gain : Int
  step : Int
  det : Int
  target : Int
  low : Nat
  ramp : Bool
  top : Int
deriving DecidableEq, Repr

/-- The path's error e in tenths of a decibel (R258). -/
def AgcPath.err (x : AgcPath) : Int := x.det - x.target

/-- The start ramp goes on: until e is at least -hyst or the gain reaches its upper limit (R262). -/
def AgcPath.ramps (hyst : Int) (x : AgcPath) : Bool := x.ramp && x.err < -hyst && x.gain < x.top

/-- The loop of one path in a window without overload (R258, R262). `calm` says that no sample clipped in the last 8
windows, `room` is headroom_ok of a raise by one step. -/
def AgcPath.track (hyst : Int) (decay : Nat) (calm room : Bool) (x : AgcPath) : AgcPath :=
  let e := x.err
  if !x.live then x
  else if x.ramps hyst then { x with gain := min (x.gain + 60 / x.step) x.top }
  else if hyst < e then { x with gain := x.gain - e / x.step, low := 0 }
  else if e < -hyst then
    let n := x.low + 1
    { x with low := n, gain := if 8 * decay ≤ n && calm && room then x.gain + 1 else x.gain }
  else { x with low := 0 }

/-- The fast attack (R258): the path with the higher detector reading, both if within 3 dB. -/
def AgcPath.attack (x other : AgcPath) : AgcPath :=
  let y := { x with low := 0 }
  if x.live && (!other.live || other.det - x.det ≤ 30) then { y with gain := y.gain - 60 / y.step } else y

/-- The main path of input `i`. -/
def Dev.mainPath (d : Dev) (i : Nat) (det : Int) : AgcPath :=
  let x := d.inp i
  { live := true, gain := x.g, step := 5, det := det, target := 10 * d.prop (P.agcTarget i), low := x.lowMain,
    ramp := x.rampMain, top := d.prop (P.agcMaxGain i) }
/-- The L-band path of input `i`. -/
def Dev.lbPath (d : Dev) (i : Nat) (det : Int) : AgcPath :=
  let x := d.inp i
  { live := x.lband.isOn, gain := x.lbg, step := 10, det := det, target := 10 * d.prop (P.lbTarget i), low := x.lowLb,
    ramp := x.rampLb, top := 30 }

/-- `v` clamped to a range. -/
def clamp (lo hi v : Int) : Int := max lo (min hi v)

/-- The automatic step of R258 for input `i`. -/
def Dev.agcAuto (i : Nat) (hot calm : Bool) (main lb : AgcPath) (d : Dev) : Dev :=
  let hyst := 10 * d.prop (P.agcHyst i)
  let decay := d.propN (P.agcDecay i)
  let m := if hot then main.attack lb else main.track hyst decay calm (d.headroomOk i false 5)
  let l := if hot then lb.attack main else lb.track hyst decay calm (d.headroomOk i true 10)
  d.setInp i fun x => { x with
    g := clamp (d.prop (P.agcMinGain i)) (d.prop (P.agcMaxGain i)) m.gain, lowMain := m.low
    lbg := if l.live then (clamp 0 30 l.gain).toNat else x.lbg, lowLb := l.low }

/-- An FE_AGC accepted in the window takes effect and the automatic step is abandoned (R261, R263, R275). -/
def Dev.agcHost (i : Nat) (next : Nat × Int × Nat) (d : Dev) : Dev :=
  d.setInp i fun x =>
    let y := { x with agcMode := next.1, agcNext := none, lowMain := 0, lowLb := 0 }
    if next.1 = 2 then { y with g := next.2.1, lbg := next.2.2 } else y

/-- The start ramps of input `i` that have ended with this window's readings (R262). -/
def Dev.agcRamps (i : Nat) (detMain detLb : Int) (d : Dev) : Dev :=
  let hyst := 10 * d.prop (P.agcHyst i)
  d.setInp i fun x => { x with
    rampMain := (d.mainPath i detMain).ramps hyst, rampLb := if x.lband.isOn then (d.lbPath i detLb).ramps hyst else x.rampLb }

/-- AGC_OVERLOAD (R260, R281). -/
def Dev.agcOverload (i cause : Nat) (d : Dev) : Dev :=
  let x := d.inp i
  if (x.overAt.map fun t => decide (t + 800 * roundTicks ≤ d.now)).getD true then
    (d.setInp i fun x => { x with overAt := some d.now, newOverloads := 0 }).emit (32 + i)
      (u8 cause ++ s8 x.g ++ u8 (attOf x.g) ++ u8 x.lbg ++ u16 x.newOverloads)
  else d

/-- The end of an AGC window of live input `i` (R258-R263) (DEDUCED log 39). A start ramp ends in any mode of
R261 once its condition holds. -/
def Dev.agcWindow (i clips : Nat) (detMain detLb : Int) (d : Dev) : Dev :=
  let x := d.inp i
  let hot := d.prop (P.agcClipLimit i) ≤ clips
  let sinceClip := if 0 < clips then 0 else min 8 (x.sinceClip + 1)
  let gMin := d.prop (P.agcMinGain i)
  let main := d.mainPath i detMain
  let d1 := d.setInp i fun x => { x with
    detMain := some detMain
    detLb := if x.lband.isOn then some detLb else none
    sinceClip := sinceClip
    clips := satAdd 0xFFFFFFFF x.clips clips
    overloads := if hot then satAdd 0xFFFFFFFF x.overloads 1 else x.overloads
    newOverloads := if hot then satAdd 0xFFFF x.newOverloads 1 else x.newOverloads }
  let d2 := match x.agcNext with
    | some n => d1.agcHost i n
    | none => d1.onlyIf (x.agcMode == 0) (Dev.agcAuto i hot (sinceClip == 8) main (d.lbPath i detLb))
  let held := x.g == gMin && (d2.inp i).g == gMin && decide (10 * d.prop (P.agcHyst i) < main.err)
  let n := if held then min 8 (x.minHeld + 1) else 0
  let d3 := ((d2.setInp i fun y => { y with minHeld := n }).agcRamps i detMain detLb).noteGain i
  if hot then d3.agcOverload i 0 else d3.onlyIf (n == 8) (Dev.agcOverload i 1)

/-! ## External amplifiers (R269-R273) -/

/-- xamp of FE_DIAG (R277). -/
def XampSt.code (x : XampSt) : Nat :=
  if x.faulted then 4 else if x.seqn.isSome then 1 else if !x.pwr then 0 else if x.byp then 2 else 3

/-- ANT_DIAG (R281). -/
def Dev.antDiag (i action : Nat) (d : Dev) : Dev :=
  let x := (d.inp i).amp
  d.emit (36 + i) (u8 x.cls ++ u8 action ++ u16 x.sns ++ u8 x.retries)

/-- XAMP_SEQ_DONE (R281) as the amplifier stands. -/
def Dev.seqReport (i result : Nat) (d : Dev) : Dev :=
  let x := (d.inp i).amp
  d.emit (40 + i) (u8 x.code ++ u8 result ++ u16 x.sns ++ u8 x.eepState)
/-- The sequence ends with XAMP_SEQ_DONE. -/
def Dev.seqDone (i result : Nat) (d : Dev) : Dev :=
  (d.setInp i fun x => { x with amp.seqn := none }).seqReport i result

/-- Short or Overcurrent cuts the supply (R270): a retry follows, or the amplifier is faulted; in WATCH there is no retry
(22 R619) (DEDUCED log 48). -/
def Dev.supplyCut (i cls : Nat) (d : Dev) : Dev :=
  let x := (d.inp i).amp
  let cut := (d.setInp i fun y => { y with amp := { y.amp with byp := true, pwr := false, cls := cls } }).noteGain i
  if d.pwr.mode == .watch then (cut.setInp i fun y => { y with amp.faulted := true }).antDiag i 3 else
  match x.lastOn with
  | some b =>
    if x.retries < d.propN (P.xampRetry i) then
      (cut.setInp i fun y => { y with amp.seqn := some { kind := .on b, stage := .retryWait d.now } }).antDiag i 1
    else
      let e := (cut.setInp i fun y => { y with amp.faulted := true }).antDiag i 3
      e.onlyIf x.seqn.isSome (Dev.seqDone i 1)
  | none => cut

/-- Runs of consecutive samples and the class they decide (R269): 3 short, 2 overcurrent, 1 open, 0 normal. -/
def Dev.classify (d : Dev) (i mv : Nat) (x : XampSt) : XampSt × Option Nat :=
  let short := 1750 ≤ mv
  let oc := !short && x.inrushOver && d.propN (P.xampOcMv i) ≤ mv
  let opn := !short && !oc && x.settled && mv < d.propN (P.xampOpenMv i)
  let run (b : Bool) (n : Nat) : Nat := if b then n + 1 else 0
  let y := { x with
    ocRun := run oc x.ocRun, openRun := run opn x.openRun, okRun := run (!short && !oc && !opn) x.okRun, sns := mv
    snsMin := some (min mv (x.snsMin.getD mv)), snsMax := some (max mv (x.snsMax.getD mv)) }
  (y, if short then some 3 else if 4 ≤ y.ocRun then some 2 else if 8 ≤ y.openRun then some 1
      else if 8 ≤ y.okRun then some 0 else none)

/-- AUX_ADC_SAMPLE (R269, R270): a change into Open and a return to Normal are reported. -/
def execAuxAdcSample (dt input mv : Nat) (s : State) : Host.Outcome State Fault Refusal :=
  s.runIf dt (fun d => d.izosh && input < d.nInputs && (d.inp input).amp.pwr) fun d =>
    let x := (d.inp input).amp
    let (y, cls) := d.classify input mv x
    let e := d.setInp input fun z => { z with amp := y }
    match cls with
    | none => e
    | some c =>
      if 2 ≤ c then e.supplyCut input c
      else if c = x.cls then e
      else (e.setInp input fun z => { z with amp.cls := c }).antDiag input 0

/-- XAMP_INRUSH_EXPIRY (R269). -/
def execXampInrushExpiry (dt input : Nat) (s : State) : Host.Outcome State Fault Refusal :=
  s.runIf dt (fun d => d.izosh && input < d.nInputs && (d.inp input).amp.pwr
      && (d.inp input).amp.pwrAt + (d.inp input).amp.times.1 * 8 * roundTicks ≤ d.now)
    (Dev.setInp input fun x => { x with amp.inrushOver := true })

/-- XAMP_SETTLE_EXPIRY (R271, R273): the identity EEPROM is read if one was named, else the sequence finishes at the next
Round boundary. -/
def execXampSettleExpiry (dt input : Nat) (s : State) : Host.Outcome State Fault Refusal :=
  s.runIf dt (fun d => d.izosh && input < d.nInputs && (d.inp input).amp.pwr
      && (d.inp input).amp.pwrAt + (d.inp input).amp.times.2 * 8 * roundTicks ≤ d.now) fun d =>
    let e := d.setInp input fun x => { x with amp.settled := true }
    match (d.inp input).amp.seqn with
    | some { kind := k, stage := .settling } =>
      let go (st : XampStage) : Dev := e.setInp input fun x => { x with amp.seqn := some { kind := k, stage := st } }
      if (d.inp input).amp.eepAddr = 0 then go (.toFinish d.nextBoundary)
      else ({ go .reading with rf.eepQueue := d.rf.eepQueue ++ [input] }).pumpEep
    | _ => e

/-- XAMP_EEPROM_READ_DONE (R273, R277): result 1 read, 2 not acknowledged, 4 bus error. -/
def execXampEepromReadDone (dt result : Nat) (bytes : List Byte) (s : State) : Host.Outcome State Fault Refusal :=
  s.runIf dt (fun d => d.izosh && d.twc.state == 2 && d.ctrlEn) fun d =>
    match d.twc.req.bind (·.input) with
    | none => d
    | some i =>
      let idle := { d with twc.state := 0, twc.req := none, tw.busBusy := false, tw.lastStop := some d.now }
      let st := if result = 1 then 1 else if result = 2 then 2 else 4
      (idle.eepDone i st (if st = 1 then padTo 32 bytes else [])).pumpEep

/-- XAMP_OFF_DELAY_EXPIRY (R271). -/
def execXampOffDelayExpiry (dt input : Nat) (s : State) : Host.Outcome State Fault Refusal :=
  s.runIf dt (fun d => d.izosh && input < d.nInputs) fun d =>
    match (d.inp input).amp.seqn with
    | some { kind := .off, stage := .offDelay t } =>
      if t + 8 * roundTicks ≤ d.now then (d.setInp input fun x => { x with amp.pwr := false }).seqDone input 0 else d
    | _ => d

/-- XAMP_RETRY_WAIT_EXPIRY (R270): 1 s after the cut the "on" sequence starts again. -/
def execXampRetryWaitExpiry (dt input : Nat) (s : State) : Host.Outcome State Fault Refusal :=
  s.runIf dt (fun d => d.izosh && input < d.nInputs) fun d =>
    match (d.inp input).amp.seqn with
    | some { kind := k, stage := .retryWait t } =>
      if t + msec 1000 ≤ d.now then
        (d.setInp input fun x => { x with amp := { x.amp with
          retries := x.amp.retries + 1, seqn := some { kind := k, stage := .toStart d.nextBoundary } } }).antDiag input 2
      else d
    | _ => d

/-- An external amplifier at a Round boundary (R271): a sequence starts, or finishes. -/
def Dev.xampRound (i : Nat) (d : Dev) : Dev :=
  match (d.inp i).amp.seqn with
  | some { kind := .on _, stage := .toStart t } =>
    d.onlyIf (t ≤ d.now) (Dev.setInp i fun x => { x with amp := { x.amp with
      byp := true, pwr := true, pwrAt := d.now, times := (d.propN (P.xampInrush i), d.propN (P.xampSettle i))
      inrushOver := d.propN (P.xampInrush i) == 0, settled := false, ocRun := 0, openRun := 0, okRun := 0
      seqn := x.amp.seqn.map fun q => { q with stage := .settling } } })
  | some { kind := .bypassChange b, stage := .toStart t } =>
    if t ≤ d.now then ((d.setInp i fun x => { x with amp.byp := b }).noteGain i).seqDone i 0 else d
  | some { kind := .off, stage := .toStart t } =>
    d.onlyIf (t ≤ d.now) fun d => (d.setInp i fun x => { x with amp := { x.amp with
      byp := true, seqn := some { kind := .off, stage := .offDelay d.now } } }).noteGain i
  | some { kind := .on b, stage := .toFinish t } =>
    if t ≤ d.now then ((d.setInp i fun x => { x with amp.byp := b }).noteGain i).seqDone i 0 else d
  | _ => d

/-! ## SYN0 and the L-band converters (R252-R255, R267) -/

/-- Converters on, one bit per input. -/
def Dev.convertersOn (d : Dev) : Nat := maskOf (indicesWhere d.rf.inputs (·.lband.isOn))

/-- SYN0_LOCK_LOST (R281). -/
def Dev.loEvent (state : Nat) (d : Dev) : Dev :=
  d.emit 51 (u8 state ++ u8 d.rf.syn0Attempt ++ u8 d.rf.syn0Lost)

/-- SYN0 starts if it is stopped (R254). -/
def Dev.syn0Start (d : Dev) : Dev :=
  if d.clk.syn0 = 0 then { d with clk.syn0 := 2, rf.syn0Since := d.now, rf.syn0Attempt := 0 } else d

/-- SYN0 stops when no converter is on and no search runs (R254, 10 R286). -/
def Dev.syn0Update (d : Dev) : Dev :=
  if d.convertersOn = 0 && d.cal.syn0Run.isNone then
    { d with clk.syn0 := 0, rf.syn0Attempt := 0, rf.loLost := none, rf.loBack := none }
  else d

/-- The converter of input `i` begins to switch off (R267), unless it does so already: the programmes that depend on it ramp to
mute. -/
def Dev.lbandOff (i : Nat) (d : Dev) : Dev :=
  match (d.inp i).lband with
  | .switchingOff _ | .off => d
  | _ => (d.setInp i fun x => { x with lband := .switchingOff (boundaryAt (d.now + msec 5)) }).audioSync

/-- SYN0_LOCK (R254, R255): a lock after a start, or a re-acquisition; where segments n.3 delivered zeros they carry signal from
the next Round boundary. -/
def execSyn0Lock (dt : Nat) (s : State) : Host.Outcome State Fault Refusal :=
  s.runIf dt (fun d => d.active && d.clk.syn0 == 2) fun d =>
    let e := { d with clk.syn0 := 1, rf.loBack := d.rf.loLost.map fun _ => d.nextBoundary }
    if d.rf.syn0Attempt = 0 then e else { e.loEvent 1 with rf.syn0Attempt := 0 }

/-- A pair of SYN0 searches disagrees (10 R286, R289): the next pair, or CAL_DONE with CAL_DISAGREE after four. -/
def Dev.syn0Disagree (d : Dev) : Dev :=
  match d.cal.syn0Run with
  | none => d
  | some r =>
    let n := 2 * (r.searches / 2) + 2
    if n < 8 then { d with cal.syn0Run := some { r with searches := n } }
    else ({ d with cal.syn0Run := none, cal.syn0Used := d.cal.syn0.isSome }.syn0Update).emit 44
      (u8 4 ++ u8 0x41 ++ u8 4 ++ ub r.startup ++ u16 0 ++ u16 0x8000)

/-- The visits under way of the segments that satisfy `p` cannot be complete (11 R312). -/
def Dev.spoilVisits (p : Nat → Bool) (d : Dev) : Dev :=
  { d with
    survey.runs := d.survey.runs.map fun r => if p r.seg && d.now < r.start + 2 * roundTicks then { r with spoiled := true } else r }

/-- SYN0_LOCK_LOSS (R255): a search in progress counts a disagreeing pair (10 R289); with a converter on, segments n.3 deliver
zeros from the next Round boundary and SYN0 re-acquires. -/
def execSyn0LockLoss (dt : Nat) (s : State) : Host.Outcome State Fault Refusal :=
  s.runIf dt (fun d => d.active && d.clk.syn0 == 1) fun d0 =>
    let d := d0.onlyIf d0.cal.syn0Run.isSome Dev.syn0Disagree
    if d.convertersOn = 0 then d
    else
      let e := { d.spoilVisits (· % 4 == 3) with clk.syn0 := 2, rf.syn0Attempt := 0, rf.syn0Lost := d.convertersOn }
      { e.loEvent 0 with
        rf.syn0Attempt := 1, rf.syn0Since := d.now, rf.loBack := none
        rf.loLost := some (match d.rf.loLost with | some b => min b d.nextBoundary | none => d.nextBoundary) }

/-- SYN0_REACQUIRE_TIMEOUT (R255): an attempt of 500 µs, 16,384 REFCLK cycles, has failed; the third failed one switches every
converter off. -/
def execSyn0ReacquireTimeout (dt : Nat) (s : State) : Host.Outcome State Fault Refusal :=
  s.runIf dt (fun d => d.active && d.clk.syn0 == 2 && d.rf.syn0Attempt != 0 && d.sinceRef d.rf.syn0Since 16384) fun d =>
    if d.rf.syn0Attempt < 3 then { d with rf.syn0Attempt := d.rf.syn0Attempt + 1, rf.syn0Since := d.now }
    else
      let e := forAll (bitsOf 4 d.convertersOn) Dev.lbandOff d
      { e.loEvent 2 with clk.syn0 := 0, rf.syn0Attempt := 0 }

/-! ## Commands -/

/-- The input of a system-wide input command: unfitted, out of range. -/
def Dev.inputUnfitted (d : Dev) (i : Nat) : Bool := d.nInputs ≤ i && i ≤ 3

/-- Values held for an input are valid (10 R292): of this device, and within 15 °C. -/
def Dev.calValid (d : Dev) (i : Nat) (tAvg : Int) : Bool :=
  match d.cal.vals.getD i none with
  | some v => v.uid == padTo 8 (d.sec.fuseRead.take 8) && decide ((tAvg - v.tCal).natAbs ≤ 120)
  | none => false

/-- A start-up calibration of input `i` (10 R283; 03 R84, R88): kept values that fail are discarded, and SYN0 is searched
within the first start-up run since reset unless codes were restored. -/
def Dev.calStartup (i : Nat) (d : Dev) : Dev :=
  let b := d.nextBoundary
  let run : CalRun := { input := i, startup := true, start := b, gains := ((d.inp i).g, (d.inp i).lbg) }
  let e := { (d.setInp i fun x => { x with mode := .calibrating }) with
    cal.vals := d.cal.vals.set i none, cal.runs := d.cal.runs ++ [run] }
  if !d.cal.syn0Used && d.cal.syn0Run.isNone then { e with cal.syn0Run := some { startup := true, start := b } } else e

/-- FE_INPUT (R264, R266, R274) (DEDUCED log 46). -/
def feInputBody (tAvg : Int) : Body := fun q d =>
  let i := q.p8 0
  let on := q.p8 1 == 1
  let x := d.inp i
  checked d [(q.len != 4, .badLength), (d.inputUnfitted i, .notFitted),
    (q.badHeader || 3 < i || 1 < q.p8 1 || !zeroAt q.params 2 2, .badParam), (q.notSystem d, .notOwner),
    (d.inWatch, .wrongState),
    (x.mode == .starting || x.mode == .calibrating || x.offDue.isSome || d.cal.runs.any (·.input == i), .busy)] <|
    if on then
      if x.mode == .live then okWith (u64 0) d
      else
        let e := d.setInp i fun x => { x with agcMode := 0, agcNext := none }
        if d.calValid i tAvg then
          let b := boundaryAt (d.now + 2 * roundTicks)
          okWith (u64 b) { e.setInp i fun x => { x with mode := .starting, liveDue := some b } with cal.syn0Used := e.cal.syn0.isSome }
        else deferred (e.calStartup i)
    else if x.mode == .off then okWith (u64 0) d
    else
      let b := boundaryAt (d.now + msec 5)
      okWith (u64 b) (d.setInp i fun x => { x with offDue := some b }).audioSync

/-- The row FE_INPUT, with t_avg as the check takes it (10 R292). -/
def execFeInput (dt : Nat) (tAvg : Int) (s : State) : Host.Outcome State Fault Refusal :=
  s.command dt 0x0201 (feInputBody tAvg)

/-- FE_AGC (R261, R275). -/
def feAgcBody : Body := fun q d =>
  let i := q.p8 0
  let mode := q.p8 1
  let g := q.ps8 2
  let lbg := q.p8 3
  checked d [(q.len != 8, .badLength), (d.inputUnfitted i, .notFitted),
    (q.badHeader || 3 < i || 2 < mode || (mode != 2 && (q.p8 2 != 0 || lbg != 0)) || g < -72 || 48 < g || 30 < lbg
      || !zeroAt q.params 4 4, .badParam),
    (q.notSystem d, .notOwner),
    (d.inWatch || !d.inputLive i || (lbg != 0 && !(d.inp i).lband.isOn), .wrongState)] <|
    okWith q.params (d.setInp i fun x => { x with agcNext := some (mode, g, lbg) })

/-- The row FE_AGC. -/
def execFeAgc (dt : Nat) (s : State) : Host.Outcome State Fault Refusal := s.command dt 0x0202 feAgcBody

/-- An accepted FE_XAMP action that changes something (R271, R276). -/
def Dev.xampStart (i action eep : Nat) (d : Dev) : Dev :=
  let x := (d.inp i).amp
  let b := d.nextBoundary
  let put (k : XampKind) (d : Dev) : Dev :=
    d.setInp i fun y => { y with amp.seqn := some { kind := k, stage := .toStart b } }
  if action = 0 then
    let e := put .off { d with rf.eepQueue := d.rf.eepQueue.erase i }
    e.onlyIf x.seqn.isSome (Dev.seqReport i 2)
  else if x.pwr then put (.bypassChange (action == 2)) d
  else
    (put (.on (action == 2)) d).setInp i fun y => { y with amp := { y.amp with
      lastOn := some (action == 2), retries := 0, eepAddr := eep, eepState := 0, eep := [] } }

/-- FE_XAMP (R276). -/
def feXampBody : Body := fun q d =>
  let i := q.p8 0
  let action := q.p8 1
  let eep := q.p8 2
  let x := (d.inp i).amp
  let holds := if action = 0 then x.faulted || (!x.pwr && x.seqn.isNone)
    else if action = 1 then x.code == 3 else if action = 2 then x.code == 2 else false
  checked d [(q.len != 4, .badLength), (d.inputUnfitted i, .notFitted),
    (q.badHeader || 3 < i || 3 < action || (eep != 0 && (eep < 0x08 || 0x77 < eep || action == 0 || action == 3))
      || !zeroAt q.params 3 1, .badParam),
    (q.notSystem d, .notOwner),
    (d.inWatch || (x.seqn.isNone && (((action == 1 || action == 2) && x.faulted) || (action == 3 && !x.faulted))), .wrongState),
    (action != 0 && x.seqn.isSome, .busy)] <|
    if action = 3 then ok (d.setInp i fun y => { y with amp.faulted := false })
    else if holds then ok d
    else deferred (d.xampStart i action eep)

/-- The row FE_XAMP. -/
def execFeXamp (dt : Nat) (s : State) : Host.Outcome State Fault Refusal := s.command dt 0x0203 feXampBody

/-- state of FE_DIAG. -/
def InputMode.code : InputMode → Nat
  | .off => 0 | .starting => 1 | .calibrating => 2 | .live => 3

/-- The 64 bytes of FE_DIAG (R277). -/
def Dev.diagPayload (d : Dev) (i : Nat) : List Byte :=
  let x := d.inp i
  let a := x.amp
  let lb := if !x.lband.isOn then 0 else if d.rf.syn0Attempt != 0 || d.loIsLost then 2 else 1
  let det (v : Option Int) : List Byte := match v with | some t => s16 t | none => u16 0x8000
  u8 x.mode.code ++ u8 lb ++ u8 x.agcMode ++ s8 x.g ++ u8 (attOf x.g) ++ s8 (lnaOf x.g) ++ u8 x.lbg ++ u8 a.code
    ++ det (if x.mode == .live then x.detMain else none) ++ det (if x.lband.isOn then x.detLb else none)
    ++ u32 x.overloads ++ u32 x.clips ++ u8 a.cls ++ u8 a.retries ++ u16 a.sns ++ u16 (a.snsMin.getD 0)
    ++ u16 (a.snsMax.getD 0) ++ u8 a.eepAddr ++ u8 a.eepState ++ u16 0 ++ padTo 32 a.eep

/-- FE_DIAG (R277). -/
def feDiagBody : Body := fun q d =>
  let i := q.p8 0
  checked d [(q.len != 4, .badLength), (d.inputUnfitted i, .notFitted),
    (q.badHeader || 3 < i || 1 < q.p8 1 || !zeroAt q.params 2 2, .badParam), (q.notSystem d, .notOwner),
    (d.inWatch, .wrongState)] <|
    okWith (d.diagPayload i) <| d.onlyIf (q.p8 1 == 1) <| Dev.setInp i fun x => { x with
      overloads := 0, clips := 0, amp := { x.amp with snsMin := none, snsMax := none } }

/-- The row FE_DIAG. -/
def execFeDiag (dt : Nat) (s : State) : Host.Outcome State Fault Refusal := s.command dt 0x0204 feDiagBody

/-- FE_LBAND (R267, R278). -/
def feLbandBody : Body := fun q d =>
  let i := q.p8 0
  let on := q.p8 1 == 1
  let x := d.inp i
  let calibrating := x.mode == .calibrating || d.cal.runs.any (·.input == i)
  let switching := match x.lband with
    | .switchingOn _ => !on
    | .switchingOff _ => on
    | _ => false
  checked d [(q.len != 4, .badLength), (d.inputUnfitted i, .notFitted),
    (q.badHeader || 3 < i || 1 < q.p8 1 || !zeroAt q.params 2 2, .badParam), (q.notSystem d, .notOwner),
    (d.inWatch || (x.mode != .live && !calibrating), .wrongState),
    (calibrating || d.rf.syn0Attempt != 0 || switching, .busy)] <|
    match x.lband, on with
    | .off, true =>
      let b := boundaryAt (d.now + usec 400)
      okWith (u64 b) (d.setInp i fun x => { x with
        lband := .switchingOn b, lbg := 0, rampLb := true, lowLb := 0, detLb := none }).syn0Start
    | .on, false => okWith (u64 (boundaryAt (d.now + msec 5))) (d.lbandOff i)
    | _, _ => okWith (u64 0) d

/-- The row FE_LBAND. -/
def execFeLband (dt : Nat) (s : State) : Host.Outcome State Fault Refusal := s.command dt 0x0205 feLbandBody

end Sys2Proof.Machine
end

