-- ==== Sys2Proof/Machine/Survey.lean ====
section
/-!
DEFINITION. Survey (chapter 11): its spectra, cycles and visits (R310-R318), and the commands SURVEY_CFG and SURVEY_READ.
-/
namespace Sys2Proof.Machine

/-- Ticks of a Survey cycle (R311). -/
def cycleTicks : Nat := 32 * roundTicks
/-- Start of the next Survey cycle. -/
def Dev.nextCycle (d : Dev) : Nat := (d.now / cycleTicks + 1) * cycleTicks
/-- Segment `n` of Survey. -/
def Dev.sseg (d : Dev) (n : Nat) : SurveySeg := d.survey.segs.getD n {}
/-- Change segment `n`. -/
def Dev.setSseg (n : Nat) (f : SurveySeg → SurveySeg) (d : Dev) : Dev := { d with survey.segs := upd d.survey.segs n f }

/-- The segment can feed a complete visit now (R312): live, no calibration hold, SYN0 not lost. -/
def Dev.visitable (d : Dev) (n : Nat) : Bool :=
  n / 4 < d.nInputs && d.segLive n && !d.calHolds (n / 4) && !(n % 4 == 3 && d.loIsLost)

/-- A Round boundary for Survey (R311, R312): a visit begins with E of its segment, the one before it being kept until its end is
handled; a segment that cannot feed one of its Rounds has no complete visit. -/
def Dev.surveyRound (d : Dev) : Dev :=
  let k := d.round % 32 / 2
  if d.round % 2 = 0 then
    { d with survey.runs := { seg := k, start := d.now, exp := d.firstExp k, spoiled := !d.visitable k }
                            :: d.survey.runs.filter fun r => r.start + 2 * roundTicks == d.now }
  else if d.visitable k then d else d.spoilVisits fun _ => true

/-- Samples of segment `n` that left its down-converter in the window that ends now join the visit under way; `clips` says that an
ADC sample of its path clipped (R311, R312). -/
def Dev.surveyTakes (n : Nat) (l : List SegSample) (clips : Bool) (d : Dev) : Dev :=
  { d with survey.runs := d.survey.runs.map fun r =>
      if r.seg == n && r.start < d.now && d.now ≤ r.start + 2 * roundTicks
      then { r with samples := r.samples ++ l, clipped := r.clipped || clips } else r }

/-! ## Spectrum and levels (R310-R315) -/

/-- The Blackman-Harris window w[m] in units of 10^-5 · 2^-48 (R310). -/
def surveyWindow (m : Nat) : Int :=
  let c (k : Nat) : Int := (trigFix (k * m % 4096 * 2 ^ 20)).1
  35875 * 2 ^ 48 - 48829 * c 1 + 14128 * c 2 - 1168 * c 3
/-- X_b of one frame in units of 2^-103 · 10^-5: the samples at their values of R305, in units of 2^-7 (R310). -/
def surveyBin (b : Int) (frame : List SegSample) : Cx :=
  dftBin 4096 (b % 4096).toNat ((indexed frame).map fun s => (s.2.m.scale (2 ^ (s.2.e + 7).toNat)).scale (surveyWindow s.1))
/-- Σ |X_b|² over the 8 frames of a visit (R311). -/
def surveyPower (samples : List SegSample) (b : Int) : Nat :=
  if samples.all (·.m.isZero) then 0
  else (List.range 8).foldl (fun a f => a + (surveyBin b ((samples.drop (4096 * f)).take 4096)).sq) 0
/-- Eight times the bin power that stands for the level `ref` of R313, in the same units. -/
def surveyRef : Nat := 8 * (4096 * 35875 * 2 ^ 48 * 16384 * 2 ^ 7 * 2 ^ 48) ^ 2
/-- ref + 107 of segment type `n`, dBµV, G_LB being 20 dB (R313, 26 R710). -/
def surveyBase (n : Nat) : Int := if n = 3 then 55 else 81
/-- A level in units of 1/k dB, by one of the roundings of Numeric; no level is given for no power (DESIGN CHOICE log 132). -/
def visitLevel (round : Nat → Nat → Nat → Int) (k : Nat) (base : Int) (num den : Nat) : Int :=
  if num = 0 then Config.levelOfNothing else round k num den + k * base

/-- Bin centre at the ball, kHz (R310). -/
def binCentre (n : Nat) (b : Int) : Int := (centreOf n : Int) + 32 * b
/-- Power of a channel of centre `f` and width `w`, kHz, as a ratio to that of R313 (R314): the nearest bin, the lower one of two, or
the sum of its bins over the noise bandwidth of the window. -/
def channelPower (n f w : Nat) (bins : List (Int × Nat)) : Nat × Nat :=
  let off (b : Int × Nat) : Nat := (binCentre n b.1 - (f : Int)).natAbs
  if w < 64 then (((minBy off bins).map (·.2)).getD 0, surveyRef)
  else (10000 * ((bins.filter fun b => 2 * off b ≤ w).map (·.2)).sum, 20044 * surveyRef)

/-- The stored values of the segments that satisfy `p` are discarded (R315, R316). -/
def Dev.surveyDrop (p : Nat → Bool) (d : Dev) : Dev :=
  { d with survey.segs := (indexed d.survey.segs).map fun (n, x) => if p n then { x with visit := none, peak := none } else x }

/-- Peak of a visit, 0.1 dBFS rounded up, so that a comparison with whole tenths is exact (R315): from its strongest bin. -/
def Dev.peakOf (d : Dev) (n top : Nat) : Int :=
  let x := d.inp (n / 4)
  visitLevel dbCeil 10 (surveyBase (n % 4) - 107) top surveyRef + (if n % 4 = 3 then 200 + 10 * (x.lbg : Int) else 5 * x.g) + 20

/-- The channels at or above the feed threshold, each with its level byte (R318): the level rounded down to 0.1 dB decides. -/
def surveyOffers (n : Nat) (t : SegTable) (powers : List (Nat × Nat)) : List FbOffer :=
  if !t.feed then []
  else ((indexed powers).filter fun x => decide (t.fbMin ≤ visitLevel dbFloor 10 (surveyBase (n % 4)) x.2.1 x.2.2)).map fun (c, p) =>
    { std := t.std, freq := t.start + c * t.step, input := some (n / 4), source := 0
      level := some (max 0 (min 255 (visitLevel dbNear 2 (surveyBase (n % 4)) p.1 p.2 + 40))).toNat }

/-- The end of a complete visit (R313-R318). -/
def Dev.visitEnd (r : VisitRun) (d : Dev) : Dev :=
  let n := r.seg
  let t := (d.sseg n).table
  let base := surveyBase (n % 4)
  let bins := (List.range (binCount (n % 4))).map fun i =>
    let b := (binsOf (n % 4)).1 + i
    (b, surveyPower r.samples b)
  let chans := (List.range t.count).map fun c => channelPower (n % 4) (t.start + c * t.step) t.width bins
  let v : Visit := {
    time := r.start, exp := r.exp, flags := bit r.clipped + 2 * bit (r.samples.any (·.sat))
    bins := bins.map fun b => visitLevel dbNear 10 base b.2 surveyRef
    chans := if t.count = 0 then none else some (chans.map fun p => visitLevel dbNear 10 base p.1 p.2) }
  let e := d.setSseg n fun x => { x with visit := some v, peak := some (d.peakOf n ((bins.map (·.2)).foldl max 0)) }
  (surveyOffers n t chans).foldl (fun e o => e.offer o) { e with
    survey.complete := e.survey.complete ||| (1 <<< n)
    survey.clipped := if r.clipped then e.survey.clipped ||| (1 <<< n) else e.survey.clipped }

/-- A visit of segment `n` ends now. -/
def VisitRun.endsAt (now n : Nat) (r : VisitRun) : Bool := r.seg == n && r.start + 2 * roundTicks == now

/-- SURVEY_VISIT_END (R311, R312): visit `seg` has covered Rounds 2·seg and 2·seg + 1 of the cycle; where it is complete its
spectrum counts. -/
def execSurveyVisitEnd (dt seg : Nat) (s : State) : Host.Outcome State Fault Refusal :=
  s.runIf dt Dev.active fun d => match d.survey.runs.find? (VisitRun.endsAt d.now seg) with
    | some r =>
      let e := { d with survey.runs := d.survey.runs.filter fun x => !x.endsAt d.now seg }
      if r.spoiled then e else e.visitEnd r
    | none => d

/-- SURVEY_CYCLE_BOUNDARY (R317, R321): the cycle that ends is reported, then tables and the event period take effect. -/
def Dev.cycleBegin (d : Dev) : Dev :=
  let x := d.survey
  let ended := x.began.isSome
  let n := x.evtCount + bit ended
  let due := ended && x.evtN != 0 && n % x.evtN == 0
  let d1 := if due then
      { d.emit 47 (u32 x.cycles ++ u16 x.complete ++ u16 x.clipped ++ u16 x.refused) with survey.refused := 0 }
    else d
  let period := d.propN P.surveyEvtCycles
  { d1 with
    survey.cycles := (x.cycles + 1) % 2 ^ 32, survey.began := some d.now, survey.complete := 0, survey.clipped := 0
    survey.evtN := period, survey.evtCount := if period = x.evtN then n else 0
    survey.segs := d1.survey.segs.map fun y => match y.next with
      | some t => { y with table := t, next := none, visit := y.visit.map fun v => { v with chans := none } }
      | none => y }

/-- The row SURVEY_CYCLE_BOUNDARY. -/
def execSurveyCycleBoundary (dt : Nat) (s : State) : Host.Outcome State Fault Refusal :=
  s.runIf dt (fun d => d.active && d.now % cycleTicks == 0 && d.survey.began != some d.now) Dev.cycleBegin

/-! ## Commands -/

/-- A channel lies outside the useful band, edges included. -/
def SegTable.outside (t : SegTable) (n : Nat) : Bool :=
  let (lo, hi) := bandOf n
  let bad (c : Nat) : Bool := 2 * (t.start + c * t.step) < 2 * lo + t.width || 2 * hi < 2 * (t.start + c * t.step) + t.width
  t.count != 0 && (bad 0 || bad (t.count - 1))

/-- SURVEY_CFG (R319). -/
def surveyCfgBody : Body := fun q d =>
  let seg := q.p8 0
  let t : SegTable := { feed := hasBit (q.p8 1) 0, std := q.p8 2, start := q.p32 4, step := q.p16 8, width := q.p16 10
                        count := q.p16 12, fbMin := q.ps16 14 }
  checked d [(q.len != 16, .badLength), ((seg < 16 && d.nInputs ≤ seg / 4) || d.stdUnfitted t.std, .notFitted),
    (q.badHeader || 15 < seg || 1 < q.p8 1 || 4 < t.std || q.p8 3 != 0 || t.step < 5 || 20000 < t.step || t.width < 5
      || 8000 < t.width || 1024 < t.count || t.fbMin < -200 || 1400 < t.fbMin || !stdSuits t.std (seg % 4) || t.outside (seg % 4)
      || (t.feed && t.count == 0), .badParam),
    (q.notSystem d, .notOwner), (d.inWatch, .wrongState)] <|
    okWith (u64 d.nextCycle) (d.setSseg seg fun x => { x with next := some t })

/-- The row SURVEY_CFG. -/
def execSurveyCfg (dt : Nat) (s : State) : Host.Outcome State Fault Refusal := s.command dt 0x0301 surveyCfgBody

/-- SURVEY_READ (R320). -/
def surveyReadBody : Body := fun q d =>
  let (seg, what, first, count) := (q.p8 0, q.p8 1, q.p16 2, q.p16 4)
  let x := d.sseg seg
  let total := if what = 0 then binCount (seg % 4) else x.table.count
  let lacks := match x.visit with
    | none => true
    | some v => what == 1 && v.chans.isNone
  checked d [(q.len != 8 || count < 1 || 496 < count, .badLength), (seg < 16 && d.nInputs ≤ seg / 4, .notFitted),
    (q.badHeader || 15 < seg || 1 < what || ((what == 0 || x.table.count != 0) && total < first + count)
      || !zeroAt q.params 6 2, .badParam),
    (d.inWatch || (what == 1 && x.table.count == 0) || lacks, .wrongState)] <|
    match x.visit with
    | none => refuse .wrongState d
    | some v =>
      let l := if what = 0 then v.bins else v.chans.getD []
      okWith (u8 seg ++ u8 what ++ u8 v.flags ++ s8 v.exp ++ u64 v.time ++ u16 first ++ u16 count
        ++ ((l.drop first).take count).flatMap s16) d

/-- The row SURVEY_READ. -/
def execSurveyRead (dt : Nat) (s : State) : Host.Outcome State Fault Refusal := s.command dt 0x0302 surveyReadBody

end Sys2Proof.Machine
end

