-- ==== Sys2Proof/Machine/Audio.lean ====
section
/-!
DEFINITION. Audio decoding and outputs (chapter 20): the decoders' frames, programmes and their routes, port groups, the
frame FIFO and its fault frames, slave clocks, start and stop, the IEC 60958 outputs and input, and the chapter's commands.
-/
namespace Sys2Proof.Machine

/-! ## Decoders (R556-R558) -/

/-- The kind has audio: FM_AUDIO, AM_AUDIO, DAB_AUDIO, DRM_AUDIO (R583). -/
def audioKind (k : Nat) : Bool := 1 ≤ k && k ≤ 4

/-- A decoder after one frame: the run of bad frames reaches `limit`, or the second good frame in a row clears "conceal". -/
def DecSt.frame (bad : Bool) (rate limit : Nat) (x : DecSt) : DecSt :=
  if bad then { x with badRun := x.badRun + 1, goodRun := 0, conceal := x.conceal || limit ≤ x.badRun + 1 }
  else { x with badRun := 0, goodRun := x.goodRun + 1, rate := rate, conceal := x.conceal && x.goodRun + 1 < 2 }

/-- Programmes whose source is context `c`. -/
def Dev.progsOf (d : Dev) (c : Nat) : List Nat := indicesWhere d.audio.progs (·.src == some c)

/-- Contexts whose audio enters a programme: sources and partners. -/
def Dev.feedUsers (d : Dev) : List Nat :=
  d.audio.progs.flatMap fun x => x.src.toList ++ (x.blend.map (·.partner)).toList
/-- Change the domain converter of context `c`. -/
def Dev.setFeed (c : Nat) (f : AudioFeed → AudioFeed) (d : Dev) : Dev :=
  { d with audio.feeds := tabSet d.audio.feeds c (f ((tabGet d.audio.feeds c).getD {})) }
/-- The domain converter of context `c`. -/
def Dev.feed (d : Dev) (c : Nat) : AudioFeed := (tabGet d.audio.feeds c).getD {}

/-- What a decoder puts out for a frame (R557, R558): a mono stream in both channels; for the n-th bad frame in a row the last good one's
spectrum with randomised signs, 6 dB × n lower; zeros before the first good one. -/
def DecSt.output (bad : Bool) (layout draw : Nat) (pcm : List (Int × Int)) (x : DecSt) : List (Int × Int) :=
  if !bad then pcm.map fun s => if layout = 0 then (s.1, s.1) else s
  else match x.good with
    | none => pcm.map fun _ => (0, 0)
    | some l =>
      let g (v : Int) : Int := (saturate 24 (openDiv (v * ampOf (-12 * x.badRun)) (2 ^ 24))).1
      (Config.concealed draw l).map fun s => (g s.1, g s.2)

/-- The output of the decoder of context `c` enters the domain converter, where a programme has the context. -/
def Dev.pcmIn (c layout : Nat) (l : List (Int × Int)) (d : Dev) : Dev :=
  d.onlyIf (d.feedUsers.contains c) (Dev.setFeed c (AudioFeed.frame (((d.ctx? c).map (·.dec.rate)).getD 48) d.now (layout == 2) l))

/-- One frame of the audio decoder of context `c` (R558): the first good frame after the dispatch releases the source
(DEDUCED log 58). -/
def Dev.audioFrame (c : Nat) (bad : Bool) (rate layout : Nat) (pcm : List (Int × Int)) (d : Dev) : Dev :=
  let e := d.setCtx c fun x => { x with
    dec := x.dec.frame bad rate (d.propN P.concealMax), released := x.released || !bad }
  let out := ((e.ctx? c).map fun x => x.dec.output bad layout d.draws pcm).getD []
  let e := { e with draws := if bad then e.draws + 1 else e.draws }
  let e := (e.onlyIf (!bad) (Dev.setCtx c fun x => { x with dec := { x.dec with good := some out } })).pcmIn c layout out
  let e := e.onlyIf bad fun e => forAll (e.progsOf c) (fun p e => e.setProg p fun x =>
    { x with badFrames := satAdd 0xFFFF x.badFrames 1 }) e
  e.audioSync

/-- AUDIO_FRAME_DECODED (R556-R558): a frame of a running DAB_AUDIO or DRM_AUDIO context, bad or good, at its source rate in kHz; `pcm`
is what the decoding standard makes of it, `layout` 0 mono, 1 stereo, 2 Layer II dual channel. -/
def execAudioFrameDecoded (dt ctx : Nat) (bad : Bool) (rate layout : Nat) (pcm : List (Int × Int)) (s : State) :
    Host.Outcome State Fault Refusal :=
  s.runIf dt (fun d => d.active && (d.ctx? ctx).any fun x => x.state == .running && x.adec.isSome) (Dev.audioFrame ctx bad rate layout pcm)

/-! ## What has been accepted -/

/-- Programme `p` as its last accepted PROG_ROUTE leaves it: source, ports, slot and flags. -/
def Dev.progRoute (d : Dev) (p : Nat) : Option Nat × Nat × Nat × Nat :=
  let x := d.prog p
  d.audio.acts.foldl (fun r a => match a.2 with
    | .route k src ports slot flags => if k = p then (src, ports, slot, flags) else r
    | _ => r) (x.src, x.ports, x.slot, x.flags)

/-- Leader of port `n` under a configuration (R570). -/
def leaderOf (n : Nat) (c : Option PortCfg) : Nat := match c with
  | some x => if x.group = 0xFF then n else x.group
  | none => n
/-- Leader of port `n` as it runs. -/
def Dev.leader (d : Dev) (n : Nat) : Nat := leaderOf n (d.audio.ports.getD n {}).cfg
/-- Ports of the group led by `l` that run. -/
def Dev.group (d : Dev) (l : Nat) : List Nat :=
  (List.range 4).filter fun n => d.leader n == l && (d.audio.ports.getD n {}).run != .stopped
/-- Configured ports of the group led by `l`, as accepted, with the leader. -/
def Dev.groupAccepted (d : Dev) (l : Nat) : List Nat :=
  (List.range 4).filter fun n => (d.portCfg n).isSome && leaderOf n (d.portCfg n) == l

/-- Slots of a port that a route takes (R583): a pair, or one with the mono flag or on a port of one slot
(DEDUCED log 57). -/
def routeSlots (slot flags : Nat) (c : PortCfg) : List Nat :=
  if hasBit flags 0 || c.slots = 1 then [slot] else [slot, slot + 1]

/-! ## Fault frames and clocks (R570-R574) -/

/-- Change port `n`. -/
def Dev.setPort (n : Nat) (f : PortSt → PortSt) (d : Dev) : Dev := { d with audio.ports := upd d.audio.ports n f }
/-- Port `n`. -/
def Dev.port (d : Dev) (n : Nat) : PortSt := d.audio.ports.getD n {}

/-- Frames a second of a rate code (R120). -/
def rateHz (code : Nat) : Nat := [32000, 44100, 48000, 96000].getD code 48000
/-- Fewer than `k` frame periods of rate code `rate` have passed since `t`. -/
def Dev.withinFrames (d : Dev) (rate k t : Nat) : Bool := (d.now - t) * rateHz rate < k * 1048576000
/-- Rate code of the group led by `l`. -/
def Dev.groupRate (d : Dev) (l : Nat) : Nat := ((d.port l).cfg.map (·.rate)).getD 2

/-- Fault frames of the group led by `l` within the last 1,024 frame periods. -/
def Dev.recentFaults (d : Dev) (l : Nat) : List Nat := (d.port l).faults.filter (d.withinFrames (d.groupRate l) 1024)

/-- PORT_UNDERRUN for each member of a group (R591). -/
def Dev.portUnderrun (l cause : Nat) (d : Dev) : Dev :=
  let x := d.port l
  let n := (d.recentFaults l).length
  (d.group l).foldl (fun d m => d.emit (78 + m) (u8 cause ++ u8 l ++ u16 n ++ u8 x.lastKind)) d

/-- The group led by `l` runs and sends: a master, or a slave with a valid clock; never while PLL_AUD is gated (R576). -/
def Dev.groupSends (d : Dev) (l : Nat) : Bool :=
  (d.port l).run != .stopped && (d.port l).clockOk && d.audClocks

/-- Change every running port of the group led by `l`. -/
def Dev.setGroup (l : Nat) (f : PortSt → PortSt) (d : Dev) : Dev := (d.group l).foldl (fun d m => d.setPort m f) d
/-- The routes on a port ramp to `gain` over 5 ms. -/
def PortSt.rampGate (gain now : Nat) (x : PortSt) : PortSt := { x with gate := rampTo 0 gain 5 now x.gate }

/-- What a fault frame does to a port's FIFO and output (R571): the last frame goes out again; a FIFO that was full keeps its newest 4
frames, and one that ran empty holds none. -/
def PortSt.faultOut (kind : Nat) (x : PortSt) : PortSt :=
  { x with sent := x.sent ++ [x.last], fifo := if kind = 1 then x.fifo.drop (x.fill - 4) else if kind = 0 then [] else x.fifo }

/-- A fault frame of the group led by `l` (R571, R572): 32 within 1,024 frame periods mute its routes. -/
def Dev.faultFrame (l kind : Nat) (d : Dev) : Dev :=
  let e := (d.setGroup l (PortSt.faultOut kind)).setPort l fun x => { x with
    faults := (d.now :: d.recentFaults l).take 1024, lastKind := kind, faultFrames := satAdd 0xFFFF x.faultFrames 1
    outOfStep := x.outOfStep || kind == 3 }
  if 32 ≤ (e.recentFaults l).length && !(e.port l).muted then
    ((e.setPort l fun x => { x with muted := true }).setGroup l (PortSt.rampGate 0 d.now)).portUnderrun l 0
  else e

/-- Port `n` runs as a slave. -/
def Dev.slaveRuns (d : Dev) (n : Nat) : Bool := (d.port n).run != .stopped && (d.port n).cfg.any (·.role == 1)

/-- PORT_FAULT_FRAME: kind 0 underrun, 1 overrun, 2 glitch, 3 out of step; only slave members have the last two (R570, R571). -/
def execPortFaultFrame (dt leader kind : Nat) (s : State) : Host.Outcome State Fault Refusal :=
  s.runIf dt (fun d => d.active && kind ≤ 3 && d.leader leader == leader && d.groupSends leader
      && (kind ≤ 1 || (d.group leader).any d.slaveRuns)) (Dev.faultFrame leader kind)

/-- PORT_GROUP_BACK_IN_STEP (R570): the slave members' frame starts have lain within the limit for `frames` frames, at least 16. -/
def execPortGroupBackInStep (dt leader frames : Nat) (s : State) : Host.Outcome State Fault Refusal :=
  s.runIf dt (fun d => d.active && (d.port leader).outOfStep && 16 ≤ frames) (Dev.setPort leader fun x => { x with outOfStep := false })

/-- PORT_FAULT_CLEAR (R572): 256 consecutive frames without a fault frame. -/
def execPortFaultClear (dt leader : Nat) (s : State) : Host.Outcome State Fault Refusal :=
  s.runIf dt (fun d => d.active && (d.port leader).muted && d.groupSends leader
      && !(d.port leader).faults.any (d.withinFrames (d.groupRate leader) 256)) fun d =>
    ((d.setPort leader fun x => { x with muted := false }).setGroup leader (PortSt.rampGate (2 ^ 24) d.now)).portUnderrun leader 5

/-- PORT_SLAVE_CLOCK_LOST (R573): no FS edge for `gap` thousandths of the expected frame period, 4 periods at least; more than 4 edge
`faults` within 64 frames; or a rate `offset` ppm outside ±2 % over 64 frames. The group's DOUT lines are driven low; told for each
member. -/
def execPortSlaveClockLost (dt port gap faults : Nat) (offset : Int) (s : State) : Host.Outcome State Fault Refusal :=
  s.runIf dt (fun d => d.active && d.slaveRuns port && (d.port port).clockOk
      && (4000 ≤ gap || 4 < faults || !refInRange offset)) fun d =>
    let l := d.leader port
    (d.setGroup l fun x => { x with clockOk := false, clockLost := true, gate := [] }).portUnderrun l 3

/-- PORT_SLAVE_CLOCK_VALID (R573): `frames` consecutive frames, 64 at least, each with a period within `worst` ppm, ±2 % at most, and
with `bclks` BCLK periods, as many as the configuration has. The FIFO is refilled, the routes ramp up, and a restored clock is told for
each member. -/
def execPortSlaveClockValid (dt port frames bclks : Nat) (worst : Int) (s : State) : Host.Outcome State Fault Refusal :=
  s.runIf dt (fun d => d.active && d.slaveRuns port && !(d.port port).clockOk && 64 ≤ frames && refInRange worst
      && (d.port port).cfg.any fun c => bclks == c.slots * c.slotBits) fun d =>
    let l := d.leader port
    let lost := (d.port port).clockLost
    (d.setGroup l fun x => { x.refill.rampGate (2 ^ 24) d.now with clockOk := true, clockLost := false }).onlyIf lost (Dev.portUnderrun l 5)

/-! ## Start and stop (R575, R577) -/

/-- Port `n` starts at this boundary with a FIFO of 4 frames of zeros, and the routes of a master ramp up (R575); those of a slave do
once its clock is valid. -/
def Dev.startPort (n : Nat) (d : Dev) : Dev :=
  d.setPort n fun x => if x.run != .stopped then x else
    let master := x.cfg.any (·.role == 0)
    { x with
      run := .running, fifo := x.zeroFrames 4, pend := [], sent := [], last := [], faults := [], faultFrames := 0, saturations := 0
      lastKind := 0, muted := false, outOfStep := false, clockOk := master, clockLost := false
      gate := if master then rampTo 0 (2 ^ 24) 5 d.now [] else [] }

/-- P.SPDOn_CS of output `n`. -/
def Dev.spdoCs (d : Dev) (n : Nat) : Nat := d.propN (if n = 0 then P.spdo0Cs else P.spdo1Cs)

/-- Change SPDO output `n`. -/
def Dev.setSpdo (n : Nat) (f : SpdoSt → SpdoSt) (d : Dev) : Dev := { d with audio.spdo := upd d.audio.spdo n f }

/-- SPDO output `n` starts at this boundary with a block start. -/
def Dev.startSpdo (n : Nat) (d : Dev) : Dev :=
  d.setSpdo n fun x => if x.run != .stopped then x else { x with
    run := .running, frames := 0, cs := d.spdoCs n, pend := [], sent := [], user := [], userAt := 0
    gate := rampTo 0 (2 ^ 24) 5 d.now [] }

/-- Running to stopping. -/
def RunState.stop (now : Nat) : RunState → RunState
  | .running => .stopping now
  | r => r

/-- The stop ramp of output `n` begins. -/
def Dev.stopOut (n : Nat) (d : Dev) : Dev :=
  if n < 4 then d.setPort n fun x => { x.rampGate 0 d.now with run := x.run.stop d.now }
  else d.setSpdo (n - 4) fun x => { x with run := x.run.stop d.now, gate := rampTo 0 0 5 d.now x.gate }

/-- A stopped port. -/
def PortSt.halted (x : PortSt) : PortSt :=
  { x with run := .stopped, fifo := [], pend := [], sent := [], last := [], gate := [], clockOk := false, clockLost := false, muted := false
           outOfStep := false }
/-- A stopped SPDO output. -/
def SpdoSt.halted (x : SpdoSt) : SpdoSt := { x with run := .stopped, pend := [], sent := [], gate := [], user := [] }

/-- PORT_STOP_COMPLETE (R575, R577): after the 5 ms ramp and the frame in progress the output is driven low. -/
def execPortStopComplete (dt output : Nat) (s : State) : Host.Outcome State Fault Refusal :=
  s.runIf dt (fun d => d.active && output < 6 &&
      (match (if output < 4 then (d.port output).run else (d.audio.spdo.getD (output - 4) {}).run) with
        | .stopping t => t + msec 5 ≤ d.now
        | _ => false)) fun d =>
    if output < 4 then d.setPort output PortSt.halted else d.setSpdo (output - 4) SpdoSt.halted

/-- Entry into WATCH stops every port and IEC 60958 output (03 R89). -/
def Dev.stopAllOutputs (d : Dev) : Dev :=
  { d with
    audio.ports := d.audio.ports.map PortSt.halted
    audio.spdo := d.audio.spdo.map SpdoSt.halted
    audio.acts := d.audio.acts.filter fun a => match a.2 with
      | .run _ _ => false
      | _ => true }

/-! ## At a Round boundary -/

/-- Port configurations that apply at this boundary (R584): a master's BCLK and FS are driven low. -/
def Dev.applyPortCfgs (d : Dev) : Dev :=
  { d with audio.ports := d.audio.ports.map fun x => match x.next with
      | some c => { x with cfg := some c, next := none, drivesLow := c.role == 0 }
      | none => x }

/-- BLEND_DONE (R591). -/
def Dev.blendDone (p result from_ target : Nat) (lag : Int) (d : Dev) : Dev :=
  d.emit 83 (u8 p ++ u8 result ++ u8 from_ ++ u8 target ++ s32 lag)

/-- A manual blend of programme `p` in progress ends without a fade (R567). -/
def Dev.dropBlend (p result : Nat) (d : Dev) : Dev :=
  let x := d.prog p
  match x.blend with
  | some b =>
    let e := d.setProg p fun x => { x with blend := none, fading := none }
    e.onlyIf b.manual (Dev.blendDone p result (x.src.getD 0xFF) b.partner (b.lag.getD 0))
  | none => d

/-- Routes of programme `p` as PROG_ROUTE leaves them (R583): one that is removed ramps down over 5 ms, one that is added ramps up. -/
def Dev.routesTo (p ports slot flags : Nat) (d : Dev) : Dev :=
  let kept (x : RouteSt) : Bool := x.prog == p && hasBit ports x.out && x.slot == slot && x.flags == flags
  let (here, others) := d.audio.routes.partition fun x => kept x
  let down := others.map fun x => if x.prog = p then { x with gain := rampTo 0 0 5 d.now x.gain } else x
  let up := (bitsOf 6 ports).map fun n =>
    let old := (here.find? (·.out == n)).map (·.gain)
    ({ prog := p, out := n, slot := slot, flags := flags, gain := rampTo 0 (2 ^ 24) 5 d.now (old.getD []) } : RouteSt)
  { d with audio.routes := down ++ up }

/-- A route applied (R583): another source starts its own count, and ends a blend in progress. -/
def Dev.applyRoute (p : Nat) (src : Option Nat) (ports slot flags : Nat) (d : Dev) : Dev :=
  let e := d.onlyIf ((d.prog p).src != src) (Dev.dropBlend p 5)
  let e := e.setProg p fun x => { x with
    src := src, ports := ports, slot := slot, flags := flags, badFrames := 0
    asrc := if x.ports = 0 then {} else x.asrc, base := if x.src = src then x.base else 0 }
  e.routesTo p ports slot flags

/-- BLEND_CFG applied (R588, R567, R550): the settings, and the manual blend or cut that it starts; a cut is abandoned where a host
command acts on one of its contexts (`acted`) at this boundary (19 R551). -/
def Dev.applyBlend (acted : List Nat) (p shape fade : Nat) (hold : Bool) (action target : Nat) (d : Dev) : Dev :=
  let e := d.setProg p fun x => { x with shape := shape, fade := fade, hold := hold }
  let src := (e.prog p).src
  if action = 0 then e
  else if src.isNone || !(e.ctxOpen target) || (action == 2 && (acted.contains target || src.any acted.contains)) then e.blendDone p 5 (src.getD 0xFF) target 0
  else
    let b : BlendSt := { partner := target, manual := true, place := (e.stdOf target, e.freqOf target), since := d.now }
    e.setProg p fun x =>
      if action = 1 then { x with blend := some b }
      else { x with
        blend := some b
        fading := some { from_ := src.getD 0xFF, target := target, start := d.now, ends := d.now + msec 10, result := 1, cut := true } }

/-- One accepted command applied. -/
def Dev.applyAud (acted : List Nat) (a : AudAct) (d : Dev) : Dev :=
  match a with
  | .route p src ports slot flags => d.applyRoute p src ports slot flags
  | .level p mute gain =>
    (d.setProg p fun x => { x with gain := gain, level := rampTo (2 ^ 24) (ampOf gain) 5 d.now x.level }).setCause p 0 mute
  | .blend p shape fade hold action target => d.applyBlend acted p shape fade hold action target
  | .run outs on =>
    if on then forAll (bitsOf 2 (outs / 16)) Dev.startSpdo (forAll (bitsOf 4 outs) Dev.startPort d)
    else forAll (bitsOf 6 outs) Dev.stopOut d
  | .spdif n rate text => { d with audio.spdo := upd d.audio.spdo n fun x => { x with rate := some rate, text := text } }

/-- Audio at a Round boundary: configurations, then the accepted commands in index order, MCLK_OUT (R582), and the mute
causes that follow the sources. -/
def Dev.audioRound (acted : List Nat) (d : Dev) : Dev :=
  let due := d.audio.acts.filter (·.1 ≤ d.now)
  let e := ({ d with audio.acts := d.audio.acts.filter (d.now < ·.1) }).applyPortCfgs
  let e := due.foldl (fun e a => e.applyAud acted a.2) e
  ({ e with audio.mclkOut := e.propN P.mclkOut }).audioSync

/-! ## SPDI (R581) -/

/-- The SPDI receiver runs: CLK_AUDIO mode 0x03, or P.SPDI_MON. -/
def Dev.spdiRuns (d : Dev) : Bool := d.clk.audMode == 3 || d.propN P.spdiMon == 1
/-- SPDIF_IN_LOST event (R591). -/
def Dev.spdiEvent (state cause : Nat) (offset : Int) (d : Dev) : Dev := d.emit 82 (u8 state ++ u8 cause ++ s32 offset)

/-- SPDIF_IN_LOST: no preamble for `gap` thousandths of a frame period, 4 periods at least (cause 0); more than 4 biphase `errors` within
64 frames (cause 1); or a rate `offset` ppm outside ±2 % over 64 frames (cause 2). -/
def execSpdifInLost (dt gap errors : Nat) (offset : Int) (s : State) : Host.Outcome State Fault Refusal :=
  s.runIf dt (fun d => d.active && d.spdiRuns && (4000 ≤ gap || 4 < errors || !refInRange offset) && d.audio.spdiLost != some true) fun d =>
    ({ d with audio.spdiLost := some true }).spdiEvent 0 (if 4000 ≤ gap then 0 else if 4 < errors then 1 else 2) offset

/-- SPDIF_IN_VALID: the last `frames` frames, 64 at least, are good; told where it was lost. -/
def execSpdifInValid (dt frames errors : Nat) (offset : Int) (s : State) : Host.Outcome State Fault Refusal :=
  s.runIf dt (fun d => d.active && d.spdiRuns && 64 ≤ frames && errors == 0 && refInRange offset && d.audio.spdiLost != some false) fun d =>
    ({ d with audio.spdiLost := some false }).onlyIf (d.audio.spdiLost == some true)
      (Dev.spdiEvent 1 (Config.spdiValidCause % 256) offset)

/-- The receiver's judgement is dropped once it stops. -/
def Dev.spdiRound (d : Dev) : Dev := if d.spdiRuns then d else { d with audio.spdiLost := none }

/-! ## Commands -/

/-- Accept an audio command for the next boundary. -/
def Dev.audAccept (a : AudAct) (d : Dev) : Dev := { d with audio.acts := d.audio.acts ++ [(d.nextBoundary, a)] }
/-- The next boundary as a reply's payload. -/
def Dev.boundaryReply (d : Dev) : List Byte := u64 d.nextBoundary

/-- A follow group of programme `p` is armed, accepted commands counted (19 R552). -/
def Dev.followArmed (d : Dev) (p : Nat) : Bool :=
  d.follow.acts.foldl (fun r a => if a.prog = p then a.grp.isSome else r) (d.follow.groups.any (·.1 == p))

/-- A route of programme `q` and one of `p` overlap on a port. -/
def Dev.routesClash (d : Dev) (p ports slot flags : Nat) : Bool :=
  (bitsOf 4 ports).any fun n => match d.portCfg n with
    | none => false
    | some c => (List.range 4).any fun k =>
        let (_, ps, sl, fl) := d.progRoute k
        k != p && hasBit ps n && (routeSlots slot flags c).any (routeSlots sl fl c).contains

/-- The named outputs run at different rates. -/
def Dev.ratesDiffer (d : Dev) (ports : Nat) : Bool := match (bitsOf 6 ports).filterMap d.outRate with
  | r :: l => l.any (· != r)
  | [] => false

/-- PROG_ROUTE (R583). -/
def progRouteBody : Body := fun q d =>
  let (p, ports, slot, flags) := (q.p8 0, q.p8 1, q.p8 2, q.p8 3)
  let none_ := q.ctx == 0xFF
  let beyond := (bitsOf 4 ports).any fun n => match d.portCfg n with
    | some c => (routeSlots slot flags c).any (c.slots ≤ ·)
    | none => false
  let used := (List.range 4).any fun k => k != p && (d.progRoute k).1 == some q.ctx
  let bad := match d.ctx? q.ctx with
    | some x => x.closing.isSome || !audioKind x.kind
    | none => true
  checked d [(q.len != 4, .badLength),
    (q.badHeader || 3 < p || 64 ≤ ports || 7 < slot || 8 ≤ flags || flags / 2 == 3 || beyond
      || (none_ && (ports != 0 || slot != 0 || flags != 0)), .badParam),
    (if none_ then q.notSystem d else q.notCtxOwner q.ctx d, .notOwner),
    (d.inWatch || (!none_ && (bad || used)) || d.followArmed p || (bitsOf 6 ports).any (fun n => (d.outRate n).isNone)
      || d.ratesDiffer ports || d.routesClash p ports slot flags, .wrongState)] <|
    okWith d.boundaryReply (d.audAccept (.route p (if none_ then none else some q.ctx) ports slot flags))
/-- The row PROG_ROUTE. -/
def execProgRoute (dt : Nat) (s : State) : Host.Outcome State Fault Refusal := s.command dt 0x0501 progRouteBody

/-- The configuration that PORT_CFG asks for. -/
def Req.portCfg (q : Req) : PortCfg :=
  { role := q.p8 1, format := q.p8 2, rate := q.p8 3, slots := q.p8 4, slotBits := q.p8 5, wordBits := q.p8 6
    group := q.p8 7, flags := q.p8 8 }
/-- A configuration out of the ranges of R568, R569 and R584 for port `n`. -/
def PortCfg.bad (n : Nat) (c : PortCfg) : Bool :=
  1 < c.role || 3 < c.format || 3 < c.rate || c.slots == 0 || 8 < c.slots
    || !(c.slotBits == 16 || c.slotBits == 24 || c.slotBits == 32) || !(c.wordBits == 16 || c.wordBits == 24)
    || c.slotBits < c.wordBits || (c.group != 0xFF && n < c.group) || 4 ≤ c.flags
    || (c.format < 2 && c.slots != 2)
    || (c.role == 0 && (c.slotBits == 24 || [3, 5, 6, 7].contains c.slots))

/-- PORT_CFG (R584). -/
def portCfgBody : Body := fun q d =>
  let n := q.p8 0
  let c := q.portCfg
  let leaders := [leaderOf n (d.portCfg n), leaderOf n (some c)]
  let groupRuns := d.willRun n || (List.range 4).any fun m =>
    leaders.contains (leaderOf m (d.portCfg m)) && d.willRun m
  let short := (List.range 4).any fun k =>
    let (_, ps, sl, fl) := d.progRoute k
    hasBit ps n && (routeSlots sl fl c).any (c.slots ≤ ·)
  checked d [(q.len != 12, .badLength), (q.badHeader || 3 < n || c.bad n || !zeroAt q.params 9 3, .badParam),
    (q.notSystem d, .notOwner),
    (d.inWatch || groupRuns || family441 c.rate != family441 d.clk.audRate
      || (c.role == 0 && d.clk.audMode == 2 && d.clk.refPort == n) || short, .wrongState),
    (d.clk.audPending, .busy)] <|
    ok (d.setPort n fun x => { x with next := some c })
/-- The row PORT_CFG. -/
def execPortCfg (dt : Nat) (s : State) : Host.Outcome State Fault Refusal := s.command dt 0x0502 portCfgBody

/-- The members of a group agree on everything that R570 names. -/
def Dev.groupAgrees (d : Dev) (n : Nat) : Bool :=
  let l := leaderOf n (d.portCfg n)
  match d.portCfg l, d.portCfg n with
  | some a, some b => leaderOf l (some a) == l && { a with group := 0 } == { b with group := 0 }
  | _, _ => false

/-- The stop ramp of output `n` runs. -/
def Dev.outStopping (d : Dev) (n : Nat) : Bool :=
  match (if n < 4 then (d.port n).run else (d.audio.spdo.getD (n - 4) {}).run) with
  | .stopping _ => true
  | _ => false

/-- PORT_RUN (R585) (DEDUCED log 56). -/
def portRunBody : Body := fun q d =>
  let (outs, action) := (q.p8 0, q.p8 1)
  let aps := bitsOf 4 outs
  let part := aps.any fun n => (d.groupAccepted (leaderOf n (d.portCfg n))).any fun m => !hasBit outs m
  let wrong := action == 1 && ((bitsOf 6 outs).any (fun n => match d.outRate n with
      | some r => family441 r != family441 d.clk.audRate
      | none => true) || aps.any fun n => !d.groupAgrees n)
  checked d [(q.len != 4, .badLength),
    (q.badHeader || outs == 0 || 64 ≤ outs || 1 < action || part || !zeroAt q.params 2 2, .badParam),
    (q.notSystem d, .notOwner), (d.inWatch || wrong, .wrongState),
    ((bitsOf 6 outs).any d.outStopping || d.clk.audPending, .busy)] <|
    okWith d.boundaryReply (d.audAccept (.run outs (action == 1)))
/-- The row PORT_RUN. -/
def execPortRun (dt : Nat) (s : State) : Host.Outcome State Fault Refusal := s.command dt 0x0503 portRunBody

/-- SPDIF_CFG (R586). -/
def spdifCfgBody : Body := fun q d =>
  let (n, rate, len) := (q.p8 0, q.p8 1, q.p8 2)
  checked d [(128 < len || q.len != 4 + len, .badLength), (q.badHeader || 1 < n || 3 < rate || q.p8 3 != 0, .badParam),
    (q.notSystem d, .notOwner),
    (d.inWatch || (d.willRun (4 + n) && d.spdoRate n != some rate) || family441 rate != family441 d.clk.audRate,
      .wrongState)] <|
    ok (d.audAccept (.spdif n rate (q.params.drop 4)))
/-- The row SPDIF_CFG. -/
def execSpdifCfg (dt : Nat) (s : State) : Host.Outcome State Fault Refusal := s.command dt 0x0504 spdifCfgBody

/-- PROG_LEVEL (R587). -/
def progLevelBody : Body := fun q d =>
  let gain := q.ps8 2
  checked d [(q.len != 4, .badLength),
    (q.badHeader || 3 < q.p8 0 || 1 < q.p8 1 || gain < -120 || 24 < gain || q.p8 3 != 0, .badParam),
    (q.notSystem d, .notOwner), (d.inWatch, .wrongState)] <|
    ok (d.audAccept (.level (q.p8 0) (q.p8 1 == 1) gain))
/-- The row PROG_LEVEL. -/
def execProgLevel (dt : Nat) (s : State) : Host.Outcome State Fault Refusal := s.command dt 0x0505 progLevelBody

/-- A fade or manual blend of programme `p` is in progress or accepted. -/
def Dev.blendBusy (d : Dev) (p : Nat) : Bool :=
  let x := d.prog p
  x.fading.isSome || x.blend.any (·.manual) || d.audio.acts.any fun a => match a.2 with
    | .blend k _ _ _ action _ => k == p && action != 0
    | _ => false

/-- Context `c` does not suit a blend by this sender: open, foreground, of an audio kind, routed to no programme, owned. -/
def Req.badTarget (q : Req) (c : Nat) (d : Dev) : Bool := match d.ctx? c with
  | some x => !x.fg || !audioKind x.kind || x.closing.isSome || q.src != x.owner
      || (List.range 4).any fun k => (d.progRoute k).1 == some c
  | none => true

/-- One more blend buffer goes beyond the quota (19 R548, 20 R588). -/
def Dev.blendFull (d : Dev) : Bool := decide (d.stagedN P.dsQuotaBlend < d.blendPages + 144)

/-- BLEND_CFG (R588) (DEDUCED log 70). -/
def blendCfgBody : Body := fun q d =>
  let (p, shape, fade, hold, action, target) := (q.p8 0, q.p8 1, q.p16 2, q.p8 4, q.p8 5, q.p8 6)
  checked d [(q.len != 8, .badLength), (target ≤ 127 && d.nCtx ≤ target, .notFitted),
    (q.badHeader || 3 < p || 1 < shape || fade < 20 || 500 < fade || 1 < hold || 2 < action
      || (if action == 0 then target != 0xFF else 127 < target) || q.p8 7 != 0, .badParam),
    (q.notSystem d, .notOwner),
    (d.inWatch || d.followArmed p || (action != 0 && (q.badTarget target d || (d.progRoute p).1.isNone)), .wrongState),
    ((hold == 1 || action == 1) && !d.blendHeld p && d.blendFull, .noPages),
    (d.blendBusy p, .busy)] <|
    let e := d.audAccept (.blend p shape fade (hold == 1) action target)
    if action = 0 then ok e else deferred e
/-- The row BLEND_CFG. -/
def execBlendCfg (dt : Nat) (s : State) : Host.Outcome State Fault Refusal := s.command dt 0x0506 blendCfgBody

/-- The entry of programme `p` in AUDIO_STATUS (R589). -/
def Dev.progEntry (d : Dev) (p : Nat) : List Byte :=
  let x := d.prog p
  let y := x.src.bind d.ctx?
  let state := if x.src.isNone then 0 else if x.fading.isSome then 4 else if x.causes.testBit 1 then 1
    else if x.causes != 0 then 3 else 2
  let decoder := match y with
    | some c => if c.kind ≤ 2 then 0xFE else c.adec.getD 0xFF
    | none => 0xFF
  let rate := match y with
    | some c => if c.kind ≤ 2 then 32 else c.dec.rate
    | none => 0
  u8 p ++ u8 state ++ u8 (x.src.getD 0xFF) ++ u8 ((x.blend.map (·.partner)).getD 0xFF) ++ u8 decoder ++ u8 x.causes
    ++ s8 x.gain ++ u8 rate ++ u16 x.badFrames ++ s16 x.asrc.ratio

/-- The entry of port `n`. -/
def Dev.portEntry (d : Dev) (n : Nat) : List Byte :=
  let x := d.port n
  let y := d.port (d.leader n)
  let state := if x.cfg.isNone then 0 else if x.run = .stopped then 1 else if x.clockLost then 4
    else if !x.clockOk then 2 else if y.muted then 5 else 3
  u8 n ++ u8 state ++ u8 ((x.cfg.map (·.group)).getD 0xFF) ++ u8 y.fill ++ u16 y.faultFrames ++ u16 x.saturations

/-- The entry of SPDO output `n`. -/
def Dev.spdoEntry (d : Dev) (n : Nat) : List Byte :=
  let x := d.audio.spdo.getD n {}
  u8 n ++ ub (x.run != .stopped) ++ u8 (((indicesWhere d.audio.progs fun p => hasBit p.ports (4 + n)).head?).getD 0xFF)
    ++ u8 (x.rate.getD 0)

/-- AUDIO_STATUS (R589). -/
def audioStatusBody : Body := fun q d =>
  checked d [(q.len != 0, .badLength), (q.badHeader, .badParam), (d.inWatch, .wrongState)] <|
    okWith (u64 d.trav.boundary ++ (List.range 4).flatMap d.progEntry ++ (List.range 4).flatMap d.portEntry
      ++ (List.range 2).flatMap d.spdoEntry) d
/-- The row AUDIO_STATUS. -/
def execAudioStatus (dt : Nat) (s : State) : Host.Outcome State Fault Refusal := s.command dt 0x0507 audioStatusBody

end Sys2Proof.Machine
end

