-- ==== Sys2Proof/Machine/Calibration.lean ====
section
/-!
DEFINITION. Calibration and trimming (chapter 10): the passes of a run and their comparison, the searches of SYN0, the
values and the SYN1 channel table, and the commands CAL_RUN, CAL_READ, CAL_WRITE, SYN_TABLE_READ and SYN_TABLE_WRITE.
-/
namespace Sys2Proof.Machine

/-! ## Passes (R282-R285) -/

/-- The gains of two passes lie within 0.05 dB: the ratio to the power 400 is at most 10. -/
def gainAgrees (a b : Nat) : Bool := decide ((max a b) ^ 400 ≤ 10 * (min a b) ^ 400)

/-- Two passes agree (R282): skew within 1 tap, thresholds within 4 steps, offsets within 32, gains within 0.05 dB. -/
def passesAgree (a b : List Byte) : Bool :=
  (List.range 8).all fun k =>
    decide ((((at8 a k % 64 : Nat) : Int) - (at8 b k % 64 : Nat)).natAbs ≤ 1)
      && decide ((atS8 a (8 + k) - atS8 b (8 + k)).natAbs ≤ 4)
      && decide ((atS16 a (16 + 2 * k) - atS16 b (16 + 2 * k)).natAbs ≤ 32)
      && gainAgrees (at16 a (32 + 2 * k)) (at16 b (32 + 2 * k))

/-- Change the run of input `i`. -/
def Dev.setRun (i : Nat) (f : CalRun → CalRun) (d : Dev) : Dev :=
  { d with cal.runs := updWhere d.cal.runs (·.input == i) f }
/-- The run of input `i`. -/
def Dev.calRun (d : Dev) (i : Nat) : Option CalRun := d.cal.runs.find? (·.input == i)

/-- Frequency at the converter, kHz, at which a component of `f` kHz appears. -/
def folded (f : Nat) : Nat := min (f % 1048576) (1048576 - f % 1048576)
/-- What is subtracted before the residue (R282, R285): the tones, their harmonics up to the third, and the interleaving images of
these, kHz. -/
def calComponents : List Nat :=
  let harmonics := [63500, 191500].flatMap fun t => [t, folded (2 * t), folded (3 * t)]
  harmonics ++ harmonics.flatMap fun f => ((List.range 8).drop 1).flatMap fun k => [folded (k * 131072 + f), folded (1048576 + k * 131072 - f)]
/-- Not within ±1 MHz of one of these (R285). -/
def residueAt (f : Nat) : Bool := calComponents.all fun c => c + 1000 < f || f + 1000 < c
/-- The strongest residue component of a pass where it exceeds -30 dBFS (R285): level, 0.1 dBFS, and frequency, kHz. The 1,048,576
codes of a pass of 1 ms resolve 1 kHz (DEDUCED log 133). -/
def residueOf (codes : List Int) : Option (Int × Nat) :=
  let full := (2048 * 2 ^ 19 * 2 ^ 48) ^ 2
  let x : List Cx := codes.map fun v => { re := v }
  if codes.all (· == 0) then none
  else
    let strongest := ((List.range 524289).filter residueAt).foldl (fun (b : Nat × Nat) k =>
      if b.1 < (dftBin 1048576 k x).sq then ((dftBin 1048576 k x).sq, k) else b) (0, 0)
    if full < 1000 * strongest.1 then some (tenthsDb strongest.1 full, strongest.2) else none

/-- What the end of pass `n` decides (R283-R285): rejection, agreement of the pair, disagreement of the fourth pair, or
nothing yet. -/
def CalRun.decide (r : CalRun) (n : Nat) (trims : List Byte) (residue : Option (Int × Nat)) (vals : CalVals) :
    Option CalOutcome :=
  match residue with
  | some (l, f) => some (.rejected n l f)
  | none =>
  if n % 2 = 1 then none
  else if !r.broken && passesAgree r.first trims then some (.agreed (n / 2) vals)
  else if n = 8 then some .disagree else none

/-- The end of a pass of input `i`: the trims that it found and the ADC codes of its 1 ms. -/
def Dev.passEnd (i : Nat) (trims : List Byte) (codes : List Int) (tAvg : Int) (d : Dev) : Dev :=
  match d.calRun i with
  | none => d
  | some r =>
    let n := r.passes + 1
    if !r.began || r.outcome.isSome || 8 < n || d.now < r.start + (2 + 8 * n) * roundTicks then d
    else
      let vals : CalVals := { uid := d.uid, tCal := tAvg, pairs := n / 2, trims := padTo 48 trims, time := d.now }
      let o := r.decide n (padTo 48 trims) (residueOf codes) vals
      d.setRun i fun r => { r with
        passes := n, broken := r.broken && n % 2 == 1, first := if n % 2 = 1 then padTo 48 trims else r.first
        outcome := o.map fun o => (o, r.start + (4 + 8 * n) * roundTicks) }

/-- CAL_PASS_END. -/
def execCalPassEnd (dt input : Nat) (trims : List Byte) (codes : List Int) (tAvg : Int) (s : State) :
    Host.Outcome State Fault Refusal :=
  s.runIf dt Dev.active (Dev.passEnd input trims codes tAvg)

/-- CAL_APPLY_DONE (R283, R284): the trims are written, or the previous ones back, and the gains restored (09 R261); the isolation
switch closes, or stays open until an input that starts goes live (09 R247). -/
def Dev.applyDone (i : Nat) (d : Dev) : Dev :=
  match d.calRun i with
  | none => d
  | some r => match r.outcome with
    | none => d
    | some (o, due) =>
      if d.now < due || r.applied then d
      else
        let e := (d.setRun i fun r => { r with applied := true }).setInp i fun x =>
          { x with g := r.gains.1, lbg := r.gains.2, iso := !r.startup }
        match o with
        | .agreed _ v => { e with cal.vals := e.cal.vals.set i (some v), cal.advised := e.cal.advised.set i false }
        | _ => e

/-- The row CAL_APPLY_DONE. -/
def execCalApplyDone (dt input : Nat) (s : State) : Host.Outcome State Fault Refusal :=
  s.runIf dt Dev.active (Dev.applyDone input)

/-- The event that ends a run of input `i` (R301): `hold` in Rounds, 0 for a start-up run. -/
def Dev.calEvent (r : CalRun) (o : CalOutcome) (d : Dev) : Dev :=
  let hold := if r.startup then 0 else (d.now - r.start) / roundTicks
  let tail (t : Int) : List Byte := ub r.startup ++ u16 hold ++ s16 t
  match o with
  | .agreed p v => d.emit 44 (u8 r.input ++ u8 0 ++ u8 p ++ tail v.tCal)
  | .disagree => d.emit 44 (u8 r.input ++ u8 0x41 ++ u8 4 ++ tail ((d.tCal r.input).getD (-32768)))
  | .rejected n res f => d.emit 45 (u8 r.input ++ u8 n ++ ub r.startup ++ u8 0 ++ s16 res ++ u32 f)

/-! ## SYN0 (R286) -/

/-- SYN0_SEARCH_END: every search takes 0.4 ms; an even one is compared with the one before it. -/
def Dev.searchEnd (band cap : Nat) (tAvg : Int) (d : Dev) : Dev :=
  match d.cal.syn0Run with
  | none => d
  | some r =>
    let n := r.searches + 1
    if !r.began || d.now < r.start + usec (400 * n) then d
    else if n % 2 = 1 then { d with cal.syn0Run := some { r with searches := n, first := (band, cap) } }
    else if band = r.first.1 && cap ≤ r.first.2 + 1 && r.first.2 ≤ cap + 1 then
      ({ d with cal.syn0 := some (band, cap), cal.syn0Used := true, cal.syn0Run := none }.syn0Update).emit 44
        (u8 4 ++ u8 0 ++ u8 (n / 2) ++ ub r.startup ++ u16 0 ++ s16 tAvg)
    else d.syn0Disagree

/-- The row SYN0_SEARCH_END. -/
def execSyn0SearchEnd (dt band cap : Nat) (tAvg : Int) (s : State) : Host.Outcome State Fault Refusal :=
  s.runIf dt Dev.active (Dev.searchEnd band cap tAvg)

/-! ## Temperature (R293) -/

/-- CAL_ADVISED for input `i` once, re-armed at 15 °C. -/
def Dev.adviseInput (tAvg : Int) (i : Nat) (d : Dev) : Dev :=
  match d.inputLive i, d.tCal i with
  | true, some t =>
    let diff := (tAvg - t).natAbs
    let was := d.cal.advised.getD i false
    if 160 ≤ diff && !was then
      ({ d with cal.advised := d.cal.advised.set i true }).emit 46 (u8 i ++ u8 0 ++ s16 t ++ s16 tAvg)
    else if diff ≤ 120 then { d with cal.advised := d.cal.advised.set i false } else d
  | _, _ => d

/-- CAL_TEMPERATURE_CHECK: at every eighth Round boundary. -/
def execCalTemperatureCheck (dt : Nat) (tAvg : Int) (s : State) : Host.Outcome State Fault Refusal :=
  s.runIf dt (fun d => d.active && d.now % (8 * roundTicks) == 0) fun d =>
    forAll (List.range 4) (Dev.adviseInput tAvg) { d with pwr.tAvg := tAvg }

/-! ## SYN1 table (R294, R295) -/

/-- The 12 bytes under an entry's CRC. -/
def syn1Head (freq band cap div : Nat) (tCal : Int) : List Byte :=
  leBytes 3 freq ++ u8 band ++ u8 cap ++ u8 div ++ s16 tCal ++ u32 0

/-- An entry calibrated on this device. -/
def Dev.syn1New (d : Dev) (freq band cap : Nat) (tCal : Int) : Syn1Entry :=
  let div := syn1Setting freq
  { freq := freq, band := band, cap := cap, div := div, tCal := tCal
    crc := crc32 (d.uid ++ syn1Head freq band cap div tCal) }

/-- The 16 bytes of an entry. -/
def Syn1Entry.bytes (e : Syn1Entry) : List Byte := syn1Head e.freq e.band e.cap e.div e.tCal ++ u32 e.crc

/-- The entry is valid at this moment (R295, 22 R612). -/
def Dev.syn1Valid (d : Dev) (e : Syn1Entry) (tAvg : Int) : Bool :=
  !e.invalid && e.crc == crc32 (d.uid ++ syn1Head e.freq e.band e.cap e.div e.tCal) && decide ((tAvg - e.tCal).natAbs ≤ 120)

/-- Place an entry (R295): over the same frequency, in a free place, or over the lowest one not on the watch list. -/
def placeSyn1 (watch : List Nat) (e : Syn1Entry) (t : List Syn1Entry) : Option (List Syn1Entry) :=
  if t.any (·.freq == e.freq) then some (updWhere t (·.freq == e.freq) fun _ => e)
  else if t.length < 16 then some (t ++ [e])
  else match t.findIdx? fun x => !watch.contains x.freq with
    | some i => some (t.set i e)
    | none => none

/-- One channel calibrated for CAL_RUN, or failed (R296, R301). -/
def Dev.syn1RunStep (r : Syn1Run) (okay : Bool) (band cap : Nat) (tAvg : Int) (d : Dev) : Dev :=
  match r.left with
  | [] => { d with cal.syn1Run := none }
  | f :: rest =>
    let placed := if okay then placeSyn1 d.watchChannels (d.syn1New f band cap tAvg) d.cal.syn1 else none
    let r1 := match placed with
      | some _ => { r with left := rest, done := r.done + 1 }
      | none => { r with left := rest, failed := r.failed + 1, fFail := f }
    let e := { d with cal.syn1 := placed.getD d.cal.syn1 }
    if rest.isEmpty then
      ({ e with cal.syn1Run := none }).emit 50 (u8 r1.done ++ u8 r1.failed ++ u8 0 ++ u8 0 ++ u32 r1.fFail)
    else { e with cal.syn1Run := some r1 }

/-! ## Commands -/

/-- CAL_RUN (R283, R296). -/
def calRunBody : Body := fun q d =>
  let t := q.p8 0
  let named := bitsOf 4 t
  let syn0 := hasBit t 4
  let syn1 := hasBit t 5
  let free (i : Nat) : Bool := !d.cal.runs.any (·.input == i)
  let off (i : Nat) : Bool := (d.inp i).mode == .off && free i
  let busy (i : Nat) : Bool := (d.inp i).mode != .live || (d.inp i).offDue.isSome || !free i
  let b := d.nextBoundary
  checked d [(q.len != 4, .badLength), (named.any (d.nInputs ≤ ·), .notFitted),
    (q.badHeader || t == 0 || 64 ≤ t || !zeroAt q.params 1 3, .badParam), (q.notSystem d, .notOwner),
    (d.inWatch || named.any off || (syn0 && d.convertersOn != 0) || (syn1 && d.watchChannels.isEmpty), .wrongState),
    (named.any busy || (syn0 && (d.cal.syn0Run.isSome || d.rf.syn0Attempt != 0)) || (syn1 && d.syn1Busy), .busy)] <|
    let run (i : Nat) : CalRun := { input := i, startup := false, start := b, gains := ((d.inp i).g, (d.inp i).lbg) }
    { status := .deferred, payload := u64 b, dev := { d with
      cal.runs := d.cal.runs ++ named.map run
      cal.syn0Run := if syn0 then some { startup := false, start := b } else d.cal.syn0Run
      cal.syn1Run := if syn1 then some { left := d.watchChannels, start := b } else d.cal.syn1Run } }

/-- The row CAL_RUN. -/
def execCalRun (dt : Nat) (s : State) : Host.Outcome State Fault Refusal := s.command dt 0x0701 calRunBody

/-- The 96-byte record of the values of input `i` (R290, R291). -/
def Dev.calRecord (d : Dev) (i : Nat) (v : CalVals) : List Byte :=
  let syn0 := match d.cal.syn0 with
    | some (b, c) => u8 b ++ u8 c ++ u8 1
    | none => zeros 3
  let body := u8 1 ++ u8 i ++ u16 0 ++ padTo 8 v.uid ++ s16 v.tCal ++ u8 v.pairs ++ u8 0 ++ padTo 48 v.trims ++ syn0
    ++ u8 0 ++ u64 v.time ++ zeros 16
  body ++ u32 (crc32 body)

/-- CAL_READ (R297) (DEDUCED log 28). -/
def calReadBody : Body := fun q d =>
  let i := q.p8 0
  checked d [(q.len != 4, .badLength), (d.inputUnfitted i, .notFitted),
    (q.badHeader || 3 < i || !zeroAt q.params 1 3, .badParam),
    (d.inWatch || (d.cal.vals.getD i none).isNone, .wrongState)] <|
    match d.cal.vals.getD i none with
    | some v => okWith (d.calRecord i v) d
    | none => refuse .wrongState d

/-- The row CAL_READ. -/
def execCalRead (dt : Nat) (s : State) : Host.Outcome State Fault Refusal := s.command dt 0x0702 calReadBody

/-- Result of checking one record (R292, R298): the first of format, CRC, unique ID, temperature that fails. -/
def Dev.recordResult (d : Dev) (r : List Byte) (tAvg : Int) : Nat :=
  if at8 r 0 != 1 then 4
  else if at32 r 92 != crc32 (r.take 92) then 1
  else if slice r 4 8 != d.uid then 2
  else if 120 < (tAvg - atS16 r 12).natAbs then 3 else 0

/-- CAL_WRITE (R291, R298). -/
def calWriteBody (tAvg : Int) : Body := fun q d =>
  let n := q.p8 0
  let recs := entriesOf 96 (q.params.drop 4)
  let ids := recs.map (at8 · 1)
  checked d [(n == 0 || 4 < n || q.len != 4 + 96 * n, .badLength), (ids.any d.inputUnfitted, .notFitted),
    (q.badHeader || !zeroAt q.params 1 3 || ids.any (3 < ·) || hasRepeat ids, .badParam), (q.notSystem d, .notOwner),
    (d.inWatch || ids.any (fun i => (d.inp i).mode != .off), .wrongState)] <|
    let good := recs.filter fun r => d.recordResult r tAvg == 0
    let result (i : Nat) : Nat := match recs.find? (at8 · 1 == i) with
      | some r => d.recordResult r tAvg
      | none => 0xFF
    let put (v : List (Option CalVals)) (r : List Byte) : List (Option CalVals) :=
      v.set (at8 r 1) (some { uid := slice r 4 8, tCal := atS16 r 12, pairs := at8 r 14, trims := slice r 16 48, time := at64 r 68 })
    let donor := if d.cal.syn0Used then none else minBy (at8 · 1) (good.filter (at8 · 66 == 1))
    let e := { d with
      cal.vals := good.foldl put d.cal.vals
      cal.advised := (indexed d.cal.advised).map fun (i, a) => a && !good.any (at8 · 1 == i)
      cal.syn0 := match donor with
        | some r => some (at8 r 64, at8 r 65)
        | none => d.cal.syn0
      cal.syn0Used := d.cal.syn0Used || donor.isSome }
    okWith ((List.range 4).flatMap (fun i => u8 (result i)) ++ ub donor.isSome ++ u8 0 ++ s16 tAvg) e

/-- The row CAL_WRITE. -/
def execCalWrite (dt : Nat) (tAvg : Int) (s : State) : Host.Outcome State Fault Refusal :=
  s.command dt 0x0703 (calWriteBody tAvg)

/-- SYN_TABLE_READ (R299). -/
def synTableReadBody : Body := fun q d =>
  checked d [(q.len != 0, .badLength), (q.badHeader, .badParam), (d.inWatch, .wrongState)] <|
    okWith (u8 d.cal.syn1.length ++ zeros 3 ++ d.cal.syn1.flatMap Syn1Entry.bytes) d

/-- The row SYN_TABLE_READ. -/
def execSynTableRead (dt : Nat) (s : State) : Host.Outcome State Fault Refusal := s.command dt 0x0704 synTableReadBody

/-- The entry that 16 bytes spell. -/
def syn1OfBytes (b : List Byte) : Syn1Entry :=
  { freq := leNat (slice b 0 3), band := at8 b 3, cap := at8 b 4, div := at8 b 5, tCal := atS16 b 6, crc := at32 b 12 }

/-- One entry of SYN_TABLE_WRITE: its result, and the table after it (R295, R300). -/
def Dev.syn1Write (d : Dev) (tAvg : Int) (b : List Byte) (t : List Syn1Entry) : Nat × List Syn1Entry :=
  let e := syn1OfBytes b
  if e.crc != crc32 (d.uid ++ b.take 12) then (1, t)
  else if 120 < (tAvg - e.tCal).natAbs then (3, t)
  else match placeSyn1 d.watchChannels e t with
    | some t1 => (0, t1)
    | none => (5, t)

/-- SYN_TABLE_WRITE (R300). -/
def synTableWriteBody (tAvg : Int) : Body := fun q d =>
  let n := q.p8 0
  let recs := entriesOf 16 (q.params.drop 4)
  checked d [(n == 0 || 16 < n || q.len != 4 + 16 * n, .badLength),
    (q.badHeader || !zeroAt q.params 1 3 || recs.any (fun b => !zeroAt b 8 4), .badParam), (q.notSystem d, .notOwner),
    (d.inWatch, .wrongState), (d.syn1Busy, .busy)] <|
    let (res, t) := recs.foldl (fun (acc : List Nat × List Syn1Entry) b =>
      let (r, t1) := d.syn1Write tAvg b acc.2
      (acc.1 ++ [r], t1)) ([], d.cal.syn1)
    okWith ((List.range 16).flatMap fun i => u8 (res.getD i 0xFF)) { d with cal.syn1 := t }

/-- The row SYN_TABLE_WRITE. -/
def execSynTableWrite (dt : Nat) (tAvg : Int) (s : State) : Host.Outcome State Fault Refusal :=
  s.command dt 0x0705 (synTableWriteBody tAvg)

end Sys2Proof.Machine
end

