-- ==== Sys2Proof/Machine/Follow.lean ====
section
/-!
DEFINITION. Service Following (19 R541-R555) and blending (20 R566, R567): candidates and scores, preparing a partner, its
alignment and the delay of the blend buffer, switches, cuts and what happens during a fade, and the commands FOLLOW_CFG and
FOLLOW_STATUS.
-/
namespace Sys2Proof.Machine

/-! ## The delay of the blend buffer (R548, R549) -/

/-- One sample of δ in the units of `ProgSt.delta`. -/
def deltaUnit : Nat := 65536000000

/-- Where δ goes at present: up to an aligned partner's λ, down to 0 while no partner is ready, or nowhere. -/
inductive DeltaGoal where
  | up (top : Nat)
  | down
  | stay
deriving DecidableEq, Repr

/-- The goal of programme state `x`. -/
def ProgSt.goal (x : ProgSt) : DeltaGoal :=
  if x.fading.isSome then .stay
  else match x.blend with
    | some b =>
      if b.ready then .stay
      else match b.lag with
        | some l => if b.mismatched then .down else if x.delta < l.toNat * deltaUnit then .up (l.toNat * deltaUnit) else .stay
        | none => .down
    | none => .down

/-- δ now: P.FOLLOW_SLEW ppm of a sample for each 48 kHz sample, 3 units per ppm and tick. -/
def Dev.deltaNow (d : Dev) (p : Nat) : Nat :=
  let x := d.prog p
  let move := 3 * d.propN P.followSlew * (d.now - x.deltaAt)
  match x.goal with
  | .up top => min top (x.delta + move)
  | .down => x.delta - move
  | .stay => x.delta

/-- δ is taken as it stands now, before what moves it changes. -/
def Dev.rebase (p : Nat) (d : Dev) : Dev :=
  let v := d.deltaNow p
  d.setProg p fun x => { x with
    delta := v, deltaAt := d.now, deltaWas := if x.deltaAt = d.now then x.deltaWas else (x.delta, x.deltaAt) }
/-- Every programme's δ is taken as it stands now. -/
def Dev.rebaseAll (d : Dev) : Dev := forAll (List.range 4) Dev.rebase d

/-! ## Groups -/

/-- Follow group of programme `p`. -/
def Dev.grp? (d : Dev) (p : Nat) : Option FollowGrp := tabGet d.follow.groups p
/-- Change the follow group of programme `p` where it is armed. -/
def Dev.setGrp (p : Nat) (f : FollowGrp → FollowGrp) (d : Dev) : Dev :=
  { d with follow.groups := tabMod d.follow.groups p f }
/-- Change the partner's state of programme `p`. -/
def Dev.setBlend (p : Nat) (f : BlendSt → BlendSt) (d : Dev) : Dev := d.setProg p fun x => { x with blend := x.blend.map f }

/-- The identifier of context `c` (R541): confirmed PI, selected SId or DRM service. -/
def Dev.followedId (d : Dev) (c : Nat) : Option Nat :=
  match d.stdOf c with
  | 0 => if (d.rds c).piState = 1 then some (d.rds c).conf else none
  | 2 => (d.dab c).sel.bind fun s => if s.sid = 0 then none else some s.sid
  | 3 => (d.drm c).sel.bind fun s => if s.1 = 0 then none else some s.1
  | 4 => (d.drm c).sel.bind fun s => if s.1 = 0 then none else some s.1
  | _ => none

/-- Minutes since 1 March 2000 as entity 8 of a DRM context last gave them, 0 none. -/
def Dev.entityTime (d : Dev) : Nat := ((d.dem.drm.map (·.2.utc)).find? (· != 0)).getD 0

/-- The schedule word of an entry (R526): day mask, start, duration, valid. -/
def FbEntry.schedule (e : FbEntry) : Nat := leNat ((e.detail.drop 4).map (BitVec.ofNat 8))

/-- Minute `t` lies inside schedule word `w`: 1 March 2000 was a Wednesday; a duration may run past midnight. -/
def inSchedule (w t : Nat) : Bool :=
  let day := (t / 1440 + 2) % 7
  let (start, len, m) := (w / 2 ^ 7 % 2 ^ 11, w / 2 ^ 18 % 2 ^ 11, t % 1440)
  (hasBit w day && start ≤ m && m < start + len) || (hasBit w ((day + 6) % 7) && m + 1440 < start + len)

/-- A DRM entry with a valid schedule is a candidate only inside it (R541). -/
def Dev.scheduled (d : Dev) (e : FbEntry) : Bool :=
  let w := e.schedule
  !(e.std == 3 || e.std == 4) || !hasBit w 31 || (d.entityTime != 0 && inSchedule w d.entityTime)

/-- Candidates of a group, each with its handle and entry (R541). -/
def Dev.candidates (d : Dev) (g : FollowGrp) : List (Nat × FbEntry) :=
  match d.followedId g.onAir with
  | none => []
  | some i =>
    let here := (d.stdOf g.onAir, d.freqOf g.onAir)
    (d.versions i g.link g.regional).filterMap fun h => match d.fbe h with
      | some e => if (e.std, e.freq) != here && d.scheduled e then some (h, e) else none
      | none => none

/-- Bias of a standard (R544). -/
def Dev.bias (d : Dev) (std : Nat) : Nat := d.propN P.followBias / 16 ^ std % 16
/-- Score of an entry by its checked class (R544). -/
def Dev.entryScore (d : Dev) (e : FbEntry) : Nat :=
  if e.stale then 0 else (if e.checked then e.cls else 0) + d.bias e.std
/-- Score of a running context by its live metrics over the evaluation period (R544). -/
def Dev.liveScore (d : Dev) (c : Nat) : Nat :=
  let m := (tabGet d.dem.live c).getD {}
  qualityClass (d.stdOf c) m.n m.q + d.bias (d.stdOf c)

/-- Order of candidates (R542): the followed identifier first, then score, level and handle. -/
def Dev.checkOrder (d : Dev) (i : Nat) (x : Nat × FbEntry) : List Nat :=
  [if x.2.id = i then 0 else 1, desc (d.entryScore x.2), desc x.2.level, x.1]
/-- Order of the best candidate (R545): by score first. -/
def Dev.bestOrder (d : Dev) (i : Nat) (x : Nat × FbEntry) : List Nat :=
  [desc (d.entryScore x.2), if x.2.id = i then 0 else 1, desc x.2.level, x.1]

/-- A partner of the group that takes a standard: not on air, `prefer` first. -/
def Dev.partnerFor (d : Dev) (g : FollowGrp) (prefer : Option Nat) (std : Nat) : Option Nat :=
  ((prefer.toList ++ g.set).filter fun c => c != g.onAir && !d.ctxBusy c).find? fun c =>
    kindTakes (((d.ctx? c).map (·.kind)).getD 0) std

/-- The best candidate that some partner takes, other than the one prepared. -/
def Dev.bestCandidate (d : Dev) (g : FollowGrp) : Option (Nat × FbEntry) :=
  let i := (d.followedId g.onAir).getD 0
  let ok := (d.candidates g).filter fun x => some x.1 != g.handle && (d.partnerFor g none x.2.std).isSome
  (sortBy (d.bestOrder i) ok).head?

/-! ## Events (R555) -/

/-- FOLLOW_CANDIDATE for the partner of programme `p`. -/
def Dev.followCandidate (p result ctx : Nat) (d : Dev) : Dev :=
  let g := d.grp? p
  let b := (d.prog p).blend
  let h := g.bind (·.handle)
  let e := h.bind d.fbe
  let (std, freq) := match b with | some b => b.place | none => ((e.map (·.std)).getD 0, (e.map (·.freq)).getD 0)
  d.emit 68 (u8 p ++ u8 result ++ u8 ctx ++ u8 std ++ u16 (h.getD 0xFFFF) ++ u8 ((e.map d.entryScore).getD 0) ++ u8 0
    ++ u32 freq ++ s32 ((b.bind (·.lag)).getD 0))

/-- FOLLOW_SWITCH of programme `p`. -/
def Dev.followSwitch (p result from_ target : Nat) (d : Dev) : Dev :=
  match d.grp? p with
  | none => d
  | some g => d.emit 67 (u8 p ++ u8 result ++ u8 from_ ++ u8 target ++ u16 (g.handle.getD 0xFFFF) ++ u8 g.sAir ++ u8 g.sPartner
      ++ s32 (((d.prog p).blend.bind (·.lag)).getD 0) ++ u32 (d.deltaNow p / deltaUnit))

/-- The prepared entry of programme `p` takes a miss (R547, R551). -/
def Dev.entryMiss (p : Nat) (d : Dev) : Dev :=
  match (d.grp? p).bind (·.handle) with
  | some h => d.setFbe h fun e => { d.afterCheck 2 e with checks := e.checks }
  | none => d

/-! ## Preparing (R546) -/

/-- Prepare candidate `x` in partner `c` of programme `p`: an automatic tune, admitted under R355, and the selection of the
service; a refusal leaves the partner as it was. -/
def Dev.prepare (p c : Nat) (x : Nat × FbEntry) (d : Dev) : Dev :=
  match d.grp? p with
  | none => d
  | some g =>
    let inputs := (((d.ctx? g.onAir).bind (·.tuning)).map (·.inputs)).getD 15
    let t : Tuning := { freq := x.2.freq, inputs := inputs, std := x.2.std, step := 0, count := 0 }
    let b := d.nextBoundary
    match firstFailure (d.admission c fun r => { r with tuning := some t }) with
    | some _ =>
      let e := { d with follow.groups := tabMod d.follow.groups p fun g => { g with failAt := some d.now } }
      e.emit 68 (u8 p ++ u8 5 ++ u8 c ++ u8 x.2.std ++ u16 x.1 ++ u8 (d.entryScore x.2) ++ u8 0 ++ u32 x.2.freq ++ s32 0)
    | none =>
      let row : CtxSched := { ctx := c, act := .tune t, due := b, accepted := d.now, cause := 7 }
      let e := { d.rebase p with trav.acts := d.trav.acts ++ [row] }
      let e := e.setProg p fun y => { y with
        blend := some { partner := c, manual := false, place := (x.2.std, x.2.freq), since := b } }
      let id := ((d.followedId g.onAir).bind fun i => if x.2.id = 0 then some i else some x.2.id).getD 0
      (e.setGrp p fun g => { g with handle := some x.1, prep := some (id, b), confirm := 0 }).followCandidate p 0 c

/-- The service that a prepared DAB or DRM partner selects at the boundary of its tune (R546). -/
def Dev.selectPrepared (p : Nat) (d : Dev) : Dev :=
  match d.grp? p, (d.prog p).blend with
  | some g, some b => match g.prep with
    | some (id, due) =>
      if d.now < due then d
      else
        let e := d.setGrp p fun g => { g with prep := none }
        match b.place.1 with
        | 2 => e.setDab b.partner fun x => { x with selNext := some (some { sid := id, flags := 0, scids := 0, subch := 0 }, d.now), told := false }
        | 3 | 4 => e.setDrm b.partner fun x => { x with selNext := some (some (id, 0, 0), d.now), told := false }
        | _ => e
    | none => d
  | _, _ => d

/-! ## Evaluation (R544, R545) -/

/-- `n` Rounds have passed since `t`, or there is no `t`. -/
def Dev.olderThan (d : Dev) (t : Option Nat) (n : Nat) : Bool := match t with
  | some t => t + n * roundTicks ≤ d.now
  | none => true

/-- The partner of programme `p` is ready (R548). -/
def Dev.partnerReady (d : Dev) (p : Nat) : Bool := (d.prog p).blend.any (·.ready)

/-- Scores of the evaluation. -/
def Dev.scores (d : Dev) (p : Nat) (g : FollowGrp) : Nat × Nat :=
  let sp := match (d.prog p).blend with
    | some b =>
      if b.mismatched then 0 else if b.runAt.isSome then d.liveScore b.partner
      else ((g.handle.bind d.fbe).map d.entryScore).getD 0
    | none => 0
  (d.liveScore g.onAir, sp)

/-- One evaluation of an armed group. -/
def Dev.evaluate (p : Nat) (g : FollowGrp) (d : Dev) : Dev :=
  let (sAir, sPartner) := d.scores p g
  let x := d.prog p
  let hyst := d.propN P.followHyst
  let zeros_ := if sAir = 0 then g.zero + 1 else 0
  let confirm := if d.partnerReady p && sAir + hyst ≤ sPartner then g.confirm + 1 else 0
  let e := ({ d with dem.live := d.dem.live.filter fun x => x.1 != g.onAir && !g.set.contains x.1 }).setGrp p fun g => { g with evalAt := d.now, sAir := sAir, sPartner := sPartner, zero := zeros_, confirm := confirm }
  if x.fading.isSome || x.blend.any (·.manual) then e
  else
    let best := d.bestCandidate g
    let sBest := (best.map fun c => d.entryScore c.2).getD 0
    let none_ := x.blend.isNone
    let want := none_ && (sAir ≤ d.propN P.followPrepBelow || sAir + hyst ≤ sBest) && d.olderThan g.failAt (d.propN P.followHoldoff)
    let better := !none_ && sPartner + hyst ≤ sBest
    let e := match best with
      | some c =>
        if want || better then match d.partnerFor g (x.blend.map (·.partner)) c.2.std with
          | some k => e.prepare p k c
          | none => e
        else e
      | none => e
    let auto := g.mode == 2 && !(best.isSome && better)
    let switch := auto && d.propN P.followConfirm ≤ confirm && d.olderThan g.switchAt (d.propN P.followHoldoff)
    let cut := auto && 2 ≤ zeros_ && 2 ≤ sPartner && !none_
    match x.blend with
    | some b =>
      if switch || cut then e.setGrp p fun g => { g with switchDue := some (d.nextBoundary, b.partner, cut && !switch) } else e
    | none => e

/-- FOLLOW_EVALUATION (R545): every P.FOLLOW_EVAL Rounds, with the live metrics over that period. -/
def execFollowEvaluation (dt prog : Nat) (s : State) : Host.Outcome State Fault Refusal :=
  s.runIf dt Dev.active fun d => match d.grp? prog with
    | some g => if g.evalAt + d.propN P.followEval * roundTicks ≤ d.now then d.evaluate prog g else d
    | none => d

/-! ## Alignment (R547, R548) -/

/-- The partner of programme `p` is mismatched: a group keeps it with score 0, a manual blend ends. -/
def Dev.mismatch (p : Nat) (d : Dev) : Dev :=
  match (d.prog p).blend with
  | none => d
  | some b =>
    if b.manual then (d.rebase p).dropBlend p 2
    else (((d.rebase p).setBlend p fun b => { b with mismatched := true }).entryMiss p).followCandidate p 4 b.partner

/-- The lag of the partner of programme `p` in samples, and whether its normalised peak is 0.5 or more (R547). -/
def Dev.lagOf (d : Dev) (p : Nat) (b : BlendSt) : Int × Bool :=
  let x := d.prog p
  measureLag ((d.feed (x.src.getD 0xFF)).mono x.flags d.now) ((d.feed b.partner).mono x.flags d.now)

/-- One correlation of the partner with the on-air version: its lag, samples, and whether its normalised peak is 0.5 or more. -/
def Dev.alignMeasure (p : Nat) (lag : Int) (peak : Bool) (d : Dev) : Dev :=
  match (d.prog p).blend with
  | none => d
  | some b =>
    let agree := peak && (match b.lastLag with | some l => decide ((lag - l).natAbs ≤ 1) | none => false)
    let e := (d.rebase p).setBlend p fun b => { b with
      measAt := some d.now, lastLag := if peak then some lag else none, lag := if agree then some lag else b.lag
      drift := match b.lastLag with | some l => if agree then lag - l else b.drift | none => b.drift }
    if !agree || b.lag.isSome then e
    else if 144000 < lag then e.mismatch p
    else e.onlyIf (!b.manual) (Dev.followCandidate p 1 b.partner)

/-- FOLLOW_ALIGN_MEASUREMENT (R547): every 0.5 s once the partner has delivered 2 s of released audio, the mono sums of the two versions
are correlated. -/
def execFollowAlignMeasurement (dt prog : Nat) (s : State) : Host.Outcome State Fault Refusal :=
  s.runIf dt (fun d => d.active && (d.prog prog).fading.isNone && (d.prog prog).blend.any fun b =>
      !b.mismatched && !b.ready && b.relAt.any (fun t => t + msec 2000 ≤ d.now)
        && (match b.measAt with | some t => decide (t + msec 500 ≤ d.now) | none => true)) fun d =>
    match (d.prog prog).blend with
    | some b => let m := d.lagOf prog b; d.alignMeasure prog m.1 m.2
    | none => d

/-- FOLLOW_ALIGN_TIMEOUT: the partner has run 10 s without alignment. -/
def execFollowAlignTimeout (dt prog : Nat) (s : State) : Host.Outcome State Fault Refusal :=
  s.runIf dt (fun d => d.active && (d.prog prog).fading.isNone && (d.prog prog).blend.any fun b =>
      !b.mismatched && b.lag.isNone && b.runAt.any fun t => t + msec 10000 ≤ d.now) (Dev.mismatch prog)

/-- FOLLOW_PARTNER_READY (R548): δ has reached λ. -/
def execFollowPartnerReady (dt prog : Nat) (s : State) : Host.Outcome State Fault Refusal :=
  s.runIf dt (fun d => d.active && (d.prog prog).blend.any fun b =>
      !b.mismatched && !b.ready && b.lag.any fun l => l.toNat * deltaUnit ≤ d.deltaNow prog) fun d =>
    let e := (d.rebase prog).setBlend prog fun b => { b with ready := true }
    e.onlyIf (!(d.prog prog).blend.any (·.manual)) (Dev.followCandidate prog 2 (((d.prog prog).blend.map (·.partner)).getD 0xFF))

/-! ## Fades (R549-R551) -/

/-- The fade of programme `p`, or a cut of 5 ms down and 5 ms up, starts now. -/
def Dev.startFade (p : Nat) (cut : Bool) (d : Dev) : Dev :=
  let x := d.prog p
  match x.blend, x.src with
  | some b, some c => (d.rebase p).setProg p fun x => { x with fading := some {
      from_ := c, target := b.partner, start := d.now, ends := d.now + msec (if cut then 10 else x.fade), result := bit cut, cut := cut } }
  | _, _ => d

/-- A running fade takes another course within 5 ms from its present position. -/
def Dev.bendFade (p result : Nat) (d : Dev) : Dev :=
  d.setProg p fun x => { x with fading := x.fading.map fun f =>
    { f with result := result, ends := d.now + msec 5, x0 := f.position (3 * d.now), t0 := d.now } }

/-- Result of BLEND_DONE for a fade's result (R591). -/
def blendResult (r : Nat) : Nat := [0, 1, 4, 0, 3].getD r 0

/-- The fade of programme `p` ends with the partner on air (R549, R550). -/
def Dev.fadeOver (p : Nat) (f : FadeSt) (manual : Bool) (d : Dev) : Dev :=
  let lag := ((d.prog p).blend.bind (·.lag)).getD 0
  let state (c : Nat) : Nat := ((d.ctx? c).map fun x => x.state.code).getD 0
  let e := ((d.ctxEvent f.from_ (state f.from_) (state f.from_) 7).ctxEvent f.target (state f.target) (state f.target) 7)
  let e := if manual then e.blendDone p (blendResult f.result) f.from_ f.target lag else e.followSwitch p f.result f.from_ f.target
  let e := e.setProg p fun x => { x with
    src := some f.target, fading := none, blend := none, delta := if f.result = 1 then 0 else x.delta, deltaAt := d.now
    deltaWas := (if f.result = 1 then 0 else x.delta, d.now), base := if f.cut then 0 else lag.toNat * deltaUnit }
  (e.setGrp p fun g => { g with
    onAir := f.target, handle := none, prep := none, confirm := 0, zero := 0, switches := satAdd 0xFFFF g.switches 1
    switchAt := some d.now, sPartner := 0 }).audioSync

/-- The fade of programme `p` ends with the old version on air, or with neither (R551). -/
def Dev.fadeBack (p : Nat) (f : FadeSt) (manual : Bool) (d : Dev) : Dev :=
  let lag := ((d.prog p).blend.bind (·.lag)).getD 0
  let e := if manual then d.blendDone p (blendResult f.result) f.from_ f.target lag
    else (d.followSwitch p f.result f.from_ f.target).onlyIf (f.result == 2) (Dev.entryMiss p)
  let e := e.setProg p fun x => { x with fading := none, blend := none, deltaAt := d.now, deltaWas := (x.delta, d.now) }
  (e.setGrp p fun g => { g with
    handle := none, prep := none, confirm := 0, failAt := some d.now, sPartner := 0
    reversals := if f.result = 2 then satAdd 0xFFFF g.reversals 1 else g.reversals }).audioSync

/-! ## At a Round boundary -/

/-- Contexts on which a host command acts at this boundary. -/
def Dev.hostActed (d : Dev) : List Nat := (d.trav.acts.filter fun a => a.due ≤ d.now && a.cause == 0).map (·.ctx)

/-- Before the scheduled changes apply: a preparation whose partner a host command acts on at this boundary is abandoned
(R546). -/
def Dev.dropPreps (acted : List Nat) (d : Dev) : Dev :=
  forAll (List.range 4) (fun p d => match (d.prog p).blend with
    | some b =>
      if !b.manual && b.since = d.now && acted.contains b.partner then
        let e := { d with trav.acts := d.trav.acts.filter fun a => !(a.ctx == b.partner && a.cause == 7) }
        ((e.followCandidate p 6 b.partner).setProg p fun x => { x with blend := none }).setGrp p fun g =>
          { g with handle := none, prep := none, failAt := some d.now }
      else d
    | none => d) d

/-- The partner's progress: it runs on its tuning, and its audio is released. -/
def Dev.partnerRuns (p : Nat) (d : Dev) : Dev :=
  match (d.prog p).blend with
  | none => d
  | some b =>
    let here := (d.ctx? b.partner).any (·.state == .running) && (d.stdOf b.partner, d.freqOf b.partner) == b.place && b.since ≤ d.now
    d.setBlend p fun b => { b with
      runAt := if here && b.runAt.isNone then some d.now else b.runAt
      relAt := if here && b.relAt.isNone && d.srcReleased b.partner then some d.now else b.relAt }

/-- The partner of programme `p` is lost (R548). -/
def Dev.partnerLost (d : Dev) (p : Nat) (b : BlendSt) : Bool :=
  b.since ≤ d.now &&
    ((d.ctx? b.partner).isNone || (d.stdOf b.partner, d.freqOf b.partner) != b.place
      || (b.runAt.isSome && !(d.ctx? b.partner).any (·.state == .running))
      || (b.relAt.isSome && (!d.srcReleased b.partner || d.conceals b.partner))
      || (!b.manual && ((d.grp? p).bind (·.handle)).any fun h => (d.fbe h).isNone))

/-- What losing a version does (R548, R551); during a fade a host command on either context (`acted`) counts as its failure. -/
def Dev.judgeLoss (acted : List Nat) (p : Nat) (d : Dev) : Dev :=
  let x := d.prog p
  match x.blend with
  | none => d
  | some b =>
    let lostIn := d.partnerLost p b || (x.fading.isSome && acted.contains b.partner)
    match x.fading with
    | some f =>
      let lostOut := !d.srcReleased f.from_ || d.conceals f.from_ || acted.contains f.from_
      if f.result = 4 then d
      else if lostIn && lostOut then (d.setCause p 4 true).bendFade p 4
      else if lostIn && f.result != 2 then d.bendFade p 2
      else if lostOut && f.result = 2 then (d.setCause p 4 true).bendFade p 4
      else if lostOut && f.result = 0 then d.bendFade p 3
      else d
    | none =>
      if !lostIn then d
      else if b.manual then (d.rebase p).dropBlend p 3
      else
        let e := (d.rebase p).followCandidate p 3 b.partner
        (e.setProg p fun x => { x with blend := none }).setGrp p fun g =>
          { g with handle := none, prep := none, confirm := 0, failAt := some d.now, switchDue := none }

/-- An accepted FOLLOW_CFG applied (R552). -/
def Dev.applyFollow (a : FollowAct) (d : Dev) : Dev :=
  let x := d.prog a.prog
  let d := match (d.grp? a.prog).bind (·.switchDue) with
    | some (t, c, _) => d.onlyIf (t ≤ d.now && !a.switch) fun d => d.followSwitch a.prog 5 (x.src.getD 0xFF) c
    | none => d
  match a.grp with
  | none =>
    let e := (d.rebase a.prog).setProg a.prog fun x => if x.blend.any (·.manual) then x else { x with blend := none, fading := none }
    { e with follow.groups := tabDel e.follow.groups a.prog }
  | some g =>
    let old := d.grp? a.prog
    let keepsPartner := (x.blend.any fun b => !b.manual && g.set.contains b.partner) && old.any (·.onAir == g.onAir)
    let e := if keepsPartner then d
      else if x.blend.any (·.manual) then d.dropBlend a.prog 5
      else (d.rebase a.prog).setProg a.prog fun x => { x with blend := none }
    let g := match old with
      | some o => { o with
          mode := g.mode, regional := g.regional, set := g.set, pool := g.pool, link := g.link, onAir := g.onAir, switchDue := none
          handle := if keepsPartner then o.handle else none, prep := if keepsPartner then o.prep else none
          checking := o.checking.filter fun k => g.pool.contains k.1 }
      | none => { g with evalAt := d.now }
    let e := { e with follow.groups := tabSet e.follow.groups a.prog g }
    e.onlyIf (a.switch && e.partnerReady a.prog) (Dev.startFade a.prog false)

/-- The switch or manual blend that starts at this boundary (R549, R551, R567). -/
def Dev.switchStart (acted : List Nat) (p : Nat) (d : Dev) : Dev :=
  let x := d.prog p
  match (d.grp? p).bind (·.switchDue), x.blend with
  | some (t, c, cut), some b =>
    if d.now < t then d
    else
      let e := d.setGrp p fun g => { g with switchDue := none }
      if acted.contains c || acted.contains (x.src.getD 0xFF) then e.followSwitch p 5 (x.src.getD 0xFF) c
      else if b.partner = c && x.fading.isNone && (b.ready || cut) then e.startFade p cut else e
  | _, some b =>
    if b.manual && b.ready && x.fading.isNone then
      if acted.contains b.partner || acted.contains (x.src.getD 0xFF) then d.dropBlend p 5 else d.startFade p false
    else d
  | _, none => d

/-- Idle pool contexts of a group go to the best candidates that are due (R542). A host command that acts on one of them at this boundary
(`acted`) wins: its automatic retune is abandoned (07 R207). -/
def Dev.poolRetune (acted : List Nat) (p : Nat) (d : Dev) : Dev :=
  match d.grp? p with
  | none => d
  | some g => g.pool.foldl (fun d c =>
      match d.grp? p with
      | none => d
      | some g =>
        if acted.contains c || g.checking.any (·.1 == c) || d.ctxBusy c || (d.ctx? c).any (·.state == .halted) then d
        else
          let due := (d.candidates g).filter fun x =>
            (x.2.isDue d.now || !x.2.checked) && !g.checking.any (·.2 == x.1) && kindTakes 8 x.2.std
          match (sortBy (d.checkOrder ((d.followedId g.onAir).getD 0)) due).head? with
          | some (h, e) =>
            let inputs := (((d.ctx? g.onAir).bind (·.tuning)).map (·.inputs)).getD 15
            let d1 := d.applyTune c { freq := e.freq, inputs := inputs, std := e.std, step := 0, count := 0 } 7
            d1.setGrp p fun g => { g with checking := g.checking ++ [(c, h)] }
          | none => d) d

/-- Following and blending at a Round boundary, after the contexts' changes and the Field Book (DEDUCED log 71). -/
def Dev.followRound (acted : List Nat) (d : Dev) : Dev :=
  let due := d.follow.acts.filter (·.due ≤ d.now)
  let e := { d with follow.acts := d.follow.acts.filter (d.now < ·.due) }
  let e := forAll (List.range 4) Dev.selectPrepared e
  let e := forAll (List.range 4) Dev.partnerRuns e
  let e := forAll (List.range 4) (Dev.judgeLoss acted) e
  let e := due.foldl (fun e a => e.applyFollow a) e
  let e := forAll (List.range 4) (Dev.switchStart acted) e
  forAll (List.range 4) (Dev.poolRetune acted) e

/-! ## Commands -/

/-- Contexts that the group of another programme uses, accepted commands counted. -/
def Dev.groupCtxs (d : Dev) (p : Nat) : List Nat :=
  (List.range 4).flatMap fun k =>
    if k = p then []
    else
      let g := d.follow.acts.foldl (fun r a => if a.prog = k then a.grp else r) (d.grp? k)
      match g with
      | some g => g.onAir :: (g.set ++ g.pool)
      | none => []

/-- FOLLOW_CFG (R552). -/
def followCfgBody : Body := fun q d =>
  let (p, mode, action, flags) := (q.p8 0, q.p8 1, q.p8 2, q.p8 3)
  let set := ((List.range 3).map fun k => q.p8 (4 + k)).filter (· != 0xFF)
  let pool := ((List.range 8).map fun k => q.p8 (8 + k)).filter (· != 0xFF)
  let named := set ++ pool
  let onAir := q.p8 4
  let setBad (c : Nat) : Bool := match d.ctx? c with
    | some x => x.closing.isSome || !x.fg || !audioKind x.kind
    | none => true
  let poolBad (c : Nat) : Bool := match d.ctx? c with
    | some x => x.closing.isSome || x.kind != 8
    | none => true
  let alien (c : Nat) : Bool := d.ctxOwner c != some q.src || (d.groupCtxs p).contains c
  checked d [(q.len != 20, .badLength),
    (named.any fun c => c ≤ 127 && d.nCtx ≤ c, .notFitted),
    (q.badHeader || 3 < p || 2 < mode || 1 < action || 1 < flags || onAir == 0xFF || named.any (127 < ·) || hasRepeat named
      || (action == 1 && mode == 0) || q.p8 7 != 0 || q.p16 18 != 0, .badParam),
    (q.notSystem d, .notOwner),
    (d.inWatch || (d.progRoute p).1 != some onAir || set.any setBad || pool.any poolBad || named.any alien
      || (action == 1 && !d.partnerReady p), .wrongState),
    (mode != 0 && !d.blendHeld p && d.blendFull, .noPages),
    ((d.prog p).fading.isSome && (d.grp? p).isSome, .busy)] <|
    let g : FollowGrp := { mode := mode, regional := flags == 1, set := set, pool := pool, link := q.p16 16, onAir := onAir }
    let a : FollowAct := { prog := p, grp := if mode = 0 then none else some g, switch := action == 1, due := d.nextBoundary }
    okWith d.boundaryReply { d with follow.acts := d.follow.acts ++ [a] }
/-- The row FOLLOW_CFG. -/
def execFollowCfg (dt : Nat) (s : State) : Host.Outcome State Fault Refusal := s.command dt 0x0406 followCfgBody

/-- state of FOLLOW_STATUS (R553). -/
def ProgSt.followState (x : ProgSt) : Nat :=
  if x.fading.isSome then 5
  else match x.blend with
    | some b => if b.ready then 4 else if b.runAt.isSome then 3 else 2
    | none => 1

/-- FOLLOW_STATUS (R553). -/
def followStatusBody : Body := fun q d =>
  let p := q.p8 0
  checked d [(q.len != 4, .badLength), (q.badHeader || 3 < p || !zeroAt q.params 1 3, .badParam), (d.inWatch, .wrongState)] <|
    let x := d.prog p
    match d.grp? p with
    | none => okWith (u8 p ++ u8 0 ++ u8 0 ++ u8 0xFF ++ u8 0xFF ++ zeros 7 ++ u16 0xFFFF ++ zeros 22 ++ u32 d.fb.gen) d
    | some g => okWith (u8 p ++ u8 g.mode ++ u8 x.followState ++ u8 g.onAir ++ u8 ((x.blend.map (·.partner)).getD 0xFF)
        ++ u8 g.sAir ++ u8 g.sPartner ++ u8 (min 255 g.confirm) ++ u32 ((d.followedId g.onAir).getD 0)
        ++ u16 (g.handle.getD 0xFFFF) ++ u16 (d.candidates g).length ++ s32 ((x.blend.bind (·.lag)).getD 0)
        ++ u32 (d.deltaNow p / deltaUnit) ++ u16 g.switches ++ u16 g.reversals ++ u32 (g.switchAt.getD 0)
        ++ u32 g.checks ++ u32 d.fb.gen) d
/-- The row FOLLOW_STATUS. -/
def execFollowStatus (dt : Nat) (s : State) : Host.Outcome State Fault Refusal := s.command dt 0x0407 followStatusBody

end Sys2Proof.Machine
end

