-- ==== Sys2Proof/Machine/Combiner.lean ====
section
/-!
DEFINITION. Diversity combining (chapter 18): the branches of a combined service Round by Round (R511-R516), and the commands
CMB_CFG and CMB_STATUS.
-/
namespace Sys2Proof.Machine

/-- Change service `v` where it exists. -/
def Dev.setService (v : Nat) (f : CmbSt → CmbSt) (d : Dev) : Dev :=
  { d with comb.services := tabMod d.comb.services v f }
/-- Branch `b` of service `v`. -/
def Dev.branch (d : Dev) (v b : Nat) : Option BranchSt := (tabGet d.comb.services v).bind (·.branches[b]?)
/-- Change branch `b` of service `v`. -/
def Dev.setBranch (v b : Nat) (f : BranchSt → BranchSt) (d : Dev) : Dev :=
  d.setService v fun x => { x with branches := upd x.branches b f }

/-- Kinds that may anchor a service (R505). -/
def anchorKind (k : Nat) : Bool := (1 ≤ k && k ≤ 7) || k == 0x0A

/-- COMBINER_BRANCH_DROP (R524). -/
def Dev.branchEvent (v b state cause round rounds : Nat) (d : Dev) : Dev :=
  d.emit 84 (u8 v ++ u8 b ++ u8 state ++ u8 cause ++ u32 round ++ u16 (min 0xFFFF rounds))

/-! ## Slots of local branches (R507, R514, R516) -/

/-- A free slot for a branch, background holders giving way as R362 states. -/
def Dev.branchSlot (anchor : Nat) (d : Dev) : Option (Nat × Dev) :=
  match d.freeSlot true false with
  | some n => some (n, d)
  | none =>
    match sortBy (fun v => [d.entPrio v, desc (d.entDispatched v), desc (d.entNum v)]) (d.bgRunning.filter fun v => d.holds v 0) with
    | v :: _ => (d.entSlot v).map fun n => (n, d.preempt v anchor 0)
    | [] => none

/-- Where branch `b` of service `v` receives: segment and W, from the anchor's tuning. -/
def Dev.branchPlace (d : Dev) (v : CmbSt) (input : Nat) : Option (Nat × Int × Nat) :=
  match d.ctx? v.anchor with
  | some x => (segmentOf x.freq).map fun n => (4 * input + n, tunedWord n x.freq x.offset, stdBank x.std)
  | none => none

/-- C of the anchor's slot. -/
def Dev.anchorC (d : Dev) (v : CmbSt) : Int := ((d.slotOf v.anchor).map fun n => (d.slot n).c).getD 0

/-- A local branch takes, keeps, retunes or loses its slot at a boundary. -/
def Dev.placeBranch (v b : Nat) (d : Dev) : Dev :=
  match tabGet d.comb.services v, d.branch v b with
  | some x, some y =>
    if y.remote || b = 0 then d
    else match d.branchPlace x y.source with
      | none => d
      | some (seg, w, bank) =>
        if !d.segLive seg || d.segLeaving seg then
          match y.slot with
          | some n => (d.stopSlot n).setBranch v b fun y => { y with slot := none }
          | none => d
        else match y.slot with
          | some n =>
            let z := d.slot n
            if z.bank != bank then (d.stopSlot n).startSlot n (.branch v b) seg w bank (d.anchorC x)
            else d.onlyIf (z.seg != seg || z.w != w) (Dev.retuneSlot n seg w)
          | none => match d.branchSlot x.anchor with
            | some (n, e) => (e.startSlot n (.branch v b) seg w bank (e.anchorC x)).setBranch v b fun y => { y with slot := some n }
            | none => d
  | _, _ => d

/-- Branch 0 lost its input (R514): a new one on a live input that the anchor permits and no other branch uses
(DEDUCED log 72). -/
def Dev.placeBranch0 (v : Nat) (d : Dev) : Dev :=
  match tabGet d.comb.services v with
  | none => d
  | some x => match d.ctx? x.anchor with
    | none => d
    | some a =>
      let used := (x.branches.drop 1).filterMap fun y => if y.remote then none else some y.source
      let mask := maskOf ((bitsOf 4 ((a.tuning.map (·.inputs)).getD 0)).filter fun i => !used.contains i)
      if a.state != .running || (d.slotOf x.anchor).isSome then d
      else match d.inputFor mask a.freq, segmentOf a.freq, d.branchSlot x.anchor with
        | some i, some n, some (s, e) =>
          let w := tunedWord n a.freq a.offset
          let fresh (y : BranchSt) : BranchSt := { y with source := i, state := .probation, clean := 0, hist := [], since := d.now }
          let e := match a.inst with
            | some k => (e.startSlot s (.inst k) (4 * i + n) w (stdBank a.std) 0).setInst k fun y => { y with slot := some s, input := some i }
            | none => (e.startSlot s (.ctx x.anchor) (4 * i + n) w (stdBank a.std) 0).setCtx x.anchor fun y => { y with slot := some s, input := some i }
          (e.setBranch v 0 fresh).audioSync
        | _, _, _ => d

/-! ## One Round (R509-R513) -/

/-- Samples of Round `r` that have come for a branch at decimation exponent `k`. -/
def BranchSt.inRound (r : Nat) (y : BranchSt) : List SlotSample := y.dsp.buf.filter fun s => r * roundTicks ≤ s.t && s.t < (r + 1) * roundTicks

/-- Cause of R511 for local branch samples of a Round, 0xFF where it is clean: `per` samples make a Round. -/
def Dev.sampleCause (d : Dev) (input per : Nat) (l : List SlotSample) : Nat :=
  if l.isEmpty then (if d.inputLive input then 1 else 5)
  else if l.any fun s => s.frozen || s.lo then 1
  else if l.any (·.settle) then 2
  else if l.length < per then 0 else 0xFF

/-- Cause of R511 for Round `r` of a branch: of a remote one from its frames and from a step of this device's datum time. -/
def Dev.branchCause (d : Dev) (r per : Nat) (y : BranchSt) : Nat :=
  if !y.remote then d.sampleCause y.source per (y.inRound r)
  else match y.hist.find? (·.1 == r) with
    | some (_, c) => if d.cl.stepAt == some (r * roundTicks) then 4 else c
    | none => 0

/-- Branch `b` of service `v` for combined Round `r`: clean Rounds are counted, an unclean one drops it. -/
def Dev.combineBranch (v b r per : Nat) (d : Dev) : Dev :=
  match d.branch v b with
  | none => d
  | some y =>
    if r * roundTicks < y.since then d
    else
      let cause := d.branchCause r per y
      let y := { y with hist := y.hist.filter (r < ·.1), late := if cause = 0 then satAdd 0xFFFF y.late 1 else y.late }
      if cause = 0xFF then
        let n := min 8 (y.clean + 1)
        match y.state with
        | .active => d.setBranch v b fun _ => { y with clean := n }
        | _ => d.setBranch v b fun _ => { y with clean := n, away := y.away + 1 }
      else match y.state with
        | .active =>
          (d.setBranch v b fun _ => { y with clean := 0, state := .dropped, away := 1, drops := satAdd 0xFFFF y.drops 1 }).branchEvent v b 0 cause r 0
        | _ => d.setBranch v b fun _ => { y with clean := 0, away := y.away + 1 }

/-- A branch whose eighth consecutive clean Round has been combined is active from the next Round on. -/
def Dev.joinBranch (v b r : Nat) (d : Dev) : Dev :=
  match d.branch v b with
  | some y =>
    if y.state == .active || y.clean < 8 then d
    else (d.setBranch v b fun _ => { y with state := .active, away := 0 }).branchEvent v b 1 0xFF r y.away
  | none => d

/-- The corrections of the anchor reach its remote branches also where C moved with a retune (R510). -/
def BranchSt.correct (t : Nat) (c : Int) (y : BranchSt) : BranchSt :=
  if !y.remote || (y.dsp.corr.getLast?.map (·.2)) == some c then y
  else { y with dsp := { y.dsp with corr := y.dsp.corr ++ [(t, c)] } }

/-- A sample of a branch for the OFDM unit: unclean Rounds count as bad, and a branch that is not active contributes nothing. -/
def BranchSt.ofdmAt (k t : Nat) (y : BranchSt) : BranchSt × OfdmSample :=
  let mute := y.state != .active
  match y.at t with
  | none => (y, { t := t, bad := true, mute := mute })
  | some s =>
    let (z, v) := y.take k s
    (z, { t := t, v := if s.settle then {} else v, bad := !y.cleanNow || s.frozen || s.settle, held := s.frozen, sat := s.sat, mute := mute })

/-- What CMB_STATUS shows of the branches of an OFDM service (R523): MER and phase of each alone. -/
def branchesShown (l : List BranchSt) (bs : List OfdmBranch) : List BranchSt :=
  sharedWeights ((l.zip bs).map fun p =>
    if p.2.own.2 = 0 then p.1 else { p.1 with quality := levelOf p.2.own.1 p.2.own.2, phase := turnOf 16 p.2.cross.shrink })

/-- Samples of Round `r` of a DAB or DRM service reach the OFDM unit (R509, R519-R521). -/
def Dev.combineOfdm (v r : Nat) (d : Dev) : Dev :=
  match tabGet d.comb.services v with
  | none => d
  | some x =>
    let k := stdK (d.stdOf x.anchor)
    let one (y : BranchSt) : BranchSt × List OfdmSample := (roundGrid k r).foldl (fun (y, l) t => let (z, s) := y.ofdmAt k t; (z, l ++ [s])) (y, [])
    let res := x.branches.map one
    let bs := res.map fun y => { y.1 with dsp := { y.1.dsp with buf := y.1.dsp.buf.filter ((r + 1) * roundTicks ≤ ·.t) } }
    let ls := res.map (·.2)
    let e := d.setService v fun x => { x with branches := bs }
    if d.stdOf x.anchor = 2 then
      match (d.ctx? x.anchor).bind (·.inst) with
      | some n =>
        let e := e.dabTake n ls
        let y := (e.dabInst n).dsp
        if 1 ≤ y.next && y.next ≤ 4 then e else e.setService v fun x => { x with branches := branchesShown x.branches y.branches }
      | none => e
    else if d.drmRuns x.anchor then
      let e := e.drmTakes x.anchor ls
      e.setService v fun x => { x with branches := branchesShown x.branches (e.drm x.anchor).dsp.branches }
    else e

/-- One service at a Round boundary: Round B - L is combined (R509); the boundary of R523 is the one at which that Round began
(DEDUCED log 146). -/
def Dev.serviceRound (v : Nat) (d : Dev) : Dev :=
  match tabGet d.comb.services v with
  | none => d
  | some x =>
    let r := d.now / roundTicks - x.latency
    if r * roundTicks < x.since then d
    else
      let std := d.stdOf x.anchor
      let d := d.setService v fun z => { z with branches := z.branches.map (BranchSt.correct d.now (d.anchorC x)) }
      let e := forAll (List.range x.branches.length) (fun b d => d.combineBranch v b r (slotPerRound (stdK std))) d
      let e := if std ≤ 1 then e.combineNb v r else e.combineOfdm v r
      (forAll (List.range x.branches.length) (fun b d => d.joinBranch v b r) e).setService v fun x => { x with boundary := r * roundTicks }

/-- An accepted CMB_CFG applied (R522): branches present in both lists, matched by input or stream, continue. -/
def Dev.applyCmb (a : CmbAct) (d : Dev) : Dev :=
  match a.anchor with
  | none => d.releaseService a.service
  | some c =>
    if !(d.ctxOpen c) then d
    else
      let old := tabGet d.comb.services a.service
      let olds := ((old.map (·.branches)).getD []).drop 1
      let same (y z : BranchSt) : Bool := y.remote == z.remote && y.source == z.source && y.stream == z.stream
      let kept (y : BranchSt) : BranchSt := match olds.find? (same y) with
        | some z => z
        | none => { y with since := d.now, dsp := { y.dsp with eq := firstTaps 1 y.dsp.eq } }
      let b0 : BranchSt := match old.bind (·.branches.head?) with
        | some y => y
        | none => { remote := false, source := (d.inputOf c).getD 0, state := .active, since := d.now, dsp := { w := unitWeight, wOld := unitWeight } }
      let gone := olds.filter fun z => !a.branches.any (same z)
      let e := gone.foldl (fun e z => match z.slot with | some n => e.stopSlot n | none => e) d
      let x : CmbSt := { anchor := c, latency := a.latency, branches := b0 :: a.branches.map kept, since := (old.map (·.since)).getD d.now }
      let e := { e with comb.services := tabSet e.comb.services a.service x }
      -- a branch that changed its number keeps its slot under the new one
      (indexed x.branches).foldl (fun e y => match y.2.slot with
        | some n => e.setSlot n fun z => { z with user := some (.branch a.service y.1) }
        | none => e) e

/-- Combining at a Round boundary. -/
def Dev.combinerRound (d : Dev) : Dev :=
  let e := forAll (d.comb.services.map (·.1)) Dev.serviceRound d
  let due := e.comb.acts.filter (·.due ≤ e.now)
  let e := due.foldl (fun e a => e.applyCmb a) { e with comb.acts := e.comb.acts.filter (d.now < ·.due) }
  forAll (e.comb.services.map (·.1)) (fun v e =>
    forAll (List.range 8) (fun b e => e.placeBranch v b) (e.placeBranch0 v)) e

/-- Every remote branch restarts its Rounds as datum time steps (R515). -/
def Dev.dropHistory (d : Dev) : Dev :=
  { d with comb.services := d.comb.services.map fun x =>
      (x.1, { x.2 with branches := x.2.branches.map fun y => { y with hist := [], half := none, since := 0, dsp := { y.dsp with buf := [], corr := [] } }, since := 0 }) }

/-! ## Commands -/

/-- Anchor of service `v` as accepted. -/
def Dev.cmbAnchor (d : Dev) (v : Nat) : Option Nat :=
  d.comb.acts.foldl (fun r a => if a.service = v then a.anchor else r) ((tabGet d.comb.services v).map (·.anchor))
/-- Branches of service `v` as accepted, branch 0 among them. -/
def Dev.cmbCount (d : Dev) (v : Nat) : Nat :=
  d.comb.acts.foldl (fun r a => if a.service = v then (if a.anchor.isSome then a.branches.length + 1 else 0) else r)
    (((tabGet d.comb.services v).map (·.branches.length)).getD 0)

/-- The branch entries of CMB_CFG. -/
def Req.branches (q : Req) : List (List Byte) := entriesOf 8 (q.params.drop 8)
/-- The branch of an entry. -/
def branchOf (b : List Byte) : BranchSt :=
  if at8 b 0 = 1 then { remote := true, source := at8 b 2, stream := at16 b 4 } else { remote := false, source := at8 b 1 }
/-- An entry with a field out of range or not zero where unused. -/
def branchBad (b : List Byte) : Bool :=
  1 < at8 b 0 || at8 b 3 != 0 || at16 b 6 != 0
    || (if at8 b 0 = 1 then at8 b 1 != 0 || at8 b 2 == 0 || 32 < at8 b 2 else 3 < at8 b 1 || at8 b 2 != 0 || at16 b 4 != 0)

/-- CMB_CFG (R522). -/
def cmbCfgBody : Body := fun q d =>
  let (v, action, count, latency) := (q.p8 0, q.p8 1, q.p8 2, q.p8 3)
  let es := q.branches
  let bs := es.map branchOf
  let set := action == 0
  let locals := (bs.filter (!·.remote)).map (·.source)
  let remotes := (bs.filter (·.remote)).map fun b => b.source * 65536 + b.stream
  let input0 := d.inputOf q.ctx
  let anchorBad := match d.ctx? q.ctx with
    | some x => x.closing.isSome || !x.fg || x.tuning.isNone || !anchorKind x.kind
    | none => true
  let others := (List.range 8).any fun k => k != v && d.cmbAnchor k == some q.ctx
  let a : CmbAct := { service := v, anchor := if set then some q.ctx else none, latency := latency, branches := bs
                      due := boundaryAt (d.now + 65536) }
  let e := { d with comb.acts := d.comb.acts ++ [a] }
  checked d [(7 < count || q.len != 8 + 8 * count, .badLength),
    ((!d.hasFabric && bs.any (·.remote)) || locals.any (fun i => i ≤ 3 && d.nInputs ≤ i), .notFitted),
    (q.badHeader || 7 < v || 1 < action || q.p32 4 != 0 || es.any branchBad
      || (if set then q.ctx == 0xFF || latency == 0 || 8 < latency || (latency < 2 && !remotes.isEmpty)
          else q.ctx != 0xFF || count != 0 || latency != 0)
      || hasRepeat locals || hasRepeat remotes || (match input0 with | some i => locals.contains i | none => false), .badParam),
    (q.notSystem d, .notOwner),
    (d.inWatch || (if set then anchorBad || others || (match d.cmbAnchor v with | some c => c != q.ctx | none => false)
        else (d.cmbAnchor v).isNone), .wrongState),
    (set && min 48 d.nSlots < e.fgSlots d.ledger, .noSlot),
    (32 < ((List.range 8).map e.cmbCount).sum, .noEngine)] <|
    okWith (u64 a.due) e
/-- The row CMB_CFG. -/
def execCmbCfg (dt : Nat) (s : State) : Host.Outcome State Fault Refusal := s.command dt 0x1301 cmbCfgBody

/-- Code of a branch state. -/
def BranchState.code : BranchState → Nat
  | .active => 0
  | .probation => 1
  | .dropped => 2

/-- A branch's entry (R523). -/
def BranchSt.entry (b : Nat) (y : BranchSt) : List Byte :=
  u8 b ++ ub y.remote ++ u8 y.source ++ u8 y.state.code ++ u16 y.stream ++ u8 (min 255 y.weight) ++ u8 y.clean ++ s16 y.quality
    ++ s16 y.phase ++ u16 y.drops ++ u16 y.late

/-- Total delay of a service, µs (R509, R523; 14 R391). -/
def cmbDelay (std latency : Nat) : Nat :=
  (if std = 0 then 1250 else if std = 1 then 3000 else Config.ofdmDelay std) + 125 * latency

/-- Quality of the combined stream (R523): CNR of the anchor's last window, or the MER of its last frame; before the first one the spec
states none (UNVERIFIED log 132). -/
def Dev.cmbQuality (d : Dev) (c : Nat) : Int :=
  match d.stdOf c with
  | 0 | 1 => (((d.nb c).run.last.bind (·.1.cnr))).getD Config.levelOfNothing
  | 2 => match (d.ctx? c).bind (·.inst) with
    | some n => (d.dabInst n).mer
    | none => Config.levelOfNothing
  | _ => (d.drm c).mer

/-- CMB_STATUS (R523). -/
def cmbStatusBody : Body := fun q d =>
  let v := q.p8 0
  match tabGet d.comb.services v with
  | none => checked d [(q.len != 4, .badLength), (q.badHeader || 7 < v || !zeroAt q.params 1 3, .badParam)] (refuse .wrongState d)
  | some x => checked d [(q.len != 4, .badLength), (q.badHeader || 7 < v || !zeroAt q.params 1 3, .badParam), (d.inWatch, .wrongState)] <|
      let std := d.stdOf x.anchor
      okWith (u8 v ++ u8 x.anchor ++ u8 std ++ u8 x.branches.length ++ u8 x.latency
        ++ u8 (x.branches.filter (·.state == .active)).length ++ s16 (d.cmbQuality x.anchor) ++ u32 (cmbDelay std x.latency) ++ u32 x.boundary
        ++ padTo 128 ((indexed x.branches).flatMap fun y => y.2.entry y.1)) d
/-- The row CMB_STATUS. -/
def execCmbStatus (dt : Nat) (s : State) : Host.Outcome State Fault Refusal := s.command dt 0x1302 cmbStatusBody

end Sys2Proof.Machine
end

