-- ==== Sys2Proof/Machine/Watch.lean ====
section
/-!
DEFINITION. The standby watch receiver (chapter 22): the watch list and its dwells, entering and leaving WATCH, SYN1 in WATCH
and for CAL_RUN, and the commands WATCH_LIST, WATCH_ENTER and WATCH_STATUS.
-/
namespace Sys2Proof.Machine

/-! ## The cycle of hops and dwells (R611-R617) -/

/-- Change entry `n` of the watch list. -/
def Dev.setWatch (n : Nat) (f : WatchEntry → WatchEntry) (d : Dev) : Dev :=
  { d with watch.list := upd d.watch.list n f }

/-- A hop to entry `n` begins (R611): SYN1 calibrates first unless its table holds a valid entry for the channel. -/
def Dev.hopTo (n : Nat) (tAvg : Int) (d : Dev) : Dev :=
  match d.watch.list[n]? with
  | none => { d with watch.current := none, watch.hop := none, watch.hopCal := false }
  | some e =>
    let valid := d.cal.syn1.any fun x => x.freq == e.freq && d.syn1Valid x tAvg
    { d with watch.current := none, watch.hop := some n, watch.hopCal := !valid }

/-- Entry `n` is done with: the hop to the next entry begins, and a cycle is complete after the last (R614, R624). -/
def Dev.advance (n : Nat) (tAvg : Int) (d : Dev) : Dev :=
  let last := d.watch.list.length ≤ n + 1
  let e := if last then { d with watch.cycles := satAdd 0xFFFFFFFF d.watch.cycles 1 } else d
  e.hopTo (if last then 0 else n + 1) tAvg

/-- A list replaces the watch list (R613): channels with the same std and freq keep their alarm state, and the counters run
afresh (R624). -/
def Dev.replaceList (l : List WatchEntry) (d : Dev) : Dev :=
  let keep (e : WatchEntry) : WatchEntry :=
    { e with alarm := d.watch.list.any fun x => x.std == e.std && x.freq == e.freq && x.alarm }
  { d with watch.list := l.map keep, watch.next := none, watch.cycles := 0 }

/-- An accepted list applies in WATCH outside a dwell: the cycle restarts at entry 0 (R613). -/
def Dev.restartList (l : List WatchEntry) (tAvg : Int) (d : Dev) : Dev := (d.replaceList l).hopTo 0 tAvg

/-- The dwell on entry `n` ends with `result` (R614): an accepted list applies now, else the next hop begins. -/
def Dev.dwellOver (n result : Nat) (tAvg : Int) (d : Dev) : Dev :=
  let e := d.setWatch n fun x => { x with result := result, dwells := satAdd 0xFFFF x.dwells 1 }
  match e.watch.next with
  | some l => e.restartList l tAvg
  | none => e.advance n tAvg

/-- The row WATCH_HOP_COMPLETE (R610, R611): SYN1 is locked on the channel and the dwell begins. -/
def execWatchHopComplete (dt : Nat) (s : State) : Host.Outcome State Fault Refusal :=
  s.runIf dt (fun d => d.watching && d.watch.phase == .watching && !d.watch.hopCal) fun d =>
    match d.watch.hop with
    | none => d
    | some n => { d with watch.hop := none, watch.current := some n, watch.dwellAt := d.now, watch.measured := false }

/-- Act on the entry in dwell, once `ticks` of the dwell have passed. -/
def Dev.inDwell (ticks : WatchEntry → Nat) (f : Nat → WatchEntry → Dev → Dev) (d : Dev) : Dev :=
  match d.watch.current with
  | none => d
  | some n => match d.watch.list[n]? with
    | none => d
    | some e => if d.watch.phase == .watching && decide (d.watch.dwellAt + ticks e ≤ d.now) then f n e d else d

/-- WATCH_LEVEL_MEASURED (R615): a level below the gate ends the dwell with result "no signal". -/
def execWatchLevelMeasured (dt level : Nat) (tAvg : Int) (s : State) : Host.Outcome State Fault Refusal :=
  s.runIf dt (fun d => d.watching && !d.watch.measured) <| Dev.inDwell (fun _ => msec 2) fun n e d =>
    let d1 := { (d.setWatch n fun x => { x with level := level % 256 }) with watch.measured := true }
    if level % 256 < e.minLevel then d1.dwellOver n 1 tAvg else d1

/-- Time after which a dwell without synchronisation ends (R615): two DRM frames are 800 ms or 200 ms. -/
def WatchEntry.syncLimit (e : WatchEntry) : Nat := msec (if e.std = 3 then 800 else 200)

/-- WATCH_NO_SYNC_TIMEOUT (R615). -/
def execWatchNoSyncTimeout (dt : Nat) (tAvg : Int) (s : State) : Host.Outcome State Fault Refusal :=
  s.runIf dt Dev.watching <| Dev.inDwell WatchEntry.syncLimit fun n _ d => d.dwellOver n 2 tAvg

/-- Maximum of a dwell (R614). -/
def WatchEntry.dwellMax (e : WatchEntry) : Nat :=
  msec (match e.std with
    | 0 => 440
    | 2 => 700
    | 3 => 4000
    | _ => 1400)

/-! ## What a dwell has shown (R614, R616) -/

/-- Block `i` of a group, where its quality is 0 or 1. -/
def goodBlock (blocks : List (Nat × Nat)) (i : Nat) : Option Nat := match blocks[i]? with
  | some (w, q) => if q ≤ 1 then some w else none
  | none => none

/-- PTY of the groups of stream 0, the last first; none where block B has not quality 0 or 1 (15 R434). -/
def watchPtys (seen : List WatchSeen) : List (Option Nat) :=
  (seen.reverse).filterMap fun x => match x with
    | .group 0 bs => some ((goodBlock bs 1).map fun w => w / 32 % 32)
    | _ => none
/-- Al and ASw flags of the occurrences of FIG 0/19 for cluster 0xFF, the last first (16 R465). -/
def watchClusters (seen : List WatchSeen) : List (Bool × Nat) :=
  (seen.reverse).filterMap fun x => match x with
    | .frame _ al (some asw) => some (al, asw)
    | _ => none
/-- Service announcing an alarm in each good SDC, the last first (17 R497). -/
def watchSdcs (seen : List WatchSeen) : List (Option Nat) :=
  (seen.reverse).filterMap fun x => match x with
    | .sdc a _ => some a
    | _ => none

/-- The last two of a list satisfy `p`, where `l` has the last first. -/
def lastTwo {α : Type} (p : α → Bool) (l : List α) : Bool := 2 ≤ l.length && (l.take 2).all p

/-- What the dwell shows last on the channel (R616): an alarm begins or ends, its origin, and blocks B to D of an RDS2 alert group. -/
def WatchEntry.shows (e : WatchEntry) (seen : List WatchSeen) : Option (Bool × Nat × List Nat) :=
  match e.std with
  | 0 =>
    let ptys := watchPtys seen
    let alert := match seen.getLast? with
      | some (.group _ bs) => if hasBit e.flags 0 && (bs.all fun b => b.2 ≤ 1) && (goodBlock bs 1).map (· / 2048) == some e.gtype
          then some ((bs.drop 1).map (·.1)) else none
      | _ => none
    match alert with
    | some l => some (true, 2, l)
    | none =>
      if lastTwo (· == some 31) ptys then some (true, 0, [])
      else if lastTwo (fun (p : Option Nat) => p.any (· != 31)) ptys then some (false, 1, []) else none
  | 2 =>
    let cs := watchClusters seen
    if lastTwo (fun c => c.1 && hasBit c.2 0) cs then some (true, 0x10, [])
    else match cs with
      | (_, 0) :: _ => some (false, 0x11, [])
      | _ => none
  | _ =>
    let l := watchSdcs seen
    if lastTwo Option.isSome l then some (true, 0x20, [])
    else if lastTwo Option.isNone l then some (false, 0x21, []) else none

/-- PIs of blocks of quality 0 or 1 at the positions of A and C′, the last first (15 R430). -/
def watchPis (seen : List WatchSeen) : List Nat :=
  (seen.reverse).flatMap fun x => match x with
    | .group 0 bs => (if (goodBlock bs 1).any fun w => hasBit w 11 then (goodBlock bs 2).toList else []) ++ (goodBlock bs 0).toList
    | _ => []

/-- The identifier received in the dwell (R616): the PI, confirmed under 15 R430 where one is expected, the EId, or the service. -/
def WatchEntry.received (e : WatchEntry) (seen : List WatchSeen) : Nat :=
  match e.std with
  | 0 =>
    let exact := seen.any fun x => match x with
      | .pi w => w == e.id
      | .group 0 bs => bs[0]? == some (e.id, 0)
      | _ => false
    if e.id != 0 && exact then e.id else (watchPis seen).headD 0
  | 2 => (seen.reverse.findSome? fun x => match x with
      | .frame eid _ _ => some eid
      | _ => none).getD 0
  | _ =>
    let ids := seen.flatMap fun x => match x with
      | .sdc _ l => l
      | _ => []
    if e.id != 0 && ids.contains e.id then e.id else ((watchSdcs seen).findSome? fun x => x).getD (ids.headD 0)

/-- The early end of a dwell without an active alarm (R614): a complete group with another PTY than 31, two frames with Al = 0, or two
good SDCs without alarm switching. -/
def WatchEntry.earlyEnd (e : WatchEntry) (seen : List WatchSeen) : Bool :=
  match e.std with
  | 0 => (watchPtys seen).any fun (p : Option Nat) => p.any (· != 31)
  | 2 => 2 ≤ (seen.filter fun x => match x with
      | .frame _ al _ => !al
      | _ => false).length
  | _ => 2 ≤ ((watchSdcs seen).filter Option.isNone).length

/-- WATCH_DWELL_END (R614): at the maximum of the standard, or early while no alarm is active on the channel; `seen` is what the dwell
has decoded. -/
def execWatchDwellEnd (dt : Nat) (seen : List WatchSeen) (tAvg : Int) (s : State) : Host.Outcome State Fault Refusal :=
  s.runIf dt Dev.watching <| Dev.inDwell (fun _ => 0) fun n e d =>
    if d.watch.dwellAt + e.dwellMax ≤ d.now || (!e.alarm && e.earlyEnd seen) then d.dwellOver n (if e.alarm then 4 else 3) tAvg
    else d

/-- SYN1_LOCK_LOSS (R612): the dwell ends with result "LO lost" and the channel's table entry is invalid. -/
def execSyn1LockLoss (dt : Nat) (tAvg : Int) (s : State) : Host.Outcome State Fault Refusal :=
  s.runIf dt Dev.watching <| Dev.inDwell (fun _ => 0) fun n e d =>
    { d with cal.syn1 := updWhere d.cal.syn1 (·.freq == e.freq) fun x => { x with invalid := true } }.dwellOver n 5 tAvg

/-- The receiver still reports (R617, R621): it runs, or it stopped on this REFCLK edge for an accepted SYS_POWER. -/
def Dev.watchReports (d : Dev) : Bool :=
  d.watch.phase == .watching
    || (d.watch.phase == .leaving && d.watch.exit.1 == 3 && d.now / refTicks == d.watch.since / refTicks)

/-- An alarm begins or ends on entry `n` (R616, R617, R619, R620). -/
def Dev.alarmChange (n : Nat) (e : WatchEntry) (active : Bool) (origin id : Nat) (blocks : List Nat) (d : Dev) : Dev :=
  let d1 := d.setWatch n fun x => { x with alarm := active, alerts := satAdd 0xFFFF x.alerts 1 }
  let d2 : Dev := { d1 with watch.lastAlert := d.now }.emit 48
    (u8 n ++ u8 e.std ++ u8 origin ++ u8 e.level ++ u32 e.freq ++ u32 id ++ (if origin = 2 then padTo 6 (blocks.flatMap u16) else zeros 6))
  if !active then d2
  else
    let d3 : Dev := { d2 with watch.gpio := d2.watch.gpio.map fun g => (g.1, hasBit d.watch.opts.gpio 7) }
    d3.onlyIf (d.watch.opts.wake && d.watch.phase == .watching) (Dev.leaveWatch 2 n)

/-- WATCH_ALARM_STATE_CHANGE (R616, R617): what the dwell has decoded, `seen`, shows a beginning or an end on the channel; counted only
while the identifier received equals the expected one (DEDUCED log 141). -/
def execWatchAlarmStateChange (dt : Nat) (seen : List WatchSeen) (s : State) : Host.Outcome State Fault Refusal :=
  s.runIf dt (fun d => d.watching && d.watchReports) fun d =>
    match d.watch.current with
    | none => d
    | some n => match d.watch.list[n]? with
      | none => d
      | some e =>
        match e.shows seen with
        | none => d
        | some (active, origin, blocks) =>
          let id := e.received seen
          if e.alarm == active || (e.id != 0 && e.id != id) then d else d.alarmChange n e active origin id blocks

/-! ## Entering WATCH (R618, R619) -/

/-- The entry of R618 begins (DEDUCED log 74). -/
def Dev.beginWatch (o : WatchOpts) (d : Dev) : Dev :=
  { d.rampAll with watch.opts := o, watch.phase := .entering, watch.since := d.now, watch.parked := false }

/-- Every RUNNING context and instance is parked (R618, 13 R372). -/
def Dev.parkAll (d : Dev) : Dev :=
  let e := (d.trav.insts.filter (·.2.running)).foldl (fun e x => e.instOut x.1 0 true) d
  (e.trav.ctxs.filter (·.2.state == .running)).foldl (fun e x => e.ctxOut x.1 0 true) e
/-- Every context is closed (03 R87). -/
def Dev.closeAll (d : Dev) : Dev := (d.trav.ctxs.map (·.1)).foldl (fun e c => e.applyClose c) d

/-- WATCH_ENTRY_BOUNDARY (R618): the first Round boundary at or after 5 ms; contexts are parked, or closed without
retention. -/
def execWatchEntryBoundary (dt : Nat) (s : State) : Host.Outcome State Fault Refusal :=
  s.runIf dt (fun d => d.active && d.watch.phase == .entering && !d.watch.parked && d.now % roundTicks == 0
      && decide (d.watch.since + msec 5 ≤ d.now)) fun d =>
    { (if d.watch.opts.retain then d.parkAll else d.closeAll) with watch.parked := true }

/-- The inputs, converters and SYN0 off (09 R247, R268). -/
def Dev.inputsOff (d : Dev) : Dev :=
  { d with
    rf.inputs := d.rf.inputs.map fun x =>
      { x with mode := .off, iso := false, liveDue := none, offDue := none, agcNext := none, rampMain := false, rampLb := false
               lowMain := 0, lowLb := 0, detMain := none, detLb := none, minHeld := 0, lband := .off }
    rf.segs := List.replicate 16 {}
    rf.loLost := none, rf.loBack := none, rf.syn0Attempt := 0, rf.syn0Lost := 0, clk.syn0 := 0 }

/-- AX0 in WATCH (03 R89, R619, R623): off, on bypassed or on in line. -/
def Dev.watchAmp (d : Dev) : Dev :=
  let o := d.watch.opts.ax0
  let was := (d.inp 0).amp
  let e := d.ampsOff
  if o = 0 || was.faulted then e
  else e.setInp 0 fun x => { x with amp :=
    if was.pwr then { was with byp := o == 1, seqn := none }
    else { was with
      pwr := true, byp := o == 1, seqn := none, pwrAt := d.now, times := (d.propN (P.xampInrush 0), d.propN (P.xampSettle 0))
      inrushOver := d.propN (P.xampInrush 0) == 0, settled := false, ocRun := 0, openRun := 0, okRun := 0 } }

/-- The slots stop, and local branches hold none. -/
def Dev.slotsOff (d : Dev) : Dev :=
  let e := forAll (List.range 64) Dev.stopSlot d
  { e with comb.services := e.comb.services.map fun x =>
      (x.1, { x.2 with branches := x.2.branches.map fun y => { y with slot := none } }) }

/-- What gating the main regions loses (03 R87): the data queues and bindings, and without retention the contexts and the
Field Book. -/
def Dev.gateRegions (d : Dev) : Dev :=
  let e := if d.watch.opts.retain then d else { d.closeAll with fb := {} }
  { e.slotsOff with data := {}, trav.plan := none, trav.parking := [] }

/-- A calibration of SYN1 for CAL_RUN stops: SYN1_CAL_DONE with the counts so far (R622). -/
def Dev.stopSyn1Run (d : Dev) : Dev :=
  match d.cal.syn1Run with
  | none => d
  | some r => { d with cal.syn1Run := none }.emit 50 (u8 r.done ++ u8 r.failed ++ u8 0 ++ u8 0 ++ u32 r.fFail)

/-- WATCH begins (R618, R619): the ports stopped, LEAVE frames sent, the pins and PLLs as R619 has them, and the first hop to
entry 0. A CL_STREAM_OPEN that still waits ends ungranted (DEDUCED log 91). -/
def Dev.enterWatch (tAvg : Int) (d : Dev) : Dev :=
  let e := ((d.stopSyn1Run.gateRegions.stopAllOutputs.onlyIf d.cl.opening.isSome (Dev.answerLater .busy [])).fabricSleeps).inputsOff.watchAmp
  let e := { e with
    pwr.mode := .watch
    cal := { e.cal with runs := [], syn0Run := none, holdEnd := [none, none, none, none] }
    survey := { e.survey with runs := [], began := none, complete := 0, clipped := 0 }
    clk := { e.clk with pllA := .stopped, change := none, audOn := false, audState := 0, audSince := none, audPending := false, refFaults := [], syn1 := 1 }
    watch := { e.watch with
      phase := .watching, since := e.now, parked := false, current := none
      gpio := if d.watch.opts.gpio = 0xFF then none else some (d.watch.opts.gpio % 8, !hasBit d.watch.opts.gpio 7) } }
  (e.emit 49 (u8 0 ++ u8 0xFF ++ ub d.watch.opts.retain ++ u8 0)).hopTo 0 tAvg

/-- The row WATCH_ENTERED (R618), after the boundary that parked or closed the contexts. -/
def execWatchEntered (dt : Nat) (tAvg : Int) (s : State) : Host.Outcome State Fault Refusal :=
  s.runIf dt (fun d => d.active && d.watch.phase == .entering && d.watch.parked) (Dev.enterWatch tAvg)

/-! ## Leaving WATCH (R620) -/

/-- ACTIVE is reached (R620): PLL_A, PLL_D0 and the regions run, PLL_AUD relocks, inputs and amplifiers are off, Survey holds
nothing (11 R316), and the fabric ports start again (24 R672) (DEDUCED log 73). -/
def Dev.exitWatch (d : Dev) : Dev :=
  let e := (d.inputsOff.ampsOff).surveyDrop fun _ => true
  let e := { e with
    pwr.mode := .active
    clk := { e.clk with pllA := .locked, pllAOffset := 0, plldLive := 0, audState := 4, audSince := some d.now, syn1 := 0 }
    watch := { e.watch with phase := .off, since := d.now, current := none, hop := none, hopCal := false } }
  let e := e.emit 49 (u8 d.watch.exit.1 ++ u8 d.watch.exit.2 ++ ub d.watch.opts.retain ++ u8 0)
  (forAll (List.range 4) (fun p e => e.setCause p 5 false) e).rejoins.gpioRelease

/-- The row WATCH_EXIT_COMPLETE (R620). -/
def execWatchExitComplete (dt : Nat) (s : State) : Host.Outcome State Fault Refusal :=
  s.runIf dt (fun d => d.watching && d.watch.phase == .leaving) Dev.exitWatch

/-! ## SYN1 calibration (R611, R622; 10 R296) -/

/-- WATCH_WAKE with cause 0x01, list applied (R622, R625). -/
def Dev.listApplied (d : Dev) : Dev := d.emit 49 (u8 1 ++ u8 0xFF ++ ub d.watch.opts.retain ++ u8 0)

/-- A command that waited for SYN1 is executed (R622) (DEDUCED log 90). -/
def Dev.runWait (tAvg : Int) (w : WatchWait) (d : Dev) : Dev :=
  match w with
  | .list l =>
    (if d.inWatch then d.restartList l tAvg else { d with watch.next := some l, watch.nextDue := d.nextBoundary }).listApplied
  | .enter o => d.stopSyn1Run.beginWatch o

/-- The hop's calibration ended (R611): the entry is placed, or the channel fails and the receiver moves on. -/
def Dev.hopCalDone (okay : Bool) (band cap : Nat) (tAvg : Int) (d : Dev) : Dev :=
  match d.watch.hop with
  | none => d
  | some n =>
    let f := ((d.watch.list[n]?).map (·.freq)).getD 0
    if okay then
      { d with
        cal.syn1 := (placeSyn1 d.watchChannels (d.syn1New f band cap tAvg) d.cal.syn1).getD d.cal.syn1
        watch.hopCal := false }.emit 50 (u8 1 ++ u8 0 ++ u8 1 ++ u8 0 ++ u32 0)
    else
      (((d.emit 50 (u8 0 ++ u8 1 ++ u8 1 ++ u8 0 ++ u32 f)).setWatch n fun x => { x with result := 6 }).advance n tAvg)

/-- SYN1_CHANNEL_CAL_DONE: a channel of CAL_RUN, or of a hop; then the commands that waited (R622). -/
def Dev.syn1Done (okay : Bool) (band cap : Nat) (tAvg : Int) (d : Dev) : Dev :=
  let e := match d.cal.syn1Run with
    | some r => d.syn1RunStep r okay band cap tAvg
    | none => d.hopCalDone okay band cap tAvg
  d.watch.waits.foldl (fun e w => e.runWait tAvg w) { e with watch.waits := [] }

/-- The row SYN1_CHANNEL_CAL_DONE. -/
def execSyn1ChannelCalDone (dt : Nat) (ok : Bool) (band cap : Nat) (tAvg : Int) (s : State) :
    Host.Outcome State Fault Refusal :=
  s.runIf dt (fun d => match d.cal.syn1Run with
      | some r => d.active && decide (r.start ≤ d.now)
      | none => d.watching && d.watch.phase == .watching && d.watch.hopCal)
    (Dev.syn1Done ok band cap tAvg)

/-! ## Commands -/

/-- The entry that 12 bytes spell. -/
def watchEntryOf (b : List Byte) : WatchEntry :=
  { freq := at32 b 0, std := at8 b 4, flags := at8 b 5, gtype := at8 b 6, minLevel := at8 b 7, id := at32 b 8 }

/-- Settings of R610 that serve a standard. -/
def syn1Serves (std : Nat) : List (Nat × Nat) :=
  if std = 2 then syn1Ranges.take 2 else if std = 3 then syn1Ranges.drop 4 else (syn1Ranges.drop 2).take 2

/-- A field of the entry out of range (R613). -/
def WatchEntry.bad (e : WatchEntry) : Bool :=
  e.std == 1 || 4 < e.std || !(syn1Serves e.std).any (fun r => r.1 ≤ e.freq && e.freq ≤ r.2)
    || 4 ≤ e.flags || (e.std != 0 && e.flags != 0)
    || (if hasBit e.flags 0 then decide (31 < e.gtype) else e.gtype != 0)

/-- The list as accepted: the last one accepted and not yet applied stands before the one in force (DEDUCED log 89). -/
def Dev.stagedWatch (d : Dev) : List WatchEntry :=
  d.watch.waits.foldl (fun l w => match w with
    | .list x => x
    | .enter _ => l) (d.watch.next.getD d.watch.list)

/-- WATCH_LIST (R613, R622). -/
def watchListBody (tAvg : Int) : Body := fun q d =>
  let n := q.p8 0
  let l := (entriesOf 12 (q.params.drop 4)).map watchEntryOf
  checked d [(16 < n || q.len != 4 + 12 * n, .badLength), (!d.hasDrm && l.any (fun e => e.std == 3 || e.std == 4), .notFitted),
    (q.badHeader || !zeroAt q.params 1 3 || l.any WatchEntry.bad || hasRepeat (l.map fun e => 8 * e.freq + e.std), .badParam),
    (q.notSystem d, .notOwner)] <|
    if d.syn1Busy then deferred { d with watch.waits := d.watch.waits ++ [.list l] }
    else if !d.inWatch then ok { d with watch.next := some l, watch.nextDue := d.nextBoundary }
    else if d.watch.current.isSome then ok { d with watch.next := some l }
    else ok (d.restartList l tAvg)

/-- The row WATCH_LIST. -/
def execWatchList (dt : Nat) (tAvg : Int) (s : State) : Host.Outcome State Fault Refusal :=
  s.command dt 0x0D01 (watchListBody tAvg)

/-- WATCH_ENTER (R622, R623). -/
def watchEnterBody : Body := fun q d =>
  let (wake, retain, ax0, gpio, irq) := (q.p8 0, q.p8 1, q.p8 2, q.p8 3, q.p8 4)
  let o : WatchOpts := { wake := wake == 1, retain := retain == 1, ax0 := ax0, gpio := gpio, irq := irq == 1 }
  checked d [(q.len != 8, .badLength),
    (q.badHeader || 1 < wake || 1 < retain || 2 < ax0 || 1 < irq || (gpio != 0xFF && gpio / 8 % 16 != 0) || !zeroAt q.params 5 3, .badParam),
    (q.notSystem d, .notOwner),
    (d.inWatch || d.stagedWatch.isEmpty || !d.cal.runs.isEmpty || d.cal.syn0Run.isSome || d.sec.job.isSome
      || (ax0 != 0 && (d.inp 0).amp.faulted), .wrongState)] <|
    if d.syn1Busy then deferred { d with watch.waits := d.watch.waits ++ [.enter o] }
    else okWith (u64 d.now) (d.beginWatch o)

/-- The row WATCH_ENTER. -/
def execWatchEnter (dt : Nat) (s : State) : Host.Outcome State Fault Refusal := s.command dt 0x0D02 watchEnterBody

/-- state of WATCH_STATUS. -/
def WatchPhase.code : WatchPhase → Nat
  | .off => 0 | .entering => 1 | .watching => 2 | .leaving => 3

/-- Entry `n` as WATCH_STATUS gives it (R624): syn1 is 1 for a table entry that is valid. -/
def Dev.watchEntryBytes (d : Dev) (n : Nat) (e : WatchEntry) (tAvg : Int) : List Byte :=
  let syn1 := match d.cal.syn1.find? (·.freq == e.freq) with
    | none => 0
    | some x => if d.syn1Valid x tAvg then 1 else 2
  u8 n ++ u8 e.result ++ u8 e.level ++ u8 syn1 ++ u16 e.alerts ++ u16 e.dwells

/-- WATCH_STATUS (R624), with t_avg as the sensors last showed it. -/
def watchStatusBody : Body := fun q d =>
  let w := d.watch
  checked d [(q.len != 0, .badLength), (q.badHeader, .badParam)] <|
    okWith (u8 w.phase.code ++ u8 (bit w.opts.wake + 2 * bit w.opts.retain + 4 * bit w.opts.irq + 8 * bit d.syn1Busy)
      ++ u8 w.list.length ++ u8 (w.current.getD 0xFF) ++ u8 w.opts.ax0 ++ u8 w.opts.gpio ++ u16 0 ++ u32 w.cycles
      ++ u32 w.lastAlert ++ (indexed w.list).flatMap fun x => d.watchEntryBytes x.1 x.2 d.pwr.tAvg) d

/-- The row WATCH_STATUS. -/
def execWatchStatus (dt : Nat) (s : State) : Host.Outcome State Fault Refusal := s.command dt 0x0D03 watchStatusBody

end Sys2Proof.Machine
end

