-- ==== Sys2Proof/Machine/Fabric.lean ====
section
/-!
DEFINITION. Carillon links, discovery and routing (chapter 23): the ports and their neighbours, frames received and forwarded,
peals, the election, addresses, routes, and the commands CL_PORT, CL_JOIN, CL_LEAVE and CL_TOPOLOGY.
-/
namespace Sys2Proof.Machine

/-! ## Keys and small things -/

/-- FAB_KEY as read at boot (08 R229). -/
def Dev.fabKey (d : Dev) : List Byte := slice d.sec.fuseRead 0x2C 16
/-- The 8-byte MAC of a fabric message (23 R632, R633). -/
def Dev.fabMac (d : Dev) (msg : List Byte) : List Byte := mac8 d.fabKey msg
/-- The fabric key is present (08 R232). -/
def Dev.fabKeyed (d : Dev) : Bool := d.fabKeyState == 1
/-- Own P.CL_PREFERENCE. -/
def Dev.clPref (d : Dev) : Nat := d.propN P.clPreference
/-- The device is the Benchmark. -/
def Dev.isBench (d : Dev) : Bool := d.cl.loop == .benchmark
/-- Unique ID of the Benchmark held, none. -/
def Dev.benchUid (d : Dev) : List Byte := (d.cl.best.map (·.2)).getD []
/-- The quotient of `v` by `k`; a quotient that is not whole is rounded either way, as R667 and R668 leave open. -/
def Dev.divFree (d : Dev) (v : Int) (k : Nat) : Int := v / k + (if v % k != 0 && Config.roundsUp d.draws v then 1 else 0)

/-- The next peal serial, never 0 (R633). -/
def nextSerial (n : Nat) : Nat := if 65535 ≤ n then 1 else n + 1
/-- A number that unique IDs compare by. -/
def uidNum (u : List Byte) : Nat := leNat u

/-- A frame is discarded and counted (R631, R642). -/
def Dev.discard (d : Dev) : Dev := { d with cl.discarded := satAdd 0xFFFFFFFF d.cl.discarded 1 }

/-! ## Sending (R631, R633) -/

/-- A best-effort frame waits on port `p`; `own` says that this device originates it. -/
def Dev.queueFrame (p : Nat) (own : Bool) (b : List Byte) (d : Dev) : Dev :=
  d.setClPort p fun x => { x with waiting := x.waiting ++ [(own, b)] }
/-- Next port to an address, none without a route that carries (R638). -/
def Dev.routePort (d : Dev) (addr : Nat) : Option Nat := (d.cl.routes.find? fun r => r.addr == addr && !r.cut).bind (·.port)
/-- A best-effort frame of this device to address `to_`; without a route it is discarded (R631). -/
def Dev.sendTo (to_ typ seq : Nat) (payload : List Byte) (d : Dev) : Dev :=
  match d.routePort to_ with
  | some p => d.queueFrame p true (frameBytes to_ d.ownAddr typ 8 seq 0 0 0 payload)
  | none => d.discard
/-- A store-and-forward frame goes on by its route with ttl reduced by one (R631). -/
def Dev.relay (b : List Byte) (d : Dev) : Dev :=
  match d.routePort (frameDest b) with
  | some p => if frameTtl b ≤ 1 then d.discard else d.queueFrame p false (frameSet (frameTtl b - 1) (framePosOf b) (framePayload b) b)
  | none => d.discard
/-- A peal or LEAVE goes on to every UP port but `p`, unless it arrived with ttl 1 (R634). -/
def Dev.flood (p : Nat) (b : List Byte) (d : Dev) : Dev :=
  if frameTtl b ≤ 1 then d
  else forAll (d.upPorts.filter (· != p)) (fun k d => d.queueFrame k false (frameSet (frameTtl b - 1) (framePosOf b) (framePayload b) b)) d

/-- The pair of a peal enters the seen-cache (R634); a device's own peals enter it as they are sent (DEDUCED log 62). -/
def Dev.noteSeen (origin : List Byte) (serial : Nat) (d : Dev) : Dev :=
  { d with cl.seen := ((origin, serial) :: d.cl.seen).take 64 }

/-- A peal of this device (R633, R634). -/
def Dev.peal (kind refresh : Nat) (body : List Byte) (d : Dev) : Dev :=
  let n := d.cl.serial
  let best := d.cl.best.getD (d.clPref, d.uid)
  let h := d.uid ++ u8 kind ++ u8 d.clPref ++ u16 n ++ padTo 8 best.2 ++ u8 best.1 ++ u8 d.ownAddr ++ u16 refresh ++ body
  let f := frameBytes 0xFF d.ownAddr 2 8 n 0 0 0 (h ++ d.fabMac h)
  let e := forAll d.upPorts (fun p e => e.queueFrame p true f) d
  { e with cl.serial := nextSerial n }.noteSeen d.uid n

/-- The neighbours on ports 0-3 as a topology answer gives them (R633). -/
def Dev.ownNbrs (d : Dev) : List (List Byte) := d.cl.ports.map fun x => if x.mode == .up then padTo 8 x.neighbour else zeros 8
/-- A topology answer of this device; refresh 0 is unsolicited (R637). -/
def Dev.answerTopology (refresh : Nat) (d : Dev) : Dev := d.peal 2 refresh d.ownNbrs.flatten
/-- Links gone since the last scheduled table, once the neighbours `nbrs` of device `u` are heard: those of the table in use that they no
longer show join them (R638). -/
def Dev.linksGone (d : Dev) (u : List Byte) (nbrs : List (List Byte)) : List (List Byte × Nat) :=
  let old (p : Nat) : List Byte := ((d.cl.topo.find? (·.uid == u)).bind (·.nbrs[p]?)).getD (zeros 8)
  let lost := (List.range 4).filter fun p => old p != zeros 8 && old p != nbrs.getD p []
  d.cl.gone ++ (lost.map fun p => (u, p)).filter fun x => !d.cl.gone.contains x
/-- A change of the device's own links while it is joined floods an unsolicited answer (R637, 24 R672), which asks for a request
whoever is the Benchmark (DEDUCED log 144). -/
def Dev.tellLinks (d : Dev) : Dev :=
  d.onlyIf (d.cl.phase == .joined) fun d => { d with cl.unsolicited := true, cl.gone := d.linksGone d.uid d.ownNbrs }.answerTopology 0

/-! ## The Benchmark held (R635) -/

/-- CL_HOLDOVER with state "ended" (24 R674, R678). -/
def Dev.holdoverEnds (cause : Nat) (port : Option Nat) (d : Dev) : Dev :=
  d.emit 121 (u8 1 ++ u8 cause ++ u8 (port.getD 0xFF) ++ u8 0 ++ s32 d.cl.trim ++ u32 d.cl.holdRounds)

/-- PLL_A as the loop has it (04 R128, 24 R669, R673). -/
def Dev.steerPll (d : Dev) : Dev :=
  let st : PllAState := match d.cl.loop with
    | .tracking | .locked | .acquiring => .disciplined
    | .holdover => .holdover
    | .benchmark => if d.cl.trim = 0 then .locked else .disciplined
    | .none_ => .locked
  if d.clk.pllA == .stopped then d else { d with clk.pllA := st, clk.pllAOffset := d.cl.trim }

/-- The loop acquires, from the trim of the last lock (24 R669). -/
def Dev.acquire (cause : Nat) (d : Dev) : Dev :=
  { d with cl := { d.cl with
      loop := .acquiring, acquireCause := cause, trim := d.cl.lockTrim, integ := 65536 * d.cl.lockTrim, phi2 := none, slewing := false, near := 0, far := 0 } }.steerPll

/-- The device holds another Benchmark: CL_BENCHMARK_CHANGED; unless it is this device, the loop acquires to it and a
correction under the old one is abandoned (R635, 24 R669, R675). -/
def Dev.holdBest (b : Nat × List Byte) (d : Dev) : Dev :=
  let old := d.benchUid
  if d.cl.best == some b then d
  else if old == b.2 then { d with cl.best := some b }
  else
    let self := b.2 == d.uid
    let e := { d with cl.best := some b }.emit 120 (padTo 8 old ++ padTo 8 b.2 ++ u8 b.1 ++ ub self)
    if self then e
    else
      let e := e.onlyIf (e.cl.loop == .holdover) (Dev.holdoverEnds 3 none)
      let ports := e.cl.ports.map fun x => { x with toll := none }
      ({ e with cl.tollPort := none, cl.heldToll := [], cl.ports := ports } : Dev).acquire 2

/-- Candidate `a` is better than `b` (R635). -/
def betterThan (a b : Nat × List Byte) : Bool := b.1 < a.1 || (a.1 == b.1 && uidNum a.2 < uidNum b.2)

/-- An election runs without the departed Benchmark (R635). -/
def Dev.electWithout (u : List Byte) (d : Dev) : Dev :=
  let e := { d with cl.excluded := u :: d.cl.excluded.filter (· != u), cl.quiet := some 0, cl.announceAt := none }
  e.holdBest (d.clPref, d.uid)

/-- Unique ID `u` has left the fabric or the route table: an election runs where it was the Benchmark. -/
def Dev.departed (u : List Byte) (d : Dev) : Dev := d.onlyIf (u != d.uid && d.benchUid == u) (Dev.electWithout u)

/-! ## Addresses (R636) -/

/-- CL_DISCOVERY_DONE once per join, when the table names this device or is full (R636, R656). -/
def Dev.discovered (d : Dev) : Dev :=
  if d.cl.told || !(d.ownAddr != 0 || 32 ≤ d.cl.addrs.length) then d
  else
    let left := d.cl.heard.filter fun u => d.addrOf u == 0
    { d with cl.told := true }.emit 124
      (u8 d.ownAddr ++ u8 (d.addrOf d.benchUid) ++ u8 d.cl.addrs.length ++ u8 left.length ++ padTo 8 d.benchUid)

/-- Body of an address grant (R633). -/
def grantBody (t : List AddrEnt) : List Byte := u8 t.length ++ zeros 3 ++ t.flatMap fun x => padTo 8 x.uid ++ u8 x.addr
/-- The lowest free address from 0x02, none beyond the 32nd device. -/
def freeAddr (t : List AddrEnt) : Option Nat := ((List.range 31).map (· + 2)).find? fun a => !t.any (·.addr == a)
/-- `l` in ascending order of unique ID. -/
def byUid (l : List (List Byte)) : List (List Byte) := sortBy (fun u => [uidNum u]) l

/-- The Benchmark gives every device heard and unaddressed the lowest free address (R636). -/
def Dev.assigned (d : Dev) : List AddrEnt :=
  (byUid (d.cl.heard.filter (· != d.uid))).foldl (fun t u =>
    if t.any (·.uid == u) then t
    else match freeAddr t with
      | some a => t ++ [{ uid := u, addr := a }]
      | none => t) d.cl.addrs
/-- The Benchmark brings its table up to date and floods it after a change, or where `always` says so (R636). -/
def Dev.grantAddresses (always : Bool) (d : Dev) : Dev :=
  let t := d.assigned
  if always || t != d.cl.addrs then ({ d with cl.addrs := t }.peal 3 0 (grantBody t)).discovered else d

/-- The device becomes the Benchmark (R635, R636; 24 R669, R674): it takes address 0x01, adopts the table of the last grant
and floods it; a holdover ends without a step (DEDUCED log 96). -/
def Dev.becomeBench (d : Dev) : Dev :=
  let e := d.onlyIf (d.cl.loop == .holdover) (Dev.holdoverEnds 3 none)
  let t := { uid := d.uid, addr := 1 } :: d.cl.addrs.filter fun x => x.uid != d.uid && x.addr != 1
  let e := { e with cl := { e.cl with
    loop := .benchmark, addrs := t, tollPort := none, heldToll := [], phi2 := none, slewing := false, requestAt := none } }
  (e.steerPll).grantAddresses true

/-! ## Routes (R637, R638) -/

/-- The answer of unique ID `u`. -/
def answerOf (ans : List TopoAns) (u : List Byte) : Option TopoAns := ans.find? (·.uid == u)
/-- Answering neighbours of `u`, by port. -/
def nbrsOf (ans : List TopoAns) (u : List Byte) : List (Nat × List Byte) :=
  match answerOf ans u with
  | none => []
  | some a => (indexed a.nbrs).filter fun x => (answerOf ans x.2).isSome
/-- Unique IDs within `n` hops of `u`, each with its distance, nearest first. -/
def reach (ans : List TopoAns) (u : List Byte) : Nat → List (Nat × List Byte)
  | 0 => [(0, u)]
  | n + 1 =>
    let l := reach ans u n
    let new := (l.filter (·.1 == n)).flatMap fun x => (nbrsOf ans x.2).map (·.2)
    l ++ ((new.eraseDups).filter fun v => !l.any (·.2 == v)).map fun v => (n + 1, v)
/-- Hops from `u` to `v`, none beyond 8. -/
def hopsTo (ans : List TopoAns) (u v : List Byte) : Option Nat := ((reach ans u 8).find? (·.2 == v)).map (·.1)
/-- Next port and neighbour of `u` on its shortest path to `v`: a tie goes to the lower port (R637). -/
def nextHop (ans : List TopoAns) (u v : List Byte) : Option (Nat × List Byte) :=
  match hopsTo ans u v with
  | none => none
  | some n => (nbrsOf ans u).find? fun x => hopsTo ans x.2 v == some (n - 1)
/-- The addresses on the path from `u` to `v`, by fuel. -/
def pathFrom (ans : List TopoAns) (v : List Byte) : Nat → List Byte → List Nat
  | 0, u => ((answerOf ans u).map (·.addr)).toList
  | n + 1, u =>
    let here := ((answerOf ans u).map (·.addr)).toList
    if u == v then here
    else match nextHop ans u v with
      | some (_, w) => here ++ pathFrom ans v n w
      | none => here
/-- The path between two addresses, empty where there is none within 8 hops. -/
def pathOf (ans : List TopoAns) (src dest : Nat) : List Nat :=
  match ans.find? (·.addr == src), ans.find? (·.addr == dest) with
  | some a, some b => if (hopsTo ans a.uid b.uid).isSome then pathFrom ans b.uid 8 a.uid else []
  | _, _ => []

/-- The route table that answers give device `u` (R637). -/
def routesOf (ans : List TopoAns) (u : List Byte) : List RouteEnt :=
  (sortBy (fun a => [a.addr]) (ans.filter (·.addr != 0))).filterMap fun a =>
    match hopsTo ans u a.uid with
    | none => none
    | some 0 => some { addr := a.addr, port := none, hops := 0, uid := a.uid }
    | some n => (nextHop ans u a.uid).map fun x => { addr := a.addr, port := some x.1, hops := n, uid := a.uid }

/-- Addresses have left the route table: what they own passes to the port of HOST_SEL at the next boundary (07 R208), the slots of
streams from or to them come free (R643), and commands outstanding to them are given up (R647). -/
def Dev.dropAddrs (gone : List Nat) (d : Dev) : Dev :=
  let owned (o : Iface) : Bool := match o with
    | .fabric a => gone.contains a
    | _ => false
  let lost := (d.trav.ctxs.filter fun x => owned x.2.owner).map (·.1)
  let e : Dev := { d with
    proto.ownerGone := d.proto.ownerGone || owned d.proto.owner
    cl.orphans := d.cl.orphans ++ lost
    cl.grants := d.cl.grants.filter fun g => !(gone.contains g.src || gone.contains g.dest) }
  (e.cl.cmds.filter fun c => gone.contains c.dev).foldl (fun e c =>
    { e with cl.cmds := e.cl.cmds.filter (· != c) }.emit 123
      (u8 2 ++ u8 c.dev ++ u16 c.rseq ++ u16 (at16 c.packet 0) ++ u8 (at8 c.packet 2) ++ u8 0)) e

/-! ## Ports (R627, R628) -/

/-- Port `p` enters LINKED with a new challenge (R632). -/
def Dev.linkPort (p : Nat) (d : Dev) : Dev :=
  { d.setClPort p fun x => { x.toOff with mode := .linked, challenge := Config.entropy d.draws } with draws := d.draws + 1 }
/-- The routes over port `p` carry nothing until a table is made without them or anew (R638). -/
def Dev.cutRoutes (p : Nat) (d : Dev) : Dev :=
  { d with cl.routes := updWhere d.cl.routes (·.port == some p) fun r => { r with cut := true } }
/-- Port `p` leaves UP for the cause of R628, by `f`. -/
def Dev.leaveUp (p cause : Nat) (f : Dev → Dev) (d : Dev) : Dev := ((f (d.portDown p cause)).cutRoutes p).tellLinks

/-- The row PLL_F_LOCK (04; R648): the enabled ports enter TRAINING. -/
def execPllFLock (dt : Nat) (s : State) : Host.Outcome State Fault Refusal :=
  s.runIf dt (fun d => d.active && d.clk.pllFSince.isSome) fun d =>
    { d with
      clk.pllF := true, clk.pllFSince := none
      cl.ports := d.cl.ports.map fun x => if x.enabled && x.mode == .off then x.toTraining else x }

/-- The row CL_PORT_LINKED (R627): comma alignment, and `groups` consecutive code groups without code or disparity error, at least
1,024. -/
def execClPortLinked (dt port groups : Nat) (s : State) : Host.Outcome State Fault Refusal :=
  s.runIf dt (fun d => d.active && (d.clPort port).mode == .training && decide (1024 ≤ groups)) (Dev.linkPort port)

/-- Port `p` returns to TRAINING, with CL_PORT_DOWN where it was UP (R628). -/
def Dev.retrain (p cause : Nat) (d : Dev) : Dev :=
  let f (d : Dev) : Dev := d.setClPort p ClPortSt.toTraining
  match (d.clPort p).mode with
  | .up => d.leaveUp p cause f
  | .linked => f d
  | _ => d

/-- The row CL_SYNC_LOST (R628): `errors` code or disparity errors are counted; sync is lost where 4 or more lie within `groups` ≤ 256
code groups. -/
def execClSyncLost (dt port errors groups : Nat) (s : State) : Host.Outcome State Fault Refusal :=
  s.runIf dt Dev.active fun d =>
    let e := d.setClPort port fun x => if x.mode == .off then x else { x with errors := satAdd 0xFFFF x.errors errors }
    e.onlyIf (decide (4 ≤ errors) && decide (groups ≤ 256)) (Dev.retrain port 0)

/-- The row CL_SIGNAL_LOST (R628): the receive signal has been below the detector threshold for `below` ns, at least 1 µs. -/
def execClSignalLost (dt port below : Nat) (s : State) : Host.Outcome State Fault Refusal :=
  s.runIf dt (fun d => d.active && decide (1000 ≤ below)) (Dev.retrain port 1)

/-! ## HELLO (R632) -/

/-- The response to challenge `ch` by the device `u` on its port `p`. -/
def Dev.helloResponse (d : Dev) (ch u : List Byte) (p : Nat) : List Byte := d.fabMac (ch ++ padTo 8 u ++ u8 p)

/-- The HELLO of port `p` (DEDUCED log 93). -/
def Dev.helloFrame (d : Dev) (p : Nat) : List Byte :=
  let x := d.clPort p
  let r := if x.heard.isEmpty then zeros 8 else d.helloResponse x.heard d.uid p
  frameBytes 0 d.ownAddr 3 8 0 0 0 0
    (d.uid ++ leBytes 8 x.challenge.toNat ++ r ++ u8 p ++ u8 (at8 d.sec.fuseRead 0x28) ++ zeros 6)

/-- Port `p` sends its HELLO. -/
def Dev.sendHello (p : Nat) (d : Dev) : Dev :=
  { d.setClPort p fun x => { x with helloAt := some d.now, answered := !x.heard.isEmpty } with
    cl.tx := [{ port := p, at_ := d.now, bytes := d.helloFrame p }] }

/-- The row HELLO_SEND (R632): every 8 Rounds while LINKED, joining or joined, with a fabric key. -/
def execHelloSend (dt port : Nat) (s : State) : Host.Outcome State Fault Refusal :=
  s.runIf dt (fun d => d.active && d.joined && d.fabKeyed && (d.clPort port).mode == .linked
      && (match (d.clPort port).helloAt with
        | some t => decide (t + 8 * roundTicks ≤ d.now)
        | none => true)) (Dev.sendHello port)

/-- A port is drift-suspect as it reaches UP (24 R672). -/
def Dev.upSuspect (d : Dev) (x : ClPortSt) : Bool :=
  d.cl.phase != .joined || (match x.frameAt with
    | some t => decide (t + 16 * roundTicks ≤ d.now)
    | none => true)

/-- Port `p` passes to UP (R627, R656; 24 R672), with a last HELLO that acknowledges the neighbour's response (DESIGN CHOICE
log 63). -/
def Dev.portUp (p : Nat) (d : Dev) : Dev :=
  let x := d.clPort p
  let sus := d.upSuspect x
  let e := (d.sendHello p).setClPort p fun x => { x with mode := .up, suspect := sus }
  let e := if sus then { e with cl.suspects := satAdd 0xFFFF e.cl.suspects 1 } else e
  (e.emit (112 + p) (padTo 8 x.neighbour ++ u8 x.nbrPort ++ u8 x.nbrKey)).tellLinks

/-- A HELLO arrives on port `p` (R628, R632): its response is checked against the port's own challenge; a zero response is
none. -/
def Dev.hello (p : Nat) (b : List Byte) (d : Dev) : Dev :=
  let y := framePayload b
  let u := slice y 0 8
  let resp := slice y 16 8
  let x := d.clPort p
  let e := d.setClPort p fun x =>
    { x with heard := slice y 8 8, neighbour := u, nbrPort := at8 y 24, nbrKey := at8 y 25 }
  if resp.all (· == 0) then e
  else if resp == d.helloResponse (leBytes 8 x.challenge.toNat) u (at8 y 24) then
    e.onlyIf (x.mode == .linked && x.answered && d.joined) (Dev.portUp p)
  else if x.mode == .up then d.leaveUp p 3 (Dev.linkPort p)
  else e.portDown p 3

/-- The row HELLO_FRAME. -/
def execHelloFrame (dt port : Nat) (bytes : List Byte) (s : State) : Host.Outcome State Fault Refusal :=
  s.runIf dt (fun d => d.active && d.fabKeyed && ((d.clPort port).mode == .linked || (d.clPort port).mode == .up)) fun d =>
    if !headerGood bytes then d.discard
    else if frameType bytes != 3 || frameDest bytes != 0 then d
    else if !trailerGood bytes || (framePayload bytes).length != 32 then d.discard
    else d.hello port bytes

/-! ## Frames received on an UP port (R631, 24 R667) -/

/-- A frame is accepted by port `p` at arrival `x`: its arrival error moves by a sixteenth (24 R667). -/
def Dev.accepted (p : Nat) (x : Int) (d : Dev) : Dev :=
  let e := d.setClPort p fun y => { y with
    frameAt := some d.now, e := y.e.map fun v => v + d.divFree (x - v) 16 }
  { e with draws := e.draws + 1 }

/-- A frame lies outside the window of R667. -/
def Dev.outside (d : Dev) (p : Nat) (x : Int) : Bool := match (d.clPort p).e with
  | some v => 262 * 16 < (x - v).natAbs
  | none => false

/-- A frame other than a Toll arrives on UP port `p` (R631, 24 R667): discarded for its header CRC or its arrival, or handed
to `f`; a frame of another type is no frame of this row. -/
def Dev.receive (p : Nat) (x : Int) (b : List Byte) (isType : Nat → Bool) (f : Dev → Dev) (d : Dev) : Dev :=
  if (d.clPort p).mode != .up then d
  else if !headerGood b then d.discard
  else if !isType (frameType b) then d
  else if d.outside p x then { d with cl.window := satAdd 0xFFFFFFFF d.cl.window 1 }
  else f (d.accepted p x)

/-- The frame is addressed to this device or to its neighbour. -/
def Dev.isMine (d : Dev) (b : List Byte) : Bool := frameDest b == 0 || (frameDest b == d.ownAddr && d.ownAddr != 0)

/-- A store-and-forward frame: discarded for its CRC-32, delivered to `f`, or relayed (R631). -/
def Dev.storeForward (b : List Byte) (f : Dev → Dev) (d : Dev) : Dev :=
  if !trailerGood b then d.discard else if d.isMine b then f d else d.relay b

/-- Types of R630. -/
def typeDefined (t : Nat) : Bool := t == 1 || t == 2 || t == 3 || t == 6 || t == 0x10 || t == 0x11 || (0x20 ≤ t && t ≤ 0x23)

/-- The row RESERVED_FRAME (R630): forwarded by the route of its dest, discarded at its destination. -/
def execReservedFrame (dt port : Nat) (x : Int) (bytes : List Byte) (s : State) : Host.Outcome State Fault Refusal :=
  s.runIf dt Dev.active <| Dev.receive port x bytes (fun t => !typeDefined t) (Dev.storeForward bytes Dev.discard)

/-! ## LEAVE (R633, R634, R638) -/

/-- Streams and owners after addresses left are the callers'; a LEAVE of `u` is noted for the next boundary (R638). -/
def Dev.noteLeft (u : List Byte) (d : Dev) : Dev :=
  ({ d with cl.left := d.cl.left ++ [u], cl.heard := d.cl.heard.filter (· != u) }).departed u

/-- A LEAVE arrives on port `p`: with a right MAC it takes the neighbour's own port to LINKED; accepted once, it is flooded
and noted (DEDUCED log 94). -/
def Dev.leaveArrives (p : Nat) (b : List Byte) (d : Dev) : Dev :=
  let y := framePayload b
  let u := slice y 0 8
  let pair := (u, at16 y 8)
  if y.length != 18 || slice y 10 8 != d.fabMac (y.take 10) then { d with cl.refused := satAdd 0xFFFF d.cl.refused 1 }
  else
    let nbr := (d.clPort p).neighbour == u
    let e := if d.cl.seen.contains pair then { d with cl.refused := satAdd 0xFFFF d.cl.refused 1 }
      else ((d.noteSeen u pair.2).flood p b).noteLeft u
    e.onlyIf nbr (Dev.leaveUp p 2 (Dev.linkPort p))

/-- The row LEAVE_FRAME. -/
def execLeaveFrame (dt port : Nat) (x : Int) (bytes : List Byte) (s : State) : Host.Outcome State Fault Refusal :=
  s.runIf dt Dev.active <| Dev.receive port x bytes (· == 6) fun d =>
    if trailerGood bytes then d.leaveArrives port bytes else d.discard

/-! ## Joining and leaving (R649, R650) -/

/-- The join of an accepted CL_JOIN, or of a return to ACTIVE, at its boundary (R635, R649; 24 R669, R672): the LEAVE is
computed. -/
def Dev.join (d : Dev) : Dev :=
  let n := d.cl.serial
  let h := d.uid ++ u16 n
  let e := { d with cl := { d.cl.apart with
    phase := .discovering, serial := nextSerial n, leave := h ++ d.fabMac h, quiet := some 0, told := false } }
  (e.holdBest (d.clPref, d.uid)).acquire 1

/-- The leave of an accepted CL_LEAVE at its boundary (R650): LEAVE frames, the UP ports to LINKED, the tables empty. -/
def Dev.leaveNow (d : Dev) : Dev :=
  let ups := d.upPorts
  let e := d.sendLeaves.onlyIf d.cl.opening.isSome (Dev.answerLater .busy [])
  let e := forAll ups (fun p e => (e.portDown p 5).linkPort p) e
  let gone := (e.cl.routes.map (·.addr)) ++ (e.trav.ctxs.filterMap fun x => match x.2.owner with
    | .fabric a => some a
    | _ => none) ++ (match e.proto.owner with
    | .fabric a => [a]
    | _ => [])
  let e := (e.dropRemote).dropAddrs gone
  { e with cl := { e.cl.apart with orphans := e.cl.orphans } }.steerPll

/-- An accepted CL_PORT at its boundary (R627, R648). -/
def Dev.applyPort (p : Nat) (d : Dev) : Dev :=
  match (d.clPort p).next with
  | none => d
  | some (t, on) =>
    if d.now < t then d
    else
      let was := (d.clPort p).mode == .up
      let e := d.setClPort p fun x => { x with enabled := on, next := none }
      if on then
        if e.clk.pllF then e.setClPort p fun x => if x.mode == .off then x.toTraining else x
        else if e.clk.pllFSince.isNone then { e with clk.pllFSince := some e.now } else e
      else
        let off (d : Dev) : Dev := d.setClPort p ClPortSt.toOff
        let e := if was then e.leaveUp p 4 off else off e
        if e.cl.ports.any (·.enabled) then e else { e with clk.pllF := false, clk.pllFSince := none }

/-! ## Commands -/

/-- Port `p` is enabled, as accepted. -/
def Dev.portEnabled (d : Dev) (p : Nat) : Bool := match (d.clPort p).next with
  | some (_, b) => b
  | none => (d.clPort p).enabled

/-- CL_PORT (R648). -/
def clPortBody : Body := fun q d =>
  let (p, on) := (q.p8 0, q.p8 1)
  checked d [(q.len != 4, .badLength), (q.badHeader || 3 < p || 1 < on || !zeroAt q.params 2 2, .badParam),
    (q.notSystem d, .notOwner), (d.inWatch, .wrongState)] <|
    if d.portEnabled p == (on == 1) then okWith (u64 0) d
    else okWith (u64 d.nextBoundary) (d.setClPort p fun x => { x with next := some (d.nextBoundary, on == 1) })

/-- The row CL_PORT. -/
def execClPort (dt : Nat) (s : State) : Host.Outcome State Fault Refusal := s.command dt 0x0901 clPortBody

/-- CL_JOIN (R649). -/
def clJoinBody : Body := fun q d =>
  checked d [(q.len != 0, .badLength), (q.badHeader, .badParam), (q.notSystem d, .notOwner),
    (d.inWatch || d.joined || d.cl.joinDue.isSome || !(List.range 4).any d.portEnabled || !d.fabKeyed, .wrongState)] <|
    deferred { d with cl.joinDue := some d.nextBoundary }

/-- The row CL_JOIN. -/
def execClJoin (dt : Nat) (s : State) : Host.Outcome State Fault Refusal := s.command dt 0x0902 clJoinBody

/-- CL_LEAVE (R650). -/
def clLeaveBody : Body := fun q d =>
  checked d [(q.len != 0, .badLength), (q.badHeader, .badParam), (q.notSystem d, .notOwner),
    (d.inWatch || (!d.joined && d.cl.joinDue.isNone), .wrongState)] <|
    okWith (u64 d.nextBoundary) { d with cl.leaveDue := some d.nextBoundary }

/-- The row CL_LEAVE. -/
def execClLeave (dt : Nat) (s : State) : Host.Outcome State Fault Refusal := s.command dt 0x0903 clLeaveBody

/-- state of CL_TOPOLOGY. -/
def ClPhase.code : ClPhase → Nat
  | .apart => 0 | .discovering => 1 | .joined => 2
/-- State of a port (R627). -/
def ClPortMode.code : ClPortMode → Nat
  | .off => 0 | .training => 1 | .linked => 2 | .up => 3

/-- Entries of CL_TOPOLOGY (R654). -/
def Dev.topoEntries (d : Dev) (what : Nat) : List (List Byte) :=
  match what with
  | 0 => d.cl.routes.map fun r => u8 r.addr ++ u8 (r.port.getD (Config.selfPort % 256)) ++ u8 r.hops ++ u8 0 ++ padTo 8 r.uid
  | 1 => (indexed d.cl.ports).map fun x => u8 x.1 ++ u8 x.2.mode.code ++ u16 x.2.errors ++ padTo 8 x.2.neighbour
  | _ => d.cl.streams.map fun x => u16 x.stream ++ u8 x.ctx ++ u8 x.dest ++ u8 x.k ++ ub x.suspended ++ u8 x.first ++ u8 x.slots

/-- CL_TOPOLOGY (R654). -/
def clTopologyBody : Body := fun q d =>
  let what := q.p8 0
  let es := d.topoEntries what
  checked d [(q.len != 4, .badLength), (q.badHeader || 2 < what || !zeroAt q.params 1 3, .badParam), (d.inWatch, .wrongState)] <|
    okWith (u8 d.cl.phase.code ++ u8 d.ownAddr ++ u8 (d.addrOf d.benchUid) ++ u8 d.cl.routes.length ++ padTo 8 d.benchUid
      ++ u16 d.cl.refresh ++ u16 d.cl.refused ++ u32 d.cl.discarded ++ u8 es.length ++ zeros 3 ++ es.flatten) d

/-- The row CL_TOPOLOGY. -/
def execClTopology (dt : Nat) (s : State) : Host.Outcome State Fault Refusal := s.command dt 0x0906 clTopologyBody

end Sys2Proof.Machine
end

