-- ==== Sys2Proof/Machine/Peals.lean ====
section
/-!
DEFINITION. Peals and what they carry (chapters 23 and 24): announces and the election, topology and route tables, address
grants, slot requests, grants and releases, and the commands CL_STREAM_OPEN and CL_STREAM_CLOSE.
-/
namespace Sys2Proof.Machine

/-! ## Slots of a fabric Round (24 R663) -/

/-- The directed links of a path. -/
def linksOf : List Nat → List (Nat × Nat)
  | a :: b :: l => (a, b) :: linksOf (b :: l)
  | _ => []
/-- Slots that a frame of `c` slots from `s` takes on each link of a path: one more on every link after the first. -/
def slotUse (path : List Nat) (s c : Nat) : List ((Nat × Nat) × Nat × Nat) :=
  (indexed (linksOf path)).map fun x => (x.2, s, if x.1 = 0 then s + c - 1 else s + c)
/-- Two uses of links do not meet. -/
def usesApart (a b : List ((Nat × Nat) × Nat × Nat)) : Bool :=
  a.all fun x => b.all fun y => x.1 != y.1 || x.2.2 < y.2.1 || y.2.2 < x.2.1
/-- What a grant takes. -/
def GrantSt.uses (g : GrantSt) : List ((Nat × Nat) × Nat × Nat) := slotUse g.path g.first g.count
/-- `c` slots from `s` on a path fit beside the grants `gs` (R663). -/
def slotFits (gs : List GrantSt) (path : List Nat) (s c : Nat) : Bool :=
  2 ≤ path.length && 1 ≤ s && (if path.length = 2 then s + c ≤ 57 else s + c ≤ 56)
    && gs.all fun g => usesApart (slotUse path s c) g.uses
/-- The lowest slot that fits (R663). -/
def lowestSlot (gs : List GrantSt) (path : List Nat) (c : Nat) : Option Nat :=
  ((List.range 56).map (· + 1)).find? fun s => slotFits gs path s c

/-! ## Grants (24 R664, R665) -/

/-- The Round number whose low 32 bits are `v`, near the present one. -/
def Dev.roundNear (d : Dev) (v : Nat) : Nat :=
  let r := d.round / 2 ^ 32 * 2 ^ 32 + v % 2 ^ 32
  if r + 2 ^ 31 < d.round then r + 2 ^ 32 else r

/-- A release peal for `stream` (R665); a Benchmark that serves it answers itself. -/
def Dev.releasePeal (stream : Nat) (d : Dev) : Dev := d.peal 6 0 (u16 stream ++ zeros 2)

/-- A release of `stream` begins or is repeated now (R665). -/
def Dev.release (stream : Nat) (d : Dev) : Dev :=
  let rest := d.cl.releases.filter fun x => x.1 != stream
  { d with cl.releases := rest ++ [(stream, d.now)] }.releasePeal stream

/-- A grant that every device hears (R664): in force, ended, or to come free at the boundary of Round `r`. -/
def Dev.noteGrant (stream src dest first count result r : Nat) (d : Dev) : Dev :=
  let same (g : GrantSt) : Bool := g.stream == stream && g.src == src && g.freeAt.isNone
  let new : GrantSt := { stream := stream, src := src, dest := dest, first := first, count := count, path := pathOf d.cl.topo src dest }
  { d with cl.grants :=
      if result = 0 then
        if d.cl.grants.any same then updWhere d.cl.grants same fun _ => new else d.cl.grants ++ [new]
      else if result = 2 then updWhere d.cl.grants same fun (g : GrantSt) => { g with freeAt := some (r * roundTicks) }
      else d.cl.grants.filter fun g => !same g }

/-- The stream that CL_STREAM_OPEN waits for, where it is `stream`. -/
def Dev.openingOf (d : Dev) (stream : Nat) : Option StreamSt :=
  (d.cl.opening.map (·.1)).filter (·.stream == stream)

/-- A stream of this device is granted `count` slots from `first`, from boundary `t` on (R643, R651); slots for a stream that
it does not serve are given back (R665). -/
def Dev.streamGranted (stream first count t : Nat) (d : Dev) : Dev :=
  match d.openingOf stream with
  | some x =>
    let y := { x with first := first, slots := count, start := t }
    { d with cl.opening := none, cl.streams := d.cl.streams ++ [y] }.answerLater .ok (u64 t)
  | none =>
    if d.cl.streams.any fun x => x.bundle == stream && x.closeDue.isNone then
      { d with cl.streams := updWhere d.cl.streams (·.bundle == stream) fun x =>
          { x with first := first, slots := count, start := if x.suspended then t else x.start, suspended := false, asked := false } }
    else d.release stream

/-- A stream of this device is refused slots, or its grant ends (R651; 24 R664, R666). -/
def Dev.streamRefused (stream : Nat) (d : Dev) : Dev :=
  match d.openingOf stream with
  | some _ => { d with cl.opening := none }.answerLater .noEngine []
  | none =>
    { d with cl.streams := updWhere d.cl.streams (·.bundle == stream) fun x => { x with first := 0, suspended := true, asked := false } }

/-- A grant from the Benchmark held is accepted (R664, R665). -/
def Dev.acceptGrant (body : List Byte) (d : Dev) : Dev :=
  let (stream, src, dest, first, count, result) := (at16 body 0, at8 body 2, at8 body 3, at8 body 4, at8 body 5, at8 body 6)
  let r := d.roundNear (at32 body 8)
  let e := d.noteGrant stream src dest first count result r
  if src != d.ownAddr || src = 0 then e
  else match result with
    | 0 => e.streamGranted stream first count (r * roundTicks)
    | 1 => e.streamRefused stream
    | 2 => { e with cl.releases := e.cl.releases.filter (·.1 != stream) }
    | _ => e

/-- The Benchmark floods a grant that applies at Round `r`, and takes it itself (R664). -/
def Dev.sendGrant (stream src dest first count result r : Nat) (d : Dev) : Dev :=
  let body := u16 stream ++ u8 src ++ u8 dest ++ u8 first ++ u8 count ++ u8 result ++ u8 0 ++ u32 r
  let n := d.cl.serial
  ({ d.peal 5 0 body with cl.grantSerial := n }).acceptGrant body

/-- The Benchmark answers one request (R663, R664): 16 Rounds from now, or refused. -/
def Dev.answerRequest (q : SlotReq) (d : Dev) : Dev :=
  let src := d.addrOf q.uid
  let r := d.round + 16
  match d.cl.grants.find? fun g => g.stream == q.stream && g.src == src && g.freeAt.isNone with
  | some g => d.sendGrant q.stream src q.dest g.first g.count 0 r
  | none => match lowestSlot d.cl.grants (pathOf d.cl.topo src q.dest) q.count with
    | some s => d.sendGrant q.stream src q.dest s q.count 0 r
    | none => d.sendGrant q.stream src q.dest 0 q.count 1 r

/-- The requests that this Benchmark holds, in order (R664). -/
def Dev.answerRequests (d : Dev) : Dev :=
  d.cl.requests.foldl (fun d q => d.answerRequest q) { d with cl.requests := [] }

/-- The Benchmark answers a release (R665). -/
def Dev.answerRelease (u : List Byte) (stream : Nat) (d : Dev) : Dev :=
  let src := d.addrOf u
  let r := d.round + 16
  match d.cl.grants.find? fun g => g.stream == stream && g.src == src with
  | some g => d.sendGrant stream src g.dest g.first g.count 2 ((g.freeAt.map (· / roundTicks)).getD r)
  | none =>
    { d with cl.requests := d.cl.requests.filter fun q => !(q.uid == u && q.stream == stream) }.sendGrant stream src 0 0 0 2 r

/-- A stream of this device asks for its slots (R643, R651; 24 R664). -/
def Dev.askSlots (x : StreamSt) (d : Dev) : Dev :=
  let frame := if x.k = 3 then 0x10 else 0x11
  if d.isBench then { d with cl.requests := d.cl.requests ++
    [{ uid := d.uid, stream := x.bundle, dest := x.dest, k := x.k, count := x.slots, frame := frame }] }
  else d.peal 4 0 (u16 x.bundle ++ u8 x.dest ++ u8 x.k ++ u8 x.slots ++ u8 frame ++ zeros 2)

/-- A release that this device asks for, answered at once where it is the Benchmark (DEDUCED log 99). -/
def Dev.releaseOwn (stream : Nat) (d : Dev) : Dev :=
  let e := d.release stream
  if d.isBench then e.answerRelease d.uid stream else e

/-! ## The Toll port (24 R662) -/

/-- Ports whose Toll of the Round just ended qualifies: bit 0 clear, UP, and not drift-suspect unless the loop acquires, when
no other port may yet be in use (DEDUCED log 64). -/
def Dev.tollPorts (d : Dev) (held : Bool) : List (Nat × Nat) :=
  d.upPorts.filterMap fun p =>
    let x := d.clPort p
    match x.toll with
    | some t => if t.held == held && d.round ≤ t.round + 1 && (!x.suspect || d.cl.loop == .acquiring) then some (p, t.ttl) else none
    | none => none
/-- The best of them: highest ttl, then lowest port. -/
def Dev.bestToll (d : Dev) (held : Bool) : Option Nat :=
  (minBy (fun x => (8 - x.2) * 4 + x.1) (d.tollPorts held)).map (·.1)
/-- The Toll port is chosen anew (R662). -/
def Dev.chooseToll (d : Dev) : Dev :=
  match d.bestToll false with
  | some p => if d.cl.tollPort == some p then d else { d with cl.tollPort := some p, cl.phi2 := none }
  | none => d

/-! ## Topology (R637, R638) -/

/-- The number after a refresh number, never 0 (DEDUCED log 104). -/
def nextRefresh (n : Nat) : Nat := if 65535 ≤ n then 1 else n + 1

/-- A topology request numbered `n` begins a refresh (R637): every addressed device answers, this one too. A request that follows an
unsolicited answer is taken for one that it brought on (DEDUCED log 144). -/
def Dev.refreshBegins (n : Nat) (d : Dev) : Dev :=
  let own : List TopoAns := if d.ownAddr = 0 then [] else [{ uid := d.uid, addr := d.ownAddr, nbrs := d.ownNbrs }]
  let early := if d.cl.unsolicited then d.cl.early ++ [n] else d.cl.early
  let e := { d with
    cl.pending := d.cl.pending ++ [(n, boundaryAt (d.now + 64 * roundTicks), own)], cl.lastRefresh := n, cl.early := early, cl.unsolicited := false }
  e.onlyIf (d.ownAddr != 0 && !d.isBench) (Dev.answerTopology n)

/-- The interval of P.CL_REFRESH since the last scheduled request has passed, or there was none (R637). -/
def Dev.refreshDue (d : Dev) : Bool := match d.cl.requestAt with
  | some t => decide (t + d.propN P.clRefresh * roundTicks ≤ d.now)
  | none => true

/-- The row TOPOLOGY_REFRESH (R637): the Benchmark's request, at its interval or as the first, or after an unsolicited answer, which
leaves the interval as it runs. -/
def execTopologyRefresh (dt : Nat) (s : State) : Host.Outcome State Fault Refusal :=
  s.runIf dt (fun d => d.active && d.isBench && d.now % roundTicks == 0 && (d.cl.unsolicited || d.refreshDue)) fun d =>
    let n := nextRefresh d.cl.lastRefresh
    let e := if d.refreshDue then { d with cl.requestAt := some d.now, cl.unsolicited := false } else d
    (e.peal 1 n []).refreshBegins n

/-- The Benchmark checks one grant against the new paths (24 R666), beside those already checked and those that keep their
path. -/
def Dev.recheck (rest : List GrantSt) (g : GrantSt) (d : Dev) : Dev :=
  let path := pathOf d.cl.topo g.src g.dest
  let put (f : GrantSt → GrantSt) (d : Dev) : Dev := { d with cl.grants := updWhere d.cl.grants (· == g) f }
  if path == g.path || g.freeAt.isSome then d
  else
    let others := (d.cl.grants.filter (· != g)).filter fun h => !rest.contains h || h.path == pathOf d.cl.topo h.src h.dest
    if slotFits others path g.first g.count then put (fun g => { g with path := path }) d
    else match lowestSlot others path g.count with
      | some s => (put (fun g => { g with path := path, first := s }) d).sendGrant g.stream g.src g.dest s g.count 0 d.round
      | none => d.sendGrant g.stream g.src g.dest 0 g.count 1 d.round

/-- Every grant in the order first made. -/
def Dev.recheckAll (d : Dev) : Dev :=
  (indexed d.cl.grants).foldl (fun e x => e.recheck (d.cl.grants.drop (x.1 + 1)) x.2) d

/-- Presence of the devices of the address table at a refresh (R636): an address is given up after P.CL_ADDR_HOLD refreshes
without its device (DEDUCED log 97). -/
def Dev.countAbsent (ans : List TopoAns) (d : Dev) : Dev :=
  let t := d.cl.addrs.map fun x => if ans.any (·.uid == x.uid) then { x with absent := 0 } else { x with absent := x.absent + 1 }
  let gone := t.filter fun x => x.uid != d.uid && d.propN P.clAddrHold ≤ x.absent
  let e := { d with
    cl.addrs := t.filter fun x => !gone.contains x, cl.heard := d.cl.heard.filter fun u => !gone.any (·.uid == u) }
  e.grantAddresses (!gone.isEmpty)

/-- The streams whose destination the table no longer routes are suspended; suspended ones that it routes ask again, a bundle
once (R643). -/
def Dev.streamsByTable (d : Dev) : Dev :=
  let lost (x : StreamSt) : Bool := !d.inRoutes x.dest
  let e := { d with cl.streams := updWhere d.cl.streams lost fun x => { x with first := 0, suspended := true, asked := false } }
  let asks := (e.cl.streams.filter fun x => x.suspended && !x.asked && e.inRoutes x.dest && x.bundle == x.stream)
    ++ (e.cl.streams.filter fun x => x.suspended && !x.asked && e.inRoutes x.dest && x.bundle != x.stream
      && !e.cl.streams.any fun y => y.stream == x.bundle)
  asks.foldl (fun e x =>
    if e.cl.streams.any (fun y => y.bundle == x.bundle && y.asked) then e
    else { e with cl.streams := updWhere e.cl.streams (·.bundle == x.bundle) fun y => { y with asked := true } }.askSlots x) e

/-- Answers as table `n` takes them for what exists already (R638, 24 R672): all of them in a scheduled table; in one that an
unsolicited answer brought on, without links between known devices that are new or have returned. -/
def Dev.settledTopo (n : Nat) (ans : List TopoAns) (d : Dev) : List TopoAns :=
  if !d.cl.early.contains n then ans
  else ans.map fun a => match answerOf d.cl.topo a.uid with
    | none => a
    | some o => { a with nbrs := (indexed a.nbrs).map fun x =>
        if (answerOf d.cl.topo x.2).isSome && (o.nbrs.getD x.1 [] != x.2 || d.cl.gone.contains (a.uid, x.1)) then zeros 8 else x.2 }
/-- The route table of refresh `n`: a route that exists already goes by `settledTopo`, or stays as it is where that has none; one over
a port that is not UP now carries nothing. -/
def Dev.tableRoutes (n : Nat) (ans : List TopoAns) (d : Dev) : List RouteEnt :=
  let settled := routesOf (d.settledTopo n ans) d.uid
  (routesOf ans d.uid).map fun r =>
    let s : RouteEnt := match d.cl.routes.find? (·.addr == r.addr) with
      | some old => (settled.find? (·.addr == r.addr)).getD old
      | none => r
    { s with cut := s.cut || s.port.any fun p => (d.clPort p).mode != .up }

/-- A route table applies (R637, R638, R643, R647; 24 R662, R666). -/
def Dev.applyTable (n : Nat) (ans : List TopoAns) (d : Dev) : Dev :=
  let routes := d.tableRoutes n ans
  let gone := (d.cl.routes.map (·.addr)).filter fun a => !routes.any (·.addr == a)
  let e : Dev := { d with
    cl.routes := routes, cl.refresh := n, cl.topo := d.settledTopo n ans, cl.early := d.cl.early.filter (· != n)
    cl.gone := if d.cl.early.contains n then d.cl.gone else [] }
  let e := e.dropAddrs gone
  let e := e.onlyIf d.isBench (Dev.countAbsent ans)
  let e := e.onlyIf d.isBench Dev.recheckAll
  let e := e.streamsByTable.chooseToll
  e.onlyIf (!ans.any (·.uid == d.benchUid)) (Dev.departed d.benchUid)

/-- The row ROUTE_TABLE_APPLY (R637): the first Round boundary at least 64 Rounds after the request. -/
def execRouteTableApply (dt : Nat) (s : State) : Host.Outcome State Fault Refusal :=
  s.runIf dt (fun d => d.active && d.joined && d.now % roundTicks == 0) fun d =>
    match d.cl.pending with
    | [] => d
    | (n, due, ans) :: rest => if due ≤ d.now then { d with cl.pending := rest }.applyTable n ans else d

/-! ## Peals received (R633-R637; 24 R664, R665) -/

/-- A candidate that an accepted peal carries (R635): a departed Benchmark counts again once it announces itself. -/
def Dev.candidate (u : List Byte) (kind : Nat) (c : Nat × List Byte) (d : Dev) : Dev :=
  let back := kind == 0 && u == c.2
  if d.cl.excluded.contains c.2 && !back then d
  else
    let e := if back then { d with cl.excluded := d.cl.excluded.filter (· != u) } else d
    if e.cl.best.all (betterThan c) then { e.holdBest c with cl.quiet := some 0 } else e

/-- An announce of device `u` (R635, R636): a device not heard before runs the election again (DEDUCED log 98). -/
def Dev.announced (u : List Byte) (d : Dev) : Dev :=
  if d.cl.heard.contains u || u == d.uid then d
  else
    let e := { d with cl.heard := d.cl.heard ++ [u], cl.quiet := some (d.cl.quiet.getD 0) }
    e.onlyIf e.isBench (Dev.grantAddresses false)

/-- The entries of an address grant. -/
def addrEntries (body : List Byte) : List AddrEnt :=
  ((entriesOf 9 (body.drop 4)).take (at8 body 0)).map fun b => { uid := b.take 8, addr := at8 b 8 }

/-- An accepted peal of device `u` is delivered (R634-R637; 24 R664, R665). -/
def Dev.pealDelivered (u y : List Byte) (d : Dev) : Dev :=
  let (kind, addr, refresh, serial) := (at8 y 8, at8 y 21, at16 y 22, at16 y 10)
  let body := (y.take (y.length - 8)).drop 24
  let e := d.candidate u kind (at8 y 20, slice y 12 8)
  let fromBench := u == e.benchUid
  match kind with
  | 0 => e.announced u
  | 1 => e.onlyIf fromBench (Dev.refreshBegins refresh)
  | 2 =>
    let ans : TopoAns := { uid := u, addr := addr, nbrs := (entriesOf 8 body).take 4 }
    let gone := e.linksGone u ans.nbrs
    if refresh = 0 then { e with cl.unsolicited := true, cl.gone := gone }
    else
      { e with cl.gone := gone, cl.pending := updWhere e.cl.pending (·.1 == refresh) fun x =>
          (x.1, x.2.1, x.2.2.filter (·.uid != u) ++ [ans]) }
  | 3 => e.onlyIf fromBench fun e => { e with cl.addrs := addrEntries body }.discovered
  | 4 => e.onlyIf e.isBench fun e => { e with cl.requests := e.cl.requests ++
      [{ uid := u, stream := at16 body 0, dest := at8 body 2, k := at8 body 3, count := at8 body 4, frame := at8 body 5 }] }
  | 5 => e.onlyIf fromBench fun e => { e with cl.grantSerial := serial }.acceptGrant body
  | 6 => e.onlyIf e.isBench (Dev.answerRelease u (at16 body 0))
  | _ => e

/-- A peal arrives on port `p` (R634). -/
def Dev.pealArrives (p : Nat) (b : List Byte) (d : Dev) : Dev :=
  let y := framePayload b
  let n := y.length - 8
  let u := y.take 8
  if y.length < 32 || y.drop n != d.fabMac (y.take n) || d.cl.seen.contains (u, at16 y 10) then
    { d with cl.refused := satAdd 0xFFFF d.cl.refused 1 }
  else ((d.noteSeen u (at16 y 10)).flood p b).pealDelivered u y

/-- The row PEAL_FRAME. -/
def execPealFrame (dt port : Nat) (x : Int) (bytes : List Byte) (s : State) : Host.Outcome State Fault Refusal :=
  s.runIf dt Dev.active <| Dev.receive port x bytes (· == 2) fun d =>
    if trailerGood bytes then d.pealArrives port bytes else d.discard

/-- The row ANNOUNCE_PEAL_SEND (R635): every 8 Rounds while an election runs. -/
def execAnnouncePealSend (dt : Nat) (s : State) : Host.Outcome State Fault Refusal :=
  s.runIf dt (fun d => d.active && d.joined && d.cl.quiet.isSome && (match d.cl.announceAt with
      | some t => decide (t + 8 * roundTicks ≤ d.now)
      | none => true)) fun d => { d with cl.announceAt := some d.now }.peal 0 0 []

/-- The row DISCOVERY_QUIET_END (R635): 64 quiet Rounds. -/
def execDiscoveryQuietEnd (dt : Nat) (s : State) : Host.Outcome State Fault Refusal :=
  s.runIf dt (fun d => d.active && d.joined && d.cl.quiet.any (64 ≤ ·)) fun d =>
    let e := { d with cl.quiet := none, cl.phase := .joined }
    if d.benchUid == d.uid && !d.isBench then e.becomeBench else e

/-! ## Serving streams (R639-R643, R651, R652) -/

/-- Members that a bundle of `k` holds at most (R641). -/
def bundleMax (k : Nat) : Nat := if k = 6 then 4 else if k = 8 then 14 else 1

/-- A bundle that a new stream joins: same destination and k, sending or granted, and with room (R641). -/
def Dev.bundleFor (d : Dev) (dest k : Nat) : Option StreamSt :=
  if k = 3 then none
  else d.cl.streams.find? fun x => x.dest == dest && x.k == k && x.first != 0 && !x.suspended && x.closeDue.isNone
    && decide ((d.cl.streams.filter (·.bundle == x.bundle)).length < bundleMax k)

/-- CL_STREAM_OPEN (R651): joins a bundle at once, else the reply waits for the Benchmark. -/
def clStreamOpenBody : Body := fun q d =>
  let (dest, stream) := (q.p8 0, q.p16 2)
  let k := stdK (match d.ctx? q.ctx with | some x => x.std | none => 0)
  let open_ := match d.ctx? q.ctx with
    | some x => x.kind == 0x0B && x.tuning.isSome && x.closing.isNone
    | none => false
  checked d [(q.len != 8, .badLength),
    (q.badHeader || stream == 0 || stream == 0xFFFF || dest == 0 || 0x20 < dest || dest == d.ownAddr || q.p8 1 != 0 || q.p32 4 != 0, .badParam),
    (q.notSystem d, .notOwner),
    (d.inWatch || d.cl.phase != .joined || d.ownAddr == 0 || !open_ || d.cl.streams.any (fun x => x.ctx == q.ctx || x.stream == stream)
      || !d.inRoutes dest, .wrongState),
    (d.cl.releases.any (·.1 == stream), .busy)] <|
    let new : StreamSt := { stream := stream, ctx := q.ctx, dest := dest, k := k, bundle := stream, slots := if k = 3 then 2 else 1 }
    match d.bundleFor dest k with
    | some b =>
      let t := max d.nextBoundary b.start
      okWith (u64 t) { d with cl.streams := d.cl.streams ++
        [{ new with bundle := b.bundle, first := b.first, start := t, seq := b.seq }] }
    | none => { status := .ok, payload := [], dev := { d with cl.opening := some (new, d.now) }.askSlots new, later := true }

/-- The row CL_STREAM_OPEN. -/
def execClStreamOpen (dt : Nat) (s : State) : Host.Outcome State Fault Refusal := s.command dt 0x0904 clStreamOpenBody

/-- The row CL_STREAM_OPEN_TIMEOUT (R651; 24 R665): 8 Rounds without an answer. -/
def execClStreamOpenTimeout (dt : Nat) (s : State) : Host.Outcome State Fault Refusal :=
  s.runIf dt Dev.active fun d =>
    match d.cl.opening with
    | none => d
    | some (x, t) =>
      if t + 8 * roundTicks ≤ d.now then ({ d with cl.opening := none }.answerLater .busy []).releaseOwn x.stream else d

/-- The row STREAM_RELEASE_REPEAT (24 R665): every 16 Rounds until it is confirmed. -/
def execStreamReleaseRepeat (dt stream : Nat) (s : State) : Host.Outcome State Fault Refusal :=
  s.runIf dt (fun d => d.active && d.joined && d.cl.releases.any fun x => x.1 == stream && decide (x.2 + 16 * roundTicks ≤ d.now))
    (Dev.releaseOwn stream)

/-- CL_STREAM_CLOSE (R652). -/
def clStreamCloseBody : Body := fun q d =>
  let stream := q.p16 0
  let b := d.nextBoundary
  checked d [(q.len != 4, .badLength), (q.badHeader || stream == 0 || stream == 0xFFFF || q.p16 2 != 0, .badParam), (q.notSystem d, .notOwner),
    (d.inWatch || !d.cl.streams.any (fun x => x.stream == stream && x.closeDue.isNone), .wrongState)] <|
    okWith (u64 b) { d with cl.streams := updWhere d.cl.streams (·.stream == stream) fun x => { x with closeDue := some b } }

/-- The row CL_STREAM_CLOSE. -/
def execClStreamClose (dt : Nat) (s : State) : Host.Outcome State Fault Refusal := s.command dt 0x0905 clStreamCloseBody

/-- Streams that close at this boundary (R652): the last of a bundle releases its slots (R641). -/
def Dev.closeStreams (d : Dev) : Dev :=
  let due (x : StreamSt) : Bool := x.closeDue.any (· ≤ d.now)
  let rest := d.cl.streams.filter fun x => !due x
  let freed := ((d.cl.streams.filter fun x => due x && (x.first != 0 || x.asked) && !rest.any (·.bundle == x.bundle)).map (·.bundle)).eraseDups
  freed.foldl (fun e n => e.releaseOwn n) { d with cl.streams := rest }

/-- The row SLOT_GRANT_APPLY (24 R664): at its boundary a release's slots come free. -/
def execSlotGrantApply (dt : Nat) (s : State) : Host.Outcome State Fault Refusal :=
  s.runIf dt (fun d => d.active && d.joined && d.now % roundTicks == 0) fun d =>
    { d with cl.grants := d.cl.grants.filter fun g => !g.freeAt.any (· ≤ d.now) }

end Sys2Proof.Machine
end

