-- ==== Sys2Proof/Machine/Carillon.lean ====
section
/-!
DEFINITION. Traffic on the fabric (chapters 23 and 24): frames that cut through, streams into the combiner, fabric slots and
what is sent in them, remote commands, and the command CL_REMOTE.
-/
namespace Sys2Proof.Machine

/-! ## Cut-through (R631; 24 R659, R660) -/

/-- Start of slot `n` of the Round in which a frame sent in that slot is received now. -/
def Dev.slotStart (d : Dev) (n : Nat) : Nat := (d.now + roundTicks / 2 - 2048 * n) / roundTicks * roundTicks + 2048 * n
/-- Instant at which a frame is begun that leaves with `ttl` (R659). -/
def Dev.departure (d : Dev) (n ttl : Nat) : Nat := d.slotStart n + (8 - ttl) * 209
/-- The header of a frame that arrives at `x` is complete only after its departure instant (R660). -/
def headerLate (x : Int) : Bool := (209 - 71) * 16 < x

/-- A frame leaves on port `q` at `at_`. -/
def Dev.sends (q at_ : Nat) (b : List Byte) (d : Dev) : Dev :=
  { d with cl.tx := d.cl.tx ++ [{ port := q, at_ := at_, bytes := b }] }

/-- A cut-through frame goes on by its route (R631, R659, R660); a drift-suspect port sends nothing (R672). -/
def Dev.cutThrough (x : Int) (b : List Byte) (d : Dev) : Dev :=
  match d.routePort (frameDest b) with
  | none => d.discard
  | some q =>
    if frameTtl b ≤ 1 then d.discard
    else if headerLate x then { d with cl.late := satAdd 0xFFFFFFFF d.cl.late 1 }
    else if (d.clPort q).mode != .up || (d.clPort q).suspect then d.discard
    else
      let ttl := frameTtl b - 1
      { d with cl.tx := [] }.sends q (d.departure (framePosOf b % 64) ttl) (frameThrough ttl (framePayload b) b)

/-! ## Streams received (R642; 18 R511) -/

/-- The Round in which a frame was first sent, from its pos (R629). -/
def Dev.sentRound (d : Dev) (b : List Byte) : Nat :=
  let back := (d.round + 1024 - framePosOf b / 64 % 1024) % 1024
  if back < 512 then d.round - back else d.round + (1024 - back)

/-- Cause of R511 that a member header gives against the anchor's tuning, 0xFF clean: k `k`, flags and tune (R640)
(DEDUCED log 100). -/
def Dev.memberCause (d : Dev) (v : CmbSt) (k : Nat) (h : List Byte) : Nat :=
  let f := at8 h 3
  let bad := match d.ctx? v.anchor with
    | some a => leNat (slice h 4 3) != a.freq || k != stdK a.std || at8 h 7 % 32 != stdBank a.std
    | none => true
  if hasBit f 5 then 4 else if f % 8 != 0 then 1 else if hasBit f 3 then 2 else if bad then 3 else 0xFF

/-- Causes of the halves of one Round together. -/
def joinCause (a b : Nat) : Nat := if a = 0xFF then b else a

/-- Round `r` of a remote branch is known, unless it is already. -/
def BranchSt.note (r cause : Nat) (y : BranchSt) : BranchSt :=
  if y.hist.any (·.1 == r) then y else { y with hist := y.hist ++ [(r, cause)] }

/-- One frame of a remote branch with frame count `n` for Round `r`: a missing predecessor marks its Round lost; of a pair both
halves are needed (R641, R642). -/
def BranchSt.frame (r n cause : Nat) (pair second : Bool) (y : BranchSt) : BranchSt :=
  let gap := match y.count with
    | some c => (c + 1) % 65536 != n
    | none => second
  let z : BranchSt := { y with count := some n }
  if !pair then (if gap && 0 < r then z.note (r - 1) 0 else z).note r cause
  else if !second then { (if gap && 0 < r then z.note (r - 1) 0 else z) with half := some (r, cause) }
  else match z.half with
    | some (r1, c1) => if r1 = r && !gap then { z with half := none }.note r (joinCause c1 cause) else { z with half := none }.note r 0
    | none => z.note r 0

/-- Sample of 3 bytes with the exponent of its Round. -/
def sampleOf (t : Nat) (eo : Int) (flags : Nat) (b : List Byte) : SlotSample :=
  let v := leNat b
  { t := t, m := { re := wrapInt 12 (v % 4096 : Nat), im := wrapInt 12 (v / 4096 : Nat) }, eo := eo, hold := hasBit flags 0, noseg := hasBit flags 1
    lo := hasBit flags 2, settle := hasBit flags 3, sat := hasBit flags 4 }

/-- The samples that a member carries for Round `r`: `first` is the number of the first of them (R639-R641). -/
def memberSlots (r k first : Nat) (h : List Byte) : List SlotSample :=
  (indexed (entriesOf 3 (h.drop 8))).map fun b =>
    sampleOf (r * roundTicks + (first + b.1) * gridTicks k) (atS8 h 2) (at8 h 3) b.2

/-- A member's frame reaches every branch that CMB_CFG names for it; samples that come after their Round is combined are discarded
(18 R509). -/
def Dev.memberArrives (src stream r n k : Nat) (h : List Byte) (pair second : Bool) (d : Dev) : Dev :=
  { d with comb.services := d.comb.services.map fun x =>
      (x.1, { x.2 with branches := x.2.branches.map fun y =>
        if y.remote && y.source == src && y.stream == stream then
          let z := y.frame r n (d.memberCause x.2 k h) pair second
          if d.now ≤ (r + x.2.latency) * roundTicks then
            { z with dsp := { z.dsp with buf := z.dsp.buf ++ memberSlots r k (if second then 128 else 0) h } }
          else z
        else y }) }

/-- Some CMB_CFG names the stream. -/
def Dev.streamNamed (d : Dev) (src stream : Nat) : Bool :=
  d.comb.services.any fun x => x.2.branches.any fun y => y.remote && y.source == src && y.stream == stream

/-- Bytes of a member of k in a BUNDLE frame (R641). -/
def memberBytes (k : Nat) : Nat := if k = 6 then 104 else 32

/-- A STREAM or BUNDLE frame at its destination (R641, R642). -/
def Dev.streamArrives (b : List Byte) (d : Dev) : Dev :=
  let y := framePayload b
  let (src, k) := (frameSrc b, frameFlags b % 16)
  let r := d.sentRound b - 1
  let pair := frameType b == 0x10
  let members := if pair then [y] else entriesOf (memberBytes k) y
  if members.any fun m => d.streamNamed src (at16 m 0) then
    members.foldl (fun d m => d.memberArrives src (at16 m 0) r (frameSeq b) k m pair (hasBit (frameFlags b) 4)) d
  else d.discard

/-- A cut-through frame of types 0x10 and 0x11. -/
def Dev.streamFrame (x : Int) (b : List Byte) (d : Dev) : Dev :=
  if d.isMine b then (if trailerGood b then d.streamArrives b else d.discard) else d.cutThrough x b

/-- The row STREAM_FRAME. -/
def execStreamFrame (dt port : Nat) (x : Int) (bytes : List Byte) (s : State) : Host.Outcome State Fault Refusal :=
  s.runIf dt Dev.active <| Dev.receive port x bytes (· == 0x10) (Dev.streamFrame x bytes)

/-- The row BUNDLE_FRAME. -/
def execBundleFrame (dt port : Nat) (x : Int) (bytes : List Byte) (s : State) : Host.Outcome State Fault Refusal :=
  s.runIf dt Dev.active <| Dev.receive port x bytes (· == 0x11) (Dev.streamFrame x bytes)

/-! ## Remote commands (R644-R647) -/

/-- A REMOTE_CMD goes out, first or again. -/
def Dev.sendCmd (c : RemoteCmd) (d : Dev) : Dev := d.sendTo c.dev 0x20 c.rseq c.packet
/-- A REMOTE_REPLY goes out, first or again. -/
def Dev.sendRemoteReply (r : RemoteReply) (d : Dev) : Dev := d.sendTo r.dev 0x22 r.rseq r.bytes

/-- CL_REMOTE_CMD (R656). -/
def Dev.remoteEvent (kind dev rseq : Nat) (packet : List Byte) (status : Nat) (d : Dev) : Dev :=
  d.emit 123 (u8 kind ++ u8 dev ++ u16 rseq ++ u16 (at16 packet 0) ++ u8 (at8 packet 2) ++ u8 status)

/-- A duplicate is counted for CL_DUPLICATE (R656). -/
def Dev.duplicate (src rseq kind : Nat) (d : Dev) : Dev :=
  { d with cl.dups := satAdd 0xFFFF d.cl.dups 1, cl.lastDup := (src, rseq, kind) }

/-- `v` put first for key `k` of a table, of which 16 are kept. -/
def keep16 {α : Type} (t : List (Nat × List α)) (k : Nat) (v : α) : List (Nat × List α) :=
  tabSet t k ((v :: (tabGet t k).getD []).take 16)

/-- The REMOTE_ACK of R645. -/
def Dev.ackCmd (src rseq result : Nat) (d : Dev) : Dev := d.sendTo src 0x21 rseq (u8 result ++ zeros 3)

/-- A REMOTE_CMD at its target (R645). -/
def Dev.cmdArrives (b : List Byte) (d : Dev) : Dev :=
  let (src, n, packet) := (frameSrc b, frameSeq b, framePayload b)
  match ((tabGet d.cl.pairs src).getD []).find? (·.1 == n) with
  | some x => (d.duplicate src n 0).ackCmd src n x.2
  | none =>
    let keep (result : Nat) (d : Dev) : Dev := { d with cl.pairs := keep16 d.cl.pairs src (n, result) }.ackCmd src n result
    if d.prop P.clRemoteAccept = 0 then keep 2 d
    else if 8192 < queueBytes d.proto.q5 + packet.length then d.ackCmd src n 1
    else
      let p : QPkt := { src := .fabric src, doneAt := d.now, bytes := packet, serial := n }
      (keep 0 { d with proto.q5 := d.proto.q5 ++ [p] }).remoteEvent 0 src n packet 0

/-- The row REMOTE_CMD_FRAME. -/
def execRemoteCmdFrame (dt port : Nat) (x : Int) (bytes : List Byte) (s : State) : Host.Outcome State Fault Refusal :=
  s.runIf dt Dev.active <| Dev.receive port x bytes (· == 0x20) (Dev.storeForward bytes (Dev.cmdArrives bytes))

/-- A REMOTE_ACK at the sender (R644, R645): busy only restarts the wait. -/
def Dev.ackArrives (b : List Byte) (d : Dev) : Dev :=
  let (src, n, result) := (frameSrc b, frameSeq b, at8 (framePayload b) 0)
  let isIt (c : RemoteCmd) : Bool := c.dev == src && c.rseq == n
  match d.cl.cmds.find? isIt with
  | none => d
  | some c =>
    if result = 0 then { d with cl.cmds := updWhere d.cl.cmds isIt fun c => { c with acked := true } }
    else if result = 2 then { d with cl.cmds := d.cl.cmds.filter fun c => !isIt c }.remoteEvent 3 src n c.packet 0
    else { d with cl.cmds := updWhere d.cl.cmds isIt fun c => { c with sentAt := d.now } }

/-- The row REMOTE_ACK_FRAME. -/
def execRemoteAckFrame (dt port : Nat) (x : Int) (bytes : List Byte) (s : State) : Host.Outcome State Fault Refusal :=
  s.runIf dt Dev.active <| Dev.receive port x bytes (· == 0x21) (Dev.storeForward bytes (Dev.ackArrives bytes))

/-- A REMOTE_REPLY at the sender of its command (R646): every copy is acknowledged, the first is stored (DEDUCED log 101). -/
def Dev.replyArrives (b : List Byte) (d : Dev) : Dev :=
  let (src, n, y) := (frameSrc b, frameSeq b, framePayload b)
  let e := d.sendTo src 0x23 n []
  if ((tabGet d.cl.replySeqs src).getD []).contains n then e.duplicate src n 1
  else
    let e := { e with cl.replySeqs := keep16 e.cl.replySeqs src n }
    match d.cl.cmds.find? fun c => c.dev == src && c.rseq == n with
    | none => e
    | some c =>
      let mine := (c.src, n, y) :: e.cl.stored.filter fun x => x.1 == c.src
      let others := e.cl.stored.filter fun x => x.1 != c.src
      let left := e.cl.cmds.filter fun y => y != c
      let e := { e with cl.cmds := left, cl.stored := mine.take 8 ++ others }
      e.remoteEvent 1 src n y (at8 y 3)

/-- The row REMOTE_REPLY_FRAME. -/
def execRemoteReplyFrame (dt port : Nat) (x : Int) (bytes : List Byte) (s : State) : Host.Outcome State Fault Refusal :=
  s.runIf dt Dev.active <| Dev.receive port x bytes (· == 0x22) (Dev.storeForward bytes (Dev.replyArrives bytes))

/-- A REPLY_ACK at the target (R646). -/
def Dev.replyAckArrives (b : List Byte) (d : Dev) : Dev :=
  { d with cl.replies := d.cl.replies.filter fun r => !(r.dev == frameSrc b && r.rseq == frameSeq b) }

/-- The row REPLY_ACK_FRAME. -/
def execReplyAckFrame (dt port : Nat) (x : Int) (bytes : List Byte) (s : State) : Host.Outcome State Fault Refusal :=
  s.runIf dt Dev.active <| Dev.receive port x bytes (· == 0x23) (Dev.storeForward bytes (Dev.replyAckArrives bytes))

/-- A frame of this device of type `typ` with sequence `n` to `to_` still waits to be sent. -/
def Dev.waitsToSend (d : Dev) (to_ typ n : Nat) : Bool :=
  d.cl.ports.any fun x => x.waiting.any fun w => w.1 && frameType w.2 == typ && frameSeq w.2 == n && frameDest w.2 == to_

/-- The row REMOTE_CMD_RETRY_TIMEOUT (R644): 3 Rounds since the last send without an acknowledgement. -/
def execRemoteCmdRetryTimeout (dt rseq : Nat) (s : State) : Host.Outcome State Fault Refusal :=
  s.runIf dt Dev.active fun d =>
    let isIt (c : RemoteCmd) : Bool := c.rseq == rseq && !c.acked
    match d.cl.cmds.find? isIt with
    | none => d
    | some c =>
      if d.now < c.sentAt + 3 * roundTicks || d.waitsToSend c.dev 0x20 rseq then d
      else if d.propN P.clRemoteTries ≤ c.sends then
        { d with cl.cmds := d.cl.cmds.filter fun c => !isIt c }.remoteEvent 2 c.dev rseq c.packet 0
      else { d with cl.cmds := updWhere d.cl.cmds isIt fun c => { c with sends := c.sends + 1, sentAt := d.now } }.sendCmd c

/-- The row REMOTE_REPLY_RETRY_TIMEOUT (R646). -/
def execRemoteReplyRetryTimeout (dt device rseq : Nat) (s : State) : Host.Outcome State Fault Refusal :=
  s.runIf dt Dev.active fun d =>
    let isIt (r : RemoteReply) : Bool := r.dev == device && r.rseq == rseq
    match d.cl.replies.find? isIt with
    | none => d
    | some r =>
      if d.now < r.sentAt + 3 * roundTicks || d.waitsToSend device 0x22 rseq then d
      else if d.propN P.clRemoteTries ≤ r.sends then { d with cl.replies := d.cl.replies.filter fun r => !isIt r }
      else { d with cl.replies := updWhere d.cl.replies isIt fun r => { r with sends := r.sends + 1, sentAt := d.now } }.sendRemoteReply r

/-- Replies to fabric commands that have become ready go out (07 R196, R646). -/
def Dev.pumpReplies (d : Dev) : Dev :=
  d.proto.fabricOut.foldl (fun e x =>
    let r : RemoteReply := { dev := x.1, rseq := x.2.1, bytes := x.2.2, sends := 1, sentAt := e.now }
    { e with cl.replies := e.cl.replies ++ [r] }.sendRemoteReply r) { d with proto.fabricOut := [] }

/-- The row CL_DUPLICATE_REPORT (R656). -/
def execClDuplicateReport (dt : Nat) (s : State) : Host.Outcome State Fault Refusal :=
  s.runIf dt (fun d => d.active && d.now % roundTicks == 0 && d.cl.dups != 0 && (match d.cl.dupAt with
      | some t => decide (t + 800 * roundTicks ≤ d.now)
      | none => true)) fun d =>
    { d with cl.dups := 0, cl.dupAt := some d.now }.emit 125
      (u16 d.cl.dups ++ u8 d.cl.lastDup.1 ++ u16 d.cl.lastDup.2.1 ++ u8 d.cl.lastDup.2.2)

/-- Bytes in Q6: the packets not yet acknowledged (R644, 07 R223). -/
def Dev.q6Bytes (d : Dev) : Nat := ((d.cl.cmds.filter fun c => !c.acked).map (·.packet.length)).sum

/-- CL_REMOTE (R644, R653). -/
def clRemoteBody : Body := fun q d =>
  let (action, dev, rseq) := (q.p8 0, q.p8 1, q.p16 2)
  let packet := q.params.drop 4
  let send := action == 0
  let stored := d.cl.stored.find? fun x => x.1 == q.src && x.2.1 == rseq
  checked d [(q.len < 4 || (send && (packet.length < 10 || 448 < packet.length || packet.length != packetLength packet))
      || (action == 1 && q.len != 4), .badLength),
    (q.badHeader || 1 < action || (if send then dev == 0 || 0x20 < dev || dev == d.ownAddr || rseq != 0 else dev != 0), .badParam),
    (q.notSystem d, .notOwner),
    (d.inWatch || (send && (d.cl.phase != .joined || d.ownAddr == 0 || !d.inRoutes dev)) || (!send && stored.isNone), .wrongState),
    (send && 8192 < d.q6Bytes + packet.length, .queueFull)] <|
    if send then
      let n := d.cl.rseq
      let c : RemoteCmd := { rseq := n, dev := dev, packet := packet, src := q.src, sends := 1, sentAt := d.now }
      { status := .deferred, payload := u16 n ++ zeros 2
        dev := { d with cl.rseq := nextSerial n, cl.cmds := d.cl.cmds ++ [c] }.sendCmd c }
    else okWith ((stored.map (·.2.2)).getD []) d

/-- The row CL_REMOTE. -/
def execClRemote (dt : Nat) (s : State) : Host.Outcome State Fault Refusal := s.command dt 0x0907 clRemoteBody

/-! ## Fabric slots (R631, R639-R641; 24 R657, R658) -/

/-- Order of best-effort frames on a port (R631). -/
def frameRank (b : List Byte) : Nat :=
  match frameType b with
  | 0x21 | 0x23 => 0
  | 6 => 1
  | 2 => 2
  | 0x22 => 3
  | 0x20 => 4
  | _ => 5

/-- The frame that port `p` sends next: the first of the lowest rank. -/
def ClPortSt.nextFrame (x : ClPortSt) : Option (Nat × Bool × List Byte) :=
  minBy (fun y => frameRank y.2.2) ((indexed x.waiting).map fun y => (y.1, y.2.1, y.2.2))

/-- The port sends best-effort frames in slot `n` (R631, 24 R672): in slots 57-62 once it has Toll timing and is not
drift-suspect; before that at any time, 2,048 ticks apart (DEDUCED log 95). -/
def Dev.portMaySend (d : Dev) (n : Nat) (x : ClPortSt) : Bool :=
  x.mode == .up && (match x.e with
    | some _ => 57 ≤ n && n ≤ 62 && !x.suspect
    | none => match x.sentAt with
      | some t => decide (t + 2048 ≤ d.now)
      | none => true)

/-- A command or reply that leaves now starts its wait anew (R644, R646). -/
def Dev.noteSent (b : List Byte) (d : Dev) : Dev :=
  match frameType b with
  | 0x20 => { d with cl.cmds := updWhere d.cl.cmds (fun c => c.dev == frameDest b && c.rseq == frameSeq b) fun c => { c with sentAt := d.now } }
  | 0x22 => { d with cl.replies := updWhere d.cl.replies (fun r => r.dev == frameDest b && r.rseq == frameSeq b) fun r => { r with sentAt := d.now } }
  | _ => d

/-- One best-effort frame of port `p` in slot `n`: a frame that this device originates takes its pos now. -/
def Dev.sendBest (n p : Nat) (d : Dev) : Dev :=
  let x := d.clPort p
  if !d.portMaySend n x then d
  else match x.nextFrame with
    | none => d
    | some (i, own, b) =>
      let f := if own then frameSet (frameTtl b) (d.framePos n) (framePayload b) b else b
      let e := d.setClPort p fun x => { x with waiting := x.waiting.eraseIdx i, sentAt := some d.now }
      (e.sends p d.now f).onlyIf own (Dev.noteSent b)

/-- The samples of a stream for a Round, by number: none that is missing (R639). -/
def StreamSt.inRound (r : Nat) (x : StreamSt) : List SlotSample := x.buf.filter fun s => r * roundTicks ≤ s.t && s.t < (r + 1) * roundTicks
/-- Flags HOLD, NOSEG, LO_LOST, SETTLE and SAT of a Round in bits 0-4 (R640); a missing sample counts as NOSEG. -/
def streamFlags (full : Bool) (l : List SlotSample) : Nat :=
  bit (l.any (·.hold)) + 2 * bit (!full || l.any (·.noseg)) + 4 * bit (l.any (·.lo)) + 8 * bit (l.any (·.settle)) + 16 * bit (l.any (·.sat))
/-- A sample as 12 + 12 bits: the mantissa over 16 (R639). -/
def streamSample (m : Cx) : List Byte :=
  let q (v : Int) : Nat := ((saturate 12 (shiftRound v 4)).1 % 4096).toNat
  leBytes 3 (q m.re + 4096 * q m.im)
/-- The member header of a stream (R640). -/
def Dev.memberHeader (d : Dev) (x : StreamSt) : List Byte :=
  let l := x.inRound (d.round - 1)
  let eo := ((l.getLast?).map (·.eo)).getD 0
  let (freq, bank) := match d.ctx? x.ctx with
    | some c => (c.freq, match c.slot with
      | some n => (d.slot n).bank
      | none => stdBank c.std)
    | none => (0, 0)
  let stepped := d.cl.stepAt == some ((d.round - 1) * roundTicks)
  u16 x.stream ++ s8 (eo + 4) ++ u8 (streamFlags (l.length == slotPerRound x.k) l + 32 * bit stepped) ++ u32 (freq % 2 ^ 24 + 2 ^ 24 * (bank % 32))

/-- The samples of one member in one frame: those of the Round before, for k = 3 half of them, a missing one as zero. -/
def Dev.memberSamples (d : Dev) (second : Bool) (x : StreamSt) : List Byte :=
  let r := d.round - 1
  let per := if x.k = 3 then 128 else slotPerRound x.k
  let at_ (j : Nat) : Cx := ((x.buf.find? (·.t == r * roundTicks + j * gridTicks x.k)).map (·.m)).getD {}
  (List.range per).flatMap fun j => streamSample (at_ (if second then 128 + j else j))

/-- One frame of the streams `xs`, which share a bundle, in slot `n` (R641). -/
def Dev.sendStreams (n : Nat) (xs : List StreamSt) (d : Dev) : Dev :=
  match xs with
  | [] => d
  | x :: _ =>
    let second := x.first != n
    let body := xs.flatMap fun y => d.memberHeader y ++ d.memberSamples second y
    let typ := if x.k = 3 then 0x10 else 0x11
    let f := frameBytes x.dest d.ownAddr typ 8 x.seq (d.framePos n) x.bundle (x.k + (if second then 16 else 0)) body
    let e := { d with cl.streams := updWhere d.cl.streams (·.bundle == x.bundle) fun y => { y with seq := (y.seq + 1) % 65536 } }
    match d.routePort x.dest with
    | some p => e.onlyIf ((d.clPort p).mode == .up && !(d.clPort p).suspect) (Dev.sends p d.now f)
    | none => e

/-- A stream is sent in slot `n` now (R639, R641, R643). -/
def Dev.streamDue (d : Dev) (n : Nat) (x : StreamSt) : Bool :=
  !x.suspended && x.first != 0 && decide (x.start ≤ d.now) && (x.first == n || (x.k == 3 && x.first + 1 == n))

/-- A fabric slot starts (24 R657, R658): isochronous frames in slots 1-56, best-effort frames as `portMaySend` has it,
nothing in the guard slot. -/
def Dev.slotStarts (d : Dev) : Dev :=
  let n := d.now % roundTicks / 2048
  let due := d.cl.streams.filter (d.streamDue n)
  let groups := (due.map (·.bundle)).eraseDups
  let e := groups.foldl (fun e g => e.sendStreams n (due.filter (·.bundle == g))) { d.pumpReplies with cl.tx := [] }
  if n = 63 then e else forAll (List.range 4) (Dev.sendBest n) e

/-- The row FABRIC_SLOT_START. -/
def execFabricSlotStart (dt : Nat) (s : State) : Host.Outcome State Fault Refusal :=
  s.runIf dt (fun d => d.active && d.joined && d.now % 2048 == 0) Dev.slotStarts

end Sys2Proof.Machine
end

