-- ==== Sys2Proof/Machine/FabricTime.lean ====
section
/-!
DEFINITION. Carillon Rounds and Fabric Time (chapter 24): Tolls, the loop, the phase step, holdover, the fabric at a Round
boundary, and the command CL_TIME.
-/
namespace Sys2Proof.Machine

/-! ## Tolls (R661, R662, R667) -/

/-- A 16-bit field that holds `v` where 16 bits can. -/
def field16 (lo hi v : Int) : List Byte := if lo ≤ v && v ≤ hi then leInt 2 v else u16 (Config.narrowed v)
/-- fwd_err of the Tolls that a port sends: its arrival error, or not measured (R661). -/
def ClPortSt.fwdField (x : ClPortSt) : List Byte := match x.e with
  | some v => field16 (-32767) 32767 v
  | none => u16 0x8000
/-- Payload of a Toll. -/
def tollPayload (bench : List Byte) (time : Nat) (fwd : List Byte) (flags refresh grant : Nat) : List Byte :=
  padTo 8 bench ++ u64 time ++ fwd ++ u8 flags ++ u8 0 ++ u16 refresh ++ u16 grant ++ zeros 8
/-- The port sends Tolls: UP, and if drift-suspect, once it has accepted one (R672). -/
def ClPortSt.tolls (x : ClPortSt) : Bool := x.mode == .up && (!x.suspect || x.toll.isSome)
/-- Ports that send Tolls. -/
def Dev.tollingPorts (d : Dev) : List Nat := indicesWhere d.cl.ports ClPortSt.tolls

/-- The Tolls that this device originates at its Round boundary (R661, R673). -/
def Dev.originateTolls (d : Dev) : Dev :=
  let flags := bit (d.cl.loop == .holdover) + 2 * bit d.isBench
  forAll d.tollingPorts (fun p e => e.sends p d.now (frameBytes 0xFF d.ownAddr 1 8 0 (d.framePos 0) 0 0
    (tollPayload d.benchUid d.now (d.clPort p).fwdField flags d.cl.refresh d.cl.grantSerial))) d

/-- The Toll `b` goes on, in the Round that began at `start`: on every port that sends Tolls, each with its own fwd_err, flags
bit 1 cleared (R659, R662). -/
def Dev.passToll (start : Nat) (b : List Byte) (d : Dev) : Dev :=
  let y := framePayload b
  let ttl := frameTtl b - 1
  if frameTtl b ≤ 1 then d
  else forAll d.tollingPorts (fun p e => e.sends p (start + (8 - ttl) * 209)
    (frameThrough ttl (y.take 16 ++ (d.clPort p).fwdField ++ u8 (at8 y 18 % 2 + at8 y 18 / 4 * 4) ++ y.drop 19) b)) d

/-- The Toll counts for this device: it names the Benchmark held, or the device is still discovering and holds itself
(DEDUCED log 65). -/
def Dev.tollCounts (d : Dev) (bench : List Byte) : Bool :=
  bench == d.benchUid || (d.cl.phase == .discovering && d.benchUid == d.uid)

/-- A Toll on the Toll port goes on at once; while the loop acquires, in the next slot 0 of this device's own grid (R659, R660,
R662; DEDUCED log 66). -/
def Dev.forwardToll (p : Nat) (x : Int) (b : List Byte) (d : Dev) : Dev :=
  match d.cl.loop with
  | .acquiring => if d.cl.tollPort.all (· == p) then { d with cl.heldToll := b } else d
  | .tracking | .locked =>
    if d.cl.tollPort != some p then d
    else if headerLate x then { d with cl.late := satAdd 0xFFFFFFFF d.cl.late 1 }
    else { d with cl.tx := [] }.passToll (d.slotStart 0) b
  | _ => d

/-- A Toll is accepted on port `p` at arrival `x` (R662, R667, R668, R672): a drift-suspect port that accepts two in agreement
passes to normal at the second boundary from there. -/
def Dev.tollAccepted (p : Nat) (x : Int) (b : List Byte) (d : Dev) : Dev :=
  let y := framePayload b
  let v := d.clPort p
  let agrees := v.tollX.any fun t => (x - t).natAbs ≤ 262 * 16
  let e := d.setClPort p fun v => { v with
    e := some (match v.e with | some w => w + d.divFree (x - w) 16 | none => x)
    frameAt := some d.now, toll := some { round := d.round, ttl := frameTtl b, held := hasBit (at8 y 18) 0 }
    fwdErr := if at16 y 16 = 0x8000 then none else some (atS16 y 16)
    tollX := some x
    normalDue := if v.suspect && agrees && d.cl.loop != .acquiring && v.normalDue.isNone then some (d.nextBoundary + roundTicks) else v.normalDue }
  { e with draws := e.draws + 1 }

/-- A frame of type 1 arrives on port `p`. -/
def Dev.tollArrives (p : Nat) (x : Int) (b : List Byte) (d : Dev) : Dev :=
  if (d.clPort p).mode != .up then d
  else if !headerGood b then d.discard
  else if frameType b != 1 then d
  else if !d.tollCounts (slice (framePayload b) 0 8) then d.discard
  else
    let e := if trailerGood b && (framePayload b).length == 32 then d.tollAccepted p x b else d.discard
    e.forwardToll p x b

/-- The row TOLL_FRAME. -/
def execTollFrame (dt port : Nat) (x : Int) (bytes : List Byte) (s : State) : Host.Outcome State Fault Refusal :=
  s.runIf dt Dev.active (Dev.tollArrives port x bytes)

/-- The row CL_PORT_DRIFT_SUSPECT (R672): 16 Rounds without an accepted frame. -/
def execClPortDriftSuspect (dt port : Nat) (s : State) : Host.Outcome State Fault Refusal :=
  s.runIf dt (fun d => d.active && (d.clPort port).mode == .up && !(d.clPort port).suspect
      && (d.clPort port).frameAt.all fun t => decide (t + 16 * roundTicks ≤ d.now)) fun d =>
    { d.setClPort port fun x => { x with suspect := true, toll := none, tollX := none, normalDue := none } with
      cl.suspects := satAdd 0xFFFF d.cl.suspects 1 }

/-! ## The phase step (R670, R671) -/

/-- Every count of Rounds that Traverse runs keeps its length: `f` moves its times (R671). -/
def Dev.moveTraverse (f : Nat → Nat) (d : Dev) : Dev :=
  let park (p : ParkSt) : ParkSt := { p with since := f p.since }
  { d with
    trav.ctxs := d.trav.ctxs.map fun x => (x.1, { x.2 with
      dispatched := f x.2.dispatched, dwellEnd := x.2.dwellEnd.map f, waitFrom := x.2.waitFrom.map f, park := x.2.park.map park })
    trav.insts := d.trav.insts.map fun x => (x.1, { x.2 with
      dispatched := f x.2.dispatched, dwellEnd := x.2.dwellEnd.map f, waitFrom := x.2.waitFrom.map f, park := x.2.park.map park })
    trav.acts := d.trav.acts.map fun a => { a with due := f a.due } }

/-- Calibration runs keep their times; a pair that spans the step disagrees (R671, 10 R283). -/
def Dev.moveCal (f : Nat → Nat) (d : Dev) : Dev :=
  let spans (r : CalRun) : Bool := r.began && r.outcome.isNone && decide (r.start + (2 + 8 * (r.passes - r.passes % 2)) * roundTicks < d.now)
  { d with
    cal.runs := d.cal.runs.map fun r => { r with
      broken := r.broken || spans r, start := f r.start, outcome := r.outcome.map fun o => (o.1, f o.2) }
    cal.syn0Run := d.cal.syn0Run.map fun r => { r with start := f r.start }
    cal.syn1Run := d.cal.syn1Run.map fun r => { r with start := f r.start }
    cal.holdEnd := d.cal.holdEnd.map fun t => t.map f }

/-- Waits that REFCLK or a bus counts keep their length (DESIGN CHOICE log 107). -/
def Dev.moveWaits (f : Nat → Nat) (d : Dev) : Dev :=
  { d with
    rf.syn0Since := f d.rf.syn0Since, clk.audSince := d.clk.audSince.map f, clk.change := d.clk.change.map fun c => { c with since := f c.since }
    twc.since := f d.twc.since, tw.lastStop := d.tw.lastStop.map f }

/-- The waits of the fabric keep their length. -/
def Dev.moveFabric (f : Nat → Nat) (d : Dev) : Dev :=
  { d with cl := { d.cl with
    ports := d.cl.ports.map fun x => { x with frameAt := x.frameAt.map f, helloAt := x.helloAt.map f, sentAt := x.sentAt.map f }
    announceAt := d.cl.announceAt.map f, requestAt := d.cl.requestAt.map f, dupAt := d.cl.dupAt.map f
    pending := d.cl.pending.map fun x => (x.1, f x.2.1, x.2.2)
    opening := d.cl.opening.map fun x => (x.1, f x.2)
    releases := d.cl.releases.map fun x => (x.1, f x.2)
    cmds := d.cl.cmds.map fun c => { c with sentAt := f c.sentAt }
    replies := d.cl.replies.map fun r => { r with sentAt := f r.sentAt } } }

/-- The segment down-converters restart their decimation on the new grid; every running slot starts again with the state it holds,
settling; the audio that it fed is released afresh (R671; 12 R339, 14 R393). -/
def Dev.restartSlots (d : Dev) : Dev :=
  let e := (d.trav.ctxs.filter fun x => x.2.slot.isSome && x.2.std ≤ 1).foldl (fun d x => d.nbCut x.1) d
  { e with
    chan.slots := d.chan.slots.map fun x =>
      if x.user.isSome then { x with r := 8, settleFrom := d.now, dsp := { x.dsp with next := d.now, cNow := x.c, cNext := [], peak := 0, last := {} } } else x
    rf.segs := d.rf.segs.map fun x => { x with line := [], mid := [], low := [] } }

/-- Datum time after a step of `k` ticks: 64 bits (01 R26). -/
def stepTime (now : Nat) (k : Int) : Nat := (((now : Int) + k) % ((2 ^ 64 : Nat) : Int)).toNat

/-- Datum time steps by `k` ticks at this boundary (R670, R671, R678): CL_PHASE_STEP, and the effects on the segments, slots,
visits, calibration, combiners and streams. The arrival errors of the ports move with it (DEDUCED log 67)
(DEDUCED log 106) (DESIGN CHOICE log 107). -/
def Dev.phaseStep (k : Int) (cause port : Nat) (d : Dev) : Dev :=
  let t := stepTime d.now k
  let e := d.emit 122 (u8 cause ++ u8 port ++ u16 0 ++ leInt 8 k ++ u32 (roundOf t))
  let move (u : Nat) : Nat := ((u : Int) + k).toNat
  let moveRound (u : Nat) : Nat := ((u : Int) + ((roundOf t * roundTicks : Nat) : Int) - d.now).toNat
  let e := (((e.moveTraverse moveRound).moveCal move).moveFabric move).moveWaits move
  let port (x : ClPortSt) : ClPortSt := { x with
    e := x.e.map (· + 16 * k), fwdErr := x.fwdErr.map (· - 16 * k), tollX := none, normalDue := none
    toll := x.toll.map fun y => { y with round := roundOf t } }
  let e := { e with
    now := t, survey.runs := []
    clk.lastChange := e.clk.lastChange.map fun b => ((b : Int) + roundOf t - roundOf d.now).toNat
    cl := { e.cl with
      ports := e.cl.ports.map port
      phi2 := e.cl.phi2.map (· + 32 * k), lastStep := k, steps := satAdd 0xFFFF e.cl.steps 1
      stepAt := some (roundOf t * roundTicks), heldToll := [] } }
  e.restartSlots.dropHistory

/-! ## The loop (R668-R670) -/

/-- Twice the offset φ of port `p`, 1/16 tick (R668). -/
def Dev.phiOf (d : Dev) (p : Nat) : Option Int := match (d.clPort p).e, (d.clPort p).fwdErr with
  | some e, some f => some (e - f)
  | _, _ => none

/-- Tracking and locked by the Rounds that φ stays within 1 tick, or leaves 4 (R669). -/
def ClSt.settle (v : Int) (x : ClSt) : ClSt :=
  let near := if v.natAbs < 32 then x.near + 1 else 0
  let far := if 128 ≤ v.natAbs then x.far + 1 else 0
  match x.loop with
  | .tracking => if 64 ≤ near then { x with loop := .locked, near := 0, far := 0 } else { x with near := min 64 near, far := 0 }
  | .locked => if 8 ≤ far then { x with loop := .tracking, near := 0, far := 0 } else { x with near := 0, far := min 8 far }
  | _ => x

/-- φ calls for the correction of R670: it is first known while acquiring, or has changed by more than 64 ticks. -/
def Dev.jumped (d : Dev) (v : Int) : Bool :=
  d.cl.loop == .acquiring || d.cl.phi2.any fun w => decide (2048 < (v - w).natAbs)

/-- Trim that moves datum time by 1 tick in a Round, ppb: 7.63 ppm (R670). -/
def slewTrim : Int := 7629

/-- One Round of the second-order loop at the phase of `v` / 32 ticks (R669, R670): it integrates φ, or, in a slew, its integral stands and
1 tick per Round is added toward zero (DEDUCED log 142). The gains follow from the damping and the bandwidth of P.CL_LOOP_BW, for which
the spec gives no formula (UNVERIFIED log 134); the trim stays within the ±150 ppm of 04 R108. -/
def ClSt.loopRound (bw : Nat) (v : Int) (slew : Bool) (x : ClSt) : ClSt :=
  let (kp, ki) := Config.loopGain (5 + bw) true
  let clip (t : Int) : Int := max (-150000) (min 150000 t)
  if slew then { x with trim := clip (openDiv x.integ 65536 - v.sign * slewTrim) }
  else
    let integ := x.integ - ki * v
    { x with integ := integ, trim := clip (openDiv (integ - kp * v) 65536) }

/-- One Round of the loop, fed with φ of the Toll port (R108, R669, R670). -/
def Dev.disciplined (d : Dev) : Dev :=
  match d.cl.tollPort with
  | none => d
  | some p => match d.phiOf p with
    | none => d
    | some v =>
      let steps := d.jumped v && decide (2048 < v.natAbs)
      let cause := if d.cl.loop == .acquiring then d.cl.acquireCause else 3
      let slew := (d.jumped v || d.cl.slewing) && (steps || decide (32 ≤ v.natAbs))
      let left := if steps then v - 32 * roundAway v 32 else v
      let y := d.cl.loopRound (d.propN P.clLoopBw) left slew
      let x := { y with phi2 := some v, trims := (y.trim :: d.cl.trims).take 64, slewing := slew }
      let x := if d.cl.loop == .acquiring then { x with loop := .tracking, near := 0, far := 0 } else x.settle v
      let e := ({ d with cl := { x with lockTrim := if x.loop == .locked then x.trim else x.lockTrim } } : Dev).steerPll
      if steps then e.phaseStep (-(roundAway v 32)) cause p else e

/-! ## Holdover (R673, R674) -/

/-- Mean of the trims of the last 64 Rounds. -/
def Dev.meanTrim (d : Dev) : Int := if d.cl.trims.isEmpty then d.cl.trim else d.divFree d.cl.trims.sum d.cl.trims.length

/-- Why no port qualifies as Toll port at this boundary, none while the Toll port is only being missed (R673, R678). -/
def Dev.lossCause (d : Dev) : Option Nat := match d.cl.tollPort with
  | none => none
  | some p =>
    let x := d.clPort p
    if x.mode != .up then some 0
    else match x.toll with
      | none => some 1
      | some t =>
        if t.round + d.propN P.clTollLoss < d.round then some 1
        else if t.held && (d.bestToll true).isSome then some 2 else none

/-- Holdover begins (R673, R678); a device that still receives Tolls of an upstream holdover follows them. -/
def Dev.enterHoldover (cause : Nat) (d : Dev) : Dev :=
  let trim := d.meanTrim
  let e := { d with draws := d.draws + 1, cl := { d.cl with
    loop := .holdover, trim := trim, holdCause := cause, holdRounds := 0, holdovers := satAdd 0xFFFF d.cl.holdovers 1
    tollPort := if cause = 2 then d.bestToll true else none, slewing := false, near := 0, far := 0, heldToll := [] } }
  (e.emit 121 (u8 0 ++ u8 cause ++ u8 (d.cl.tollPort.getD 0xFF) ++ u8 0 ++ s32 trim ++ u32 0)).steerPll

/-- The row CL_TOLL_LOSS (R673): at a boundary no port qualifies. -/
def execClTollLoss (dt : Nat) (s : State) : Host.Outcome State Fault Refusal :=
  s.runIf dt (fun d => d.active && d.joined && d.now % roundTicks == 0 && (d.bestToll false).isNone
      && (d.cl.loop == .tracking || d.cl.loop == .locked || d.cl.loop == .acquiring)) fun d =>
    match d.lossCause with
    | some c => d.enterHoldover c
    | none => d

/-- The row CL_HOLDOVER_MAX_EXPIRY (R674): the Benchmark counts as departed, unless Tolls have returned (R675). -/
def execClHoldoverMaxExpiry (dt : Nat) (s : State) : Host.Outcome State Fault Refusal :=
  s.runIf dt (fun d => d.active && d.cl.loop == .holdover && d.now % roundTicks == 0 && d.propN P.clHoldoverMax ≤ d.cl.holdRounds
      && (d.bestToll false).isNone && d.benchUid != d.uid) fun d => d.electWithout d.benchUid

/-! ## The fabric at a Round boundary -/

/-- The devices whose LEAVE was accepted leave the route table (23 R638, R643). -/
def Dev.removeLeft (d : Dev) : Dev :=
  if d.cl.left.isEmpty then d
  else
    let gone := (d.cl.routes.filter fun r => d.cl.left.contains r.uid).map (·.addr)
    ({ d with cl.left := [], cl.routes := d.cl.routes.filter fun r => !gone.contains r.addr }.dropAddrs gone).streamsByTable

/-- Drift-suspect ports whose boundary has come are normal again (R672) (DEDUCED log 105). -/
def Dev.normalPorts (d : Dev) : Dev :=
  { d with cl.ports := d.cl.ports.map fun x => if x.normalDue.any (· ≤ d.now) then { x with suspect := false, normalDue := none } else x }

/-- Accepted CL_PORT, CL_JOIN and CL_LEAVE (23 R648-R650). -/
def Dev.applyLinks (d : Dev) : Dev :=
  let e := forAll (List.range 4) Dev.applyPort d
  let e := e.onlyIf (e.cl.joinDue.any (· ≤ e.now)) fun e => { e with cl.joinDue := none }.join
  e.onlyIf (e.cl.leaveDue.any (· ≤ e.now)) Dev.leaveNow

/-- The Toll port at a boundary (R662, R674): kept while it brought a Toll, else chosen anew; a return of Tolls ends
holdover. -/
def Dev.tollPortRound (d : Dev) : Dev :=
  let brought : Bool := d.cl.tollPort.any fun p => (d.tollPorts false).any (·.1 == p)
  match d.cl.loop with
  | .holdover => match d.bestToll false with
    | some p => { (d.holdoverEnds d.cl.holdCause (some p)).acquire 0 with cl.tollPort := some p }
    | none => { d with cl.holdRounds := satAdd 0xFFFFFFFF d.cl.holdRounds 1 }
  | .acquiring | .tracking | .locked => if brought then d else d.chooseToll
  | _ => d

/-- Tolls of this device's own slot 0 (R661, R662, R673) (DEDUCED log 108). -/
def Dev.ownTolls (d : Dev) : Dev := match d.cl.loop with
  | .benchmark | .holdover => d.originateTolls
  | _ => if d.cl.heldToll.isEmpty then d else { d.passToll d.now d.cl.heldToll with cl.heldToll := [] }

/-- Carillon at a Round boundary, in the order that R675 wants: a leave comes before a step, and the choice of the Toll port
before holdover. -/
def Dev.fabricRound (d : Dev) : Dev :=
  let quiet := d.cl.quiet.map fun n => min 64 (n + 1)
  let e := ({ d with cl.boundary := d.now, cl.tx := [], cl.quiet := quiet }.removeLeft).normalPorts.applyLinks
  if !e.joined then e
  else
    let e := e.closeStreams
    let e := ((e.onlyIf e.isBench Dev.answerRequests).tollPortRound).ownTolls
    if e.isBench then e else e.disciplined

/-! ## CL_TIME (R676) -/

/-- state of CL_TIME. -/
def LoopState.code : LoopState → Nat
  | .none_ => 0 | .acquiring => 1 | .tracking => 2 | .locked => 3 | .holdover => 4 | .benchmark => 5

/-- delay of a port: δ of R668, or not measured. -/
def Dev.delayField (d : Dev) (x : ClPortSt) : List Byte := match x.e, x.fwdErr with
  | some e, some f => field16 0 0xFFFE (d.divFree (e + f) 2)
  | _, _ => u16 0xFFFF

/-- timing of a port. -/
def ClPortSt.timing (x : ClPortSt) : Nat := if x.mode != .up then 0 else if x.suspect then 1 else 2

/-- The 64 bytes of CL_TIME. -/
def Dev.timePayload (d : Dev) : List Byte :=
  let x := d.cl
  let hops := if d.isBench then 0 else match (x.tollPort.bind fun p => (d.clPort p).toll) with
    | some t => 9 - t.ttl
    | none => Config.noHops
  let phase : List Byte := match x.tollPort.bind d.phiOf with
    | some v => s32 (d.divFree v 2)
    | none => u32 Config.noPhase
  u8 x.loop.code ++ u8 (x.tollPort.getD 0xFF) ++ u8 hops ++ u8 (bit (x.loop == .holdover && x.tollPort.isSome) + 2 * bit x.slewing)
    ++ phase ++ s32 x.trim ++ u32 x.holdRounds ++ u64 x.boundary ++ leInt 8 x.lastStep
    ++ x.ports.flatMap d.delayField ++ x.ports.flatMap (fun y => u8 y.timing)
    ++ u16 x.steps ++ u16 x.holdovers ++ u32 x.late ++ u32 x.window ++ u16 x.suspects ++ zeros 6

/-- CL_TIME (R676): action 1 reads, then clears the counters. -/
def clTimeBody : Body := fun q d =>
  let action := q.p8 0
  checked d [(q.len != 4, .badLength), (q.badHeader || 1 < action || !zeroAt q.params 1 3, .badParam), (q.notSystem d, .notOwner),
    (d.inWatch, .wrongState)] <|
    let e := { d with draws := d.draws + 1 }
    okWith d.timePayload (if action = 1 then { e with cl := { e.cl with steps := 0, holdovers := 0, late := 0, window := 0, suspects := 0 } } else e)

/-- The row CL_TIME. -/
def execClTime (dt : Nat) (s : State) : Host.Outcome State Fault Refusal := s.command dt 0x0908 clTimeBody

end Sys2Proof.Machine
end

