-- ==== Sys2Proof/Machine/AudioPath.lean ====
section
/-!
DEFINITION. The audio path of a programme sample by sample (chapter 20): sources into the blend domain, blend stage, level and mute, the
sample-rate converter, and the frames of the ports and IEC 60958 outputs.
-/
namespace Sys2Proof.Machine

/-! ## Sources (R559) -/

/-- Audio of a narrowband channel that it has handed over since the path last ran (14 R391). -/
def Dev.nbPcm (d : Dev) (c : Nat) : List NbAudio :=
  ((d.nb c).dsp.handed (d.stdOf c) d.now).filter (d.audio.done < ·.t)

/-- Narrowband sources and partners enter their domain converters; one that no programme has any more is dropped. -/
def Dev.feedsTake (d : Dev) : Dev :=
  let users := d.feedUsers
  let e := { d with audio.feeds := d.audio.feeds.filter fun x => users.contains x.1 }
  users.foldl (fun e c => e.onlyIf ((d.ctx? c).any (·.kind ≤ 2)) fun e =>
    (d.nbPcm c).foldl (fun e a => e.setFeed c (AudioFeed.push 32 (3 * a.t) false (a.l, a.r))) e) e

/-! ## Blend stage (R559, R566, 19 R548-R550) -/

/-- δ of programme `p` at `t3` thirds of a tick, millionths of a third: between the two values last taken, or as it moves from the last one. -/
def Dev.deltaAt (d : Dev) (p t3 : Nat) : Nat :=
  let x := d.prog p
  let (v, t) := x.deltaWas
  if t3 ≤ 3 * x.deltaAt then
    if t3 ≤ 3 * t || x.deltaAt ≤ t then v
    else ((v : Int) + ((x.delta : Int) - v) * (t3 - 3 * t : Nat) / (3 * (x.deltaAt - t) : Nat)).toNat
  else
    let move := d.propN P.followSlew * (t3 - 3 * x.deltaAt)
    match x.goal with
    | .up top => min top (x.delta + move)
    | .down => x.delta - move
    | .stay => x.delta

/-- λ at `t3`, millionths of a third: the last lag, moving on as the last two measurements had it move (R566). -/
def BlendSt.lagAt (t3 : Nat) (b : BlendSt) : Int :=
  let unit : Int := 65536000000
  match b.measAt with
  | some t => b.lag.getD 0 * unit + b.drift * unit * ((t3 : Int) - 3 * t) / (3 * msec 500 : Nat)
  | none => b.lag.getD 0 * unit

/-- What the blend stage puts out where the on-air version has the sample `s` (R566, 19 R549, R550): past a bypassed buffer at 24 bits
while δ is 0 and no fade runs. After a switch the buffer delays the new on-air version by what δ stands above λ (DEDUCED log 138). -/
def Dev.blended (d : Dev) (p : Nat) (s : AudioSample) : Int × Int :=
  let x := d.prog p
  let here := d.feed (x.src.getD 0xFF)
  let delta := d.deltaAt p s.t3 - x.base
  let pos : Int := (s.t3 * 1000000 : Nat)
  match x.fading, x.blend with
  | some f, some b =>
    let a := here.read x.flags (pos - delta)
    let c := (d.feed f.target).read x.flags (if f.cut then pos else pos - max 0 (delta - b.lagAt s.t3))
    let (ga, gc) := fadeGains f.cut x.shape (f.position s.t3)
    let mix (u v : Int) : Int := openDiv (u * ga + v * gc) (2 ^ 24)
    (mix a.1 c.1, mix a.2 c.2)
  | _, _ => if delta = 0 then s.placed x.flags else here.read x.flags (pos - delta)

/-! ## Level and mute (R559-R562) -/

/-- Host gain and mute, and the saturation that AUDIO_STATUS counts. -/
def ProgSt.levelled (x : ProgSt) (t3 : Nat) (s : Int × Int) : (Int × Int) × Bool :=
  let g := rampGain (2 ^ 24) x.level t3 * rampGain 0 x.mute t3
  let q (v : Int) : Int × Bool := saturate 24 (openDiv (v * g) (2 ^ 48))
  (((q s.1).1, (q s.2).1), (q s.1).2 || (q s.2).2)

/-! ## Routes (R565, R568, R583) -/

/-- Samples `l` of time stamp `t3` behind the ramps of a route and of its output. -/
def gated (t3 : Nat) (route gate : List Ramp) (l : List (Int × Int)) : List (Int × Int) :=
  let g := rampGain 0 route t3 * rampGain 0 gate t3
  l.map fun s => (openDiv (s.1 * g) (2 ^ 48), openDiv (s.2 * g) (2 ^ 48))

/-- Samples that programme `p` delivers at `t3` to output `n`, over its routes there: a removed route sounds beside the one that takes its
place while it ramps down. -/
def Dev.outTakes (p t3 : Nat) (released : Bool) (l : List (Int × Int)) (n : Nat) (d : Dev) : Dev :=
  let rs := d.audio.routes.filter fun r => r.prog == p && r.out == n
  let each {α : Type} (f : RouteSt → List (Int × Int) → List α) : List (List α) :=
    (List.range l.length).map fun i => rs.flatMap fun r => f r ((l.drop i).take 1)
  if n < 4 then
    d.setPort n fun x => match x.cfg with
      | some c =>
        if x.run = .stopped then x
        else
          let new := each fun r s => (gated t3 r.gain x.gate s).flatMap (routeWords c r.slot r.flags)
          { x with pend := tabSet x.pend p ((tabGet x.pend p).getD [] ++ new) }
      | none => x
  else d.setSpdo (n - 4) fun x =>
    if x.run = .stopped then x
    else
      let mono (r : RouteSt) (s : Int × Int) : Int × Int :=
        if hasBit r.flags 0 then (openDiv (s.1 + s.2) 2, openDiv (s.1 + s.2) 2) else s
      let new := (each fun r s => (gated t3 r.gain x.gate s).map (mono r)).map fun l => ((l.map (·.1)).sum, (l.map (·.2)).sum, !released)
      { x with pend := x.pend ++ new }

/-- One 48 kHz sample of programme `p` behind the blend stage goes through level, mute and the converter to its routes. -/
def Dev.progTakes (p t3 : Nat) (s : Int × Int) (d : Dev) : Dev :=
  let x := d.prog p
  let (v, sat) := x.levelled t3 s
  let outs := ((d.audio.routes.filter (·.prog == p)).map (·.out)).eraseDups
  match (outs.filterMap d.outRate).head? with
  | none => d
  | some rate =>
    let (a, l) := x.asrc.push (rateHz rate) v
    let e := d.setProg p fun x => { x with asrc := a }
    let e := e.onlyIf sat fun e => forAll (bitsOf 4 x.ports) (fun n e =>
      e.setPort n fun y => if y.run = .stopped then y else { y with saturations := satAdd 0xFFFF y.saturations 1 }) e
    forAll outs (Dev.outTakes p t3 (d.progReleased p) l) e

/-- Samples of the on-air version of programme `p` since the path last ran; where it has no released source and none came, zeros at
48 kHz of datum time (DEDUCED log 138). -/
def Dev.onAirSamples (d : Dev) (p : Nat) : List AudioSample :=
  let x := d.prog p
  let new := ((d.feed (x.src.getD 0xFF)).out.filter fun s => 3 * d.audio.done < s.t3 && s.t3 ≤ 3 * d.now).reverse
  if new.isEmpty && !x.src.any d.srcReleased then
    (List.range (3 * d.now / 65536 - 3 * d.audio.done / 65536)).map fun i => { t3 := (3 * d.audio.done / 65536 + 1 + i) * 65536, l := 0, r := 0 }
  else new

/-- Programme `p` runs up to now; without a route its source is blended without output (R583). -/
def Dev.progRuns (p : Nat) (d : Dev) : Dev :=
  if (d.audio.routes.any (·.prog == p)) then
    (d.onAirSamples p).foldl (fun e s => e.progTakes p s.t3 (d.blended p s)) d
  else d

/-- The programme path runs up to now. -/
def Dev.audioRuns (d : Dev) : Dev :=
  let e := forAll (List.range 4) Dev.progRuns d.feedsTake
  { e with audio.done := d.now }

/-- FADE_END (19 R549, R550): the audio up to here takes the fade, and what follows the version that it leaves on air. -/
def execFadeEnd (dt prog : Nat) (s : State) : Host.Outcome State Fault Refusal :=
  s.runIf dt (fun d => d.active && (d.prog prog).fading.any (·.ends ≤ d.now)) fun d =>
    let d := d.audioRuns
    match (d.prog prog).fading with
    | some f =>
      let manual := (d.prog prog).blend.any (·.manual)
      if f.result = 2 || f.result = 4 then d.fadeBack prog f manual else d.fadeOver prog f manual
    | none => d

/-! ## Frames (R568-R571, R576-R580) -/

/-- The group led by `l` makes frames of what its programmes have delivered, and sends `n` of them. Without a programme on any member the
frames hold zeros; while PLL_AUD is gated, slave ports send zeros and master ports nothing (R576). -/
def Dev.groupRound (n l : Nat) (d : Dev) : Dev :=
  let ms := d.group l
  if ms.isEmpty then d
  else
    let lens := ms.flatMap fun m => (d.port m).pend.filterMap fun x =>
      if d.audio.routes.any (fun r => r.prog == x.1 && r.out == m) then some x.2.length else none
    let k := match lens with
      | v :: vs => vs.foldl min v
      | [] => n
    let sends := d.groupSends l
    d.setGroup l fun x => match x.cfg with
      | none => x
      | some c =>
        let words (i : Nat) : List (Nat × Int) := x.pend.flatMap fun y => y.2.getD i []
        let fifo := x.fifo ++ (List.range k).map fun i => frameOf c (words i)
        let pend := (x.pend.filter fun y => d.audio.routes.any (·.prog == y.1)).map fun y => (y.1, y.2.drop k)
        if !sends then
          let zero := if d.audClocks || c.role = 0 || !x.clockOk then [] else x.zeroFrames n
          { x with pend := pend, sent := zero, last := (zero.getLast?).getD x.last }
        else
          let out := fifo.take n
          let rest := fifo.drop n
          { x with pend := pend, fifo := rest.drop (rest.length - 8), sent := out, last := (out.getLast?).getD x.last }

/-- Text that the user bits of output `n` carry (R580): none, the host text, or the last DRM text message of the programme's source. -/
def Dev.spdoText (d : Dev) (n : Nat) : List Byte :=
  match d.propN (if n = 0 then P.spdo0User else P.spdo1User) with
  | 1 => (d.audio.spdo.getD n {}).text
  | 2 => match ((d.audio.progs.find? fun x => hasBit x.ports (4 + n)).bind (·.src)) with
    | some c => match (d.drm c).text with
      | some (_, l) => l
      | none => []
    | none => []
  | _ => []

/-- The user bits' message up to frame `to_` (R580): a new text begins at the next message boundary. -/
def SpdoSt.message (text : List Byte) (to_ : Nat) (x : SpdoSt) : SpdoSt :=
  (List.range (to_ - x.frames)).foldl (fun (x : SpdoSt) i =>
    let f := to_ - (to_ - x.frames) + i
    if x.user.isEmpty then (if text.isEmpty then x else { x with user := text, userAt := f })
    else if f < x.userAt + max 1 (Config.messageFrames x.user) then x
    else { x with user := text, userAt := f }) x

/-- Output `n` begins `k` frames (R577, R579): its channel status takes the property in force where a block starts, every 192 frames.
Nothing runs while PLL_AUD is gated. -/
def Dev.spdoRound (k n : Nat) (d : Dev) : Dev :=
  d.setSpdo n fun x =>
    if x.run = .stopped then x
    else if !d.audClocks then { x with pend := [], sent := [] }
    else
      let routed := d.audio.routes.any (·.out == 4 + n)
      let y := x.message (d.spdoText n) (x.frames + k)
      { y with
        frames := x.frames + k, cs := if x.frames / 192 < (x.frames + k) / 192 then d.spdoCs n else x.cs
        sent := if routed then x.pend else List.replicate k (0, 0, true), pend := [] }

/-- Validity bit of output `n` now (R578): 0 for samples of a released source, 1 without a released source or a route and in a halt. -/
def Dev.spdoValidity (d : Dev) (n : Nat) : Bool :=
  d.toc.halted || !((List.range 4).any fun p => hasBit (d.prog p).ports (4 + n) && d.progReleased p)

/-- The subframes that output `n` sends for its `i`-th frame of the last Round: preamble and the 28 bits after it. -/
def Dev.spdoFrame (d : Dev) (n i : Nat) : List (Preamble × List Bool) :=
  let x := d.audio.spdo.getD n {}
  let (l, r, v) := x.sent.getD i (0, 0, true)
  let f := x.frames - x.sent.length + i
  let user (b : Bool) : Bool := !x.user.isEmpty && Config.messageBit x.user (f - x.userAt) b
  let status (b : Bool) : Bool := (channelStatus x.cs (x.rate.getD 2) (if b then 2 else 1)).getD (f % 192) false
  [(preambleOf f false, subframe l v (user false) (status false)), (preambleOf f true, subframe r v (user true) (status true))]

/-- Ramps and routes that are over are forgotten. -/
def Dev.rampsOver (d : Dev) : Dev :=
  let t := d.now - roundTicks
  { d with
    audio.routes := (d.audio.routes.map fun x => { x with gain := rampsFrom t x.gain }).filter fun x =>
      rampGain 0 x.gain (3 * d.now) != 0 || (x.gain.head?).any (·.target != 0)
    audio.ports := d.audio.ports.map fun x => { x with gate := rampsFrom t x.gate }
    audio.spdo := d.audio.spdo.map fun x => { x with gate := rampsFrom t x.gate }
    audio.progs := d.audio.progs.map fun x => { x with mute := rampsFrom t x.mute, level := rampsFrom t x.level } }

/-- The audio of the Round that ends here: `frames` that the outputs began in it, and the route rates as counted against 48 kHz. -/
def Dev.audioPath (frames : List Nat) (ratios : List Int) (d : Dev) : Dev :=
  let e := d.audioRuns
  let track (n : Nat) (e : Dev) : Dev :=
    e.setProg n fun x => { x with asrc := if x.ports = 0 then {} else x.asrc.track (ratios.getD n x.asrc.ratio) }
  let e := forAll (List.range 4) track e
  let e := forAll (List.range 4) (fun l e => e.groupRound (frames.getD l 0) l) e
  (forAll [0, 1] (fun n e => e.spdoRound (frames.getD (4 + n) 0) n) e).rampsOver

end Sys2Proof.Machine
end

