-- ==== Sys2Proof/Machine/Receive.lean ====
section
/-!
DEFINITION. How samples go through the receiver: the codes of an AGC window through the down-converters of an input into Survey and the
slots, and the samples of a slot to its consumer (01 R29, R33).
-/
namespace Sys2Proof.Machine

/-- Samples of branch `b` of service `v` wait to be combined (18 R509). -/
def Dev.branchFeed (v b : Nat) (l : List SlotSample) (d : Dev) : Dev :=
  d.setBranch v b fun y => { y with dsp := { y.dsp with buf := y.dsp.buf ++ l } }

/-- Samples of the slot `n` of context `c` reach a narrowband channel with its RDS decoder, a DRM unit or the context's fabric stream. -/
def Dev.ctxFeed (c n : Nat) (l : List SlotSample) (d : Dev) : Dev :=
  if d.kindOf c = 0x0B then
    let keep (s : SlotSample) : Bool := d.now < s.t + 2 * roundTicks
    { d with cl.streams := updWhere d.cl.streams (·.ctx == c) fun x => { x with buf := (x.buf ++ l).filter keep } }
  else match d.serviceOf c with
    | some (v, _) => d.branchFeed v 0 l
    | none =>
      if d.nbRuns c then
        let (out, e) := d.nbFeed c n l
        e.rdsFeed c out
      else d.onlyIf (d.drmRuns c) (Dev.drmFeed c l)

/-- Samples of the slot of instance `k` reach its OFDM unit, or the combined service that its slot feeds. -/
def Dev.instFeed (k : Nat) (l : List SlotSample) (d : Dev) : Dev :=
  match d.serviceOf (d.anchorOf k) with
  | some (v, _) => d.branchFeed v 0 l
  | none => d.onlyIf (d.instRuns k) (Dev.dabFeed k l)

/-- Samples that slot `n` has given reach its consumer (01 R33). -/
def Dev.slotGives (n : Nat) (l : List SlotSample) (d : Dev) : Dev :=
  if l.isEmpty then d
  else match (d.slot n).user with
    | some (.ctx c) => d.ctxFeed c n l
    | some (.inst k) => d.instFeed k l
    | some (.branch v b) => d.branchFeed v b l
    | none => d

/-- Segment samples from datum tick `t` on go through slot `n`, which runs. -/
def Dev.slotTakes (n t : Nat) (l : List SegSample) (d : Dev) : Dev :=
  if (d.slot n).user.isNone then d
  else
    let (out, e) := d.feedSlot n t l
    e.slotGives n out

/-- Every slot has its samples up to now: what did not come enters as zeros (12 R340). -/
def Dev.slotsCatchUp (d : Dev) : Dev := forAll (List.range 64) (fun n d => d.slotTakes n d.now []) d

/-- The samples of segment `seg` of the window that ends now reach Survey and the slots on the segment. -/
def Dev.segGives (clips : Bool) (seg : Nat) (l : List SegSample) (d : Dev) : Dev :=
  forAll (List.range 64) (fun n d => d.onlyIf ((d.slot n).seg == seg) (Dev.slotTakes n (d.now - 16384) l)) (d.surveyTakes seg l clips)

/-- A code of a clipped sample (09 R256). -/
def isClip (c : Int) : Bool := c == -2048 || c == 2047

/-- The codes of the window that ends now go through the receiver, and then the gain loops act (09 R258). -/
def Dev.windowCodes (i : Nat) (codes : List Int) (detMain detLb : Int) (d : Dev) : Dev :=
  let clips := (codes.filter isClip).length
  let (segs, e) := d.convert i codes
  (segs.foldl (fun e s => e.segGives (clips != 0) s.1 s.2) e).agcWindow i clips detMain detLb

/-- AGC_WINDOW_END: windows begin at each eighth of a Round; only a live input has segments, loops, detectors and counters
(09 R258, 10 R288). `codes` are the converter's codes in the window, the rest the readings of the two detectors in 0.1 dBFS. -/
def execAgcWindowEnd (dt input : Nat) (codes : List Int) (detMain detLb : Int) (s : State) : Host.Outcome State Fault Refusal :=
  s.runIf dt (fun d => d.active && input < d.nInputs && d.inputLive input && d.now % 16384 == 0)
    (Dev.windowCodes input codes detMain detLb)

/-- NB_WINDOW_END (14 R408): every 16 Rounds from the dispatch of the context on, with the samples that its slot has by then. -/
def execNbWindowEnd (dt ctx : Nat) (s : State) : Host.Outcome State Fault Refusal :=
  s.runIf dt (fun d => d.active && d.nbRuns ctx && (d.ctx? ctx).any fun x => x.dispatched < d.now
      && (d.now - x.dispatched) % nbWindow == 0) fun d =>
    let e := match d.slotOf ctx with
      | some n => d.slotTakes n d.now []
      | none => d
    e.nbWindowEnd ctx

end Sys2Proof.Machine
end

