-- ==== Sys2Proof/Machine/Security.lean ====
section
/-!
DEFINITION. Fuses, authentication state, debug access and firmware patches (chapter 08).
-/
namespace Sys2Proof.Machine

/-- FUSE_EN_CHANGE (08 R234): FUSE_EN's level and whether VPP_FUSE is in range; a fall while programming stops it. -/
def execFuseEnChange (dt : Nat) (level vppOk : Bool) (s : State) : Host.Outcome State Fault Refusal :=
  s.run dt fun d =>
    let d1 := { d with pwr.fuseEn := level, pwr.vppOk := vppOk }
    match d.sec.job with
    | some j => if level && vppOk then d1 else { d1 with sec.job := some { j with stopped := true } }
    | none => d1

/-- DEBUG bits as this boot read them (08 R229): DEBUG_LOCK, DEBUG_FORBID. -/
def Dev.debugBit (d : Dev) (n : Nat) : Bool := hasBit (at8 d.sec.fuseRead 0x40) n

/-- Every JTAG instruction is offered (08 R242 bit 3, R243). -/
def Dev.jtagOpen (d : Dev) : Bool := d.fuseValid && (!d.debugBit 0 || d.sec.unlock.getLsbD 1)

/-- SEC_NONCE (08 R242). -/
def secNonceBody : Body := fun q d =>
  checked d [(q.len != 0, .badLength), (q.badHeader, .badParam)] <|
    let x := d.ifaceSec q.src
    okWith ((leBytes 8 d.sec.nonce.toNat).reverse ++ u32 x.last ++ u8 x.failures ++ ub x.locked ++ u8 d.keyState
      ++ u8 (at8 d.sec.fuseRead 0x28)
      ++ u8 (bit (d.debugBit 0) + 2 * bit (d.debugBit 1) + 4 * bit (d.sec.unlock.getLsbD 0) + 8 * bit d.jtagOpen)
      ++ u8 d.fabKeyState ++ u16 0) d

/-- The row SEC_NONCE. -/
def execSecNonce (dt : Nat) (s : State) : Host.Outcome State Fault Refusal := s.command dt 0x0B01 secNonceBody

/-- The customer area as SEC_FUSE_READ returns it (08 R233): both keys read zero. -/
def customerArea (fuses : List Byte) : List Byte :=
  (indexed (fuses.take 68)).map fun (i, b) =>
    if (0x14 ≤ i && i < 0x24) || (0x2C ≤ i && i < 0x3C) then 0 else b

/-- SEC_FUSE_READ (08 R233). -/
def secFuseReadBody : Body := fun q d =>
  checked d [(q.len != 0, .badLength), (q.badHeader, .badParam), (d.inWatch, .wrongState)]
    (okWith (customerArea d.sec.fuses) d)

/-- The row SEC_FUSE_READ. -/
def execSecFuseRead (dt : Nat) (s : State) : Host.Outcome State Fault Refusal := s.command dt 0x0B02 secFuseReadBody

/-- The fields that SEC_FUSE_PROGRAM writes, each with its length and lock bit (08 R229, R235): CRIT_MASK, the command
key group, the fabric key group, DEBUG and LOCKS. -/
def fuseFields : List (Nat × Nat × Nat) := [(0x0C, 8, 0), (0x14, 21, 1), (0x2C, 20, 2), (0x40, 1, 3), (0x42, 2, 4)]

/-- The field that holds the whole span, if one does. -/
def fuseField (off len : Nat) : Option (Nat × Nat × Nat) :=
  fuseFields.find? fun (a, n, _) => a ≤ off && off + len ≤ a + n

/-- Bits of the byte at `i` that the host may program (08 R235). -/
def programmable (i : Nat) : Byte :=
  if i = 0x0C || i = 0x0D then 0xFF else if i = 0x0E then 0x0F else if 0x0F ≤ i && i ≤ 0x12 then 0x00
  else if i = 0x13 then 0x80 else if i = 0x40 then 0x03 else if i = 0x42 then 0x1F else if i = 0x43 then 0x00 else 0xFF

/-- The span's field is a key group. -/
def isKeyGroup (f : Nat × Nat × Nat) : Bool := f.1 == 0x14 || f.1 == 0x2C

/-- The span cannot be programmed as asked (08 R235, BAD_PARAM). -/
def fuseSpanBad (off len : Nat) (data : List Byte) : Bool :=
  match fuseField off len with
  | none => true
  | some f =>
    (indexed data).any (fun (k, b) => b &&& ~~~(programmable (off + k)) != 0)
      || (isKeyGroup f && (off != f.1 || len != f.2.1 || keyCheck (data.take 16) != slice data 16 4))

/-- The span's field is locked, or its key group already holds a key bit (08 R231, R235). -/
def Dev.fuseLocked (d : Dev) (off len : Nat) : Bool :=
  match fuseField off len with
  | none => false
  | some f => hasBit (at8 d.sec.fuses 0x42) f.2.2 || (isKeyGroup f && !zeroAt d.sec.fuses f.1 16)

/-- SEC_FUSE_PROGRAM (08 R235): programming starts; the reply follows when it ends, and Izosh takes no packet meanwhile. -/
def secFuseProgramBody : Body := fun q d =>
  let off := q.p8 0
  let n := q.p8 1
  let data := slice q.params 4 n
  checked d [(q.len < 4 || n == 0 || 24 < n || q.len != 4 + n, .badLength),
    (q.badHeader || off < 0x0C || 0x44 < off + n || !zeroAt q.params 2 2 || fuseSpanBad off n data, .badParam),
    (q.notSystem d, .notOwner),
    (!d.pwr.fuseEn || !d.pwr.vppOk || d.fuseLocked off n || d.inWatch, .wrongState)]
    { status := .ok, payload := [], dev := { d with sec.job := some { offset := off, data := data } }, later := true }

/-- The row SEC_FUSE_PROGRAM. -/
def execSecFuseProgram (dt : Nat) (s : State) : Host.Outcome State Fault Refusal := s.command dt 0x0B03 secFuseProgramBody

/-- The fuse array with the bits of `m` set from byte `off` on; no bit ever returns to 0 (08 R230). -/
def setFuses (fuses : List Byte) (off : Nat) (m : List Byte) : List Byte :=
  (indexed fuses).map fun (i, b) => if off ≤ i then b ||| m.getD (i - off) 0 else b

/-- Set bits of a byte. -/
def bitCount (b : Byte) : Nat := ((List.range 8).filter (b.getLsbD ·)).length

/-- The bits asked for that read back 0 after three pulses each (08 R234, R235): in a whole run every bit asked for that is not set
now; in one that was stopped only those tried (`givenUp`). -/
def FuseJob.failed (j : FuseJob) (fuses setBits givenUp : List Byte) (stop : Bool) : Nat :=
  ((indexed j.data).map fun (k, b) =>
    bitCount (b &&& ~~~(fuses.getD (j.offset + k) 0 ||| setBits.getD k 0) &&& (if stop then givenUp.getD k 0 else 0xFF))).sum

/-- FUSE_PROGRAMMING_DONE (08 R234, R235): the bits that read back 1, those given up, and whether it was stopped; the OK reply reports
the outcome and how many bits were given up. -/
def execFuseProgrammingDone (dt : Nat) (setBits givenUp : List Byte) (stopped : Bool) (s : State) :
    Host.Outcome State Fault Refusal :=
  s.runIf dt Dev.izosh fun d =>
    match d.sec.job with
    | none => d
    | some j =>
      let stop := stopped || j.stopped
      let failed := j.failed d.sec.fuses setBits givenUp stop
      let result := if stop then 2 else if failed = 0 then 0 else 1
      ({ d with sec.job := none
                sec.fuses := setFuses d.sec.fuses j.offset ((indexed j.data).map fun (k, b) => b &&& setBits.getD k 0) }).answerLater .ok
        (u8 result ++ u8 failed ++ u16 0)

/-- SEC_DEBUG_UNLOCK (08 R244). -/
def secDebugUnlockBody : Body := fun q d =>
  let scope := q.p8 0
  checked d [(q.len != 4, .badLength), (q.badHeader || scope == 0 || 4 ≤ scope || !zeroAt q.params 1 3, .badParam),
    (q.notSystem d, .notOwner), (d.debugBit 1 || d.inWatch, .wrongState)] <|
    ok { d with sec.unlock := d.sec.unlock ||| BitVec.ofNat 2 scope }

/-- The row SEC_DEBUG_UNLOCK. -/
def execSecDebugUnlock (dt : Nat) (s : State) : Host.Outcome State Fault Refusal := s.command dt 0x0B04 secDebugUnlockBody

/-- JTAG_INSTRUCTION (08 R243): offered or refused. Before the fuse read only the four open instructions are offered
(DEDUCED log 11). -/
def execJtagInstruction (dt : Nat) (code : JtagInstr) (s : State) : Host.Outcome State Fault Refusal :=
  s.run dt fun d =>
    let offered := match code with
      | .other _ => d.jtagOpen
      | _ => true
    { d with pwr.jtag := some (code, offered) }

/-- SYS_PATCH_LOAD (08 R245): begin, chunk and commit. -/
def sysPatchLoadBody : Body := fun q d =>
  let phase := q.p8 0
  let badLen := (phase == 1 && q.len != 20) || (phase == 2 && (q.len < 9 || 1024 < q.len)) || (phase == 3 && q.len != 4)
    || q.len < 4
  let off := q.p32 4
  let n := q.len - 8
  let badBegin := phase == 1 &&
    (q.p32 4 == 0 || 131072 < q.p32 4 || q.p32 8 == 0 || q.p32 12 != Config.romRev % 2 ^ 32)
  let badChunk := phase == 2 && match d.sec.patch with
    | some j => off != j.image.length || j.total < off + n
    | none => false
  let badState := (phase == 1 && (d.anyOpen || d.sec.patchRev != 0)) || d.sec.committed.isSome
    || (phase != 1 && d.sec.patch.isNone)
    || (phase == 3 && match d.sec.patch with | some j => j.image.length != j.total | none => false)
  checked d [(badLen, .badLength),
    (q.badHeader || phase == 0 || 3 < phase || !zeroAt q.params 1 3 || badBegin || badChunk, .badParam),
    (q.notSystem d, .notOwner), (badState || d.inWatch, .wrongState)] <|
    if phase = 1 then ok { d with sec.patch := some { total := q.p32 4, rev := q.p32 8, crc := q.p32 16, image := [] } }
    else match d.sec.patch with
      | none => ok d
      | some j =>
        if phase = 2 then ok { d with sec.patch := some { j with image := j.image ++ slice q.params 8 n } }
        else deferred { d with sec.patch := none, sec.committed := some j }

/-- The row SYS_PATCH_LOAD. -/
def execSysPatchLoad (dt : Nat) (s : State) : Host.Outcome State Fault Refusal := s.command dt 0x0003 sysPatchLoadBody

/-- PATCH_TAKEOVER (08 R245) at a Round boundary: the image's CRC-32 decides whether the patch runs. -/
def Dev.patchTakeover (d : Dev) : Dev :=
  match d.sec.committed with
  | none => d
  | some j =>
    let good := crc32 j.image == j.crc
    ({ d with sec.committed := none, sec.patchRev := if good then j.rev else d.sec.patchRev }).emit 15
      (u32 j.rev ++ u8 (if good then 0 else 1))

end Sys2Proof.Machine
end

