-- ==== Sys2Proof/Machine/Tocsin.lean ====
section
/-!
DEFINITION. Tocsin and the ALIVE signal (chapter 25): errors arriving from the regions, injections, correctable errors,
watchdogs and timeouts, the heartbeat, ALIVE, the halt responder, and the commands FLT_READ, FLT_ACK, FLT_INJECT and
FLT_POLICY.
-/
namespace Sys2Proof.Machine

/-! ## Blocks (R680, R731) -/

/-- The block exists on the die (R680). -/
def blockExists (region block : Nat) : Bool :=
  match region with
  | 0 => block ≤ 5
  | 1 => block ≤ 4 || (8 ≤ block && block ≤ 15)
  | 2 => block ≤ 13
  | 3 => block ≤ 5 || (16 ≤ block && block ≤ 31)
  | 4 => block ≤ 8
  | _ => false

/-- The block belongs to an input, engine or fabric that the part lacks (00 R1, R701) (DEDUCED log 27). -/
def Dev.blockUnfitted (d : Dev) (region block : Nat) : Bool :=
  match region with
  | 0 => d.nInputs ≤ block && block ≤ 3
  | 1 => (d.nInputs ≤ block && block ≤ 3) || (8 + d.nEngines ≤ block && block ≤ 15)
  | 4 => block ≤ 4 && !d.hasFabric
  | _ => false

/-- Address of the block's SRAM test word, none for a block without SRAM (R731). -/
def testWord (region block : Nat) : Option Nat :=
  match region, block with
  | 1, 4 => some 0x7FF0
  | 1, b => if 8 ≤ b && b ≤ 15 then some 0x3FF0 else none
  | 2, b =>
    if b ≤ 3 then some 0x3FFF0 else if b ≤ 5 then some 0x7FF0 else if b ≤ 7 then some 0x3FF0
    else if b ≤ 9 then some 0xFFF0 else if b ≤ 13 then some 0x7FF0 else none
  | 3, b => if b = 5 then some 0x3FFF0 else if 16 ≤ b && b ≤ 31 then some 0xA0000 else none
  | 4, 4 => some 0x3FFF0
  | _, _ => none

/-- The block has a watchdog (R681, R731). -/
def hasWatchdog (region block : Nat) : Bool :=
  match region with
  | 1 => block == 4 || (8 ≤ block && block ≤ 15)
  | 2 => block ≤ 13
  | 3 => block == 1 || block == 2
  | _ => false

/-! ## Injected errors (R695) -/

/-- Class of the error that an injection of a kind causes (R679, R701). -/
def kindClass (kind : Nat) : Nat := [0, 0x10, 0x01, 0x02, 0x03, 0x04, 0x06, 0x05, 0x09, 0x0B].getD kind 0
/-- Level of a class: 0 cell, 1 block, 2 region, 3 chip (R679). -/
def classLevel (cls : Nat) : Nat :=
  if cls ≤ 3 then 0 else if cls ≤ 5 || 0x0E ≤ cls then 1 else if cls ≤ 8 then 2 else 3

/-- ADDR of an injected error: the test word, test entry or test register, the address or generator or sensor named by
the command, or what the forced detector reports (R695, R701). -/
def Injection.errAddr (j : Injection) (e : ErrIn) : Nat :=
  if j.kind ≤ 2 then (if j.mode = 0 then (testWord j.region j.block).getD 0 else j.addr)
  else if j.mode = 0 && j.kind = 3 then 0xFFFF
  else if j.mode = 0 && j.kind = 4 then 0xFFFC
  else if 8 ≤ j.kind then j.addr
  else if j.kind = 5 then 0
  else e.addr

/-- Place of an injected error (R680, R732): the block named, the sensor's place, or the always-on island. -/
def Injection.place (j : Injection) : Nat × Nat :=
  if j.kind = 8 then (4, 8) else if j.kind = 9 then (sensorRegion j.addr, 0xE0 + j.addr) else (j.region, j.block)

/-- The error that the injection in progress causes (R695): its class and place are the injection's. The injector is
master 0x7F and reads its test cell or word; a forced detector and a register report the access they see (DEDUCED log 26). -/
def Injection.error (j : Injection) (e : ErrIn) : ErrIn :=
  let cls := kindClass j.kind
  let byInjector := j.mode == 0 || j.kind == 2
  { cls := cls, level := classLevel cls, region := j.place.1, block := j.place.2,
    master := if byInjector then 0x7F else e.master, access := if byInjector && j.kind ≤ 3 then 0 else e.access,
    addr := j.errAddr e, detail := if j.kind ≤ 2 then e.detail else 0, injected := true }

/-- FAULT_INJECT_DONE (R703) for a mode 0 injection that has arrived. An error that was only counted has no capture
number of its own (a free value, log 75). -/
def Dev.injectDone (j : Injection) (result : Nat) (d : Dev) : Dev :=
  let latency := min 0xFFFF (d.refCycles (d.now - j.since))
  let capture := if result = 2 then Config.countedCapture d.now else d.toc.rcd.capture
  ({ d with toc.inject := none }).emit 6
    (u8 j.kind ++ u8 j.region ++ u8 j.block ++ u8 result ++ u16 capture ++ u16 latency)

/-- The real errors of a report, whose classes are those of R679. -/
def realErrors (errs : List ErrIn) : List ErrIn :=
  (errs.filter fun e => !e.injected && 1 ≤ e.cls && e.cls ≤ 15).map fun e =>
    { e with level := classLevel e.cls, detail := if e.cls ≤ 2 then e.detail else 0 }

/-- The error of the injection in progress, where a report holds one and its kind is no correctable one. -/
def Dev.injectedErrors (d : Dev) (errs : List ErrIn) : List ErrIn :=
  match d.toc.inject, errs.find? (·.injected) with
  | some j, some e => if j.kind = 1 then [] else [j.error e]
  | _, _ => []

/-- TOCSIN_ERROR_ARRIVAL (R682, R683, R695, R696): the errors of one REFCLK cycle. A mode 0 injection among them
completes: recorded, or merged into a record (R703). -/
def Dev.errorArrival (errs : List ErrIn) (tHot : Int) (d : Dev) : Dev :=
  let inj := d.injectedErrors errs
  let real := realErrors errs
  let merged := d.toc.rcd.valid || !real.isEmpty
  let e := d.errorsArrive (real ++ inj) tHot
  match d.toc.inject with
  | none => e
  | some j => e.onlyIf (!inj.isEmpty && j.mode == 0 && !d.inReset) (Dev.injectDone j (bit merged))

/-- The row TOCSIN_ERROR_ARRIVAL. -/
def execTocsinErrorArrival (dt : Nat) (errs : List ErrIn) (tHot : Int) (s : State) :
    Host.Outcome State Fault Refusal :=
  s.run dt (Dev.errorArrival errs tHot)

/-- CORRECTABLE_ERROR (R686, R687, R698). An injected one is the mode 0 injection of kind 0x01 (R695), which it
completes with result 0x02 (DEDUCED log 25). -/
def Dev.correctableArrival (e : ErrIn) (d : Dev) : Dev :=
  if !e.injected then d.onlyIf (e.region ≤ 4) (Dev.correctable e)
  else
    match d.toc.inject with
    | some j => d.onlyIf (j.kind == 1) fun d => (d.correctable (j.error e)).injectDone j 2
    | none => d

/-- The row CORRECTABLE_ERROR. -/
def execCorrectableError (dt : Nat) (err : ErrIn) (s : State) : Host.Outcome State Fault Refusal :=
  s.run dt (Dev.correctableArrival err)

/-- FAULT_CORRECTED_REPORT (R686, R703): at a Round boundary at least 800 Rounds after the previous report. -/
def execFaultCorrectedReport (dt : Nat) (s : State) : Host.Outcome State Fault Refusal :=
  s.runIf dt (fun d => d.up && d.now % roundTicks == 0 && d.toc.ceNew.any (· != 0)
      && (match d.toc.ceReported with | none => true | some r => r + 800 ≤ d.round)) fun d =>
    ({ d with toc.ceNew := [0, 0, 0, 0, 0], toc.ceReported := some d.round }).emit 5
      (d.toc.ceNew.flatMap u16 ++ u32 d.toc.ceTotal)

/-- An error that names its block and for which R679 fixes the class. -/
def blockError (cls region block addr : Nat) : ErrIn :=
  { cls := cls, level := classLevel cls, region := region, block := block,
    master := Config.faultMaster cls addr % 256, access := Config.faultAccess cls addr % 7, addr := addr, detail := 0,
    injected := false }

/-- WATCHDOG_EXPIRY (R681): only a block that has a watchdog. -/
def execWatchdogExpiry (dt region block : Nat) (s : State) : Host.Outcome State Fault Refusal :=
  s.runIf dt (fun d => d.booted && hasWatchdog region block && !d.blockUnfitted region block) fun d =>
    d.errorsArrive [blockError 0x04 region block 0] d.pwr.tHot

/-- LOCKSTEP_MISMATCH (R679): region 3, block 0, ADDR the fetch address of core 0. -/
def execLockstepMismatch (dt fetchAddr : Nat) (s : State) : Host.Outcome State Fault Refusal :=
  s.run dt fun d => d.errorsArrive [blockError 0x05 3 0 fetchAddr] d.pwr.tHot

/-- BUS_TIMEOUT (R679): the transaction's master, access and address. -/
def execBusTimeout (dt region block master access addr : Nat) (s : State) : Host.Outcome State Fault Refusal :=
  s.run dt fun d =>
    d.errorsArrive [{ blockError 0x07 region block addr with master := master, access := access }] d.pwr.tHot

/-! ## Heartbeat and ALIVE -/

/-- HEARTBEAT (R694). -/
def execHeartbeat (dt : Nat) (s : State) : Host.Outcome State Fault Refusal :=
  s.runIf dt Dev.izosh fun d => { d with toc.beatAt := d.now }

/-- HEARTBEAT_TIMEOUT (R694): 65,536 REFCLK cycles without a heartbeat in ACTIVE or WATCH halt with class 0x0D. -/
def execHeartbeatTimeout (dt : Nat) (s : State) : Host.Outcome State Fault Refusal :=
  s.runIf dt (fun d => d.izosh && d.sinceRef d.toc.beatAt 65536) (Dev.chipFault 0x0D 0)

/-- INJECTION_MISSED (R697): 100 µs without arrival halt with class 0x0F, ADDR the kind. -/
def execInjectionMissed (dt : Nat) (s : State) : Host.Outcome State Fault Refusal :=
  s.runIf dt Dev.up fun d =>
    match d.toc.inject with
    | none => d
    | some j => d.onlyIf (d.sinceUs j.since 100) fun d =>
        d.errorsArrive [blockError 0x0F j.region j.block j.kind] d.pwr.tHot

/-- ALIVE_TOGGLE (R693): every 16,000 REFCLK cycles while booted and not halted. -/
def execAliveToggle (dt : Nat) (s : State) : Host.Outcome State Fault Refusal :=
  s.runIf dt (fun d => d.up && d.sinceRef d.toc.aliveAt 16000) fun d =>
    { d with toc.alive := !d.toc.alive, toc.aliveAt := d.now }

/-! ## Commands -/

/-- FLT_READ (R699): the record, then the log entries taken. -/
def fltReadBody : Body := fun q d =>
  let take := q.p8 0
  let fromFabric := match q.src with | .fabric _ => true | _ => false
  checked d [(q.len != 4 || (fromFabric && 5 < take), .badLength),
    (q.badHeader || 15 < take || !zeroAt q.params 1 3, .badParam)] <|
    let rest := d.toc.q7.drop take
    okWith (recordBytes d.toc.rcd d.toc.ce d.toc.logDrops rest.length (bit d.toc.halted)
        ++ (d.toc.q7.take take).flatten)
      { d with toc.q7 := rest }

/-- The row FLT_READ outside a halt. -/
def execFltRead (dt : Nat) (s : State) : Host.Outcome State Fault Refusal := s.command dt 0x0A01 fltReadBody

/-- The record acknowledged: its copy enters Q7 with kind 0x02, and every field becomes zero (R700). -/
def Dev.ackRecord (d : Dev) : Dev :=
  let e := d.logFault (recordBytes d.toc.rcd d.toc.ce 0 0 2)
  { e with toc.rcd := {} }

/-- FLT_ACK (R700). -/
def fltAckBody : Body := fun q d =>
  let cap := q.p16 0
  let flags := q.p8 2
  checked d [(q.len != 4, .badLength), (q.badHeader || 4 ≤ flags || !zeroAt q.params 3 1, .badParam),
    (q.notSystem d, .notOwner),
    (d.toc.halted || (cap != 0 && !(d.toc.rcd.valid && d.toc.rcd.capture == cap)), .wrongState)] <|
    let d1 := d.onlyIf (cap != 0) Dev.ackRecord
    let d2 := d1.onlyIf (hasBit flags 0) fun d => { d with toc.ce := [0, 0, 0, 0, 0] }
    ok (d2.onlyIf (hasBit flags 1) fun d => { d with toc.logDrops := 0 })

/-- The row FLT_ACK outside a halt. -/
def execFltAck (dt : Nat) (s : State) : Host.Outcome State Fault Refusal := s.command dt 0x0A02 fltAckBody

/-- The fields of FLT_INJECT are out of range or name no such test cell (R701). -/
def badInjection (kind region block mode addr : Nat) : Bool :=
  kind < 1 || 9 < kind || 4 < region || 1 < mode || (mode == 1 && kind == 1)
    || (kind == 7 && (region != 3 || block != 0)) || (8 ≤ kind && (region != 0 || block != 0))
    || !blockExists region block
    || (kind ≤ 2 && (testWord region block).isNone)
    || (kind == 5 && !hasWatchdog region block)
    || (if mode == 1 && kind == 2 then addr % 16 != 0 || (testWord region block).getD 0 < addr
        else if kind == 8 then 4 < addr else if kind == 9 then 7 < addr else addr != 0)

/-- FLT_INJECT (R701): the injection starts; it ends with its arrival. -/
def fltInjectBody : Body := fun q d =>
  let (kind, region, block, mode, addr) := (q.p8 0, q.p8 1, q.p8 2, q.p8 3, q.p32 4)
  checked d [(q.len != 8, .badLength),
    ((kind ≤ 7 && d.blockUnfitted region block) || (kind == 8 && addr == 4 && !d.hasFabric), .notFitted),
    (q.badHeader || badInjection kind region block mode addr, .badParam), (q.notSystem d, .notOwner),
    ((mode == 1 && !d.toc.nextPolicy.allowHalt) || d.inWatch, .wrongState), (d.toc.inject.isSome, .busy)] <|
    let j : Injection := { kind := kind, region := region, block := block, mode := mode, addr := addr, since := d.now }
    deferred { d with toc.inject := some j }

/-- The row FLT_INJECT. -/
def execFltInject (dt : Nat) (s : State) : Host.Outcome State Fault Refusal := s.command dt 0x0A03 fltInjectBody

/-- FLT_POLICY (R702). -/
def fltPolicyBody : Body := fun q d =>
  let (t, w, logCe, allow) := (q.p16 0, q.p16 2, q.p8 4, q.p8 5)
  checked d [(q.len != 8, .badLength),
    (q.badHeader || 8000 < w || (t == 0) != (w == 0) || 1 < logCe || 1 < allow || !zeroAt q.params 6 2, .badParam),
    (q.notSystem d, .notOwner), (d.inWatch, .wrongState)] <|
    okWith (u64 d.nextBoundary) { d with
      toc.nextPolicy := { threshold := t, window := w, logCe := logCe == 1, allowHalt := allow == 1 }
      toc.policyDue := some d.nextBoundary }

/-- The row FLT_POLICY. -/
def execFltPolicy (dt : Nat) (s : State) : Host.Outcome State Fault Refusal := s.command dt 0x0A04 fltPolicyBody

/-- Tocsin at a Round boundary (R686, R687, R698, R702): an accepted policy applies, a window begins at each multiple of
W, and a new Round has no entry of a region yet. -/
def Dev.tocsinRound (d : Dev) : Dev :=
  let due := match d.toc.policyDue with | some t => t ≤ d.now | none => false
  let d1 := d.onlyIf due fun d => { d with
    toc.policy := d.toc.nextPolicy, toc.policyDue := none, toc.windowOpen := false, toc.ceWindow := [0, 0, 0, 0, 0] }
  let w := d1.toc.policy.window
  let d2 := d1.onlyIf (w != 0 && d1.round % w == 0) fun d =>
    { d with toc.windowOpen := true, toc.ceWindow := [0, 0, 0, 0, 0] }
  { d2 with toc.ceLogged := [] }

/-! ## The halt responder (R692) -/

/-- The packet that the halt responder takes next: of Q0 and Q2, in the order of 07 R193. -/
def Dev.haltFront (d : Dev) : Option QPkt :=
  minBy (fun p => p.doneAt / refTicks) (d.proto.q0.take 1 ++ d.proto.q2.take 1)

/-- HALT_RESPONDER_PACKET: FLT_READ, FLT_ACK and SYS_INFO are executed, every other packet is answered HALTED. -/
def Dev.haltResponder (d : Dev) : Dev :=
  match d.haltFront with
  | none => d
  | some p => d.take p fun q e =>
      if p.opcode = 0x0A01 then e.execute q p.bytes fltReadBody
      else if p.opcode = 0x0A02 then e.execute q p.bytes fltAckBody
      else if p.opcode = 0x0001 then e.execute q p.bytes sysInfoBody
      else e.reply q .halted []

/-- The row HALT_RESPONDER_PACKET. -/
def execHaltResponderPacket (dt : Nat) (s : State) : Host.Outcome State Fault Refusal :=
  s.runIf dt (fun d => d.toc.halted) Dev.haltResponder

end Sys2Proof.Machine
end

