-- ==== Sys2Proof/Machine/Round.lean ====
section
/-!
DEFINITION. The Round boundary (01 R28, 13 R359): everything that the chapters schedule for a boundary, in one order.
-/
namespace Sys2Proof.Machine

/-! ## Inputs and converters (09 R255, R262, R264, R266, R267) -/

/-- Input `i` goes live: its switch closes (R247) and the AGC starts (R262), in auto mode (R261). -/
def Dev.inputGoesLive (i : Nat) (d : Dev) : Dev :=
  { d.setInp i fun x => { x with
      mode := .live, iso := true, liveDue := none, agcMode := 0, agcNext := none, g := -72, rampMain := true, lowMain := 0, sinceClip := 8, detMain := none
      minHeld := 0 } with cal.inUse := d.cal.inUse.set i true }

/-- Slots that the converter of input `i` served are withdrawn and the converter is off (R267). -/
def Dev.converterOff (i : Nat) (d : Dev) : Dev :=
  let e := d.withdrawSegs (· == 4 * i + 3)
  ((e.setInp i fun x => { x with lband := .off, detLb := none, rampLb := false }).syn0Update).clearSegs (· == 4 * i + 3)

/-- An input leaves live: the values of its segments are discarded (11 R315, R316), and they start afresh. -/
def Dev.leavesLive (i : Nat) (d : Dev) : Dev := (d.surveyDrop (· / 4 == i)).clearSegs (· / 4 == i)

/-- A disabled input at its boundary (R266): withdrawn, its switch open, its converter off with it. -/
def Dev.inputGoesOff (i : Nat) (d : Dev) : Dev :=
  let e := d.withdrawSegs (· / 4 == i)
  ((e.setInp i fun x => { x with
    mode := .off, iso := false, offDue := none, agcNext := none, rampMain := false, rampLb := false, lband := .off, detMain := none, detLb := none }).syn0Update).leavesLive i

/-- Input `i` at a boundary. -/
def Dev.inputRound (i : Nat) (d : Dev) : Dev :=
  let x := d.inp i
  let e := d.onlyIf (x.mode == .starting && x.liveDue.any (· ≤ d.now)) (Dev.inputGoesLive i)
  if x.offDue.any (· ≤ d.now) then e.inputGoesOff i
  else match x.lband with
    | .switchingOn t => if t ≤ d.now then e.setInp i fun x => { x with lband := .on } else e
    | .switchingOff t => if t ≤ d.now then e.converterOff i else e
    | _ => e

/-- Segments n.3 carry signal again after a loss of SYN0: their slots settle from here (R255, 12 R340). -/
def Dev.loRound (d : Dev) : Dev :=
  if d.rf.loBack.any (· ≤ d.now) then
    { d with
      rf.loLost := none, rf.loBack := none
      chan.slots := d.chan.slots.map fun x => if x.user.isSome && x.seg % 4 == 3 then { x with settleFrom := d.now } else x }
  else d

/-! ## Calibration (10 R283-R288) -/

/-- Contexts RUNNING on input `i`. -/
def Dev.ctxsOn (d : Dev) (i : Nat) : List Nat :=
  ((d.trav.ctxs.filter (·.2.state == .running)).map (·.1)).filter fun c => d.inputOf c == some i

/-- A run begins (R283, R288; 14 R393): the hold of a live input is told to its contexts, and narrowband audio waits for a new
release. -/
def Dev.calBegins (r : CalRun) (d : Dev) : Dev :=
  let x := d.inp r.input
  let e := d.setRun r.input fun r => { r with began := true, gains := (x.g, x.lbg) }
  let e := (e.setInp r.input fun x => { x with mode := .calibrating, iso := false, g := 0 }).leavesLive r.input
  if r.startup then e
  else
    let cs := e.ctxsOn r.input
    let e := (cs.filter fun c => e.stdOf c ≤ 1).foldl (fun e c => e.nbCut c) e
    cs.foldl (fun e c => e.ctxEvent c 3 3 5) e

/-- The hold of a run ends (R264, R283-R285, R288): CAL_DONE or CAL_REJECTED; a start-up run that agreed goes live at the next
boundary, and one that did not leaves its input off. -/
def Dev.calEnds (r : CalRun) (o : CalOutcome) (d : Dev) : Dev :=
  let agreed : Bool := match o with
    | .agreed _ _ => true
    | _ => false
  let e := d.applyDone r.input
  let e := { e with cal.runs := e.cal.runs.filter (·.input != r.input), cal.holdEnd := e.cal.holdEnd.set r.input (some d.now) }
  let e := e.setInp r.input fun x =>
    if !r.startup then { x with mode := .live, detMain := none }
    else if agreed then { x with mode := .starting, liveDue := some d.nextBoundary } else { x with mode := .off }
  let e := e.calEvent r o
  if r.startup then e else (e.ctxsOn r.input).foldl (fun e c => e.ctxEvent c 3 3 6) e

/-- Calibration at a boundary (DEDUCED log 47). -/
def Dev.calRound (d : Dev) : Dev :=
  let e := d.cal.runs.foldl (fun e r =>
    if !r.began then e.onlyIf (r.start ≤ d.now) (Dev.calBegins r)
    else match r.outcome with
      | some (o, t) => e.onlyIf (t ≤ d.now) (Dev.calEnds r o)
      | none => e) d
  match e.cal.syn0Run with
  | some r => if !r.began && r.start ≤ e.now then ({ e with cal.syn0Run := some { r with began := true } } : Dev).syn0Start else e
  | none => e

/-! ## Owners and lists -/

/-- What a removed fabric device owned passes to the port of HOST_SEL (07 R208, 13 R386). -/
def Dev.ownersPass (d : Dev) : Dev :=
  let port : Iface := if d.pwr.hostSel then .twoWire else .spi
  let e := if d.proto.ownerGone then { d with proto.owner := port, proto.ownerGone := false } else d
  let lost := d.cl.orphans
  lost.foldl (fun e c => match e.ctx? c with
    | some x => (e.setCtx c fun x => { x with owner := port }).ctxEvent c x.state.code x.state.code 9
    | none => e) { e with cl.orphans := [] }

/-- A WATCH_LIST accepted in ACTIVE replaces the list (22 R613, R622). -/
def Dev.watchListRound (d : Dev) : Dev := match d.watch.next with
  | some l => if d.watch.nextDue ≤ d.now then { d with watch.next := none }.replaceList l else d
  | none => d

/-- Standard, frequency and identifier of each foreground tuning (19 R532). -/
def Dev.fgTunings (d : Dev) : List (Nat × Nat × Nat) :=
  (d.trav.ctxs.filter fun x => x.2.fg && x.2.tuning.isSome).map fun x => (x.2.std, x.2.freq, (d.followedId x.1).getD 0)

/-! ## The boundary -/

/-- Slots, inputs, segments and contexts, once the properties of the boundary apply. -/
def Dev.receiverRound (inp : RoundIn) (d : Dev) : Dev :=
  let e := forAll (List.range 4) Dev.inputRound d
  let e := { e.calRound.loRound with pwr.tAvg := inp.tAvg }
  let acted := e.hostActed
  let e := e.dropPreps acted
  let e := e.onlyIf (!e.watch.parked) Dev.traverseRound
  let e := forAll (List.range 64) Dev.slotRound e
  let e := forAll (List.range 4) Dev.xampRound e
  let e := e.dataRound.nbRound.rdsRound.dabRound.drmRound.surveyRound
  let e := e.combinerRound
  let e := e.fbRound e.fgTunings
  e.followRound acted

/-- Everything that a Round boundary does in ACTIVE. The rows that have boundary effects of their own act at the same datum
time (DESIGN CHOICE log 68). -/
def Dev.boundary (inp : RoundIn) (d : Dev) : Dev :=
  let e := (d.slotsCatchUp.audioPath inp.frames inp.ratios).rebaseAll
  let e := (e.spurRound.applyProps.patchTakeover).tocsinRound
  let e := e.receiverRound inp
  let e := (e.audioRound d.hostActed).spdiRound
  let e := e.watchListRound.ownersPass
  -- datum time moves only by the step of 24 R671, at the end of the fabric's boundary
  { e with now := d.now }.fabricRound

/-- What a Round boundary does in WATCH: the commands of R90 that act there. -/
def Dev.watchBoundary (d : Dev) : Dev := d.applyProps.patchTakeover.tocsinRound.ownersPass

/-- The row ROUND_BOUNDARY: every datum time that is a multiple of 131,072 (01 R28, 24 R657). A step of R671 moves datum time
here, so the row does not put it back as the others do. -/
def execRoundBoundary (dt : Nat) (inp : RoundIn) (s : State) : Host.Outcome State Fault Refusal :=
  let d := s.dev.tick dt
  if d.active && d.now % roundTicks == 0 then .next { s with dev := d.boundary inp }
  else s.runIf dt (fun d => d.watching && d.now % roundTicks == 0) Dev.watchBoundary

end Sys2Proof.Machine
end

