-- ==== Sys2Proof/Machine/Dispatch.lean ====
section
/-!
DEFINITION. The meaning of each command, one arm per constructor of `Instr`; each arm is one call of its meaning.
-/
namespace Sys2Proof.Machine

/-- What command `i` does to the state, apart from its queue. -/
def exec (i : Instr) (s : State) : Host.Outcome State Fault Refusal :=
  match i with
  | .powerOn dt => Sys2Proof.Machine.execPowerOn dt s
  | .vddAonBrownOut dt => Sys2Proof.Machine.execVddAonBrownOut dt s
  | .vddCoreBrownOut dt => Sys2Proof.Machine.execVddCoreBrownOut dt s
  | .resetNAssert dt => Sys2Proof.Machine.execResetNAssert dt s
  | .resetNRelease dt => Sys2Proof.Machine.execResetNRelease dt s
  | .testModeChange dt level => Sys2Proof.Machine.execTestModeChange dt level s
  | .strapSampling dt hostSel twAddr => Sys2Proof.Machine.execStrapSampling dt hostSel twAddr s
  | .fuseReadDone dt ok => Sys2Proof.Machine.execFuseReadDone dt ok s
  | .bootPllALock dt ok => Sys2Proof.Machine.execBootPllALock dt ok s
  | .bootSramInitDone dt bad => Sys2Proof.Machine.execBootSramInitDone dt bad s
  | .bootRomCheckDone dt ok => Sys2Proof.Machine.execBootRomCheckDone dt ok s
  | .bootDone dt => Sys2Proof.Machine.execBootDone dt s
  | .refclkLoss dt sinceEdge => Sys2Proof.Machine.execRefclkLoss dt sinceEdge s
  | .refclkRestoredInReset dt => Sys2Proof.Machine.execRefclkRestoredInReset dt s
  | .thermalWarning dt tHot tAvg => Sys2Proof.Machine.execThermalWarning dt tHot tAvg s
  | .thermalShutdown dt sensors tHot => Sys2Proof.Machine.execThermalShutdown dt sensors tHot s
  | .fuseEnChange dt level vppOk => Sys2Proof.Machine.execFuseEnChange dt level vppOk s
  | .sysInfo dt => Sys2Proof.Machine.execSysInfo dt s
  | .sysPower dt => Sys2Proof.Machine.execSysPower dt s
  | .sysPatchLoad dt => Sys2Proof.Machine.execSysPatchLoad dt s
  | .sysReset dt => Sys2Proof.Machine.execSysReset dt s
  | .propSet dt => Sys2Proof.Machine.execPropSet dt s
  | .propGet dt => Sys2Proof.Machine.execPropGet dt s
  | .evtRoute dt => Sys2Proof.Machine.execEvtRoute dt s
  | .sysOwner dt => Sys2Proof.Machine.execSysOwner dt s
  | .sysTemp dt tHot tAvg => Sys2Proof.Machine.execSysTemp dt tHot tAvg s
  | .reservedOpcode dt => Sys2Proof.Machine.execReservedOpcode dt s
  | .sleepEntry dt => Sys2Proof.Machine.execSleepEntry dt s
  | .sysResetTakesEffect dt => Sys2Proof.Machine.execSysResetTakesEffect dt s
  | .spiCmdPush dt bytes => Sys2Proof.Machine.execSpiCmdPush dt bytes s
  | .spiRspPull dt clocked => Sys2Proof.Machine.execSpiRspPull dt clocked s
  | .spiEvtPull dt clocked => Sys2Proof.Machine.execSpiEvtPull dt clocked s
  | .spiDataPull dt queue clocked => Sys2Proof.Machine.execSpiDataPull dt queue clocked s
  | .spiFastStatus dt => Sys2Proof.Machine.execSpiFastStatus dt s
  | .spiUnknownInstruction dt code => Sys2Proof.Machine.execSpiUnknownInstruction dt code s
  | .registerWrite dt port addr values => Sys2Proof.Machine.execRegisterWrite dt port addr values s
  | .irqStatusWrite dt port reg value => Sys2Proof.Machine.execIrqStatusWrite dt port reg value s
  | .sysStatusClear dt port value => Sys2Proof.Machine.execSysStatusClear dt port value s
  | .twStatusClear dt port value => Sys2Proof.Machine.execTwStatusClear dt port value s
  | .twCfgWrite dt port value => Sys2Proof.Machine.execTwCfgWrite dt port value s
  | .tocsinTimeLoRead dt addr count => Sys2Proof.Machine.execTocsinTimeLoRead dt addr count s
  | .twPointerWrite dt bytes => Sys2Proof.Machine.execTwPointerWrite dt bytes s
  | .twMirrorRead dt count => Sys2Proof.Machine.execTwMirrorRead dt count s
  | .twCommandMailboxWrite dt bytes => Sys2Proof.Machine.execTwCommandMailboxWrite dt bytes s
  | .twPendingPacketEntersQ2 dt => Sys2Proof.Machine.execTwPendingPacketEntersQ2 dt s
  | .twMailboxStatusRead dt count => Sys2Proof.Machine.execTwMailboxStatusRead dt count s
  | .twReplyMailboxRead dt count => Sys2Proof.Machine.execTwReplyMailboxRead dt count s
  | .twEventMailboxRead dt count => Sys2Proof.Machine.execTwEventMailboxRead dt count s
  | .twAlertResponse dt lostAt => Sys2Proof.Machine.execTwAlertResponse dt lostAt s
  | .twTargetTimeout dt sdaHeld part => Sys2Proof.Machine.execTwTargetTimeout dt sdaHeld part s
  | .twcXfer dt => Sys2Proof.Machine.execTwcXfer dt s
  | .twcRecover dt => Sys2Proof.Machine.execTwcRecover dt s
  | .twcStatus dt => Sys2Proof.Machine.execTwcStatus dt s
  | .twcAttemptStart dt linesHigh => Sys2Proof.Machine.execTwcAttemptStart dt linesHigh s
  | .twcBusFreeTimeout dt => Sys2Proof.Machine.execTwcBusFreeTimeout dt s
  | .twArbLost dt byteNo bitNo rdData => Sys2Proof.Machine.execTwArbLost dt byteNo bitNo rdData s
  | .twcTransferEnd dt result wrDone rdData => Sys2Proof.Machine.execTwcTransferEnd dt result wrDone rdData s
  | .twcSclLowTimeout dt wrDone rdData => Sys2Proof.Machine.execTwcSclLowTimeout dt wrDone rdData s
  | .twRecoveryDone dt pulses released => Sys2Proof.Machine.execTwRecoveryDone dt pulses released s
  | .twRecoverySclTimeout dt => Sys2Proof.Machine.execTwRecoverySclTimeout dt s
  | .replyQueueWaitTimeout dt => Sys2Proof.Machine.execReplyQueueWaitTimeout dt s
  | .secNonce dt => Sys2Proof.Machine.execSecNonce dt s
  | .secFuseRead dt => Sys2Proof.Machine.execSecFuseRead dt s
  | .secFuseProgram dt => Sys2Proof.Machine.execSecFuseProgram dt s
  | .fuseProgrammingDone dt setBits givenUp stopped => Sys2Proof.Machine.execFuseProgrammingDone dt setBits givenUp stopped s
  | .secDebugUnlock dt => Sys2Proof.Machine.execSecDebugUnlock dt s
  | .clkAudio dt => Sys2Proof.Machine.execClkAudio dt s
  | .clkSpurPlan dt => Sys2Proof.Machine.execClkSpurPlan dt s
  | .clkStatus dt => Sys2Proof.Machine.execClkStatus dt s
  | .pllALockLoss dt => Sys2Proof.Machine.execPllALockLoss dt s
  | .plldLiveLockLoss dt => Sys2Proof.Machine.execPlldLiveLockLoss dt s
  | .pllFLockLoss dt => Sys2Proof.Machine.execPllFLockLoss dt s
  | .pllAudLockLoss dt => Sys2Proof.Machine.execPllAudLockLoss dt s
  | .plldIdleLock dt => Sys2Proof.Machine.execPlldIdleLock dt s
  | .plldLockAttemptTimeout dt => Sys2Proof.Machine.execPlldLockAttemptTimeout dt s
  | .handshakeQuietPoint dt => Sys2Proof.Machine.execHandshakeQuietPoint dt s
  | .audioRefEdgeFault dt gap => Sys2Proof.Machine.execAudioRefEdgeFault dt gap s
  | .audioRefLost dt gap offset => Sys2Proof.Machine.execAudioRefLost dt gap offset s
  | .audioRefValid dt edges worst => Sys2Proof.Machine.execAudioRefValid dt edges worst s
  | .audioPllPhaseLock dt offset => Sys2Proof.Machine.execAudioPllPhaseLock dt offset s
  | .audioPllLocked dt offset => Sys2Proof.Machine.execAudioPllLocked dt offset s
  | .audioPllRelockTimeout dt => Sys2Proof.Machine.execAudioPllRelockTimeout dt s
  | .handshakeTimeout dt crossing farRegion region block held stalled => Sys2Proof.Machine.execHandshakeTimeout dt crossing farRegion region block held stalled s
  | .roundBoundary dt inp => Sys2Proof.Machine.execRoundBoundary dt inp s
  | .traversePlanFreeze dt => Sys2Proof.Machine.execTraversePlanFreeze dt s
  | .pagerRestore dt ctx => Sys2Proof.Machine.execPagerRestore dt ctx s
  | .pagerPark dt ctx => Sys2Proof.Machine.execPagerPark dt ctx s
  | .dwellEnd dt ctx => Sys2Proof.Machine.execDwellEnd dt ctx s
  | .noResourceStarvation dt => Sys2Proof.Machine.execNoResourceStarvation dt s
  | .ctxOpen dt => Sys2Proof.Machine.execCtxOpen dt s
  | .ctxClose dt => Sys2Proof.Machine.execCtxClose dt s
  | .ctxConfig dt => Sys2Proof.Machine.execCtxConfig dt s
  | .ctxStatus dt => Sys2Proof.Machine.execCtxStatus dt s
  | .ctxTune dt => Sys2Proof.Machine.execCtxTune dt s
  | .ctxSuspend dt => Sys2Proof.Machine.execCtxSuspend dt s
  | .ctxResume dt => Sys2Proof.Machine.execCtxResume dt s
  | .ctxHandover dt => Sys2Proof.Machine.execCtxHandover dt s
  | .resStatus dt => Sys2Proof.Machine.execResStatus dt s
  | .feInput dt tAvg => Sys2Proof.Machine.execFeInput dt tAvg s
  | .feAgc dt => Sys2Proof.Machine.execFeAgc dt s
  | .feXamp dt => Sys2Proof.Machine.execFeXamp dt s
  | .feDiag dt => Sys2Proof.Machine.execFeDiag dt s
  | .feLband dt => Sys2Proof.Machine.execFeLband dt s
  | .agcWindowEnd dt input codes detMain detLb => Sys2Proof.Machine.execAgcWindowEnd dt input codes detMain detLb s
  | .auxAdcSample dt input mv => Sys2Proof.Machine.execAuxAdcSample dt input mv s
  | .xampInrushExpiry dt input => Sys2Proof.Machine.execXampInrushExpiry dt input s
  | .xampSettleExpiry dt input => Sys2Proof.Machine.execXampSettleExpiry dt input s
  | .xampEepromReadDone dt result bytes => Sys2Proof.Machine.execXampEepromReadDone dt result bytes s
  | .xampOffDelayExpiry dt input => Sys2Proof.Machine.execXampOffDelayExpiry dt input s
  | .xampRetryWaitExpiry dt input => Sys2Proof.Machine.execXampRetryWaitExpiry dt input s
  | .syn0Lock dt => Sys2Proof.Machine.execSyn0Lock dt s
  | .syn0LockLoss dt => Sys2Proof.Machine.execSyn0LockLoss dt s
  | .syn0ReacquireTimeout dt => Sys2Proof.Machine.execSyn0ReacquireTimeout dt s
  | .calRun dt => Sys2Proof.Machine.execCalRun dt s
  | .calRead dt => Sys2Proof.Machine.execCalRead dt s
  | .calWrite dt tAvg => Sys2Proof.Machine.execCalWrite dt tAvg s
  | .synTableRead dt => Sys2Proof.Machine.execSynTableRead dt s
  | .synTableWrite dt tAvg => Sys2Proof.Machine.execSynTableWrite dt tAvg s
  | .calPassEnd dt input trims codes tAvg => Sys2Proof.Machine.execCalPassEnd dt input trims codes tAvg s
  | .calApplyDone dt input => Sys2Proof.Machine.execCalApplyDone dt input s
  | .syn0SearchEnd dt band cap tAvg => Sys2Proof.Machine.execSyn0SearchEnd dt band cap tAvg s
  | .calTemperatureCheck dt tAvg => Sys2Proof.Machine.execCalTemperatureCheck dt tAvg s
  | .syn1ChannelCalDone dt ok band cap tAvg => Sys2Proof.Machine.execSyn1ChannelCalDone dt ok band cap tAvg s
  | .surveyCycleBoundary dt => Sys2Proof.Machine.execSurveyCycleBoundary dt s
  | .surveyVisitEnd dt seg => Sys2Proof.Machine.execSurveyVisitEnd dt seg s
  | .surveyCfg dt => Sys2Proof.Machine.execSurveyCfg dt s
  | .surveyRead dt => Sys2Proof.Machine.execSurveyRead dt s
  | .coefLoad dt => Sys2Proof.Machine.execCoefLoad dt s
  | .slotStatus dt => Sys2Proof.Machine.execSlotStatus dt s
  | .slotPin dt => Sys2Proof.Machine.execSlotPin dt s
  | .nbWindowEnd dt ctx => Sys2Proof.Machine.execNbWindowEnd dt ctx s
  | .amCoarseSearchDone dt ctx => Sys2Proof.Machine.execAmCoarseSearchDone dt ctx s
  | .nbCfg dt => Sys2Proof.Machine.execNbCfg dt s
  | .nbMetrics dt => Sys2Proof.Machine.execNbMetrics dt s
  | .rdsBlockDecoded dt ctx stream => Sys2Proof.Machine.execRdsBlockDecoded dt ctx stream s
  | .rdsGroupComplete dt ctx stream => Sys2Proof.Machine.execRdsGroupComplete dt ctx stream s
  | .rdsCfg dt => Sys2Proof.Machine.execRdsCfg dt s
  | .rdsStatus dt => Sys2Proof.Machine.execRdsStatus dt s
  | .dabNullDetected dt inst => Sys2Proof.Machine.execDabNullDetected dt inst s
  | .dabPrsProcessed dt inst => Sys2Proof.Machine.execDabPrsProcessed dt inst s
  | .dabFibDecoded dt inst good bytes figs => Sys2Proof.Machine.execDabFibDecoded dt inst good bytes figs s
  | .dabDatabaseComplete dt inst => Sys2Proof.Machine.execDabDatabaseComplete dt inst s
  | .dabCifDecoded dt ctx cif bytes ber => Sys2Proof.Machine.execDabCifDecoded dt ctx cif bytes ber s
  | .dabLayer2Frame dt ctx headerOk => Sys2Proof.Machine.execDabLayer2Frame dt ctx headerOk s
  | .dabSuperframe dt ctx pass corrected failed aus => Sys2Proof.Machine.execDabSuperframe dt ctx pass corrected failed aus s
  | .dabPacketDataGroup dt ctx addr xpad crc bytes => Sys2Proof.Machine.execDabPacketDataGroup dt ctx addr xpad crc bytes s
  | .dabSyncLoss dt inst => Sys2Proof.Machine.execDabSyncLoss dt inst s
  | .dabAnnouncementTimeout dt => Sys2Proof.Machine.execDabAnnouncementTimeout dt s
  | .dabEnsemble dt => Sys2Proof.Machine.execDabEnsemble dt s
  | .dabServiceSelect dt => Sys2Proof.Machine.execDabServiceSelect dt s
  | .dabFicDump dt => Sys2Proof.Machine.execDabFicDump dt s
  | .dabMetrics dt => Sys2Proof.Machine.execDabMetrics dt s
  | .drmModeFound dt ctx => Sys2Proof.Machine.execDrmModeFound dt ctx s
  | .drmFrequencyFound dt ctx => Sys2Proof.Machine.execDrmFrequencyFound dt ctx s
  | .drmFrameFound dt ctx => Sys2Proof.Machine.execDrmFrameFound dt ctx s
  | .drmFacDecoded dt ctx good fac => Sys2Proof.Machine.execDrmFacDecoded dt ctx good fac s
  | .drmSdcDecoded dt ctx good sdc => Sys2Proof.Machine.execDrmSdcDecoded dt ctx good sdc s
  | .drmMscFrameDecoded dt ctx => Sys2Proof.Machine.execDrmMscFrameDecoded dt ctx s
  | .drmAudioSuperframe dt ctx headerOk aus => Sys2Proof.Machine.execDrmAudioSuperframe dt ctx headerOk aus s
  | .drmTextMessageComplete dt ctx toggle bytes => Sys2Proof.Machine.execDrmTextMessageComplete dt ctx toggle bytes s
  | .drmDataUnit dt ctx crcOk bytes => Sys2Proof.Machine.execDrmDataUnit dt ctx crcOk bytes s
  | .drmSyncLoss dt ctx => Sys2Proof.Machine.execDrmSyncLoss dt ctx s
  | .drmAlarmSdcTimeout dt => Sys2Proof.Machine.execDrmAlarmSdcTimeout dt s
  | .drmCfg dt => Sys2Proof.Machine.execDrmCfg dt s
  | .drmServiceSelect dt => Sys2Proof.Machine.execDrmServiceSelect dt s
  | .drmMetrics dt => Sys2Proof.Machine.execDrmMetrics dt s
  | .cmbCfg dt => Sys2Proof.Machine.execCmbCfg dt s
  | .cmbStatus dt => Sys2Proof.Machine.execCmbStatus dt s
  | .fbChangedReport dt => Sys2Proof.Machine.execFbChangedReport dt s
  | .fbQuery dt => Sys2Proof.Machine.execFbQuery dt s
  | .fbPut dt => Sys2Proof.Machine.execFbPut dt s
  | .fbDrop dt => Sys2Proof.Machine.execFbDrop dt s
  | .fbExport dt => Sys2Proof.Machine.execFbExport dt s
  | .fbImport dt => Sys2Proof.Machine.execFbImport dt s
  | .followCfg dt => Sys2Proof.Machine.execFollowCfg dt s
  | .followStatus dt => Sys2Proof.Machine.execFollowStatus dt s
  | .followEvaluation dt prog => Sys2Proof.Machine.execFollowEvaluation dt prog s
  | .followAlignMeasurement dt prog => Sys2Proof.Machine.execFollowAlignMeasurement dt prog s
  | .followAlignTimeout dt prog => Sys2Proof.Machine.execFollowAlignTimeout dt prog s
  | .followPartnerReady dt prog => Sys2Proof.Machine.execFollowPartnerReady dt prog s
  | .fadeEnd dt prog => Sys2Proof.Machine.execFadeEnd dt prog s
  | .audioFrameDecoded dt ctx bad rate layout pcm => Sys2Proof.Machine.execAudioFrameDecoded dt ctx bad rate layout pcm s
  | .progRoute dt => Sys2Proof.Machine.execProgRoute dt s
  | .portCfg dt => Sys2Proof.Machine.execPortCfg dt s
  | .portRun dt => Sys2Proof.Machine.execPortRun dt s
  | .spdifCfg dt => Sys2Proof.Machine.execSpdifCfg dt s
  | .progLevel dt => Sys2Proof.Machine.execProgLevel dt s
  | .blendCfg dt => Sys2Proof.Machine.execBlendCfg dt s
  | .audioStatus dt => Sys2Proof.Machine.execAudioStatus dt s
  | .portFaultFrame dt leader kind => Sys2Proof.Machine.execPortFaultFrame dt leader kind s
  | .portFaultClear dt leader => Sys2Proof.Machine.execPortFaultClear dt leader s
  | .portSlaveClockLost dt port gap faults offset => Sys2Proof.Machine.execPortSlaveClockLost dt port gap faults offset s
  | .portSlaveClockValid dt port frames bclks worst => Sys2Proof.Machine.execPortSlaveClockValid dt port frames bclks worst s
  | .portStopComplete dt output => Sys2Proof.Machine.execPortStopComplete dt output s
  | .spdifInLost dt gap errors offset => Sys2Proof.Machine.execSpdifInLost dt gap errors offset s
  | .spdifInValid dt frames errors offset => Sys2Proof.Machine.execSpdifInValid dt frames errors offset s
  | .queueCfg dt => Sys2Proof.Machine.execQueueCfg dt s
  | .queueBind dt => Sys2Proof.Machine.execQueueBind dt s
  | .queueStatus dt => Sys2Proof.Machine.execQueueStatus dt s
  | .queueFlush dt => Sys2Proof.Machine.execQueueFlush dt s
  | .motDataGroup dt ctx typ tid seg last bytes entries => Sys2Proof.Machine.execMotDataGroup dt ctx typ tid seg last bytes entries s
  | .motObjectTimeout dt => Sys2Proof.Machine.execMotObjectTimeout dt s
  | .watchList dt tAvg => Sys2Proof.Machine.execWatchList dt tAvg s
  | .watchEnter dt => Sys2Proof.Machine.execWatchEnter dt s
  | .watchStatus dt => Sys2Proof.Machine.execWatchStatus dt s
  | .watchEntryBoundary dt => Sys2Proof.Machine.execWatchEntryBoundary dt s
  | .watchEntered dt tAvg => Sys2Proof.Machine.execWatchEntered dt tAvg s
  | .watchHopComplete dt => Sys2Proof.Machine.execWatchHopComplete dt s
  | .watchLevelMeasured dt level tAvg => Sys2Proof.Machine.execWatchLevelMeasured dt level tAvg s
  | .watchNoSyncTimeout dt tAvg => Sys2Proof.Machine.execWatchNoSyncTimeout dt tAvg s
  | .watchDwellEnd dt seen tAvg => Sys2Proof.Machine.execWatchDwellEnd dt seen tAvg s
  | .watchAlarmStateChange dt seen => Sys2Proof.Machine.execWatchAlarmStateChange dt seen s
  | .syn1LockLoss dt tAvg => Sys2Proof.Machine.execSyn1LockLoss dt tAvg s
  | .watchExitComplete dt => Sys2Proof.Machine.execWatchExitComplete dt s
  | .clPort dt => Sys2Proof.Machine.execClPort dt s
  | .clJoin dt => Sys2Proof.Machine.execClJoin dt s
  | .clLeave dt => Sys2Proof.Machine.execClLeave dt s
  | .clStreamOpen dt => Sys2Proof.Machine.execClStreamOpen dt s
  | .clStreamClose dt => Sys2Proof.Machine.execClStreamClose dt s
  | .clTopology dt => Sys2Proof.Machine.execClTopology dt s
  | .clRemote dt => Sys2Proof.Machine.execClRemote dt s
  | .clTime dt => Sys2Proof.Machine.execClTime dt s
  | .pllFLock dt => Sys2Proof.Machine.execPllFLock dt s
  | .clPortLinked dt port groups => Sys2Proof.Machine.execClPortLinked dt port groups s
  | .clSyncLost dt port errors groups => Sys2Proof.Machine.execClSyncLost dt port errors groups s
  | .clSignalLost dt port below => Sys2Proof.Machine.execClSignalLost dt port below s
  | .helloSend dt port => Sys2Proof.Machine.execHelloSend dt port s
  | .helloFrame dt port bytes => Sys2Proof.Machine.execHelloFrame dt port bytes s
  | .tollFrame dt port x bytes => Sys2Proof.Machine.execTollFrame dt port x bytes s
  | .pealFrame dt port x bytes => Sys2Proof.Machine.execPealFrame dt port x bytes s
  | .leaveFrame dt port x bytes => Sys2Proof.Machine.execLeaveFrame dt port x bytes s
  | .streamFrame dt port x bytes => Sys2Proof.Machine.execStreamFrame dt port x bytes s
  | .bundleFrame dt port x bytes => Sys2Proof.Machine.execBundleFrame dt port x bytes s
  | .remoteCmdFrame dt port x bytes => Sys2Proof.Machine.execRemoteCmdFrame dt port x bytes s
  | .remoteAckFrame dt port x bytes => Sys2Proof.Machine.execRemoteAckFrame dt port x bytes s
  | .remoteReplyFrame dt port x bytes => Sys2Proof.Machine.execRemoteReplyFrame dt port x bytes s
  | .replyAckFrame dt port x bytes => Sys2Proof.Machine.execReplyAckFrame dt port x bytes s
  | .reservedFrame dt port x bytes => Sys2Proof.Machine.execReservedFrame dt port x bytes s
  | .fabricSlotStart dt => Sys2Proof.Machine.execFabricSlotStart dt s
  | .announcePealSend dt => Sys2Proof.Machine.execAnnouncePealSend dt s
  | .discoveryQuietEnd dt => Sys2Proof.Machine.execDiscoveryQuietEnd dt s
  | .topologyRefresh dt => Sys2Proof.Machine.execTopologyRefresh dt s
  | .routeTableApply dt => Sys2Proof.Machine.execRouteTableApply dt s
  | .remoteCmdRetryTimeout dt rseq => Sys2Proof.Machine.execRemoteCmdRetryTimeout dt rseq s
  | .remoteReplyRetryTimeout dt device rseq => Sys2Proof.Machine.execRemoteReplyRetryTimeout dt device rseq s
  | .clStreamOpenTimeout dt => Sys2Proof.Machine.execClStreamOpenTimeout dt s
  | .streamReleaseRepeat dt stream => Sys2Proof.Machine.execStreamReleaseRepeat dt stream s
  | .slotGrantApply dt => Sys2Proof.Machine.execSlotGrantApply dt s
  | .clDuplicateReport dt => Sys2Proof.Machine.execClDuplicateReport dt s
  | .clPortDriftSuspect dt port => Sys2Proof.Machine.execClPortDriftSuspect dt port s
  | .clTollLoss dt => Sys2Proof.Machine.execClTollLoss dt s
  | .clHoldoverMaxExpiry dt => Sys2Proof.Machine.execClHoldoverMaxExpiry dt s
  | .tocsinErrorArrival dt errs tHot => Sys2Proof.Machine.execTocsinErrorArrival dt errs tHot s
  | .correctableError dt err => Sys2Proof.Machine.execCorrectableError dt err s
  | .faultCorrectedReport dt => Sys2Proof.Machine.execFaultCorrectedReport dt s
  | .watchdogExpiry dt region block => Sys2Proof.Machine.execWatchdogExpiry dt region block s
  | .lockstepMismatch dt fetchAddr => Sys2Proof.Machine.execLockstepMismatch dt fetchAddr s
  | .busTimeout dt region block master access addr => Sys2Proof.Machine.execBusTimeout dt region block master access addr s
  | .heartbeat dt => Sys2Proof.Machine.execHeartbeat dt s
  | .heartbeatTimeout dt => Sys2Proof.Machine.execHeartbeatTimeout dt s
  | .injectionMissed dt => Sys2Proof.Machine.execInjectionMissed dt s
  | .aliveToggle dt => Sys2Proof.Machine.execAliveToggle dt s
  | .haltResponderPacket dt => Sys2Proof.Machine.execHaltResponderPacket dt s
  | .fltRead dt => Sys2Proof.Machine.execFltRead dt s
  | .fltAck dt => Sys2Proof.Machine.execFltAck dt s
  | .fltInject dt => Sys2Proof.Machine.execFltInject dt s
  | .fltPolicy dt => Sys2Proof.Machine.execFltPolicy dt s
  | .vddCoreBrownOutRelease dt => Sys2Proof.Machine.execVddCoreBrownOutRelease dt s
  | .rdsBitLockChange dt ctx stream => Sys2Proof.Machine.execRdsBitLockChange dt ctx stream s
  | .jtagInstruction dt code => Sys2Proof.Machine.execJtagInstruction dt code s
  | .ioBankSupplyChange dt bank inRange is33 => Sys2Proof.Machine.execIoBankSupplyChange dt bank inRange is33 s
  | .portGroupBackInStep dt leader frames => Sys2Proof.Machine.execPortGroupBackInStep dt leader frames s
  | .twBusStartStop dt isStop => Sys2Proof.Machine.execTwBusStartStop dt isStop s

end Sys2Proof.Machine
end

