-- ==== Sys2Proof/Machine/Step.lean ====
section
/-!
DEFINITION. One step of the block: the command at the front of the queue, run on the state with the queue's rest.
-/
namespace Sys2Proof.Machine

/-- Run the front command; an empty queue leaves the block idle (DESIGN CHOICE log 6) (DESIGN CHOICE log 22)
(DESIGN CHOICE log 110). -/
def step (s : State) : Host.Outcome State Fault Refusal :=
  match s.pending with
  | [] => .next s
  | c :: rest => exec c { s with pending := rest }

/-- `s` with the command that the table word `w` spells put at the front of its queue; no row of the table has bits,
so no word spells a command and `s` stays as it is (DESIGN CHOICE log 14). -/
def State.withFetchWord (s : State) (nbits w : Nat) : State :=
  match decodeTableWord nbits w with
  | none => s
  | some c => { s with pending := c :: s.pending }

end Sys2Proof.Machine
end

