-- ==== Sys2Proof/WellFormed.lean ====
section
/-!
DEFINITION. Which commands are well formed: the numbers that name a part of the device (an input, a segment, a context, a port, a
region) are ones the spec has, and a temperature fits its 16-bit field. The meanings are total: they do not ask for this.
-/
namespace Sys2Proof

/-- A signed 16-bit number (03 R98: temperatures). -/
def isS16 (t : Int) : Bool := -32768 ≤ t && t ≤ 32767

/-- A signed 24-bit number (20 R557). -/
def isS24 (v : Int) : Bool := -8388608 ≤ v && v ≤ 8388607

/-- A code of the 12-bit converters (09 R256). -/
def isCode (c : Int) : Bool := -2048 ≤ c && c ≤ 2047

/-- An error as Tocsin can receive it (25 R679, R680, R699). -/
def ErrIn.wf (e : ErrIn) : Bool :=
  1 ≤ e.cls && e.cls ≤ 0x10 && e.level < 4 && e.region < 5 && e.block < 256 && e.master < 256 && e.access < 7
    && e.addr < 2 ^ 32 && e.detail < 2 ^ 64

/-- Operands that name a part of the device name one that exists. -/
def Instr.wf : Instr → Bool
  | .bootSramInitDone _ bad => bad.all ErrIn.wf
  | .thermalWarning _ tHot tAvg => isS16 tHot && isS16 tAvg
  | .thermalShutdown _ sensors tHot => sensors.all (· < 8) && isS16 tHot
  | .sysTemp _ tHot tAvg => isS16 tHot && isS16 tAvg
  | .spiDataPull _ queue _ => queue < 256
  | .handshakeTimeout _ crossing farRegion region block _ _ => crossing < 7 && farRegion < 16 && region < 5 && block < 256
  | .pagerRestore _ ctx => ctx < 128
  | .pagerPark _ ctx => ctx < 128
  | .dwellEnd _ ctx => ctx < 128
  | .feInput _ tAvg => isS16 tAvg
  | .agcWindowEnd _ input codes _ _ => input < 4 && codes.length == 16384 && codes.all isCode
  | .auxAdcSample _ input _ => input < 4
  | .xampInrushExpiry _ input => input < 4
  | .xampSettleExpiry _ input => input < 4
  | .xampOffDelayExpiry _ input => input < 4
  | .xampRetryWaitExpiry _ input => input < 4
  | .calWrite _ tAvg => isS16 tAvg
  | .synTableWrite _ tAvg => isS16 tAvg
  | .calPassEnd _ input _ codes tAvg => input < 4 && codes.length == 1048576 && codes.all isCode && isS16 tAvg
  | .calApplyDone _ input => input < 4
  | .syn0SearchEnd _ _ _ tAvg => isS16 tAvg
  | .calTemperatureCheck _ tAvg => isS16 tAvg
  | .syn1ChannelCalDone _ _ _ _ tAvg => isS16 tAvg
  | .surveyVisitEnd _ seg => seg < 16
  | .nbWindowEnd _ ctx => ctx < 128
  | .amCoarseSearchDone _ ctx => ctx < 128
  | .rdsBlockDecoded _ ctx stream => ctx < 128 && stream < 4
  | .rdsGroupComplete _ ctx _ => ctx < 128
  | .dabCifDecoded _ ctx _ _ _ => ctx < 128
  | .dabLayer2Frame _ ctx _ => ctx < 128
  | .dabSuperframe _ ctx _ _ _ _ => ctx < 128
  | .dabPacketDataGroup _ ctx _ _ _ _ => ctx < 128
  | .drmModeFound _ ctx => ctx < 128
  | .drmFrequencyFound _ ctx => ctx < 128
  | .drmFrameFound _ ctx => ctx < 128
  | .drmFacDecoded _ ctx _ _ => ctx < 128
  | .drmSdcDecoded _ ctx _ _ => ctx < 128
  | .drmMscFrameDecoded _ ctx => ctx < 128
  | .drmAudioSuperframe _ ctx _ _ => ctx < 128
  | .drmTextMessageComplete _ ctx _ _ => ctx < 128
  | .drmDataUnit _ ctx _ _ => ctx < 128
  | .drmSyncLoss _ ctx => ctx < 128
  | .followEvaluation _ prog => prog < 4
  | .followAlignMeasurement _ prog => prog < 4
  | .followAlignTimeout _ prog => prog < 4
  | .followPartnerReady _ prog => prog < 4
  | .fadeEnd _ prog => prog < 4
  | .audioFrameDecoded _ ctx _ rate layout pcm =>
    ctx < 128 && [12, 16, 24, 32, 48].contains rate && layout < 3 && pcm.all fun s => isS24 s.1 && isS24 s.2
  | .portFaultFrame _ leader _ => leader < 4
  | .portFaultClear _ leader => leader < 4
  | .portSlaveClockLost _ port _ _ _ => port < 4
  | .portSlaveClockValid _ port _ _ _ => port < 4
  | .portStopComplete _ output => output < 6
  | .motDataGroup _ ctx _ _ _ _ _ _ => ctx < 128
  | .watchList _ tAvg => isS16 tAvg
  | .watchEntered _ tAvg => isS16 tAvg
  | .watchLevelMeasured _ _ tAvg => isS16 tAvg
  | .watchNoSyncTimeout _ tAvg => isS16 tAvg
  | .watchDwellEnd _ _ tAvg => isS16 tAvg
  | .syn1LockLoss _ tAvg => isS16 tAvg
  | .clPortLinked _ port _ => port < 4
  | .clSyncLost _ port _ _ => port < 4
  | .clSignalLost _ port _ => port < 4
  | .helloSend _ port => port < 4
  | .helloFrame _ port _ => port < 4
  | .tollFrame _ port _ _ => port < 4
  | .pealFrame _ port _ _ => port < 4
  | .leaveFrame _ port _ _ => port < 4
  | .streamFrame _ port _ _ => port < 4
  | .bundleFrame _ port _ _ => port < 4
  | .remoteCmdFrame _ port _ _ => port < 4
  | .remoteAckFrame _ port _ _ => port < 4
  | .remoteReplyFrame _ port _ _ => port < 4
  | .replyAckFrame _ port _ _ => port < 4
  | .reservedFrame _ port _ _ => port < 4
  | .remoteReplyRetryTimeout _ device _ => device < 33
  | .clPortDriftSuspect _ port => port < 4
  | .tocsinErrorArrival _ errs tHot => errs.all ErrIn.wf && isS16 tHot
  | .correctableError _ err => err.wf
  | .watchdogExpiry _ region block => region < 5 && block < 256
  | .lockstepMismatch _ fetchAddr => fetchAddr < 2 ^ 32
  | .busTimeout _ region block master access addr => region < 5 && block < 256 && master < 256 && access < 7 && addr < 2 ^ 32
  | .rdsBitLockChange _ ctx stream => ctx < 128 && stream < 4
  | .ioBankSupplyChange _ bank _ _ => bank < 5
  | .portGroupBackInStep _ leader _ => leader < 4
  | .powerOn _ | .vddAonBrownOut _ | .vddCoreBrownOut _ | .resetNAssert _ | .resetNRelease _ | .testModeChange _ _
  | .strapSampling _ _ _ | .fuseReadDone _ _ | .bootPllALock _ _ | .bootRomCheckDone _ _ | .bootDone _
  | .refclkLoss _ _ | .refclkRestoredInReset _ | .fuseEnChange _ _ _ | .sysInfo _ | .sysPower _ | .sysPatchLoad _
  | .sysReset _ | .propSet _ | .propGet _ | .evtRoute _ | .sysOwner _ | .reservedOpcode _ | .sleepEntry _
  | .sysResetTakesEffect _ | .spiCmdPush _ _ | .spiRspPull _ _ | .spiEvtPull _ _ | .spiFastStatus _
  | .spiUnknownInstruction _ _ | .registerWrite _ _ _ _ | .irqStatusWrite _ _ _ _ | .sysStatusClear _ _ _
  | .twStatusClear _ _ _ | .twCfgWrite _ _ _ | .tocsinTimeLoRead _ _ _ | .twPointerWrite _ _ | .twMirrorRead _ _
  | .twCommandMailboxWrite _ _ | .twPendingPacketEntersQ2 _ | .twMailboxStatusRead _ _ | .twReplyMailboxRead _ _
  | .twEventMailboxRead _ _ | .twAlertResponse _ _ | .twTargetTimeout _ _ _ | .twcXfer _ | .twcRecover _
  | .twcStatus _ | .twcAttemptStart _ _ | .twcBusFreeTimeout _ | .twArbLost _ _ _ _ | .twcTransferEnd _ _ _ _
  | .twcSclLowTimeout _ _ _ | .twRecoveryDone _ _ _ | .twRecoverySclTimeout _ | .replyQueueWaitTimeout _
  | .secNonce _ | .secFuseRead _ | .secFuseProgram _ | .fuseProgrammingDone _ _ _ _ | .secDebugUnlock _ | .clkAudio _
  | .clkSpurPlan _ | .clkStatus _ | .pllALockLoss _ | .plldLiveLockLoss _ | .pllFLockLoss _ | .pllAudLockLoss _
  | .plldIdleLock _ | .plldLockAttemptTimeout _ | .handshakeQuietPoint _ | .audioRefEdgeFault _ _
  | .audioRefLost _ _ _ | .audioRefValid _ _ _ | .audioPllPhaseLock _ _ | .audioPllLocked _ _
  | .audioPllRelockTimeout _ | .roundBoundary _ _ | .traversePlanFreeze _ | .noResourceStarvation _ | .ctxOpen _
  | .ctxClose _ | .ctxConfig _ | .ctxStatus _ | .ctxTune _ | .ctxSuspend _ | .ctxResume _ | .ctxHandover _
  | .resStatus _ | .feAgc _ | .feXamp _ | .feDiag _ | .feLband _ | .xampEepromReadDone _ _ _ | .syn0Lock _
  | .syn0LockLoss _ | .syn0ReacquireTimeout _ | .calRun _ | .calRead _ | .synTableRead _ | .surveyCycleBoundary _
  | .surveyCfg _ | .surveyRead _ | .coefLoad _ | .slotStatus _ | .slotPin _ | .nbCfg _ | .nbMetrics _ | .rdsCfg _
  | .rdsStatus _ | .dabNullDetected _ _ | .dabPrsProcessed _ _ | .dabFibDecoded _ _ _ _ _ | .dabDatabaseComplete _ _
  | .dabSyncLoss _ _ | .dabAnnouncementTimeout _ | .dabEnsemble _ | .dabServiceSelect _ | .dabFicDump _
  | .dabMetrics _ | .drmAlarmSdcTimeout _ | .drmCfg _ | .drmServiceSelect _ | .drmMetrics _ | .cmbCfg _
  | .cmbStatus _ | .fbChangedReport _ | .fbQuery _ | .fbPut _ | .fbDrop _ | .fbExport _ | .fbImport _ | .followCfg _
  | .followStatus _ | .progRoute _ | .portCfg _ | .portRun _ | .spdifCfg _ | .progLevel _ | .blendCfg _
  | .audioStatus _ | .spdifInLost _ _ _ _ | .spdifInValid _ _ _ _ | .queueCfg _ | .queueBind _ | .queueStatus _
  | .queueFlush _ | .motObjectTimeout _ | .watchEnter _ | .watchStatus _ | .watchEntryBoundary _
  | .watchHopComplete _ | .watchAlarmStateChange _ _ | .watchExitComplete _ | .clPort _ | .clJoin _ | .clLeave _
  | .clStreamOpen _ | .clStreamClose _ | .clTopology _ | .clRemote _ | .clTime _ | .pllFLock _ | .fabricSlotStart _
  | .announcePealSend _ | .discoveryQuietEnd _ | .topologyRefresh _ | .routeTableApply _ | .remoteCmdRetryTimeout _ _
  | .clStreamOpenTimeout _ | .streamReleaseRepeat _ _ | .slotGrantApply _ | .clDuplicateReport _ | .clTollLoss _
  | .clHoldoverMaxExpiry _ | .faultCorrectedReport _ | .heartbeat _ | .heartbeatTimeout _ | .injectionMissed _
  | .aliveToggle _ | .haltResponderPacket _ | .fltRead _ | .fltAck _ | .fltInject _ | .fltPolicy _
  | .vddCoreBrownOutRelease _ | .jtagInstruction _ _ | .twBusStartStop _ _ => true

/-- The datum ticks since the step before the command. -/
def Instr.delay : Instr → Nat
  | .powerOn dt | .vddAonBrownOut dt | .vddCoreBrownOut dt | .resetNAssert dt | .resetNRelease dt
  | .testModeChange dt _ | .strapSampling dt _ _ | .fuseReadDone dt _ | .bootPllALock dt _ | .bootSramInitDone dt _
  | .bootRomCheckDone dt _ | .bootDone dt | .refclkLoss dt _ | .refclkRestoredInReset dt | .thermalWarning dt _ _
  | .thermalShutdown dt _ _ | .fuseEnChange dt _ _ | .sysInfo dt | .sysPower dt | .sysPatchLoad dt | .sysReset dt
  | .propSet dt | .propGet dt | .evtRoute dt | .sysOwner dt | .sysTemp dt _ _ | .reservedOpcode dt | .sleepEntry dt
  | .sysResetTakesEffect dt | .spiCmdPush dt _ | .spiRspPull dt _ | .spiEvtPull dt _ | .spiDataPull dt _ _
  | .spiFastStatus dt | .spiUnknownInstruction dt _ | .registerWrite dt _ _ _ | .irqStatusWrite dt _ _ _
  | .sysStatusClear dt _ _ | .twStatusClear dt _ _ | .twCfgWrite dt _ _ | .tocsinTimeLoRead dt _ _
  | .twPointerWrite dt _ | .twMirrorRead dt _ | .twCommandMailboxWrite dt _ | .twPendingPacketEntersQ2 dt
  | .twMailboxStatusRead dt _ | .twReplyMailboxRead dt _ | .twEventMailboxRead dt _ | .twAlertResponse dt _
  | .twTargetTimeout dt _ _ | .twcXfer dt | .twcRecover dt | .twcStatus dt | .twcAttemptStart dt _
  | .twcBusFreeTimeout dt | .twArbLost dt _ _ _ | .twcTransferEnd dt _ _ _ | .twcSclLowTimeout dt _ _
  | .twRecoveryDone dt _ _ | .twRecoverySclTimeout dt | .replyQueueWaitTimeout dt | .secNonce dt | .secFuseRead dt
  | .secFuseProgram dt | .fuseProgrammingDone dt _ _ _ | .secDebugUnlock dt | .clkAudio dt | .clkSpurPlan dt
  | .clkStatus dt | .pllALockLoss dt | .plldLiveLockLoss dt | .pllFLockLoss dt | .pllAudLockLoss dt
  | .plldIdleLock dt | .plldLockAttemptTimeout dt | .handshakeQuietPoint dt | .audioRefEdgeFault dt _
  | .audioRefLost dt _ _ | .audioRefValid dt _ _ | .audioPllPhaseLock dt _ | .audioPllLocked dt _
  | .audioPllRelockTimeout dt | .handshakeTimeout dt _ _ _ _ _ _ | .roundBoundary dt _ | .traversePlanFreeze dt
  | .pagerRestore dt _ | .pagerPark dt _ | .dwellEnd dt _ | .noResourceStarvation dt | .ctxOpen dt | .ctxClose dt
  | .ctxConfig dt | .ctxStatus dt | .ctxTune dt | .ctxSuspend dt | .ctxResume dt | .ctxHandover dt | .resStatus dt
  | .feInput dt _ | .feAgc dt | .feXamp dt | .feDiag dt | .feLband dt | .agcWindowEnd dt _ _ _ _
  | .auxAdcSample dt _ _ | .xampInrushExpiry dt _ | .xampSettleExpiry dt _ | .xampEepromReadDone dt _ _
  | .xampOffDelayExpiry dt _ | .xampRetryWaitExpiry dt _ | .syn0Lock dt | .syn0LockLoss dt | .syn0ReacquireTimeout dt
  | .calRun dt | .calRead dt | .calWrite dt _ | .synTableRead dt | .synTableWrite dt _ | .calPassEnd dt _ _ _ _
  | .calApplyDone dt _ | .syn0SearchEnd dt _ _ _ | .calTemperatureCheck dt _ | .syn1ChannelCalDone dt _ _ _ _
  | .surveyCycleBoundary dt | .surveyVisitEnd dt _ | .surveyCfg dt | .surveyRead dt | .coefLoad dt | .slotStatus dt
  | .slotPin dt | .nbWindowEnd dt _ | .amCoarseSearchDone dt _ | .nbCfg dt | .nbMetrics dt | .rdsBlockDecoded dt _ _
  | .rdsGroupComplete dt _ _ | .rdsCfg dt | .rdsStatus dt | .dabNullDetected dt _ | .dabPrsProcessed dt _
  | .dabFibDecoded dt _ _ _ _ | .dabDatabaseComplete dt _ | .dabCifDecoded dt _ _ _ _ | .dabLayer2Frame dt _ _
  | .dabSuperframe dt _ _ _ _ _ | .dabPacketDataGroup dt _ _ _ _ _ | .dabSyncLoss dt _ | .dabAnnouncementTimeout dt
  | .dabEnsemble dt | .dabServiceSelect dt | .dabFicDump dt | .dabMetrics dt | .drmModeFound dt _
  | .drmFrequencyFound dt _ | .drmFrameFound dt _ | .drmFacDecoded dt _ _ _ | .drmSdcDecoded dt _ _ _
  | .drmMscFrameDecoded dt _ | .drmAudioSuperframe dt _ _ _ | .drmTextMessageComplete dt _ _ _
  | .drmDataUnit dt _ _ _ | .drmSyncLoss dt _ | .drmAlarmSdcTimeout dt | .drmCfg dt | .drmServiceSelect dt
  | .drmMetrics dt | .cmbCfg dt | .cmbStatus dt | .fbChangedReport dt | .fbQuery dt | .fbPut dt | .fbDrop dt
  | .fbExport dt | .fbImport dt | .followCfg dt | .followStatus dt | .followEvaluation dt _
  | .followAlignMeasurement dt _ | .followAlignTimeout dt _ | .followPartnerReady dt _ | .fadeEnd dt _
  | .audioFrameDecoded dt _ _ _ _ _ | .progRoute dt | .portCfg dt | .portRun dt | .spdifCfg dt | .progLevel dt
  | .blendCfg dt | .audioStatus dt | .portFaultFrame dt _ _ | .portFaultClear dt _ | .portSlaveClockLost dt _ _ _ _
  | .portSlaveClockValid dt _ _ _ _ | .portStopComplete dt _ | .spdifInLost dt _ _ _ | .spdifInValid dt _ _ _
  | .queueCfg dt | .queueBind dt | .queueStatus dt | .queueFlush dt | .motDataGroup dt _ _ _ _ _ _ _
  | .motObjectTimeout dt | .watchList dt _ | .watchEnter dt | .watchStatus dt | .watchEntryBoundary dt
  | .watchEntered dt _ | .watchHopComplete dt | .watchLevelMeasured dt _ _ | .watchNoSyncTimeout dt _
  | .watchDwellEnd dt _ _ | .watchAlarmStateChange dt _ | .syn1LockLoss dt _ | .watchExitComplete dt | .clPort dt
  | .clJoin dt | .clLeave dt | .clStreamOpen dt | .clStreamClose dt | .clTopology dt | .clRemote dt | .clTime dt
  | .pllFLock dt | .clPortLinked dt _ _ | .clSyncLost dt _ _ _ | .clSignalLost dt _ _ | .helloSend dt _
  | .helloFrame dt _ _ | .tollFrame dt _ _ _ | .pealFrame dt _ _ _ | .leaveFrame dt _ _ _ | .streamFrame dt _ _ _
  | .bundleFrame dt _ _ _ | .remoteCmdFrame dt _ _ _ | .remoteAckFrame dt _ _ _ | .remoteReplyFrame dt _ _ _
  | .replyAckFrame dt _ _ _ | .reservedFrame dt _ _ _ | .fabricSlotStart dt | .announcePealSend dt
  | .discoveryQuietEnd dt | .topologyRefresh dt | .routeTableApply dt | .remoteCmdRetryTimeout dt _
  | .remoteReplyRetryTimeout dt _ _ | .clStreamOpenTimeout dt | .streamReleaseRepeat dt _ | .slotGrantApply dt
  | .clDuplicateReport dt | .clPortDriftSuspect dt _ | .clTollLoss dt | .clHoldoverMaxExpiry dt
  | .tocsinErrorArrival dt _ _ | .correctableError dt _ | .faultCorrectedReport dt | .watchdogExpiry dt _ _
  | .lockstepMismatch dt _ | .busTimeout dt _ _ _ _ _ | .heartbeat dt | .heartbeatTimeout dt | .injectionMissed dt
  | .aliveToggle dt | .haltResponderPacket dt | .fltRead dt | .fltAck dt | .fltInject dt | .fltPolicy dt
  | .vddCoreBrownOutRelease dt | .rdsBitLockChange dt _ _ | .jtagInstruction dt _ | .ioBankSupplyChange dt _ _ _
  | .portGroupBackInStep dt _ _ | .twBusStartStop dt _ => dt

end Sys2Proof
end

