-- ==== Sys2Proof/Safety.lean ====
section
/-!
DEFINITION. The words in which the statements speak: which command packet the block admits (07 R193-R202), the state that an
answered command leaves, what outlasts a step, and when a step is safe.
-/
namespace Sys2Proof.Machine

/-! ## Command packets -/

/-- The request that Izosh takes when the front packet `p` is taken next (07 R194). -/
def Dev.nextReq (d : Dev) (p : QPkt) : Req := p.req (nextSeq d.proto.seq)

/-- The device once the front packet `p` is taken (07 R194): off its queue, its index used, no queue waited for. -/
def Dev.taken (d : Dev) (p : QPkt) : Dev := { d.dropFront p with proto.seq := nextSeq d.proto.seq, proto.waitOn := none }

/-- The packet repeats one of the interface's cached packets (07 R198). -/
def Dev.repeats (d : Dev) (q : Req) : Bool := (d.cache q.src).any fun e => e.tag == q.tag && e.crc == q.crc

/-- The front packet is one of opcode `op` that passes the steps 1 to 6 of 07 R202: its request, and the device as the command
itself finds it. -/
def Dev.admits (op : Nat) (d : Dev) : Option (Req × Dev) :=
  match d.front with
  | none => none
  | some p =>
    let q := d.nextReq p
    let e := d.taken p
    if d.takes && p.opcode == op && d.canReply p.src && crcGood p.bytes && !e.repeats q && e.groupFitted q.opcode
        && (q.ctx == 0xFF || q.ctx < e.nCtx) then
      match e.authenticate q p.bytes with
      | (some _, _) => none
      | (none, e1) => some (q, e1)
    else none

/-- As `Dev.admits`, once `dt` ticks have passed. -/
def State.admits (s : State) (dt op : Nat) : Option (Req × Dev) := (s.dev.tick dt).admits op

/-- The reply fits: a fabric sender takes 434 bytes of payload at most (23 R646). -/
def Req.fits (q : Req) (payload : List Byte) : Bool :=
  !q.src.isFabric || (q.largestReply ≤ fabricPayload && payload.length ≤ fabricPayload)

/-- The state with the device `e`, `dt` ticks later. -/
def State.after (s : State) (dt : Nat) (e : Dev) : State := { s with dev := { e with now := (s.dev.tick dt).now } }

/-- The state once the command of request `q` is answered with `st` and `payload`, its effect leaving the device `e`. -/
def State.answered (s : State) (dt : Nat) (q : Req) (st : Status) (payload : List Byte) (e : Dev) : State :=
  s.after dt (e.reply q st payload)

/-! ## What outlasts a step -/

/-- What no ordinary row changes: the fuse array (08 R230), the straps (02 R57), the first-error record (25 R682) and the halt
(25 R689). -/
structure Kept where
  fuses : List Byte
  hostSel : Bool
  twAddr : BitVec 3
  rcd : FaultRec
  halted : Bool
deriving DecidableEq, Repr

/-- `Kept` of a device. -/
def Dev.kept (d : Dev) : Kept := ⟨d.sec.fuses, d.pwr.hostSel, d.pwr.twAddr, d.toc.rcd, d.toc.halted⟩

/-- Every fuse bit of `f` is also set in `g` (08 R230: a programmed fuse never returns to 0). -/
def burntInto (f g : List Byte) : Prop := ∀ n, f.getD n 0 &&& ~~~ (g.getD n 0) = 0

/-- What the first error fixes in the record (25 R682): everything but what merging and the halt add. -/
def FaultRec.first (r : FaultRec) : Nat × Nat × Nat × Nat × Nat × Nat × Nat × Nat × Nat × Nat :=
  (r.level, r.cls, r.region, r.block, r.master, r.access, r.addr, r.time, r.capture, r.detail)

/-- What the record always satisfies: a record that is not valid is zero in every field (25 R700), and a halted device holds a valid
record marked HALTED (25 R682, R683, R689). -/
def Dev.recordHolds (d : Dev) : Prop :=
  (d.toc.rcd.valid = false → d.toc.rcd = {}) ∧ (d.toc.halted = true → d.toc.rcd.valid = true ∧ d.toc.rcd.halted = true)

/-! ## The start of a boot -/

/-- Everything that 03 R74 asks for before boot begins: both rails, RESET_N seen high, TEST_MODE low and REFCLK. -/
def PowerSt.bootable (p : PowerSt) : Prop :=
  p.stage = .held ∧ p.aonOk = true ∧ p.coreOk = true ∧ p.resetN = true ∧ p.testMode = false ∧ p.refclk = true

/-! ## Safe steps -/

/-- The outcome goes on: neither a fault nor a refusal. -/
def goesOn (o : Host.Outcome State Fault Refusal) : Prop := ∃ t, o = .next t

end Sys2Proof.Machine
end

