-- ==== Sys2Proof/Certificates/Slice0/Obligations.lean ====
section
/-!
DEFINITION. The statements about the TSY-4880, grouped by chapter. Each docstring names the rules of spec/ that its statement
rests on; where a clause rests on a choice of the model, the docstring names the log entry.
-/
open Sys2Proof Sys2Proof.Machine

/-- The front command is run on the state with the queue's rest; on an empty queue the block idles (the idling is the model's choice,
log 6). -/
def Obligations.StepRunsTheFrontCommand : Prop :=
  (∀ (c : Instr) (rest : List Instr) (s : State), step { s with pending := c :: rest } = exec c { s with pending := rest })
  ∧ (∀ s : State, s.pending = [] → step s = .next s)

/-- What reset leaves: held in reset with no command waiting, every queue empty, no context open, every status bit clear, the enables of
sources 3 and 4 alone set (R81), every input off, no first-error record and no halt; the invariant of the record holds there. That
RESET_N is low then is the model's choice (log 13). -/
def Obligations.ResetState : Prop :=
  let d := State.reset.dev
  State.reset.pending = [] ∧ d.inReset = true ∧ d.regs.irqStatus = 0 ∧ d.regs.irqEnable = 0x18
    ∧ (d.irqRouted 3 0 = true ∧ d.irqRouted 3 1 = false ∧ d.irqRouted 4 0 = true ∧ d.irqRouted 4 1 = false)
    ∧ d.proto.q0 = [] ∧ d.proto.q1 = [] ∧ d.proto.q2 = [] ∧ d.proto.q3 = [] ∧ d.proto.q4 = []
    ∧ d.proto.q5 = [] ∧ d.proto.fabricOut = [] ∧ d.toc.q7 = [] ∧ d.data.queues = [] ∧ d.regs.sysRws = 0 ∧ d.regs.twRws = 0
    ∧ d.recordHolds ∧ d.trav.ctxs = [] ∧ (∀ i < 4, (d.inp i).mode = .off) ∧ d.toc.halted = false ∧ d.toc.rcd.valid = false ∧ d.cmdqFree = 0

/-- The command that a row stands for lets `dt` ticks pass before it: datum time is then exactly that much later while PLL_A runs, and
moves to the last multiple of 32 within them while PLL_A is stopped (R28; that the REFCLK cycles end there is log 113), whatever else
the row does. Loss of VDD_AON (03 R75) and a Round boundary, which may step datum time (24 R671), are the exceptions. No row touches
the queue of waiting commands. That each row carries the time that passes before it is the model's form. -/
def Obligations.QueueAndDatumTime : Prop :=
  (∀ (c : Instr) (s t : State), exec c s = .next t →
     (∀ dt, c ≠ .vddAonBrownOut dt) → (∀ dt inp, c ≠ .roundBoundary dt inp) →
     (s.dev.clk.pllA ≠ .stopped → t.dev.now = s.dev.now + c.delay)
     ∧ (s.dev.clk.pllA = .stopped → t.dev.now = max s.dev.now ((s.dev.now + c.delay) / 32 * 32)))
  ∧ (∀ (c : Instr) (s t : State), exec c s = .next t → t.pending = s.pending)

/-- Every row goes on, but for a factory test opcode that has been opened (08: the spec gives those no effect). -/
def Obligations.EveryCommandGoesOn : Prop :=
  ∀ (c : Instr) (s : State), (∀ dt, c ≠ .reservedOpcode dt) → goesOn (exec c s)

/-- R230: a fuse bit that is 1 never returns to 0, whatever the row; and one that is 0 stays 0 until it is programmed: with no
programming under way no fuse bit changes. -/
def Obligations.FusesOnlyBurn : Prop :=
  ∀ (c : Instr) (s t : State), exec c s = .next t →
    burntInto s.dev.sec.fuses t.dev.sec.fuses ∧ (s.dev.sec.job = none → t.dev.sec.fuses = s.dev.sec.fuses)

/-- The strap values hold until RESET_N is low again (R59): only STRAP_SAMPLING changes them, it does so only in a boot that samples,
and a SYS_RESET does not make the boot after it sample. That they also outlast a loss of VDD_AON until the next sampling is the
model's choice (log 114). -/
def Obligations.StrapsHold : Prop :=
  (∀ (c : Instr) (s t : State), exec c s = .next t → (∀ dt h a, c ≠ .strapSampling dt h a) →
    t.dev.pwr.hostSel = s.dev.pwr.hostSel ∧ t.dev.pwr.twAddr = s.dev.pwr.twAddr)
  ∧ (∀ (s t : State) dt h a, exec (.strapSampling dt h a) s = .next t → s.dev.pwr.sampleStraps = false →
    t.dev.pwr.hostSel = s.dev.pwr.hostSel ∧ t.dev.pwr.twAddr = s.dev.pwr.twAddr)
  ∧ (∀ (s t : State) dt, exec (.sysResetTakesEffect dt) s = .next t → s.dev.pwr.resetN = true →
    s.dev.pwr.sampleStraps = false → t.dev.pwr.sampleStraps = false)

/-- A halt ends only with a reset by RESET_N or TEST_MODE, or with VDD_AON (R79, R74, R75). That TEST_MODE ends one is the
model's choice (log 115). -/
def Obligations.HaltLeftOnlyByReset : Prop :=
  ∀ (c : Instr) (s t : State), exec c s = .next t → s.dev.toc.halted = true → t.dev.toc.halted = false →
    (∃ dt, c = .resetNAssert dt) ∨ (∃ dt, c = .testModeChange dt true) ∨ (∃ dt, c = .vddAonBrownOut dt)

/-- While a first-error record is held, later errors leave what the first one fixed (R682, R683); only FLT_ACK and the resets of R684
let it go. -/
def Obligations.FirstErrorHeld : Prop :=
  ∀ (c : Instr) (s t : State), exec c s = .next t → s.dev.toc.rcd.valid = true →
    (t.dev.toc.rcd.valid = true ∧ t.dev.toc.rcd.first = s.dev.toc.rcd.first)
      ∨ (∃ dt, c = .fltAck dt) ∨ (∃ dt, c = .sysResetTakesEffect dt) ∨ (∃ dt, c = .resetNAssert dt)
      ∨ (∃ dt, c = .testModeChange dt true) ∨ (∃ dt, c = .vddAonBrownOut dt)

/-- The invariant of the first-error record (R682, R689, R700): a record that is not valid is zero in every field, and a halted device
holds a valid record that is marked HALTED. Every step keeps it. -/
def Obligations.RecordInvariantKept : Prop :=
  ∀ s t : State, s.dev.recordHolds → step s = .next t → t.dev.recordHolds

/-- R74, R61: what the rows do that may let a waiting boot begin. Each records its own level; boot begins at that moment exactly when
everything that R74 asks for then holds, and nothing but the supply state changes. R53, R707: a supply bank that leaves its range is
out; one that arrives senses its level; nothing else changes. -/
def Obligations.SupplyRows : Prop :=
  (∀ (s : State) (dt : Nat),
     let t := (s.dev.tick dt).now
     let runs (c : Instr) (p : PowerSt) : Prop :=
       (p.bootable → exec c s = .next (s.after dt { s.dev with pwr := { p with stage := .released, bootAt := t } }))
       ∧ (¬ p.bootable → exec c s = .next (s.after dt { s.dev with pwr := p }))
     (s.dev.pwr.aonOk = false → runs (.powerOn dt) { s.dev.pwr with aonOk := true, seenHighAt := t })
     ∧ runs (.vddCoreBrownOutRelease dt) { s.dev.pwr with coreOk := true }
     ∧ (s.dev.pwr.refclk = true → runs (.resetNRelease dt) { s.dev.pwr with resetN := true, seenHighAt := t })
     ∧ runs (.refclkRestoredInReset dt) { s.dev.pwr with refclk := true }
     ∧ runs (.testModeChange dt false) { s.dev.pwr with testMode := false })
  ∧ (∀ (s : State) (dt bank : Nat) (v : Bool), bank ≤ 4 → let p := s.dev.pwr
        let arrived : IoBank := { inRange := true, is33 := v }
        let out (b : IoBank) : IoBank := { inRange := false, is33 := b.is33 }
        let put (b : IoBank → IoBank) : PowerSt := match bank with
          | 0 => { p with bankH := b p.bankH }
          | 1 => { p with bankA := b p.bankA }
          | 2 => { p with bank18 := b p.bank18 }
          | 3 => { p with bankRf := b p.bankRf }
          | _ => { p with bankSer := b p.bankSer }
        exec (.ioBankSupplyChange dt bank true v) s = .next (s.after dt { s.dev with pwr := put fun _ => arrived })
        ∧ exec (.ioBankSupplyChange dt bank false v) s = .next (s.after dt { s.dev with pwr := put out }))

/-- R75, R78, R61: a reset by RESET_N or TEST_MODE keeps datum time, the fuse array (where no programming was under way) and the queue
of commands, and loses the calibration values, the Tocsin record and every halt, with all that the islands held; loss of VDD_AON
loses the same, and datum time too, of whose new start the statement says nothing. All hold the device in reset. After RESET_N or
VDD_AON the next boot samples the straps; after TEST_MODE alone it samples them where it would have before. -/
def Obligations.ResetRowsLoseEverythingElse : Prop :=
  ∀ (s : State) (dt : Nat),
    let held (t : State) : Prop := t.pending = s.pending ∧ t.dev.inReset = true ∧ t.dev.toc = {} ∧ t.dev.cal = {} ∧ t.dev.trav = {}
      ∧ t.dev.chan = {} ∧ t.dev.rf = {} ∧ t.dev.survey = {} ∧ t.dev.dem = {} ∧ t.dev.comb = {} ∧ t.dev.fb = {} ∧ t.dev.follow = {}
      ∧ t.dev.audio = {} ∧ t.dev.data = {} ∧ t.dev.watch = {} ∧ t.dev.cl = {} ∧ t.dev.clk = {} ∧ t.dev.regs = {} ∧ t.dev.tw = {}
      ∧ t.dev.twc = {} ∧ t.dev.proto = { owner := if s.dev.pwr.hostSel then .twoWire else .spi }
      ∧ (s.dev.sec.job = none → t.dev.sec.fuses = s.dev.sec.fuses)
    (∃ t, exec (.resetNAssert dt) s = .next t ∧ held t ∧ t.dev.pwr.resetN = false ∧ t.dev.pwr.sampleStraps = true
        ∧ t.dev.now = (s.dev.tick dt).now)
    ∧ (∃ t, exec (.vddAonBrownOut dt) s = .next t ∧ held t ∧ t.dev.pwr.aonOk = false ∧ t.dev.pwr.sampleStraps = true)
    ∧ (∃ t, exec (.testModeChange dt true) s = .next t ∧ held t ∧ t.dev.pwr.testMode = true
        ∧ (s.dev.pwr.resetN = true → t.dev.pwr.sampleStraps = s.dev.pwr.sampleStraps) ∧ t.dev.now = (s.dev.tick dt).now)

/-- R57-R60, R74, R80, R94, R146: the boot's own rows, each at its stage. The straps are sampled 32 REFCLK edges after RESET_N was seen
high, also while the boot still waits for its supplies. BOOT_DONE makes the device ACTIVE, fixes boot_cause as the lowest cause met,
draws a new nonce and delivers every defined source to the port of HOST_SEL. R80, R679: a step of the boot that fails halts the device
with a valid record of its class. -/
def Obligations.BootRows : Prop :=
  (∀ (s : State) (dt : Nat), s.dev.toc.halted = false →
     let now := (s.dev.tick dt).now
     (∀ h a, (s.dev.pwr.stage = .released ∨ s.dev.pwr.stage = .held) → s.dev.pwr.aonOk = true → s.dev.pwr.refclk = true →
       s.dev.pwr.resetN = true → s.dev.pwr.sampleStraps = true → s.dev.pwr.seenHighAt + 32 * refTicks ≤ now →
       exec (.strapSampling dt h a) s = .next (s.after dt { s.dev with
         pwr.stage := if s.dev.pwr.stage = .released then .strapped else .held
         pwr.hostSel := h, pwr.twAddr := a, pwr.sampleStraps := false
         proto.owner := if h then .twoWire else .spi }))
     ∧ (s.dev.pwr.stage = .strapped ∨ (s.dev.pwr.stage = .released ∧ s.dev.pwr.sampleStraps = false) →
       exec (.fuseReadDone dt true) s = .next (s.after dt { s.dev with pwr.stage := .fused, sec.fuseRead := s.dev.sec.fuses }))
     ∧ (s.dev.pwr.stage = .fused →
       exec (.bootPllALock dt true) s = .next (s.after dt { s.dev with pwr.stage := .pllLocked, clk.pllA := .locked }))
     ∧ (s.dev.pwr.stage = .pllLocked →
       exec (.bootSramInitDone dt none) s = .next (s.after dt { s.dev with pwr.stage := .sramDone }))
     ∧ (s.dev.pwr.stage = .sramDone →
       exec (.bootRomCheckDone dt true) s = .next (s.after dt { s.dev with pwr.stage := .romDone, clk.audOn := true }))
     ∧ (s.dev.pwr.stage = .romDone → ∃ t, exec (.bootDone dt) s = .next t ∧ t.dev.booted = true ∧ t.dev.pwr.mode = .active
       ∧ t.dev.pwr.causes = [] ∧ (s.dev.pwr.causes ≠ [] → t.dev.pwr.bootCause ∈ s.dev.pwr.causes)
       ∧ (∀ c ∈ s.dev.pwr.causes, t.dev.pwr.bootCause ≤ c)
       ∧ t.dev.toc.aliveAt = now ∧ t.dev.sec.nonce ≠ 0 ∧ t.dev.sec.nonce ≠ s.dev.sec.nonce
       ∧ (∀ n < 128, sourceDefined n = true → t.dev.proto.deliver.getD n 0 = if s.dev.pwr.hostSel then 2 else 1)))
  ∧ (∀ (s : State) (dt : Nat), s.dev.toc.halted = false → s.dev.toc.rcd.valid = false →
        let halts (c : Instr) (cls : Nat) : Prop := ∃ t, exec c s = .next t ∧ t.dev.toc.halted = true ∧ t.dev.toc.rcd.valid = true
          ∧ t.dev.toc.rcd.halted = true ∧ t.dev.toc.rcd.cls = cls ∧ t.dev.toc.rcd.time = (s.dev.tick dt).now ∧ t.dev.toc.alive = false
        (s.dev.pwr.stage = .strapped → halts (.fuseReadDone dt false) 0x0C)
        ∧ (s.dev.pwr.stage = .fused → halts (.bootPllALock dt false) 0x09)
        ∧ (∀ e, s.dev.pwr.stage = .pllLocked → halts (.bootSramInitDone dt (some e)) 0x01)
        ∧ (s.dev.pwr.stage = .sramDone → halts (.bootRomCheckDone dt false) 0x0C))

/-- R76, R100, R102, R679, R688: the rows on which the chip itself halts, with the class and address they record. -/
def Obligations.ChipFaultsHalt : Prop :=
  ∀ (s : State) (dt : Nat), s.dev.inReset = false → s.dev.toc.halted = false → s.dev.toc.rcd.valid = false →
    let now := (s.dev.tick dt).now
    let halts (c : Instr) (cls addr : Nat) : Prop := ∃ t, exec c s = .next t ∧ t.dev.toc.halted = true ∧ t.dev.toc.rcd.valid = true
      ∧ t.dev.toc.rcd.cls = cls ∧ t.dev.toc.rcd.level = 3 ∧ t.dev.toc.rcd.addr = addr ∧ t.dev.toc.rcd.capture ≠ 0
    halts (.vddCoreBrownOut dt) 0x0A 0
    ∧ (∀ ago, ∃ t, exec (.refclkLoss dt ago) s = .next t ∧ t.dev.toc.halted = true ∧ t.dev.toc.rcd.cls = 0x09
        ∧ t.dev.toc.rcd.addr = 0 ∧ t.dev.pwr.refclk = false ∧ t.dev.pwr.onRc = true ∧ t.dev.toc.rcd.time = now - ago)
    ∧ (∀ n tHot, halts (.thermalShutdown dt [n] tHot) 0x0B n)
    ∧ (s.dev.clk.pllA ≠ .stopped → halts (.pllALockLoss dt) 0x09 1 ∧ halts (.plldLiveLockLoss dt) 0x09 (2 + s.dev.clk.plldLive)
        ∧ (s.dev.clk.pllF = true → halts (.pllFLockLoss dt) 0x09 4))
    ∧ (s.dev.booted = true → s.dev.pwr.mode = .active → (s.dev.tick dt).sinceRef s.dev.toc.beatAt 65536 = true →
        halts (.heartbeatTimeout dt) 0x0D 0)

/-- R99: the warning rises once at P.THERMAL_WARN and re-arms 5 °C below it; nothing else changes. -/
def Obligations.ThermalWarning : Prop :=
  ∀ (s : State) (dt : Nat) (h a : Int), s.dev.izosh = true →
    let limit := 8 * s.dev.prop P.thermalWarn
    let seen : Dev := { s.dev.tick dt with pwr.tHot := h, pwr.tAvg := a, pwr.tMax := max s.dev.pwr.tMax h }
    (s.dev.pwr.thermal = false → limit ≤ h →
      exec (.thermalWarning dt h a) s = .next (s.after dt (({ seen with pwr.thermal := true } : Dev).emit 7 [])))
    ∧ (s.dev.pwr.thermal = true → h ≤ limit - 40 →
      exec (.thermalWarning dt h a) s = .next (s.after dt { seen with pwr.thermal := false }))
    ∧ ((s.dev.pwr.thermal = true ∧ limit - 40 < h ∨ s.dev.pwr.thermal = false ∧ h < limit) →
      exec (.thermalWarning dt h a) s = .next (s.after dt seen))

/-- R87, R89, R97: the delayed effects of SYS_POWER and SYS_RESET. SLEEP keeps the straps, the registers, the record, the calibration
values and the system owner, stops PLL_A and loses every context, every command that waits and the state of every radio engine; a
SYS_RESET of scope 1 keeps the record, the calibration values and the owner, one of scope 2 loses them; after both, boot begins again
and samples the straps only where it would have before. What leaves on the fabric first, the LEAVE frames, is sent. -/
def Obligations.SleepAndResetTakeEffect : Prop :=
  ∀ (s : State) (dt since due : Nat), s.dev.booted = true → s.dev.toc.halted = false →
    (s.dev.pwr.mode = .active → s.dev.pwr.sleepSince = some since → (s.dev.tick dt).sinceUs since 5000 = true →
      ∃ t, exec (.sleepEntry dt) s = .next t ∧ t.dev.pwr.mode = .sleep ∧ t.dev.now = (s.dev.tick dt).now
        ∧ t.dev.trav = {} ∧ t.dev.chan = {} ∧ t.dev.rf = {} ∧ t.dev.dem = {} ∧ t.dev.fb = {} ∧ t.dev.audio = {} ∧ t.dev.data = {}
        ∧ t.dev.cal.vals = s.dev.cal.vals ∧ t.dev.cal.syn0 = s.dev.cal.syn0 ∧ t.dev.cal.syn1 = s.dev.cal.syn1
        ∧ t.dev.toc.rcd = s.dev.toc.rcd ∧ t.dev.pwr.hostSel = s.dev.pwr.hostSel ∧ t.dev.pwr.twAddr = s.dev.pwr.twAddr
        ∧ t.dev.regs.twCfg = s.dev.regs.twCfg ∧ t.dev.regs.irqEnable = s.dev.regs.irqEnable ∧ t.dev.proto.owner = s.dev.proto.owner
        ∧ t.dev.sec.fuses = s.dev.sec.fuses ∧ t.dev.proto.q0 = [] ∧ t.dev.proto.q2 = [] ∧ t.dev.clk.pllA = .stopped)
    ∧ (∀ scope, s.dev.pwr.resetDue = some (scope, due) → due ≤ (s.dev.tick dt).now →
      s.dev.pwr.aonOk = true → s.dev.pwr.coreOk = true → s.dev.pwr.resetN = true → s.dev.pwr.testMode = false → s.dev.pwr.refclk = true →
      ∃ t, exec (.sysResetTakesEffect dt) s = .next t ∧ t.dev.pwr.stage = .released ∧ t.dev.now = (s.dev.tick dt).now
        ∧ t.dev.trav = {} ∧ t.dev.rf = {} ∧ t.dev.proto.q0 = [] ∧ t.dev.cl.tx = (s.dev.tick dt).sendLeaves.cl.tx
        ∧ t.dev.pwr.hostSel = s.dev.pwr.hostSel ∧ t.dev.pwr.twAddr = s.dev.pwr.twAddr
        ∧ t.dev.pwr.sampleStraps = s.dev.pwr.sampleStraps
        ∧ (scope = 1 → t.dev.toc.rcd = s.dev.toc.rcd ∧ t.dev.cal.vals = s.dev.cal.vals ∧ t.dev.proto.owner = s.dev.proto.owner)
        ∧ (scope ≠ 1 → t.dev.toc.rcd = {} ∧ t.dev.cal = {}))

/-- R94-R98: the commands of chapter 03. -/
def Obligations.SystemCommands : Prop :=
  ∀ (s : State) (dt : Nat) (q : Req) (e : Dev), q.badHeader = false →
    (s.admits dt 0x0001 = some (q, e) → q.len = 0 →
      exec (.sysInfo dt) s = .next (s.answered dt q .ok e.infoPayload e) ∧ e.infoPayload.length = 32)
    ∧ (∀ h a, s.admits dt 0x0009 = some (q, e) → q.len = 0 →
      let d : Dev := { e with pwr.tHot := h, pwr.tAvg := a, pwr.tMax := max e.pwr.tMax h }
      exec (.sysTemp dt h a) s = .next (s.answered dt q .ok (s16 h ++ s16 a ++ s16 d.pwr.tMax
        ++ (List.range 4).flatMap (fun i => s16 ((e.tCal i).getD (-32768))) ++ ub e.pwr.thermal ++ u8 0) d))
    ∧ (s.admits dt 0x0002 = some (q, e) → q.len = 4 → zeroAt q.params 1 3 = true → q.src = e.proto.owner →
      (q.p8 0 = 2 → e.anyOpen = false → e.joined = false → e.calBusy = false → e.sec.job = none → e.inWatch = false →
        exec (.sysPower dt) s = .next (s.answered dt q .ok [] { e.rampAll with pwr.sleepSince := some e.now }))
      ∧ (q.p8 0 = 0 → e.inWatch = false → exec (.sysPower dt) s = .next (s.answered dt q .ok [] e))
      ∧ (q.p8 0 = 0 → e.inWatch = true → exec (.sysPower dt) s = .next (s.answered dt q .ok [] (e.leaveWatch 3 0xFF))))
    ∧ (s.admits dt 0x0004 = some (q, e) → q.len = 4 → q.p8 0 = 1 ∨ q.p8 0 = 2 → zeroAt q.params 1 3 = true →
      q.src = e.proto.owner → e.sec.job = none → e.inWatch = false →
        exec (.sysReset dt) s = .next (s.answered dt q .ok []
          { e.rampAll.abortTwc with pwr.resetDue := some (q.p8 0, e.now + msec 6) }))

/-- R147, R148: writing 1 clears, from either port. Of the interrupt status only the written register's bits that are written as 1
fall, of SYS_STATUS and TW_STATUS only the clearable fields do; a bit that the device set on the same REFCLK edge stays set. No other
register and no queue changes. -/
def Obligations.WritingOneClears : Prop :=
  ∀ (s : State) (dt : Nat) (port : RegPort) (v : Word), s.dev.portAnswers = true →
    let d := s.dev.tick dt
    let edge := d.regs.onEdge d.edge
    let noQueue (t : State) : Prop := t.dev.proto = s.dev.proto ∧ t.dev.data = s.dev.data ∧ t.dev.toc = s.dev.toc
      ∧ t.dev.cl = s.dev.cl ∧ t.pending = s.pending
    (∀ g < 4, ∃ t, exec (.irqStatusWrite dt port g v) s = .next t
      ∧ (∀ n < 128, t.dev.irqBit n = (s.dev.irqBit n && (edge.irqNew.getLsbD n || !(n / 32 == g && v.getLsbD (n % 32)))))
      ∧ t.dev.regs = { s.dev.regs with irqStatus := t.dev.regs.irqStatus } ∧ noQueue t)
    ∧ (∃ t, exec (.sysStatusClear dt port v) s = .next t
      ∧ (∀ k < 5, t.dev.regs.sysRws.getLsbD k = (s.dev.regs.sysRws.getLsbD k && (edge.sysNew.getLsbD k || !v.getLsbD (16 + k))))
      ∧ t.dev.regs = { s.dev.regs with sysRws := t.dev.regs.sysRws } ∧ noQueue t)
    ∧ (∃ t, exec (.twStatusClear dt port v) s = .next t
      ∧ (∀ k < 3, t.dev.regs.twRws.getLsbD k = (s.dev.regs.twRws.getLsbD k && (edge.twNew.getLsbD k || !v.getLsbD (2 + k))))
      ∧ t.dev.regs = { s.dev.regs with twRws := t.dev.regs.twRws } ∧ noQueue t)

/-- R136, R137, R145, R150, R152: IRQ_ENABLE, IRQ_ROUTE and TW_CFG take a write from the owner's port, several words of one
transaction going to successive registers; from the other port the write only sets REG_WR_DENIED; TW_CFG refuses a value whose
CTRL_SPEED is reserved. R181: a write that clears CTRL_EN ends the controller's transfer. -/
def Obligations.OwnedRegisterWrites : Prop :=
  ∀ (s : State) (dt : Nat) (port : RegPort) (v : Word), s.dev.portAnswers = true → s.dev.toc.halted = false →
    let d := s.dev.tick dt
    (port = s.dev.ownerPort →
      (∀ g < 4, ∃ t, exec (.registerWrite dt port (0x50 + 4 * g) [v]) s = .next t
        ∧ (∀ n < 128, t.dev.irqEnabled n = if n / 32 = g then v.getLsbD (n % 32) else s.dev.irqEnabled n)
        ∧ t.dev.regs = { s.dev.regs with irqEnable := t.dev.regs.irqEnable })
      ∧ (∀ a b c e : Word, ∃ t, exec (.registerWrite dt port 0x50 [a, b, c, e]) s = .next t
        ∧ (∀ n < 128, t.dev.irqEnabled n = ([a, b, c, e].getD (n / 32) 0).getLsbD (n % 32))
        ∧ t.dev.regs = { s.dev.regs with irqEnable := t.dev.regs.irqEnable })
      ∧ exec (.registerWrite dt port 0x60 [v]) s = .next (s.after dt { d with regs.irqRoute := v })
      ∧ (v.extractLsb' 6 2 = 3 → exec (.twCfgWrite dt port v) s = .next (s.after dt d))
      ∧ (v.extractLsb' 6 2 ≠ 3 →
          (s.dev.ctrlEn = false ∨ v.getLsbD 5 = true →
            exec (.twCfgWrite dt port v) s = .next (s.after dt { d with regs.twCfg := v.extractLsb' 0 9 }))
          ∧ (s.dev.ctrlEn = true → v.getLsbD 5 = false → exec (.twCfgWrite dt port v) s =
            .next (s.after dt ({ d with regs.twCfg := v.extractLsb' 0 9 } : Dev).abortTwc))))
    ∧ (port ≠ s.dev.ownerPort → ∀ c, c = Instr.registerWrite dt port 0x60 [v] ∨ c = .twCfgWrite dt port v ∨
        (∃ g < 4, c = .registerWrite dt port (0x50 + 4 * g) [v]) →
        exec c s = .next (s.after dt (d.flagSys 0x10)))

/-- R135-R142, R151: what each SPI instruction sends, and what it takes out of the queues. R140, R218, R728: a CMD_PUSH that is not a
whole good packet, or comes once the device is on its way to SLEEP, is not queued: it sets the flag, or gets the reply, that the rule
names. That a READ_REG comes as the row TOCSIN_TIME_LO_READ is the model's choice (log 121). -/
def Obligations.SpiInstructions : Prop :=
  (∀ (s : State) (dt : Nat), s.dev.inReset = false →
     let d := s.dev.tick dt
     (exec (.spiFastStatus dt) s = .next (s.after dt { d with regs.spiOut := u8 d.fastStatus }))
     ∧ (∀ b, s.dev.portAnswers = true → spiInstr b = none → exec (.spiUnknownInstruction dt b) s =
         .next (s.after dt (({ d with regs.spiOut := [] } : Dev).flagSys 1)))
     ∧ (∀ b, spiInstr b ≠ none → exec (.spiUnknownInstruction dt b) s = .next (s.after dt d))
     ∧ (∀ n r rest, s.dev.deliversReplies = true → s.dev.proto.q1 = r :: rest → r ≠ [] → 3 + r.length ≤ n → s.dev.proto.waitOn = none →
         exec (.spiRspPull dt n) s =
           .next (s.after dt { d with regs.spiOut := pulled (n - 1) (u16 r.length ++ r), proto.q1 := rest }))
     ∧ (∀ n, s.dev.proto.q1.headD [] = [] ∨ n < 3 + (s.dev.proto.q1.headD []).length → s.dev.deliversReplies = true → exec (.spiRspPull dt n) s =
         .next (s.after dt { d with regs.spiOut := pulled (n - 1) (u16 (s.dev.proto.q1.headD []).length ++ s.dev.proto.q1.headD []) }))
     ∧ (∀ n r rest, s.dev.izosh = true → s.dev.proto.q4 = r :: rest → r.forSpi = true → r.forTw = false → 67 ≤ n → n < 131 →
         ∃ t, exec (.spiEvtPull dt n) s = .next t ∧ t.dev.proto.q4 = rest
           ∧ (r.bytes.length = 64 → (t.dev.regs.spiOut.drop 2).take 64 = r.bytes))
     ∧ (∀ b, s.dev.booted = true → s.dev.toc.halted = false → s.dev.sleeping = false → b.length = packetLength b → 8 ≤ b.length →
         at16 b 6 ≤ 1024 → packetLength b ≤ s.dev.cmdqFree → crcGood b = true →
         exec (.spiCmdPush dt b) s = .next (s.after dt { d with
           regs.spiOut := [], proto.q0 := d.proto.q0 ++ [{ src := .spi, doneAt := d.now, bytes := b }] }))
     ∧ (exec (.tocsinTimeLoRead dt 0x0210 1) s = .next (s.after dt { d with
         regs.spiOut := (leBytes 4 (d.readReg 0x0210).toNat).reverse
         regs.timeHi := some (BitVec.ofNat 32 (d.toc.rcd.time / 2 ^ 32)) }))
     ∧ (∀ a, ∃ t, exec (.tocsinTimeLoRead dt a 1) s = .next t ∧ t.dev.regs.spiOut = (leBytes 4 (d.readReg a).toNat).reverse)
     ∧ (s.dev.booted = true ∨ s.dev.toc.halted = true → ∃ t, exec (.tocsinTimeLoRead dt 0x0210 2) s = .next t
         ∧ t.dev.regs.spiOut = (leBytes 4 (s.dev.toc.rcd.time % 2 ^ 32)).reverse ++ (leBytes 4 (s.dev.toc.rcd.time / 2 ^ 32 % 2 ^ 32)).reverse))
  ∧ (∀ (s : State) (dt : Nat) (b : List Byte), s.dev.booted = true → s.dev.toc.halted = false → s.dev.sleeping = false → b ≠ [] →
        let d : Dev := { s.dev.tick dt with regs.spiOut := [] }
        (b.length < 8 → exec (.spiCmdPush dt b) s = .next (s.after dt (d.flagSys 2)))
        ∧ (8 ≤ b.length → s.dev.pwr.sleepSince.isSome = true → exec (.spiCmdPush dt b) s = .next (s.after dt (d.flagSys 4)))
        ∧ (8 ≤ b.length → at16 b 6 ≤ 1024 → s.dev.cmdqFree < packetLength b →
            exec (.spiCmdPush dt b) s = .next (s.after dt (d.flagSys 4)))
        ∧ (8 ≤ b.length → s.dev.pwr.sleepSince = none → 1024 < at16 b 6 →
            exec (.spiCmdPush dt b) s = .next (s.after dt (d.portReply 1 b .badLength)))
        ∧ (8 ≤ b.length → at16 b 6 ≤ 1024 → packetLength b ≤ s.dev.cmdqFree → b.length ≠ packetLength b →
            exec (.spiCmdPush dt b) s = .next (s.after dt (d.flagSys 2)))
        ∧ (8 ≤ b.length → at16 b 6 ≤ 1024 → packetLength b ≤ s.dev.cmdqFree → b.length = packetLength b → crcGood b = false →
            exec (.spiCmdPush dt b) s = .next (s.after dt (d.portReply 1 b .badCrc))))

/-- R159-R173, R183: the two-wire target's transfers. R165-R168: a whole good packet written into the command mailbox in one transfer
enters Q2, or waits while Q2 has no room for it, and enters once it has; bytes that follow the fill count extend a packet. R183: a
timeout leaves what was acknowledged so far its effect, and a reply sent in part at the head of its queue. -/
def Obligations.TwoWireTarget : Prop :=
  (∀ (s : State) (dt : Nat), s.dev.twAnswers = true →
     let d := s.dev.tick dt
     (∀ hi lo : Byte, s.dev.tw.waiting = none → boxLength s.dev.tw.box ≠ some s.dev.tw.box.length → boxTooLong s.dev.tw.box = false →
       hi.toNat < 0x80 → exec (.twPointerWrite dt [hi, lo]) s =
         .next (s.after dt { d with tw.pointer := 256 * hi.toNat + lo.toNat, tw.acked := some 2 }))
     ∧ (∀ bytes w, s.dev.tw.waiting = some w →
         exec (.twPointerWrite dt bytes) s = .next (s.after dt { d with tw.acked := none, regs.nackCount := satAdd 511 d.regs.nackCount 1 }))
     ∧ (∀ n, s.dev.tw.pointer < 0x8000 → ∃ t, exec (.twMirrorRead dt n) s = .next t
         ∧ t.dev.tw.sent = (Dev.mirrorBytes n s.dev.tw.pointer none d).1 ∧ t.dev.tw.sent.length = n
         ∧ t.dev.tw.pointer = settlePointer (readWalk s.dev.tw.pointer n))
     ∧ (∀ n, s.dev.tw.pointer / 0x1000 = 8 → exec (.twMailboxStatusRead dt n) s = .next (s.after dt { d with
         tw.sent := pulled n (u16 d.tw.box.length ++ u16 (min d.mailRoom 0xFFFF) ++ u8 d.mailState)
         tw.pointer := settlePointer (readWalk 0x8000 n) }))
     ∧ (∀ n r rest, s.dev.tw.pointer / 0x1000 = 9 → s.dev.deliversReplies = true → s.dev.proto.q3 = r :: rest → r ≠ [] →
         2 + r.length ≤ n → s.dev.proto.waitOn = none → exec (.twReplyMailboxRead dt n) s = .next (s.after dt { d with
           tw.sent := pulled n ((u16 r.length ++ r).take 0x1000), tw.pointer := settlePointer (readWalk 0x9000 n), proto.q3 := rest }))
     ∧ (∀ n, s.dev.tw.pointer / 0x1000 = 10 → exec (.twEventMailboxRead dt n) s = .next (s.after dt { d with
         tw.sent := pulled n ((u16 (d.recordsFor false).length ++ (d.recordsFor false).flatMap (·.bytes)).take 0x1000)
         tw.pointer := settlePointer (readWalk 0xA000 n)
         proto.q4 := takeRecords false (min (d.recordsFor false).length (recordsSent n)) d.proto.q4 }))
     ∧ (d.alertLow = true → exec (.twAlertResponse dt none) s = .next (s.after dt { d with
         tw.sent := u8 (2 * (0x60 + d.pwr.twAddr.toNat)), regs.alertAcked := true }))
     ∧ (∀ k, d.alertLow = true → exec (.twAlertResponse dt (some k)) s = .next (s.after dt { d with tw.sent := [] }))
     ∧ (∀ held part, s.dev.regs.twCfg.getLsbD 8 = true → let e := d.twPart part
         exec (.twTargetTimeout dt held part) s =
           .next (s.after dt ((e.twSettled.boxRefused.flagTw 2).emit 18 (ub held ++ u16 e.tw.pointer))))
     ∧ (∀ held n r rest, s.dev.regs.twCfg.getLsbD 8 = true → s.dev.tw.pointer / 0x1000 = 9 → s.dev.proto.q3 = r :: rest →
         n < 2 + r.length → boxTooLong s.dev.tw.box = false →
         ∃ t, exec (.twTargetTimeout dt held (.read n)) s = .next t ∧ t.dev.proto.q3 = r :: rest ∧ t.dev.regs.twRws.getLsbD 1 = true)
     ∧ (exec (.twBusStartStop dt true) s = .next (s.after dt { d with tw.busBusy := false, tw.lastStop := some d.now }))
     ∧ (exec (.twBusStartStop dt false) s = .next (s.after dt { d with tw.busBusy := true })))
  ∧ (∀ (s : State) (dt : Nat) (b : List Byte), s.dev.booted = true → s.dev.toc.halted = false → s.dev.sleeping = false →
        s.dev.pwr.sleepSince = none →
        let d := s.dev.tick dt
        (s.dev.twAnswers = true → s.dev.tw.waiting = none →
          (∀ hi lo : Byte, hi.toNat / 16 = 8 → 256 * hi.toNat + lo.toNat = 0x8000 + s.dev.tw.box.length → b ≠ [] →
            s.dev.tw.box.length % 32 + b.length ≤ 32 → s.dev.tw.box ≠ [] →
            let all := s.dev.tw.box ++ b
            (8 ≤ all.length → all.length < packetLength all ∧ at16 all 6 ≤ 1024) →
            exec (.twCommandMailboxWrite dt (hi :: lo :: b)) s = .next (s.after dt { d with
              tw.box := all, tw.pointer := 0x8000, tw.acked := some (2 + b.length) })))
        ∧ (8 ≤ b.length → b.length = packetLength b → at16 b 6 ≤ 1024 → crcGood b = true →
          let p : QPkt := { src := .twoWire, doneAt := d.now, bytes := b }
          (s.dev.twAnswers = true → s.dev.tw.waiting = none → b.length ≤ 32 →
            (b.length ≤ s.dev.mailRoom → exec (.twCommandMailboxWrite dt ([0x80, 0x00] ++ b)) s = .next (s.after dt { d with
                tw.box := [], tw.pointer := 0x8000, tw.acked := some (2 + b.length), proto.q2 := d.proto.q2 ++ [p] }))
            ∧ (s.dev.mailRoom < b.length → exec (.twCommandMailboxWrite dt ([0x80, 0x00] ++ b)) s = .next (s.after dt { d with
                tw.box := b, tw.pointer := 0x8000, tw.acked := some (2 + b.length), tw.waiting := some b })))
          ∧ (s.dev.tw.waiting = some b → b.length ≤ s.dev.mailRoom → exec (.twPendingPacketEntersQ2 dt) s =
              .next (s.after dt { d with tw.waiting := none, tw.box := [], proto.q2 := d.proto.q2 ++ [p] }))))

/-- R175-R187: the controller role. A transfer is accepted with a number of its own; its attempts start once the bus is free; a lost
arbitration sets ARB_LOST, counts and waits for the winner, the eighth ends the transfer with result 0x04; a bus that never becomes
free ends it with 0x05, SCL held low with 0x06, and the target's answers with 0x01, 0x02, 0x03 or 0x07. Each such end leaves the
controller idle with that result and the bytes acknowledged and read, the transfer's number staying for TWC_STATUS (R180, R186); an
EEPROM read tells its input instead (09 R273). The recovery sequence ends as R182 says, with source 17 raised. That a transfer shows
result 0x00 until it ends is the model's reading (log 128). -/
def Obligations.TwoWireController : Prop :=
  (∀ (s : State) (dt : Nat) (q : Req) (e : Dev),
     let d := s.dev.tick dt
     (s.admits dt 0x0C01 = some (q, e) → q.badHeader = false → q.len = 4 + q.p8 2 → q.p8 2 ≤ 32 → q.p8 3 ≤ 32 →
       q.p8 2 + q.p8 3 ≠ 0 → 0x08 ≤ q.p8 0 → q.p8 0 ≤ 0x77 → q.p8 0 ≠ 0x60 + e.pwr.twAddr.toNat → q.p8 1 < 4 → q.src = e.proto.owner →
       e.ctrlEn = true → e.inWatch = false → e.twc.state = 0 →
       let n := if e.twc.xfer = 0xFFFF then 1 else e.twc.xfer + 1
       exec (.twcXfer dt) s = .next (s.answered dt q .deferred (u16 n) { e with twc := { e.twc with
         state := 1, result := 0, xfer := n, attempts := 0, arbLosses := 0, wrDone := 0, rdData := [], since := e.now
         req := some { addr := q.p8 0, flags := q.p8 1, wr := slice q.params 4 (q.p8 2), rdLen := q.p8 3, input := none } } }))
     ∧ (s.admits dt 0x0C02 = some (q, e) → q.badHeader = false → q.len = 0 → q.src = e.proto.owner → e.ctrlEn = true →
       e.inWatch = false → e.twc.state = 0 → exec (.twcRecover dt) s =
         .next (s.answered dt q .deferred [] { e with twc := { e.twc with state := 4, recCause := 0, since := e.now } }))
     ∧ (s.admits dt 0x0C03 = some (q, e) → q.badHeader = false → q.len = 0 → e.inWatch = false →
         exec (.twcStatus dt) s = .next (s.answered dt q .ok e.twcPayload e) ∧ e.twcPayload.length = 40)
     ∧ (∀ high, s.dev.izosh = true → s.dev.ctrlEn = true → s.dev.twc.state = 1 ∨ s.dev.twc.state = 3 → d.busFree = true ∨ high = true →
         exec (.twcAttemptStart dt high) s =
         .next (s.after dt { d with twc.state := 2, twc.attempts := d.twc.attempts + 1, twc.since := d.now, tw.busBusy := true }))
     ∧ (s.dev.izosh = true → d.busFree = false → exec (.twcAttemptStart dt false) s = .next (s.after dt d))
     ∧ (s.dev.izosh = true → s.dev.twc.state = 1 ∨ s.dev.twc.state = 3 → d.sinceUs d.twc.since 25000 = true → d.busFree = false →
         exec (.twcBusFreeTimeout dt) s = .next (s.after dt (d.twcEnd 5 d.twc.wrDone d.twc.rdData)))
     ∧ (∀ y i l r, s.dev.izosh = true → s.dev.twc.state = 2 → s.dev.twc.req = some r → r.input = none → s.dev.rf.eepQueue = [] →
         ∃ t, exec (.twArbLost dt y i l) s = .next t ∧ t.dev.regs.twRws.getLsbD 0 = true ∧ t.dev.irqBit 16 = true
         ∧ t.dev.twc.arbLosses = s.dev.twc.arbLosses + 1 ∧ t.dev.twc.wrDone = min (y - 1) r.wr.length
         ∧ t.dev.twc.rdData = l.take (min (y - 1 - r.wr.length) r.rdLen) ∧ t.dev.twc.xfer = s.dev.twc.xfer
         ∧ (s.dev.twc.attempts < 8 → t.dev.twc.state = 3 ∧ t.dev.twc.req = some r ∧ t.dev.twc.result = s.dev.twc.result)
         ∧ (8 ≤ s.dev.twc.attempts → t.dev.twc.state = 0 ∧ t.dev.twc.req = none ∧ t.dev.twc.result = 4))
     ∧ (∀ r n l, s.dev.izosh = true → s.dev.twc.state = 2 → r = 1 ∨ r = 2 ∨ r = 3 ∨ r = 7 → (s.dev.twc.req.bind (·.input)) = none →
         exec (.twcTransferEnd dt r n l) s =
           .next (s.after dt (({ d with tw.busBusy := false, tw.lastStop := some d.now } : Dev).twcEnd r n l)))
     ∧ (∀ n l, s.dev.izosh = true → s.dev.twc.state = 2 → d.sinceUs d.twc.since 25000 = true →
         exec (.twcSclLowTimeout dt n l) s = .next (s.after dt (d.twcEnd 6 n l)))
     ∧ (∀ n, s.dev.up = true → s.dev.twc.state = 4 → n ≤ 9 →
         exec (.twRecoveryDone dt n true) s = .next (s.after dt (d.recovered 0 n))
         ∧ exec (.twRecoveryDone dt n false) s = .next (s.after dt (d.recovered 1 9)))
     ∧ (s.dev.up = true → s.dev.twc.state = 4 → d.sinceUs d.twc.since 25000 = true →
         exec (.twRecoverySclTimeout dt) s = .next (s.after dt (d.recovered 2 0))))
  ∧ (∀ (d : Dev) (r : TwcReq) (result n : Nat) (l : List Byte), d.twc.req = some r → d.rf.eepQueue = [] →
        (r.input = none → d.twcEnd result n l = { d with twc := { d.twc with
          state := 0, req := none, result := result, wrDone := min n r.wr.length, rdData := l.take r.rdLen } })
        ∧ (∀ i, r.input = some i → (d.twcEnd result n l).twc = { d.twc with state := 0, req := none }
          ∧ (i < d.rf.inputs.length → ((d.twcEnd result n l).inp i).amp.eepState =
              if result = 1 then 1 else if result = 2 ∨ result = 3 then 2 else 4)))
  ∧ (∀ (d : Dev) (result pulses : Nat), d.rf.eepQueue = [] → d.up = true → d.pwr.mode ≠ .sleep →
        let e := d.recovered result pulses
        e.twc = { d.twc with state := 0, req := none } ∧ e.irqBit 17 = true
        ∧ (result = 0 → e.regs.twRws.getLsbD 2 = true ∧ e.tw.busBusy = false ∧ e.tw.lastStop = some d.now)
        ∧ (result ≠ 0 → e.regs.twRws = d.regs.twRws ∧ e.tw = d.tw))

/-- R211-R215, R222, R209: the commands of chapter 07. PROP_SET stages its whole list for the next Round boundary and answers with that
time; PROP_GET answers the staged values in the order asked for; EVT_ROUTE changes the delivery of exactly the sources it names;
SYS_OWNER changes the owner. -/
def Obligations.ProtocolCommands : Prop :=
  ∀ (s : State) (dt : Nat) (q : Req) (e : Dev), q.badHeader = false →
    (s.admits dt 0x0005 = some (q, e) → q.len ≠ 0 → q.len % 8 = 0 → q.len ≤ 1024 → q.fits (u64 e.nextBoundary) = true →
      let es := propEntries q.params
      (∀ k < es.length, e.idUnfitted ((es.map (·.id)).getD k 0) = false ∧ entryRefused es q.ctx k = false) →
      e.brokenSets q.ctx (propValues es) = [] → q.notPropOwner e = false → e.inWatch = false →
      (q.ctx = 0xFF ∨ (e.ctxOpen q.ctx = true ∧ e.ctxClosing q.ctx = false)) →
      exec (.propSet dt) s = .next (s.answered dt q .ok (u64 e.nextBoundary) { e with
        proto.staged := e.proto.staged ++ [{ ctx := q.ctx, entries := propValues es, due := e.nextBoundary }] }))
    ∧ (s.admits dt 0x0006 = some (q, e) → q.len ≠ 0 → q.len % 2 = 0 → q.len ≤ 256 →
      let ids := (entriesOf 2 q.params).map fun b => at16 b 0
      let pl := ids.flatMap fun id => u16 id ++ u16 0 ++ s32 (e.stagedProp q.ctx id)
      (∀ k < ids.length, e.idUnfitted (ids.getD k 0) = false ∧ idRefused ids q.ctx k = false) →
      (q.ctx = 0xFF ∨ (e.ctxOpen q.ctx = true ∧ e.ctxClosing q.ctx = false)) →
      q.fits pl = true → exec (.propGet dt) s = .next (s.answered dt q .ok pl e))
    ∧ (s.admits dt 0x0007 = some (q, e) → q.len = 4 → q.p8 0 ≤ q.p8 1 → q.p8 1 ≤ 127 → q.p8 2 < 4 → q.p8 3 = 0 → q.src = e.proto.owner →
      ∃ f, exec (.evtRoute dt) s = .next (s.answered dt q .ok [] { e with proto.deliver := f }) ∧ f.length = e.proto.deliver.length
        ∧ ∀ n < f.length, f.getD n 0 = if q.p8 0 ≤ n ∧ n ≤ q.p8 1 then q.p8 2 else e.proto.deliver.getD n 0)
    ∧ (s.admits dt 0x0008 = some (q, e) → q.len = 4 → zeroAt q.params 2 2 = true → q.src = e.proto.owner → e.inWatch = false →
      (q.p8 0 = 0 → q.p8 1 = 0 → exec (.sysOwner dt) s =
        .next (s.answered dt q .ok [] { e with proto.owner := .spi, proto.ownerGone := false }))
      ∧ (q.p8 0 = 1 → q.p8 1 = 0 → e.regs.twCfg.getLsbD 4 = true → exec (.sysOwner dt) s =
        .next (s.answered dt q .ok [] { e with proto.owner := .twoWire, proto.ownerGone := false }))
      ∧ (q.p8 0 = 2 → 1 ≤ q.p8 1 → q.p8 1 ≤ 0x20 → e.hasFabric = true → e.inRoutes (q.p8 1) = true → exec (.sysOwner dt) s =
        .next (s.answered dt q .ok [] { e with proto.owner := .fabric (q.p8 1), proto.ownerGone := false })))

/-- R197, R213, R228: the rows of chapter 07 that are no command of their own. A reserved opcode, and a factory test opcode that is
not open, is answered BAD_OPCODE; an open one that passes its checks has no effect in the spec and stops by name; a stream that has
waited 800 Rounds for reply space loses the oldest reply. R189, R190: every reply the device composes carries a good CRC-16, its
status and its payload. -/
def Obligations.StreamRowsAndReplies : Prop :=
  (∀ (s : State) (dt : Nat),
     let d := s.dev.tick dt
     (∀ p, d.takes = true → d.front = some p → opcodeDefined p.opcode = false → d.factoryOpen p = false → d.canReply p.src = true →
       crcGood p.bytes = true → (d.taken p).repeats (d.nextReq p) = false →
       exec (.reservedOpcode dt) s = .next (s.answered dt (d.nextReq p) .badOpcode [] (d.taken p)))
     ∧ (∀ p, d.takes = true → d.front = some p → opcodeDefined p.opcode = false → d.factoryRuns p = true →
       exec (.reservedOpcode dt) s = .refused (.factoryTest p.opcode))
     ∧ (∀ t r rest, s.dev.izosh = true → s.dev.proto.waitOn = some (1, t) → t + 800 * roundTicks ≤ d.now → s.dev.proto.q1 = r :: rest →
       ∃ u, exec (.replyQueueWaitTimeout dt) s = .next u ∧ u.dev.proto.q1 = rest ∧ u.dev.proto.replyDrops.1 = satAdd 0xFFFFFFFF s.dev.proto.replyDrops.1 1
         ∧ (1038 ≤ u.dev.replyRoom 1 → u.dev.proto.waitOn = none))
     ∧ (∀ t r rest, s.dev.izosh = true → s.dev.proto.waitOn = some (3, t) → t + 800 * roundTicks ≤ d.now → s.dev.proto.q3 = r :: rest →
       ∃ u, exec (.replyQueueWaitTimeout dt) s = .next u ∧ u.dev.proto.q3 = rest ∧ u.dev.proto.replyDrops.2 = satAdd 0xFFFFFFFF s.dev.proto.replyDrops.2 1
         ∧ (1038 ≤ u.dev.replyRoom 3 → u.dev.proto.waitOn = none)))
  ∧ (∀ (op tag ctx seq orig : Nat) (st : Status) (pl : List Byte),
        let r := replyBytes op tag ctx seq st orig pl
        crcGood r = true ∧ r.length = 14 + pl.length ∧ (pl.length < 0x10000 → at16 r 6 = pl.length)
          ∧ at8 r 3 = st.code ∧ slice r 12 pl.length = pl)

/-- R202: the order in which a taken packet is refused before its own command looks at it: a bad CRC, then a repeat, then a feature or
context that is not fitted. Such a packet changes nothing else. -/
def Obligations.RefusalOrder : Prop :=
  ∀ (q : Req) (raw : List Byte) (body : Body) (d : Dev),
    (crcGood raw = false → d.execute q raw body = d.reply q .badCrc [])
    ∧ (crcGood raw = true → ∀ c ∈ (d.cache q.src).head?, c.tag = q.tag → c.crc = q.crc →
        d.execute q raw body = d.replyDuplicate q c.reply)
    ∧ (crcGood raw = true → d.repeats q = false → d.groupFitted q.opcode = false → d.execute q raw body = d.reply q .notFitted [])
    ∧ (crcGood raw = true → d.repeats q = false → d.groupFitted q.opcode = true → q.ctx ≠ 0xFF → d.nCtx ≤ q.ctx →
        d.execute q raw body = d.reply q .notFitted [])

/-- R194, R199: taking and answering a packet uses the next sequence index, takes the packet off its queue and caches the reply for its
interface; an admitted packet that its command refuses changes no state but that. -/
def Obligations.AdmissionTouchesOnlyTheStream : Prop :=
  (∀ (s : State) (dt op : Nat) (q : Req) (e : Dev), s.admits dt op = some (q, e) →
    q.opcode = op ∧ q.seq = nextSeq s.dev.proto.seq ∧ e.proto.seq = q.seq ∧ e.now = (s.dev.tick dt).now ∧ e.pwr = s.dev.pwr ∧ e.clk = s.dev.clk
      ∧ e.tw = s.dev.tw ∧ e.twc = s.dev.twc ∧ e.sec.fuses = s.dev.sec.fuses ∧ e.sec.nonce = s.dev.sec.nonce ∧ e.rf = s.dev.rf
      ∧ e.cal = s.dev.cal ∧ e.survey = s.dev.survey ∧ e.chan = s.dev.chan ∧ e.trav = s.dev.trav ∧ e.dem = s.dev.dem
      ∧ e.comb = s.dev.comb ∧ e.fb = s.dev.fb ∧ e.follow = s.dev.follow ∧ e.audio = s.dev.audio ∧ e.data = s.dev.data
      ∧ e.watch = s.dev.watch ∧ e.cl = s.dev.cl ∧ e.toc = s.dev.toc ∧ e.proto.owner = s.dev.proto.owner
      ∧ e.proto.props = s.dev.proto.props ∧ e.proto.q1 = s.dev.proto.q1 ∧ e.proto.q3 = s.dev.proto.q3
      ∧ (∀ p rest, s.dev.front = some p → p.src = .spi → s.dev.proto.q0 = p :: rest → e.proto.q0 = rest)
      ∧ (∀ p rest, s.dev.front = some p → p.src = .twoWire → s.dev.proto.q2 = p :: rest → e.proto.q2 = rest))
  ∧ (∀ (d : Dev) (q : Req) (st : Status) (pl : List Byte),
      let e := d.reply q st pl
      (st ≠ .busy → st ≠ .halted → (e.cache q.src).head? =
        some { tag := q.tag, crc := q.crc, reply := replyBytes q.opcode q.tag q.ctx q.seq st 0 pl })
      ∧ e.proto.lastReady = q.seq ∧ e.pwr = d.pwr ∧ e.clk = d.clk ∧ e.tw = d.tw ∧ e.twc = d.twc ∧ e.sec = d.sec ∧ e.rf = d.rf
      ∧ e.cal = d.cal ∧ e.survey = d.survey ∧ e.chan = d.chan ∧ e.trav = d.trav ∧ e.dem = d.dem ∧ e.comb = d.comb ∧ e.fb = d.fb
      ∧ e.follow = d.follow ∧ e.audio = d.audio ∧ e.data = d.data ∧ e.watch = d.watch ∧ e.cl = d.cl ∧ e.toc = d.toc
      ∧ (∀ r : Res, r.later = false → r.status.acts = false → d.conclude q r = d.reply q r.status r.payload))

/-- R240: a critical command without AUTH is refused once the part is keyed; a wrong MAC is refused, counted and, at the eighth failure
in a row, locks the interface; a locked interface answers LOCKED; a counter that does not rise is REPLAY; a right MAC with a higher
counter admits the command and clears the failures. -/
def Obligations.AuthenticationRefuses : Prop :=
  ∀ (d : Dev) (q : Req) (raw : List Byte), d.critical q = true →
    ((d.ifaceSec q.src).locked = true → d.authenticate q raw = (some .locked, d))
    ∧ (d.keyState = 1 → (d.ifaceSec q.src).locked = false → (hasBit q.flags 0 = false ∨ packetMac raw ≠ mac8 (slice d.sec.fuseRead 0x14 16) (macMessage d.sec.nonce raw)) →
        (d.authenticate q raw).1 = some .authFail
        ∧ ((d.authenticate q raw).2.ifaceSec q.src).failures = (d.ifaceSec q.src).failures + 1
        ∧ ((d.ifaceSec q.src).failures = 7 → ((d.authenticate q raw).2.ifaceSec q.src).locked = true))
    ∧ (d.keyState = 1 → (d.ifaceSec q.src).locked = false → hasBit q.flags 0 = true →
        packetMac raw = mac8 (slice d.sec.fuseRead 0x14 16) (macMessage d.sec.nonce raw) →
        (packetCounter raw ≤ (d.ifaceSec q.src).last → (d.authenticate q raw).1 = some .replay
          ∧ ((d.authenticate q raw).2.ifaceSec q.src).failures = (d.ifaceSec q.src).failures + 1)
        ∧ ((d.ifaceSec q.src).last < packetCounter raw → (d.authenticate q raw).1 = none
          ∧ ((d.authenticate q raw).2.ifaceSec q.src).last = packetCounter raw
          ∧ ((d.authenticate q raw).2.ifaceSec q.src).failures = 0))
    ∧ (d.keyState = 0 → (d.ifaceSec q.src).locked = false → (d.pwr.fuseEn = false ∨ hasBit q.flags 0 = true) →
        d.authenticate q raw = (some .authFail, d))
    ∧ (d.keyState = 0 → (d.ifaceSec q.src).locked = false → d.pwr.fuseEn = true → hasBit q.flags 0 = false →
        d.authenticate q raw = (none, d))

/-- R233-R235, R242-R245: the commands and rows of chapter 08. -/
def Obligations.SecurityRows : Prop :=
  ∀ (s : State) (dt : Nat) (q : Req) (e : Dev),
    let d := s.dev.tick dt
    (s.admits dt 0x0B01 = some (q, e) → q.badHeader = false → q.len = 0 → ∃ pl : List Byte, pl.length = 20
        ∧ pl.take 8 = (leBytes 8 e.sec.nonce.toNat).reverse ∧ exec (.secNonce dt) s = .next (s.answered dt q .ok pl e))
    ∧ (s.admits dt 0x0B02 = some (q, e) → q.badHeader = false → q.len = 0 → e.inWatch = false → ∃ pl : List Byte,
        exec (.secFuseRead dt) s = .next (s.answered dt q .ok pl e) ∧ pl.length = min 68 e.sec.fuses.length
        ∧ ∀ n < 68, pl.getD n 0 = if (0x14 ≤ n ∧ n < 0x24) ∨ (0x2C ≤ n ∧ n < 0x3C) then 0 else e.sec.fuses.getD n 0)
    ∧ (s.admits dt 0x0B03 = some (q, e) → q.badHeader = false → q.len = 4 + q.p8 1 → 1 ≤ q.p8 1 → q.p8 1 ≤ 24 → 0x0C ≤ q.p8 0 →
        q.p8 0 + q.p8 1 ≤ 0x44 → zeroAt q.params 2 2 = true → fuseSpanBad (q.p8 0) (q.p8 1) (slice q.params 4 (q.p8 1)) = false →
        q.src = e.proto.owner → e.pwr.fuseEn = true → e.pwr.vppOk = true → e.fuseLocked (q.p8 0) (q.p8 1) = false → e.inWatch = false →
        exec (.secFuseProgram dt) s = .next (s.after dt { e with
          sec.job := some { offset := q.p8 0, data := slice q.params 4 (q.p8 1) }, proto.running := some q }))
    ∧ (∀ j r, s.dev.izosh = true → s.dev.sec.job = some j → j.stopped = false → s.dev.proto.running = some r →
        ∀ set up, ∃ t, exec (.fuseProgrammingDone dt set up false) s = .next t ∧ t.dev.sec.job = none ∧ t.dev.proto.running = none
          ∧ t.dev.proto.lastReady = r.seq ∧ ∀ n < s.dev.sec.fuses.length, t.dev.sec.fuses.getD n 0
              = s.dev.sec.fuses.getD n 0 ||| (if j.offset ≤ n then j.data.getD (n - j.offset) 0 &&& set.getD (n - j.offset) 0 else 0))
    ∧ (∀ level vpp, s.dev.sec.job = none → exec (.fuseEnChange dt level vpp) s =
        .next (s.after dt { d with pwr.fuseEn := level, pwr.vppOk := vpp }))
    ∧ (∀ j, s.dev.sec.job = some j → exec (.fuseEnChange dt false true) s =
        .next (s.after dt { d with pwr.fuseEn := false, pwr.vppOk := true, sec.job := some { j with stopped := true } }))
    ∧ (s.admits dt 0x0B04 = some (q, e) → q.badHeader = false → q.len = 4 → 1 ≤ q.p8 0 → q.p8 0 ≤ 3 → zeroAt q.params 1 3 = true →
        q.src = e.proto.owner → e.debugBit 1 = false → e.inWatch = false → exec (.secDebugUnlock dt) s =
          .next (s.answered dt q .ok [] { e with sec.unlock := e.sec.unlock ||| BitVec.ofNat 2 (q.p8 0) }))
    ∧ (∀ c, (∀ n, c ≠ .other n) → exec (.jtagInstruction dt c) s = .next (s.after dt { d with pwr.jtag := some (c, true) }))
    ∧ (∀ n, exec (.jtagInstruction dt (.other n)) s = .next (s.after dt { d with
        pwr.jtag := some (.other n, s.dev.fuseValid && (!s.dev.debugBit 0 || s.dev.sec.unlock.getLsbD 1)) }))

/-- R245: the three phases of SYS_PATCH_LOAD: a begin opens the job, chunks must follow each other without gap, and the commit hands the
whole image to the check at the next Round boundary, where its CRC-32 decides. -/
def Obligations.PatchLoading : Prop :=
  (∀ (s : State) (dt : Nat) (q : Req) (e : Dev), s.admits dt 0x0003 = some (q, e) → q.badHeader = false → zeroAt q.params 1 3 = true →
    q.src = e.proto.owner → e.inWatch = false → e.sec.committed = none →
    (q.p8 0 = 1 → q.len = 20 → 1 ≤ q.p32 4 → q.p32 4 ≤ 131072 → q.p32 8 ≠ 0 → q.p32 12 = Config.romRev % 2 ^ 32 → e.anyOpen = false →
      e.sec.patchRev = 0 → exec (.sysPatchLoad dt) s = .next (s.answered dt q .ok []
        { e with sec.patch := some { total := q.p32 4, rev := q.p32 8, crc := q.p32 16, image := [] } }))
    ∧ (∀ j, q.p8 0 = 2 → 9 ≤ q.len → q.len ≤ 1024 → e.sec.patch = some j → q.p32 4 = j.image.length → q.p32 4 + (q.len - 8) ≤ j.total →
      exec (.sysPatchLoad dt) s = .next (s.answered dt q .ok []
        { e with sec.patch := some { j with image := j.image ++ slice q.params 8 (q.len - 8) } }))
    ∧ (∀ j, q.p8 0 = 3 → q.len = 4 → e.sec.patch = some j → j.image.length = j.total →
      exec (.sysPatchLoad dt) s = .next (s.answered dt q .deferred [] { e with sec.patch := none, sec.committed := some j })))
  ∧ ∀ (d : Dev) (j : PatchJob), d.sec.committed = some j →
      d.patchTakeover.sec.committed = none ∧ d.patchTakeover.sec.patchRev = (if crc32 j.image = j.crc then j.rev else d.sec.patchRev)

/-- R107, R114-R119: loss of PLL_AUD's lock, the steps of a change of the demodulation clock, and a crossing that makes no progress
while it is armed. R121-R126: the audio reference is lost, returns and locks again. That aud_state shows 0x04 after a loss of lock is
the model's choice (log 119). -/
def Obligations.ClockAndReferenceRows : Prop :=
  (∀ (s : State) (dt : Nat),
     let d := s.dev.tick dt
     (s.dev.active = true → s.dev.clk.audOn = true → s.dev.clk.audState ≠ 4 → exec (.pllAudLockLoss dt) s =
       .next (s.after dt { d.clockMute with clk := { d.clockMute.clk with audState := 4, audSince := some d.now } }))
     ∧ (s.dev.toc.halted = true → s.dev.clk.audOn = true → s.dev.clk.audState ≠ 4 → exec (.pllAudLockLoss dt) s =
       .next (s.after dt { d with clk.audOn := false }))
     ∧ (∀ c, s.dev.active = true → s.dev.clk.change = some c →
       exec (.plldIdleLock dt) s = .next (s.after dt { d with clk.change := some { c with holding := true } })
       ∧ (c.holding = false → d.sinceRef c.since 16384 = true → c.attempt < 3 → exec (.plldLockAttemptTimeout dt) s =
           .next (s.after dt { d with clk.change := some { c with attempt := c.attempt + 1, since := d.now } }))
       ∧ (c.holding = false → d.sinceRef c.since 16384 = true → 3 ≤ c.attempt → exec (.plldLockAttemptTimeout dt) s =
           .next (s.after dt (({ d with clk.change := none, clk.planFailures := satAdd 0xFFFF d.clk.planFailures 1 } : Dev).planEvent c 1)))
       ∧ (c.holding = true → ∃ t, exec (.handshakeQuietPoint dt) s = .next t ∧ t.dev.clk.change = none ∧ t.dev.clk.planLive = c.plan
           ∧ t.dev.clk.plldLive = 1 - s.dev.clk.plldLive ∧ t.dev.clk.planChanges = satAdd 0xFFFF s.dev.clk.planChanges 1
           ∧ t.dev.clk.lastSwitch = d.now % 2 ^ 32 ∧ t.dev.trav = s.dev.trav))
     ∧ (∀ x far r b held stalled, x ≤ 6 → s.dev.crossingArmed x far r b = true → 1 ≤ held → crossingTimeout x ≤ stalled →
         s.dev.toc.rcd.valid = false → ∃ t, exec (.handshakeTimeout dt x far r b held stalled) s = .next t
         ∧ t.dev.toc.halted = true ∧ t.dev.toc.rcd.cls = 6 ∧ t.dev.toc.rcd.region = r ∧ t.dev.toc.rcd.block = b
         ∧ t.dev.toc.rcd.addr = x + 256 * (far % 16))
     ∧ (∀ x far r b held stalled, s.dev.crossingArmed x far r b = false ∨ held = 0 ∨ stalled < crossingTimeout x →
         exec (.handshakeTimeout dt x far r b held stalled) s = .next (s.after dt d)))
  ∧ (∀ (s : State) (dt : Nat) (off : Int), s.dev.active = true →
        let d := s.dev.tick dt
        (∀ gap, s.dev.clk.audMode ≠ 0 →
          let faults := List.replicate (edgeFaultsOf gap) d.now ++ d.clk.refFaults.filter d.inRefWindow
          (faults.length ≤ 4 ∨ s.dev.refHeld = false → exec (.audioRefEdgeFault dt gap) s = .next (s.after dt { d with
            clk.edgeFaults := satAdd 0xFFFF d.clk.edgeFaults (edgeFaultsOf gap), clk.refFaults := faults }))
          ∧ (4 < faults.length → s.dev.refHeld = true → ∃ t, exec (.audioRefEdgeFault dt gap) s = .next t ∧ t.dev.clk.audState = 2
            ∧ t.dev.clk.edgeFaults = satAdd 0xFFFF s.dev.clk.edgeFaults (edgeFaultsOf gap)
            ∧ t.dev.clk.refLosses = satAdd 0xFFFF s.dev.clk.refLosses 1 ∧ t.dev.irqBit 10 = true))
        ∧ (∀ gap, s.dev.clk.audMode ≠ 0 → s.dev.clk.audState = 1 ∨ s.dev.clk.audState = 3 → 4000 ≤ gap ∨ refInRange off = false →
          ∃ t, exec (.audioRefLost dt gap off) s = .next t ∧ t.dev.clk.audState = 2 ∧ t.dev.clk.refOffset = off
            ∧ t.dev.clk.refLosses = satAdd 0xFFFF s.dev.clk.refLosses 1 ∧ t.dev.irqBit 10 = true)
        ∧ (∀ edges worst : Nat, s.dev.clk.audMode ≠ 0 → s.dev.clk.audState = 2 → 64 ≤ edges → refInRange worst = true →
          exec (.audioRefValid dt edges worst) s = .next (s.after dt { d with clk.audState := 3, clk.refFaults := [] }))
        ∧ (s.dev.clk.audState = 3 → refInRange off = true → ∃ t, exec (.audioPllPhaseLock dt off) s = .next t ∧ t.dev.clk.audState = 1
            ∧ t.dev.clk.refOffset = off ∧ t.dev.irqBit 11 = true)
        ∧ (d.relocking = true → s.dev.clk.audMode = 0 ∨ refInRange off = true → ∃ t, exec (.audioPllLocked dt off) s = .next t
            ∧ t.dev.clk.audOn = true ∧ t.dev.clk.audPending = false ∧ t.dev.irqBit 12 = true
            ∧ t.dev.clk.audState = (if s.dev.clk.audMode = 0 then 0 else 1) ∧ t.dev.clk.refOffset = (if s.dev.clk.audMode = 0 then 0 else off))
        ∧ (∀ t0, d.relocking = true → s.dev.clk.audMode ≠ 0 → s.dev.clk.audSince = some t0 → t0 + msec 25 ≤ d.now →
            ∃ t, exec (.audioPllRelockTimeout dt) s = .next t ∧ t.dev.clk.audOn = true ∧ t.dev.clk.audState = 2
              ∧ t.dev.clk.audPending = false ∧ t.dev.clk.refLosses = satAdd 0xFFFF s.dev.clk.refLosses 1))

/-- R125-R128: the commands of chapter 04. -/
def Obligations.ClockCommands : Prop :=
  ∀ (s : State) (dt : Nat) (q : Req) (e : Dev), q.badHeader = false → e.inWatch = false →
    (s.admits dt 0x0803 = some (q, e) → q.len = 0 → exec (.clkStatus dt) s = .next (s.answered dt q .ok e.clkPayload e)
      ∧ e.clkPayload.length = 32)
    ∧ (s.admits dt 0x0802 = some (q, e) → q.len = 4 → q.p8 0 ≤ 2 → zeroAt q.params 1 3 = true → q.src = e.proto.owner →
      e.staged P.spurAuto ≠ 1 → e.clk.change = none →
      (q.p8 0 = e.clk.planLive → exec (.clkSpurPlan dt) s = .next (s.answered dt q .ok [] e))
      ∧ (q.p8 0 ≠ e.clk.planLive → exec (.clkSpurPlan dt) s = .next (s.answered dt q .deferred [] { e with
          clk.change := some { plan := q.p8 0, attempt := 1, host := true, holding := false, since := e.now }
          clk.lastChange := some e.round })))
    ∧ (s.admits dt 0x0801 = some (q, e) → q.len = 4 → q.p8 0 ≤ 3 → q.p8 1 ≤ 3 → q.p8 2 ≤ 3 → q.p8 3 ≤ 1 → (q.p8 0 ≠ 2 → q.p8 2 = 0) →
      (q.p8 0 ≠ 1 → q.p8 3 = 0) → q.src = e.proto.owner → (q.p8 0 = 2 → (e.portCfg (q.p8 2)).map (·.role) = some 1) →
      family441 (q.p8 1) = family441 e.clk.audRate ∨ e.familyHeld (q.p8 1) = false → e.clk.audPending = false →
      (q.p8 0 = e.clk.audMode ∧ q.p8 1 = e.clk.audRate ∧ q.p8 2 = e.clk.refPort ∧ q.p8 3 = e.clk.mclkRatio →
        exec (.clkAudio dt) s = .next (s.answered dt q .ok [] e))
      ∧ (¬ (q.p8 0 = e.clk.audMode ∧ q.p8 1 = e.clk.audRate ∧ q.p8 2 = e.clk.refPort ∧ q.p8 3 = e.clk.mclkRatio) →
      exec (.clkAudio dt) s = .next (s.answered dt q .deferred [] { e.clockMute with clk := { e.clockMute.clk with
        audMode := q.p8 0, audRate := q.p8 1, refPort := q.p8 2, mclkRatio := q.p8 3, audState := 4, audSince := some (e.now + msec 5)
        audPending := true, refFaults := [] } })))

/-- R361, R377, R380, R382, R385, R386: what the context commands schedule. Each answers the boundary at which its change applies,
stages exactly that change, and until then alters nothing else of the context (CTX_CLOSE marks it closing, CTX_HANDOVER acts at
once). R205, R380, R385: CTX_CLOSE, CTX_SUSPEND and CTX_RESUME on another sender's context are refused NOT_OWNER, and on one that is
closing WRONG_STATE; nothing changes. -/
def Obligations.ContextCommands : Prop :=
  (∀ (s : State) (dt : Nat) (q : Req) (e : Dev) (x : CtxSt), q.badHeader = false → e.ctx? q.ctx = some x → q.src = x.owner → e.inWatch = false →
     x.closing = none →
     let staged (a : CtxAct) (b : Nat) (d : Dev) : Dev :=
       { d with trav.acts := d.trav.acts ++ [({ ctx := q.ctx, act := a, due := b, accepted := e.now } : CtxSched)] }
     (s.admits dt 0x0102 = some (q, e) → q.len = 0 →
       let b := if e.audio.progs.any (·.src == some q.ctx) then boundaryAt (e.now + msec 5) else e.nextBoundary
       exec (.ctxClose dt) s = .next (s.answered dt q .ok (u64 b)
         (staged .close b { e with trav.ctxs := tabSet e.trav.ctxs q.ctx { x with closing := some b } }).audioSync))
     ∧ (s.admits dt 0x0103 = some (q, e) → q.len = 4 → q.p8 0 ≤ 1 → q.p8 1 ≤ 7 → zeroAt q.params 2 2 = true →
       let fg := q.p8 0 == 1
       let l := e.ledgerWith q.ctx fun r => { r with fg := fg }
       classPermitted x.kind fg = true →
       (x.fg = fg → (e.ledgerRow q.ctx x).fg = fg → exec (.ctxConfig dt) s =
         .next (s.answered dt q .ok (u64 e.nextBoundary) (staged (.config fg (q.p8 1)) e.nextBoundary e)))
       ∧ (x.fg = true → fg = false → firstFailure (e.admitBg l) = none → exec (.ctxConfig dt) s =
         .next (s.answered dt q .ok (u64 e.nextBoundary) (staged (.config fg (q.p8 1)) e.nextBoundary e)))
       ∧ (x.fg = false → fg = true → firstFailure (e.admitFg l) = none → exec (.ctxConfig dt) s =
         .next (s.answered dt q .ok (u64 (e.dispatchBoundary x true)) (staged (.config fg (q.p8 1)) (e.dispatchBoundary x true) e))))
     ∧ (s.admits dt 0x0105 = some (q, e) → q.len = 16 → zeroAt q.params 10 6 = true → e.maskUnfitted q.tuning.inputs = false →
       e.stdUnfitted q.tuning.std = false → badTuning x.kind q.tuning = false → x.state ≠ .halted → e.pinClash q.ctx q.tuning.std = false →
       firstFailure (e.admission q.ctx fun r => { r with tuning := some q.tuning }) = none →
       exec (.ctxTune dt) s = .next (s.answered dt q .ok (u64 (e.tuneBoundary x q.tuning)) (staged (.tune q.tuning) (e.tuneBoundary x q.tuning) e)))
     ∧ (s.admits dt 0x0106 = some (q, e) → q.len = 0 → x.state ≠ .halted →
       exec (.ctxSuspend dt) s = .next (s.answered dt q .ok (u64 e.nextBoundary) (staged .suspend e.nextBoundary e)))
     ∧ (s.admits dt 0x0107 = some (q, e) → q.len = 0 → x.state = .halted →
       (x.fg = true → firstFailure (e.admission q.ctx fun r => { r with halted := false }) = none) →
       exec (.ctxResume dt) s = .next (s.answered dt q .ok (u64 (e.dispatchBoundary x x.fg)) (staged .resume (e.dispatchBoundary x x.fg) e)))
     ∧ (s.admits dt 0x0108 = some (q, e) → q.len = 4 → zeroAt q.params 2 2 = true →
       let owned (o : Iface) : Dev := { e with trav.ctxs := tabSet e.trav.ctxs q.ctx { x with owner := o } }
       (q.p8 0 = 0 → q.p8 1 = 0 → exec (.ctxHandover dt) s = .next (s.answered dt q .ok [] (owned .spi)))
       ∧ (q.p8 0 = 1 → q.p8 1 = 0 → e.regs.twCfg.getLsbD 4 = true → exec (.ctxHandover dt) s =
           .next (s.answered dt q .ok [] (owned .twoWire)))
       ∧ (q.p8 0 = 2 → 1 ≤ q.p8 1 → q.p8 1 ≤ 0x20 → e.hasFabric = true → e.inRoutes (q.p8 1) = true → exec (.ctxHandover dt) s =
           .next (s.answered dt q .ok [] (owned (.fabric (q.p8 1)))))))
  ∧ (∀ (s : State) (dt : Nat) (q : Req) (e : Dev) (x : CtxSt), q.badHeader = false → e.ctx? q.ctx = some x → q.len = 0 → e.inWatch = false →
        (q.src ≠ x.owner →
          (s.admits dt 0x0102 = some (q, e) → exec (.ctxClose dt) s = .next (s.answered dt q .notOwner [] e))
          ∧ (s.admits dt 0x0106 = some (q, e) → exec (.ctxSuspend dt) s = .next (s.answered dt q .notOwner [] e))
          ∧ (s.admits dt 0x0107 = some (q, e) → exec (.ctxResume dt) s = .next (s.answered dt q .notOwner [] e)))
        ∧ (∀ b, q.src = x.owner → x.closing = some b →
          (s.admits dt 0x0102 = some (q, e) → exec (.ctxClose dt) s = .next (s.answered dt q .wrongState [] e))
          ∧ (s.admits dt 0x0106 = some (q, e) → exec (.ctxSuspend dt) s = .next (s.answered dt q .wrongState [] e))
          ∧ (s.admits dt 0x0107 = some (q, e) → exec (.ctxResume dt) s = .next (s.answered dt q .wrongState [] e))))

/-- R379: CTX_OPEN opens the context that the packet names, or for 0xFF the lowest number that is free, owned by the sender, and answers
its number; a part with all of them open answers NO_CONTEXT, and a context already open WRONG_STATE. R384, R387: the two read
commands of chapter 13 answer their payload and change nothing but the stream. -/
def Obligations.ContextOpensAndReads : Prop :=
  (∀ (s : State) (dt : Nat) (q : Req) (e : Dev), s.admits dt 0x0101 = some (q, e) → q.badHeader = false → q.len = 4 →
     e.kindUnfitted (q.p8 0) = false → kindKnown (q.p8 0) = true → q.p8 1 ≤ 1 → classPermitted (q.p8 0) (q.p8 1 == 1) = true → q.p8 2 ≤ 7 →
     q.p8 3 = 0 → e.inWatch = false →
     (∀ c, (q.ctx = c ∧ c ≠ 0xFF ∨ q.ctx = 0xFF ∧ c < e.nCtx ∧ ∀ k < c, (e.ctx? k).isSome = true) → e.ctx? c = none →
       (q.p8 1 = 1 → (e.ledger.filter (·.fg)).length < 16) →
       classPages (e.ledger ++ [{ ctx := c, kind := q.p8 0, fg := q.p8 1 == 1, tuning := none, halted := false }]) (q.p8 1 == 1)
         ≤ (if q.p8 1 = 1 then e.stagedN P.dsQuotaFg else e.stagedN P.dsQuotaBg) →
       let x : CtxSt := { kind := q.p8 0, fg := q.p8 1 == 1, prio := q.p8 2, owner := q.src, since := e.now }
       exec (.ctxOpen dt) s = .next (s.answered dt q .ok (u8 c ++ zeros 3)
         (({ e with trav.ctxs := tabSet e.trav.ctxs c x } : Dev).ctxEvent c 0 1 0)))
     ∧ (q.ctx = 0xFF → (∀ k < e.nCtx, (e.ctx? k).isSome = true) → exec (.ctxOpen dt) s = .next (s.answered dt q .noContext [] e))
     ∧ (q.ctx ≠ 0xFF → (e.ctx? q.ctx).isSome = true → exec (.ctxOpen dt) s = .next (s.answered dt q .wrongState [] e)))
  ∧ (∀ (s : State) (dt : Nat) (q : Req) (e : Dev), q.badHeader = false → q.len = 0 → e.inWatch = false →
        (∀ x, s.admits dt 0x0104 = some (q, e) → e.ctx? q.ctx = some x →
          exec (.ctxStatus dt) s = .next (s.answered dt q .ok (e.ctxPayload q.ctx x) e) ∧ (e.ctxPayload q.ctx x).length = 32)
        ∧ (s.admits dt 0x0104 = some (q, e) → e.ctx? q.ctx = none → exec (.ctxStatus dt) s = .next (s.answered dt q .wrongState [] e))
        ∧ (s.admits dt 0x0109 = some (q, e) → exec (.resStatus dt) s = .next (s.answered dt q .ok e.resPayload e)))

/-- R359-R365, R372: the rows of Traverse, and the Round boundary, which keeps the fuses, the straps, the first-error record and the halt,
and in WATCH does only what R90 leaves. -/
def Obligations.TraverseRows : Prop :=
  ∀ (s : State) (dt : Nat), s.dev.up = true →
    let d := s.dev.tick dt
    (s.dev.pwr.mode = .active → (d.now) % roundTicks = 65536 → ∃ items, exec (.traversePlanFreeze dt) s =
      .next (s.after dt { d with trav.plan := some (d.nextBoundary, d.now, items), trav.restored := [] }))
    ∧ (∀ c, s.dev.pwr.mode = .active → d.planRestores.contains c = true → c ∉ s.dev.trav.restored → exec (.pagerRestore dt c) s =
      .next (s.after dt { d with trav.restored := d.trav.restored ++ [c] }))
    ∧ (∀ c m b rest, s.dev.pwr.mode = .active → s.dev.trav.parking = (c, m, b) :: rest → exec (.pagerPark dt c) s =
      .next (s.after dt { d with trav.parking := rest }))
    ∧ (∀ c x b, s.dev.pwr.mode = .active → s.dev.ctx? c = some x → x.fg = false → x.state = .running → x.dwellDone = false →
      x.dwellEnd = some b → b ≤ d.now → exec (.dwellEnd dt c) s =
        .next (s.after dt ((d.deliverCheck c).setCtx c fun x => { x with dwellDone := true })))
    ∧ (s.dev.pwr.mode = .active → s.dev.propN P.starveLimit = 0 → exec (.noResourceStarvation dt) s = .next (s.after dt d))
    ∧ (∀ c x t, s.dev.pwr.mode = .active → s.dev.propN P.starveLimit ≠ 0 → s.dev.trav.ctxs = [(c, x)] → x.inst = none → x.fg = false →
      x.waits = true → x.starved = false → d.entInput (.ctx c) = true → x.waitFrom = some t →
      s.dev.propN P.starveLimit ≤ (d.now - t) / roundTicks →
      exec (.noResourceStarvation dt) s = .next (s.after dt (d.noResource c (.ctx c) ((d.now - t) / roundTicks))))
    ∧ (∀ inp, (d.now) % roundTicks = 0 →
      (s.dev.pwr.mode = .active → ∃ t, exec (.roundBoundary dt inp) s = .next t ∧ t.pending = s.pending ∧ t.dev.kept = s.dev.kept)
      ∧ (s.dev.pwr.mode = .watch → exec (.roundBoundary dt inp) s =
          .next (s.after dt d.applyProps.patchTakeover.tocsinRound.ownersPass)))

/-- R213: at the boundary the accepted lists whose time has come take effect in index order, and only those: for system properties the
last value staged for an identifier wins; what is due later stays staged. -/
def Obligations.PropertiesApplyAtTheirBoundary : Prop :=
  ∀ (d : Dev),
    d.applyProps.proto.staged = d.proto.staged.filter (fun p => d.now < p.due)
    ∧ (∀ p, d.proto.staged = [p] → p.ctx = 0xFF → p.due ≤ d.now → ∀ id v, (id, v) ∈ p.entries → (p.entries.map (·.1)).Nodup →
        tabGet d.applyProps.proto.props id = some v)
    ∧ (∀ p, d.proto.staged = [p] → p.ctx = 0xFF → p.due ≤ d.now → ∀ id, id ∉ p.entries.map (·.1) →
        tabGet d.applyProps.proto.props id = tabGet d.proto.props id)
    ∧ d.applyProps.trav = d.trav ∧ d.applyProps.rf = d.rf ∧ d.applyProps.regs = d.regs

/-- R274-R278: the front-end commands. Each answers the boundary of its change, stages exactly it, and alters no other input. -/
def Obligations.FrontEndCommands : Prop :=
  ∀ (s : State) (dt : Nat) (q : Req) (e : Dev), q.badHeader = false → q.src = e.proto.owner → e.inWatch = false → q.p8 0 < e.nInputs →
    q.p8 0 ≤ 3 →
    let i := q.p8 0
    let x := e.inp i
    (∀ tAvg, s.admits dt 0x0201 = some (q, e) → q.len = 4 → zeroAt q.params 2 2 = true → x.offDue = none →
      e.cal.runs.any (·.input == i) = false →
      (q.p8 1 = 1 → x.mode = .live → exec (.feInput dt tAvg) s = .next (s.answered dt q .ok (u64 0) e))
      ∧ (q.p8 1 = 1 → x.mode = .off → e.calValid i tAvg = true →
          let b := boundaryAt (e.now + 2 * roundTicks)
          exec (.feInput dt tAvg) s = .next (s.answered dt q .ok (u64 b)
            { (e.setInp i fun x => { x with agcMode := 0, agcNext := none }).setInp i fun x => { x with mode := .starting, liveDue := some b } with
              cal.syn0Used := e.cal.syn0.isSome }))
      ∧ (q.p8 1 = 1 → x.mode = .off → e.calValid i tAvg = false → exec (.feInput dt tAvg) s =
          .next (s.answered dt q .deferred [] ((e.setInp i fun x => { x with agcMode := 0, agcNext := none }).calStartup i)))
      ∧ (q.p8 1 = 0 → x.mode = .off → exec (.feInput dt tAvg) s = .next (s.answered dt q .ok (u64 0) e))
      ∧ (q.p8 1 = 0 → x.mode = .live →
          let b := boundaryAt (e.now + msec 5)
          exec (.feInput dt tAvg) s = .next (s.answered dt q .ok (u64 b) (e.setInp i fun x => { x with offDue := some b }).audioSync)))
    ∧ (s.admits dt 0x0202 = some (q, e) → q.len = 8 → zeroAt q.params 4 4 = true → q.p8 1 ≤ 2 → (q.p8 1 ≠ 2 → q.p8 2 = 0 ∧ q.p8 3 = 0) →
      -72 ≤ q.ps8 2 → q.ps8 2 ≤ 48 → q.p8 3 ≤ 30 → e.inputLive i = true → (q.p8 3 ≠ 0 → x.lband.isOn = true) →
      exec (.feAgc dt) s = .next (s.answered dt q .ok q.params (e.setInp i fun x => { x with agcNext := some (q.p8 1, q.ps8 2, q.p8 3) })))
    ∧ (s.admits dt 0x0203 = some (q, e) → q.len = 4 → zeroAt q.params 3 1 = true → x.amp.seqn = none → x.amp.faulted = false →
      (q.p8 1 = 0 → q.p8 2 = 0 → x.amp.pwr = false → exec (.feXamp dt) s = .next (s.answered dt q .ok [] e))
      ∧ (q.p8 1 = 0 → q.p8 2 = 0 → x.amp.pwr = true → exec (.feXamp dt) s = .next (s.answered dt q .deferred []
          (({ e with rf.eepQueue := e.rf.eepQueue.erase i } : Dev).setInp i fun y =>
            { y with amp.seqn := some { kind := .off, stage := .toStart e.nextBoundary } })))
      ∧ (∀ byp, q.p8 1 = (if byp then 2 else 1) → (q.p8 2 = 0 ∨ 0x08 ≤ q.p8 2 ∧ q.p8 2 ≤ 0x77) → x.amp.pwr = false →
          exec (.feXamp dt) s = .next (s.answered dt q .deferred [] ((e.setInp i fun y =>
            { y with amp.seqn := some { kind := .on byp, stage := .toStart e.nextBoundary } }).setInp i fun y => { y with amp := { y.amp with
              lastOn := some byp, retries := 0, eepAddr := q.p8 2, eepState := 0, eep := [] } })))
      ∧ (∀ byp, q.p8 1 = (if byp then 2 else 1) → q.p8 2 = 0 → x.amp.pwr = true →
          (x.amp.byp = byp → exec (.feXamp dt) s = .next (s.answered dt q .ok [] e))
          ∧ (x.amp.byp ≠ byp → exec (.feXamp dt) s = .next (s.answered dt q .deferred [] (e.setInp i fun y =>
              { y with amp.seqn := some { kind := .bypassChange byp, stage := .toStart e.nextBoundary } })))))
    ∧ (s.admits dt 0x0203 = some (q, e) → q.len = 4 → zeroAt q.params 3 1 = true → x.amp.seqn = none → x.amp.faulted = true → q.p8 1 = 3 →
      q.p8 2 = 0 → exec (.feXamp dt) s = .next (s.answered dt q .ok [] (e.setInp i fun y => { y with amp.faulted := false })))
    ∧ (s.admits dt 0x0204 = some (q, e) → q.len = 4 → zeroAt q.params 2 2 = true →
      (q.p8 1 = 0 → exec (.feDiag dt) s = .next (s.answered dt q .ok (e.diagPayload i) e))
      ∧ (q.p8 1 = 1 → exec (.feDiag dt) s = .next (s.answered dt q .ok (e.diagPayload i) (e.setInp i fun x =>
          { x with overloads := 0, clips := 0, amp := { x.amp with snsMin := none, snsMax := none } }))))
    ∧ (s.admits dt 0x0205 = some (q, e) → q.len = 4 → zeroAt q.params 2 2 = true → x.mode = .live → e.cal.runs.any (·.input == i) = false →
      e.rf.syn0Attempt = 0 →
      (q.p8 1 = 1 → x.lband = .off →
        let b := boundaryAt (e.now + usec 400)
        exec (.feLband dt) s = .next (s.answered dt q .ok (u64 b) (e.setInp i fun x =>
          { x with lband := .switchingOn b, lbg := 0, rampLb := true, lowLb := 0, detLb := none }).syn0Start))
      ∧ (q.p8 1 = 0 → x.lband = .on → exec (.feLband dt) s =
          .next (s.answered dt q .ok (u64 (boundaryAt (e.now + msec 5))) (e.lbandOff i)))
      ∧ (q.p8 1 = 1 → x.lband = .on → exec (.feLband dt) s = .next (s.answered dt q .ok (u64 0) e))
      ∧ (q.p8 1 = 0 → x.lband = .off → exec (.feLband dt) s = .next (s.answered dt q .ok (u64 0) e)))

/-- R254, R255: SYN0 locks, loses lock and re-acquires; segments n.3 deliver zeros from the boundary after a loss until the one after
the next lock; the third failed attempt switches every converter off. 10 R289: a loss during a search counts a disagreeing pair. -/
def Obligations.Syn0Rows : Prop :=
  ∀ (s : State) (dt : Nat), s.dev.active = true →
    let d := s.dev.tick dt
    (s.dev.clk.syn0 = 2 → s.dev.rf.syn0Attempt = 0 → exec (.syn0Lock dt) s =
      .next (s.after dt { d with clk.syn0 := 1, rf.loBack := d.rf.loLost.map fun _ => d.nextBoundary }))
    ∧ (s.dev.clk.syn0 = 2 → s.dev.rf.syn0Attempt ≠ 0 → ∃ t, exec (.syn0Lock dt) s = .next t ∧ t.dev.clk.syn0 = 1
        ∧ t.dev.rf.loBack = (s.dev.rf.loLost.map fun _ => d.nextBoundary) ∧ t.dev.rf.syn0Attempt = 0)
    ∧ (s.dev.clk.syn0 = 1 → s.dev.convertersOn ≠ 0 → ∃ t, exec (.syn0LockLoss dt) s = .next t ∧ t.dev.clk.syn0 = 2
        ∧ t.dev.rf.syn0Attempt = 1 ∧ t.dev.rf.syn0Lost = s.dev.convertersOn ∧ t.dev.rf.loBack = none
        ∧ (s.dev.rf.loLost = none → t.dev.rf.loLost = some d.nextBoundary)
        ∧ (∀ r, s.dev.cal.syn0Run = some r → 2 * (r.searches / 2) + 2 < 8 →
            t.dev.cal.syn0Run = some { r with searches := 2 * (r.searches / 2) + 2 }))
    ∧ (s.dev.clk.syn0 = 1 → s.dev.convertersOn = 0 → exec (.syn0LockLoss dt) s = .next (s.after dt d.syn0Disagree))
    ∧ (s.dev.clk.syn0 = 2 → s.dev.rf.syn0Attempt ≠ 0 → d.sinceRef d.rf.syn0Since 16384 = true →
      (s.dev.rf.syn0Attempt < 3 → exec (.syn0ReacquireTimeout dt) s =
        .next (s.after dt { d with rf.syn0Attempt := d.rf.syn0Attempt + 1, rf.syn0Since := d.now }))
      ∧ (3 ≤ s.dev.rf.syn0Attempt → ∃ t, exec (.syn0ReacquireTimeout dt) s = .next t ∧ t.dev.clk.syn0 = 0 ∧ t.dev.rf.syn0Attempt = 0
        ∧ ∀ i < 4, i < s.dev.rf.inputs.length → (s.dev.inp i).lband = .on →
            (t.dev.inp i).lband = .switchingOff (boundaryAt (d.now + msec 5))))

/-- R258-R263: an AGC window of a live input takes effect at its own window: its codes go through the input's down-converters to
Survey and the slots, and then exactly the loop of the window runs; a window at another time, or of an input that is not live, only
lets time pass. R258, R261: what a window leaves in the input that it measured: the
detector, the clips counted, and, where the host set the gain in it, exactly the host's gain; the other inputs stay. -/
def Obligations.AgcWindows : Prop :=
  (∀ (s : State) (dt i : Nat) (codes : List Int) (m l : Int), s.dev.active = true →
     let d := s.dev.tick dt
     let clips := (codes.filter isClip).length
     let through := (d.convert i codes).1.foldl (fun e x => e.segGives (clips != 0) x.1 x.2) (d.convert i codes).2
     (i < s.dev.nInputs → s.dev.inputLive i = true → d.now % 16384 = 0 →
       exec (.agcWindowEnd dt i codes m l) s = .next (s.after dt (through.agcWindow i clips m l)))
     ∧ (s.dev.inputLive i = false ∨ d.now % 16384 ≠ 0 → exec (.agcWindowEnd dt i codes m l) s = .next (s.after dt d)))
  ∧ (∀ (d : Dev) (i clips : Nat) (m l : Int), i < d.rf.inputs.length →
        let e := d.agcWindow i clips m l
        (e.inp i).detMain = some m ∧ (e.inp i).clips = satAdd 0xFFFFFFFF (d.inp i).clips clips
          ∧ (e.inp i).sinceClip = (if 0 < clips then 0 else min 8 ((d.inp i).sinceClip + 1))
          ∧ (∀ g lb, (d.inp i).agcNext = some (2, g, lb) → (e.inp i).g = g ∧ (e.inp i).lbg = lb ∧ (e.inp i).agcMode = 2 ∧ (e.inp i).agcNext = none)
          ∧ (∀ g lb, (d.inp i).agcNext = some (1, g, lb) → (e.inp i).g = (d.inp i).g ∧ (e.inp i).agcMode = 1)
          ∧ ((d.inp i).agcNext = none → (d.inp i).agcMode ≠ 0 → (e.inp i).g = (d.inp i).g ∧ (e.inp i).lbg = (d.inp i).lbg)
          ∧ ((d.inp i).agcNext = none → (d.inp i).agcMode = 0 → d.prop (P.agcMinGain i) ≤ d.prop (P.agcMaxGain i) →
              d.prop (P.agcMinGain i) ≤ (e.inp i).g ∧ (e.inp i).g ≤ d.prop (P.agcMaxGain i))
          ∧ ∀ j, j ≠ i → e.inp j = d.inp j)

/-- R269-R273: the external amplifier's rows. -/
def Obligations.AmplifierRows : Prop :=
  ∀ (s : State) (dt i : Nat), s.dev.izosh = true → i < s.dev.nInputs →
    let d := s.dev.tick dt
    let a := (s.dev.inp i).amp
    (∀ mv, a.pwr = true → (d.classify i mv a).2 = none → exec (.auxAdcSample dt i mv) s =
      .next (s.after dt (d.setInp i fun z => { z with amp := (d.classify i mv a).1 })))
    ∧ (∀ mv, a.pwr = true → 1750 ≤ mv → exec (.auxAdcSample dt i mv) s =
      .next (s.after dt ((d.setInp i fun z => { z with amp := (d.classify i mv a).1 }).supplyCut i 3)))
    ∧ (a.pwr = true → a.pwrAt + a.times.1 * 8 * roundTicks ≤ d.now → exec (.xampInrushExpiry dt i) s =
      .next (s.after dt (d.setInp i fun x => { x with amp.inrushOver := true })))
    ∧ (∀ k, a.pwr = true → a.pwrAt + a.times.2 * 8 * roundTicks ≤ d.now → a.seqn = some { kind := k, stage := .settling } →
      a.eepAddr = 0 → exec (.xampSettleExpiry dt i) s = .next (s.after dt ((d.setInp i fun x => { x with amp.settled := true }).setInp i
        fun x => { x with amp.seqn := some { kind := k, stage := .toFinish d.nextBoundary } })))
    ∧ (∀ t, a.seqn = some { kind := .off, stage := .offDelay t } → t + 8 * roundTicks ≤ d.now → exec (.xampOffDelayExpiry dt i) s =
      .next (s.after dt ((d.setInp i fun x => { x with amp.pwr := false }).seqDone i 0)))
    ∧ (∀ k t, a.seqn = some { kind := k, stage := .retryWait t } → t + msec 1000 ≤ d.now → exec (.xampRetryWaitExpiry dt i) s =
      .next (s.after dt ((d.setInp i fun x => { x with amp := { x.amp with
        retries := x.amp.retries + 1, seqn := some { kind := k, stage := .toStart d.nextBoundary } } }).antDiag i 2)))
    ∧ (∀ r bytes, s.dev.twc.state = 2 → s.dev.ctrlEn = true → s.dev.twc.req = some r → r.input = some i →
      exec (.xampEepromReadDone dt 1 bytes) s = .next (s.after dt
        (({ d with twc.state := 0, twc.req := none, tw.busBusy := false, tw.lastStop := some d.now } : Dev).eepDone i 1 (padTo 32 bytes)).pumpEep))

/-- R282-R286, R293, R296: the rows of chapter 10. Only a pair of passes that agrees gives the values of its second
pass; a residue that `residueOf` finds rejects them; the fourth pair that disagrees ends the run without. -/
def Obligations.CalibrationRows : Prop :=
  ∀ (s : State) (dt : Nat), s.dev.active = true →
    let d := s.dev.tick dt
    (∀ (i : Nat) (r : CalRun) (trims : List Byte) (codes : List Int) (tAvg : Int), s.dev.calRun i = some r → r.began = true →
      r.outcome = none → r.passes < 8 → trims.length = 48 → r.start + (2 + 8 * (r.passes + 1)) * roundTicks ≤ d.now →
      let n := r.passes + 1
      let due := r.start + (4 + 8 * n) * roundTicks
      let vals : CalVals := { uid := s.dev.uid, tCal := tAvg, pairs := n / 2, trims := trims, time := d.now }
      let ends (r' : CalRun) : Prop := ∃ t, exec (.calPassEnd dt i trims codes tAvg) s = .next t ∧ t.dev.calRun i = some r'
        ∧ t.dev.cal.vals = s.dev.cal.vals ∧ t.dev.rf = s.dev.rf
      (∀ l f, residueOf codes = some (l, f) → n % 2 = 1 →
          ends { r with passes := n, first := trims, outcome := some (.rejected n l f, due) })
      ∧ (∀ l f, residueOf codes = some (l, f) → n % 2 = 0 →
          ends { r with passes := n, broken := false, outcome := some (.rejected n l f, due) })
      ∧ (residueOf codes = none → n % 2 = 1 → ends { r with passes := n, first := trims })
      ∧ (residueOf codes = none → n % 2 = 0 → r.broken = false → passesAgree r.first trims = true →
          ends { r with passes := n, outcome := some (.agreed (n / 2) vals, due) })
      ∧ (residueOf codes = none → n % 2 = 0 → n < 8 → (r.broken = true ∨ passesAgree r.first trims = false) → ends { r with passes := n, broken := false })
      ∧ (residueOf codes = none → n = 8 → (r.broken = true ∨ passesAgree r.first trims = false) →
          ends { r with passes := n, broken := false, outcome := some (.disagree, due) }))
    ∧ (∀ i r o due, i < s.dev.rf.inputs.length → s.dev.calRun i = some r → r.outcome = some (o, due) → due ≤ d.now → r.applied = false →
      ∃ t, exec (.calApplyDone dt i) s = .next t ∧ t.dev.calRun i = some { r with applied := true }
        ∧ (t.dev.inp i).g = r.gains.1 ∧ (t.dev.inp i).lbg = r.gains.2 ∧ (t.dev.inp i).iso = !r.startup
        ∧ (∀ p v, o = .agreed p v → t.dev.cal.vals = s.dev.cal.vals.set i (some v))
        ∧ ((∀ p v, o ≠ .agreed p v) → t.dev.cal.vals = s.dev.cal.vals))
    ∧ (∀ r band cap tAvg, s.dev.cal.syn0Run = some r → r.began = true → r.start + usec (400 * (r.searches + 1)) ≤ d.now →
      (r.searches % 2 = 0 → exec (.syn0SearchEnd dt band cap tAvg) s =
        .next (s.after dt { d with cal.syn0Run := some { r with searches := r.searches + 1, first := (band, cap) } }))
      ∧ (r.searches % 2 = 1 → (band ≠ r.first.1 ∨ r.first.2 + 1 < cap ∨ cap + 1 < r.first.2) →
          exec (.syn0SearchEnd dt band cap tAvg) s = .next (s.after dt d.syn0Disagree))
      ∧ (r.searches % 2 = 1 → band = r.first.1 → cap ≤ r.first.2 + 1 → r.first.2 ≤ cap + 1 →
          ∃ t, exec (.syn0SearchEnd dt band cap tAvg) s = .next t ∧ t.dev.cal.syn0 = some (band, cap) ∧ t.dev.cal.syn0Run = none
            ∧ t.dev.cal.vals = s.dev.cal.vals))
    ∧ (∀ tAvg, ((d.now) % (8 * roundTicks) ≠ 0 → exec (.calTemperatureCheck dt tAvg) s = .next (s.after dt d))
      ∧ ((d.now) % (8 * roundTicks) = 0 → (∀ i < 4, s.dev.inputLive i = false) →
          exec (.calTemperatureCheck dt tAvg) s = .next (s.after dt { d with pwr.tAvg := tAvg }))
      ∧ ((d.now) % (8 * roundTicks) = 0 → ∀ c, s.dev.inputLive 0 = true → s.dev.tCal 0 = some c → s.dev.cal.advised.getD 0 false = false →
          (∀ i < 4, i ≠ 0 → s.dev.inputLive i = false) → s.dev.cal.advised.length = 4 →
          (160 ≤ (tAvg - c).natAbs → ∃ t, exec (.calTemperatureCheck dt tAvg) s = .next t ∧ t.dev.pwr.tAvg = tAvg
            ∧ t.dev.cal.advised = s.dev.cal.advised.set 0 true)
          ∧ ((tAvg - c).natAbs < 160 → ∃ t, exec (.calTemperatureCheck dt tAvg) s = .next t ∧ t.dev.pwr.tAvg = tAvg
            ∧ t.dev.cal.advised = s.dev.cal.advised)))
    ∧ (∀ r f rest ok band cap tAvg, s.dev.cal.syn1Run = some r → r.start ≤ d.now → r.left = f :: rest → s.dev.watch.waits = [] →
      let placed := if ok then placeSyn1 s.dev.watchChannels (s.dev.syn1New f band cap tAvg) s.dev.cal.syn1 else none
      (rest ≠ [] → placed = none → exec (.syn1ChannelCalDone dt ok band cap tAvg) s = .next (s.after dt { d with
        cal.syn1Run := some { r with left := rest, failed := r.failed + 1, fFail := f } }))
      ∧ (∀ l, rest ≠ [] → placed = some l → exec (.syn1ChannelCalDone dt ok band cap tAvg) s = .next (s.after dt { d with
          cal.syn1 := l, cal.syn1Run := some { r with left := rest, done := r.done + 1 } }))
      ∧ (rest = [] → ∃ t, exec (.syn1ChannelCalDone dt ok band cap tAvg) s = .next t ∧ t.dev.cal.syn1Run = none
          ∧ t.dev.cal.syn1 = placed.getD s.dev.cal.syn1))

/-- R296-R300: the commands of chapter 10. -/
def Obligations.CalibrationCommands : Prop :=
  ∀ (s : State) (dt : Nat) (q : Req) (e : Dev), q.badHeader = false → q.src = e.proto.owner → e.inWatch = false →
    (s.admits dt 0x0701 = some (q, e) → q.len = 4 → zeroAt q.params 1 3 = true → q.p8 0 ≠ 0 → q.p8 0 < 64 →
      (∀ i ∈ bitsOf 4 (q.p8 0), i < e.nInputs ∧ (e.inp i).mode = .live ∧ (e.inp i).offDue = none ∧ e.cal.runs.any (·.input == i) = false) →
      (hasBit (q.p8 0) 4 = true → e.convertersOn = 0 ∧ e.cal.syn0Run = none ∧ e.rf.syn0Attempt = 0) →
      (hasBit (q.p8 0) 5 = true → e.watchChannels ≠ [] ∧ e.syn1Busy = false) →
      let b := e.nextBoundary
      exec (.calRun dt) s = .next (s.answered dt q .deferred (u64 b) { e with
        cal.runs := e.cal.runs ++ (bitsOf 4 (q.p8 0)).map fun i =>
          ({ input := i, startup := false, start := b, gains := ((e.inp i).g, (e.inp i).lbg) } : CalRun)
        cal.syn0Run := if hasBit (q.p8 0) 4 then some { startup := false, start := b } else e.cal.syn0Run
        cal.syn1Run := if hasBit (q.p8 0) 5 then some { left := e.watchChannels, start := b } else e.cal.syn1Run }))
    ∧ (∀ v, s.admits dt 0x0702 = some (q, e) → q.len = 4 → zeroAt q.params 1 3 = true → q.p8 0 ≤ 3 → q.p8 0 < e.nInputs →
      e.cal.vals.getD (q.p8 0) none = some v →
      (e.calRecord (q.p8 0) v).length = 96 ∧ exec (.calRead dt) s = .next (s.answered dt q .ok (e.calRecord (q.p8 0) v) e))
    ∧ (∀ tAvg, s.admits dt 0x0703 = some (q, e) → q.len = 100 → q.p8 0 = 1 → zeroAt q.params 1 3 = true →
      let rcd := q.params.drop 4
      let i := at8 rcd 1
      i ≤ 3 → i < e.nInputs → (e.inp i).mode = .off →
      (e.recordResult rcd tAvg ≠ 0 → ∃ t, exec (.calWrite dt tAvg) s = .next t ∧ t.dev.cal.vals = e.cal.vals ∧ t.dev.cal.syn0 = e.cal.syn0)
      ∧ (e.recordResult rcd tAvg = 0 → ∃ t, exec (.calWrite dt tAvg) s = .next t ∧ t.dev.cal.vals = e.cal.vals.set i (some
          { uid := e.uid, tCal := atS16 rcd 12, pairs := at8 rcd 14, trims := slice rcd 16 48, time := at64 rcd 68 })
          ∧ (e.cal.syn0Used = false → at8 rcd 66 = 1 → t.dev.cal.syn0 = some (at8 rcd 64, at8 rcd 65))
          ∧ (e.cal.syn0Used = true ∨ at8 rcd 66 ≠ 1 → t.dev.cal.syn0 = e.cal.syn0)))
    ∧ (s.admits dt 0x0704 = some (q, e) → q.len = 0 → e.cal.syn1.length ≤ 16 → exec (.synTableRead dt) s =
      .next (s.answered dt q .ok (u8 e.cal.syn1.length ++ zeros 3 ++ e.cal.syn1.flatMap Syn1Entry.bytes) e))
    ∧ (∀ tAvg, s.admits dt 0x0705 = some (q, e) → q.len = 20 → q.p8 0 = 1 → zeroAt q.params 1 3 = true → e.syn1Busy = false →
      let b := q.params.drop 4
      zeroAt b 8 4 = true →
      let answer (r : Nat) (l : List Syn1Entry) : Prop := exec (.synTableWrite dt tAvg) s =
        .next (s.answered dt q .ok (u8 r ++ (List.replicate 15 (0xFF : Byte))) { e with cal.syn1 := l })
      let x := syn1OfBytes b
      (x.crc ≠ crc32 (e.uid ++ b.take 12) → answer 1 e.cal.syn1)
      ∧ (x.crc = crc32 (e.uid ++ b.take 12) → 120 < (tAvg - x.tCal).natAbs → answer 3 e.cal.syn1)
      ∧ (x.crc = crc32 (e.uid ++ b.take 12) → (tAvg - x.tCal).natAbs ≤ 120 → e.cal.syn1.any (·.freq == x.freq) = false →
          e.cal.syn1.length < 16 → answer 0 (e.cal.syn1 ++ [x])))

/-- R311-R320, R344-R347: Survey's rows and commands, and the commands of the channeliser. A visit that
was not complete leaves nothing; any other gives its segment the levels of the visit's spectrum, and the other segments keep theirs. -/
def Obligations.SurveyAndSlots : Prop :=
  ∀ (s : State) (dt : Nat), let d := s.dev.tick dt
    (∀ seg, s.dev.active = true → s.dev.survey.runs.find? (VisitRun.endsAt d.now seg) = none →
      exec (.surveyVisitEnd dt seg) s = .next (s.after dt d))
    ∧ (∀ seg r, s.dev.active = true → s.dev.survey.runs.find? (VisitRun.endsAt d.now seg) = some r →
      let left := d.survey.runs.filter fun x => !x.endsAt d.now seg
      (r.spoiled = true → exec (.surveyVisitEnd dt seg) s = .next (s.after dt { d with survey.runs := left }))
      ∧ (r.spoiled = false → seg < s.dev.survey.segs.length →
          let tb := (s.dev.sseg seg).table
          let bins := (List.range (binCount (seg % 4))).map fun i => ((binsOf (seg % 4)).1 + i, surveyPower r.samples ((binsOf (seg % 4)).1 + i))
          let level (p : Nat × Nat) : Int := visitLevel dbNear 10 (surveyBase (seg % 4)) p.1 p.2
          let chans := (List.range tb.count).map fun c => level (channelPower (seg % 4) (tb.start + c * tb.step) tb.width bins)
          ∃ t, exec (.surveyVisitEnd dt seg) s = .next t ∧ t.dev.survey.runs = left
            ∧ (t.dev.sseg seg).visit = some { time := r.start, bins := bins.map fun b => level (b.2, surveyRef)
                                              chans := if tb.count = 0 then none else some chans
                                              flags := bit r.clipped + 2 * bit (r.samples.any (·.sat)), exp := r.exp }
            ∧ (t.dev.sseg seg).table = (s.dev.sseg seg).table ∧ (∀ n, n ≠ seg → t.dev.sseg n = s.dev.sseg n)
            ∧ t.dev.survey.complete = s.dev.survey.complete ||| (1 <<< seg) ∧ t.dev.rf = s.dev.rf
            ∧ ((s.dev.sseg seg).table.feed = false → t.dev.fb = s.dev.fb)))
    ∧ (s.dev.active = true → (d.now) % cycleTicks = 0 → s.dev.survey.began ≠ some (d.now) →
      ∃ t, exec (.surveyCycleBoundary dt) s = .next t ∧ t.dev.survey.cycles = (s.dev.survey.cycles + 1) % 2 ^ 32
        ∧ t.dev.survey.began = some (d.now) ∧ t.dev.survey.complete = 0 ∧ t.dev.survey.clipped = 0
        ∧ ∀ n < s.dev.survey.segs.length, (∀ tb, (s.dev.sseg n).next = some tb → (t.dev.sseg n).table = tb ∧ (t.dev.sseg n).next = none)
            ∧ ((s.dev.sseg n).next = none → t.dev.sseg n = s.dev.sseg n))
    ∧ (s.dev.active = true → s.dev.survey.began = some (d.now) → exec (.surveyCycleBoundary dt) s = .next (s.after dt d))
    ∧ ∀ (q : Req) (e : Dev), q.badHeader = false → e.inWatch = false →
      (let tb : SegTable := { feed := hasBit (q.p8 1) 0, std := q.p8 2, start := q.p32 4, step := q.p16 8, width := q.p16 10
                              count := q.p16 12, fbMin := q.ps16 14 }
       s.admits dt 0x0301 = some (q, e) → q.src = e.proto.owner → q.len = 16 → q.p8 0 ≤ 15 → q.p8 0 / 4 < e.nInputs →
        e.stdUnfitted tb.std = false → q.p8 1 ≤ 1 → q.p8 2 ≤ 4 → q.p8 3 = 0 → 5 ≤ tb.step → tb.step ≤ 20000 → 5 ≤ tb.width → tb.width ≤ 8000 →
        tb.count ≤ 1024 → -200 ≤ tb.fbMin → tb.fbMin ≤ 1400 → stdSuits tb.std (q.p8 0 % 4) = true → tb.outside (q.p8 0 % 4) = false →
        (tb.feed = true → tb.count ≠ 0) →
        exec (.surveyCfg dt) s = .next (s.answered dt q .ok (u64 e.nextCycle) (e.setSseg (q.p8 0) fun x => { x with next := some tb })))
      ∧ (∀ v, s.admits dt 0x0302 = some (q, e) → q.len = 8 → q.p8 0 ≤ 15 → q.p8 0 / 4 < e.nInputs → q.p8 1 = 0 → 1 ≤ q.p16 4 → q.p16 4 ≤ 496 →
        q.p16 2 + q.p16 4 ≤ binCount (q.p8 0 % 4) → zeroAt q.params 6 2 = true → (e.sseg (q.p8 0)).visit = some v →
        let pl := u8 (q.p8 0) ++ u8 (q.p8 1) ++ u8 v.flags ++ s8 v.exp ++ u64 v.time ++ u16 (q.p16 2) ++ u16 (q.p16 4)
          ++ ((v.bins.drop (q.p16 2)).take (q.p16 4)).flatMap s16
        q.fits pl = true → exec (.surveyRead dt) s = .next (s.answered dt q .ok pl e))
      ∧ (s.admits dt 0x0303 = some (q, e) → q.src = e.proto.owner → 16 ≤ q.p8 0 → q.p8 0 ≤ 31 → q.p8 1 ≤ 10 → 1 ≤ q.p8 2 → q.p8 2 ≤ maxTaps (q.p8 1) →
        q.len = 16 + 4 * q.p8 2 → -4 ≤ q.ps8 3 → q.ps8 3 ≤ 7 → (∀ i < 10, -4 ≤ q.ps8 (4 + i) ∧ q.ps8 (4 + i) ≤ 7) →
        (∀ i < 10, q.p8 1 ≤ i → q.ps8 (4 + i) = 0) → q.p8 14 ≤ 2 * (q.p8 2 - 1) → q.p8 15 = 0 →
        (∀ i < q.p8 2, -131072 ≤ q.ps32 (16 + 4 * i) ∧ q.ps32 (16 + 4 * i) ≤ 131071) → e.bankInUse (q.p8 0) = false →
        let b : BankSt := { k := q.p8 1, d := q.p8 14, firShift := q.ps8 3, hbShift := (List.range 10).map fun i => q.ps8 (4 + i)
                            h := (List.range (q.p8 2)).map fun i => q.ps32 (16 + 4 * i) }
        exec (.coefLoad dt) s = .next (s.answered dt q .ok [] { e with chan.banks := tabSet e.chan.banks (q.p8 0) b }))
      ∧ (s.admits dt 0x0304 = some (q, e) → q.len = 4 → 1 ≤ q.p8 1 → q.p8 1 ≤ 32 → q.p8 0 + q.p8 1 ≤ 64 → q.p8 0 + q.p8 1 ≤ e.nSlots →
        zeroAt q.params 2 2 = true →
        let pl := (List.range (q.p8 1)).flatMap fun i => e.slotEntry (q.p8 0 + i)
        q.fits pl = true → exec (.slotStatus dt) s = .next (s.answered dt q .ok pl e))
      ∧ (s.admits dt 0x0305 = some (q, e) → q.src = e.proto.owner → q.len = 4 → q.p8 0 < 64 → q.p8 0 < e.nSlots → q.p8 3 = 0 →
        let b := e.nextBoundary
        let pin (a : Nat) (bank : Nat) : Dev := { e with chan.pins := e.chan.pins ++
          [({ slot := q.p8 0, action := a, ctx := q.ctx, bank := bank, due := b } : PinAct)] }
        (q.p8 1 = 1 → q.p8 2 = 0 → q.ctx = 0xFF → e.slotFg (q.p8 0) = false → (e.stagedPin (q.p8 0)).1 ≠ 2 →
          exec (.slotPin dt) s = .next (s.answered dt q .ok (u64 b) (pin 1 0)))
        ∧ (q.p8 1 = 0 → q.p8 2 = 0 → q.ctx = 0xFF → (e.stagedPin (q.p8 0)).1 ≠ 0 →
            exec (.slotPin dt) s = .next (s.answered dt q .ok (u64 b) (pin 0 0)))
        ∧ (∀ x, q.p8 1 = 2 → q.p8 2 = 0xFF → e.ctx? q.ctx = some x → e.ctxBusy q.ctx = false → x.fg = true → x.stdFixed ≠ 0xFF →
            e.instPinned q.ctx (q.p8 0) = false → (e.stagedPin (q.p8 0)).1 ≠ 2 → e.slotFg (q.p8 0) = false → e.pinExceeds q.ctx = false →
            exec (.slotPin dt) s = .next (s.answered dt q .ok (u64 b) (pin 2 0xFF))))

/-- R396, R398, R399: what one valid window decides. In auto mode the bandwidth index narrows by one above the upper threshold, widens
by one after ten windows below the lower one, and stays within the limit; fixed mode gives its own index; the equaliser needs
sixteen low windows to switch off; a lock changes only after the stated number of consecutive windows. -/
def Obligations.NarrowbandWindowDecides : Prop :=
  ∀ (r : NbRun) (g : NbCfg) (aci hi lo : Int) (mp on : Nat) (good bad : Bool) (up down : Nat),
    let b := r.stepBw g aci hi lo
    let q := r.stepEq g mp on
    let k := r.stepLock good bad up down
    (g.bwMode = 1 → b.bw = g.bw)
    ∧ (g.bwMode ≠ 1 → hi < aci → b.bw = max (min 7 (r.bw + 1)) g.bw ∧ b.lowRun = 0)
    ∧ (g.bwMode ≠ 1 → lo ≤ aci → aci ≤ hi → b.bw = max r.bw g.bw ∧ b.lowRun = 0)
    ∧ (g.bwMode ≠ 1 → aci < lo → aci ≤ hi → r.lowRun < 9 → b.bw = max r.bw g.bw ∧ b.lowRun = r.lowRun + 1)
    ∧ (g.bwMode ≠ 1 → aci < lo → aci ≤ hi → 9 ≤ r.lowRun → b.bw = max (r.bw - 1) g.bw ∧ b.lowRun = 0)
    ∧ (g.eq ≠ 2 → q.eqOn = (g.eq == 1))
    ∧ (g.eq = 2 → r.eqOn = false → q.eqOn = decide (on ≤ mp))
    ∧ (g.eq = 2 → r.eqOn = true → on ≤ mp + 50 → q.eqOn = true ∧ q.eqLow = 0)
    ∧ (g.eq = 2 → r.eqOn = true → mp + 50 < on → r.eqLow < 15 → q.eqOn = true ∧ q.eqLow = r.eqLow + 1)
    ∧ (g.eq = 2 → r.eqOn = true → mp + 50 < on → 15 ≤ r.eqLow → q.eqOn = false)
    ∧ (r.locked = false → good = true → up ≤ r.lockRun + 1 → k.locked = true)
    ∧ (r.locked = false → (good = false ∨ r.lockRun + 1 < up) → k.locked = false)
    ∧ (r.locked = true → bad = true → down ≤ r.lockRun + 1 → k.locked = false)
    ∧ (r.locked = true → (bad = false ∨ r.lockRun + 1 < down) → k.locked = true)
    ∧ b.locked = r.locked ∧ b.eqOn = r.eqOn ∧ q.bw = r.bw ∧ q.locked = r.locked ∧ k.bw = r.bw ∧ k.eqOn = r.eqOn

/-- R404, R408, R414, R415: the rows and commands of chapter 14. A window that is not valid decides nothing; a valid one is kept for
NB_METRICS and steps the bandwidth, unless a host command takes effect at its boundary. A carrier that the search finds moves C. -/
def Obligations.NarrowbandRows : Prop :=
  ∀ (s : State) (dt : Nat), let d := s.dev.tick dt
    (∀ c x, s.dev.active = true → s.dev.nbRuns c = true → s.dev.ctx? c = some x → x.dispatched < d.now →
      (d.now - x.dispatched) % nbWindow = 0 →
      let e := match d.slotOf c with | some n => d.slotTakes n d.now [] | none => d
      let w := (e.nb c).dsp.win (e.stdOf c) d.now (e.nb c).run.locked
      ∃ t, exec (.nbWindowEnd dt c) s = .next t ∧ (t.dev.nb c).cfg = (e.nb c).cfg ∧ t.dev.rf = e.rf ∧ t.dev.proto.q0 = e.proto.q0
        ∧ (w.valid = false → (t.dev.nb c).run.last = (e.nb c).run.last ∧ (t.dev.nb c).run.bw = (e.nb c).run.bw
            ∧ (t.dev.nb c).run.eqOn = (e.nb c).run.eqOn ∧ (t.dev.nb c).run.locked = (e.nb c).run.locked)
        ∧ (w.valid = true → (t.dev.nb c).run.last = some (w, d.now % 2 ^ 32)
          ∧ (e.stdOf c = 0 → (e.nb c).cfgAt ≠ some d.now →
              (t.dev.nb c).run.bw = ((e.nb c).run.stepBw (e.nb c).cfg w.aci (10 * e.ctxProp c P.fmAciHi) (10 * e.ctxProp c P.fmAciLo)).bw)
          ∧ ((e.nb c).cfgAt = some d.now → (t.dev.nb c).run.bw = (e.nb c).run.bw ∧ (t.dev.nb c).run.eqOn = (e.nb c).run.eqOn)))
    ∧ (∀ c, s.dev.active = true → s.dev.nbRuns c = true → s.dev.stdOf c = 1 → (s.dev.nb c).run.coarse = false → d.ctxFlagged c = false →
      (s.dev.nb c).dsp.search.length = 256 →
      (coarseOffset (s.dev.nb c).dsp.search = none → exec (.amCoarseSearchDone dt c) s =
        .next (s.after dt (d.setNb c fun x => { x with dsp := { x.dsp with search := [], pll := {} } })))
      ∧ (∀ n f, coarseOffset (s.dev.nb c).dsp.search = some f → s.dev.slotOf c = some n → s.dev.serviceOf c = none →
          n < s.dev.chan.slots.length → (s.dev.slot n).user.isSome = true → ∃ t, exec (.amCoarseSearchDone dt c) s = .next t
            ∧ (t.dev.nb c).run.coarse = true ∧ (t.dev.nb c).dsp.search = []
            ∧ (t.dev.slot n).c = max (-(2 ^ 22)) (min (2 ^ 22) ((s.dev.slot n).c + corrOf f 1))
            ∧ ∀ m, m ≠ n → t.dev.slot m = s.dev.slot m))
    ∧ ∀ (q : Req) (e : Dev) (x : CtxSt), q.badHeader = false → e.inWatch = false → e.ctx? q.ctx = some x → x.closing = none → e.stdOf q.ctx ≤ 1 →
      (s.admits dt 0x1001 = some (q, e) → q.src = x.owner → q.len = 8 → badNbCfg (e.stdOf q.ctx) q = false →
        exec (.nbCfg dt) s = .next (s.answered dt q .ok (u64 e.nextBoundary) (e.setNb q.ctx fun y => { y with
          next := some ({ bwMode := q.p8 0, bw := q.p8 1, eq := q.p8 2, mode := q.p8 3, blanker := q.p8 4 },
            ((y.next.map fun z => z.2.1).getD 0) ||| q.p8 5, e.nextBoundary) })))
      ∧ (s.admits dt 0x1002 = some (q, e) → q.len = 0 →
        exec (.nbMetrics dt) s = .next (s.answered dt q .ok (e.nbPayload q.ctx) e) ∧ (e.nbPayload q.ctx).length = 48)

/-- R419-R425, R430, R437, R438: the rows and commands of chapter 15. The lock of a stream is gained below 0.1 bit rms of timing error
over 32 bits and lost above 0.2 bit rms or after 24 bits of erasure. The decided bits of a stream are taken one by one until they end
a block. An E block is discarded (and counted with RBDS), two error-free blocks in order at a matching distance synchronise, and a
block at its expected place counts and moves the expectation by 26 bits. -/
def Obligations.RdsRows : Prop :=
  (∀ (s : State) (dt c k : Nat), let d := s.dev.tick dt
    let x := s.dev.rds c
    let u := x.unit k
    (s.dev.active = true → s.dev.rdsRuns c k = true → k < x.units.length →
      (∃ t, exec (.rdsBitLockChange dt c k) s = .next t
        ∧ (u.locked = true → 32 * 2 ^ 32 < 25 * u.dsp.jitter ∨ 24 ≤ u.dsp.run →
            ((t.dev.rds c).unit k).locked = false ∧ ((t.dev.rds c).unit k).lost = (u.lost || !u.blocks.isEmpty))
        ∧ (u.locked = true → 25 * u.dsp.jitter ≤ 32 * 2 ^ 32 → u.dsp.run < 24 → ((t.dev.rds c).unit k).locked = true)
        ∧ (u.locked = false → u.dsp.errs.length = 32 → 100 * u.dsp.jitter < 32 * 2 ^ 32 → u.dsp.run = 0 →
            ((t.dev.rds c).unit k).locked = true)
        ∧ (u.locked = false → 32 * 2 ^ 32 ≤ 100 * u.dsp.jitter → ((t.dev.rds c).unit k).locked = false)
        ∧ ((t.dev.rds c).unit k).sync = u.sync ∧ (t.dev.rds c).cfg = x.cfg)
      ∧ (u.dsp.bits = [] → exec (.rdsBlockDecoded dt c k) s = .next (s.after dt (d.setUnit c k fun u => { u with dsp.bits := [] })))
      ∧ (∀ b rest, u.dsp.bits = b :: rest →
          let y : RdsDsp := { u.dsp with
            pos := u.dsp.pos + 1, win := (2 * u.dsp.win + bit b.v) % 2 ^ 26
            clean := if b.erased then 0 else min 26 (u.dsp.clean + 1), bits := rest }
          let e := d.setUnit c k fun u => { u with dsp := y }
          (u.sync = none → y.clean < 26 → exec (.rdsBlockDecoded dt c k) s = .next (s.after dt (e.rdsTake c k rest)))
          ∧ (∀ o, u.sync = none → y.clean = 26 → offsetIn x.cfg.offsets y.win = some o → exec (.rdsBlockDecoded dt c k) s =
              .next (s.after dt (e.rdsBlock c k y.pos b.t (some o) 0 (y.win / 1024) false)))
          ∧ (∀ pl, u.sync = some (y.pos, pl) → pl < 4 → y.clean < 26 → exec (.rdsBlockDecoded dt c k) s =
              .next (s.after dt (e.rdsBlock c k y.pos b.t none 0 0 true)))
          ∧ (∀ pl o n w, u.sync = some (y.pos, pl) → pl < 4 → y.clean = 26 → offsetIn x.cfg.offsets y.win ≠ some 5 →
              correctBlock (s.dev.ctxPropN c P.rdsCorrMax) (placeOffsets pl) y.win = some (o, n, w) → exec (.rdsBlockDecoded dt c k) s =
              .next (s.after dt (e.rdsBlock c k y.pos b.t (some o) n w false))))
      ∧ (u.group = none → exec (.rdsGroupComplete dt c k) s = .next (s.after dt d))
      ∧ (∀ bs vb lost t0, u.group = some (bs, vb, lost, t0) → ∃ t, exec (.rdsGroupComplete dt c k) s = .next t
          ∧ ((t.dev.rds c).unit k).group = none ∧ (t.dev.rds c).cfg = x.cfg
          ∧ (s.dev.bind? c = none → t.dev.data.queues = s.dev.data.queues)))
    ∧ ∀ (q : Req) (e : Dev) (y : CtxSt), q.badHeader = false → e.inWatch = false → e.ctx? q.ctx = some y → y.closing = none → y.stdFixed = 0 →
      (let g : RdsCfg := { streams := q.p8 0, rbds := q.p8 1, deliver := q.p8 2, flags := q.p8 3, pi := q.p16 4, mask := q.p32 8 }
       s.admits dt 0x1003 = some (q, e) → q.src = y.owner → q.len = 16 → g.streams ≤ 15 → g.rbds ≤ 1 → g.deliver ≤ 2 → g.flags ≤ 3 →
        (hasBit g.flags 0 = false → g.pi = 0) → (g.deliver = 2 ↔ g.mask ≠ 0) → zeroAt q.params 6 2 = true → zeroAt q.params 12 4 = true →
        exec (.rdsCfg dt) s = .next (s.answered dt q .ok (u64 e.nextBoundary) (e.setRds q.ctx fun x => { x with next := some (g, e.nextBoundary) })))
      ∧ (s.admits dt 0x1004 = some (q, e) → q.len = 0 → exec (.rdsStatus dt) s = .next (s.answered dt q .ok (e.rdsPayload q.ctx) e)))
  ∧ (∀ (d : Dev) (c k pos t : Nat), let x := d.rds c
    let u := x.unit k
    (∀ burst w er, x.cfg.rbds = 0 → d.rdsBlock c k pos t (some 5) burst w er = d)
    ∧ (hasBit x.cfg.flags 0 = false → u.sync = none →
      (∀ w, x.cfg.rbds ≠ 0 → d.rdsBlock c k pos t (some 5) 0 w false = d.setRds c fun x => { x with eBlocks := satAdd 0xFFFF x.eBlocks 1 })
      ∧ (∀ o w, o < 5 → u.found = [] → d.rdsBlock c k pos t (some o) 0 w false =
          d.setUnit c k fun u => { u with found := (pos, offsetPlace o) :: u.found })
      ∧ (∀ o w, o < 5 → k < x.units.length → u.warm = (0, 0) → u.found = [(pos - 26, (offsetPlace o + 3) % 4)] → 26 ≤ pos →
          (((d.rdsBlock c k pos t (some o) 0 w false).rds c).unit k).sync = some (pos + 26, (offsetPlace o + 1) % 4)))
    ∧ (∀ pl burst w, u.sync = some (pos, pl) → pl < 4 → k < x.units.length → u.warm = (0, 0) →
      ((true :: u.errs).take 50 |>.filter id).length ≤ d.ctxPropN c P.rdsSyncLoss →
        let e := d.rdsBlock c k pos t none burst w false
        ((e.rds c).unit k).sync = some (pos + 26, (pl + 1) % 4) ∧ (e.rds c).uncorrectable = satAdd 0xFFFFFFFF x.uncorrectable 1
          ∧ (e.rds c).corrected = x.corrected
          ∧ (e.rds c).groups = (if pl = 3 ∧ u.blocks.length = 3 then satAdd 0xFFFFFFFF x.groups 1 else x.groups)))

/-- R442-R446, R449, R451, R454, R457-R459, R462, R463: the rows of chapter 16. A null starts the acquisition, a phase reference symbol whose
path is found begins a frame, and one whose path is not found during the acquisition ends it (in step, the path stays where it was); so many frames without null or good FIB
return the instance to state 0 with its database kept. -/
def Obligations.DabRows : Prop :=
  ∀ (s : State) (dt : Nat), s.dev.active = true →
    let d := s.dev.tick dt
    (∀ n, s.dev.instRuns n = true →
      let y := s.dev.dabInst n
      (∃ t, exec (.dabNullDetected dt n) s = .next t ∧ (∀ m, m ≠ n → t.dev.dabInst m = s.dev.dabInst m)
        ∧ (∀ p, y.sync = 0 → y.dsp.lead.findNull = some p → (t.dev.dabInst n).sync = 1 ∧ (t.dev.dabInst n).nullSeen = true)
        ∧ (y.sync = 0 → y.dsp.lead.findNull = none → t.dev.dabInst n = y)
        ∧ (y.sync ≠ 0 → (t.dev.dabInst n).sync = y.sync ∧ (t.dev.dabInst n).dsp = y.dsp))
      ∧ ((y.sync = 0 → exec (.dabPrsProcessed dt n) s = .next (s.after dt d))
        ∧ (∀ w k, 1 ≤ y.sync → y.dsp.win = some w → (s.dev.inst? n).bind (·.slot) = some k → y.dsp.next = 0 →
            y.dsp.branches.all (·.has w dabUseful) = true →
            (y.sync < 3 → y.dsp.prs true w = none → exec (.dabPrsProcessed dt n) s =
              .next (s.after dt (d.setDabInst n fun x => { x with sync := 0, nullSeen := false, dsp := { x.dsp with win := none } })))
            ∧ ((y.sync < 3 → y.dsp.prs true w ≠ none) →
              let p := (y.dsp.prs (decide (y.sync < 3)) w).getD (0, 0, y.spread)
              ∃ t, exec (.dabPrsProcessed dt n) s = .next t
              ∧ (t.dev.dabInst n).sync = max y.sync 3 ∧ (t.dev.dabInst n).spread = (p.2.2 - p.2.1).toNat
              ∧ (t.dev.dabInst n).frameTime = (d.standsFor (d.slot k) ((((y.dsp.lead.span (w - dabLead) 1).head?).map (·.t)).getD 0)
                  + 512 * (p.2.1 - dabNull)).toNat ∧ (t.dev.dabInst n).conf = y.conf)))
      ∧ (let limit := s.dev.ctxPropN (s.dev.anchorOf n) P.dabLossFrames
         (y.sync = 0 ∨ (y.nullMiss < limit ∧ y.fibMiss < limit) → exec (.dabSyncLoss dt n) s = .next (s.after dt d))
         ∧ (y.sync ≠ 0 → (limit ≤ y.nullMiss ∨ limit ≤ y.fibMiss) → ∃ t, exec (.dabSyncLoss dt n) s = .next t
            ∧ (t.dev.dabInst n).sync = 0 ∧ (t.dev.dabInst n).resyncs = satAdd 0xFFFF y.resyncs 1 ∧ (t.dev.dabInst n).conf = y.conf
            ∧ t.dev.chan = s.dev.chan))
      ∧ (∀ bytes figs, 3 ≤ y.sync → ∃ t, exec (.dabFibDecoded dt n false bytes figs) s = .next t ∧ t.dev.dabInst n = { y with
            fibs := (match y.fibs with | (a, b) :: t => (a, b + 1) :: t | [] => [(0, 1)]), fibsBad := satAdd 0xFFFFFFFF y.fibsBad 1 })
      ∧ (∀ bytes, 3 ≤ y.sync → ∃ t, exec (.dabFibDecoded dt n true bytes []) s = .next t ∧ (t.dev.dabInst n).sync = 4
            ∧ (t.dev.dabInst n).fibs = (match y.fibs with | (a, b) :: t => (a + 1, b + 1) :: t | [] => [(1, 1)])
            ∧ (t.dev.dabInst n).recent = (padTo 32 bytes :: y.recent).take 12 ∧ (t.dev.dabInst n).fibMiss = 0
            ∧ (t.dev.dabInst n).fibsBad = y.fibsBad ∧ (t.dev.dabInst n).conf = y.conf)
      ∧ (¬ (y.sync = 4 ∧ y.complete = false ∧ 10 ≤ y.quiet ∧ y.conf.referenced = true) →
          exec (.dabDatabaseComplete dt n) s = .next (s.after dt d))
      ∧ (y.sync = 4 → y.complete = false → 10 ≤ y.quiet → y.conf.referenced = true → ∃ t, exec (.dabDatabaseComplete dt n) s = .next t
          ∧ (t.dev.dabInst n).complete = true ∧ (t.dev.dabInst n).conf = y.conf))
    ∧ (s.dev.dem.insts = [] → exec (.dabAnnouncementTimeout dt) s = .next (s.after dt d))
    ∧ (∀ n y, s.dev.dem.insts = [(n, y)] → (∀ k ∈ y.clusters, k.at_ + 16000 * roundTicks ≤ d.now) →
      ∃ t, exec (.dabAnnouncementTimeout dt) s = .next t ∧ (t.dev.dabInst n).clusters = [])
    ∧ (∀ c, s.dev.dabDecodes c = true →
      (∀ n sub k cif bytes ber, s.dev.instOf c = some n → (s.dev.dabInst n).change = none → (s.dev.dab c).decode = some (sub, k) →
        (s.dev.dab c).restart = none → s.dev.kindOf c ≠ 5 → exec (.dabCifDecoded dt c cif bytes ber) s =
          .next (s.after dt ((d.setDabInst n fun x => { x with cif := cif % 5000 }).setDab c fun x =>
            { x with decode := some (sub, k + 1), restart := none, ber := ber })))
      ∧ (∀ ok, s.dev.dabAudio c false = true → exec (.dabLayer2Frame dt c ok) s = .next (s.after dt (d.setDab c fun x =>
          if ok then { x with plus := some false }
          else { x with lost := satAdd 0xFFFFFFFF x.lost 1, auErr := satAdd 0xFFFFFFFF x.auErr 1 })))
      ∧ (∀ pass n f aus, s.dev.dabAudio c true = true → exec (.dabSuperframe dt c pass n f aus) s =
          .next (s.after dt (d.setDab c fun x => x.superframe pass n f aus)))
      ∧ (∀ x addr crc bytes, s.dev.dab c = x → x.decode.isSome = true → s.dev.bind? c = none →
          exec (.dabPacketDataGroup dt c addr false crc bytes) s = .next (s.after dt d))
      ∧ (∀ b sub k r l addr crc bytes, (s.dev.dab c).decode = some (sub, k) → s.dev.bind? c = some b → b.mot = false → bytes ≠ [] →
          (s.dev.dab c).res = some r → (s.dev.dab c).sel = some l → r.typ = 3 → r.addr = some addr →
          exec (.dabPacketDataGroup dt c addr false crc bytes) s =
            .next (s.after dt (d.enqueue b.queue c ((groupRecords sub.id addr crc bytes).map (recordOf 0x22 c (d.now)))))))

/-- R478-R482, R485, R487, R490, R493-R495, R497: the rows of chapter 17. The three steps of the
acquisition go on with what the samples show and fall back where they show nothing; a FAC reports the frame that is complete. -/
def Obligations.DrmRows : Prop :=
  ∀ (s : State) (dt c : Nat), s.dev.active = true →
    let d := s.dev.tick dt
    let x := s.dev.drm c
    (s.dev.drmRuns c = true →
      (x.sync = 0 → (x.dsp.lead.findMode (s.dev.drmModes c) = none → exec (.drmModeFound dt c) s = .next (s.after dt d))
        ∧ ∃ t, exec (.drmModeFound dt c) s = .next t ∧ t.dev.chan = s.dev.chan
          ∧ match x.dsp.lead.findMode (s.dev.drmModes c) with
            | some (m, n, _) => (t.dev.drm c).sync = 1 ∧ (t.dev.drm c).mode = some m ∧ (t.dev.drm c).dsp.win = some (n + 1)
            | none => t.dev.drm c = x)
      ∧ (x.sync = 1 → (x.dsp.win.bind fun w => x.dsp.lead.integerShift (x.mode.getD 0) x.cells w x.dsp.freqs) = none →
          exec (.drmFrequencyFound dt c) s = .next (s.after dt (d.setDrm c fun x => { x with
            sync := 0, mode := none, dsp := { x.dsp with win := none } })))
      ∧ (∀ w, x.sync = 1 → x.dsp.win = some w → ∃ t, exec (.drmFrequencyFound dt c) s = .next t
          ∧ match x.dsp.lead.integerShift (x.mode.getD 0) x.cells w x.dsp.freqs with
            | none => (t.dev.drm c).sync = 0 ∧ (t.dev.drm c).mode = none ∧ t.dev.chan = s.dev.chan
            | some k =>
              let off := mhzOf (x.mode.getD 0) (x.dsp.frac + openDiv (k * 2 ^ 32) (drmTu (x.mode.getD 0)))
              (t.dev.drm c).sync = 2 ∧ (t.dev.drm c).mode = x.mode
              ∧ (d.ctxFlagged c = true → (t.dev.drm c).residual = off ∧ t.dev.chan = s.dev.chan)
              ∧ (∀ n, d.ctxFlagged c = false → s.dev.slotOf c = some n → s.dev.serviceOf c = none → n < s.dev.chan.slots.length →
                (s.dev.slot n).user.isSome = true →
                (t.dev.slot n).c = max (-(2 ^ 22)) (min (2 ^ 22) ((s.dev.slot n).c + corrOf off 1))))
      ∧ (x.sync = 2 → x.dsp.win.isSome = true →
          let freqs := if x.dsp.freqs.isEmpty then [(x.dsp.lead.base, turnsOf (x.residual - d.drmShift c) (drmRate (x.mode.getD 0)))]
            else x.dsp.freqs
          let found := x.dsp.win.bind fun w => x.dsp.lead.frameStart (x.mode.getD 0) x.cells w freqs
          (found = none → exec (.drmFrameFound dt c) s = .next (s.after dt (if x.warm then d.setDrm c fun x => { x with
            sync := 0, mode := none, dsp := { x.dsp with win := none } } else d)))
          ∧ ∃ t, exec (.drmFrameFound dt c) s = .next t ∧ match found with
            | none => (t.dev.drm c).facMiss = x.facMiss
            | some a => (t.dev.drm c).sync = 3 ∧ (t.dev.drm c).facMiss = 0 ∧ (t.dev.drm c).facs = [] ∧ (t.dev.drm c).mode = x.mode
              ∧ (t.dev.drm c).frameTime = (d.drmStands c ((((x.dsp.lead.span (a - drmTg (x.mode.getD 0)) 1).head?).map (·.t)).getD 0)).toNat)
      ∧ ((x.sync = 0 ∨ x.facMiss < s.dev.ctxPropN c P.drmLossFrames) → exec (.drmSyncLoss dt c) s = .next (s.after dt d))
      ∧ (x.sync ≠ 0 → s.dev.ctxPropN c P.drmLossFrames ≤ x.facMiss → ∃ t, exec (.drmSyncLoss dt c) s = .next t
          ∧ t.dev.drm c = { x with
              sync := 0, facMiss := 0, modeRun := 0, facs := [], resyncs := satAdd 0xFFFF x.resyncs 1
              dsp := { x.dsp with win := none, full := false, sym := 0, errs := [], freqs := [] } }
          ∧ t.dev.chan = s.dev.chan)
      ∧ (∀ fac, 3 ≤ x.sync → x.dsp.full = true → let frm := x.dsp.frame (d.drmPar c false fac)
          ∃ t, exec (.drmFacDecoded dt c false fac) s = .next t
          ∧ (t.dev.drm c).facBad = satAdd 0xFFFFFFFF x.facBad 1 ∧ (t.dev.drm c).sync = x.sync ∧ (t.dev.drm c).fac = x.fac
          ∧ (t.dev.drm c).frameTime = (d.drmStands c frm.began).toNat ∧ (t.dev.drm c).hold = frm.flagged
          ∧ (t.dev.drm c).facMiss = (if frm.flagged then x.facMiss else x.facMiss + 1))
      ∧ (∀ fac, 3 ≤ x.sync → x.dsp.full = true → x.mode = some fac.mode → let frm := x.dsp.frame (d.drmPar c true fac)
          ∃ t, exec (.drmFacDecoded dt c true fac) s = .next t ∧ (t.dev.drm c).sync = max x.sync 4 ∧ (t.dev.drm c).facMiss = 0
          ∧ (t.dev.drm c).fac = some fac ∧ (t.dev.drm c).facBad = x.facBad ∧ (t.dev.drm c).mer = frm.mer ∧ (t.dev.drm c).wmer = frm.wmer
          ∧ (t.dev.drm c).level = frm.level)
      ∧ (∀ sdc, 4 ≤ x.sync → exec (.drmSdcDecoded dt c false sdc) s =
          .next (s.after dt (d.setDrm c fun x => { x with sdcBad := satAdd 0xFFFFFFFF x.sdcBad 1 })))
      ∧ (∀ sdc, 4 ≤ x.sync → ∃ t, exec (.drmSdcDecoded dt c true sdc) s = .next t ∧ (t.dev.drm c).sync = 5
          ∧ (t.dev.drm c).sdcAt = d.now ∧ (t.dev.drm c).utc = sdc.utc.getD x.utc ∧ (t.dev.drm c).sdcBad = x.sdcBad
          ∧ (sdc.alarm.isSome = x.alarm → (t.dev.drm c).alarm = x.alarm)
          ∧ (sdc.alarm.isSome ≠ x.alarm → x.alarmRun ≠ 0 → (t.dev.drm c).alarm = !x.alarm)))
    ∧ (s.dev.dem.drm = [] → exec (.drmAlarmSdcTimeout dt) s = .next (s.after dt d))
    ∧ (s.dev.dem.drm = [(c, x)] → s.dev.drmRuns c = true → x.alarm = true →
      x.sdcAt + s.dev.ctxPropN c P.drmLossFrames * (if s.dev.stdOf c = 4 then 3200 else 9600) * roundTicks ≤ d.now →
      ∃ t, exec (.drmAlarmSdcTimeout dt) s = .next t ∧ t.dev.drm c = { x with alarm := false, alarmRun := 0 })
    ∧ (s.dev.drmDecodes c = true →
      exec (.drmMscFrameDecoded dt c) s = .next (s.after dt (d.setDrm c fun x => { x with decode := true }))
      ∧ (x.decode = true →
        (∀ aus ok, s.dev.kindOf c = 4 → exec (.drmAudioSuperframe dt c ok aus) s = .next (s.after dt (d.setDrm c fun x =>
          if ok then { x with auErr := satAdd 0xFFFFFFFF x.auErr (aus.filter (!·)).length }
          else { x with lost := satAdd 0xFFFFFFFF x.lost 1 })))
        ∧ (∀ tg bytes, s.dev.kindOf c = 4 → hasBit x.cfg.deliver 0 = true → 1 ≤ bytes.length → bytes.length ≤ 128 →
            (x.text = some (tg, bytes) → exec (.drmTextMessageComplete dt c tg bytes) s = .next (s.after dt d))
            ∧ (x.text ≠ some (tg, bytes) → s.dev.bind? c = none → exec (.drmTextMessageComplete dt c tg bytes) s =
                .next (s.after dt (d.setDrm c fun x => { x with text := some (tg, bytes) }))))
        ∧ (∀ r b bytes, x.res = some r → s.dev.kindOf c = 6 → s.dev.bind? c = some b → b.mot = false →
            exec (.drmDataUnit dt c true bytes) s = .next (s.after dt (d.enqueue b.queue c [recordOf 0x31 c (d.now)
              (u32 r.sid ++ u8 r.short ++ u8 r.stream ++ u8 (r.packet.getD 0xFF) ++ u8 0 ++ u16 r.app ++ bytes)])))
        ∧ (∀ bytes, exec (.drmDataUnit dt c false bytes) s = .next (s.after dt d))))

/-- R468-R471, R500-R502: the commands of chapters 16 and 17. -/
def Obligations.DigitalReceptionCommands : Prop :=
  ∀ (s : State) (dt : Nat) (q : Req) (e : Dev) (x : CtxSt), q.badHeader = false → e.inWatch = false → e.ctx? q.ctx = some x → x.closing = none →
    let c := q.ctx
    (x.stdFixed = 2 →
      (s.admits dt 0x1101 = some (q, e) → q.src = x.owner → q.len = 8 → q.p8 6 ≤ 3 → q.p8 7 = 0 → exec (.dabEnsemble dt) s =
        .next (s.answered dt q .ok (e.dabEnsPayload c) (e.setDab c fun y => { y with
          figNext := some ((q.p32 0, q.p8 4, q.p8 5, q.p8 6), e.nextBoundary) })))
      ∧ (s.admits dt 0x1102 = some (q, e) → q.src = x.owner → q.len = 8 → (x.kind = 3 ∨ x.kind = 5) → q.p8 5 = 0 → q.p8 6 = 0 → q.p8 7 = 0 →
        let put (sel : Option DabSel) (told : Bool) : Dev := e.setDab c fun y => { y with selNext := some (sel, e.nextBoundary), told := told }
        let y := match x.inst with | some n => e.dabInst n | none => ({} : DabInst)
        let sel : DabSel := { sid := q.p32 0, flags := 0, scids := 0, subch := 0 }
        (q.p32 0 = 0 → q.p8 4 = 0 → exec (.dabServiceSelect dt) s = .next (s.answered dt q .ok [] (put none false)))
        ∧ (∀ r, q.p8 4 = 0 → q.p32 0 ≠ 0 → q.p32 0 ≤ 0xFFFFFF → sel.resolve x.kind y.ecc y.conf = .ok r →
            exec (.dabServiceSelect dt) s = .next (s.answered dt q .ok r.bytes (put (some sel) true)))
        ∧ (∀ why, q.p8 4 = 0 → q.p32 0 ≠ 0 → q.p32 0 ≤ 0xFFFFFF → sel.resolve x.kind y.ecc y.conf = .error why →
            (why ≠ 3 → exec (.dabServiceSelect dt) s = .next (s.answered dt q .deferred [] (put (some sel) false)))
            ∧ (why = 3 → exec (.dabServiceSelect dt) s = .next (s.answered dt q .noEngine [] e))))
      ∧ (∀ n, s.admits dt 0x1103 = some (q, e) → q.len = 4 → x.inst = some n → q.p8 0 ≤ 3 → q.p8 3 = 0 → 1 ≤ q.p8 2 → q.p8 2 ≤ 31 →
        let l := (e.dabInst n).dump (q.p8 0)
        let sent := (l.drop (q.p8 1)).take (q.p8 2)
        let pl := u8 (q.p8 0) ++ u8 l.length ++ u8 (q.p8 1) ++ u8 sent.length ++ u16 (e.dabInst n).cif ++ zeros 2 ++ sent.flatten
        q.p8 1 ≤ l.length → q.fits pl = true → exec (.dabFicDump dt) s = .next (s.answered dt q .ok pl e))
      ∧ (s.admits dt 0x1104 = some (q, e) → q.len = 0 → exec (.dabMetrics dt) s = .next (s.answered dt q .ok (e.dabPayload c) e)))
    ∧ (e.isDrm c = true → e.hasDrm = true →
      (s.admits dt 0x1201 = some (q, e) → q.src = x.owner → q.len = 4 → q.p8 0 ≤ 15 → (e.stdOf c = 3 → q.p8 0 ≠ 0) → (e.stdOf c = 4 → q.p8 0 = 0) →
        q.p8 1 ≤ 3 → (x.kind = 6 → hasBit (q.p8 1) 1 = false) → q.p8 2 ≤ 1 → q.p8 3 = 0 → exec (.drmCfg dt) s =
          .next (s.answered dt q .ok (u64 e.nextBoundary) (e.setDrm c fun y => { y with next := some ({ modes := q.p8 0, deliver := q.p8 1 },
            ((y.next.map fun z => z.2.1).getD 0) ||| q.p8 2, e.nextBoundary) })))
      ∧ (s.admits dt 0x1202 = some (q, e) → q.src = x.owner → q.len = 8 → (x.kind = 4 ∨ x.kind = 6) → q.p8 5 = 0 → zeroAt q.params 6 2 = true →
        let y := e.drm c
        let fl := if x.kind = 4 then 0 else 1
        let put (sel : Option (Nat × Nat × Nat)) (told : Bool) : Dev := e.setDrm c fun y =>
          { y with selNext := some (sel, e.nextBoundary), told := told }
        (q.p32 0 = 0 → q.p8 4 = 0 → exec (.drmServiceSelect dt) s = .next (s.answered dt q .ok [] (put none false)))
        ∧ (∀ r, q.p8 4 = fl → q.p32 0 ≠ 0 → q.p32 0 ≤ 0xFFFFFF → drmResolve x.kind y.fac y.servs (q.p32 0, fl, 0) = .ok r →
            exec (.drmServiceSelect dt) s = .next (s.answered dt q .ok (drmServBytes r) (put (some (q.p32 0, fl, 0)) true)))
        ∧ (∀ why, q.p8 4 = fl → q.p32 0 ≠ 0 → q.p32 0 ≤ 0xFFFFFF → drmResolve x.kind y.fac y.servs (q.p32 0, fl, 0) = .error why →
            exec (.drmServiceSelect dt) s = .next (s.answered dt q .deferred [] (put (some (q.p32 0, fl, 0)) false))))
      ∧ (s.admits dt 0x1203 = some (q, e) → q.len = 0 → exec (.drmMetrics dt) s = .next (s.answered dt q .ok (e.drmPayload c) e)))

/-- R522-R524, R528, R535-R540, R555: the commands of chapter 18 and the row and commands of the Field Book. Every change is accepted
for the next boundary (CMB_CFG: for the first at least one Round ahead) and nothing changes before it. -/
def Obligations.CombinerAndFieldBook : Prop :=
  ∀ (s : State) (dt : Nat), let d := s.dev.tick dt
    (s.dev.active = true →
      (s.dev.propN P.fbEvtRounds = 0 ∨ s.dev.fb.changedAt ≠ some (d.now) → exec (.fbChangedReport dt) s = .next (s.after dt d))
      ∧ (∀ t0, s.dev.fb.eventAt = some t0 → d.now < t0 + s.dev.propN P.fbEvtRounds * roundTicks →
          exec (.fbChangedReport dt) s = .next (s.after dt d))
      ∧ (s.dev.propN P.fbEvtRounds ≠ 0 → s.dev.fb.changedAt = some (d.now) → s.dev.fb.eventAt = none →
          ∃ t, exec (.fbChangedReport dt) s = .next t ∧ t.dev.fb = { s.dev.fb with
            created := 0, freed := 0, updated := 0, eventAt := some (d.now) }))
    ∧ ∀ (q : Req) (e : Dev), q.badHeader = false → e.inWatch = false →
      let accepted (c : FbCmd) : Dev := { e with fb.cmds := e.fb.cmds ++ [(e.nextBoundary, c)] }
      let page (first count : Nat) (f : Nat × FbEntry → List Byte) : List Byte :=
        let sent := (e.fb.entries.filter (first ≤ ·.1)).take count
        let next := if sent.length < count then 0xFFFF else match sent.getLast? with
          | some (h, _) => if h = 8191 then 0xFFFF else h + 1
          | none => 0xFFFF
        u8 sent.length ++ u8 0 ++ u16 next ++ u32 e.fb.gen ++ sent.flatMap f
      let src := q.src.fbBit
      (s.admits dt 0x0401 = some (q, e) → q.len = 20 → q.p8 0 = 0xFF → q.p8 1 = 0 → q.p16 2 ≤ 8191 → 1 ≤ q.p8 4 → q.p8 4 ≤ 28 →
        zeroAt q.params 5 15 = true →
        let pl := page (q.p16 2) (q.p8 4) fun x => u16 x.1 ++ x.2.bytesWith x.2.seen
        q.fits pl = true → exec (.fbQuery dt) s = .next (s.answered dt q .ok pl e))
      ∧ (s.admits dt 0x0404 = some (q, e) → q.len = 4 → q.p16 0 ≤ 8191 → 1 ≤ q.p8 2 → q.p8 2 ≤ 29 → q.p8 3 = 0 →
        let pl := page (q.p16 0) (q.p8 2) fun x => u16 x.1 ++ x.2.bytesWith (x.2.age e.now)
        q.fits pl = true → exec (.fbExport dt) s = .next (s.answered dt q .ok pl e))
      ∧ (q.src = e.proto.owner →
        (let b := slice q.params 4 32
         s.admits dt 0x0402 = some (q, e) → q.len = 36 → e.imageUnfitted b = false → (q.p16 0 ≤ 8191 ∨ q.p16 0 = 0xFFFF) → q.p8 2 ≤ 2 →
          q.p8 3 = 0 → putZeroBad b = false → fbFieldBad b = false → (at16 b 12 = 0 ∨ 0x8000 ≤ at16 b 12) →
          let r := e.fbStaged.fbPut (q.p16 0) (q.p8 2) b src
          (r.1 = .ok → exec (.fbPut dt) s =
            .next (s.answered dt q .ok (u16 r.2.1 ++ u8 r.2.2.1 ++ u8 0) (accepted (.put (q.p16 0) (q.p8 2) b src))))
          ∧ (r.1 = .wrongState → exec (.fbPut dt) s = .next (s.answered dt q .wrongState [] e))
          ∧ (r.1 = .noPages → exec (.fbPut dt) s = .next (s.answered dt q .noPages [] e)))
        ∧ (s.admits dt 0x0403 = some (q, e) → q.len = 4 → q.p16 0 ≤ 8191 → q.p8 2 ≤ 2 → q.p8 3 = 0 →
          (q.p8 2 = 0 → (e.fbStaged.fbe (q.p16 0)).isSome = true → exec (.fbDrop dt) s = .next (s.answered dt q .ok [] (accepted (.drop (q.p16 0) 0))))
          ∧ (q.p8 2 = 0 → e.fbStaged.fbe (q.p16 0) = none → exec (.fbDrop dt) s = .next (s.answered dt q .wrongState [] e))
          ∧ (q.p8 2 ≠ 0 → q.p16 0 = 0 → exec (.fbDrop dt) s = .next (s.answered dt q .ok [] (accepted (.drop 0 (q.p8 2))))))
        ∧ (s.admits dt 0x0405 = some (q, e) → 1 ≤ q.p8 0 → q.p8 0 ≤ 31 → q.len = 4 + 32 * q.p8 0 → zeroAt q.params 1 3 = true →
          let l := entriesOf 32 (q.params.drop 4)
          exec (.fbImport dt) s = .next (s.answered dt q .ok
            ((List.range 32).flatMap fun j => u8 ((e.fbStaged.fbImport l src e.now).1.getD j 0xFF)) (accepted (.import_ l src e.now))))
        ∧ (s.admits dt 0x1301 = some (q, e) → q.len = 8 + 8 * q.p8 2 → q.p8 2 ≤ 7 → q.p8 0 ≤ 7 → q.p32 4 = 0 →
          let bs := q.branches.map branchOf
          let act (anchor : Option Nat) : CmbAct := { service := q.p8 0, anchor := anchor, latency := q.p8 3, branches := bs
                                                      due := boundaryAt (e.now + 65536) }
          let staged (a : Option Nat) : Dev := { e with comb.acts := e.comb.acts ++ [act a] }
          (q.p8 1 = 1 → q.ctx = 0xFF → q.p8 2 = 0 → q.p8 3 = 0 → (e.cmbAnchor (q.p8 0)).isSome = true →
            ((List.range 8).map (staged none).cmbCount).sum ≤ 32 →
            exec (.cmbCfg dt) s = .next (s.answered dt q .ok (u64 (boundaryAt (e.now + 65536))) (staged none)))
          ∧ (∀ x, q.p8 1 = 0 → q.ctx ≠ 0xFF → e.ctx? q.ctx = some x → x.closing = none → x.fg = true → x.tuning.isSome = true →
            anchorKind x.kind = true → q.branches.any branchBad = false → 1 ≤ q.p8 3 → q.p8 3 ≤ 8 → (∀ b ∈ bs, b.remote = false) →
            (∀ b ∈ bs, b.source < e.nInputs ∧ e.inputOf q.ctx ≠ some b.source) → (bs.map (·.source)).Nodup →
            (∀ k < 8, k ≠ q.p8 0 → e.cmbAnchor k ≠ some q.ctx) → (e.cmbAnchor (q.p8 0) = none ∨ e.cmbAnchor (q.p8 0) = some q.ctx) →
            (staged (some q.ctx)).fgSlots e.ledger ≤ min 48 e.nSlots → ((List.range 8).map (staged (some q.ctx)).cmbCount).sum ≤ 32 →
            exec (.cmbCfg dt) s = .next (s.answered dt q .ok (u64 (boundaryAt (e.now + 65536))) (staged (some q.ctx))))))
      ∧ (s.admits dt 0x1302 = some (q, e) → q.len = 4 → q.p8 0 ≤ 7 → zeroAt q.params 1 3 = true →
        (tabGet e.comb.services (q.p8 0) = none → exec (.cmbStatus dt) s = .next (s.answered dt q .wrongState [] e))
        ∧ (∀ x, tabGet e.comb.services (q.p8 0) = some x → exec (.cmbStatus dt) s = .next (s.answered dt q .ok
            (u8 (q.p8 0) ++ u8 x.anchor ++ u8 (e.stdOf x.anchor) ++ u8 x.branches.length ++ u8 x.latency
              ++ u8 (x.branches.filter (·.state == .active)).length ++ s16 (e.cmbQuality x.anchor) ++ u32 (cmbDelay (e.stdOf x.anchor) x.latency)
              ++ u32 x.boundary ++ padTo 128 ((indexed x.branches).flatMap fun y => y.2.entry y.1)) e)))

/-- R532-R534, R538: what the Field Book never removes: the sweep keeps a pinned or tuned entry and touches only its 128 handles, a
replacement never takes a pinned or tuned entry, and FB_DROP of everything unpinned keeps every pinned one. -/
def Obligations.FieldBookKeeps : Prop :=
  ∀ (d : Dev),
    (∀ x ∈ d.fb.entries, (x.2.pinned = true ∨ x.2.tuned = true ∨ x.1 < d.fb.sweep ∨ d.fb.sweep + 128 ≤ x.1) →
      ∃ y ∈ d.fbSweep.fb.entries, y.1 = x.1 ∧ y.2.id = x.2.id ∧ y.2.freq = x.2.freq ∧ y.2.pinned = x.2.pinned)
    ∧ (∀ x ∈ d.fb.entries, x.1 < d.fb.sweep ∨ d.fb.sweep + 128 ≤ x.1 → x ∈ d.fbSweep.fb.entries)
    ∧ (∀ id h x, d.fbVictim id = some h → (h, x) ∈ d.fb.entries → (d.fb.entries.map (·.1)).Nodup → x.pinned = false ∧ x.tuned = false
        ∧ ¬ (id = 0 ∧ x.id ≠ 0))
    ∧ (∀ h x, x ∈ (d.fbDrop h 1).fb.entries ↔ x ∈ d.fb.entries ∧ x.2.pinned = true)
    ∧ (∀ h x, x ∈ (d.fbDrop h 0).fb.entries ↔ x ∈ d.fb.entries ∧ x.1 ≠ h)

/-- R544-R553: the rows and commands of Service Following. -/
def Obligations.FollowRows : Prop :=
  ∀ (s : State) (dt p : Nat), s.dev.active = true →
    let d := s.dev.tick dt
    let x := s.dev.prog p
    (s.dev.grp? p = none → exec (.followEvaluation dt p) s = .next (s.after dt d))
    ∧ (∀ g, s.dev.grp? p = some g → d.now < g.evalAt + s.dev.propN P.followEval * roundTicks →
          exec (.followEvaluation dt p) s = .next (s.after dt d))
    ∧ (∀ g, s.dev.grp? p = some g → g.evalAt + s.dev.propN P.followEval * roundTicks ≤ d.now →
          (x.fading.isSome = true ∨ x.blend.any (·.manual) = true) →
          let sc := s.dev.scores p g
          let e : Dev := { d with dem.live := d.dem.live.filter fun y => y.1 != g.onAir && !g.set.contains y.1 }
          exec (.followEvaluation dt p) s = .next (s.after dt (e.setGrp p fun y => { y with
            evalAt := d.now, sAir := sc.1, sPartner := sc.2, zero := if sc.1 = 0 then g.zero + 1 else 0
            confirm := if s.dev.partnerReady p && sc.1 + s.dev.propN P.followHyst ≤ sc.2 then g.confirm + 1 else 0 })))
    ∧ (∀ g, s.dev.grp? p = some g → g.evalAt + s.dev.propN P.followEval * roundTicks ≤ d.now →
          ∃ t g', exec (.followEvaluation dt p) s = .next t ∧ t.dev.grp? p = some g' ∧ g'.evalAt = d.now
            ∧ (g'.sAir, g'.sPartner) = s.dev.scores p g ∧ g'.onAir = g.onAir ∧ g'.mode = g.mode
            ∧ (g.mode ≠ 2 → g'.switchDue = g.switchDue))
    ∧ (∀ b t0, p < s.dev.audio.progs.length → x.fading = none → x.blend = some b → b.mismatched = false → b.ready = false →
      b.relAt = some t0 → t0 + msec 2000 ≤ d.now → b.measAt = none →
      exec (.followAlignMeasurement dt p) s = .next (s.after dt (d.alignMeasure p (d.lagOf p b).1 (d.lagOf p b).2))
      ∧ ∀ lag, d.alignMeasure p lag false = (d.rebase p).setBlend p (fun y => { y with measAt := some d.now, lastLag := none })
        ∧ ∀ l, b.lastLag = some l → (lag - l).natAbs ≤ 1 → b.lag = none → lag ≤ 144000 → b.manual = true →
          d.alignMeasure p lag true = (d.rebase p).setBlend p fun y =>
            { y with measAt := some d.now, lastLag := some lag, lag := some lag, drift := lag - l })
    ∧ (∀ b t0, p < s.dev.audio.progs.length → x.fading = none → x.blend = some b → b.mismatched = false → b.lag = none → b.runAt = some t0 →
      t0 + msec 10000 ≤ d.now →
      (b.manual = false → ∃ t, exec (.followAlignTimeout dt p) s = .next t ∧ (t.dev.prog p).blend = some { b with mismatched := true }
        ∧ (t.dev.prog p).src = x.src)
      ∧ (b.manual = true → exec (.followAlignTimeout dt p) s = .next (s.after dt ((d.rebase p).dropBlend p 2))))
    ∧ (∀ b l, p < s.dev.audio.progs.length → x.blend = some b → b.mismatched = false → b.ready = false → b.lag = some l →
      l.toNat * deltaUnit ≤ d.deltaNow p →
      (b.manual = true → exec (.followPartnerReady dt p) s = .next (s.after dt ((d.rebase p).setBlend p fun y => { y with ready := true })))
      ∧ (b.manual = false → ∃ t, exec (.followPartnerReady dt p) s = .next t ∧ (t.dev.prog p).blend = some { b with ready := true }
          ∧ (t.dev.prog p).src = x.src))
    ∧ (∀ f, p < s.dev.audio.progs.length → x.fading = some f → f.ends ≤ d.now →
      (f.result ≠ 2 → f.result ≠ 4 → ∃ t, exec (.fadeEnd dt p) s = .next t ∧ (t.dev.prog p).src = some f.target
        ∧ (t.dev.prog p).fading = none ∧ (t.dev.prog p).blend = none
        ∧ ∀ g, s.dev.grp? p = some g → (t.dev.grp? p).map (·.onAir) = some f.target)
      ∧ (f.result = 2 ∨ f.result = 4 → ∃ t, exec (.fadeEnd dt p) s = .next t ∧ (t.dev.prog p).src = x.src
        ∧ (t.dev.prog p).fading = none ∧ (t.dev.prog p).blend = none
        ∧ ∀ g, s.dev.grp? p = some g → (t.dev.grp? p).map (·.onAir) = some g.onAir))
    ∧ ∀ (q : Req) (e : Dev), q.badHeader = false → e.inWatch = false → q.p8 0 = p → p ≤ 3 →
      (s.admits dt 0x0406 = some (q, e) → q.src = e.proto.owner → q.len = 20 → q.p8 1 = 0 → q.p8 2 = 0 → q.p8 3 ≤ 1 → q.p8 4 ≤ 127 →
        q.p8 4 < e.nCtx → (∀ k < 2, q.p8 (5 + k) = 0xFF) → (∀ k < 8, q.p8 (8 + k) = 0xFF) → q.p8 7 = 0 → q.p16 18 = 0 →
        (e.progRoute p).1 = some (q.p8 4) → (e.prog p).fading = none → (q.p8 4) ∉ e.groupCtxs p →
        (∃ c, e.ctx? (q.p8 4) = some c ∧ c.closing = none ∧ c.fg = true ∧ audioKind c.kind = true ∧ c.owner = q.src) →
        exec (.followCfg dt) s = .next (s.answered dt q .ok e.boundaryReply { e with follow.acts := e.follow.acts ++
          [({ prog := p, grp := none, switch := false, due := e.nextBoundary } : FollowAct)] }))
      ∧ (s.admits dt 0x0407 = some (q, e) → q.len = 4 → zeroAt q.params 1 3 = true → e.grp? p = none → exec (.followStatus dt) s =
          .next (s.answered dt q .ok (u8 p ++ u8 0 ++ u8 0 ++ u8 0xFF ++ u8 0xFF ++ zeros 7 ++ u16 0xFFFF ++ zeros 22 ++ u32 e.fb.gen) e))

/-- R558, R570-R575, R577, R581: the rows of chapter 20. -/
def Obligations.AudioRows : Prop :=
  ∀ (s : State) (dt n : Nat), s.dev.active = true →
    let d := s.dev.tick dt
    (∀ x bad rate layout pcm, s.dev.ctx? n = some x → x.state = .running → x.adec.isSome = true →
      ∃ t y, exec (.audioFrameDecoded dt n bad rate layout pcm) s = .next t ∧ t.dev.ctx? n = some y
      ∧ y.dec = { x.dec.frame bad rate (s.dev.propN P.concealMax) with
          good := if bad then x.dec.good else some (pcm.map fun v => if layout = 0 then (v.1, v.1) else v) }
      ∧ y.released = (x.released || !bad) ∧ y.state = x.state ∧ t.dev.rf = s.dev.rf ∧ t.dev.audio.ports = s.dev.audio.ports)
    ∧ (∀ kind, kind ≤ 3 → n < 4 → n < s.dev.audio.ports.length → s.dev.leader n = n → s.dev.groupSends n = true →
      (2 ≤ kind → (s.dev.group n).any s.dev.slaveRuns = true) → ∃ t, exec (.portFaultFrame dt n kind) s = .next t
        ∧ (t.dev.port n).lastKind = kind ∧ (t.dev.port n).faultFrames = satAdd 0xFFFF (s.dev.port n).faultFrames 1
        ∧ (t.dev.port n).outOfStep = ((s.dev.port n).outOfStep || kind == 3)
        ∧ (t.dev.port n).fill = (if kind = 1 then min 4 (s.dev.port n).fill else if kind = 0 then 0 else (s.dev.port n).fill)
        ∧ ((s.dev.port n).faults = [] → (t.dev.port n).muted = (s.dev.port n).muted)
        ∧ (∀ m ∈ s.dev.group n, (t.dev.port m).sent = (s.dev.port m).sent ++ [(s.dev.port m).last])
        ∧ ∀ m, m ∉ s.dev.group n → t.dev.port m = s.dev.port m)
    ∧ (∀ frames, (s.dev.port n).outOfStep = true → exec (.portGroupBackInStep dt n frames) s =
        .next (s.after dt (if 16 ≤ frames then d.setPort n fun x => { x with outOfStep := false } else d)))
    ∧ (n < 4 → n < s.dev.audio.ports.length → s.dev.leader n = n → (s.dev.port n).muted = true → s.dev.groupSends n = true →
      (s.dev.port n).faults.any (d.withinFrames (d.groupRate n) 256) = false → ∃ t, exec (.portFaultClear dt n) s = .next t
        ∧ t.dev.port n = { s.dev.port n with muted := false, gate := rampTo 0 (2 ^ 24) 5 d.now (s.dev.port n).gate })
    ∧ (n < 4 → s.dev.audio.ports.length = 4 → s.dev.slaveRuns n = true → s.dev.leader n = n → s.dev.group n = [n] →
      (∀ gap faults off, (s.dev.port n).clockOk = true →
        if 4000 ≤ gap ∨ 4 < faults ∨ refInRange off = false then ∃ t, exec (.portSlaveClockLost dt n gap faults off) s = .next t
          ∧ t.dev.port n = { s.dev.port n with clockOk := false, clockLost := true, gate := [] }
        else exec (.portSlaveClockLost dt n gap faults off) s = .next (s.after dt d))
      ∧ (∀ c frames bclks worst, (s.dev.port n).clockOk = false → (s.dev.port n).cfg = some c →
        if 64 ≤ frames ∧ refInRange worst = true ∧ bclks = c.slots * c.slotBits then
          ∃ t, exec (.portSlaveClockValid dt n frames bclks worst) s = .next t
            ∧ t.dev.port n = { (s.dev.port n).refill.rampGate (2 ^ 24) d.now with clockOk := true, clockLost := false }
        else exec (.portSlaveClockValid dt n frames bclks worst) s = .next (s.after dt d)))
    ∧ (∀ t0, n < 4 → (s.dev.port n).run = .stopping t0 → t0 + msec 5 ≤ d.now →
        exec (.portStopComplete dt n) s = .next (s.after dt (d.setPort n PortSt.halted)))
    ∧ (∀ t0, 4 ≤ n → n < 6 → (s.dev.audio.spdo.getD (n - 4) {}).run = .stopping t0 → t0 + msec 5 ≤ d.now →
        exec (.portStopComplete dt n) s = .next (s.after dt (d.setSpdo (n - 4) SpdoSt.halted)))
    ∧ (∀ gap errors off, s.dev.spdiRuns = true →
      (4000 ≤ gap ∨ 4 < errors ∨ refInRange off = false → s.dev.audio.spdiLost ≠ some true →
        ∃ t, exec (.spdifInLost dt gap errors off) s = .next t ∧ t.dev.audio.spdiLost = some true)
      ∧ (64 ≤ n → refInRange off = true → s.dev.audio.spdiLost = none →
        exec (.spdifInValid dt n 0 off) s = .next (s.after dt { d with audio.spdiLost := some false }))
      ∧ (64 ≤ n → refInRange off = true → s.dev.audio.spdiLost = some true →
        ∃ t, exec (.spdifInValid dt n 0 off) s = .next t ∧ t.dev.audio.spdiLost = some false))

/-- R583-R589: the commands of chapter 20: each is accepted for the next boundary, and its effect waits for it. -/
def Obligations.AudioCommands : Prop :=
  ∀ (s : State) (dt : Nat) (q : Req) (e : Dev), q.badHeader = false → e.inWatch = false →
    let accepted (a : AudAct) : Dev := { e with audio.acts := e.audio.acts ++ [(e.nextBoundary, a)] }
    (s.admits dt 0x0501 = some (q, e) → q.len = 4 → q.p8 0 ≤ 3 → e.followArmed (q.p8 0) = false →
      (q.ctx = 0xFF → q.src = e.proto.owner → q.p8 1 = 0 → q.p8 2 = 0 → q.p8 3 = 0 → exec (.progRoute dt) s =
        .next (s.answered dt q .ok (u64 e.nextBoundary) (accepted (.route (q.p8 0) none 0 0 0))))
      ∧ (∀ x, e.ctx? q.ctx = some x → q.ctx ≠ 0xFF → q.src = x.owner → x.closing = none → audioKind x.kind = true →
          (∀ k < 4, k ≠ q.p8 0 → (e.progRoute k).1 ≠ some q.ctx) → q.p8 1 = 0 → q.p8 2 ≤ 7 → q.p8 3 < 6 → exec (.progRoute dt) s =
            .next (s.answered dt q .ok (u64 e.nextBoundary) (accepted (.route (q.p8 0) (some q.ctx) 0 (q.p8 2) (q.p8 3)))))
      ∧ (∀ x, e.ctx? q.ctx = some x → q.ctx ≠ 0xFF → q.src = x.owner → x.closing = none → audioKind x.kind = true →
          (∀ k < 4, k ≠ q.p8 0 → (e.progRoute k).1 = none ∧ (e.progRoute k).2.1 = 0) → q.p8 1 = 1 → q.p8 2 = 0 → q.p8 3 = 0 →
          (∃ c, e.portCfg 0 = some c ∧ 2 ≤ c.slots) → exec (.progRoute dt) s =
            .next (s.answered dt q .ok (u64 e.nextBoundary) (accepted (.route (q.p8 0) (some q.ctx) 1 0 0)))))
    ∧ (s.admits dt 0x0507 = some (q, e) → q.len = 0 → exec (.audioStatus dt) s = .next (s.answered dt q .ok (u64 e.trav.boundary
        ++ (List.range 4).flatMap e.progEntry ++ (List.range 4).flatMap e.portEntry ++ (List.range 2).flatMap e.spdoEntry) e))
    ∧ (q.src = e.proto.owner →
      (s.admits dt 0x0502 = some (q, e) → q.len = 12 → q.p8 0 ≤ 3 → q.portCfg.bad (q.p8 0) = false → zeroAt q.params 9 3 = true →
        (∀ n < 4, e.willRun n = false) → family441 q.portCfg.rate = family441 e.clk.audRate → e.clk.audMode ≠ 2 → e.clk.audPending = false →
        (∀ k < 4, (e.progRoute k).2.1 = 0) → exec (.portCfg dt) s =
          .next (s.answered dt q .ok [] (e.setPort (q.p8 0) fun x => { x with next := some q.portCfg })))
      ∧ (s.admits dt 0x0503 = some (q, e) → q.len = 4 → 1 ≤ q.p8 0 → q.p8 0 < 64 → zeroAt q.params 2 2 = true → e.clk.audPending = false →
        ((bitsOf 6 (q.p8 0)).any e.outStopping) = false →
        (∀ n ∈ bitsOf 4 (q.p8 0), ∀ m ∈ e.groupAccepted (leaderOf n (e.portCfg n)), hasBit (q.p8 0) m = true) →
        (q.p8 1 = 0 → exec (.portRun dt) s = .next (s.answered dt q .ok (u64 e.nextBoundary) (accepted (.run (q.p8 0) false))))
        ∧ (q.p8 1 = 1 → (∀ n ∈ bitsOf 6 (q.p8 0), ∃ r, e.outRate n = some r ∧ family441 r = family441 e.clk.audRate) →
            (∀ n ∈ bitsOf 4 (q.p8 0), e.groupAgrees n = true) → exec (.portRun dt) s =
              .next (s.answered dt q .ok (u64 e.nextBoundary) (accepted (.run (q.p8 0) true)))))
      ∧ (s.admits dt 0x0504 = some (q, e) → q.p8 2 ≤ 128 → q.len = 4 + q.p8 2 → q.p8 0 ≤ 1 → q.p8 1 ≤ 3 → q.p8 3 = 0 →
        e.willRun (4 + q.p8 0) = false → family441 (q.p8 1) = family441 e.clk.audRate → exec (.spdifCfg dt) s =
          .next (s.answered dt q .ok [] (accepted (.spdif (q.p8 0) (q.p8 1) (q.params.drop 4)))))
      ∧ (s.admits dt 0x0505 = some (q, e) → q.len = 4 → q.p8 0 ≤ 3 → q.p8 1 ≤ 1 → -120 ≤ q.ps8 2 → q.ps8 2 ≤ 24 → q.p8 3 = 0 →
        exec (.progLevel dt) s = .next (s.answered dt q .ok [] (accepted (.level (q.p8 0) (q.p8 1 == 1) (q.ps8 2)))))
      ∧ (s.admits dt 0x0506 = some (q, e) → q.len = 8 → q.p8 0 ≤ 3 → q.p8 1 ≤ 1 → 20 ≤ q.p16 2 → q.p16 2 ≤ 500 → q.p8 7 = 0 →
        e.followArmed (q.p8 0) = false → e.blendBusy (q.p8 0) = false →
        (q.p8 4 = 0 → q.p8 5 = 0 → q.p8 6 = 0xFF → exec (.blendCfg dt) s =
          .next (s.answered dt q .ok [] (accepted (.blend (q.p8 0) (q.p8 1) (q.p16 2) false 0 0xFF))))
        ∧ (q.p8 4 ≤ 1 → 1 ≤ q.p8 5 → q.p8 5 ≤ 2 → q.p8 6 ≤ 127 → q.p8 6 < e.nCtx → q.badTarget (q.p8 6) e = false → (e.progRoute (q.p8 0)).1.isSome = true →
            e.blendFull = false → exec (.blendCfg dt) s =
              .next (s.answered dt q .deferred [] (accepted (.blend (q.p8 0) (q.p8 1) (q.p16 2) (q.p8 4 == 1) (q.p8 5) (q.p8 6)))))))

/-- R143, R225, R592-R607: the rows and commands of the data queues. Records leave a queue whole, in order, and each one taken counts in
the head's sequence number. -/
def Obligations.DataQueueRows : Prop :=
  ∀ (s : State) (dt : Nat), let d := s.dev.tick dt
    (∀ c b, s.dev.active = true → s.dev.takesMot c = true → s.dev.bind? c = some b → b.mot = true →
      (∀ tid seg last bytes l, exec (.motDataGroup dt c 5 tid seg last bytes l) s = .next (s.after dt (d.motFail c 1)))
      ∧ (∀ tid bytes l, b.objs.length < 8 → b.objs.any (·.tid == tid) = false →
          s.dev.motUsed + ({ tid := tid, header := bytes, bodyLen := motBodyLen bytes, segs := [], last := none, at_ := 0 } : MotObj).pages
            ≤ s.dev.propN P.dsQuotaMot →
          exec (.motDataGroup dt c 3 tid 0 false bytes l) s = .next (s.after dt (d.setBind c fun b => { b with objs := b.objs ++
            [{ tid := tid, header := bytes, bodyLen := motBodyLen bytes, segs := [], last := none, at_ := d.now }] })))
      ∧ (∀ tid seg bytes l o, b.objs = [o] → o.tid = tid → o.segs = [] → o.last = none →
          exec (.motDataGroup dt c 4 tid seg false bytes l) s = .next (s.after dt (d.setBind c fun b => { b with objs :=
            [{ o with segs := [(seg, bytes)], at_ := d.now }] }))))
    ∧ (∀ c b, s.dev.active = true → s.dev.data.binds = [(c, b)] →
      (∀ o ∈ b.objs, o.at_ + msec (1000 * s.dev.propN P.motTimeout) ≤ d.now) →
      ∃ t, exec (.motObjectTimeout dt) s = .next t ∧ t.dev.data.binds = [(c, { b with objs := [] })]
        ∧ (t.dev.dq b.queue).motFailed = satAdd 0xFFFFFFFF (s.dev.dq b.queue).motFailed b.objs.length)
    ∧ (s.dev.inReset = false → ∀ k n,
      (n < 2 → exec (.spiDataPull dt k n) s = .next (s.after dt { d with regs.spiOut := [] }))
      ∧ (2 ≤ n → s.dev.izosh = true → 8 ≤ k → k ≤ 127 → (s.dev.dq k).pages ≠ 0 → (s.dev.dq k).recs ≠ [] → exec (.spiDataPull dt k n) s =
          .next (s.after dt (({ d with regs.spiOut := padTo (n - 2) (u32 (d.dq k).fill ++ (d.dq k).recs.flatten) } : Dev).takeHead k
            (fitting (n - 6) (d.dq k).recs))))
      ∧ (2 ≤ n → s.dev.izosh = true → (k < 8 ∨ 127 < k ∨ (s.dev.dq k).pages = 0) → exec (.spiDataPull dt k n) s =
          .next (s.after dt (({ d with regs.spiOut := padTo (n - 2) (u32 0) } : Dev).flagSys 0x08))))
    ∧ ∀ (q : Req) (e : Dev), q.badHeader = false → e.inWatch = false →
      let k := q.p8 0
      let x := e.dq k
      (s.admits dt 0x0601 = some (q, e) → q.src = e.proto.owner → q.len = 4 → 8 ≤ k → k ≤ 127 → q.p16 2 ≤ 512 → q.p8 1 = 0 →
        (q.p16 2 = 0 → ∀ c < 128, e.ctxOpen c = true → e.stagedBind c ≠ some k) →
        (e.stagedPages k = q.p16 2 ∨ ((((List.range 120).map (8 + ·)).filter (· != k)).map e.stagedPages).sum + q.p16 2 ≤ e.stagedN P.dsQuotaQueue) →
        exec (.queueCfg dt) s = .next (s.answered dt q .ok (u64 e.nextBoundary)
          { e with data.acts := e.data.acts ++ [(e.nextBoundary, .size k (q.p16 2))] }))
      ∧ (∀ c, s.admits dt 0x0602 = some (q, e) → e.ctx? q.ctx = some c → c.closing = none → q.src = c.owner → q.len = 4 →
        zeroAt q.params 2 2 = true → q.p8 1 ≤ 1 → (k = 0 ∧ q.p8 1 = 0 ∨ 8 ≤ k ∧ k ≤ 127 ∧ e.stagedPages k ≠ 0) →
        exec (.queueBind dt) s = .next (s.answered dt q .ok (u64 e.nextBoundary) { e with data.acts := e.data.acts ++
          [(e.nextBoundary, .bind q.ctx (if k = 0 then none else some k) (q.p8 1 == 1))] }))
      ∧ (s.admits dt 0x0603 = some (q, e) → q.len = 4 → 8 ≤ k → k ≤ 127 → 1 ≤ q.p8 1 → q.p8 1 ≤ 31 → k + q.p8 1 ≤ 128 → zeroAt q.params 2 2 = true →
        let pl := (List.range (q.p8 1)).flatMap fun j => e.queueEntry (k + j)
        q.fits pl = true → exec (.queueStatus dt) s = .next (s.answered dt q .ok pl e))
      ∧ (s.admits dt 0x0604 = some (q, e) → q.src = e.proto.owner → q.len = 8 → 8 ≤ k → k ≤ 127 → x.pages ≠ 0 → q.p16 4 = 0 → q.p16 6 = 0 →
        let answer (n : Nat) (bytes : List Byte) (e' : Dev) : Prop :=
          let pl := u32 (e'.dq k).fill ++ u16 x.seq ++ u8 0 ++ u8 n ++ bytes
          q.fits pl = true → exec (.queueFlush dt) s = .next (s.answered dt q .ok pl e')
        (q.p8 1 = 1 → q.p16 2 = 0 → answer 0 [] e)
        ∧ (q.p8 1 = 1 → 1 ≤ q.p16 2 → q.p16 2 ≤ 1016 → (x.recs.headD []).length ≤ q.p16 2 →
            answer (fitting (q.p16 2) x.recs) (x.recs.take (fitting (q.p16 2) x.recs)).flatten (e.takeHead k (fitting (q.p16 2) x.recs)))
        ∧ (q.p8 1 = 0 → q.p16 2 = 0 → ∃ t, exec (.queueFlush dt) s = .next t ∧ (t.dev.dq k).recs = [] ∧ (t.dev.dq k).gap = 0
            ∧ (t.dev.dq k).drops = x.drops ∧ (t.dev.dq k).seq = (x.seq + x.recs.length) % 65536))

/-- R610-R620, R622-R624: the watch receiver: its hops and dwells, its entry and exit, and its commands. A dwell ends with its result
and the hop to the next entry begins; after the last entry the cycle counts and starts over. -/
def Obligations.WatchRows : Prop :=
  ∀ (s : State) (dt : Nat) (tAvg : Int), let d := s.dev.tick dt
    let w := s.dev.watch
    (∀ n, s.dev.watching = true → w.phase = .watching → w.hopCal = false → w.hop = some n → exec (.watchHopComplete dt) s =
      .next (s.after dt { d with watch.hop := none, watch.current := some n, watch.dwellAt := d.now, watch.measured := false }))
    ∧ (∀ n en, s.dev.watching = true → w.phase = .watching → w.current = some n → w.list[n]? = some en →
      let ends (d : Dev) (r : Nat) : Dev := d.dwellOver n r tAvg
      (∀ lv, lv < 256 → w.measured = false → w.dwellAt + msec 2 ≤ d.now →
        let m : Dev := { (d.setWatch n fun x => { x with level := lv }) with watch.measured := true }
        (en.minLevel ≤ lv → exec (.watchLevelMeasured dt lv tAvg) s = .next (s.after dt m))
        ∧ (lv < en.minLevel → exec (.watchLevelMeasured dt lv tAvg) s = .next (s.after dt (ends m 1))))
      ∧ (w.dwellAt + en.syncLimit ≤ d.now → exec (.watchNoSyncTimeout dt tAvg) s = .next (s.after dt (ends d 2)))
      ∧ (∀ seen, w.dwellAt ≤ d.now →
        (w.dwellAt + en.dwellMax ≤ d.now ∨ (en.alarm = false ∧ en.earlyEnd seen = true) →
          exec (.watchDwellEnd dt seen tAvg) s = .next (s.after dt (ends d (if en.alarm then 4 else 3))))
        ∧ (d.now < w.dwellAt + en.dwellMax → (en.alarm = true ∨ en.earlyEnd seen = false) →
          exec (.watchDwellEnd dt seen tAvg) s = .next (s.after dt d)))
      ∧ (w.dwellAt ≤ d.now → ∃ t, exec (.syn1LockLoss dt tAvg) s = .next t ∧ t.dev.watch.current = none
          ∧ (w.next = none → (t.dev.watch.list[n]?).map (·.result) = some 5)
          ∧ ∀ x ∈ t.dev.cal.syn1, x.freq = en.freq → x.invalid = true)
      ∧ (w.next = none → (ends d 1).watch.hop = some (if w.list.length ≤ n + 1 then 0 else n + 1) ∧ (ends d 1).watch.current = none
          ∧ (ends d 1).watch.cycles = (if w.list.length ≤ n + 1 then satAdd 0xFFFFFFFF w.cycles 1 else w.cycles))
      ∧ (∀ seen, (en.shows seen = none → exec (.watchAlarmStateChange dt seen) s = .next (s.after dt d))
        ∧ ∀ act o blocks, en.shows seen = some (act, o, blocks) →
          ((en.alarm = act ∨ (en.id ≠ 0 ∧ en.id ≠ en.received seen)) → exec (.watchAlarmStateChange dt seen) s = .next (s.after dt d))
          ∧ (en.alarm ≠ act → (en.id = 0 ∨ en.id = en.received seen) → ∃ t, exec (.watchAlarmStateChange dt seen) s = .next t
            ∧ t.dev.watch.list[n]? = some { en with alarm := act, alerts := satAdd 0xFFFF en.alerts 1 } ∧ t.dev.watch.lastAlert = d.now
            ∧ t.dev.watch.phase = (if act && w.opts.wake then .leaving else .watching))))
    ∧ (s.dev.active = true → w.phase = .entering → w.parked = false → d.now % roundTicks = 0 → w.since + msec 5 ≤ d.now →
      exec (.watchEntryBoundary dt) s = .next (s.after dt { (if w.opts.retain then d.parkAll else d.closeAll) with watch.parked := true }))
    ∧ (s.dev.active = true → w.phase = .entering → w.parked = true → ∃ t, exec (.watchEntered dt tAvg) s = .next t ∧ t.dev.pwr.mode = .watch
      ∧ t.dev.watch.phase = .watching ∧ t.dev.clk.pllA = .stopped ∧ t.dev.cal.runs = [] ∧ t.dev.cal.syn1Run = none
      ∧ t.dev.data = ({} : DataSt) ∧ (∀ x ∈ t.dev.audio.ports, x.run = .stopped) ∧ (∀ x ∈ t.dev.rf.inputs, x.mode = .off)
      ∧ (w.list ≠ [] → t.dev.watch.hop = some 0) ∧ (w.opts.retain = false → t.dev.fb = ({} : FieldBookSt)))
    ∧ (s.dev.watching = true → w.phase = .leaving → ∃ t, exec (.watchExitComplete dt) s = .next t ∧ t.dev.pwr.mode = .active
      ∧ t.dev.watch.phase = .off ∧ t.dev.clk.pllA = .locked ∧ t.dev.clk.audState = 4 ∧ t.dev.trav = s.dev.trav
      ∧ (∀ x ∈ t.dev.rf.inputs, x.mode = .off))
    ∧ ∀ (q : Req) (e : Dev), q.badHeader = false →
      (let l := (entriesOf 12 (q.params.drop 4)).map watchEntryOf
       s.admits dt 0x0D01 = some (q, e) → q.src = e.proto.owner → q.p8 0 ≤ 16 → q.len = 4 + 12 * q.p8 0 → zeroAt q.params 1 3 = true →
        l.any WatchEntry.bad = false → (l.map fun x => 8 * x.freq + x.std).Nodup → (∀ x ∈ l, x.std < 3 ∨ e.hasDrm = true) →
        (e.syn1Busy = true → exec (.watchList dt tAvg) s =
          .next (s.answered dt q .deferred [] { e with watch.waits := e.watch.waits ++ [.list l] }))
        ∧ (e.syn1Busy = false → e.inWatch = false → exec (.watchList dt tAvg) s =
            .next (s.answered dt q .ok [] { e with watch.next := some l, watch.nextDue := e.nextBoundary }))
        ∧ (e.syn1Busy = false → e.inWatch = true → e.watch.current.isSome = true → exec (.watchList dt tAvg) s =
            .next (s.answered dt q .ok [] { e with watch.next := some l }))
        ∧ (e.syn1Busy = false → e.inWatch = true → e.watch.current = none → exec (.watchList dt tAvg) s =
            .next (s.answered dt q .ok [] (e.restartList l tAvg))))
      ∧ (s.admits dt 0x0D02 = some (q, e) → q.src = e.proto.owner → q.len = 8 → q.p8 0 ≤ 1 → q.p8 1 ≤ 1 → q.p8 2 ≤ 2 → q.p8 4 ≤ 1 →
        (q.p8 3 = 0xFF ∨ q.p8 3 / 8 % 16 = 0) → zeroAt q.params 5 3 = true → e.inWatch = false → e.stagedWatch ≠ [] → e.cal.runs = [] →
        e.cal.syn0Run = none → e.sec.job = none → (q.p8 2 = 0 ∨ (e.inp 0).amp.faulted = false) →
        let o : WatchOpts := { wake := q.p8 0 == 1, retain := q.p8 1 == 1, ax0 := q.p8 2, gpio := q.p8 3, irq := q.p8 4 == 1 }
        (e.syn1Busy = true → exec (.watchEnter dt) s =
          .next (s.answered dt q .deferred [] { e with watch.waits := e.watch.waits ++ [.enter o] }))
        ∧ (e.syn1Busy = false → exec (.watchEnter dt) s = .next (s.answered dt q .ok (u64 e.now) (e.beginWatch o))))
      ∧ (s.admits dt 0x0D03 = some (q, e) → q.len = 0 →
        let w := e.watch
        let pl := u8 w.phase.code ++ u8 (bit w.opts.wake + 2 * bit w.opts.retain + 4 * bit w.opts.irq + 8 * bit e.syn1Busy)
          ++ u8 w.list.length ++ u8 (w.current.getD 0xFF) ++ u8 w.opts.ax0 ++ u8 w.opts.gpio ++ u16 0 ++ u32 w.cycles ++ u32 w.lastAlert
          ++ (indexed w.list).flatMap fun x => e.watchEntryBytes x.1 x.2 e.pwr.tAvg
        q.fits pl = true → exec (.watchStatus dt) s = .next (s.answered dt q .ok pl e))

/-- R627-R632, R648-R650, R654, R672: the rows of a Carillon port and the commands on links. A port reaches UP only through a HELLO
whose response is right, and losing synchronisation, signal or the neighbour takes it out of UP. -/
def Obligations.FabricLinks : Prop :=
  ∀ (s : State) (dt p : Nat), let d := s.dev.tick dt
    let x := s.dev.clPort p
    (s.dev.active = true → p < s.dev.cl.ports.length →
      (s.dev.clk.pllFSince.isSome = true → exec (.pllFLock dt) s = .next (s.after dt { d with
        clk.pllF := true, clk.pllFSince := none
        cl.ports := d.cl.ports.map fun y => if y.enabled && y.mode == .off then y.toTraining else y }))
      ∧ (∀ n, x.mode = .training → 1024 ≤ n → ∃ t, exec (.clPortLinked dt p n) s = .next t ∧ (t.dev.clPort p).mode = .linked ∧ (t.dev.clPort p).heard = []
          ∧ (t.dev.clPort p).answered = false ∧ (t.dev.clPort p).challenge = Config.entropy s.dev.draws ∧ t.dev.draws = s.dev.draws + 1)
      ∧ (∀ n, x.mode = .training → n < 1024 → exec (.clPortLinked dt p n) s = .next (s.after dt d))
      ∧ (∀ n g, x.mode ≠ .off → ∃ t, exec (.clSyncLost dt p n g) s = .next t ∧ (t.dev.clPort p).errors = satAdd 0xFFFF x.errors n
          ∧ (t.dev.clPort p).mode = if 4 ≤ n ∧ g ≤ 256 then .training else x.mode)
      ∧ (∀ n, 1000 ≤ n → x.mode = .up ∨ x.mode = .linked → ∃ t, exec (.clSignalLost dt p n) s = .next t ∧ (t.dev.clPort p).mode = .training
          ∧ (t.dev.clPort p).errors = x.errors)
      ∧ (∀ n, n < 1000 ∨ x.mode = .off ∨ x.mode = .training → exec (.clSignalLost dt p n) s = .next (s.after dt d))
      ∧ (s.dev.joined = true → s.dev.fabKeyed = true → x.mode = .linked → x.helloAt = none → exec (.helloSend dt p) s =
          .next (s.after dt { d.setClPort p fun y => { y with helloAt := some (d.now), answered := !y.heard.isEmpty } with
            cl.tx := [{ port := p, at_ := d.now, bytes := d.helloFrame p }] }))
      ∧ (∀ b, s.dev.fabKeyed = true → (x.mode = .linked ∨ x.mode = .up) →
          (headerGood b = false → exec (.helloFrame dt p b) s = .next (s.after dt d.discard))
          ∧ (headerGood b = true → frameType b ≠ 3 ∨ frameDest b ≠ 0 → exec (.helloFrame dt p b) s = .next (s.after dt d))
          ∧ (headerGood b = true → frameType b = 3 → frameDest b = 0 → trailerGood b = true → (framePayload b).length = 32 →
              let y := framePayload b
              let right := slice y 16 8 = d.helloResponse (leBytes 8 x.challenge.toNat) (slice y 0 8) (at8 y 24)
              ((slice y 16 8).all (· == 0) = true → exec (.helloFrame dt p b) s = .next (s.after dt (d.setClPort p fun z =>
                { z with heard := slice y 8 8, neighbour := slice y 0 8, nbrPort := at8 y 24, nbrKey := at8 y 25 })))
              ∧ ((slice y 16 8).all (· == 0) = false → right → x.mode = .linked → x.answered = true → s.dev.joined = true →
                  ∃ t, exec (.helloFrame dt p b) s = .next t ∧ (t.dev.clPort p).mode = .up ∧ (t.dev.clPort p).neighbour = slice y 0 8)
              ∧ ((slice y 16 8).all (· == 0) = false → ¬ right → ∃ t, exec (.helloFrame dt p b) s = .next t ∧ (t.dev.clPort p).mode = .linked)))
      ∧ (∀ t0, x.mode = .up → x.suspect = false → x.frameAt = some t0 → t0 + 16 * roundTicks ≤ d.now →
          exec (.clPortDriftSuspect dt p) s = .next (s.after dt { d.setClPort p fun y =>
            { y with suspect := true, toll := none, tollX := none, normalDue := none } with cl.suspects := satAdd 0xFFFF d.cl.suspects 1 })))
    ∧ ∀ (q : Req) (e : Dev), q.badHeader = false → e.inWatch = false →
      (q.src = e.proto.owner →
        (s.admits dt 0x0901 = some (q, e) → q.len = 4 → q.p8 0 ≤ 3 → q.p8 1 ≤ 1 → zeroAt q.params 2 2 = true →
          (e.portEnabled (q.p8 0) = (q.p8 1 == 1) → exec (.clPort dt) s = .next (s.answered dt q .ok (u64 0) e))
          ∧ (e.portEnabled (q.p8 0) ≠ (q.p8 1 == 1) → exec (.clPort dt) s = .next (s.answered dt q .ok (u64 e.nextBoundary)
              (e.setClPort (q.p8 0) fun y => { y with next := some (e.nextBoundary, q.p8 1 == 1) }))))
        ∧ (s.admits dt 0x0902 = some (q, e) → q.len = 0 → e.joined = false → e.cl.joinDue = none → (∃ k < 4, e.portEnabled k = true) →
            e.fabKeyed = true → exec (.clJoin dt) s = .next (s.answered dt q .deferred [] { e with cl.joinDue := some e.nextBoundary }))
        ∧ (s.admits dt 0x0902 = some (q, e) → q.len = 0 → e.fabKeyed = false → exec (.clJoin dt) s = .next (s.answered dt q .wrongState [] e))
        ∧ (s.admits dt 0x0903 = some (q, e) → q.len = 0 → (e.joined = true ∨ e.cl.joinDue.isSome = true) → exec (.clLeave dt) s =
            .next (s.answered dt q .ok (u64 e.nextBoundary) { e with cl.leaveDue := some e.nextBoundary })))
      ∧ (s.admits dt 0x0906 = some (q, e) → q.len = 4 → q.p8 0 ≤ 2 → zeroAt q.params 1 3 = true →
        let es := e.topoEntries (q.p8 0)
        let pl := u8 e.cl.phase.code ++ u8 e.ownAddr ++ u8 (e.addrOf e.benchUid) ++ u8 e.cl.routes.length ++ padTo 8 e.benchUid
          ++ u16 e.cl.refresh ++ u16 e.cl.refused ++ u32 e.cl.discarded ++ u8 es.length ++ zeros 3 ++ es.flatten
        q.fits pl = true → exec (.clTopology dt) s = .next (s.answered dt q .ok pl e))

/-- R633-R638, R651, R652, R663-R666: peals, the election, the route table and the streams' slots. -/
def Obligations.FabricPeals : Prop :=
  ∀ (s : State) (dt p : Nat), let d := s.dev.tick dt
    (s.dev.active = true →
      (s.dev.joined = true → s.dev.cl.quiet.isSome = true → s.dev.cl.announceAt = none → ∃ t, exec (.announcePealSend dt) s = .next t
        ∧ t.dev.cl.announceAt = some (d.now) ∧ t.dev.cl.serial = nextSerial s.dev.cl.serial
        ∧ t.dev.cl.seen = ((s.dev.uid, s.dev.cl.serial) :: s.dev.cl.seen).take 64 ∧ t.dev.cl.best = s.dev.cl.best)
      ∧ (∀ n, s.dev.joined = true → s.dev.cl.quiet = some n → 64 ≤ n →
          (s.dev.benchUid ≠ s.dev.uid ∨ s.dev.isBench = true → exec (.discoveryQuietEnd dt) s =
            .next (s.after dt { d with cl.quiet := none, cl.phase := .joined }))
          ∧ (s.dev.benchUid = s.dev.uid → s.dev.isBench = false → ∃ t, exec (.discoveryQuietEnd dt) s = .next t
              ∧ t.dev.cl.phase = .joined ∧ t.dev.cl.quiet = none ∧ t.dev.cl.loop = .benchmark ∧ t.dev.ownAddr = 1))
      ∧ (s.dev.isBench = true → d.now % roundTicks = 0 → (s.dev.cl.unsolicited = true ∨ s.dev.cl.requestAt = none) →
          ∃ t, exec (.topologyRefresh dt) s = .next t ∧ t.dev.cl.unsolicited = false
            ∧ t.dev.cl.requestAt = (if d.refreshDue then some d.now else s.dev.cl.requestAt)
            ∧ t.dev.cl.lastRefresh = nextRefresh s.dev.cl.lastRefresh ∧ t.dev.cl.routes = s.dev.cl.routes)
      ∧ (s.dev.joined = true → d.now % roundTicks = 0 →
          (s.dev.cl.pending = [] → exec (.routeTableApply dt) s = .next (s.after dt d))
          ∧ (∀ n due ans rest, s.dev.cl.pending = (n, due, ans) :: rest → d.now < due → exec (.routeTableApply dt) s = .next (s.after dt d))
          ∧ (∀ n due ans rest, s.dev.cl.pending = (n, due, ans) :: rest → due ≤ d.now → ∃ t, exec (.routeTableApply dt) s = .next t
              ∧ t.dev.cl.routes = d.tableRoutes n ans ∧ t.dev.cl.refresh = n ∧ t.dev.cl.pending = rest)
          ∧ exec (.slotGrantApply dt) s = .next (s.after dt { d with
              cl.grants := d.cl.grants.filter fun g => !g.freeAt.any (· ≤ d.now) }))
      ∧ (∀ st t0, s.dev.joined = true → (st, t0) ∈ s.dev.cl.releases → t0 + 16 * roundTicks ≤ d.now → s.dev.isBench = false →
          ∃ t, exec (.streamReleaseRepeat dt st) s = .next t
            ∧ t.dev.cl.releases = s.dev.cl.releases.filter (fun y => y.1 != st) ++ [(st, d.now)])
      ∧ (s.dev.cl.opening = none → exec (.clStreamOpenTimeout dt) s = .next (s.after dt d))
      ∧ (∀ y t0, s.dev.cl.opening = some (y, t0) → d.now < t0 + 8 * roundTicks → exec (.clStreamOpenTimeout dt) s = .next (s.after dt d))
      ∧ (∀ y t0, s.dev.cl.opening = some (y, t0) → t0 + 8 * roundTicks ≤ d.now → s.dev.isBench = false →
          ∃ t, exec (.clStreamOpenTimeout dt) s = .next t ∧ t.dev.cl.opening = none ∧ (y.stream, d.now) ∈ t.dev.cl.releases)
      ∧ (∀ a b, (s.dev.clPort p).mode = .up → headerGood b = true → trailerGood b = true → d.outside p a = false → p < s.dev.cl.ports.length →
          let y := framePayload b
          (frameType b = 2 → (y.length < 32 ∨ y.drop (y.length - 8) ≠ s.dev.fabMac (y.take (y.length - 8))
              ∨ (y.take 8, at16 y 10) ∈ s.dev.cl.seen) → ∃ t, exec (.pealFrame dt p a b) s = .next t
            ∧ t.dev.cl.refused = satAdd 0xFFFF s.dev.cl.refused 1 ∧ t.dev.cl.seen = s.dev.cl.seen ∧ t.dev.cl.best = s.dev.cl.best)
          ∧ (frameType b = 2 → 32 ≤ y.length → y.drop (y.length - 8) = s.dev.fabMac (y.take (y.length - 8)) → at8 y 8 = 2 → at16 y 22 ≠ 0 →
              (y.take 8, at16 y 10) ∉ s.dev.cl.seen → ∃ t, exec (.pealFrame dt p a b) s = .next t
            ∧ t.dev.cl.refused = s.dev.cl.refused ∧ t.dev.cl.seen = ((y.take 8, at16 y 10) :: s.dev.cl.seen).take 64)
          ∧ (frameType b = 6 → (y.length ≠ 18 ∨ slice y 10 8 ≠ s.dev.fabMac (y.take 10)) → ∃ t, exec (.leaveFrame dt p a b) s = .next t
            ∧ t.dev.cl.refused = satAdd 0xFFFF s.dev.cl.refused 1 ∧ t.dev.cl.left = s.dev.cl.left ∧ (t.dev.clPort p).mode = .up)
          ∧ (frameType b = 6 → y.length = 18 → slice y 10 8 = s.dev.fabMac (y.take 10) → (slice y 0 8, at16 y 8) ∉ s.dev.cl.seen →
              (s.dev.clPort p).neighbour ≠ slice y 0 8 → ∃ t, exec (.leaveFrame dt p a b) s = .next t
            ∧ t.dev.cl.left = s.dev.cl.left ++ [slice y 0 8] ∧ t.dev.cl.refused = s.dev.cl.refused)))
    ∧ ∀ (q : Req) (e : Dev), q.badHeader = false → e.inWatch = false → q.src = e.proto.owner →
      (∀ x, s.admits dt 0x0904 = some (q, e) → q.len = 8 → q.p16 2 ≠ 0 → q.p16 2 ≠ 0xFFFF → 1 ≤ q.p8 0 → q.p8 0 ≤ 0x20 → q.p8 0 ≠ e.ownAddr →
        q.p8 1 = 0 → q.p32 4 = 0 → e.cl.phase = .joined → e.ownAddr ≠ 0 → e.ctx? q.ctx = some x → x.kind = 0x0B → x.tuning.isSome = true →
        x.closing = none → (∀ y ∈ e.cl.streams, y.ctx ≠ q.ctx ∧ y.stream ≠ q.p16 2) → e.inRoutes (q.p8 0) = true →
        (∀ r ∈ e.cl.releases, r.1 ≠ q.p16 2) →
        let new : StreamSt := { stream := q.p16 2, ctx := q.ctx, dest := q.p8 0, k := stdK x.std, bundle := q.p16 2
                                slots := if stdK x.std = 3 then 2 else 1 }
        (∀ b, e.bundleFor (q.p8 0) (stdK x.std) = some b → exec (.clStreamOpen dt) s =
          .next (s.answered dt q .ok (u64 (max e.nextBoundary b.start)) { e with cl.streams := e.cl.streams ++
            [{ new with bundle := b.bundle, first := b.first, start := max e.nextBoundary b.start, seq := b.seq }] }))
        ∧ (e.bundleFor (q.p8 0) (stdK x.std) = none → ∃ t, exec (.clStreamOpen dt) s = .next t ∧ t.dev.cl.opening = some (new, e.now)
            ∧ t.dev.proto.running = some q ∧ t.dev.cl.streams = e.cl.streams))
      ∧ (s.admits dt 0x0905 = some (q, e) → q.len = 4 → q.p16 0 ≠ 0 → q.p16 0 ≠ 0xFFFF → q.p16 2 = 0 →
        (e.cl.streams.any (fun x => x.stream == q.p16 0 && x.closeDue.isNone) = true → exec (.clStreamClose dt) s =
          .next (s.answered dt q .ok (u64 e.nextBoundary) { e with cl.streams := updWhere e.cl.streams (·.stream == q.p16 0) fun x =>
            { x with closeDue := some e.nextBoundary } }))
        ∧ (e.cl.streams.any (fun x => x.stream == q.p16 0 && x.closeDue.isNone) = false → exec (.clStreamClose dt) s =
            .next (s.answered dt q .wrongState [] e)))

/-- R631, R639-R647, R653, R656-R662, R667, R668, R673, R674, R676: frames between devices, remote commands, Tolls and the loop's rows. -/
def Obligations.FabricTraffic : Prop :=
  ∀ (s : State) (dt p : Nat), let d := s.dev.tick dt
    (s.dev.active = true → ∀ (a : Int) (b : List Byte),
      let rows : List Instr := [.tollFrame dt p a b, .pealFrame dt p a b, .leaveFrame dt p a b, .streamFrame dt p a b, .bundleFrame dt p a b,
        .remoteCmdFrame dt p a b, .remoteAckFrame dt p a b, .remoteReplyFrame dt p a b, .replyAckFrame dt p a b, .reservedFrame dt p a b]
      let mine := frameDest b = 0 ∨ (frameDest b = s.dev.ownAddr ∧ s.dev.ownAddr ≠ 0)
      ((s.dev.clPort p).mode ≠ .up → ∀ i ∈ rows, exec i s = .next (s.after dt d))
      ∧ ((s.dev.clPort p).mode = .up → headerGood b = false → ∀ i ∈ rows, exec i s = .next (s.after dt d.discard))
      ∧ ((s.dev.clPort p).mode = .up → headerGood b = true → trailerGood b = true → mine → p < s.dev.cl.ports.length → d.outside p a = false →
          let src := frameSrc b
          let n := frameSeq b
          (typeDefined (frameType b) = false → ∃ t, exec (.reservedFrame dt p a b) s = .next t
              ∧ t.dev.cl.discarded = satAdd 0xFFFFFFFF s.dev.cl.discarded 1 ∧ (t.dev.clPort p).frameAt = some (d.now))
          ∧ (frameType b = 0x23 → ∃ t, exec (.replyAckFrame dt p a b) s = .next t
              ∧ t.dev.cl.replies = s.dev.cl.replies.filter fun r => !(r.dev == src && r.rseq == n))
          ∧ (frameType b = 0x21 → ∀ c, s.dev.cl.cmds = [c] → c.dev = src → c.rseq = n →
              (at8 (framePayload b) 0 = 0 → ∃ t, exec (.remoteAckFrame dt p a b) s = .next t ∧ t.dev.cl.cmds = [{ c with acked := true }])
              ∧ (at8 (framePayload b) 0 = 2 → ∃ t, exec (.remoteAckFrame dt p a b) s = .next t ∧ t.dev.cl.cmds = [])
              ∧ (at8 (framePayload b) 0 = 1 → ∃ t, exec (.remoteAckFrame dt p a b) s = .next t
                  ∧ t.dev.cl.cmds = [{ c with sentAt := d.now }]))
          ∧ (frameType b = 0x20 → ((tabGet s.dev.cl.pairs src).getD []).all (·.1 != n) = true →
              (s.dev.prop P.clRemoteAccept = 0 → ∃ t, exec (.remoteCmdFrame dt p a b) s = .next t ∧ t.dev.proto.q5 = s.dev.proto.q5
                ∧ tabGet t.dev.cl.pairs src = some (((n, 2) :: (tabGet s.dev.cl.pairs src).getD []).take 16))
              ∧ (s.dev.prop P.clRemoteAccept ≠ 0 → queueBytes s.dev.proto.q5 + (framePayload b).length ≤ 8192 →
                  ∃ t, exec (.remoteCmdFrame dt p a b) s = .next t ∧ t.dev.proto.q5 = s.dev.proto.q5 ++
                    [{ src := .fabric src, doneAt := d.now, bytes := framePayload b, serial := n }]))
          ∧ (frameType b = 0x20 → ((tabGet s.dev.cl.pairs src).getD []).any (·.1 == n) = true → ∃ t, exec (.remoteCmdFrame dt p a b) s = .next t
              ∧ t.dev.proto.q5 = s.dev.proto.q5 ∧ t.dev.cl.dups = satAdd 0xFFFF s.dev.cl.dups 1)
          ∧ (frameType b = 0x22 → ∀ c, s.dev.cl.cmds = [c] → c.dev = src → c.rseq = n → n ∉ (tabGet s.dev.cl.replySeqs src).getD [] →
              ∃ t, exec (.remoteReplyFrame dt p a b) s = .next t ∧ t.dev.cl.cmds = [] ∧ t.dev.cl.stored.head? = some (c.src, n, framePayload b))
          ∧ (frameType b = 0x10 → s.dev.streamNamed src (at16 (framePayload b) 0) = false → ∃ t, exec (.streamFrame dt p a b) s = .next t
              ∧ t.dev.cl.discarded = satAdd 0xFFFFFFFF s.dev.cl.discarded 1 ∧ t.dev.comb = s.dev.comb)
          ∧ (frameType b = 0x10 → s.dev.streamNamed src (at16 (framePayload b) 0) = true → ∃ t, exec (.streamFrame dt p a b) s = .next t
              ∧ t.dev.cl.discarded = s.dev.cl.discarded ∧ t.dev.comb.services.map (·.1) = s.dev.comb.services.map (·.1))
          ∧ (frameType b = 0x11 → s.dev.comb.services = [] → ∃ t, exec (.bundleFrame dt p a b) s = .next t
              ∧ t.dev.cl.discarded = satAdd 0xFFFFFFFF s.dev.cl.discarded 1))
      ∧ ((s.dev.clPort p).mode = .up → headerGood b = true → trailerGood b = true → frameType b = 1 → (framePayload b).length = 32 →
          p < s.dev.cl.ports.length →
          (s.dev.tollCounts (slice (framePayload b) 0 8) = false → exec (.tollFrame dt p a b) s = .next (s.after dt d.discard))
          ∧ (s.dev.tollCounts (slice (framePayload b) 0 8) = true → ∃ t, exec (.tollFrame dt p a b) s = .next t
              ∧ (t.dev.clPort p).toll = some { round := d.round, ttl := frameTtl b, held := hasBit (at8 (framePayload b) 18) 0 }
              ∧ (t.dev.clPort p).frameAt = some (d.now) ∧ ((s.dev.clPort p).e = none → (t.dev.clPort p).e = some a)
              ∧ t.dev.now = d.now)))
    ∧ (s.dev.active = true → s.dev.joined = true → d.now % 2048 = 0 → s.dev.cl.streams = [] → s.dev.proto.fabricOut = [] →
      (∀ k < 4, (s.dev.clPort k).waiting = []) → exec (.fabricSlotStart dt) s = .next (s.after dt { d with cl.tx := [] }))
    ∧ (s.dev.active = true → ∀ c, s.dev.cl.cmds = [c] → c.acked = false →
      (d.now < c.sentAt + 3 * roundTicks → exec (.remoteCmdRetryTimeout dt c.rseq) s = .next (s.after dt d))
      ∧ (c.sentAt + 3 * roundTicks ≤ d.now → s.dev.waitsToSend c.dev 0x20 c.rseq = false →
          (s.dev.propN P.clRemoteTries ≤ c.sends → ∃ t, exec (.remoteCmdRetryTimeout dt c.rseq) s = .next t ∧ t.dev.cl.cmds = [])
          ∧ (c.sends < s.dev.propN P.clRemoteTries → ∃ t, exec (.remoteCmdRetryTimeout dt c.rseq) s = .next t
              ∧ t.dev.cl.cmds = [{ c with sends := c.sends + 1, sentAt := d.now }])))
    ∧ (s.dev.active = true → ∀ r, s.dev.cl.replies = [r] → r.sentAt + 3 * roundTicks ≤ d.now →
      s.dev.waitsToSend r.dev 0x22 r.rseq = false →
      (s.dev.propN P.clRemoteTries ≤ r.sends → exec (.remoteReplyRetryTimeout dt r.dev r.rseq) s = .next (s.after dt { d with cl.replies := [] }))
      ∧ (r.sends < s.dev.propN P.clRemoteTries → ∃ t, exec (.remoteReplyRetryTimeout dt r.dev r.rseq) s = .next t
          ∧ t.dev.cl.replies = [{ r with sends := r.sends + 1, sentAt := d.now }]))
    ∧ (s.dev.active = true → d.now % roundTicks = 0 →
      (s.dev.cl.dups ≠ 0 → s.dev.cl.dupAt = none → ∃ t, exec (.clDuplicateReport dt) s = .next t ∧ t.dev.cl.dups = 0
        ∧ t.dev.cl.dupAt = some (d.now))
      ∧ (∀ c, s.dev.joined = true → d.bestToll false = none → (s.dev.cl.loop = .tracking ∨ s.dev.cl.loop = .locked) → d.lossCause = some c →
          ∃ t, exec (.clTollLoss dt) s = .next t ∧ t.dev.cl.loop = .holdover ∧ t.dev.cl.holdCause = c ∧ t.dev.cl.holdRounds = 0
            ∧ t.dev.cl.holdovers = satAdd 0xFFFF s.dev.cl.holdovers 1)
      ∧ (s.dev.joined = true → d.lossCause = none → exec (.clTollLoss dt) s = .next (s.after dt d))
      ∧ (s.dev.cl.loop = .holdover → s.dev.propN P.clHoldoverMax ≤ s.dev.cl.holdRounds → d.bestToll false = none → s.dev.benchUid ≠ s.dev.uid →
          ∃ t, exec (.clHoldoverMaxExpiry dt) s = .next t ∧ t.dev.cl.quiet = some 0 ∧ s.dev.benchUid ∈ t.dev.cl.excluded
            ∧ t.dev.cl.best = some (s.dev.clPref, s.dev.uid)))
    ∧ ∀ (q : Req) (e : Dev), q.badHeader = false → e.inWatch = false → q.src = e.proto.owner →
      (s.admits dt 0x0907 = some (q, e) → q.p8 0 = 1 → q.len = 4 → q.p8 1 = 0 →
        (∀ r, e.cl.stored.find? (fun x => x.1 == q.src && x.2.1 == q.p16 2) = some r → q.fits r.2.2 = true →
          exec (.clRemote dt) s = .next (s.answered dt q .ok r.2.2 e))
        ∧ (e.cl.stored.find? (fun x => x.1 == q.src && x.2.1 == q.p16 2) = none → q.fits [] = true →
            exec (.clRemote dt) s = .next (s.answered dt q .wrongState [] e)))
      ∧ (let pk := q.params.drop 4
         s.admits dt 0x0907 = some (q, e) → q.p8 0 = 0 → 14 ≤ q.len → q.len ≤ 452 → packetLength pk = pk.length → 1 ≤ q.p8 1 → q.p8 1 ≤ 0x20 →
          q.p8 1 ≠ e.ownAddr → q.p16 2 = 0 → e.cl.phase = .joined → e.ownAddr ≠ 0 → e.inRoutes (q.p8 1) = true →
          e.q6Bytes + pk.length ≤ 8192 → q.fits (u16 e.cl.rseq ++ zeros 2) = true →
          let c : RemoteCmd := { rseq := e.cl.rseq, dev := q.p8 1, packet := pk, src := q.src, sends := 1, sentAt := e.now }
          exec (.clRemote dt) s = .next (s.answered dt q .deferred (u16 e.cl.rseq ++ zeros 2)
            (({ e with cl.rseq := nextSerial e.cl.rseq, cl.cmds := e.cl.cmds ++ [c] } : Dev).sendTo c.dev 0x20 c.rseq pk)))
      ∧ (s.admits dt 0x0908 = some (q, e) → q.len = 4 → zeroAt q.params 1 3 = true →
        (q.p8 0 = 0 → exec (.clTime dt) s = .next (s.answered dt q .ok e.timePayload { e with draws := e.draws + 1 }))
        ∧ (q.p8 0 = 1 → exec (.clTime dt) s = .next (s.answered dt q .ok e.timePayload { e with
            draws := e.draws + 1
            cl := { e.cl with steps := 0, holdovers := 0, late := 0, window := 0, suspects := 0 } })))

/-- R679, R681-R683, R686-R688, R693-R697, R703: the rows of Tocsin. The first error fills the record, a further one merges, every real
one halts; an injected one of mode 0 only reports; a correctable one counts and escalates at the policy's threshold. -/
def Obligations.TocsinRows : Prop :=
  ∀ (s : State) (dt : Nat), let d := s.dev.tick dt
    let T := s.dev.toc
    let fills (c : Instr) (e : ErrIn) (tHot : Int) : Prop := ∃ t, exec c s = .next t ∧ t.dev.toc.halted = true ∧ t.dev.toc.inject = none
      ∧ t.dev.toc.alive = false
      ∧ t.dev.toc.rcd = { valid := true, halted := true, real := true, level := e.level, cls := e.cls, region := e.region, block := e.block,
                          master := e.master, access := e.access, addr := e.addr, time := d.now, haltTemp := tHot,
                          lastSeq := s.dev.proto.lastReady, capture := t.dev.toc.captures, detail := e.detail }
      ∧ 1 ≤ t.dev.toc.captures ∧ (T.captures < 65535 → t.dev.toc.captures = T.captures + 1)
    (s.dev.inReset = false → T.halted = false →
      (T.rcd.valid = false →
        (∀ e tHot, e.injected = false → 1 ≤ e.cls → e.cls ≤ 15 → e.level = classLevel e.cls → (2 < e.cls → e.detail = 0) →
          fills (.tocsinErrorArrival dt [e] tHot) e tHot)
        ∧ (∀ errs tHot, ∀ e ∈ errs, (∀ x ∈ errs, x.injected = false ∧ 1 ≤ x.cls ∧ x.cls ≤ 15 ∧ (x = e ∨ ErrIn.rank e < ErrIn.rank x)) → errs.length ≤ 0xFFFF →
            ∃ t, exec (.tocsinErrorArrival dt errs tHot) s = .next t ∧ t.dev.toc.halted = true ∧ t.dev.toc.rcd.cls = e.cls
              ∧ t.dev.toc.rcd.region = e.region ∧ t.dev.toc.rcd.block = e.block ∧ t.dev.toc.rcd.merge = errs.length - 1)
        ∧ (∀ e j tHot, s.dev.pwr.mode ≠ .sleep → e.injected = true → T.inject = some j → j.mode = 0 → j.kind ≠ 1 →
            ∃ t, exec (.tocsinErrorArrival dt [e] tHot) s = .next t ∧ t.dev.toc.halted = false ∧ t.dev.toc.inject = none
              ∧ t.dev.toc.rcd.valid = true ∧ t.dev.toc.rcd.injected = true ∧ t.dev.toc.rcd.real = false
              ∧ t.dev.toc.rcd.cls = kindClass j.kind ∧ t.dev.toc.rcd.master = 0x7F ∧ t.dev.irqBit 6 = true)
        ∧ (∀ a, fills (.lockstepMismatch dt a) (blockError 5 3 0 a) s.dev.pwr.tHot)
        ∧ (∀ r b m ac a, fills (.busTimeout dt r b m ac a) { blockError 7 r b a with master := m, access := ac } s.dev.pwr.tHot)
        ∧ (∀ r b, s.dev.booted = true → hasWatchdog r b = true → s.dev.blockUnfitted r b = false →
            fills (.watchdogExpiry dt r b) (blockError 4 r b 0) s.dev.pwr.tHot)
        ∧ (∀ j, s.dev.booted = true → T.inject = some j → d.sinceUs j.since 100 = true →
            fills (.injectionMissed dt) (blockError 0x0F j.region j.block j.kind) s.dev.pwr.tHot))
      ∧ (∀ e tHot, T.rcd.valid = true → e.injected = false → 1 ≤ e.cls → e.cls ≤ 15 → ∃ t, exec (.tocsinErrorArrival dt [e] tHot) s = .next t
          ∧ t.dev.toc.halted = true ∧ t.dev.toc.captures = T.captures
          ∧ t.dev.toc.rcd = { T.rcd with merge := satAdd 0xFFFF T.rcd.merge 1, merged := T.rcd.merged ||| BitVec.ofNat 32 (2 ^ e.cls),
                                         real := true, halted := true, haltTemp := tHot, lastSeq := s.dev.proto.lastReady })
      ∧ (∀ e : ErrIn, e.region ≤ 4 → T.ce.length = 5 → T.ceWindow.length = 5 → T.ceTotal < 2 ^ 32 - 1 →
          let counted (t : State) : Prop := t.dev.toc.ceTotal = T.ceTotal + 1
            ∧ ∀ r < 5, t.dev.toc.ce.getD r 0 = if r = e.region then satAdd 0xFFFF (T.ce.getD r 0) 1 else T.ce.getD r 0
          (e.injected = false →
            (T.policy.threshold = 0 ∨ T.windowOpen = false ∨ T.ceWindow.getD e.region 0 + 1 < T.policy.threshold →
              ∃ t, exec (.correctableError dt e) s = .next t ∧ counted t ∧ t.dev.toc.rcd = T.rcd ∧ t.dev.toc.halted = false
                ∧ t.dev.toc.q7.length = (if T.policy.logCe = true ∧ e.region ∉ T.ceLogged ∧ T.q7.length < 64 then T.q7.length + 1 else T.q7.length))
            ∧ (T.policy.threshold ≠ 0 → T.windowOpen = true → T.policy.threshold ≤ T.ceWindow.getD e.region 0 + 1 → T.rcd.valid = false →
              ∃ t, exec (.correctableError dt e) s = .next t ∧ counted t ∧ t.dev.toc.halted = true ∧ t.dev.toc.rcd.cls = 8
                ∧ t.dev.toc.rcd.level = 2 ∧ t.dev.toc.rcd.region = e.region ∧ t.dev.toc.rcd.addr = T.ceWindow.getD e.region 0 + 1))
          ∧ (∀ j, e.injected = true → T.inject = some j → j.mode = 0 → j.kind = 1 → ∃ t, exec (.correctableError dt e) s = .next t
              ∧ t.dev.toc.ceTotal = T.ceTotal + 1 ∧ t.dev.toc.inject = none ∧ t.dev.toc.halted = false)))
    ∧ (s.dev.up = true → d.now % roundTicks = 0 → T.ceNew.any (· != 0) = true →
        (T.ceReported = none ∨ ∃ r, T.ceReported = some r ∧ r + 800 ≤ d.round) → exec (.faultCorrectedReport dt) s =
          .next (s.after dt (({ d with toc.ceNew := [0, 0, 0, 0, 0], toc.ceReported := some d.round } : Dev).emit 5
            (T.ceNew.flatMap u16 ++ u32 T.ceTotal))))
    ∧ (s.dev.izosh = true → exec (.heartbeat dt) s = .next (s.after dt { d with toc.beatAt := d.now }))
    ∧ (s.dev.up = true → d.sinceRef T.aliveAt 16000 = true → exec (.aliveToggle dt) s =
        .next (s.after dt { d with toc.alive := !T.alive, toc.aliveAt := d.now }))

/-- R692, R700: in a halt, the halt responder executes FLT_READ and SYS_INFO, answers WRONG_STATE to an FLT_ACK and HALTED to every
other packet; it goes on with the sequence indices. -/
def Obligations.HaltResponder : Prop :=
  ∀ (s : State) (dt : Nat) (p : QPkt), let d := s.dev.tick dt
    let q := d.nextReq p
    let e := d.taken p
    s.dev.toc.halted = true → s.dev.haltFront = some p → s.dev.canReply p.src = true →
      (p.opcode ≠ 0x0A01 → p.opcode ≠ 0x0A02 → p.opcode ≠ 0x0001 →
        exec (.haltResponderPacket dt) s = .next (s.answered dt q .halted [] e))
      ∧ (crcGood p.bytes = true → e.repeats q = false → q.ctx = 0xFF → q.badHeader = false → hasBit q.flags 0 = false →
        (p.opcode = 0x0001 → q.len = 0 → exec (.haltResponderPacket dt) s = .next (s.answered dt q .ok e.infoPayload e))
        ∧ (p.opcode = 0x0A01 → q.len = 4 → q.p8 0 ≤ 15 → zeroAt q.params 1 3 = true → q.src.isFabric = false →
          exec (.haltResponderPacket dt) s = .next (s.answered dt q .ok
            (recordBytes s.dev.toc.rcd s.dev.toc.ce s.dev.toc.logDrops (s.dev.toc.q7.length - q.p8 0) 1
              ++ (s.dev.toc.q7.take (q.p8 0)).flatten) { e with toc.q7 := s.dev.toc.q7.drop (q.p8 0) }))
        ∧ (p.opcode = 0x0A02 → e.critical q = false → q.len = 4 → q.p8 2 < 4 → zeroAt q.params 3 1 = true → q.src = e.proto.owner →
          exec (.haltResponderPacket dt) s = .next (s.answered dt q .wrongState [] e)))

/-- R699-R702: the commands FLT_READ, FLT_ACK, FLT_INJECT and FLT_POLICY. -/
def Obligations.FaultCommands : Prop :=
  ∀ (s : State) (dt : Nat) (q : Req) (e : Dev), q.badHeader = false →
    (s.admits dt 0x0A01 = some (q, e) → q.len = 4 → q.p8 0 ≤ 15 → zeroAt q.params 1 3 = true → (q.src.isFabric = true → q.p8 0 ≤ 5) →
      (∀ x ∈ e.toc.q7, x.length = 64) → e.toc.ce.length = 5 →
      exec (.fltRead dt) s = .next (s.answered dt q .ok
        (recordBytes e.toc.rcd e.toc.ce e.toc.logDrops (e.toc.q7.length - q.p8 0) (bit e.toc.halted) ++ (e.toc.q7.take (q.p8 0)).flatten)
        { e with toc.q7 := e.toc.q7.drop (q.p8 0) }))
    ∧ (s.admits dt 0x0A02 = some (q, e) → q.len = 4 → q.p8 2 < 4 → zeroAt q.params 3 1 = true → q.src = e.proto.owner → e.toc.halted = false →
      let T := e.toc
      let cleared (T : TocsinSt) : TocsinSt := { T with
        ce := if hasBit (q.p8 2) 0 then [0, 0, 0, 0, 0] else T.ce, logDrops := if hasBit (q.p8 2) 1 then 0 else T.logDrops }
      (q.p16 0 = 0 → exec (.fltAck dt) s = .next (s.answered dt q .ok [] { e with toc := cleared T }))
      ∧ (q.p16 0 ≠ 0 → T.rcd.valid = true → T.rcd.capture = q.p16 0 →
        let entry := recordBytes T.rcd T.ce 0 0 2
        (T.q7.length < 64 → exec (.fltAck dt) s =
          .next (s.answered dt q .ok [] { e with toc := cleared { T with rcd := {}, q7 := T.q7 ++ [entry] } }))
        ∧ (64 ≤ T.q7.length → exec (.fltAck dt) s =
          .next (s.answered dt q .ok [] { e with toc := cleared { T with rcd := {}, logDrops := satAdd 0xFFFF T.logDrops 1 } }))))
    ∧ (s.admits dt 0x0A03 = some (q, e) → q.len = 8 → q.src = e.proto.owner → e.inWatch = false → e.toc.inject = none →
      let (kind, region, block, mode, addr) := (q.p8 0, q.p8 1, q.p8 2, q.p8 3, q.p32 4)
      (kind ≤ 7 → e.blockUnfitted region block = false) → (kind = 8 → addr = 4 → e.hasFabric = true) →
      badInjection kind region block mode addr = false → (mode = 1 → e.toc.nextPolicy.allowHalt = true) →
      let j : Injection := { kind := kind, region := region, block := block, mode := mode, addr := addr, since := e.now }
      exec (.fltInject dt) s = .next (s.answered dt q .deferred [] { e with toc.inject := some j }))
    ∧ (s.admits dt 0x0A04 = some (q, e) → q.len = 8 → q.p16 2 ≤ 8000 → (q.p16 0 = 0 ↔ q.p16 2 = 0) → q.p8 4 ≤ 1 → q.p8 5 ≤ 1 →
      zeroAt q.params 6 2 = true → q.src = e.proto.owner → e.inWatch = false →
      exec (.fltPolicy dt) s = .next (s.answered dt q .ok (u64 e.nextBoundary) { e with
        toc.nextPolicy := { threshold := q.p16 0, window := q.p16 2, logCe := q.p8 4 == 1, allowHalt := q.p8 5 == 1 }
        toc.policyDue := some e.nextBoundary }))
end

