-- ==== Sys2Proof/Laws/Commands.lean ====
section
/-!
SUPPORT. How a row runs: what `run` and `runIf` answer, and what the row of a host command answers once its packet is admitted.
A statement about one command needs only the result of that command's own body.
-/
namespace Sys2Proof.Machine

/-- Nothing in the list is found exactly when nothing in it passes. -/
theorem find_none_iff (l : List CacheEntry) (p : CacheEntry → Bool) : l.find? p = none ↔ l.any p = false := by
  induction l with
  | nil => simp
  | cons a l ih => by_cases h : p a <;> simp [List.find?, h]

/-- The row of a command whose packet is admitted runs the command's body and answers its result. -/
theorem State.command_admitted {s : State} {dt op : Nat} {q : Req} {e : Dev} (body : Body) (h : s.admits dt op = some (q, e)) :
    s.command dt op body = .next (s.after dt (e.conclude q ((body q e).forFabric q e))) := by
  unfold State.admits Dev.admits at h
  split at h
  · cases h
  rename_i p hp
  dsimp only at h
  split at h
  · rename_i hc
    simp only [Bool.and_eq_true, beq_iff_eq, Bool.or_eq_true, decide_eq_true_eq, Bool.not_eq_true'] at hc
    obtain ⟨⟨⟨⟨⟨⟨h1, h2⟩, h3⟩, h4⟩, h5⟩, h6⟩, h7⟩ := hc
    have hf := (find_none_iff _ _).2 h5
    have h8 : (((s.dev.tick dt).nextReq p).ctx != 0xFF && decide (((s.dev.tick dt).taken p).nCtx ≤ ((s.dev.tick dt).nextReq p).ctx)) = false := by
      rcases h7 with h | h
      · simp [h]
      · simp [Nat.not_le.2 h]
    unfold State.command State.runIf State.run
    dsimp only
    have key : Dev.command op body (s.dev.tick dt) = e.conclude q ((body q e).forFabric q e) := by
      unfold Dev.command; rw [hp]; dsimp only; rw [if_pos h2]
      unfold Dev.take; rw [if_pos h3]; dsimp only
      change Dev.execute ((s.dev.tick dt).nextReq p) p.bytes body ((s.dev.tick dt).taken p) = _
      unfold Dev.execute
      rw [h4, hf, h6, h8]
      simp only [Bool.not_true, Bool.false_eq_true, if_false, Bool.false_or]
      split at h
      · cases h
      · rename_i hx; try rw [hx]
        simp only [Option.some.injEq, Prod.mk.injEq] at h; obtain ⟨rfl, rfl⟩ := h; rfl
    rw [if_pos h1, key]; rfl
  · cases h

/-- A result whose payload fits is not replaced by BAD_LENGTH. -/
theorem Res.forFabric_fits {q : Req} {r : Res} (e : Dev) (hf : q.fits r.payload = true) : r.forFabric q e = r := by
  unfold Res.forFabric; rw [if_neg]
  simp only [Req.fits, Bool.or_eq_true, Bool.not_eq_true', Bool.and_eq_true, decide_eq_true_eq] at hf
  simp only [Bool.and_eq_true, Bool.or_eq_true, decide_eq_true_eq, not_and, not_or, Nat.not_lt]
  intro h1; rcases hf with hf | hf
  · simp [hf] at h1
  · exact hf

/-- An admitted command whose body answers OK. -/
theorem State.command_ok {s : State} {dt op : Nat} {q : Req} {e d : Dev} {pl : List Byte} {body : Body} (h : s.admits dt op = some (q, e))
    (hb : body q e = okWith pl d) (hf : q.fits pl = true) : s.command dt op body = .next (s.answered dt q .ok pl d) := by
  rw [State.command_admitted body h, hb]
  have : (okWith pl d).forFabric q e = okWith pl d := Res.forFabric_fits e hf
  rw [this]; rfl

/-- An admitted command whose body answers DEFERRED. -/
theorem State.command_deferred {s : State} {dt op : Nat} {q : Req} {e d : Dev} {body : Body} (h : s.admits dt op = some (q, e))
    (hb : body q e = deferred d) (hf : q.fits [] = true) : s.command dt op body = .next (s.answered dt q .deferred [] d) := by
  rw [State.command_admitted body h, hb]
  have : (deferred d).forFabric q e = deferred d := Res.forFabric_fits e hf
  rw [this]; rfl

/-- An admitted command whose body refuses: the device keeps the state that admission left. -/
theorem State.command_refused {s : State} {dt op : Nat} {q : Req} {e d : Dev} {st : Status} {body : Body} (h : s.admits dt op = some (q, e))
    (hb : body q e = refuse st d) (ha : st.acts = false) (hf : q.fits [] = true) : s.command dt op body = .next (s.answered dt q st [] e) := by
  rw [State.command_admitted body h, hb]
  have : (refuse st d).forFabric q e = refuse st d := Res.forFabric_fits e hf
  rw [this]; unfold Dev.conclude refuse; simp [ha]; rfl

/-- No check fails where there is none. -/
@[simp] theorem firstFailure_nil : firstFailure [] = none := rfl

/-- The first check decides, or the rest does. -/
@[simp] theorem firstFailure_cons (b : Bool) (st : Status) (l : List (Bool × Status)) : firstFailure ((b, st) :: l) = if b then some st else firstFailure l := rfl

/-- Where no check fails, the command goes on. -/
theorem checked_none {d : Dev} {l : List (Bool × Status)} (go : Res) (h : firstFailure l = none) : checked d l go = go := by
  unfold checked; rw [h]

/-- What `run` answers. -/
theorem State.run_next (s : State) (dt : Nat) (f : Dev → Dev) : s.run dt f = .next (s.after dt (f (s.dev.tick dt))) := rfl

/-- What `runIf` answers where its condition holds. -/
theorem State.runIf_next {s : State} {dt : Nat} {p : Dev → Bool} (f : Dev → Dev) (h : p (s.dev.tick dt) = true) :
    s.runIf dt p f = .next (s.after dt (f (s.dev.tick dt))) := by
  unfold State.runIf; rw [State.run_next]; simp [h]

/-- The admitted request is one of the opcode asked for. -/
theorem State.admits_opcode {s : State} {dt op : Nat} {q : Req} {e : Dev} (h : s.admits dt op = some (q, e)) : q.opcode = op := by
  unfold State.admits Dev.admits at h
  split at h
  · cases h
  dsimp only at h
  split at h
  · rename_i hc
    simp only [Bool.and_eq_true, beq_iff_eq] at hc
    split at h
    · cases h
    · simp only [Option.some.injEq, Prod.mk.injEq] at h; obtain ⟨rfl, -⟩ := h; exact hc.1.1.1.1.1.2
  · cases h

/-- Where the reply's length does not vary with the parameters, only the payload's own length counts. -/
theorem Req.fits_fixed {q : Req} {pl : List Byte} (h : q.largestReply = 0) (hl : pl.length ≤ 434) : q.fits pl = true := by
  simp [Req.fits, h, fabricPayload, hl]

/-- What `runIf` answers where its condition does not hold: only time passes. -/
theorem State.runIf_skip {s : State} {dt : Nat} {p : Dev → Bool} (f : Dev → Dev) (h : p (s.dev.tick dt) = false) :
    s.runIf dt p f = .next (s.after dt (s.dev.tick dt)) := by
  unfold State.runIf; rw [State.run_next]; simp [h]

/-- What a reset or halt does to a programming of fuses under way: some of the bits asked for stay, and the job is gone. -/
theorem Dev.dropFuseJob_spec (d : Dev) : ∃ f n, d.dropFuseJob = { d with sec.fuses := f, sec.job := none, draws := n }
    ∧ (d.sec.job = none → f = d.sec.fuses) := by
  unfold Dev.dropFuseJob
  split
  · rename_i h
    refine ⟨d.sec.fuses, d.draws, ?_, fun _ => rfl⟩
    rw [← h]
  · rename_i j h; exact ⟨_, _, rfl, by simp [h]⟩

/-- Everything that a reset of kind `k` can do. -/
theorem Dev.reset_spec (k : ResetKind) (d : Dev) : ∃ f n, d.reset k =
    { now := d.now, pwr := d.pwr.reset k
      proto := { owner := if k.keeps then d.proto.owner else if d.pwr.hostSel then .twoWire else .spi }
      sec := SecSt.reset k { d.sec with fuses := f }
      cal := if k.keeps then d.cal.kept else {}
      cl := if k = .wake then d.cl.kept else if k = .restart || k = .full then { tx := d.cl.tx } else {}
      toc := d.toc.reset k, draws := n } ∧ (d.sec.job = none → f = d.sec.fuses) := by
  obtain ⟨f, n, h, hf⟩ := d.dropFuseJob_spec
  exact ⟨f, n, by unfold Dev.reset; rw [h]; rfl, hf⟩

end Sys2Proof.Machine
end

