-- ==== Sys2Proof/Laws/Dispatch.lean ====
section
/-!
SUPPORT. What `exec` answers for each command: its meaning.
-/
namespace Sys2Proof.Machine

variable (s : State)

@[simp] theorem exec_powerOn (dt : Nat) : exec (.powerOn dt) s = execPowerOn dt s := rfl
@[simp] theorem exec_vddAonBrownOut (dt : Nat) : exec (.vddAonBrownOut dt) s = execVddAonBrownOut dt s := rfl
@[simp] theorem exec_vddCoreBrownOut (dt : Nat) : exec (.vddCoreBrownOut dt) s = execVddCoreBrownOut dt s := rfl
@[simp] theorem exec_resetNAssert (dt : Nat) : exec (.resetNAssert dt) s = execResetNAssert dt s := rfl
@[simp] theorem exec_resetNRelease (dt : Nat) : exec (.resetNRelease dt) s = execResetNRelease dt s := rfl
@[simp] theorem exec_testModeChange (dt : Nat) (level : Bool) : exec (.testModeChange dt level) s = execTestModeChange dt level s := rfl
@[simp] theorem exec_strapSampling (dt : Nat) (hostSel : Bool) (twAddr : BitVec 3) :
    exec (.strapSampling dt hostSel twAddr) s = execStrapSampling dt hostSel twAddr s := rfl
@[simp] theorem exec_fuseReadDone (dt : Nat) (ok : Bool) : exec (.fuseReadDone dt ok) s = execFuseReadDone dt ok s := rfl
@[simp] theorem exec_bootPllALock (dt : Nat) (ok : Bool) : exec (.bootPllALock dt ok) s = execBootPllALock dt ok s := rfl
@[simp] theorem exec_bootSramInitDone (dt : Nat) (bad : Option ErrIn) : exec (.bootSramInitDone dt bad) s = execBootSramInitDone dt bad s := rfl
@[simp] theorem exec_bootRomCheckDone (dt : Nat) (ok : Bool) : exec (.bootRomCheckDone dt ok) s = execBootRomCheckDone dt ok s := rfl
@[simp] theorem exec_bootDone (dt : Nat) : exec (.bootDone dt) s = execBootDone dt s := rfl
@[simp] theorem exec_refclkLoss (dt : Nat) (sinceEdge : Nat) : exec (.refclkLoss dt sinceEdge) s = execRefclkLoss dt sinceEdge s := rfl
@[simp] theorem exec_refclkRestoredInReset (dt : Nat) : exec (.refclkRestoredInReset dt) s = execRefclkRestoredInReset dt s := rfl
@[simp] theorem exec_thermalWarning (dt : Nat) (tHot tAvg : Int) : exec (.thermalWarning dt tHot tAvg) s = execThermalWarning dt tHot tAvg s := rfl
@[simp] theorem exec_thermalShutdown (dt : Nat) (sensors : List Nat) (tHot : Int) :
    exec (.thermalShutdown dt sensors tHot) s = execThermalShutdown dt sensors tHot s := rfl
@[simp] theorem exec_fuseEnChange (dt : Nat) (level vppOk : Bool) : exec (.fuseEnChange dt level vppOk) s = execFuseEnChange dt level vppOk s := rfl
@[simp] theorem exec_sysInfo (dt : Nat) : exec (.sysInfo dt) s = execSysInfo dt s := rfl
@[simp] theorem exec_sysPower (dt : Nat) : exec (.sysPower dt) s = execSysPower dt s := rfl
@[simp] theorem exec_sysPatchLoad (dt : Nat) : exec (.sysPatchLoad dt) s = execSysPatchLoad dt s := rfl
@[simp] theorem exec_sysReset (dt : Nat) : exec (.sysReset dt) s = execSysReset dt s := rfl
@[simp] theorem exec_propSet (dt : Nat) : exec (.propSet dt) s = execPropSet dt s := rfl
@[simp] theorem exec_propGet (dt : Nat) : exec (.propGet dt) s = execPropGet dt s := rfl
@[simp] theorem exec_evtRoute (dt : Nat) : exec (.evtRoute dt) s = execEvtRoute dt s := rfl
@[simp] theorem exec_sysOwner (dt : Nat) : exec (.sysOwner dt) s = execSysOwner dt s := rfl
@[simp] theorem exec_sysTemp (dt : Nat) (tHot tAvg : Int) : exec (.sysTemp dt tHot tAvg) s = execSysTemp dt tHot tAvg s := rfl
@[simp] theorem exec_reservedOpcode (dt : Nat) : exec (.reservedOpcode dt) s = execReservedOpcode dt s := rfl
@[simp] theorem exec_sleepEntry (dt : Nat) : exec (.sleepEntry dt) s = execSleepEntry dt s := rfl
@[simp] theorem exec_sysResetTakesEffect (dt : Nat) : exec (.sysResetTakesEffect dt) s = execSysResetTakesEffect dt s := rfl
@[simp] theorem exec_spiCmdPush (dt : Nat) (bytes : List Byte) : exec (.spiCmdPush dt bytes) s = execSpiCmdPush dt bytes s := rfl
@[simp] theorem exec_spiRspPull (dt : Nat) (clocked : Nat) : exec (.spiRspPull dt clocked) s = execSpiRspPull dt clocked s := rfl
@[simp] theorem exec_spiEvtPull (dt : Nat) (clocked : Nat) : exec (.spiEvtPull dt clocked) s = execSpiEvtPull dt clocked s := rfl
@[simp] theorem exec_spiDataPull (dt : Nat) (queue clocked : Nat) : exec (.spiDataPull dt queue clocked) s = execSpiDataPull dt queue clocked s := rfl
@[simp] theorem exec_spiFastStatus (dt : Nat) : exec (.spiFastStatus dt) s = execSpiFastStatus dt s := rfl
@[simp] theorem exec_spiUnknownInstruction (dt : Nat) (code : Byte) :
    exec (.spiUnknownInstruction dt code) s = execSpiUnknownInstruction dt code s := rfl
@[simp] theorem exec_registerWrite (dt : Nat) (port : RegPort) (addr : Nat) (values : List Word) :
    exec (.registerWrite dt port addr values) s = execRegisterWrite dt port addr values s := rfl
@[simp] theorem exec_irqStatusWrite (dt : Nat) (port : RegPort) (reg : Nat) (value : Word) :
    exec (.irqStatusWrite dt port reg value) s = execIrqStatusWrite dt port reg value s := rfl
@[simp] theorem exec_sysStatusClear (dt : Nat) (port : RegPort) (value : Word) :
    exec (.sysStatusClear dt port value) s = execSysStatusClear dt port value s := rfl
@[simp] theorem exec_twStatusClear (dt : Nat) (port : RegPort) (value : Word) :
    exec (.twStatusClear dt port value) s = execTwStatusClear dt port value s := rfl
@[simp] theorem exec_twCfgWrite (dt : Nat) (port : RegPort) (value : Word) :
    exec (.twCfgWrite dt port value) s = execTwCfgWrite dt port value s := rfl
@[simp] theorem exec_tocsinTimeLoRead (dt : Nat) (addr count : Nat) :
    exec (.tocsinTimeLoRead dt addr count) s = execTocsinTimeLoRead dt addr count s := rfl
@[simp] theorem exec_twPointerWrite (dt : Nat) (bytes : List Byte) : exec (.twPointerWrite dt bytes) s = execTwPointerWrite dt bytes s := rfl
@[simp] theorem exec_twMirrorRead (dt : Nat) (count : Nat) : exec (.twMirrorRead dt count) s = execTwMirrorRead dt count s := rfl
@[simp] theorem exec_twCommandMailboxWrite (dt : Nat) (bytes : List Byte) :
    exec (.twCommandMailboxWrite dt bytes) s = execTwCommandMailboxWrite dt bytes s := rfl
@[simp] theorem exec_twPendingPacketEntersQ2 (dt : Nat) : exec (.twPendingPacketEntersQ2 dt) s = execTwPendingPacketEntersQ2 dt s := rfl
@[simp] theorem exec_twMailboxStatusRead (dt : Nat) (count : Nat) : exec (.twMailboxStatusRead dt count) s = execTwMailboxStatusRead dt count s := rfl
@[simp] theorem exec_twReplyMailboxRead (dt : Nat) (count : Nat) : exec (.twReplyMailboxRead dt count) s = execTwReplyMailboxRead dt count s := rfl
@[simp] theorem exec_twEventMailboxRead (dt : Nat) (count : Nat) : exec (.twEventMailboxRead dt count) s = execTwEventMailboxRead dt count s := rfl
@[simp] theorem exec_twAlertResponse (dt : Nat) (lostAt : Option Nat) : exec (.twAlertResponse dt lostAt) s = execTwAlertResponse dt lostAt s := rfl
@[simp] theorem exec_twTargetTimeout (dt : Nat) (sdaHeld : Bool) (part : TwPart) :
    exec (.twTargetTimeout dt sdaHeld part) s = execTwTargetTimeout dt sdaHeld part s := rfl
@[simp] theorem exec_twcXfer (dt : Nat) : exec (.twcXfer dt) s = execTwcXfer dt s := rfl
@[simp] theorem exec_twcRecover (dt : Nat) : exec (.twcRecover dt) s = execTwcRecover dt s := rfl
@[simp] theorem exec_twcStatus (dt : Nat) : exec (.twcStatus dt) s = execTwcStatus dt s := rfl
@[simp] theorem exec_twcAttemptStart (dt : Nat) (linesHigh : Bool) :
    exec (.twcAttemptStart dt linesHigh) s = execTwcAttemptStart dt linesHigh s := rfl
@[simp] theorem exec_twcBusFreeTimeout (dt : Nat) : exec (.twcBusFreeTimeout dt) s = execTwcBusFreeTimeout dt s := rfl
@[simp] theorem exec_twArbLost (dt : Nat) (byteNo bitNo : Nat) (rdData : List Byte) :
    exec (.twArbLost dt byteNo bitNo rdData) s = execTwArbLost dt byteNo bitNo rdData s := rfl
@[simp] theorem exec_twcTransferEnd (dt : Nat) (result wrDone : Nat) (rdData : List Byte) :
    exec (.twcTransferEnd dt result wrDone rdData) s = execTwcTransferEnd dt result wrDone rdData s := rfl
@[simp] theorem exec_twcSclLowTimeout (dt : Nat) (wrDone : Nat) (rdData : List Byte) :
    exec (.twcSclLowTimeout dt wrDone rdData) s = execTwcSclLowTimeout dt wrDone rdData s := rfl
@[simp] theorem exec_twRecoveryDone (dt : Nat) (pulses : Nat) (released : Bool) :
    exec (.twRecoveryDone dt pulses released) s = execTwRecoveryDone dt pulses released s := rfl
@[simp] theorem exec_twRecoverySclTimeout (dt : Nat) : exec (.twRecoverySclTimeout dt) s = execTwRecoverySclTimeout dt s := rfl
@[simp] theorem exec_replyQueueWaitTimeout (dt : Nat) : exec (.replyQueueWaitTimeout dt) s = execReplyQueueWaitTimeout dt s := rfl
@[simp] theorem exec_secNonce (dt : Nat) : exec (.secNonce dt) s = execSecNonce dt s := rfl
@[simp] theorem exec_secFuseRead (dt : Nat) : exec (.secFuseRead dt) s = execSecFuseRead dt s := rfl
@[simp] theorem exec_secFuseProgram (dt : Nat) : exec (.secFuseProgram dt) s = execSecFuseProgram dt s := rfl
@[simp] theorem exec_fuseProgrammingDone (dt : Nat) (setBits givenUp : List Byte) (stopped : Bool) :
    exec (.fuseProgrammingDone dt setBits givenUp stopped) s = execFuseProgrammingDone dt setBits givenUp stopped s := rfl
@[simp] theorem exec_secDebugUnlock (dt : Nat) : exec (.secDebugUnlock dt) s = execSecDebugUnlock dt s := rfl
@[simp] theorem exec_clkAudio (dt : Nat) : exec (.clkAudio dt) s = execClkAudio dt s := rfl
@[simp] theorem exec_clkSpurPlan (dt : Nat) : exec (.clkSpurPlan dt) s = execClkSpurPlan dt s := rfl
@[simp] theorem exec_clkStatus (dt : Nat) : exec (.clkStatus dt) s = execClkStatus dt s := rfl
@[simp] theorem exec_pllALockLoss (dt : Nat) : exec (.pllALockLoss dt) s = execPllALockLoss dt s := rfl
@[simp] theorem exec_plldLiveLockLoss (dt : Nat) : exec (.plldLiveLockLoss dt) s = execPlldLiveLockLoss dt s := rfl
@[simp] theorem exec_pllFLockLoss (dt : Nat) : exec (.pllFLockLoss dt) s = execPllFLockLoss dt s := rfl
@[simp] theorem exec_pllAudLockLoss (dt : Nat) : exec (.pllAudLockLoss dt) s = execPllAudLockLoss dt s := rfl
@[simp] theorem exec_plldIdleLock (dt : Nat) : exec (.plldIdleLock dt) s = execPlldIdleLock dt s := rfl
@[simp] theorem exec_plldLockAttemptTimeout (dt : Nat) : exec (.plldLockAttemptTimeout dt) s = execPlldLockAttemptTimeout dt s := rfl
@[simp] theorem exec_handshakeQuietPoint (dt : Nat) : exec (.handshakeQuietPoint dt) s = execHandshakeQuietPoint dt s := rfl
@[simp] theorem exec_audioRefEdgeFault (dt : Nat) (gap : Nat) : exec (.audioRefEdgeFault dt gap) s = execAudioRefEdgeFault dt gap s := rfl
@[simp] theorem exec_audioRefLost (dt : Nat) (gap : Nat) (offset : Int) :
    exec (.audioRefLost dt gap offset) s = execAudioRefLost dt gap offset s := rfl
@[simp] theorem exec_audioRefValid (dt : Nat) (edges worst : Nat) : exec (.audioRefValid dt edges worst) s = execAudioRefValid dt edges worst s := rfl
@[simp] theorem exec_audioPllPhaseLock (dt : Nat) (offset : Int) : exec (.audioPllPhaseLock dt offset) s = execAudioPllPhaseLock dt offset s := rfl
@[simp] theorem exec_audioPllLocked (dt : Nat) (offset : Int) : exec (.audioPllLocked dt offset) s = execAudioPllLocked dt offset s := rfl
@[simp] theorem exec_audioPllRelockTimeout (dt : Nat) : exec (.audioPllRelockTimeout dt) s = execAudioPllRelockTimeout dt s := rfl
@[simp] theorem exec_handshakeTimeout (dt : Nat) (crossing farRegion region block held stalled : Nat) :
    exec (.handshakeTimeout dt crossing farRegion region block held stalled) s = execHandshakeTimeout dt crossing farRegion region block held stalled s := rfl
@[simp] theorem exec_roundBoundary (dt : Nat) (inp : RoundIn) : exec (.roundBoundary dt inp) s = execRoundBoundary dt inp s := rfl
@[simp] theorem exec_traversePlanFreeze (dt : Nat) : exec (.traversePlanFreeze dt) s = execTraversePlanFreeze dt s := rfl
@[simp] theorem exec_pagerRestore (dt : Nat) (ctx : Nat) : exec (.pagerRestore dt ctx) s = execPagerRestore dt ctx s := rfl
@[simp] theorem exec_pagerPark (dt : Nat) (ctx : Nat) : exec (.pagerPark dt ctx) s = execPagerPark dt ctx s := rfl
@[simp] theorem exec_dwellEnd (dt : Nat) (ctx : Nat) : exec (.dwellEnd dt ctx) s = execDwellEnd dt ctx s := rfl
@[simp] theorem exec_noResourceStarvation (dt : Nat) : exec (.noResourceStarvation dt) s = execNoResourceStarvation dt s := rfl
@[simp] theorem exec_ctxOpen (dt : Nat) : exec (.ctxOpen dt) s = execCtxOpen dt s := rfl
@[simp] theorem exec_ctxClose (dt : Nat) : exec (.ctxClose dt) s = execCtxClose dt s := rfl
@[simp] theorem exec_ctxConfig (dt : Nat) : exec (.ctxConfig dt) s = execCtxConfig dt s := rfl
@[simp] theorem exec_ctxStatus (dt : Nat) : exec (.ctxStatus dt) s = execCtxStatus dt s := rfl
@[simp] theorem exec_ctxTune (dt : Nat) : exec (.ctxTune dt) s = execCtxTune dt s := rfl
@[simp] theorem exec_ctxSuspend (dt : Nat) : exec (.ctxSuspend dt) s = execCtxSuspend dt s := rfl
@[simp] theorem exec_ctxResume (dt : Nat) : exec (.ctxResume dt) s = execCtxResume dt s := rfl
@[simp] theorem exec_ctxHandover (dt : Nat) : exec (.ctxHandover dt) s = execCtxHandover dt s := rfl
@[simp] theorem exec_resStatus (dt : Nat) : exec (.resStatus dt) s = execResStatus dt s := rfl
@[simp] theorem exec_feInput (dt : Nat) (tAvg : Int) : exec (.feInput dt tAvg) s = execFeInput dt tAvg s := rfl
@[simp] theorem exec_feAgc (dt : Nat) : exec (.feAgc dt) s = execFeAgc dt s := rfl
@[simp] theorem exec_feXamp (dt : Nat) : exec (.feXamp dt) s = execFeXamp dt s := rfl
@[simp] theorem exec_feDiag (dt : Nat) : exec (.feDiag dt) s = execFeDiag dt s := rfl
@[simp] theorem exec_feLband (dt : Nat) : exec (.feLband dt) s = execFeLband dt s := rfl
@[simp] theorem exec_agcWindowEnd (dt : Nat) (input : Nat) (codes : List Int) (detMain detLb : Int) :
    exec (.agcWindowEnd dt input codes detMain detLb) s = execAgcWindowEnd dt input codes detMain detLb s := rfl
@[simp] theorem exec_auxAdcSample (dt : Nat) (input mv : Nat) : exec (.auxAdcSample dt input mv) s = execAuxAdcSample dt input mv s := rfl
@[simp] theorem exec_xampInrushExpiry (dt : Nat) (input : Nat) : exec (.xampInrushExpiry dt input) s = execXampInrushExpiry dt input s := rfl
@[simp] theorem exec_xampSettleExpiry (dt : Nat) (input : Nat) : exec (.xampSettleExpiry dt input) s = execXampSettleExpiry dt input s := rfl
@[simp] theorem exec_xampEepromReadDone (dt : Nat) (result : Nat) (bytes : List Byte) :
    exec (.xampEepromReadDone dt result bytes) s = execXampEepromReadDone dt result bytes s := rfl
@[simp] theorem exec_xampOffDelayExpiry (dt : Nat) (input : Nat) : exec (.xampOffDelayExpiry dt input) s = execXampOffDelayExpiry dt input s := rfl
@[simp] theorem exec_xampRetryWaitExpiry (dt : Nat) (input : Nat) : exec (.xampRetryWaitExpiry dt input) s = execXampRetryWaitExpiry dt input s := rfl
@[simp] theorem exec_syn0Lock (dt : Nat) : exec (.syn0Lock dt) s = execSyn0Lock dt s := rfl
@[simp] theorem exec_syn0LockLoss (dt : Nat) : exec (.syn0LockLoss dt) s = execSyn0LockLoss dt s := rfl
@[simp] theorem exec_syn0ReacquireTimeout (dt : Nat) : exec (.syn0ReacquireTimeout dt) s = execSyn0ReacquireTimeout dt s := rfl
@[simp] theorem exec_calRun (dt : Nat) : exec (.calRun dt) s = execCalRun dt s := rfl
@[simp] theorem exec_calRead (dt : Nat) : exec (.calRead dt) s = execCalRead dt s := rfl
@[simp] theorem exec_calWrite (dt : Nat) (tAvg : Int) : exec (.calWrite dt tAvg) s = execCalWrite dt tAvg s := rfl
@[simp] theorem exec_synTableRead (dt : Nat) : exec (.synTableRead dt) s = execSynTableRead dt s := rfl
@[simp] theorem exec_synTableWrite (dt : Nat) (tAvg : Int) : exec (.synTableWrite dt tAvg) s = execSynTableWrite dt tAvg s := rfl
@[simp] theorem exec_calPassEnd (dt : Nat) (input : Nat) (trims : List Byte) (codes : List Int) (tAvg : Int) :
    exec (.calPassEnd dt input trims codes tAvg) s = execCalPassEnd dt input trims codes tAvg s := rfl
@[simp] theorem exec_calApplyDone (dt : Nat) (input : Nat) : exec (.calApplyDone dt input) s = execCalApplyDone dt input s := rfl
@[simp] theorem exec_syn0SearchEnd (dt : Nat) (band cap : Nat) (tAvg : Int) :
    exec (.syn0SearchEnd dt band cap tAvg) s = execSyn0SearchEnd dt band cap tAvg s := rfl
@[simp] theorem exec_calTemperatureCheck (dt : Nat) (tAvg : Int) : exec (.calTemperatureCheck dt tAvg) s = execCalTemperatureCheck dt tAvg s := rfl
@[simp] theorem exec_syn1ChannelCalDone (dt : Nat) (ok : Bool) (band cap : Nat) (tAvg : Int) :
    exec (.syn1ChannelCalDone dt ok band cap tAvg) s = execSyn1ChannelCalDone dt ok band cap tAvg s := rfl
@[simp] theorem exec_surveyCycleBoundary (dt : Nat) : exec (.surveyCycleBoundary dt) s = execSurveyCycleBoundary dt s := rfl
@[simp] theorem exec_surveyVisitEnd (dt : Nat) (seg : Nat) : exec (.surveyVisitEnd dt seg) s = execSurveyVisitEnd dt seg s := rfl
@[simp] theorem exec_surveyCfg (dt : Nat) : exec (.surveyCfg dt) s = execSurveyCfg dt s := rfl
@[simp] theorem exec_surveyRead (dt : Nat) : exec (.surveyRead dt) s = execSurveyRead dt s := rfl
@[simp] theorem exec_coefLoad (dt : Nat) : exec (.coefLoad dt) s = execCoefLoad dt s := rfl
@[simp] theorem exec_slotStatus (dt : Nat) : exec (.slotStatus dt) s = execSlotStatus dt s := rfl
@[simp] theorem exec_slotPin (dt : Nat) : exec (.slotPin dt) s = execSlotPin dt s := rfl
@[simp] theorem exec_nbWindowEnd (dt : Nat) (ctx : Nat) : exec (.nbWindowEnd dt ctx) s = execNbWindowEnd dt ctx s := rfl
@[simp] theorem exec_amCoarseSearchDone (dt : Nat) (ctx : Nat) : exec (.amCoarseSearchDone dt ctx) s = execAmCoarseSearchDone dt ctx s := rfl
@[simp] theorem exec_nbCfg (dt : Nat) : exec (.nbCfg dt) s = execNbCfg dt s := rfl
@[simp] theorem exec_nbMetrics (dt : Nat) : exec (.nbMetrics dt) s = execNbMetrics dt s := rfl
@[simp] theorem exec_rdsBlockDecoded (dt : Nat) (ctx stream : Nat) :
    exec (.rdsBlockDecoded dt ctx stream) s = execRdsBlockDecoded dt ctx stream s := rfl
@[simp] theorem exec_rdsGroupComplete (dt : Nat) (ctx stream : Nat) :
    exec (.rdsGroupComplete dt ctx stream) s = execRdsGroupComplete dt ctx stream s := rfl
@[simp] theorem exec_rdsCfg (dt : Nat) : exec (.rdsCfg dt) s = execRdsCfg dt s := rfl
@[simp] theorem exec_rdsStatus (dt : Nat) : exec (.rdsStatus dt) s = execRdsStatus dt s := rfl
@[simp] theorem exec_dabNullDetected (dt : Nat) (inst : Nat) : exec (.dabNullDetected dt inst) s = execDabNullDetected dt inst s := rfl
@[simp] theorem exec_dabPrsProcessed (dt : Nat) (inst : Nat) : exec (.dabPrsProcessed dt inst) s = execDabPrsProcessed dt inst s := rfl
@[simp] theorem exec_dabFibDecoded (dt : Nat) (inst : Nat) (good : Bool) (bytes : List Byte) (figs : List Fig) :
    exec (.dabFibDecoded dt inst good bytes figs) s = execDabFibDecoded dt inst good bytes figs s := rfl
@[simp] theorem exec_dabDatabaseComplete (dt : Nat) (inst : Nat) : exec (.dabDatabaseComplete dt inst) s = execDabDatabaseComplete dt inst s := rfl
@[simp] theorem exec_dabCifDecoded (dt : Nat) (ctx cif : Nat) (bytes : List Byte) (ber : Nat) :
    exec (.dabCifDecoded dt ctx cif bytes ber) s = execDabCifDecoded dt ctx cif bytes ber s := rfl
@[simp] theorem exec_dabLayer2Frame (dt : Nat) (ctx : Nat) (headerOk : Bool) :
    exec (.dabLayer2Frame dt ctx headerOk) s = execDabLayer2Frame dt ctx headerOk s := rfl
@[simp] theorem exec_dabSuperframe (dt : Nat) (ctx : Nat) (pass : Bool) (corrected failed : Nat) (aus : List Bool) :
    exec (.dabSuperframe dt ctx pass corrected failed aus) s = execDabSuperframe dt ctx pass corrected failed aus s := rfl
@[simp] theorem exec_dabPacketDataGroup (dt : Nat) (ctx addr : Nat) (xpad crc : Bool) (bytes : List Byte) :
    exec (.dabPacketDataGroup dt ctx addr xpad crc bytes) s = execDabPacketDataGroup dt ctx addr xpad crc bytes s := rfl
@[simp] theorem exec_dabSyncLoss (dt : Nat) (inst : Nat) : exec (.dabSyncLoss dt inst) s = execDabSyncLoss dt inst s := rfl
@[simp] theorem exec_dabAnnouncementTimeout (dt : Nat) : exec (.dabAnnouncementTimeout dt) s = execDabAnnouncementTimeout dt s := rfl
@[simp] theorem exec_dabEnsemble (dt : Nat) : exec (.dabEnsemble dt) s = execDabEnsemble dt s := rfl
@[simp] theorem exec_dabServiceSelect (dt : Nat) : exec (.dabServiceSelect dt) s = execDabServiceSelect dt s := rfl
@[simp] theorem exec_dabFicDump (dt : Nat) : exec (.dabFicDump dt) s = execDabFicDump dt s := rfl
@[simp] theorem exec_dabMetrics (dt : Nat) : exec (.dabMetrics dt) s = execDabMetrics dt s := rfl
@[simp] theorem exec_drmModeFound (dt : Nat) (ctx : Nat) : exec (.drmModeFound dt ctx) s = execDrmModeFound dt ctx s := rfl
@[simp] theorem exec_drmFrequencyFound (dt : Nat) (ctx : Nat) : exec (.drmFrequencyFound dt ctx) s = execDrmFrequencyFound dt ctx s := rfl
@[simp] theorem exec_drmFrameFound (dt : Nat) (ctx : Nat) : exec (.drmFrameFound dt ctx) s = execDrmFrameFound dt ctx s := rfl
@[simp] theorem exec_drmFacDecoded (dt : Nat) (ctx : Nat) (good : Bool) (fac : DrmFac) :
    exec (.drmFacDecoded dt ctx good fac) s = execDrmFacDecoded dt ctx good fac s := rfl
@[simp] theorem exec_drmSdcDecoded (dt : Nat) (ctx : Nat) (good : Bool) (sdc : DrmSdc) :
    exec (.drmSdcDecoded dt ctx good sdc) s = execDrmSdcDecoded dt ctx good sdc s := rfl
@[simp] theorem exec_drmMscFrameDecoded (dt : Nat) (ctx : Nat) : exec (.drmMscFrameDecoded dt ctx) s = execDrmMscFrameDecoded dt ctx s := rfl
@[simp] theorem exec_drmAudioSuperframe (dt : Nat) (ctx : Nat) (headerOk : Bool) (aus : List Bool) :
    exec (.drmAudioSuperframe dt ctx headerOk aus) s = execDrmAudioSuperframe dt ctx headerOk aus s := rfl
@[simp] theorem exec_drmTextMessageComplete (dt : Nat) (ctx toggle : Nat) (bytes : List Byte) :
    exec (.drmTextMessageComplete dt ctx toggle bytes) s = execDrmTextMessageComplete dt ctx toggle bytes s := rfl
@[simp] theorem exec_drmDataUnit (dt : Nat) (ctx : Nat) (crcOk : Bool) (bytes : List Byte) :
    exec (.drmDataUnit dt ctx crcOk bytes) s = execDrmDataUnit dt ctx crcOk bytes s := rfl
@[simp] theorem exec_drmSyncLoss (dt : Nat) (ctx : Nat) : exec (.drmSyncLoss dt ctx) s = execDrmSyncLoss dt ctx s := rfl
@[simp] theorem exec_drmAlarmSdcTimeout (dt : Nat) : exec (.drmAlarmSdcTimeout dt) s = execDrmAlarmSdcTimeout dt s := rfl
@[simp] theorem exec_drmCfg (dt : Nat) : exec (.drmCfg dt) s = execDrmCfg dt s := rfl
@[simp] theorem exec_drmServiceSelect (dt : Nat) : exec (.drmServiceSelect dt) s = execDrmServiceSelect dt s := rfl
@[simp] theorem exec_drmMetrics (dt : Nat) : exec (.drmMetrics dt) s = execDrmMetrics dt s := rfl
@[simp] theorem exec_cmbCfg (dt : Nat) : exec (.cmbCfg dt) s = execCmbCfg dt s := rfl
@[simp] theorem exec_cmbStatus (dt : Nat) : exec (.cmbStatus dt) s = execCmbStatus dt s := rfl
@[simp] theorem exec_fbChangedReport (dt : Nat) : exec (.fbChangedReport dt) s = execFbChangedReport dt s := rfl
@[simp] theorem exec_fbQuery (dt : Nat) : exec (.fbQuery dt) s = execFbQuery dt s := rfl
@[simp] theorem exec_fbPut (dt : Nat) : exec (.fbPut dt) s = execFbPut dt s := rfl
@[simp] theorem exec_fbDrop (dt : Nat) : exec (.fbDrop dt) s = execFbDrop dt s := rfl
@[simp] theorem exec_fbExport (dt : Nat) : exec (.fbExport dt) s = execFbExport dt s := rfl
@[simp] theorem exec_fbImport (dt : Nat) : exec (.fbImport dt) s = execFbImport dt s := rfl
@[simp] theorem exec_followCfg (dt : Nat) : exec (.followCfg dt) s = execFollowCfg dt s := rfl
@[simp] theorem exec_followStatus (dt : Nat) : exec (.followStatus dt) s = execFollowStatus dt s := rfl
@[simp] theorem exec_followEvaluation (dt : Nat) (prog : Nat) : exec (.followEvaluation dt prog) s = execFollowEvaluation dt prog s := rfl
@[simp] theorem exec_followAlignMeasurement (dt : Nat) (prog : Nat) :
    exec (.followAlignMeasurement dt prog) s = execFollowAlignMeasurement dt prog s := rfl
@[simp] theorem exec_followAlignTimeout (dt : Nat) (prog : Nat) : exec (.followAlignTimeout dt prog) s = execFollowAlignTimeout dt prog s := rfl
@[simp] theorem exec_followPartnerReady (dt : Nat) (prog : Nat) : exec (.followPartnerReady dt prog) s = execFollowPartnerReady dt prog s := rfl
@[simp] theorem exec_fadeEnd (dt : Nat) (prog : Nat) : exec (.fadeEnd dt prog) s = execFadeEnd dt prog s := rfl
@[simp] theorem exec_audioFrameDecoded (dt : Nat) (ctx : Nat) (bad : Bool) (rate : Nat) (layout : Nat) (pcm : List (Int × Int)) :
    exec (.audioFrameDecoded dt ctx bad rate layout pcm) s = execAudioFrameDecoded dt ctx bad rate layout pcm s := rfl
@[simp] theorem exec_progRoute (dt : Nat) : exec (.progRoute dt) s = execProgRoute dt s := rfl
@[simp] theorem exec_portCfg (dt : Nat) : exec (.portCfg dt) s = execPortCfg dt s := rfl
@[simp] theorem exec_portRun (dt : Nat) : exec (.portRun dt) s = execPortRun dt s := rfl
@[simp] theorem exec_spdifCfg (dt : Nat) : exec (.spdifCfg dt) s = execSpdifCfg dt s := rfl
@[simp] theorem exec_progLevel (dt : Nat) : exec (.progLevel dt) s = execProgLevel dt s := rfl
@[simp] theorem exec_blendCfg (dt : Nat) : exec (.blendCfg dt) s = execBlendCfg dt s := rfl
@[simp] theorem exec_audioStatus (dt : Nat) : exec (.audioStatus dt) s = execAudioStatus dt s := rfl
@[simp] theorem exec_portFaultFrame (dt : Nat) (leader kind : Nat) :
    exec (.portFaultFrame dt leader kind) s = execPortFaultFrame dt leader kind s := rfl
@[simp] theorem exec_portFaultClear (dt : Nat) (leader : Nat) : exec (.portFaultClear dt leader) s = execPortFaultClear dt leader s := rfl
@[simp] theorem exec_portSlaveClockLost (dt : Nat) (port gap faults : Nat) (offset : Int) :
    exec (.portSlaveClockLost dt port gap faults offset) s = execPortSlaveClockLost dt port gap faults offset s := rfl
@[simp] theorem exec_portSlaveClockValid (dt : Nat) (port frames bclks : Nat) (worst : Int) :
    exec (.portSlaveClockValid dt port frames bclks worst) s = execPortSlaveClockValid dt port frames bclks worst s := rfl
@[simp] theorem exec_portStopComplete (dt : Nat) (output : Nat) : exec (.portStopComplete dt output) s = execPortStopComplete dt output s := rfl
@[simp] theorem exec_spdifInLost (dt : Nat) (gap errors : Nat) (offset : Int) :
    exec (.spdifInLost dt gap errors offset) s = execSpdifInLost dt gap errors offset s := rfl
@[simp] theorem exec_spdifInValid (dt : Nat) (frames errors : Nat) (offset : Int) :
    exec (.spdifInValid dt frames errors offset) s = execSpdifInValid dt frames errors offset s := rfl
@[simp] theorem exec_queueCfg (dt : Nat) : exec (.queueCfg dt) s = execQueueCfg dt s := rfl
@[simp] theorem exec_queueBind (dt : Nat) : exec (.queueBind dt) s = execQueueBind dt s := rfl
@[simp] theorem exec_queueStatus (dt : Nat) : exec (.queueStatus dt) s = execQueueStatus dt s := rfl
@[simp] theorem exec_queueFlush (dt : Nat) : exec (.queueFlush dt) s = execQueueFlush dt s := rfl
@[simp] theorem exec_motDataGroup (dt : Nat) (ctx typ tid seg : Nat) (last : Bool) (bytes : List Byte) (entries : List (Nat × List Byte)) :
    exec (.motDataGroup dt ctx typ tid seg last bytes entries) s = execMotDataGroup dt ctx typ tid seg last bytes entries s := rfl
@[simp] theorem exec_motObjectTimeout (dt : Nat) : exec (.motObjectTimeout dt) s = execMotObjectTimeout dt s := rfl
@[simp] theorem exec_watchList (dt : Nat) (tAvg : Int) : exec (.watchList dt tAvg) s = execWatchList dt tAvg s := rfl
@[simp] theorem exec_watchEnter (dt : Nat) : exec (.watchEnter dt) s = execWatchEnter dt s := rfl
@[simp] theorem exec_watchStatus (dt : Nat) : exec (.watchStatus dt) s = execWatchStatus dt s := rfl
@[simp] theorem exec_watchEntryBoundary (dt : Nat) : exec (.watchEntryBoundary dt) s = execWatchEntryBoundary dt s := rfl
@[simp] theorem exec_watchEntered (dt : Nat) (tAvg : Int) : exec (.watchEntered dt tAvg) s = execWatchEntered dt tAvg s := rfl
@[simp] theorem exec_watchHopComplete (dt : Nat) : exec (.watchHopComplete dt) s = execWatchHopComplete dt s := rfl
@[simp] theorem exec_watchLevelMeasured (dt : Nat) (level : Nat) (tAvg : Int) :
    exec (.watchLevelMeasured dt level tAvg) s = execWatchLevelMeasured dt level tAvg s := rfl
@[simp] theorem exec_watchNoSyncTimeout (dt : Nat) (tAvg : Int) : exec (.watchNoSyncTimeout dt tAvg) s = execWatchNoSyncTimeout dt tAvg s := rfl
@[simp] theorem exec_watchDwellEnd (dt : Nat) (seen : List WatchSeen) (tAvg : Int) :
    exec (.watchDwellEnd dt seen tAvg) s = execWatchDwellEnd dt seen tAvg s := rfl
@[simp] theorem exec_watchAlarmStateChange (dt : Nat) (seen : List WatchSeen) :
    exec (.watchAlarmStateChange dt seen) s = execWatchAlarmStateChange dt seen s := rfl
@[simp] theorem exec_syn1LockLoss (dt : Nat) (tAvg : Int) : exec (.syn1LockLoss dt tAvg) s = execSyn1LockLoss dt tAvg s := rfl
@[simp] theorem exec_watchExitComplete (dt : Nat) : exec (.watchExitComplete dt) s = execWatchExitComplete dt s := rfl
@[simp] theorem exec_clPort (dt : Nat) : exec (.clPort dt) s = execClPort dt s := rfl
@[simp] theorem exec_clJoin (dt : Nat) : exec (.clJoin dt) s = execClJoin dt s := rfl
@[simp] theorem exec_clLeave (dt : Nat) : exec (.clLeave dt) s = execClLeave dt s := rfl
@[simp] theorem exec_clStreamOpen (dt : Nat) : exec (.clStreamOpen dt) s = execClStreamOpen dt s := rfl
@[simp] theorem exec_clStreamClose (dt : Nat) : exec (.clStreamClose dt) s = execClStreamClose dt s := rfl
@[simp] theorem exec_clTopology (dt : Nat) : exec (.clTopology dt) s = execClTopology dt s := rfl
@[simp] theorem exec_clRemote (dt : Nat) : exec (.clRemote dt) s = execClRemote dt s := rfl
@[simp] theorem exec_clTime (dt : Nat) : exec (.clTime dt) s = execClTime dt s := rfl
@[simp] theorem exec_pllFLock (dt : Nat) : exec (.pllFLock dt) s = execPllFLock dt s := rfl
@[simp] theorem exec_clPortLinked (dt : Nat) (port groups : Nat) : exec (.clPortLinked dt port groups) s = execClPortLinked dt port groups s := rfl
@[simp] theorem exec_clSyncLost (dt : Nat) (port errors groups : Nat) :
    exec (.clSyncLost dt port errors groups) s = execClSyncLost dt port errors groups s := rfl
@[simp] theorem exec_clSignalLost (dt : Nat) (port below : Nat) : exec (.clSignalLost dt port below) s = execClSignalLost dt port below s := rfl
@[simp] theorem exec_helloSend (dt : Nat) (port : Nat) : exec (.helloSend dt port) s = execHelloSend dt port s := rfl
@[simp] theorem exec_helloFrame (dt : Nat) (port : Nat) (bytes : List Byte) :
    exec (.helloFrame dt port bytes) s = execHelloFrame dt port bytes s := rfl
@[simp] theorem exec_tollFrame (dt : Nat) (port : Nat) (x : Int) (bytes : List Byte) :
    exec (.tollFrame dt port x bytes) s = execTollFrame dt port x bytes s := rfl
@[simp] theorem exec_pealFrame (dt : Nat) (port : Nat) (x : Int) (bytes : List Byte) :
    exec (.pealFrame dt port x bytes) s = execPealFrame dt port x bytes s := rfl
@[simp] theorem exec_leaveFrame (dt : Nat) (port : Nat) (x : Int) (bytes : List Byte) :
    exec (.leaveFrame dt port x bytes) s = execLeaveFrame dt port x bytes s := rfl
@[simp] theorem exec_streamFrame (dt : Nat) (port : Nat) (x : Int) (bytes : List Byte) :
    exec (.streamFrame dt port x bytes) s = execStreamFrame dt port x bytes s := rfl
@[simp] theorem exec_bundleFrame (dt : Nat) (port : Nat) (x : Int) (bytes : List Byte) :
    exec (.bundleFrame dt port x bytes) s = execBundleFrame dt port x bytes s := rfl
@[simp] theorem exec_remoteCmdFrame (dt : Nat) (port : Nat) (x : Int) (bytes : List Byte) :
    exec (.remoteCmdFrame dt port x bytes) s = execRemoteCmdFrame dt port x bytes s := rfl
@[simp] theorem exec_remoteAckFrame (dt : Nat) (port : Nat) (x : Int) (bytes : List Byte) :
    exec (.remoteAckFrame dt port x bytes) s = execRemoteAckFrame dt port x bytes s := rfl
@[simp] theorem exec_remoteReplyFrame (dt : Nat) (port : Nat) (x : Int) (bytes : List Byte) :
    exec (.remoteReplyFrame dt port x bytes) s = execRemoteReplyFrame dt port x bytes s := rfl
@[simp] theorem exec_replyAckFrame (dt : Nat) (port : Nat) (x : Int) (bytes : List Byte) :
    exec (.replyAckFrame dt port x bytes) s = execReplyAckFrame dt port x bytes s := rfl
@[simp] theorem exec_reservedFrame (dt : Nat) (port : Nat) (x : Int) (bytes : List Byte) :
    exec (.reservedFrame dt port x bytes) s = execReservedFrame dt port x bytes s := rfl
@[simp] theorem exec_fabricSlotStart (dt : Nat) : exec (.fabricSlotStart dt) s = execFabricSlotStart dt s := rfl
@[simp] theorem exec_announcePealSend (dt : Nat) : exec (.announcePealSend dt) s = execAnnouncePealSend dt s := rfl
@[simp] theorem exec_discoveryQuietEnd (dt : Nat) : exec (.discoveryQuietEnd dt) s = execDiscoveryQuietEnd dt s := rfl
@[simp] theorem exec_topologyRefresh (dt : Nat) : exec (.topologyRefresh dt) s = execTopologyRefresh dt s := rfl
@[simp] theorem exec_routeTableApply (dt : Nat) : exec (.routeTableApply dt) s = execRouteTableApply dt s := rfl
@[simp] theorem exec_remoteCmdRetryTimeout (dt : Nat) (rseq : Nat) :
    exec (.remoteCmdRetryTimeout dt rseq) s = execRemoteCmdRetryTimeout dt rseq s := rfl
@[simp] theorem exec_remoteReplyRetryTimeout (dt : Nat) (device rseq : Nat) :
    exec (.remoteReplyRetryTimeout dt device rseq) s = execRemoteReplyRetryTimeout dt device rseq s := rfl
@[simp] theorem exec_clStreamOpenTimeout (dt : Nat) : exec (.clStreamOpenTimeout dt) s = execClStreamOpenTimeout dt s := rfl
@[simp] theorem exec_streamReleaseRepeat (dt : Nat) (stream : Nat) :
    exec (.streamReleaseRepeat dt stream) s = execStreamReleaseRepeat dt stream s := rfl
@[simp] theorem exec_slotGrantApply (dt : Nat) : exec (.slotGrantApply dt) s = execSlotGrantApply dt s := rfl
@[simp] theorem exec_clDuplicateReport (dt : Nat) : exec (.clDuplicateReport dt) s = execClDuplicateReport dt s := rfl
@[simp] theorem exec_clPortDriftSuspect (dt : Nat) (port : Nat) : exec (.clPortDriftSuspect dt port) s = execClPortDriftSuspect dt port s := rfl
@[simp] theorem exec_clTollLoss (dt : Nat) : exec (.clTollLoss dt) s = execClTollLoss dt s := rfl
@[simp] theorem exec_clHoldoverMaxExpiry (dt : Nat) : exec (.clHoldoverMaxExpiry dt) s = execClHoldoverMaxExpiry dt s := rfl
@[simp] theorem exec_tocsinErrorArrival (dt : Nat) (errs : List ErrIn) (tHot : Int) :
    exec (.tocsinErrorArrival dt errs tHot) s = execTocsinErrorArrival dt errs tHot s := rfl
@[simp] theorem exec_correctableError (dt : Nat) (err : ErrIn) : exec (.correctableError dt err) s = execCorrectableError dt err s := rfl
@[simp] theorem exec_faultCorrectedReport (dt : Nat) : exec (.faultCorrectedReport dt) s = execFaultCorrectedReport dt s := rfl
@[simp] theorem exec_watchdogExpiry (dt : Nat) (region block : Nat) :
    exec (.watchdogExpiry dt region block) s = execWatchdogExpiry dt region block s := rfl
@[simp] theorem exec_lockstepMismatch (dt : Nat) (fetchAddr : Nat) :
    exec (.lockstepMismatch dt fetchAddr) s = execLockstepMismatch dt fetchAddr s := rfl
@[simp] theorem exec_busTimeout (dt : Nat) (region block master access addr : Nat) :
    exec (.busTimeout dt region block master access addr) s = execBusTimeout dt region block master access addr s := rfl
@[simp] theorem exec_heartbeat (dt : Nat) : exec (.heartbeat dt) s = execHeartbeat dt s := rfl
@[simp] theorem exec_heartbeatTimeout (dt : Nat) : exec (.heartbeatTimeout dt) s = execHeartbeatTimeout dt s := rfl
@[simp] theorem exec_injectionMissed (dt : Nat) : exec (.injectionMissed dt) s = execInjectionMissed dt s := rfl
@[simp] theorem exec_aliveToggle (dt : Nat) : exec (.aliveToggle dt) s = execAliveToggle dt s := rfl
@[simp] theorem exec_haltResponderPacket (dt : Nat) : exec (.haltResponderPacket dt) s = execHaltResponderPacket dt s := rfl
@[simp] theorem exec_fltRead (dt : Nat) : exec (.fltRead dt) s = execFltRead dt s := rfl
@[simp] theorem exec_fltAck (dt : Nat) : exec (.fltAck dt) s = execFltAck dt s := rfl
@[simp] theorem exec_fltInject (dt : Nat) : exec (.fltInject dt) s = execFltInject dt s := rfl
@[simp] theorem exec_fltPolicy (dt : Nat) : exec (.fltPolicy dt) s = execFltPolicy dt s := rfl
@[simp] theorem exec_vddCoreBrownOutRelease (dt : Nat) : exec (.vddCoreBrownOutRelease dt) s = execVddCoreBrownOutRelease dt s := rfl
@[simp] theorem exec_rdsBitLockChange (dt : Nat) (ctx stream : Nat) :
    exec (.rdsBitLockChange dt ctx stream) s = execRdsBitLockChange dt ctx stream s := rfl
@[simp] theorem exec_jtagInstruction (dt : Nat) (code : JtagInstr) : exec (.jtagInstruction dt code) s = execJtagInstruction dt code s := rfl
@[simp] theorem exec_ioBankSupplyChange (dt : Nat) (bank : Nat) (inRange is33 : Bool) :
    exec (.ioBankSupplyChange dt bank inRange is33) s = execIoBankSupplyChange dt bank inRange is33 s := rfl
@[simp] theorem exec_portGroupBackInStep (dt : Nat) (leader frames : Nat) :
    exec (.portGroupBackInStep dt leader frames) s = execPortGroupBackInStep dt leader frames s := rfl
@[simp] theorem exec_twBusStartStop (dt : Nat) (isStop : Bool) : exec (.twBusStartStop dt isStop) s = execTwBusStartStop dt isStop s := rfl

end Sys2Proof.Machine
end

