-- ==== Sys2Proof/Laws/Kept.lean ====
section
/-!
SUPPORT. What the fuse array, the straps, the first-error record and the halt see of every operation: `foo_kept` says that `foo` leaves
them alone, `execFoo_kept` that a next state of the command does. The few commands without such a lemma are those that do change one of
them: the boot and reset rows, the burning of fuses, STRAP_SAMPLING and the rows and commands of Tocsin.
-/
namespace Sys2Proof.Machine
@[simp] theorem Kept.eta (k : Kept) : (⟨k.fuses, k.hostSel, k.twAddr, k.rcd, k.halted⟩ : Kept) = k := rfl
theorem Dev.fuses_kept (d : Dev) : d.sec.fuses = d.kept.fuses := rfl
theorem Dev.hostSel_kept (d : Dev) : d.pwr.hostSel = d.kept.hostSel := rfl
theorem Dev.twAddr_kept (d : Dev) : d.pwr.twAddr = d.kept.twAddr := rfl
theorem Dev.rcd_kept (d : Dev) : d.toc.rcd = d.kept.rcd := rfl
theorem Dev.halted_kept (d : Dev) : d.toc.halted = d.kept.halted := rfl
@[simp] theorem Dev.kept_fold (d : Dev) : (⟨d.sec.fuses, d.pwr.hostSel, d.pwr.twAddr, d.toc.rcd, d.toc.halted⟩ : Kept) = d.kept := rfl
@[simp] theorem Dev.kept_mk (a1 : Nat) (a2 : PowerSt) (a3 : ClockSt) (a4 : RegSt) (a5 : TwSt) (a6 : TwcSt) (a7 : ProtoSt) (a8 : SecSt) (a9 : RfSt) (a10 : CalSt) (a11 : SurveySt) (a12 : ChanSt) (a13 : TravSt) (a14 : DemodSt) (a15 : CombSt) (a16 : FieldBookSt) (a17 : FollowSt) (a18 : AudioSt) (a19 : DataSt) (a20 : WatchSt) (a21 : ClSt) (a22 : TocsinSt) (a23 : Nat) :
  (Dev.mk a1 a2 a3 a4 a5 a6 a7 a8 a9 a10 a11 a12 a13 a14 a15 a16 a17 a18 a19 a20 a21 a22 a23).kept = ⟨a8.fuses, a2.hostSel, a2.twAddr, a22.rcd, a22.halted⟩ := rfl
@[simp] theorem Dev.kept_ite (c : Prop) [Decidable c] (a b : Dev) : (if c then a else b).kept = if c then a.kept else b.kept := by split <;> rfl
theorem foldl_keeps {α β σ : Type} (p : σ → β) (f : σ → α → σ) (h : ∀ d x, p (f d x) = p d) (l : List α) (d : σ) :
    p (l.foldl f d) = p d := by
  induction l generalizing d with
  | nil => rfl
  | cons a l ih => simp [List.foldl, ih, h]
@[simp] theorem foldl_kept {α : Type} (f : Dev → α → Dev) (h : ∀ d x, (f d x).kept = d.kept) (l : List α) (d : Dev) :
    (l.foldl f d).kept = d.kept := foldl_keeps Dev.kept f h l d
@[simp] theorem forAll_kept (f : Nat → Dev → Dev) (h : ∀ i d, (f i d).kept = d.kept) (l : List Nat) (d : Dev) :
    (forAll l f d).kept = d.kept := foldl_keeps Dev.kept (fun d i => f i d) (fun d i => h i d) l d
@[simp] theorem Dev.tick_kept (x0 : Nat) (d : Dev) : (Dev.tick x0 d).kept = d.kept := by simp [Dev.tick]
@[simp] theorem Dev.setStatus_kept (x0 : Nat) (d : Dev) : (Dev.setStatus x0 d).kept = d.kept := by simp [Dev.setStatus]
@[simp] theorem Dev.flagSys_kept (x0 : BitVec 5) (d : Dev) : (Dev.flagSys x0 d).kept = d.kept := by simp [Dev.flagSys]
@[simp] theorem Dev.flagTw_kept (x0 : BitVec 3) (d : Dev) : (Dev.flagTw x0 d).kept = d.kept := by simp [Dev.flagTw]
@[simp] theorem Dev.queueRecord_kept (x0 : Nat) (x1 : Nat) (x2 : List Byte) (x3 : Nat) (d : Dev) : (Dev.queueRecord x0 x1 x2 x3 d).kept = d.kept := by simp [Dev.queueRecord]
@[simp] theorem Dev.raise_kept (x0 : Nat) (x1 : Nat) (x2 : List Byte) (d : Dev) : (Dev.raise x0 x1 x2 d).kept = d.kept := by simp [Dev.raise]
@[simp] theorem Dev.emit_kept (x0 : Nat) (x1 : List Byte) (d : Dev) : (Dev.emit x0 x1 d).kept = d.kept := by simp [Dev.emit]
@[simp] theorem Dev.gpioRelease_kept (d : Dev) : (Dev.gpioRelease d).kept = d.kept := by simp [Dev.gpioRelease]
@[simp] theorem Dev.onlyIf_kept (c : Bool) (f : Dev → Dev) (h : ∀ d, (f d).kept = d.kept) (d : Dev) :
    (d.onlyIf c f).kept = d.kept := by unfold Dev.onlyIf; split <;> simp [h]

@[simp] theorem okWith_kept (x0 : List Byte) (d : Dev) : (okWith x0 d).dev.kept = d.kept := by simp [okWith]
@[simp] theorem ok_kept (d : Dev) : (ok d).dev.kept = d.kept := by simp [ok]
@[simp] theorem deferred_kept (d : Dev) : (deferred d).dev.kept = d.kept := by simp [deferred]
@[simp] theorem refuse_kept (x0 : Status) (d : Dev) : (refuse x0 d).dev.kept = d.kept := by simp [refuse]
@[simp] theorem checked_kept (d : Dev) (x1 : List (Bool × Status)) (x2 : Res) (h : x2.dev.kept = d.kept) : (checked d x1 x2).dev.kept = d.kept := by
  unfold checked; split <;> simp [h]
@[simp] theorem Dev.setClPort_kept (x0 : Nat) (x1 : ClPortSt → ClPortSt) (d : Dev) : (Dev.setClPort x0 x1 d).kept = d.kept := by simp [Dev.setClPort]
@[simp] theorem Dev.portDown_kept (x0 : Nat) (x1 : Nat) (d : Dev) : (Dev.portDown x0 x1 d).kept = d.kept := by simp [Dev.portDown]
@[simp] theorem Dev.sendLeaves_kept (d : Dev) : (Dev.sendLeaves d).kept = d.kept := by simp [Dev.sendLeaves]
@[simp] theorem Dev.dropRemote_kept (d : Dev) : (Dev.dropRemote d).kept = d.kept := by simp [Dev.dropRemote]
@[simp] theorem Dev.portsOff_kept (x0 : Nat) (d : Dev) : (Dev.portsOff x0 d).kept = d.kept := by simp [Dev.portsOff]
@[simp] theorem Dev.fabricSleeps_kept (d : Dev) : (Dev.fabricSleeps d).kept = d.kept := by simp [Dev.fabricSleeps]
@[simp] theorem Dev.restartPorts_kept (d : Dev) : (Dev.restartPorts d).kept = d.kept := by simp [Dev.restartPorts]
@[simp] theorem Dev.rejoins_kept (d : Dev) : (Dev.rejoins d).kept = d.kept := by simp [Dev.rejoins]
@[simp] theorem Dev.fabricHalts_kept (d : Dev) : (Dev.fabricHalts d).kept = d.kept := by simp [Dev.fabricHalts]
@[simp] theorem Dev.endTwcForHalt_kept (d : Dev) : (Dev.endTwcForHalt d).kept = d.kept := by simp [Dev.endTwcForHalt]
@[simp] theorem Dev.ampsOff_kept (d : Dev) : (Dev.ampsOff d).kept = d.kept := by simp [Dev.ampsOff]
@[simp] theorem Dev.inputsHalt_kept (d : Dev) : (Dev.inputsHalt d).kept = d.kept := by simp [Dev.inputsHalt]
@[simp] theorem Dev.poison_kept (x0 : List ErrIn) (d : Dev) : (Dev.poison x0 d).kept = d.kept := by simp [Dev.poison]
@[simp] theorem Dev.logFault_kept (x0 : List Byte) (d : Dev) : (Dev.logFault x0 d).kept = d.kept := by
  unfold Dev.logFault; split
  · rfl
  · split <;> rfl
@[simp] theorem Dev.spaceFrom_kept (x d : Dev) : (Dev.spaceFrom d x).kept = d.kept := by simp [Dev.spaceFrom]
@[simp] theorem Dev.putReply_kept (x0 : Nat) (x1 : List Byte) (d : Dev) : (Dev.putReply x0 x1 d).kept = d.kept := by simp [Dev.putReply]
@[simp] theorem Dev.sendReply_kept (x0 : Iface) (x1 : Nat) (x2 : List Byte) (d : Dev) : (Dev.sendReply x0 x1 x2 d).kept = d.kept := by (unfold Dev.sendReply; split <;> simp [*])
@[simp] theorem Dev.replyDropped_kept (x0 : Nat) (x1 : Nat) (d : Dev) : (Dev.replyDropped x0 x1 d).kept = d.kept := by simp [Dev.replyDropped]
@[simp] theorem Dev.portReply_kept (x0 : Nat) (x1 : List Byte) (x2 : Status) (d : Dev) : (Dev.portReply x0 x1 x2 d).kept = d.kept := by simp [Dev.portReply]
@[simp] theorem Dev.dropFront_kept (x0 : QPkt) (d : Dev) : (Dev.dropFront x0 d).kept = d.kept := by (unfold Dev.dropFront; split <;> simp [*])
@[simp] theorem Dev.remember_kept (x0 : Iface) (x1 : CacheEntry) (d : Dev) : (Dev.remember x0 x1 d).kept = d.kept := by simp [Dev.remember]
@[simp] theorem Dev.reply_kept (x0 : Req) (x1 : Status) (x2 : List Byte) (d : Dev) : (Dev.reply x0 x1 x2 d).kept = d.kept := by simp [Dev.reply]
@[simp] theorem Dev.replyDuplicate_kept (x0 : Req) (x1 : List Byte) (d : Dev) : (Dev.replyDuplicate x0 x1 d).kept = d.kept := by simp [Dev.replyDuplicate]
@[simp] theorem Dev.setIfaceSec_kept (x0 : IfaceSec) (d : Dev) : (Dev.setIfaceSec x0 d).kept = d.kept := by simp [Dev.setIfaceSec]
@[simp] theorem Dev.authFailure_kept (x0 : Req) (x1 : Nat) (x2 : Status) (d : Dev) : (Dev.authFailure x0 x1 x2 d).kept = d.kept := by simp [Dev.authFailure]
@[simp] theorem Dev.authenticate_kept (x0 : Req) (x1 : List Byte) (d : Dev) : (Dev.authenticate x0 x1 d).2.kept = d.kept := by (unfold Dev.authenticate; dsimp only; repeat' split) <;> simp [*]
@[simp] theorem Dev.conclude_kept (q : Req) (r : Res) (d : Dev) (h : r.dev.kept = d.kept) : (Dev.conclude q r d).kept = d.kept := by
  unfold Dev.conclude; split <;> (try split) <;> simp [h]
@[simp] theorem Res.forFabric_kept (q : Req) (d : Dev) (r : Res) (h : r.dev.kept = d.kept) : (Res.forFabric q d r).dev.kept = d.kept := by
  unfold Res.forFabric; split <;> simp [h]
@[simp] theorem Dev.execute_kept (q : Req) (raw : List Byte) (body : Body) (h : ∀ q d, (body q d).dev.kept = d.kept) (d : Dev) : (Dev.execute q raw body d).kept = d.kept := by
  have ha := Dev.authenticate_kept q raw d
  unfold Dev.execute; repeat' split
  all_goals simp_all
@[simp] theorem Dev.take_kept (x0 : QPkt) (x1 : Req → Dev → Dev) (d : Dev) (h1 : ∀ y0 d, (x1 y0 d).kept = d.kept) : (Dev.take x0 x1 d).kept = d.kept := by (unfold Dev.take; repeat' split) <;> simp [*]
@[simp] theorem Dev.command_kept (x0 : Nat) (x1 : Body) (h : ∀ q d, (x1 q d).dev.kept = d.kept) (d : Dev) : (Dev.command x0 x1 d).kept = d.kept := by
  unfold Dev.command; split
  · rfl
  · split
    · rw [Dev.take_kept]; intro q e; simp [h]
    · rfl
@[simp] theorem Dev.answerLater_kept (x0 : Status) (x1 : List Byte) (d : Dev) : (Dev.answerLater x0 x1 d).kept = d.kept := by (unfold Dev.answerLater; split <;> simp [*])
@[simp] theorem Dev.leaveWatch_kept (x0 : Nat) (x1 : Nat) (d : Dev) : (Dev.leaveWatch x0 x1 d).kept = d.kept := by simp [Dev.leaveWatch]
@[simp] theorem Dev.eepDone_kept (x0 : Nat) (x1 : Nat) (x2 : List Byte) (d : Dev) : (Dev.eepDone x0 x1 x2 d).kept = d.kept := by simp [Dev.eepDone]
@[simp] theorem Dev.abortTwc_kept (d : Dev) : (Dev.abortTwc d).kept = d.kept := by (unfold Dev.abortTwc; repeat' split) <;> simp [*]
@[simp] theorem Dev.startEep_kept (x0 : Nat) (d : Dev) : (Dev.startEep x0 d).kept = d.kept := by simp [Dev.startEep]
@[simp] theorem Dev.pumpEep_kept (d : Dev) : (Dev.pumpEep d).kept = d.kept := by
  unfold Dev.pumpEep; repeat' split
  all_goals first | rfl | simp
@[simp] theorem Dev.setInp_kept (x0 : Nat) (x1 : InputSt → InputSt) (d : Dev) : (Dev.setInp x0 x1 d).kept = d.kept := by simp [Dev.setInp]
@[simp] theorem Dev.setCtx_kept (x0 : Nat) (x1 : CtxSt → CtxSt) (d : Dev) : (Dev.setCtx x0 x1 d).kept = d.kept := by (unfold Dev.setCtx; split <;> simp [*])
@[simp] theorem Dev.setInst_kept (x0 : Nat) (x1 : InstSt → InstSt) (d : Dev) : (Dev.setInst x0 x1 d).kept = d.kept := by (unfold Dev.setInst; split <;> simp [*])
@[simp] theorem Dev.setSlot_kept (x0 : Nat) (x1 : SlotSt → SlotSt) (d : Dev) : (Dev.setSlot x0 x1 d).kept = d.kept := by simp [Dev.setSlot]
@[simp] theorem Dev.setProg_kept (x0 : Nat) (x1 : ProgSt → ProgSt) (d : Dev) : (Dev.setProg x0 x1 d).kept = d.kept := by simp [Dev.setProg]
@[simp] theorem Dev.progMute_kept (x0 : Nat) (x1 : Nat) (d : Dev) : (Dev.progMute x0 x1 d).kept = d.kept := by simp [Dev.progMute]
@[simp] theorem Dev.setCauses_kept (x0 : Nat) (x1 : Nat) (d : Dev) : (Dev.setCauses x0 x1 d).kept = d.kept := by simp [Dev.setCauses]
@[simp] theorem Dev.setCause_kept (x0 : Nat) (x1 : Nat) (x2 : Bool) (d : Dev) : (Dev.setCause x0 x1 x2 d).kept = d.kept := by simp [Dev.setCause]
@[simp] theorem Dev.audioSync_kept (d : Dev) : (Dev.audioSync d).kept = d.kept := by simp [Dev.audioSync]
@[simp] theorem Dev.rampAll_kept (d : Dev) : (Dev.rampAll d).kept = d.kept := by simp [Dev.rampAll]
@[simp] theorem Dev.clockMute_kept (d : Dev) : (Dev.clockMute d).kept = d.kept := by simp [Dev.clockMute]
@[simp] theorem Dev.clockUnmute_kept (d : Dev) : (Dev.clockUnmute d).kept = d.kept := by simp [Dev.clockUnmute]
@[simp] theorem Dev.tryBoot_kept (d : Dev) : (Dev.tryBoot d).kept = d.kept := by simp [Dev.tryBoot]
@[simp] theorem Dev.releaseHeld_kept (d : Dev) : (Dev.releaseHeld d).kept = d.kept := by (unfold Dev.releaseHeld; split <;> simp [*])
@[simp] theorem Dev.setTemps_kept (x0 : Int) (x1 : Int) (d : Dev) : (Dev.setTemps x0 x1 d).kept = d.kept := by simp [Dev.setTemps]
@[simp] theorem Dev.enterSleep_kept (d : Dev) : (Dev.enterSleep d).kept = d.kept := by simp [Dev.enterSleep]
@[simp] theorem Dev.readEffect_kept (x0 : Nat) (d : Dev) : (Dev.readEffect x0 d).kept = d.kept := by simp [Dev.readEffect]
@[simp] theorem Dev.ownedWrite_kept (x0 : RegPort) (x1 : Dev → Dev) (d : Dev) (h1 : ∀ d, (x1 d).kept = d.kept) : (Dev.ownedWrite x0 x1 d).kept = d.kept := by
  unfold Dev.ownedWrite; repeat' split
  all_goals first | rfl | exact h1 d
@[simp] theorem Dev.clearIrq_kept (x0 : Nat) (x1 : Word) (d : Dev) : (Dev.clearIrq x0 x1 d).kept = d.kept := by simp [Dev.clearIrq]
@[simp] theorem Dev.clearSys_kept (x0 : Word) (d : Dev) : (Dev.clearSys x0 d).kept = d.kept := by simp [Dev.clearSys]
@[simp] theorem Dev.clearTw_kept (x0 : Word) (d : Dev) : (Dev.clearTw x0 d).kept = d.kept := by simp [Dev.clearTw]
@[simp] theorem Dev.writeTwCfg_kept (x0 : Word) (d : Dev) : (Dev.writeTwCfg x0 d).kept = d.kept := by simp [Dev.writeTwCfg]
@[simp] theorem Dev.writeEnable_kept (x0 : Nat) (x1 : Word) (d : Dev) : (Dev.writeEnable x0 x1 d).kept = d.kept := by simp [Dev.writeEnable]
@[simp] theorem Dev.writeReg_kept (x0 : RegPort) (x1 : Nat) (x2 : Word) (d : Dev) : (Dev.writeReg x0 x1 x2 d).kept = d.kept := by
  unfold Dev.writeReg; dsimp only
  split
  · simp
  split
  · simp
  split
  · rw [Dev.ownedWrite_kept]; simp
  split
  · simp
  split
  · simp
  split <;> simp
@[simp] theorem Dev.writeRegs_kept (x0 : RegPort) (x1 : Nat) (l : List Word) (d : Dev) : (Dev.writeRegs x0 x1 l d).kept = d.kept := by
  induction l generalizing x1 d with
  | nil => rfl
  | cons v l ih => rw [Dev.writeRegs, ih, Dev.writeReg_kept]
@[simp] theorem Dev.readOne_kept (x0 : Nat) (d : Dev) : (Dev.readOne x0 d).kept = d.kept := by simp [Dev.readOne]
@[simp] theorem Dev.readRegs_kept (x0 : Nat) (x1 : Nat) (d : Dev) : (Dev.readRegs x0 x1 d).kept = d.kept := by simp [Dev.readRegs]
@[simp] theorem Dev.pushPacket_kept (x0 : List Byte) (d : Dev) : (Dev.pushPacket x0 d).kept = d.kept := by simp [Dev.pushPacket]
@[simp] theorem Dev.roomAgain_kept (x0 : Nat) (d : Dev) : (Dev.roomAgain x0 d).kept = d.kept := by (unfold Dev.roomAgain; split <;> simp [*])
@[simp] theorem Dev.twNack_kept (d : Dev) : (Dev.twNack d).kept = d.kept := by simp [Dev.twNack]
@[simp] theorem Dev.mirrorWrite_kept (x0 : List Byte) (x1 : Nat) (x2 : List Byte) (d : Dev) : (Dev.mirrorWrite x0 x1 x2 d).2.kept = d.kept := by
  induction x0 generalizing x1 x2 d with
  | nil => rfl
  | cons b l ih =>
    unfold Dev.mirrorWrite; split
    · rfl
    · generalize (if x1 % 4 = 0 then [b] else if x2.length = x1 % 4 then x2 ++ [b] else []) = w
      by_cases h : w.length = 4
      · simp only [h, if_true, ih, Dev.writeReg_kept]
      · simp only [h, if_false, ih]
@[simp] theorem Dev.twWritten_kept (x0 : List Byte) (d : Dev) : (Dev.twWritten x0 d).kept = d.kept := by (unfold Dev.twWritten; split <;> simp [*])
@[simp] theorem Dev.twSettled_kept (d : Dev) : (Dev.twSettled d).kept = d.kept := by simp [Dev.twSettled]
@[simp] theorem Dev.mailRead_kept (x0 : Nat) (x1 : Nat) (x2 : List Byte) (d : Dev) : (Dev.mailRead x0 x1 x2 d).kept = d.kept := by simp [Dev.mailRead]
@[simp] theorem Dev.statusRead_kept (x0 : Nat) (d : Dev) : (Dev.statusRead x0 d).kept = d.kept := by simp [Dev.statusRead]
@[simp] theorem Dev.replyRead_kept (x0 : Nat) (d : Dev) : (Dev.replyRead x0 d).kept = d.kept := by simp [Dev.replyRead]
@[simp] theorem Dev.eventRead_kept (x0 : Nat) (d : Dev) : (Dev.eventRead x0 d).kept = d.kept := by simp [Dev.eventRead]
@[simp] theorem Dev.mirrorBytes_kept (x0 x1 : Nat) (x2 : Option Word) (d : Dev) : (Dev.mirrorBytes x0 x1 x2 d).2.kept = d.kept := by
  induction x0 generalizing x1 x2 d with
  | zero => rfl
  | succ n ih => rw [Dev.mirrorBytes]; dsimp only; split <;> (try split) <;> simp [ih]
@[simp] theorem Dev.mirrorRead_kept (x0 : Nat) (d : Dev) : (Dev.mirrorRead x0 d).kept = d.kept := by simp [Dev.mirrorRead]
@[simp] theorem Dev.twReadPart_kept (x0 : Nat) (d : Dev) : (Dev.twReadPart x0 d).kept = d.kept := by simp [Dev.twReadPart]
@[simp] theorem Dev.twcEnd_kept (x0 : Nat) (x1 : Nat) (x2 : List Byte) (d : Dev) : (Dev.twcEnd x0 x1 x2 d).kept = d.kept := by (unfold Dev.twcEnd; repeat' split) <;> simp [*]
@[simp] theorem Dev.recovered_kept (x0 : Nat) (x1 : Nat) (d : Dev) : (Dev.recovered x0 x1 d).kept = d.kept := by simp [Dev.recovered]
@[simp] theorem Dev.setDq_kept (x0 : Nat) (x1 : DQueue → DQueue) (d : Dev) : (Dev.setDq x0 x1 d).kept = d.kept := by simp [Dev.setDq]
@[simp] theorem Dev.setBind_kept (x0 : Nat) (x1 : BindSt → BindSt) (d : Dev) : (Dev.setBind x0 x1 d).kept = d.kept := by (unfold Dev.setBind; split <;> simp [*])
@[simp] theorem Dev.enqueue_kept (x0 : Nat) (x1 : Nat) (x2 : List (List Byte)) (d : Dev) : (Dev.enqueue x0 x1 x2 d).kept = d.kept := by simp [Dev.enqueue]
@[simp] theorem Dev.writeRecords_kept (x0 : Nat) (x1 : Nat) (x2 : Nat) (x3 : List (List Byte)) (d : Dev) : (Dev.writeRecords x0 x1 x2 x3 d).kept = d.kept := by (unfold Dev.writeRecords; split <;> simp [*])
@[simp] theorem Dev.writeRecord_kept (x0 : Nat) (x1 : Nat) (x2 : Nat) (x3 : List Byte) (d : Dev) : (Dev.writeRecord x0 x1 x2 x3 d).kept = d.kept := by simp [Dev.writeRecord]
@[simp] theorem Dev.alert_kept (x0 : Nat) (x1 : List Byte) (d : Dev) : (Dev.alert x0 x1 d).kept = d.kept := by simp [Dev.alert]
@[simp] theorem Dev.motFail_kept (x0 : Nat) (x1 : Nat) (d : Dev) : (Dev.motFail x0 x1 d).kept = d.kept := by (unfold Dev.motFail; split <;> simp [*])
@[simp] theorem Dev.motDrop_kept (x0 : Nat) (x1 : MotObj → Bool) (d : Dev) : (Dev.motDrop x0 x1 d).kept = d.kept := by (unfold Dev.motDrop; split <;> simp [*])
@[simp] theorem Dev.motReset_kept (x0 : Nat) (d : Dev) : (Dev.motReset x0 d).kept = d.kept := by simp [Dev.motReset]
@[simp] theorem Dev.motOpen_kept (x0 : Nat) (x1 : Nat) (x2 : List Byte) (d : Dev) : (Dev.motOpen x0 x1 x2 d).kept = d.kept := by (unfold Dev.motOpen; dsimp only; repeat' split) <;> simp [*]
@[simp] theorem Dev.motDeliver_kept (x0 : Nat) (x1 : Nat) (x2 : Nat) (x3 : Nat) (x4 : Nat) (x5 : Nat) (x6 : List Byte) (d : Dev) : (Dev.motDeliver x0 x1 x2 x3 x4 x5 x6 d).kept = d.kept := by (unfold Dev.motDeliver; dsimp only; repeat' split) <;> simp [*]
@[simp] theorem Dev.motFinish_kept (x0 : Nat) (x1 : Nat) (d : Dev) : (Dev.motFinish x0 x1 d).kept = d.kept := by (unfold Dev.motFinish; split <;> simp [*])
@[simp] theorem Dev.motSegment_kept (x0 : Nat) (x1 : Nat) (x2 : Nat) (x3 : Bool) (x4 : List Byte) (d : Dev) : (Dev.motSegment x0 x1 x2 x3 x4 d).kept = d.kept := by simp [Dev.motSegment]
@[simp] theorem Dev.motGroup_kept (x0 : Nat) (x1 : Nat) (x2 : Nat) (x3 : Nat) (x4 : Bool) (x5 : List Byte) (x6 : List (Nat × List Byte)) (d : Dev) : (Dev.motGroup x0 x1 x2 x3 x4 x5 x6 d).kept = d.kept := by (unfold Dev.motGroup; repeat' split) <;> simp [*]
@[simp] theorem Dev.applyQAct_kept (x0 : QAct) (d : Dev) : (Dev.applyQAct x0 d).kept = d.kept := by (unfold Dev.applyQAct; repeat' split) <;> simp [*]
@[simp] theorem Dev.dataRound_kept (d : Dev) : (Dev.dataRound d).kept = d.kept := by simp [Dev.dataRound]
@[simp] theorem Dev.takeHead_kept (x0 : Nat) (x1 : Nat) (d : Dev) : (Dev.takeHead x0 x1 d).kept = d.kept := by simp [Dev.takeHead]
@[simp] theorem takeReply_kept (x0 : Nat) (x1 : Nat) (x2 : Nat) (x3 : Nat) (x4 : List Byte) (d : Dev) : (takeReply x0 x1 x2 x3 x4 d).dev.kept = d.kept := by simp [takeReply]
@[simp] theorem Dev.setFbe_kept (x0 : Nat) (x1 : FbEntry → FbEntry) (d : Dev) : (Dev.setFbe x0 x1 d).kept = d.kept := by (unfold Dev.setFbe; split <;> simp [*])
@[simp] theorem Dev.mapFbe_kept (x0 : FbEntry → Bool) (x1 : FbEntry → FbEntry) (d : Dev) : (Dev.mapFbe x0 x1 d).kept = d.kept := by simp [Dev.mapFbe]
@[simp] theorem Dev.fbRefuse_kept (x0 : Nat) (d : Dev) : (Dev.fbRefuse x0 d).kept = d.kept := by (unfold Dev.fbRefuse; dsimp only; split <;> simp [*])
@[simp] theorem Dev.fbCreate_kept (x0 : FbEntry) (x1 : Nat) (d : Dev) : (Dev.fbCreate x0 x1 d).2.kept = d.kept := by (unfold Dev.fbCreate; split <;> simp [*])
@[simp] theorem Dev.spreadLinks_kept (d : Dev) : (Dev.spreadLinks d).kept = d.kept := by simp [Dev.spreadLinks]
@[simp] theorem Dev.fbMatch_kept (x0 : FbOffer) (d : Dev) : (Dev.fbMatch x0 d).2.kept = d.kept := by
  unfold Dev.fbMatch; dsimp only; repeat' split
  all_goals simp
@[simp] theorem Dev.idRecord_kept (x0 : Nat) (x1 : Nat) (x2 : Nat) (x3 : Nat) (d : Dev) : (Dev.idRecord x0 x1 x2 x3 d).2.kept = d.kept := by (unfold Dev.idRecord; split <;> simp [*])
@[simp] theorem Dev.relink_kept (x0 : Nat) (x1 : Nat) (d : Dev) : (Dev.relink x0 x1 d).kept = d.kept := by simp [Dev.relink]
@[simp] theorem Dev.fbTie_kept (x0 : FbOffer) (x1 : Nat × Nat) (d : Dev) : (Dev.fbTie x0 x1 d).kept = d.kept := by (unfold Dev.fbTie; dsimp only; repeat' split) <;> simp [*]
@[simp] theorem Dev.fbApply_kept (x0 : FbOffer) (d : Dev) : (Dev.fbApply x0 d).kept = d.kept := by
  unfold Dev.fbApply; dsimp only; repeat' split
  all_goals simp
@[simp] theorem Dev.offer_kept (x0 : FbOffer) (d : Dev) : (Dev.offer x0 d).kept = d.kept := by simp [Dev.offer]
@[simp] theorem Dev.fbPin_kept (x0 : Nat) (x1 : Nat) (d : Dev) : (Dev.fbPin x0 x1 d).2.kept = d.kept := by (unfold Dev.fbPin; repeat' split) <;> simp [*]
@[simp] theorem Dev.fbPut_kept (a b : Nat) (c : List Byte) (e : Nat) (d : Dev) : (Dev.fbPut a b c e d).2.2.2.kept = d.kept := by
  unfold Dev.fbPut
  have hm := Dev.fbMatch_kept (putOffer c e d.now) d
  split
  · revert hm; generalize Dev.fbMatch (putOffer c e d.now) d = m; intro hm
    obtain ⟨r, f⟩ := m
    cases r with
    | none => rfl
    | some r =>
      dsimp only; split
      · rw [Dev.spreadLinks_kept, Dev.fbPin_kept]; exact hm
      · rfl
  · cases d.fbe a with
    | none => rfl
    | some r =>
      dsimp only; split
      · rfl
      · split
        · simp
        · rfl
@[simp] theorem Dev.fbDrop_kept (x0 : Nat) (x1 : Nat) (d : Dev) : (Dev.fbDrop x0 x1 d).kept = d.kept := by simp [Dev.fbDrop]
@[simp] theorem Dev.fbImportOne_kept (b : List Byte) (x y : Nat) (d : Dev) : (Dev.fbImportOne b x y d).2.kept = d.kept := by
  unfold Dev.fbImportOne
  dsimp only; split
  · rfl
  · generalize ho : ({ putOffer b x (y - min (at32 b 16) (1000 * d.propN P.fbExpire) * 2 ^ 20) with
      cls := if hasBit (at8 b 15) 3 then some (at8 b 15 % 8) else none
      regional := some (hasBit (at8 b 15) 5) } : FbOffer) = o
    have := Dev.fbMatch_kept o d
    repeat' split
    all_goals simp_all
theorem foldl_kept2 {α β : Type} (f : β × Dev → α → β × Dev) (h : ∀ p x, (f p x).2.kept = p.2.kept) (l : List α) (p : β × Dev) :
    (l.foldl f p).2.kept = p.2.kept := foldl_keeps (fun p : β × Dev => p.2.kept) f h l p
@[simp] theorem Dev.fbImport_kept (l : List (List Byte)) (x y : Nat) (d : Dev) : (Dev.fbImport l x y d).2.kept = d.kept := by
  simp [Dev.fbImport]; apply foldl_kept2; simp
@[simp] theorem Dev.fbCmd_kept (x0 : FbCmd) (d : Dev) : (Dev.fbCmd x0 d).kept = d.kept := by (unfold Dev.fbCmd; split <;> simp [*])
@[simp] theorem Dev.fbPending_kept (d : Dev) (x1 : List (Nat × FbCmd)) : (Dev.fbPending d x1).kept = d.kept := by simp [Dev.fbPending]
@[simp] theorem Dev.fbStaged_kept (d : Dev) : (Dev.fbStaged d).kept = d.kept := by simp [Dev.fbStaged]
@[simp] theorem Dev.fbAccept_kept (x0 : FbCmd) (d : Dev) : (Dev.fbAccept x0 d).kept = d.kept := by simp [Dev.fbAccept]
@[simp] theorem Dev.fbSweep_kept (d : Dev) : (Dev.fbSweep d).kept = d.kept := by simp [Dev.fbSweep]
@[simp] theorem Dev.fbTuned_kept (x0 : List (Nat × Nat × Nat)) (d : Dev) : (Dev.fbTuned x0 d).kept = d.kept := by simp [Dev.fbTuned]
@[simp] theorem Dev.fbRound_kept (x0 : List (Nat × Nat × Nat)) (d : Dev) : (Dev.fbRound x0 d).kept = d.kept := by simp [Dev.fbRound]
@[simp] theorem Dev.noteGain_kept (x0 : Nat) (d : Dev) : (Dev.noteGain x0 d).kept = d.kept := by simp [Dev.noteGain]
@[simp] theorem Dev.convert_kept (x0 : Nat) (x1 : List Int) (d : Dev) : (Dev.convert x0 x1 d).2.kept = d.kept := by
  unfold Dev.convert; rw [foldl_kept2]; intro p x; obtain ⟨a, e⟩ := p; dsimp only; split <;> rfl
@[simp] theorem Dev.clearSegs_kept (x0 : Nat → Bool) (d : Dev) : (Dev.clearSegs x0 d).kept = d.kept := by simp [Dev.clearSegs]
@[simp] theorem Dev.startSlot_kept (x0 : Nat) (x1 : SlotUser) (x2 : Nat) (x3 : Int) (x4 : Nat) (x5 : Int) (d : Dev) : (Dev.startSlot x0 x1 x2 x3 x4 x5 d).kept = d.kept := by simp [Dev.startSlot]
@[simp] theorem Dev.restoreSlot_kept (x0 : Nat) (x1 : ParkSt) (d : Dev) : (Dev.restoreSlot x0 x1 d).kept = d.kept := by simp [Dev.restoreSlot]
@[simp] theorem Dev.retuneSlot_kept (x0 : Nat) (x1 : Nat) (x2 : Int) (d : Dev) : (Dev.retuneSlot x0 x1 x2 d).kept = d.kept := by simp [Dev.retuneSlot]
@[simp] theorem Dev.stopSlot_kept (x0 : Nat) (d : Dev) : (Dev.stopSlot x0 d).kept = d.kept := by simp [Dev.stopSlot]
@[simp] theorem Dev.writeC_kept (x0 : Nat) (x1 : Int) (d : Dev) : (Dev.writeC x0 x1 d).kept = d.kept := by simp [Dev.writeC]
@[simp] theorem Dev.slipSlot_kept (x0 : Nat) (x1 : Int) (d : Dev) : (Dev.slipSlot x0 x1 d).kept = d.kept := by simp [Dev.slipSlot]
@[simp] theorem Dev.slotRound_kept (x0 : Nat) (d : Dev) : (Dev.slotRound x0 d).kept = d.kept := by simp [Dev.slotRound]
@[simp] theorem Dev.feedSlot_kept (x0 : Nat) (x1 : Nat) (x2 : List SegSample) (d : Dev) : (Dev.feedSlot x0 x1 x2 d).2.kept = d.kept := by simp [Dev.feedSlot]
@[simp] theorem Dev.setNb_kept (x0 : Nat) (x1 : NbSt → NbSt) (d : Dev) : (Dev.setNb x0 x1 d).kept = d.kept := by simp [Dev.setNb]
@[simp] theorem Dev.setRds_kept (x0 : Nat) (x1 : RdsSt → RdsSt) (d : Dev) : (Dev.setRds x0 x1 d).kept = d.kept := by simp [Dev.setRds]
@[simp] theorem Dev.setDab_kept (x0 : Nat) (x1 : DabSt → DabSt) (d : Dev) : (Dev.setDab x0 x1 d).kept = d.kept := by simp [Dev.setDab]
@[simp] theorem Dev.setDrm_kept (x0 : Nat) (x1 : DrmSt → DrmSt) (d : Dev) : (Dev.setDrm x0 x1 d).kept = d.kept := by simp [Dev.setDrm]
@[simp] theorem Dev.setDabInst_kept (x0 : Nat) (x1 : DabInst → DabInst) (d : Dev) : (Dev.setDabInst x0 x1 d).kept = d.kept := by simp [Dev.setDabInst]
@[simp] theorem Dev.nbCut_kept (x0 : Nat) (d : Dev) : (Dev.nbCut x0 d).kept = d.kept := by simp [Dev.nbCut]
@[simp] theorem Dev.demodCold_kept (x0 : Nat) (d : Dev) : (Dev.demodCold x0 d).kept = d.kept := by simp [Dev.demodCold]
@[simp] theorem Dev.dropMeasure_kept (x0 : Nat) (d : Dev) : (Dev.dropMeasure x0 d).kept = d.kept := by simp [Dev.dropMeasure]
@[simp] theorem Dev.instCold_kept (x0 : Nat) (d : Dev) : (Dev.instCold x0 d).kept = d.kept := by
  unfold Dev.instCold; dsimp only; rw [foldl_kept] <;> simp
@[simp] theorem Dev.bankChanged_kept (x0 : Nat) (d : Dev) : (Dev.bankChanged x0 d).kept = d.kept := by simp [Dev.bankChanged]
@[simp] theorem Dev.retuned_kept (x0 : Nat) (x1 : Nat) (d : Dev) : (Dev.retuned x0 x1 d).kept = d.kept := by simp [Dev.retuned]
@[simp] theorem Dev.ctxRestored_kept (x0 : Nat) (x1 : Nat) (d : Dev) : (Dev.ctxRestored x0 x1 d).kept = d.kept := by simp [Dev.ctxRestored]
@[simp] theorem Dev.instRestored_kept (x0 : Nat) (x1 : Nat) (x2 : Nat) (d : Dev) : (Dev.instRestored x0 x1 x2 d).kept = d.kept := by simp [Dev.instRestored]
@[simp] theorem Dev.measureBy_kept (x0 : Nat) (x1 : Meas → Meas) (d : Dev) : (Dev.measureBy x0 x1 d).kept = d.kept := by simp [Dev.measureBy]
@[simp] theorem Dev.deliverCheck_kept (x0 : Nat) (d : Dev) : (Dev.deliverCheck x0 d).kept = d.kept := by (unfold Dev.deliverCheck; split <;> simp [*])
@[simp] theorem Dev.releaseService_kept (x0 : Nat) (d : Dev) : (Dev.releaseService x0 d).kept = d.kept := by
  unfold Dev.releaseService; split
  · rfl
  · simp; rw [foldl_kept]; intro d x; split <;> simp
@[simp] theorem Dev.releaseAnchored_kept (x0 : Nat) (d : Dev) : (Dev.releaseAnchored x0 d).kept = d.kept := by simp [Dev.releaseAnchored]
@[simp] theorem Dev.ctxGone_kept (x0 : Nat) (d : Dev) : (Dev.ctxGone x0 d).kept = d.kept := by simp [Dev.ctxGone]
@[simp] theorem Dev.ctxEvent_kept (x0 : Nat) (x1 : Nat) (x2 : Nat) (x3 : Nat) (d : Dev) : (Dev.ctxEvent x0 x1 x2 x3 d).kept = d.kept := by (unfold Dev.ctxEvent; split <;> simp [*])
@[simp] theorem Dev.ctxTo_kept (x0 : Nat) (x1 : CtxState) (x2 : Nat) (d : Dev) : (Dev.ctxTo x0 x1 x2 d).kept = d.kept := by (unfold Dev.ctxTo; split <;> simp [*])
@[simp] theorem Dev.instRefresh_kept (x0 : Nat) (d : Dev) : (Dev.instRefresh x0 d).kept = d.kept := by (unfold Dev.instRefresh; repeat' split) <;> simp [*]
@[simp] theorem Dev.leaveInst_kept (x0 : Nat) (d : Dev) : (Dev.leaveInst x0 d).kept = d.kept := by (unfold Dev.leaveInst; split <;> simp [*])
@[simp] theorem Dev.joinInst_kept (x0 : Nat) (d : Dev) : (Dev.joinInst x0 d).kept = d.kept := by (unfold Dev.joinInst; dsimp only; repeat' split) <;> simp [*]
@[simp] theorem Dev.ctxRuns_kept (x0 : Nat) (x1 : Nat) (d : Dev) : (Dev.ctxRuns x0 x1 d).kept = d.kept := by (unfold Dev.ctxRuns; repeat' split) <;> simp [*]
@[simp] theorem Dev.placeMember_kept (x0 : Nat) (d : Dev) : ∀ e ∈ Dev.placeMember x0 d, e.kept = d.kept := by (unfold Dev.placeMember; repeat' split) <;> simp [*]
@[simp] theorem Dev.placeCtx_kept (x0 : Nat) (x1 : Option Nat) (d : Dev) : ∀ e ∈ Dev.placeCtx x0 x1 d, e.kept = d.kept := by (unfold Dev.placeCtx; dsimp only; repeat' split) <;> simp [*]
theorem foldl_opt {α : Type} (f : Dev → α → Option Dev) (h : ∀ d x, ∀ e ∈ f d x, e.kept = d.kept) (l : List α) (d : Dev) :
    (l.foldl (fun e x => (f e x).getD e) d).kept = d.kept := by
  apply foldl_keeps Dev.kept; intro d x; have := h d x; cases hf : f d x <;> simp_all
theorem Dev.placeInst_kept (x0 : Nat) (x1 : Option Nat) (d : Dev) : ∀ e ∈ Dev.placeInst x0 x1 d, e.kept = d.kept := by
  intro e he; unfold Dev.placeInst at he
  repeat' split at he
  all_goals simp at he
  all_goals
    subst he
    refine (foldl_opt (fun e (x : Nat × CtxSt) => e.placeMember x.1) (fun d x => Dev.placeMember_kept x.1 d) _ _).trans ?_
    simp
theorem Dev.place_kept (x0 : Ent) (x1 : Option Nat) (d : Dev) : ∀ e ∈ Dev.place x0 x1 d, e.kept = d.kept := by
  cases x0 with
  | ctx c => exact Dev.placeCtx_kept c x1 d
  | inst c => exact Dev.placeInst_kept c x1 d
  | mem c => exact Dev.placeMember_kept c d
@[simp] theorem Dev.ctxOut_kept (x0 : Nat) (x1 : Nat) (x2 : Bool) (d : Dev) : (Dev.ctxOut x0 x1 x2 d).kept = d.kept := by (unfold Dev.ctxOut; repeat' split) <;> simp [*]
@[simp] theorem Dev.instOut_kept (x0 : Nat) (x1 : Nat) (x2 : Bool) (d : Dev) : (Dev.instOut x0 x1 x2 d).kept = d.kept := by (unfold Dev.instOut; repeat' split) <;> simp [*]
@[simp] theorem Dev.withdraw_kept (x0 : Ent) (x1 : Nat) (d : Dev) : (Dev.withdraw x0 x1 d).kept = d.kept := by (unfold Dev.withdraw; split <;> simp [*])
@[simp] theorem Dev.preemptEvent_kept (x0 : Nat) (x1 : Nat) (x2 : Nat) (x3 : Nat) (x4 : Dev) (d : Dev) : (Dev.preemptEvent x0 x1 x2 x3 x4 d).kept = d.kept := by (unfold Dev.preemptEvent; split <;> simp [*])
@[simp] theorem Dev.preempt_kept (x0 : Ent) (x1 : Nat) (x2 : Nat) (d : Dev) : (Dev.preempt x0 x1 x2 d).kept = d.kept := by simp [Dev.preempt]
theorem Dev.preemptLoop_kept (e : Ent) (n : Nat) (l : List (Ent × Nat)) (p : Option Nat) (d : Dev) : ∀ r ∈ Dev.preemptLoop e n l p d, r.2.kept = d.kept := by
  induction n generalizing l p d with
  | zero => simp [Dev.preemptLoop]
  | succ n ih =>
    intro r hr; rw [Dev.preemptLoop] at hr
    split at hr
    · rename_i d1 h; simp at hr; subst hr; exact Dev.place_kept _ _ _ _ h
    · dsimp only at hr; split at hr
      · simp at hr
      · have := ih _ _ _ _ hr; simpa using this
@[simp] theorem Dev.applyRetuneParked_kept (x0 : Nat) (x1 : Tuning) (x2 : CtxSt) (d : Dev) : (Dev.applyRetuneParked x0 x1 x2 d).kept = d.kept := by (unfold Dev.applyRetuneParked; dsimp only; repeat' split) <;> simp [*]
@[simp] theorem Dev.applyTune_kept (x0 : Nat) (x1 : Tuning) (x2 : Nat) (d : Dev) : (Dev.applyTune x0 x1 x2 d).kept = d.kept := by (unfold Dev.applyTune; repeat' split) <;> simp [*]
@[simp] theorem Dev.applyClose_kept (x0 : Nat) (d : Dev) : (Dev.applyClose x0 d).kept = d.kept := by (unfold Dev.applyClose; repeat' split) <;> simp [*]
@[simp] theorem Dev.applySuspend_kept (x0 : Nat) (d : Dev) : (Dev.applySuspend x0 d).kept = d.kept := by (unfold Dev.applySuspend; repeat' split) <;> simp [*]
@[simp] theorem Dev.applyResume_kept (x0 : Nat) (d : Dev) : (Dev.applyResume x0 d).kept = d.kept := by (unfold Dev.applyResume; split <;> simp [*])
@[simp] theorem Dev.applyConfig_kept (x0 : Nat) (x1 : Bool) (x2 : Nat) (d : Dev) : (Dev.applyConfig x0 x1 x2 d).kept = d.kept := by (unfold Dev.applyConfig; repeat' split) <;> simp [*]
@[simp] theorem Dev.applyAct_kept (x0 : CtxSched) (d : Dev) : (Dev.applyAct x0 d).kept = d.kept := by (unfold Dev.applyAct; split <;> simp [*])
@[simp] theorem Dev.applyActs_kept (d : Dev) : (Dev.applyActs d).kept = d.kept := by simp [Dev.applyActs]
@[simp] theorem Dev.moveToPin_kept (x0 : Nat) (x1 : Nat) (x2 : Nat) (d : Dev) : (Dev.moveToPin x0 x1 x2 d).kept = d.kept := by (unfold Dev.moveToPin; dsimp only; repeat' split) <;> simp [*]
@[simp] theorem Dev.applyPin_kept (x0 : PinAct) (d : Dev) : (Dev.applyPin x0 d).kept = d.kept := by (unfold Dev.applyPin; dsimp only; repeat' split) <;> simp [*]
@[simp] theorem Dev.applyPins_kept (d : Dev) : (Dev.applyPins d).kept = d.kept := by simp [Dev.applyPins]
@[simp] theorem Dev.joinAll_kept (d : Dev) : (Dev.joinAll d).kept = d.kept := by simp [Dev.joinAll]
@[simp] theorem Dev.planFg_kept (d : Dev) : (Dev.planFg d).2.kept = d.kept := by
  unfold Dev.planFg; rw [foldl_kept2]; intro p x; split
  · rename_i h; exact Dev.preemptLoop_kept _ _ _ _ _ _ h
  · rfl
@[simp] theorem refuseWith_kept (x0 : Status) (x1 : List Byte) (d : Dev) : (refuseWith x0 x1 d).dev.kept = d.kept := by simp [refuseWith]
@[simp] theorem Dev.reservedAnswer_kept (p : QPkt) (q : Req) (d : Dev) : ∀ e ∈ Dev.reservedAnswer p q d, e.kept = d.kept := by
  have ha := Dev.authenticate_kept q p.bytes d
  unfold Dev.reservedAnswer; repeat' split
  all_goals simp_all
@[simp] theorem Dev.reservedOpcode_kept (p : QPkt) (d : Dev) : (Dev.reservedOpcode p d).kept = d.kept := by
  unfold Dev.reservedOpcode; rw [Dev.take_kept]; intro q e
  have h := Dev.reservedAnswer_kept p q e; cases hr : Dev.reservedAnswer p q e <;> simp_all
@[simp] theorem Dev.applyPropSet_kept (x0 : PropSet) (d : Dev) : (Dev.applyPropSet x0 d).kept = d.kept := by simp [Dev.applyPropSet]
@[simp] theorem Dev.applyProps_kept (d : Dev) : (Dev.applyProps d).kept = d.kept := by simp [Dev.applyProps]
@[simp] theorem Dev.freeze_kept (d : Dev) : (Dev.freeze d).kept = d.kept := by simp [Dev.freeze]
@[simp] theorem Dev.dwellEnds_kept (x0 : Nat) (d : Dev) : (Dev.dwellEnds x0 d).kept = d.kept := by (unfold Dev.dwellEnds; split <;> simp [*])
@[simp] theorem Dev.scanNext_kept (x0 : Nat) (d : Dev) : (Dev.scanNext x0 d).kept = d.kept := by (unfold Dev.scanNext; dsimp only; repeat' split) <;> simp [*]
@[simp] theorem Dev.abandon_kept (d : Dev) : (Dev.abandon d).kept = d.kept := by simp [Dev.abandon]
@[simp] theorem Dev.commitOut_kept (x0 : Ent × OutCause) (d : Dev) : (Dev.commitOut x0 d).kept = d.kept := by (unfold Dev.commitOut; split <;> simp [*])
@[simp] theorem Dev.preemptAbandoned_kept (x0 : Ent × OutCause) (x1 : Dev) (d : Dev) : (Dev.preemptAbandoned x0 x1 d).kept = d.kept := by (unfold Dev.preemptAbandoned; split <;> simp [*])
@[simp] theorem Dev.commitItem_kept (a : List Nat) (b : PlanItem) (x d : Dev) : (Dev.commitItem a b x d).kept = d.kept := by
  unfold Dev.commitItem; split
  · rfl
  · split
    · simp
    · dsimp only
      generalize hg : List.foldl (fun d v => (Dev.preemptAbandoned v x d).abandon) d (List.filter (fun v => !d.entRuns v.1) b.out) = d1
      have h1 : d1.kept = d.kept := by rw [← hg, foldl_kept]; simp
      generalize hg2 : (if (!(List.filter (fun v => !d.entRuns v.1) b.out).isEmpty && (d1.place _ none).isSome) = true then d1 else List.foldl (fun d v => Dev.commitOut v d) d1 (List.filter (fun v => d.entRuns v.1) b.out)) = d2
      have h2 : d2.kept = d1.kept := by rw [← hg2]; split <;> simp
      split
      · rename_i d3 h; have := Dev.place_kept _ _ _ _ h; simp [this, h2, h1]
      · rw [h2, h1]
@[simp] theorem Dev.commitLate_kept (d : Dev) : (Dev.commitLate d).kept = d.kept := by
  unfold Dev.commitLate; rw [foldl_kept]; intro p x; split
  · rename_i h; exact Dev.preemptLoop_kept _ _ _ _ _ _ h
  · rfl
@[simp] theorem Dev.restartDwell_kept (d : Dev) : (Dev.restartDwell d).kept = d.kept := by simp [Dev.restartDwell]
@[simp] theorem Dev.flushTuned_kept (d : Dev) : (Dev.flushTuned d).kept = d.kept := by
  unfold Dev.flushTuned; rw [foldl_kept]; intro p x; split <;> simp
@[simp] theorem Dev.traverseRound_kept (d : Dev) : (Dev.traverseRound d).kept = d.kept := by simp [Dev.traverseRound]
@[simp] theorem Dev.noResource_kept (x0 : Nat) (x1 : Ent) (x2 : Nat) (d : Dev) : (Dev.noResource x0 x1 x2 d).kept = d.kept := by simp [Dev.noResource]
@[simp] theorem Dev.withdrawSegs_kept (p : Nat → Bool) (d : Dev) : (Dev.withdrawSegs p d).kept = d.kept := by
  unfold Dev.withdrawSegs; rw [forAll_kept]; intro n d; dsimp only
  repeat' split
  all_goals simp
@[simp] theorem Dev.schedule_kept (x0 : Nat) (x1 : CtxAct) (x2 : Nat) (d : Dev) : (Dev.schedule x0 x1 x2 d).kept = d.kept := by simp [Dev.schedule]
@[simp] theorem Dev.startPlan_kept (x0 : Nat) (x1 : Bool) (d : Dev) : (Dev.startPlan x0 x1 d).kept = d.kept := by simp [Dev.startPlan]
@[simp] theorem Dev.planEvent_kept (x0 : PlanChange) (x1 : Nat) (d : Dev) : (Dev.planEvent x0 x1 d).kept = d.kept := by simp [Dev.planEvent]
@[simp] theorem Dev.spurRound_kept (d : Dev) : (Dev.spurRound d).kept = d.kept := by simp [Dev.spurRound]
@[simp] theorem Dev.audLost_kept (x0 : Nat) (d : Dev) : (Dev.audLost x0 d).kept = d.kept := by simp [Dev.audLost]
@[simp] theorem Dev.refIsLost_kept (x0 : Nat) (x1 : Int) (d : Dev) : (Dev.refIsLost x0 x1 d).kept = d.kept := by simp [Dev.refIsLost]
@[simp] theorem Dev.refillPorts_kept (d : Dev) : (Dev.refillPorts d).kept = d.kept := by simp [Dev.refillPorts]
@[simp] theorem Dev.audLocked_kept (x0 : Nat) (x1 : Nat) (d : Dev) : (Dev.audLocked x0 x1 d).kept = d.kept := by simp [Dev.audLocked]
@[simp] theorem Dev.addC_kept (x0 : Nat) (x1 : Int) (d : Dev) : (Dev.addC x0 x1 d).kept = d.kept := by (unfold Dev.addC; split <;> simp [*])
@[simp] theorem Dev.fmAfc_kept (x0 : Nat) (x1 : NbWin) (d : Dev) : (Dev.fmAfc x0 x1 d).kept = d.kept := by simp [Dev.fmAfc]
@[simp] theorem Dev.nbRelease_kept (x0 : Nat) (d : Dev) : (Dev.nbRelease x0 d).kept = d.kept := by (unfold Dev.nbRelease; split <;> simp [*])
@[simp] theorem Dev.amPll_kept (x0 : Nat) (d : Dev) : (Dev.amPll x0 d).kept = d.kept := by simp [Dev.amPll]
@[simp] theorem Dev.nbFeed_kept (x0 : Nat) (x1 : Nat) (x2 : List SlotSample) (d : Dev) : (Dev.nbFeed x0 x1 x2 d).2.kept = d.kept := by (unfold Dev.nbFeed; dsimp only; split <;> simp [*])
@[simp] theorem Dev.nbWindowEnd_kept (x0 : Nat) (d : Dev) : (Dev.nbWindowEnd x0 d).kept = d.kept := by simp [Dev.nbWindowEnd]
@[simp] theorem Dev.applyNb_kept (x0 : Nat) (d : Dev) : (Dev.applyNb x0 d).kept = d.kept := by (unfold Dev.applyNb; split <;> simp [*])
@[simp] theorem Dev.nbRound_kept (d : Dev) : (Dev.nbRound d).kept = d.kept := by simp [Dev.nbRound]
@[simp] theorem Dev.setUnit_kept (x0 : Nat) (x1 : Nat) (x2 : RdsUnit → RdsUnit) (d : Dev) : (Dev.setUnit x0 x1 x2 d).kept = d.kept := by simp [Dev.setUnit]
@[simp] theorem Dev.rdsStation_kept (x0 : Nat) (x1 : Nat) (d : Dev) : (Dev.rdsStation x0 x1 d).kept = d.kept := by simp [Dev.rdsStation]
@[simp] theorem Dev.setPi_kept (x0 : Nat) (x1 : Nat) (x2 : Nat) (x3 : Nat) (d : Dev) : (Dev.setPi x0 x1 x2 x3 d).kept = d.kept := by simp [Dev.setPi]
@[simp] theorem Dev.expectPi_kept (x0 : Nat) (x1 : Nat) (x2 : Option Nat) (x3 : Nat) (x4 : Nat) (d : Dev) : (Dev.expectPi x0 x1 x2 x3 x4 d).kept = d.kept := by simp [Dev.expectPi]
@[simp] theorem Dev.seenPi_kept (x0 : Nat) (x1 : Nat) (x2 : Nat) (d : Dev) : (Dev.seenPi x0 x1 x2 d).kept = d.kept := by simp [Dev.seenPi]
@[simp] theorem Dev.expectedBlock_kept (x0 : Nat) (x1 : Nat) (x2 : Nat) (x3 : Nat) (x4 : Nat) (x5 : Option Nat) (x6 : Nat) (x7 : Nat) (x8 : Bool) (d : Dev) : (Dev.expectedBlock x0 x1 x2 x3 x4 x5 x6 x7 x8 d).kept = d.kept := by simp [Dev.expectedBlock]
@[simp] theorem Dev.rdsBlock_kept (x0 : Nat) (x1 : Nat) (x2 : Nat) (x3 : Nat) (x4 : Option Nat) (x5 : Nat) (x6 : Nat) (x7 : Bool) (d : Dev) : (Dev.rdsBlock x0 x1 x2 x3 x4 x5 x6 x7 d).kept = d.kept := by (unfold Dev.rdsBlock; dsimp only; repeat' split) <;> simp [*]
@[simp] theorem Dev.rdsTake_kept (x0 x1 : Nat) (l : List RdsBit) (d : Dev) : (Dev.rdsTake x0 x1 l d).kept = d.kept := by
  induction l generalizing d with
  | nil => simp [Dev.rdsTake]
  | cons b l ih => (unfold Dev.rdsTake; dsimp only; repeat' split) <;> simp [ih]
@[simp] theorem Dev.rdsFeed_kept (x0 : Nat) (x1 : List MpxOut) (d : Dev) : (Dev.rdsFeed x0 x1 d).kept = d.kept := by simp [Dev.rdsFeed]
@[simp] theorem Dev.afStep_kept (x0 : Nat) (x1 : AfList) (d : Dev) : (Dev.afStep x0 x1 d).kept = d.kept := by simp [Dev.afStep]
@[simp] theorem Dev.afBlock_kept (x0 : Nat) (x1 : Nat) (d : Dev) : (Dev.afBlock x0 x1 d).kept = d.kept := by (unfold Dev.afBlock; dsimp only; repeat' split) <;> simp [*]
@[simp] theorem Dev.rdsAlert_kept (x0 : Nat) (x1 : Nat) (x2 : Nat) (x3 : List Nat) (d : Dev) : (Dev.rdsAlert x0 x1 x2 x3 d).kept = d.kept := by simp [Dev.rdsAlert]
@[simp] theorem Dev.rdsAlarm_kept (x0 : Nat) (x1 : Option Nat) (d : Dev) : (Dev.rdsAlarm x0 x1 d).kept = d.kept := by simp [Dev.rdsAlarm]
@[simp] theorem Dev.rdsEon_kept (x0 : Nat) (x1 : Bool) (x2 : Option Nat) (x3 : Option Nat) (x4 : Nat) (d : Dev) : (Dev.rdsEon x0 x1 x2 x3 x4 d).kept = d.kept := by (unfold Dev.rdsEon; split <;> simp [*])
@[simp] theorem Dev.rdsExtract_kept (x0 : Nat) (x1 : Option Nat) (x2 : Option Nat) (x3 : Option Nat) (d : Dev) : (Dev.rdsExtract x0 x1 x2 x3 d).kept = d.kept := by (unfold Dev.rdsExtract; repeat' split) <;> simp [*]
@[simp] theorem Dev.rdsGroup_kept (x0 : Nat) (x1 : Nat) (d : Dev) : (Dev.rdsGroup x0 x1 d).kept = d.kept := by (unfold Dev.rdsGroup; split <;> simp [*])
@[simp] theorem Dev.applyRds_kept (x0 : Nat) (d : Dev) : (Dev.applyRds x0 d).kept = d.kept := by (unfold Dev.applyRds; split <;> simp [*])
@[simp] theorem Dev.rdsRound_kept (d : Dev) : (Dev.rdsRound d).kept = d.kept := by simp [Dev.rdsRound]
@[simp] theorem Dev.combineFmRound_kept (x0 : Nat) (x1 : Nat) (d : Dev) : (Dev.combineFmRound x0 x1 d).2.kept = d.kept := by (unfold Dev.combineFmRound; split <;> simp [*])
@[simp] theorem Dev.combineAmRound_kept (x0 : Nat) (x1 : Nat) (d : Dev) : (Dev.combineAmRound x0 x1 d).kept = d.kept := by (unfold Dev.combineAmRound; split <;> simp [*])
@[simp] theorem Dev.combineNb_kept (x0 : Nat) (x1 : Nat) (d : Dev) : (Dev.combineNb x0 x1 d).kept = d.kept := by (unfold Dev.combineNb; split <;> simp [*])
@[simp] theorem Dev.ensChanged_kept (x0 : Nat) (x1 : Nat) (x2 : Nat) (x3 : Nat) (d : Dev) : (Dev.ensChanged x0 x1 x2 x3 d).kept = d.kept := by simp [Dev.ensChanged]
@[simp] theorem Dev.ensAll_kept (x0 : Nat) (x1 : Nat) (d : Dev) : (Dev.ensAll x0 x1 d).kept = d.kept := by simp [Dev.ensAll]
@[simp] theorem Dev.dabWrite_kept (x0 : Nat) (x1 : Int) (x2 : Nat) (d : Dev) : (Dev.dabWrite x0 x1 x2 d).kept = d.kept := by simp [Dev.dabWrite]
@[simp] theorem Dev.dabTrack_kept (x0 : Nat) (x1 : Int) (d : Dev) : (Dev.dabTrack x0 x1 d).kept = d.kept := by simp [Dev.dabTrack]
@[simp] theorem Dev.dabFreq_kept (x0 : Nat) (d : Dev) : (Dev.dabFreq x0 d).kept = d.kept := by (unfold Dev.dabFreq; dsimp only; split <;> simp [*])
@[simp] theorem Dev.dabMove_kept (x0 : Nat) (d : Dev) : (Dev.dabMove x0 d).kept = d.kept := by (unfold Dev.dabMove; dsimp only; repeat' split) <;> simp [*]
@[simp] theorem Dev.dabSettle_kept (x0 : Nat) (x1 : Nat) (d : Dev) : (Dev.dabSettle x0 x1 d).kept = d.kept := by simp [Dev.dabSettle]
@[simp] theorem Dev.dabTake_kept (x0 : Nat) (x1 : List (List OfdmSample)) (d : Dev) : (Dev.dabTake x0 x1 d).kept = d.kept := by simp [Dev.dabTake]
@[simp] theorem Dev.dabFeed_kept (x0 : Nat) (x1 : List SlotSample) (d : Dev) : (Dev.dabFeed x0 x1 d).kept = d.kept := by simp [Dev.dabFeed]
@[simp] theorem Dev.dabPrs_kept (x0 : Nat) (d : Dev) : (Dev.dabPrs x0 d).kept = d.kept := by (unfold Dev.dabPrs; dsimp only; repeat' split) <;> simp [*]
@[simp] theorem Dev.dabRestart_kept (x0 : Nat) (x1 : DabSub) (d : Dev) : (Dev.dabRestart x0 x1 d).kept = d.kept := by simp [Dev.dabRestart]
@[simp] theorem Dev.dabTry_kept (x0 : Nat) (x1 : Nat) (d : Dev) : (Dev.dabTry x0 x1 d).kept = d.kept := by (unfold Dev.dabTry; split <;> simp [*])
@[simp] theorem Dev.dabTryAll_kept (x0 : Nat) (d : Dev) : (Dev.dabTryAll x0 d).kept = d.kept := by simp [Dev.dabTryAll]
@[simp] theorem Dev.dabRemap_kept (x0 : Nat) (x1 : Nat) (d : Dev) : (Dev.dabRemap x0 x1 d).kept = d.kept := by (unfold Dev.dabRemap; dsimp only; split <;> simp [*])
@[simp] theorem Dev.dabApply_kept (x0 : Nat) (d : Dev) : (Dev.dabApply x0 d).kept = d.kept := by simp [Dev.dabApply]
@[simp] theorem Dev.dabReach_kept (x0 : Nat) (x1 : Nat) (x2 : Nat) (d : Dev) : (Dev.dabReach x0 x1 x2 d).kept = d.kept := by (unfold Dev.dabReach; split <;> simp [*])
@[simp] theorem Dev.annEvent_kept (x0 : Nat) (x1 : Nat) (x2 : DabCluster) (x3 : Nat) (d : Dev) : (Dev.annEvent x0 x1 x2 x3 d).kept = d.kept := by simp [Dev.annEvent]
@[simp] theorem Dev.dabAlert_kept (x0 : Nat) (x1 : Nat) (x2 : DabCluster) (d : Dev) : (Dev.dabAlert x0 x1 x2 d).kept = d.kept := by simp [Dev.dabAlert]
@[simp] theorem Dev.annBegin_kept (x0 : Nat) (x1 : Nat) (x2 : DabCluster) (d : Dev) : (Dev.annBegin x0 x1 x2 d).kept = d.kept := by simp [Dev.annBegin]
@[simp] theorem Dev.annEnd_kept (x0 : Nat) (x1 : DabCluster) (d : Dev) : (Dev.annEnd x0 x1 d).kept = d.kept := by (unfold Dev.annEnd; split <;> simp [*])
@[simp] theorem Dev.clusterSeen_kept (x0 : Nat) (x1 : DabCluster) (d : Dev) : (Dev.clusterSeen x0 x1 d).kept = d.kept := by simp [Dev.clusterSeen]
@[simp] theorem Dev.dabSwitch_kept (x0 : Nat) (x1 : Nat × Nat × Nat × Nat) (d : Dev) : (Dev.dabSwitch x0 x1 d).kept = d.kept := by simp [Dev.dabSwitch]
@[simp] theorem Dev.dabOffer_kept (x0 : Nat) (x1 : FbOffer) (d : Dev) : (Dev.dabOffer x0 x1 d).kept = d.kept := by simp [Dev.dabOffer]
@[simp] theorem Dev.dabServices_kept (x0 : Nat) (d : Dev) : (Dev.dabServices x0 d).kept = d.kept := by (unfold Dev.dabServices; split <;> simp [*])
@[simp] theorem Dev.dabEnsemble_kept (x0 : Nat) (x1 : Nat) (x2 : Nat) (x3 : Nat) (x4 : Nat) (x5 : Bool) (d : Dev) : (Dev.dabEnsemble x0 x1 x2 x3 x4 x5 d).kept = d.kept := by simp [Dev.dabEnsemble]
@[simp] theorem Dev.dabFig_kept (x0 : Nat) (x1 : Fig) (d : Dev) : (Dev.dabFig x0 x1 d).kept = d.kept := by (unfold Dev.dabFig; split <;> simp [*])
@[simp] theorem Dev.dabDeliver_kept (x0 : Nat) (x1 : Fig) (d : Dev) : (Dev.dabDeliver x0 x1 d).kept = d.kept := by simp [Dev.dabDeliver]
@[simp] theorem Dev.dabFib_kept (x0 : Nat) (x1 : Bool) (x2 : List Byte) (x3 : List Fig) (d : Dev) : (Dev.dabFib x0 x1 x2 x3 d).kept = d.kept := by simp [Dev.dabFib]
@[simp] theorem Dev.dabCif_kept (x0 : Nat) (x1 : Nat) (x2 : List Byte) (x3 : Nat) (d : Dev) : (Dev.dabCif x0 x1 x2 x3 d).kept = d.kept := by (unfold Dev.dabCif; dsimp only; split <;> simp [*])
@[simp] theorem Dev.dabCtxRound_kept (x0 : Nat) (d : Dev) : (Dev.dabCtxRound x0 d).kept = d.kept := by (unfold Dev.dabCtxRound; dsimp only; repeat' split) <;> simp [*]
@[simp] theorem Dev.dabRound_kept (d : Dev) : (Dev.dabRound d).kept = d.kept := by simp [Dev.dabRound]
@[simp] theorem Dev.drmChanged_kept (x0 : Nat) (x1 : Nat) (x2 : Nat) (d : Dev) : (Dev.drmChanged x0 x1 x2 d).kept = d.kept := by simp [Dev.drmChanged]
@[simp] theorem Dev.drmMode_kept (x0 : Nat) (d : Dev) : (Dev.drmMode x0 d).kept = d.kept := by (unfold Dev.drmMode; dsimp only; split <;> simp [*])
@[simp] theorem Dev.drmWrite_kept (x0 : Nat) (x1 : Int) (d : Dev) : (Dev.drmWrite x0 x1 d).kept = d.kept := by simp [Dev.drmWrite]
@[simp] theorem Dev.drmFrequency_kept (x0 : Nat) (d : Dev) : (Dev.drmFrequency x0 d).kept = d.kept := by (unfold Dev.drmFrequency; dsimp only; split <;> simp [*])
@[simp] theorem Dev.drmRun_kept (x0 : Nat) (d : Dev) : (Dev.drmRun x0 d).kept = d.kept := by (unfold Dev.drmRun; dsimp only; repeat' split) <;> simp [*]
@[simp] theorem Dev.drmFrameStart_kept (x0 : Nat) (d : Dev) : (Dev.drmFrameStart x0 d).kept = d.kept := by (unfold Dev.drmFrameStart; dsimp only; split <;> simp [*])
@[simp] theorem Dev.drmTakes_kept (x0 : Nat) (x1 : List (List OfdmSample)) (d : Dev) : (Dev.drmTakes x0 x1 d).kept = d.kept := by simp [Dev.drmTakes]
@[simp] theorem Dev.drmFeed_kept (x0 : Nat) (x1 : List SlotSample) (d : Dev) : (Dev.drmFeed x0 x1 d).kept = d.kept := by simp [Dev.drmFeed]
@[simp] theorem Dev.drmLost_kept (x0 : Nat) (x1 : Bool) (d : Dev) : (Dev.drmLost x0 x1 d).kept = d.kept := by simp [Dev.drmLost]
@[simp] theorem Dev.drmTrack_kept (x0 : Nat) (x1 : Int) (d : Dev) : (Dev.drmTrack x0 x1 d).kept = d.kept := by (unfold Dev.drmTrack; repeat' split) <;> simp [*]
@[simp] theorem Dev.drmOcc_kept (x0 : Nat) (x1 : Nat) (d : Dev) : (Dev.drmOcc x0 x1 d).kept = d.kept := by simp [Dev.drmOcc]
@[simp] theorem Dev.drmFac_kept (x0 : Nat) (x1 : DrmFac) (d : Dev) : (Dev.drmFac x0 x1 d).kept = d.kept := by simp [Dev.drmFac]
@[simp] theorem Dev.drmFacFrame_kept (x0 : Nat) (x1 : Bool) (x2 : DrmFac) (d : Dev) : (Dev.drmFacFrame x0 x1 x2 d).kept = d.kept := by simp [Dev.drmFacFrame]
@[simp] theorem Dev.drmTake_kept (x0 : Nat) (x1 : DrmServ) (d : Dev) : (Dev.drmTake x0 x1 d).kept = d.kept := by simp [Dev.drmTake]
@[simp] theorem Dev.drmTry_kept (x0 : Nat) (x1 : Bool) (d : Dev) : (Dev.drmTry x0 x1 d).kept = d.kept := by (unfold Dev.drmTry; split <;> simp [*])
@[simp] theorem Dev.drmApply_kept (x0 : Nat) (d : Dev) : (Dev.drmApply x0 d).kept = d.kept := by (unfold Dev.drmApply; dsimp only; repeat' split) <;> simp [*]
@[simp] theorem Dev.drmAlert_kept (x0 : Nat) (x1 : Nat) (d : Dev) : (Dev.drmAlert x0 x1 d).kept = d.kept := by simp [Dev.drmAlert]
@[simp] theorem Dev.drmAlarm_kept (x0 : Nat) (x1 : Option Nat) (d : Dev) : (Dev.drmAlarm x0 x1 d).kept = d.kept := by simp [Dev.drmAlarm]
@[simp] theorem Dev.drmOffer_kept (x0 : Nat) (x1 : FbOffer) (d : Dev) : (Dev.drmOffer x0 x1 d).kept = d.kept := by simp [Dev.drmOffer]
@[simp] theorem Dev.drmOffers_kept (x0 : Nat) (x1 : DrmSdc) (d : Dev) : (Dev.drmOffers x0 x1 d).kept = d.kept := by simp [Dev.drmOffers]
@[simp] theorem Dev.drmSdc_kept (x0 : Nat) (x1 : DrmSdc) (d : Dev) : (Dev.drmSdc x0 x1 d).kept = d.kept := by simp [Dev.drmSdc]
@[simp] theorem Dev.drmMove_kept (x0 : Nat) (d : Dev) : (Dev.drmMove x0 d).kept = d.kept := by (unfold Dev.drmMove; repeat' split) <;> simp [*]
@[simp] theorem Dev.drmCtxRound_kept (x0 : Nat) (d : Dev) : (Dev.drmCtxRound x0 d).kept = d.kept := by (unfold Dev.drmCtxRound; dsimp only; repeat' split) <;> simp [*]
@[simp] theorem Dev.drmRound_kept (d : Dev) : (Dev.drmRound d).kept = d.kept := by simp [Dev.drmRound]
@[simp] theorem Dev.agcAuto_kept (x0 : Nat) (x1 : Bool) (x2 : Bool) (x3 : AgcPath) (x4 : AgcPath) (d : Dev) : (Dev.agcAuto x0 x1 x2 x3 x4 d).kept = d.kept := by simp [Dev.agcAuto]
@[simp] theorem Dev.agcHost_kept (x0 : Nat) (x1 : Nat × Int × Nat) (d : Dev) : (Dev.agcHost x0 x1 d).kept = d.kept := by simp [Dev.agcHost]
@[simp] theorem Dev.agcRamps_kept (x0 : Nat) (x1 : Int) (x2 : Int) (d : Dev) : (Dev.agcRamps x0 x1 x2 d).kept = d.kept := by simp [Dev.agcRamps]
@[simp] theorem Dev.agcOverload_kept (x0 : Nat) (x1 : Nat) (d : Dev) : (Dev.agcOverload x0 x1 d).kept = d.kept := by simp [Dev.agcOverload]
@[simp] theorem Dev.agcWindow_kept (x0 : Nat) (x1 : Nat) (x2 : Int) (x3 : Int) (d : Dev) : (Dev.agcWindow x0 x1 x2 x3 d).kept = d.kept := by (unfold Dev.agcWindow; dsimp only; repeat' split) <;> simp [*]
@[simp] theorem Dev.antDiag_kept (x0 : Nat) (x1 : Nat) (d : Dev) : (Dev.antDiag x0 x1 d).kept = d.kept := by simp [Dev.antDiag]
@[simp] theorem Dev.seqReport_kept (x0 : Nat) (x1 : Nat) (d : Dev) : (Dev.seqReport x0 x1 d).kept = d.kept := by simp [Dev.seqReport]
@[simp] theorem Dev.seqDone_kept (x0 : Nat) (x1 : Nat) (d : Dev) : (Dev.seqDone x0 x1 d).kept = d.kept := by simp [Dev.seqDone]
@[simp] theorem Dev.supplyCut_kept (x0 : Nat) (x1 : Nat) (d : Dev) : (Dev.supplyCut x0 x1 d).kept = d.kept := by (unfold Dev.supplyCut; dsimp only; repeat' split) <;> simp [*]
@[simp] theorem Dev.xampRound_kept (x0 : Nat) (d : Dev) : (Dev.xampRound x0 d).kept = d.kept := by (unfold Dev.xampRound; repeat' split) <;> simp [*]
@[simp] theorem Dev.loEvent_kept (x0 : Nat) (d : Dev) : (Dev.loEvent x0 d).kept = d.kept := by simp [Dev.loEvent]
@[simp] theorem Dev.syn0Start_kept (d : Dev) : (Dev.syn0Start d).kept = d.kept := by simp [Dev.syn0Start]
@[simp] theorem Dev.syn0Update_kept (d : Dev) : (Dev.syn0Update d).kept = d.kept := by simp [Dev.syn0Update]
@[simp] theorem Dev.lbandOff_kept (x0 : Nat) (d : Dev) : (Dev.lbandOff x0 d).kept = d.kept := by (unfold Dev.lbandOff; split <;> simp [*])
@[simp] theorem Dev.syn0Disagree_kept (d : Dev) : (Dev.syn0Disagree d).kept = d.kept := by (unfold Dev.syn0Disagree; split <;> simp [*])
@[simp] theorem Dev.spoilVisits_kept (x0 : Nat → Bool) (d : Dev) : (Dev.spoilVisits x0 d).kept = d.kept := by simp [Dev.spoilVisits]
@[simp] theorem Dev.calStartup_kept (x0 : Nat) (d : Dev) : (Dev.calStartup x0 d).kept = d.kept := by simp [Dev.calStartup]
@[simp] theorem Dev.xampStart_kept (x0 : Nat) (x1 : Nat) (x2 : Nat) (d : Dev) : (Dev.xampStart x0 x1 x2 d).kept = d.kept := by simp [Dev.xampStart]
@[simp] theorem Dev.setSseg_kept (x0 : Nat) (x1 : SurveySeg → SurveySeg) (d : Dev) : (Dev.setSseg x0 x1 d).kept = d.kept := by simp [Dev.setSseg]
@[simp] theorem Dev.surveyRound_kept (d : Dev) : (Dev.surveyRound d).kept = d.kept := by
  unfold Dev.surveyRound; dsimp only; repeat' split
  all_goals rfl
@[simp] theorem Dev.surveyTakes_kept (x0 : Nat) (x1 : List SegSample) (x2 : Bool) (d : Dev) : (Dev.surveyTakes x0 x1 x2 d).kept = d.kept := by simp [Dev.surveyTakes]
@[simp] theorem Dev.surveyDrop_kept (x0 : Nat → Bool) (d : Dev) : (Dev.surveyDrop x0 d).kept = d.kept := by simp [Dev.surveyDrop]
@[simp] theorem Dev.visitEnd_kept (x0 : VisitRun) (d : Dev) : (Dev.visitEnd x0 d).kept = d.kept := by (unfold Dev.visitEnd; repeat' split) <;> simp [*]
@[simp] theorem Dev.cycleBegin_kept (d : Dev) : (Dev.cycleBegin d).kept = d.kept := by simp [Dev.cycleBegin]
@[simp] theorem Dev.setFeed_kept (x0 : Nat) (x1 : AudioFeed → AudioFeed) (d : Dev) : (Dev.setFeed x0 x1 d).kept = d.kept := by simp [Dev.setFeed]
@[simp] theorem Dev.pcmIn_kept (x0 : Nat) (x1 : Nat) (x2 : List (Int × Int)) (d : Dev) : (Dev.pcmIn x0 x1 x2 d).kept = d.kept := by simp [Dev.pcmIn]
@[simp] theorem Dev.audioFrame_kept (x0 : Nat) (x1 : Bool) (x2 x3 : Nat) (x4 : List (Int × Int)) (d : Dev) : (Dev.audioFrame x0 x1 x2 x3 x4 d).kept = d.kept := by
  simp [Dev.audioFrame]
@[simp] theorem Dev.setPort_kept (x0 : Nat) (x1 : PortSt → PortSt) (d : Dev) : (Dev.setPort x0 x1 d).kept = d.kept := by simp [Dev.setPort]
@[simp] theorem Dev.portUnderrun_kept (x0 : Nat) (x1 : Nat) (d : Dev) : (Dev.portUnderrun x0 x1 d).kept = d.kept := by simp [Dev.portUnderrun]
@[simp] theorem Dev.setGroup_kept (x0 : Nat) (x1 : PortSt → PortSt) (d : Dev) : (Dev.setGroup x0 x1 d).kept = d.kept := by simp [Dev.setGroup]
@[simp] theorem Dev.faultFrame_kept (x0 x1 : Nat) (d : Dev) : (Dev.faultFrame x0 x1 d).kept = d.kept := by
  unfold Dev.faultFrame; dsimp only; split <;> simp
@[simp] theorem Dev.startPort_kept (x0 : Nat) (d : Dev) : (Dev.startPort x0 d).kept = d.kept := by simp [Dev.startPort]
@[simp] theorem Dev.setSpdo_kept (x0 : Nat) (x1 : SpdoSt → SpdoSt) (d : Dev) : (Dev.setSpdo x0 x1 d).kept = d.kept := by simp [Dev.setSpdo]
@[simp] theorem Dev.startSpdo_kept (x0 : Nat) (d : Dev) : (Dev.startSpdo x0 d).kept = d.kept := by simp [Dev.startSpdo]
@[simp] theorem Dev.stopOut_kept (x0 : Nat) (d : Dev) : (Dev.stopOut x0 d).kept = d.kept := by (unfold Dev.stopOut; split) <;> simp
@[simp] theorem Dev.stopAllOutputs_kept (d : Dev) : (Dev.stopAllOutputs d).kept = d.kept := by simp [Dev.stopAllOutputs]
@[simp] theorem Dev.applyPortCfgs_kept (d : Dev) : (Dev.applyPortCfgs d).kept = d.kept := by simp [Dev.applyPortCfgs]
@[simp] theorem Dev.blendDone_kept (x0 : Nat) (x1 : Nat) (x2 : Nat) (x3 : Nat) (x4 : Int) (d : Dev) : (Dev.blendDone x0 x1 x2 x3 x4 d).kept = d.kept := by simp [Dev.blendDone]
@[simp] theorem Dev.dropBlend_kept (x0 : Nat) (x1 : Nat) (d : Dev) : (Dev.dropBlend x0 x1 d).kept = d.kept := by (unfold Dev.dropBlend; dsimp only; split <;> simp [*])
@[simp] theorem Dev.routesTo_kept (x0 : Nat) (x1 : Nat) (x2 : Nat) (x3 : Nat) (d : Dev) : (Dev.routesTo x0 x1 x2 x3 d).kept = d.kept := by simp [Dev.routesTo]
@[simp] theorem Dev.applyRoute_kept (x0 : Nat) (x1 : Option Nat) (x2 x3 x4 : Nat) (d : Dev) : (Dev.applyRoute x0 x1 x2 x3 x4 d).kept = d.kept := by
  simp [Dev.applyRoute]
@[simp] theorem Dev.applyBlend_kept (a : List Nat) (x0 : Nat) (x1 : Nat) (x2 : Nat) (x3 : Bool) (x4 : Nat) (x5 : Nat) (d : Dev) : (Dev.applyBlend a x0 x1 x2 x3 x4 x5 d).kept = d.kept := by simp [Dev.applyBlend]
@[simp] theorem Dev.applyAud_kept (l : List Nat) (x0 : AudAct) (d : Dev) : (Dev.applyAud l x0 d).kept = d.kept := by (unfold Dev.applyAud; split <;> simp [*])
@[simp] theorem Dev.audioRound_kept (l : List Nat) (d : Dev) : (Dev.audioRound l d).kept = d.kept := by simp [Dev.audioRound]
@[simp] theorem Dev.spdiEvent_kept (x0 : Nat) (x1 : Nat) (x2 : Int) (d : Dev) : (Dev.spdiEvent x0 x1 x2 d).kept = d.kept := by simp [Dev.spdiEvent]
@[simp] theorem Dev.spdiRound_kept (d : Dev) : (Dev.spdiRound d).kept = d.kept := by simp [Dev.spdiRound]
@[simp] theorem Dev.audAccept_kept (x0 : AudAct) (d : Dev) : (Dev.audAccept x0 d).kept = d.kept := by simp [Dev.audAccept]
@[simp] theorem Dev.setRun_kept (x0 : Nat) (x1 : CalRun → CalRun) (d : Dev) : (Dev.setRun x0 x1 d).kept = d.kept := by simp [Dev.setRun]
@[simp] theorem Dev.passEnd_kept (x0 : Nat) (x1 : List Byte) (x2 : List Int) (x3 : Int) (d : Dev) : (Dev.passEnd x0 x1 x2 x3 d).kept = d.kept := by (unfold Dev.passEnd; split <;> simp [*])
@[simp] theorem Dev.applyDone_kept (x0 : Nat) (d : Dev) : (Dev.applyDone x0 d).kept = d.kept := by (unfold Dev.applyDone; repeat' split) <;> simp [*]
@[simp] theorem Dev.calEvent_kept (x0 : CalRun) (x1 : CalOutcome) (d : Dev) : (Dev.calEvent x0 x1 d).kept = d.kept := by (unfold Dev.calEvent; dsimp only; split <;> simp [*])
@[simp] theorem Dev.searchEnd_kept (x0 : Nat) (x1 : Nat) (x2 : Int) (d : Dev) : (Dev.searchEnd x0 x1 x2 d).kept = d.kept := by (unfold Dev.searchEnd; split <;> simp [*])
@[simp] theorem Dev.adviseInput_kept (x0 : Int) (x1 : Nat) (d : Dev) : (Dev.adviseInput x0 x1 d).kept = d.kept := by (unfold Dev.adviseInput; split <;> simp [*])
@[simp] theorem Dev.syn1RunStep_kept (x0 : Syn1Run) (x1 : Bool) (x2 : Nat) (x3 : Nat) (x4 : Int) (d : Dev) : (Dev.syn1RunStep x0 x1 x2 x3 x4 d).kept = d.kept := by (unfold Dev.syn1RunStep; split <;> simp [*])
@[simp] theorem Dev.rebase_kept (x0 : Nat) (d : Dev) : (Dev.rebase x0 d).kept = d.kept := by simp [Dev.rebase]
@[simp] theorem Dev.rebaseAll_kept (d : Dev) : (Dev.rebaseAll d).kept = d.kept := by simp [Dev.rebaseAll]
@[simp] theorem Dev.setGrp_kept (x0 : Nat) (x1 : FollowGrp → FollowGrp) (d : Dev) : (Dev.setGrp x0 x1 d).kept = d.kept := by simp [Dev.setGrp]
@[simp] theorem Dev.setBlend_kept (x0 : Nat) (x1 : BlendSt → BlendSt) (d : Dev) : (Dev.setBlend x0 x1 d).kept = d.kept := by simp [Dev.setBlend]
@[simp] theorem Dev.followCandidate_kept (x0 : Nat) (x1 : Nat) (x2 : Nat) (d : Dev) : (Dev.followCandidate x0 x1 x2 d).kept = d.kept := by simp [Dev.followCandidate]
@[simp] theorem Dev.followSwitch_kept (x0 : Nat) (x1 : Nat) (x2 : Nat) (x3 : Nat) (d : Dev) : (Dev.followSwitch x0 x1 x2 x3 d).kept = d.kept := by (unfold Dev.followSwitch; split <;> simp [*])
@[simp] theorem Dev.entryMiss_kept (x0 : Nat) (d : Dev) : (Dev.entryMiss x0 d).kept = d.kept := by (unfold Dev.entryMiss; split <;> simp [*])
@[simp] theorem Dev.prepare_kept (x0 : Nat) (x1 : Nat) (x2 : Nat × FbEntry) (d : Dev) : (Dev.prepare x0 x1 x2 d).kept = d.kept := by (unfold Dev.prepare; dsimp only; repeat' split) <;> simp [*]
@[simp] theorem Dev.selectPrepared_kept (x0 : Nat) (d : Dev) : (Dev.selectPrepared x0 d).kept = d.kept := by (unfold Dev.selectPrepared; repeat' split) <;> simp [*]
@[simp] theorem Dev.evaluate_kept (x0 : Nat) (x1 : FollowGrp) (d : Dev) : (Dev.evaluate x0 x1 d).kept = d.kept := by (unfold Dev.evaluate; dsimp only; repeat' split) <;> simp [*]
@[simp] theorem Dev.mismatch_kept (x0 : Nat) (d : Dev) : (Dev.mismatch x0 d).kept = d.kept := by (unfold Dev.mismatch; split <;> simp [*])
@[simp] theorem Dev.alignMeasure_kept (x0 : Nat) (x1 : Int) (x2 : Bool) (d : Dev) : (Dev.alignMeasure x0 x1 x2 d).kept = d.kept := by (unfold Dev.alignMeasure; dsimp only; repeat' split) <;> simp [*]
@[simp] theorem Dev.startFade_kept (x0 : Nat) (x1 : Bool) (d : Dev) : (Dev.startFade x0 x1 d).kept = d.kept := by (unfold Dev.startFade; dsimp only; split <;> simp [*])
@[simp] theorem Dev.bendFade_kept (x0 : Nat) (x1 : Nat) (d : Dev) : (Dev.bendFade x0 x1 d).kept = d.kept := by simp [Dev.bendFade]
@[simp] theorem Dev.fadeOver_kept (x0 : Nat) (x1 : FadeSt) (x2 : Bool) (d : Dev) : (Dev.fadeOver x0 x1 x2 d).kept = d.kept := by simp [Dev.fadeOver]
@[simp] theorem Dev.fadeBack_kept (x0 : Nat) (x1 : FadeSt) (x2 : Bool) (d : Dev) : (Dev.fadeBack x0 x1 x2 d).kept = d.kept := by simp [Dev.fadeBack]
@[simp] theorem Dev.dropPreps_kept (a : List Nat) (d : Dev) : (Dev.dropPreps a d).kept = d.kept := by
  unfold Dev.dropPreps; rw [forAll_kept]; intro n d; dsimp only
  repeat' split
  all_goals simp
@[simp] theorem Dev.partnerRuns_kept (x0 : Nat) (d : Dev) : (Dev.partnerRuns x0 d).kept = d.kept := by (unfold Dev.partnerRuns; split <;> simp [*])
@[simp] theorem Dev.judgeLoss_kept (a : List Nat) (x0 : Nat) (d : Dev) : (Dev.judgeLoss a x0 d).kept = d.kept := by (unfold Dev.judgeLoss; dsimp only; repeat' split) <;> simp [*]
@[simp] theorem Dev.applyFollow_kept (x0 : FollowAct) (d : Dev) : (Dev.applyFollow x0 d).kept = d.kept := by (unfold Dev.applyFollow; repeat' split) <;> simp [*]
@[simp] theorem Dev.switchStart_kept (x0 : List Nat) (x1 : Nat) (d : Dev) : (Dev.switchStart x0 x1 d).kept = d.kept := by (unfold Dev.switchStart; dsimp only; split <;> simp [*])
@[simp] theorem Dev.poolRetune_kept (x0 : List Nat) (x1 : Nat) (d : Dev) : (Dev.poolRetune x0 x1 d).kept = d.kept := by
  unfold Dev.poolRetune; split
  · rfl
  · rw [foldl_kept]; intro n d; dsimp only
    repeat' split
    all_goals simp
@[simp] theorem Dev.followRound_kept (x0 : List Nat) (d : Dev) : (Dev.followRound x0 d).kept = d.kept := by simp [Dev.followRound]
@[simp] theorem Dev.setService_kept (x0 : Nat) (x1 : CmbSt → CmbSt) (d : Dev) : (Dev.setService x0 x1 d).kept = d.kept := by simp [Dev.setService]
@[simp] theorem Dev.setBranch_kept (x0 : Nat) (x1 : Nat) (x2 : BranchSt → BranchSt) (d : Dev) : (Dev.setBranch x0 x1 x2 d).kept = d.kept := by simp [Dev.setBranch]
@[simp] theorem Dev.branchEvent_kept (x0 : Nat) (x1 : Nat) (x2 : Nat) (x3 : Nat) (x4 : Nat) (x5 : Nat) (d : Dev) : (Dev.branchEvent x0 x1 x2 x3 x4 x5 d).kept = d.kept := by simp [Dev.branchEvent]
@[simp] theorem Dev.branchSlot_kept (x0 : Nat) (d : Dev) : ∀ e ∈ Dev.branchSlot x0 d, e.2.kept = d.kept := by (unfold Dev.branchSlot; repeat' split) <;> simp [*]
theorem Dev.branchSlot_kept' (a : Nat) (d : Dev) (n : Nat) (e : Dev) (h : Dev.branchSlot a d = some (n, e)) : e.kept = d.kept :=
  Dev.branchSlot_kept a d _ h
@[simp] theorem Dev.placeBranch_kept (a b : Nat) (d : Dev) : (Dev.placeBranch a b d).kept = d.kept := by
  unfold Dev.placeBranch
  split
  · split
    · rfl
    · split
      · rfl
      · split
        · split <;> simp
        · split
          · dsimp only; split <;> simp
          · split
            · rename_i h; simp [Dev.branchSlot_kept' _ _ _ _ h]
            · rfl
  · rfl
@[simp] theorem Dev.placeBranch0_kept (a : Nat) (d : Dev) : (Dev.placeBranch0 a d).kept = d.kept := by
  unfold Dev.placeBranch0
  split
  · rfl
  · split
    · rfl
    · dsimp only; split
      · rfl
      · split
        · rename_i h; have h := Dev.branchSlot_kept' _ _ _ _ h
          split <;> simp [h]
        · rfl
@[simp] theorem Dev.combineBranch_kept (x0 : Nat) (x1 : Nat) (x2 : Nat) (x3 : Nat) (d : Dev) : (Dev.combineBranch x0 x1 x2 x3 d).kept = d.kept := by (unfold Dev.combineBranch; dsimp only; repeat' split) <;> simp [*]
@[simp] theorem Dev.joinBranch_kept (x0 : Nat) (x1 : Nat) (x2 : Nat) (d : Dev) : (Dev.joinBranch x0 x1 x2 d).kept = d.kept := by (unfold Dev.joinBranch; split <;> simp [*])
@[simp] theorem Dev.combineOfdm_kept (x0 : Nat) (x1 : Nat) (d : Dev) : (Dev.combineOfdm x0 x1 d).kept = d.kept := by (unfold Dev.combineOfdm; repeat' split) <;> simp [*]
@[simp] theorem Dev.serviceRound_kept (x0 : Nat) (d : Dev) : (Dev.serviceRound x0 d).kept = d.kept := by (unfold Dev.serviceRound; dsimp only; split <;> simp [*])
@[simp] theorem Dev.applyCmb_kept (a : CmbAct) (d : Dev) : (Dev.applyCmb a d).kept = d.kept := by
  unfold Dev.applyCmb
  split
  · simp
  · split
    · rfl
    · dsimp only; rw [foldl_kept]
      · simp; rw [foldl_kept]; intro d x; split <;> simp
      · intro d x; split <;> simp
@[simp] theorem Dev.combinerRound_kept (d : Dev) : (Dev.combinerRound d).kept = d.kept := by simp [Dev.combinerRound]
@[simp] theorem Dev.dropHistory_kept (d : Dev) : (Dev.dropHistory d).kept = d.kept := by simp [Dev.dropHistory]
@[simp] theorem Dev.setWatch_kept (x0 : Nat) (x1 : WatchEntry → WatchEntry) (d : Dev) : (Dev.setWatch x0 x1 d).kept = d.kept := by simp [Dev.setWatch]
@[simp] theorem Dev.hopTo_kept (x0 : Nat) (x1 : Int) (d : Dev) : (Dev.hopTo x0 x1 d).kept = d.kept := by (unfold Dev.hopTo; split <;> simp [*])
@[simp] theorem Dev.advance_kept (x0 : Nat) (x1 : Int) (d : Dev) : (Dev.advance x0 x1 d).kept = d.kept := by simp [Dev.advance]
@[simp] theorem Dev.replaceList_kept (x0 : List WatchEntry) (d : Dev) : (Dev.replaceList x0 d).kept = d.kept := by simp [Dev.replaceList]
@[simp] theorem Dev.restartList_kept (x0 : List WatchEntry) (x1 : Int) (d : Dev) : (Dev.restartList x0 x1 d).kept = d.kept := by simp [Dev.restartList]
@[simp] theorem Dev.dwellOver_kept (x0 : Nat) (x1 : Nat) (x2 : Int) (d : Dev) : (Dev.dwellOver x0 x1 x2 d).kept = d.kept := by (unfold Dev.dwellOver; dsimp only; split <;> simp [*])
@[simp] theorem Dev.inDwell_kept (x0 : WatchEntry → Nat) (x1 : Nat → WatchEntry → Dev → Dev) (d : Dev) (h1 : ∀ y0 y1 d, (x1 y0 y1 d).kept = d.kept) : (Dev.inDwell x0 x1 d).kept = d.kept := by (unfold Dev.inDwell; repeat' split) <;> simp [*]
@[simp] theorem Dev.alarmChange_kept (x0 : Nat) (x1 : WatchEntry) (x2 : Bool) (x3 : Nat) (x4 : Nat) (x5 : List Nat) (d : Dev) : (Dev.alarmChange x0 x1 x2 x3 x4 x5 d).kept = d.kept := by simp [Dev.alarmChange]
@[simp] theorem Dev.beginWatch_kept (x0 : WatchOpts) (d : Dev) : (Dev.beginWatch x0 d).kept = d.kept := by simp [Dev.beginWatch]
@[simp] theorem Dev.parkAll_kept (d : Dev) : (Dev.parkAll d).kept = d.kept := by simp [Dev.parkAll]
@[simp] theorem Dev.closeAll_kept (d : Dev) : (Dev.closeAll d).kept = d.kept := by simp [Dev.closeAll]
@[simp] theorem Dev.inputsOff_kept (d : Dev) : (Dev.inputsOff d).kept = d.kept := by simp [Dev.inputsOff]
@[simp] theorem Dev.watchAmp_kept (d : Dev) : (Dev.watchAmp d).kept = d.kept := by simp [Dev.watchAmp]
@[simp] theorem Dev.slotsOff_kept (d : Dev) : (Dev.slotsOff d).kept = d.kept := by simp [Dev.slotsOff]
@[simp] theorem Dev.gateRegions_kept (d : Dev) : (Dev.gateRegions d).kept = d.kept := by simp [Dev.gateRegions]
@[simp] theorem Dev.stopSyn1Run_kept (d : Dev) : (Dev.stopSyn1Run d).kept = d.kept := by (unfold Dev.stopSyn1Run; split <;> simp [*])
@[simp] theorem Dev.enterWatch_kept (x0 : Int) (d : Dev) : (Dev.enterWatch x0 d).kept = d.kept := by simp [Dev.enterWatch]
@[simp] theorem Dev.exitWatch_kept (d : Dev) : (Dev.exitWatch d).kept = d.kept := by simp [Dev.exitWatch]
@[simp] theorem Dev.listApplied_kept (d : Dev) : (Dev.listApplied d).kept = d.kept := by simp [Dev.listApplied]
@[simp] theorem Dev.runWait_kept (x0 : Int) (x1 : WatchWait) (d : Dev) : (Dev.runWait x0 x1 d).kept = d.kept := by (unfold Dev.runWait; split <;> simp [*])
@[simp] theorem Dev.hopCalDone_kept (x0 : Bool) (x1 : Nat) (x2 : Nat) (x3 : Int) (d : Dev) : (Dev.hopCalDone x0 x1 x2 x3 d).kept = d.kept := by (unfold Dev.hopCalDone; split <;> simp [*])
@[simp] theorem Dev.syn1Done_kept (x0 : Bool) (x1 : Nat) (x2 : Nat) (x3 : Int) (d : Dev) : (Dev.syn1Done x0 x1 x2 x3 d).kept = d.kept := by (unfold Dev.syn1Done; split <;> simp [*])
@[simp] theorem Dev.discard_kept (d : Dev) : (Dev.discard d).kept = d.kept := by simp [Dev.discard]
@[simp] theorem Dev.queueFrame_kept (x0 : Nat) (x1 : Bool) (x2 : List Byte) (d : Dev) : (Dev.queueFrame x0 x1 x2 d).kept = d.kept := by simp [Dev.queueFrame]
@[simp] theorem Dev.sendTo_kept (x0 : Nat) (x1 : Nat) (x2 : Nat) (x3 : List Byte) (d : Dev) : (Dev.sendTo x0 x1 x2 x3 d).kept = d.kept := by (unfold Dev.sendTo; split <;> simp [*])
@[simp] theorem Dev.relay_kept (x0 : List Byte) (d : Dev) : (Dev.relay x0 d).kept = d.kept := by (unfold Dev.relay; split <;> simp [*])
@[simp] theorem Dev.flood_kept (x0 : Nat) (x1 : List Byte) (d : Dev) : (Dev.flood x0 x1 d).kept = d.kept := by simp [Dev.flood]
@[simp] theorem Dev.noteSeen_kept (x0 : List Byte) (x1 : Nat) (d : Dev) : (Dev.noteSeen x0 x1 d).kept = d.kept := by simp [Dev.noteSeen]
@[simp] theorem Dev.peal_kept (x0 : Nat) (x1 : Nat) (x2 : List Byte) (d : Dev) : (Dev.peal x0 x1 x2 d).kept = d.kept := by simp [Dev.peal]
@[simp] theorem Dev.answerTopology_kept (x0 : Nat) (d : Dev) : (Dev.answerTopology x0 d).kept = d.kept := by simp [Dev.answerTopology]
@[simp] theorem Dev.cutRoutes_kept (p : Nat) (d : Dev) : (Dev.cutRoutes p d).kept = d.kept := by simp [Dev.cutRoutes]
@[simp] theorem Dev.tellLinks_kept (d : Dev) : (Dev.tellLinks d).kept = d.kept := by simp [Dev.tellLinks]
@[simp] theorem Dev.holdoverEnds_kept (x0 : Nat) (x1 : Option Nat) (d : Dev) : (Dev.holdoverEnds x0 x1 d).kept = d.kept := by simp [Dev.holdoverEnds]
@[simp] theorem Dev.steerPll_kept (d : Dev) : (Dev.steerPll d).kept = d.kept := by simp [Dev.steerPll]
@[simp] theorem Dev.acquire_kept (x0 : Nat) (d : Dev) : (Dev.acquire x0 d).kept = d.kept := by simp [Dev.acquire]
@[simp] theorem Dev.holdBest_kept (x0 : Nat × List Byte) (d : Dev) : (Dev.holdBest x0 d).kept = d.kept := by simp [Dev.holdBest]
@[simp] theorem Dev.electWithout_kept (x0 : List Byte) (d : Dev) : (Dev.electWithout x0 d).kept = d.kept := by simp [Dev.electWithout]
@[simp] theorem Dev.departed_kept (x0 : List Byte) (d : Dev) : (Dev.departed x0 d).kept = d.kept := by simp [Dev.departed]
@[simp] theorem Dev.discovered_kept (d : Dev) : (Dev.discovered d).kept = d.kept := by simp [Dev.discovered]
@[simp] theorem Dev.grantAddresses_kept (x0 : Bool) (d : Dev) : (Dev.grantAddresses x0 d).kept = d.kept := by simp [Dev.grantAddresses]
@[simp] theorem Dev.becomeBench_kept (d : Dev) : (Dev.becomeBench d).kept = d.kept := by simp [Dev.becomeBench]
@[simp] theorem Dev.dropAddrs_kept (x0 : List Nat) (d : Dev) : (Dev.dropAddrs x0 d).kept = d.kept := by simp [Dev.dropAddrs]
@[simp] theorem Dev.linkPort_kept (x0 : Nat) (d : Dev) : (Dev.linkPort x0 d).kept = d.kept := by simp [Dev.linkPort]
@[simp] theorem Dev.leaveUp_kept (x0 : Nat) (x1 : Nat) (x2 : Dev → Dev) (d : Dev) (h2 : ∀  d, (x2  d).kept = d.kept) : (Dev.leaveUp x0 x1 x2 d).kept = d.kept := by simp [Dev.leaveUp, h2]
@[simp] theorem Dev.retrain_kept (x0 : Nat) (x1 : Nat) (d : Dev) : (Dev.retrain x0 x1 d).kept = d.kept := by (unfold Dev.retrain; split <;> simp [*])
@[simp] theorem Dev.sendHello_kept (x0 : Nat) (d : Dev) : (Dev.sendHello x0 d).kept = d.kept := by simp [Dev.sendHello]
@[simp] theorem Dev.portUp_kept (x0 : Nat) (d : Dev) : (Dev.portUp x0 d).kept = d.kept := by simp [Dev.portUp]
@[simp] theorem Dev.hello_kept (x0 : Nat) (x1 : List Byte) (d : Dev) : (Dev.hello x0 x1 d).kept = d.kept := by simp [Dev.hello]
@[simp] theorem Dev.accepted_kept (x0 : Nat) (x1 : Int) (d : Dev) : (Dev.accepted x0 x1 d).kept = d.kept := by simp [Dev.accepted]
@[simp] theorem Dev.receive_kept (x0 : Nat) (x1 : Int) (x2 : List Byte) (x3 : Nat → Bool) (x4 : Dev → Dev) (d : Dev) (h4 : ∀  d, (x4  d).kept = d.kept) : (Dev.receive x0 x1 x2 x3 x4 d).kept = d.kept := by simp [Dev.receive, h4]
@[simp] theorem Dev.storeForward_kept (x0 : List Byte) (x1 : Dev → Dev) (d : Dev) (h1 : ∀  d, (x1  d).kept = d.kept) : (Dev.storeForward x0 x1 d).kept = d.kept := by simp [Dev.storeForward, h1]
@[simp] theorem Dev.noteLeft_kept (x0 : List Byte) (d : Dev) : (Dev.noteLeft x0 d).kept = d.kept := by simp [Dev.noteLeft]
@[simp] theorem Dev.leaveArrives_kept (x0 : Nat) (x1 : List Byte) (d : Dev) : (Dev.leaveArrives x0 x1 d).kept = d.kept := by simp [Dev.leaveArrives]
@[simp] theorem Dev.join_kept (d : Dev) : (Dev.join d).kept = d.kept := by simp [Dev.join]
@[simp] theorem Dev.leaveNow_kept (d : Dev) : (Dev.leaveNow d).kept = d.kept := by simp [Dev.leaveNow]
@[simp] theorem Dev.applyPort_kept (x0 : Nat) (d : Dev) : (Dev.applyPort x0 d).kept = d.kept := by (unfold Dev.applyPort; split <;> simp [*])
@[simp] theorem Dev.releasePeal_kept (x0 : Nat) (d : Dev) : (Dev.releasePeal x0 d).kept = d.kept := by simp [Dev.releasePeal]
@[simp] theorem Dev.release_kept (x0 : Nat) (d : Dev) : (Dev.release x0 d).kept = d.kept := by simp [Dev.release]
@[simp] theorem Dev.noteGrant_kept (x0 : Nat) (x1 : Nat) (x2 : Nat) (x3 : Nat) (x4 : Nat) (x5 : Nat) (x6 : Nat) (d : Dev) : (Dev.noteGrant x0 x1 x2 x3 x4 x5 x6 d).kept = d.kept := by simp [Dev.noteGrant]
@[simp] theorem Dev.streamGranted_kept (x0 : Nat) (x1 : Nat) (x2 : Nat) (x3 : Nat) (d : Dev) : (Dev.streamGranted x0 x1 x2 x3 d).kept = d.kept := by (unfold Dev.streamGranted; split <;> simp [*])
@[simp] theorem Dev.streamRefused_kept (x0 : Nat) (d : Dev) : (Dev.streamRefused x0 d).kept = d.kept := by (unfold Dev.streamRefused; split <;> simp [*])
@[simp] theorem Dev.acceptGrant_kept (x0 : List Byte) (d : Dev) : (Dev.acceptGrant x0 d).kept = d.kept := by (unfold Dev.acceptGrant; repeat' split) <;> simp [*]
@[simp] theorem Dev.sendGrant_kept (x0 : Nat) (x1 : Nat) (x2 : Nat) (x3 : Nat) (x4 : Nat) (x5 : Nat) (x6 : Nat) (d : Dev) : (Dev.sendGrant x0 x1 x2 x3 x4 x5 x6 d).kept = d.kept := by simp [Dev.sendGrant]
@[simp] theorem Dev.answerRequest_kept (x0 : SlotReq) (d : Dev) : (Dev.answerRequest x0 d).kept = d.kept := by (unfold Dev.answerRequest; dsimp only; repeat' split) <;> simp [*]
@[simp] theorem Dev.answerRequests_kept (d : Dev) : (Dev.answerRequests d).kept = d.kept := by simp [Dev.answerRequests]
@[simp] theorem Dev.answerRelease_kept (x0 : List Byte) (x1 : Nat) (d : Dev) : (Dev.answerRelease x0 x1 d).kept = d.kept := by (unfold Dev.answerRelease; dsimp only; split <;> simp [*])
@[simp] theorem Dev.askSlots_kept (x0 : StreamSt) (d : Dev) : (Dev.askSlots x0 d).kept = d.kept := by simp [Dev.askSlots]
@[simp] theorem Dev.releaseOwn_kept (x0 : Nat) (d : Dev) : (Dev.releaseOwn x0 d).kept = d.kept := by simp [Dev.releaseOwn]
@[simp] theorem Dev.chooseToll_kept (d : Dev) : (Dev.chooseToll d).kept = d.kept := by (unfold Dev.chooseToll; split <;> simp [*])
@[simp] theorem Dev.refreshBegins_kept (x0 : Nat) (d : Dev) : (Dev.refreshBegins x0 d).kept = d.kept := by simp [Dev.refreshBegins]
@[simp] theorem Dev.recheck_kept (x0 : List GrantSt) (x1 : GrantSt) (d : Dev) : (Dev.recheck x0 x1 d).kept = d.kept := by (unfold Dev.recheck; dsimp only; repeat' split) <;> simp [*]
@[simp] theorem Dev.recheckAll_kept (d : Dev) : (Dev.recheckAll d).kept = d.kept := by simp [Dev.recheckAll]
@[simp] theorem Dev.countAbsent_kept (x0 : List TopoAns) (d : Dev) : (Dev.countAbsent x0 d).kept = d.kept := by simp [Dev.countAbsent]
@[simp] theorem Dev.streamsByTable_kept (d : Dev) : (Dev.streamsByTable d).kept = d.kept := by simp [Dev.streamsByTable]
@[simp] theorem Dev.applyTable_kept (x0 : Nat) (x1 : List TopoAns) (d : Dev) : (Dev.applyTable x0 x1 d).kept = d.kept := by simp [Dev.applyTable]
@[simp] theorem Dev.candidate_kept (x0 : List Byte) (x1 : Nat) (x2 : Nat × List Byte) (d : Dev) : (Dev.candidate x0 x1 x2 d).kept = d.kept := by simp [Dev.candidate]
@[simp] theorem Dev.announced_kept (x0 : List Byte) (d : Dev) : (Dev.announced x0 d).kept = d.kept := by simp [Dev.announced]
@[simp] theorem Dev.pealDelivered_kept (u y : List Byte) (d : Dev) : (Dev.pealDelivered u y d).kept = d.kept := by
  unfold Dev.pealDelivered; dsimp only; split
  · simp
  · simp
  · split <;> simp
  · simp
  · unfold Dev.onlyIf; split <;> simp
  · simp
  · simp
  · simp
@[simp] theorem Dev.pealArrives_kept (x0 : Nat) (x1 : List Byte) (d : Dev) : (Dev.pealArrives x0 x1 d).kept = d.kept := by simp [Dev.pealArrives]
@[simp] theorem Dev.closeStreams_kept (d : Dev) : (Dev.closeStreams d).kept = d.kept := by simp [Dev.closeStreams]
@[simp] theorem Dev.sends_kept (x0 : Nat) (x1 : Nat) (x2 : List Byte) (d : Dev) : (Dev.sends x0 x1 x2 d).kept = d.kept := by simp [Dev.sends]
@[simp] theorem Dev.cutThrough_kept (x0 : Int) (x1 : List Byte) (d : Dev) : (Dev.cutThrough x0 x1 d).kept = d.kept := by (unfold Dev.cutThrough; split <;> simp [*])
@[simp] theorem Dev.memberArrives_kept (x0 : Nat) (x1 : Nat) (x2 : Nat) (x3 : Nat) (x4 : Nat) (x5 : List Byte) (x6 : Bool) (x7 : Bool) (d : Dev) : (Dev.memberArrives x0 x1 x2 x3 x4 x5 x6 x7 d).kept = d.kept := by simp [Dev.memberArrives]
@[simp] theorem Dev.streamArrives_kept (x0 : List Byte) (d : Dev) : (Dev.streamArrives x0 d).kept = d.kept := by simp [Dev.streamArrives]
@[simp] theorem Dev.streamFrame_kept (x0 : Int) (x1 : List Byte) (d : Dev) : (Dev.streamFrame x0 x1 d).kept = d.kept := by simp [Dev.streamFrame]
@[simp] theorem Dev.sendCmd_kept (x0 : RemoteCmd) (d : Dev) : (Dev.sendCmd x0 d).kept = d.kept := by simp [Dev.sendCmd]
@[simp] theorem Dev.sendRemoteReply_kept (x0 : RemoteReply) (d : Dev) : (Dev.sendRemoteReply x0 d).kept = d.kept := by simp [Dev.sendRemoteReply]
@[simp] theorem Dev.remoteEvent_kept (x0 : Nat) (x1 : Nat) (x2 : Nat) (x3 : List Byte) (x4 : Nat) (d : Dev) : (Dev.remoteEvent x0 x1 x2 x3 x4 d).kept = d.kept := by simp [Dev.remoteEvent]
@[simp] theorem Dev.duplicate_kept (x0 : Nat) (x1 : Nat) (x2 : Nat) (d : Dev) : (Dev.duplicate x0 x1 x2 d).kept = d.kept := by simp [Dev.duplicate]
@[simp] theorem Dev.ackCmd_kept (x0 : Nat) (x1 : Nat) (x2 : Nat) (d : Dev) : (Dev.ackCmd x0 x1 x2 d).kept = d.kept := by simp [Dev.ackCmd]
@[simp] theorem Dev.cmdArrives_kept (x0 : List Byte) (d : Dev) : (Dev.cmdArrives x0 d).kept = d.kept := by (unfold Dev.cmdArrives; dsimp only; split <;> simp [*])
@[simp] theorem Dev.ackArrives_kept (x0 : List Byte) (d : Dev) : (Dev.ackArrives x0 d).kept = d.kept := by (unfold Dev.ackArrives; dsimp only; split <;> simp [*])
@[simp] theorem Dev.replyArrives_kept (x0 : List Byte) (d : Dev) : (Dev.replyArrives x0 d).kept = d.kept := by (unfold Dev.replyArrives; repeat' split) <;> simp [*]
@[simp] theorem Dev.replyAckArrives_kept (x0 : List Byte) (d : Dev) : (Dev.replyAckArrives x0 d).kept = d.kept := by simp [Dev.replyAckArrives]
@[simp] theorem Dev.pumpReplies_kept (d : Dev) : (Dev.pumpReplies d).kept = d.kept := by simp [Dev.pumpReplies]
@[simp] theorem Dev.noteSent_kept (x0 : List Byte) (d : Dev) : (Dev.noteSent x0 d).kept = d.kept := by (unfold Dev.noteSent; split <;> simp [*])
@[simp] theorem Dev.sendBest_kept (x0 : Nat) (x1 : Nat) (d : Dev) : (Dev.sendBest x0 x1 d).kept = d.kept := by (unfold Dev.sendBest; dsimp only; repeat' split) <;> simp [*]
@[simp] theorem Dev.sendStreams_kept (x0 : Nat) (x1 : List StreamSt) (d : Dev) : (Dev.sendStreams x0 x1 d).kept = d.kept := by (unfold Dev.sendStreams; repeat' split) <;> simp [*]
@[simp] theorem Dev.slotStarts_kept (d : Dev) : (Dev.slotStarts d).kept = d.kept := by simp [Dev.slotStarts]
@[simp] theorem Dev.originateTolls_kept (d : Dev) : (Dev.originateTolls d).kept = d.kept := by simp [Dev.originateTolls]
@[simp] theorem Dev.passToll_kept (x0 : Nat) (x1 : List Byte) (d : Dev) : (Dev.passToll x0 x1 d).kept = d.kept := by simp [Dev.passToll]
@[simp] theorem Dev.forwardToll_kept (x0 : Nat) (x1 : Int) (x2 : List Byte) (d : Dev) : (Dev.forwardToll x0 x1 x2 d).kept = d.kept := by (unfold Dev.forwardToll; split <;> simp [*])
@[simp] theorem Dev.tollAccepted_kept (x0 : Nat) (x1 : Int) (x2 : List Byte) (d : Dev) : (Dev.tollAccepted x0 x1 x2 d).kept = d.kept := by simp [Dev.tollAccepted]
@[simp] theorem Dev.tollArrives_kept (x0 : Nat) (x1 : Int) (x2 : List Byte) (d : Dev) : (Dev.tollArrives x0 x1 x2 d).kept = d.kept := by simp [Dev.tollArrives]
@[simp] theorem Dev.moveTraverse_kept (x0 : Nat → Nat) (d : Dev) : (Dev.moveTraverse x0 d).kept = d.kept := by simp [Dev.moveTraverse]
@[simp] theorem Dev.moveCal_kept (x0 : Nat → Nat) (d : Dev) : (Dev.moveCal x0 d).kept = d.kept := by simp [Dev.moveCal]
@[simp] theorem Dev.moveWaits_kept (x0 : Nat → Nat) (d : Dev) : (Dev.moveWaits x0 d).kept = d.kept := by simp [Dev.moveWaits]
@[simp] theorem Dev.moveFabric_kept (x0 : Nat → Nat) (d : Dev) : (Dev.moveFabric x0 d).kept = d.kept := by simp [Dev.moveFabric]
@[simp] theorem Dev.restartSlots_kept (d : Dev) : (Dev.restartSlots d).kept = d.kept := by simp [Dev.restartSlots]
@[simp] theorem Dev.phaseStep_kept (a : Int) (b c : Nat) (d : Dev) : (Dev.phaseStep a b c d).kept = d.kept := by
  simp [Dev.phaseStep]
@[simp] theorem Dev.disciplined_kept (d : Dev) : (Dev.disciplined d).kept = d.kept := by (unfold Dev.disciplined; repeat' split) <;> simp [*]
@[simp] theorem Dev.enterHoldover_kept (x0 : Nat) (d : Dev) : (Dev.enterHoldover x0 d).kept = d.kept := by simp [Dev.enterHoldover]
@[simp] theorem Dev.removeLeft_kept (d : Dev) : (Dev.removeLeft d).kept = d.kept := by simp [Dev.removeLeft]
@[simp] theorem Dev.normalPorts_kept (d : Dev) : (Dev.normalPorts d).kept = d.kept := by simp [Dev.normalPorts]
@[simp] theorem Dev.applyLinks_kept (d : Dev) : (Dev.applyLinks d).kept = d.kept := by simp [Dev.applyLinks]
@[simp] theorem Dev.tollPortRound_kept (d : Dev) : (Dev.tollPortRound d).kept = d.kept := by (unfold Dev.tollPortRound; repeat' split) <;> simp [*]
@[simp] theorem Dev.ownTolls_kept (d : Dev) : (Dev.ownTolls d).kept = d.kept := by (unfold Dev.ownTolls; split <;> simp [*])
@[simp] theorem Dev.fabricRound_kept (d : Dev) : (Dev.fabricRound d).kept = d.kept := by (unfold Dev.fabricRound; dsimp only; repeat' split) <;> simp [*]
@[simp] theorem Dev.patchTakeover_kept (d : Dev) : (Dev.patchTakeover d).kept = d.kept := by (unfold Dev.patchTakeover; split <;> simp [*])
@[simp] theorem Dev.injectDone_kept (x0 : Injection) (x1 : Nat) (d : Dev) : (Dev.injectDone x0 x1 d).kept = d.kept := by simp [Dev.injectDone]
@[simp] theorem Dev.tocsinRound_kept (d : Dev) : (Dev.tocsinRound d).kept = d.kept := by
  unfold Dev.tocsinRound; dsimp only
  refine Eq.trans (b := (Dev.onlyIf _ _ _).kept) rfl ?_
  refine (Dev.onlyIf_kept _ _ ?_ _).trans (Dev.onlyIf_kept _ _ ?_ _) <;> intro d <;> rfl
@[simp] theorem Dev.branchFeed_kept (x0 : Nat) (x1 : Nat) (x2 : List SlotSample) (d : Dev) : (Dev.branchFeed x0 x1 x2 d).kept = d.kept := by simp [Dev.branchFeed]
@[simp] theorem Dev.ctxFeed_kept (x0 : Nat) (x1 : Nat) (x2 : List SlotSample) (d : Dev) : (Dev.ctxFeed x0 x1 x2 d).kept = d.kept := by (unfold Dev.ctxFeed; dsimp only; repeat' split) <;> simp [*]
@[simp] theorem Dev.instFeed_kept (x0 : Nat) (x1 : List SlotSample) (d : Dev) : (Dev.instFeed x0 x1 d).kept = d.kept := by (unfold Dev.instFeed; split <;> simp [*])
@[simp] theorem Dev.slotGives_kept (x0 : Nat) (x1 : List SlotSample) (d : Dev) : (Dev.slotGives x0 x1 d).kept = d.kept := by (unfold Dev.slotGives; repeat' split) <;> simp [*]
@[simp] theorem Dev.slotTakes_kept (x0 : Nat) (x1 : Nat) (x2 : List SegSample) (d : Dev) : (Dev.slotTakes x0 x1 x2 d).kept = d.kept := by simp [Dev.slotTakes]
@[simp] theorem Dev.slotsCatchUp_kept (d : Dev) : (Dev.slotsCatchUp d).kept = d.kept := by simp [Dev.slotsCatchUp]
@[simp] theorem Dev.segGives_kept (x0 : Bool) (x1 : Nat) (x2 : List SegSample) (d : Dev) : (Dev.segGives x0 x1 x2 d).kept = d.kept := by simp [Dev.segGives]
@[simp] theorem Dev.windowCodes_kept (x0 : Nat) (x1 : List Int) (x2 : Int) (x3 : Int) (d : Dev) : (Dev.windowCodes x0 x1 x2 x3 d).kept = d.kept := by simp [Dev.windowCodes]
@[simp] theorem Dev.feedsTake_kept (d : Dev) : (Dev.feedsTake d).kept = d.kept := by
  unfold Dev.feedsTake; dsimp only; rw [foldl_kept]
  · simp
  · intro e c; apply Dev.onlyIf_kept; intro e; rw [foldl_kept]; simp
@[simp] theorem Dev.outTakes_kept (x0 : Nat) (x1 : Nat) (x2 : Bool) (x3 : List (Int × Int)) (x4 : Nat) (d : Dev) : (Dev.outTakes x0 x1 x2 x3 x4 d).kept = d.kept := by simp [Dev.outTakes]
@[simp] theorem Dev.progTakes_kept (x0 : Nat) (x1 : Nat) (x2 : Int × Int) (d : Dev) : (Dev.progTakes x0 x1 x2 d).kept = d.kept := by (unfold Dev.progTakes; dsimp only; split <;> simp [*])
@[simp] theorem Dev.progRuns_kept (x0 : Nat) (d : Dev) : (Dev.progRuns x0 d).kept = d.kept := by simp [Dev.progRuns]
@[simp] theorem Dev.audioRuns_kept (d : Dev) : (Dev.audioRuns d).kept = d.kept := by simp [Dev.audioRuns]
@[simp] theorem Dev.groupRound_kept (x0 : Nat) (x1 : Nat) (d : Dev) : (Dev.groupRound x0 x1 d).kept = d.kept := by simp [Dev.groupRound]
@[simp] theorem Dev.spdoRound_kept (x0 : Nat) (x1 : Nat) (d : Dev) : (Dev.spdoRound x0 x1 d).kept = d.kept := by simp [Dev.spdoRound]
@[simp] theorem Dev.rampsOver_kept (d : Dev) : (Dev.rampsOver d).kept = d.kept := by simp [Dev.rampsOver]
@[simp] theorem Dev.audioPath_kept (x0 : List Nat) (x1 : List Int) (d : Dev) : (Dev.audioPath x0 x1 d).kept = d.kept := by simp [Dev.audioPath]
@[simp] theorem Dev.inputGoesLive_kept (x0 : Nat) (d : Dev) : (Dev.inputGoesLive x0 d).kept = d.kept := by simp [Dev.inputGoesLive]
@[simp] theorem Dev.converterOff_kept (x0 : Nat) (d : Dev) : (Dev.converterOff x0 d).kept = d.kept := by simp [Dev.converterOff]
@[simp] theorem Dev.leavesLive_kept (x0 : Nat) (d : Dev) : (Dev.leavesLive x0 d).kept = d.kept := by simp [Dev.leavesLive]
@[simp] theorem Dev.inputGoesOff_kept (x0 : Nat) (d : Dev) : (Dev.inputGoesOff x0 d).kept = d.kept := by simp [Dev.inputGoesOff]
@[simp] theorem Dev.inputRound_kept (x0 : Nat) (d : Dev) : (Dev.inputRound x0 d).kept = d.kept := by (unfold Dev.inputRound; dsimp only; repeat' split) <;> simp [*]
@[simp] theorem Dev.loRound_kept (d : Dev) : (Dev.loRound d).kept = d.kept := by simp [Dev.loRound]
@[simp] theorem Dev.calBegins_kept (x0 : CalRun) (d : Dev) : (Dev.calBegins x0 d).kept = d.kept := by simp [Dev.calBegins]
@[simp] theorem Dev.calEnds_kept (x0 : CalRun) (x1 : CalOutcome) (d : Dev) : (Dev.calEnds x0 x1 d).kept = d.kept := by (unfold Dev.calEnds; split <;> simp [*])
@[simp] theorem Dev.calRound_kept (d : Dev) : (Dev.calRound d).kept = d.kept := by
  unfold Dev.calRound
  have h : ∀ (l : List CalRun) (d : Dev), (l.foldl (fun e r =>
    if !r.began then e.onlyIf (r.start ≤ d.now) (Dev.calBegins r)
    else match r.outcome with
      | some (o, t) => e.onlyIf (t ≤ d.now) (Dev.calEnds r o)
      | none => e) d).kept = d.kept := by
    intro l d; rw [foldl_kept]; intro d x; split
    · simp
    · split <;> simp
  have hd := h d.cal.runs d
  revert hd
  generalize List.foldl _ d d.cal.runs = e
  intro hd; dsimp only
  split
  · split
    · rw [Dev.syn0Start_kept]; exact hd
    · exact hd
  · exact hd
@[simp] theorem Dev.ownersPass_kept (d : Dev) : (Dev.ownersPass d).kept = d.kept := by
  unfold Dev.ownersPass; dsimp only; rw [foldl_kept]
  · simp
  · intro d x; split <;> simp
@[simp] theorem Dev.watchListRound_kept (d : Dev) : (Dev.watchListRound d).kept = d.kept := by (unfold Dev.watchListRound; repeat' split) <;> simp [*]
@[simp] theorem Dev.receiverRound_kept (x0 : RoundIn) (d : Dev) : (Dev.receiverRound x0 d).kept = d.kept := by simp [Dev.receiverRound]
@[simp] theorem Dev.boundary_kept (x0 : RoundIn) (d : Dev) : (Dev.boundary x0 d).kept = d.kept := by simp [Dev.boundary]
@[simp] theorem Dev.watchBoundary_kept (d : Dev) : (Dev.watchBoundary d).kept = d.kept := by simp [Dev.watchBoundary]

@[simp] theorem sysInfoBody_kept (x0 : Req) (d : Dev) : (sysInfoBody x0 d).dev.kept = d.kept := by simp [sysInfoBody]
@[simp] theorem sysTempBody_kept (x0 : Int) (x1 : Int) (x2 : Req) (d : Dev) : (sysTempBody x0 x1 x2 d).dev.kept = d.kept := by simp [sysTempBody]
@[simp] theorem sysPowerBody_kept (x0 : Req) (d : Dev) : (sysPowerBody x0 d).dev.kept = d.kept := by (unfold sysPowerBody; dsimp only; repeat' split) <;> simp [*]
@[simp] theorem sysResetBody_kept (x0 : Req) (d : Dev) : (sysResetBody x0 d).dev.kept = d.kept := by simp [sysResetBody]
@[simp] theorem twcXferBody_kept (x0 : Req) (d : Dev) : (twcXferBody x0 d).dev.kept = d.kept := by (unfold twcXferBody; dsimp only; apply checked_kept; simp)
@[simp] theorem twcRecoverBody_kept (x0 : Req) (d : Dev) : (twcRecoverBody x0 d).dev.kept = d.kept := by simp [twcRecoverBody]
@[simp] theorem twcStatusBody_kept (x0 : Req) (d : Dev) : (twcStatusBody x0 d).dev.kept = d.kept := by simp [twcStatusBody]
@[simp] theorem queueCfgBody_kept (x0 : Req) (d : Dev) : (queueCfgBody x0 d).dev.kept = d.kept := by simp [queueCfgBody]
@[simp] theorem queueBindBody_kept (x0 : Req) (d : Dev) : (queueBindBody x0 d).dev.kept = d.kept := by simp [queueBindBody]
@[simp] theorem queueFlushBody_kept (x0 : Req) (d : Dev) : (queueFlushBody x0 d).dev.kept = d.kept := by (unfold queueFlushBody; dsimp only; repeat' split) <;> simp [*]
@[simp] theorem queueStatusBody_kept (x0 : Req) (d : Dev) : (queueStatusBody x0 d).dev.kept = d.kept := by simp [queueStatusBody]
@[simp] theorem fbQueryBody_kept (x0 : Req) (d : Dev) : (fbQueryBody x0 d).dev.kept = d.kept := by simp [fbQueryBody]
@[simp] theorem fbPutBody_kept (x0 : Req) (d : Dev) : (fbPutBody x0 d).dev.kept = d.kept := by simp [fbPutBody]
@[simp] theorem fbDropBody_kept (x0 : Req) (d : Dev) : (fbDropBody x0 d).dev.kept = d.kept := by simp [fbDropBody]
@[simp] theorem fbExportBody_kept (x0 : Req) (d : Dev) : (fbExportBody x0 d).dev.kept = d.kept := by simp [fbExportBody]
@[simp] theorem fbImportBody_kept (x0 : Req) (d : Dev) : (fbImportBody x0 d).dev.kept = d.kept := by simp [fbImportBody]
@[simp] theorem coefLoadBody_kept (x0 : Req) (d : Dev) : (coefLoadBody x0 d).dev.kept = d.kept := by simp [coefLoadBody]
@[simp] theorem slotStatusBody_kept (x0 : Req) (d : Dev) : (slotStatusBody x0 d).dev.kept = d.kept := by simp [slotStatusBody]
@[simp] theorem propSetBody_kept (x0 : Req) (d : Dev) : (propSetBody x0 d).dev.kept = d.kept := by (unfold propSetBody; dsimp only; repeat' split) <;> simp [*]
@[simp] theorem propGetBody_kept (x0 : Req) (d : Dev) : (propGetBody x0 d).dev.kept = d.kept := by (unfold propGetBody; dsimp only; repeat' split) <;> simp [*]
@[simp] theorem evtRouteBody_kept (x0 : Req) (d : Dev) : (evtRouteBody x0 d).dev.kept = d.kept := by simp [evtRouteBody]
@[simp] theorem sysOwnerBody_kept (x0 : Req) (d : Dev) : (sysOwnerBody x0 d).dev.kept = d.kept := by simp [sysOwnerBody]
@[simp] theorem ctxOpenBody_kept (x0 : Req) (d : Dev) : (ctxOpenBody x0 d).dev.kept = d.kept := by simp [ctxOpenBody]
@[simp] theorem ctxCloseBody_kept (x0 : Req) (d : Dev) : (ctxCloseBody x0 d).dev.kept = d.kept := by simp [ctxCloseBody]
@[simp] theorem ctxConfigBody_kept (x0 : Req) (d : Dev) : (ctxConfigBody x0 d).dev.kept = d.kept := by (unfold ctxConfigBody; dsimp only; split <;> simp [*])
@[simp] theorem ctxTuneBody_kept (x0 : Req) (d : Dev) : (ctxTuneBody x0 d).dev.kept = d.kept := by (unfold ctxTuneBody; split <;> simp [*])
@[simp] theorem ctxStatusBody_kept (x0 : Req) (d : Dev) : (ctxStatusBody x0 d).dev.kept = d.kept := by (unfold ctxStatusBody; split <;> simp [*])
@[simp] theorem ctxSuspendBody_kept (x0 : Req) (d : Dev) : (ctxSuspendBody x0 d).dev.kept = d.kept := by simp [ctxSuspendBody]
@[simp] theorem ctxResumeBody_kept (x0 : Req) (d : Dev) : (ctxResumeBody x0 d).dev.kept = d.kept := by (unfold ctxResumeBody; split <;> simp [*])
@[simp] theorem ctxHandoverBody_kept (x0 : Req) (d : Dev) : (ctxHandoverBody x0 d).dev.kept = d.kept := by simp [ctxHandoverBody]
@[simp] theorem resStatusBody_kept (x0 : Req) (d : Dev) : (resStatusBody x0 d).dev.kept = d.kept := by simp [resStatusBody]
@[simp] theorem slotPinBody_kept (x0 : Req) (d : Dev) : (slotPinBody x0 d).dev.kept = d.kept := by simp [slotPinBody]
@[simp] theorem clkAudioBody_kept (x0 : Req) (d : Dev) : (clkAudioBody x0 d).dev.kept = d.kept := by (unfold clkAudioBody; dsimp only; split <;> simp [*])
@[simp] theorem clkSpurPlanBody_kept (x0 : Req) (d : Dev) : (clkSpurPlanBody x0 d).dev.kept = d.kept := by (unfold clkSpurPlanBody; dsimp only; split <;> simp [*])
@[simp] theorem clkStatusBody_kept (x0 : Req) (d : Dev) : (clkStatusBody x0 d).dev.kept = d.kept := by simp [clkStatusBody]
@[simp] theorem nbCfgBody_kept (x0 : Req) (d : Dev) : (nbCfgBody x0 d).dev.kept = d.kept := by simp [nbCfgBody]
@[simp] theorem nbMetricsBody_kept (x0 : Req) (d : Dev) : (nbMetricsBody x0 d).dev.kept = d.kept := by simp [nbMetricsBody]
@[simp] theorem rdsCfgBody_kept (x0 : Req) (d : Dev) : (rdsCfgBody x0 d).dev.kept = d.kept := by simp [rdsCfgBody]
@[simp] theorem rdsStatusBody_kept (x0 : Req) (d : Dev) : (rdsStatusBody x0 d).dev.kept = d.kept := by simp [rdsStatusBody]
@[simp] theorem dabEnsembleBody_kept (x0 : Req) (d : Dev) : (dabEnsembleBody x0 d).dev.kept = d.kept := by simp [dabEnsembleBody]
@[simp] theorem dabServiceSelectBody_kept (x0 : Req) (d : Dev) : (dabServiceSelectBody x0 d).dev.kept = d.kept := by (unfold dabServiceSelectBody; dsimp only; repeat' split) <;> simp [*]
@[simp] theorem dabFicDumpBody_kept (x0 : Req) (d : Dev) : (dabFicDumpBody x0 d).dev.kept = d.kept := by simp [dabFicDumpBody]
@[simp] theorem dabMetricsBody_kept (x0 : Req) (d : Dev) : (dabMetricsBody x0 d).dev.kept = d.kept := by simp [dabMetricsBody]
@[simp] theorem drmCfgBody_kept (x0 : Req) (d : Dev) : (drmCfgBody x0 d).dev.kept = d.kept := by simp [drmCfgBody]
@[simp] theorem drmServiceSelectBody_kept (x0 : Req) (d : Dev) : (drmServiceSelectBody x0 d).dev.kept = d.kept := by (unfold drmServiceSelectBody; dsimp only; repeat' split) <;> simp [*]
@[simp] theorem drmMetricsBody_kept (x0 : Req) (d : Dev) : (drmMetricsBody x0 d).dev.kept = d.kept := by simp [drmMetricsBody]
@[simp] theorem surveyCfgBody_kept (x0 : Req) (d : Dev) : (surveyCfgBody x0 d).dev.kept = d.kept := by simp [surveyCfgBody]
@[simp] theorem surveyReadBody_kept (x0 : Req) (d : Dev) : (surveyReadBody x0 d).dev.kept = d.kept := by (unfold surveyReadBody; dsimp only; repeat' split) <;> simp [*]
@[simp] theorem progRouteBody_kept (x0 : Req) (d : Dev) : (progRouteBody x0 d).dev.kept = d.kept := by simp [progRouteBody]
@[simp] theorem portCfgBody_kept (x0 : Req) (d : Dev) : (portCfgBody x0 d).dev.kept = d.kept := by simp [portCfgBody]
@[simp] theorem portRunBody_kept (x0 : Req) (d : Dev) : (portRunBody x0 d).dev.kept = d.kept := by simp [portRunBody]
@[simp] theorem spdifCfgBody_kept (x0 : Req) (d : Dev) : (spdifCfgBody x0 d).dev.kept = d.kept := by simp [spdifCfgBody]
@[simp] theorem progLevelBody_kept (x0 : Req) (d : Dev) : (progLevelBody x0 d).dev.kept = d.kept := by simp [progLevelBody]
@[simp] theorem blendCfgBody_kept (x0 : Req) (d : Dev) : (blendCfgBody x0 d).dev.kept = d.kept := by (unfold blendCfgBody; repeat' split) <;> simp [*]
@[simp] theorem audioStatusBody_kept (x0 : Req) (d : Dev) : (audioStatusBody x0 d).dev.kept = d.kept := by simp [audioStatusBody]
@[simp] theorem feInputBody_kept (x0 : Int) (x1 : Req) (d : Dev) : (feInputBody x0 x1 d).dev.kept = d.kept := by (unfold feInputBody; dsimp only; repeat' split) <;> simp [*]
@[simp] theorem feAgcBody_kept (x0 : Req) (d : Dev) : (feAgcBody x0 d).dev.kept = d.kept := by simp [feAgcBody]
@[simp] theorem feXampBody_kept (x0 : Req) (d : Dev) : (feXampBody x0 d).dev.kept = d.kept := by (unfold feXampBody; dsimp only; repeat' split) <;> simp [*]
@[simp] theorem feDiagBody_kept (x0 : Req) (d : Dev) : (feDiagBody x0 d).dev.kept = d.kept := by simp [feDiagBody]
@[simp] theorem feLbandBody_kept (x0 : Req) (d : Dev) : (feLbandBody x0 d).dev.kept = d.kept := by (unfold feLbandBody; dsimp only; repeat' split) <;> simp [*]
@[simp] theorem calRunBody_kept (x0 : Req) (d : Dev) : (calRunBody x0 d).dev.kept = d.kept := by (unfold calRunBody; dsimp only; apply checked_kept; simp)
@[simp] theorem calReadBody_kept (x0 : Req) (d : Dev) : (calReadBody x0 d).dev.kept = d.kept := by (unfold calReadBody; dsimp only; split <;> simp [*])
@[simp] theorem calWriteBody_kept (x0 : Int) (x1 : Req) (d : Dev) : (calWriteBody x0 x1 d).dev.kept = d.kept := by simp [calWriteBody]
@[simp] theorem synTableReadBody_kept (x0 : Req) (d : Dev) : (synTableReadBody x0 d).dev.kept = d.kept := by simp [synTableReadBody]
@[simp] theorem synTableWriteBody_kept (x0 : Int) (x1 : Req) (d : Dev) : (synTableWriteBody x0 x1 d).dev.kept = d.kept := by simp [synTableWriteBody]
@[simp] theorem followCfgBody_kept (x0 : Req) (d : Dev) : (followCfgBody x0 d).dev.kept = d.kept := by simp [followCfgBody]
@[simp] theorem followStatusBody_kept (x0 : Req) (d : Dev) : (followStatusBody x0 d).dev.kept = d.kept := by (unfold followStatusBody; dsimp only; split <;> simp [*])
@[simp] theorem cmbCfgBody_kept (x0 : Req) (d : Dev) : (cmbCfgBody x0 d).dev.kept = d.kept := by simp [cmbCfgBody]
@[simp] theorem cmbStatusBody_kept (x0 : Req) (d : Dev) : (cmbStatusBody x0 d).dev.kept = d.kept := by (unfold cmbStatusBody; dsimp only; split <;> simp [*])
@[simp] theorem watchListBody_kept (x0 : Int) (x1 : Req) (d : Dev) : (watchListBody x0 x1 d).dev.kept = d.kept := by (unfold watchListBody; repeat' split) <;> simp [*]
@[simp] theorem watchEnterBody_kept (x0 : Req) (d : Dev) : (watchEnterBody x0 d).dev.kept = d.kept := by (unfold watchEnterBody; dsimp only; split <;> simp [*])
@[simp] theorem watchStatusBody_kept (x0 : Req) (d : Dev) : (watchStatusBody x0 d).dev.kept = d.kept := by simp [watchStatusBody]
@[simp] theorem clPortBody_kept (x0 : Req) (d : Dev) : (clPortBody x0 d).dev.kept = d.kept := by (unfold clPortBody; dsimp only; split <;> simp [*])
@[simp] theorem clJoinBody_kept (x0 : Req) (d : Dev) : (clJoinBody x0 d).dev.kept = d.kept := by simp [clJoinBody]
@[simp] theorem clLeaveBody_kept (x0 : Req) (d : Dev) : (clLeaveBody x0 d).dev.kept = d.kept := by simp [clLeaveBody]
@[simp] theorem clTopologyBody_kept (x0 : Req) (d : Dev) : (clTopologyBody x0 d).dev.kept = d.kept := by simp [clTopologyBody]
@[simp] theorem clStreamOpenBody_kept (x0 : Req) (d : Dev) : (clStreamOpenBody x0 d).dev.kept = d.kept := by (unfold clStreamOpenBody; dsimp only; repeat' split) <;> simp [*]
@[simp] theorem clStreamCloseBody_kept (x0 : Req) (d : Dev) : (clStreamCloseBody x0 d).dev.kept = d.kept := by simp [clStreamCloseBody]
@[simp] theorem clRemoteBody_kept (x0 : Req) (d : Dev) : (clRemoteBody x0 d).dev.kept = d.kept := by (unfold clRemoteBody; dsimp only; split <;> simp [*])
@[simp] theorem clTimeBody_kept (x0 : Req) (d : Dev) : (clTimeBody x0 d).dev.kept = d.kept := by simp [clTimeBody]
@[simp] theorem secNonceBody_kept (x0 : Req) (d : Dev) : (secNonceBody x0 d).dev.kept = d.kept := by simp [secNonceBody]
@[simp] theorem secFuseReadBody_kept (x0 : Req) (d : Dev) : (secFuseReadBody x0 d).dev.kept = d.kept := by simp [secFuseReadBody]
@[simp] theorem secFuseProgramBody_kept (x0 : Req) (d : Dev) : (secFuseProgramBody x0 d).dev.kept = d.kept := by (unfold secFuseProgramBody; dsimp only; apply checked_kept; simp)
@[simp] theorem secDebugUnlockBody_kept (x0 : Req) (d : Dev) : (secDebugUnlockBody x0 d).dev.kept = d.kept := by simp [secDebugUnlockBody]
@[simp] theorem sysPatchLoadBody_kept (x0 : Req) (d : Dev) : (sysPatchLoadBody x0 d).dev.kept = d.kept := by (unfold sysPatchLoadBody; dsimp only; repeat' split) <;> simp [*]
@[simp] theorem fltReadBody_kept (x0 : Req) (d : Dev) : (fltReadBody x0 d).dev.kept = d.kept := by simp [fltReadBody]
@[simp] theorem fltInjectBody_kept (x0 : Req) (d : Dev) : (fltInjectBody x0 d).dev.kept = d.kept := by simp [fltInjectBody]
@[simp] theorem fltPolicyBody_kept (x0 : Req) (d : Dev) : (fltPolicyBody x0 d).dev.kept = d.kept := by simp [fltPolicyBody]
theorem State.run_kept {s t : State} {dt : Nat} {f : Dev → Dev} (hf : ∀ d, (f d).kept = d.kept) (h : s.run dt f = .next t) :
    t.dev.kept = s.dev.kept := by
  simp only [State.run, Host.Outcome.next.injEq] at h; subst h
  exact (hf (s.dev.tick dt)).trans (Dev.tick_kept dt s.dev)
theorem State.runIf_kept {s t : State} {dt : Nat} {p : Dev → Bool} {f : Dev → Dev} (hf : ∀ d, (f d).kept = d.kept)
    (h : s.runIf dt p f = .next t) : t.dev.kept = s.dev.kept :=
  State.run_kept (fun d => by split <;> simp [hf]) h
theorem State.command_kept {s t : State} {dt op : Nat} {b : Body} (hb : ∀ q d, (b q d).dev.kept = d.kept)
    (h : s.command dt op b = .next t) : t.dev.kept = s.dev.kept :=
  State.runIf_kept (Dev.command_kept op b hb) h
theorem execPowerOn_kept (dt : Nat) {s t : State} (h : execPowerOn dt s = .next t) : t.dev.kept = s.dev.kept :=
  State.runIf_kept (fun d => by simp) h
theorem execVddCoreBrownOutRelease_kept (dt : Nat) {s t : State} (h : execVddCoreBrownOutRelease dt s = .next t) : t.dev.kept = s.dev.kept :=
  State.run_kept (fun d => by simp) h
theorem execResetNRelease_kept (dt : Nat) {s t : State} (h : execResetNRelease dt s = .next t) : t.dev.kept = s.dev.kept :=
  State.runIf_kept (fun d => by simp) h
theorem execIoBankSupplyChange_kept (dt bank : Nat) (inRange is33 : Bool) {s t : State} (h : execIoBankSupplyChange dt bank inRange is33 s = .next t) : t.dev.kept = s.dev.kept :=
  State.run_kept (fun d => by (repeat' split) <;> simp) h
theorem execRefclkRestoredInReset_kept (dt : Nat) {s t : State} (h : execRefclkRestoredInReset dt s = .next t) : t.dev.kept = s.dev.kept :=
  State.run_kept (fun d => by simp) h
theorem execBootDone_kept (dt : Nat) {s t : State} (h : execBootDone dt s = .next t) : t.dev.kept = s.dev.kept :=
  State.runIf_kept (fun d => by simp) h
theorem execThermalWarning_kept (dt : Nat) (tHot tAvg : Int) {s t : State} (h : execThermalWarning dt tHot tAvg s = .next t) : t.dev.kept = s.dev.kept :=
  State.runIf_kept (fun d => by simp) h
theorem execSysInfo_kept (dt : Nat) {s t : State} (h : execSysInfo dt s = .next t) : t.dev.kept = s.dev.kept :=
  State.command_kept (fun q d => by simp) h
theorem execSysTemp_kept (dt : Nat) (tHot tAvg : Int) {s t : State} (h : execSysTemp dt tHot tAvg s = .next t) : t.dev.kept = s.dev.kept :=
  State.command_kept (fun q d => by simp) h
theorem execSysPower_kept (dt : Nat) {s t : State} (h : execSysPower dt s = .next t) : t.dev.kept = s.dev.kept :=
  State.command_kept (fun q d => by simp) h
theorem execSysReset_kept (dt : Nat) {s t : State} (h : execSysReset dt s = .next t) : t.dev.kept = s.dev.kept :=
  State.command_kept (fun q d => by simp) h
theorem execSleepEntry_kept (dt : Nat) {s t : State} (h : execSleepEntry dt s = .next t) : t.dev.kept = s.dev.kept :=
  State.runIf_kept (fun d => by (repeat' split) <;> simp) h
theorem execRegisterWrite_kept (dt : Nat) (port : RegPort) (addr : Nat) (values : List Word) {s t : State} (h : execRegisterWrite dt port addr values s = .next t) : t.dev.kept = s.dev.kept :=
  State.run_kept (fun d => by simp) h
theorem execIrqStatusWrite_kept (dt : Nat) (_port : RegPort) (reg : Nat) (value : Word) {s t : State} (h : execIrqStatusWrite dt _port reg value s = .next t) : t.dev.kept = s.dev.kept :=
  State.run_kept (fun d => by simp) h
theorem execSysStatusClear_kept (dt : Nat) (_port : RegPort) (value : Word) {s t : State} (h : execSysStatusClear dt _port value s = .next t) : t.dev.kept = s.dev.kept :=
  State.run_kept (fun d => by simp) h
theorem execTwStatusClear_kept (dt : Nat) (_port : RegPort) (value : Word) {s t : State} (h : execTwStatusClear dt _port value s = .next t) : t.dev.kept = s.dev.kept :=
  State.run_kept (fun d => by simp) h
theorem execTwCfgWrite_kept (dt : Nat) (port : RegPort) (value : Word) {s t : State} (h : execTwCfgWrite dt port value s = .next t) : t.dev.kept = s.dev.kept :=
  State.run_kept (fun d => by simp) h
theorem execTocsinTimeLoRead_kept (dt : Nat) (addr : Nat) (count : Nat) {s t : State} (h : execTocsinTimeLoRead dt addr count s = .next t) : t.dev.kept = s.dev.kept :=
  State.runIf_kept (fun d => by simp) h
theorem execSpiUnknownInstruction_kept (dt : Nat) (_code : Byte) {s t : State} (h : execSpiUnknownInstruction dt _code s = .next t) : t.dev.kept = s.dev.kept :=
  State.runIf_kept (fun d => by simp) h
theorem execSpiFastStatus_kept (dt : Nat) {s t : State} (h : execSpiFastStatus dt s = .next t) : t.dev.kept = s.dev.kept :=
  State.runIf_kept (fun d => by simp) h
theorem execSpiRspPull_kept (dt clocked : Nat) {s t : State} (h : execSpiRspPull dt clocked s = .next t) : t.dev.kept = s.dev.kept :=
  State.runIf_kept (fun d => by simp) h
theorem execSpiEvtPull_kept (dt clocked : Nat) {s t : State} (h : execSpiEvtPull dt clocked s = .next t) : t.dev.kept = s.dev.kept :=
  State.runIf_kept (fun d => by simp) h
theorem execTwPendingPacketEntersQ2_kept (dt : Nat) {s t : State} (h : execTwPendingPacketEntersQ2 dt s = .next t) : t.dev.kept = s.dev.kept :=
  State.runIf_kept (fun d => by (repeat' split) <;> simp) h
theorem execTwMailboxStatusRead_kept (dt count : Nat) {s t : State} (h : execTwMailboxStatusRead dt count s = .next t) : t.dev.kept = s.dev.kept :=
  State.runIf_kept (fun d => by simp) h
theorem execTwReplyMailboxRead_kept (dt count : Nat) {s t : State} (h : execTwReplyMailboxRead dt count s = .next t) : t.dev.kept = s.dev.kept :=
  State.runIf_kept (fun d => by simp) h
theorem execTwEventMailboxRead_kept (dt count : Nat) {s t : State} (h : execTwEventMailboxRead dt count s = .next t) : t.dev.kept = s.dev.kept :=
  State.runIf_kept (fun d => by simp) h
theorem execTwMirrorRead_kept (dt count : Nat) {s t : State} (h : execTwMirrorRead dt count s = .next t) : t.dev.kept = s.dev.kept :=
  State.runIf_kept (fun d => by simp) h
theorem execTwAlertResponse_kept (dt : Nat) (lostAt : Option Nat) {s t : State} (h : execTwAlertResponse dt lostAt s = .next t) : t.dev.kept = s.dev.kept :=
  State.runIf_kept (fun d => by (repeat' split) <;> simp) h
theorem execTwBusStartStop_kept (dt : Nat) (isStop : Bool) {s t : State} (h : execTwBusStartStop dt isStop s = .next t) : t.dev.kept = s.dev.kept :=
  State.runIf_kept (fun d => by simp) h
theorem execTwcAttemptStart_kept (dt : Nat) (linesHigh : Bool) {s t : State} (h : execTwcAttemptStart dt linesHigh s = .next t) : t.dev.kept = s.dev.kept :=
  State.runIf_kept (fun d => by simp) h
theorem execTwcBusFreeTimeout_kept (dt : Nat) {s t : State} (h : execTwcBusFreeTimeout dt s = .next t) : t.dev.kept = s.dev.kept :=
  State.runIf_kept (fun d => by simp) h
theorem execTwcTransferEnd_kept (dt result wrDone : Nat) (rdData : List Byte) {s t : State} (h : execTwcTransferEnd dt result wrDone rdData s = .next t) : t.dev.kept = s.dev.kept :=
  State.runIf_kept (fun d => by simp) h
theorem execTwcSclLowTimeout_kept (dt : Nat) (wrDone : Nat) (rdData : List Byte) {s t : State} (h : execTwcSclLowTimeout dt wrDone rdData s = .next t) : t.dev.kept = s.dev.kept :=
  State.runIf_kept (fun d => by simp) h
theorem execTwRecoveryDone_kept (dt pulses : Nat) (released : Bool) {s t : State} (h : execTwRecoveryDone dt pulses released s = .next t) : t.dev.kept = s.dev.kept :=
  State.runIf_kept (fun d => by simp) h
theorem execTwRecoverySclTimeout_kept (dt : Nat) {s t : State} (h : execTwRecoverySclTimeout dt s = .next t) : t.dev.kept = s.dev.kept :=
  State.runIf_kept (fun d => by simp) h
theorem execTwcXfer_kept (dt : Nat) {s t : State} (h : execTwcXfer dt s = .next t) : t.dev.kept = s.dev.kept :=
  State.command_kept (fun q d => by simp) h
theorem execTwcRecover_kept (dt : Nat) {s t : State} (h : execTwcRecover dt s = .next t) : t.dev.kept = s.dev.kept :=
  State.command_kept (fun q d => by simp) h
theorem execTwcStatus_kept (dt : Nat) {s t : State} (h : execTwcStatus dt s = .next t) : t.dev.kept = s.dev.kept :=
  State.command_kept (fun q d => by simp) h
theorem execMotObjectTimeout_kept (dt : Nat) {s t : State} (h : execMotObjectTimeout dt s = .next t) : t.dev.kept = s.dev.kept :=
  State.runIf_kept (fun d => by simp) h
theorem execQueueCfg_kept (dt : Nat) {s t : State} (h : execQueueCfg dt s = .next t) : t.dev.kept = s.dev.kept :=
  State.command_kept (fun q d => by simp) h
theorem execQueueBind_kept (dt : Nat) {s t : State} (h : execQueueBind dt s = .next t) : t.dev.kept = s.dev.kept :=
  State.command_kept (fun q d => by simp) h
theorem execQueueFlush_kept (dt : Nat) {s t : State} (h : execQueueFlush dt s = .next t) : t.dev.kept = s.dev.kept :=
  State.command_kept (fun q d => by simp) h
theorem execQueueStatus_kept (dt : Nat) {s t : State} (h : execQueueStatus dt s = .next t) : t.dev.kept = s.dev.kept :=
  State.command_kept (fun q d => by simp) h
theorem execSpiDataPull_kept (dt queue clocked : Nat) {s t : State} (h : execSpiDataPull dt queue clocked s = .next t) : t.dev.kept = s.dev.kept :=
  State.runIf_kept (fun d => by simp) h
theorem execFbQuery_kept (dt : Nat) {s t : State} (h : execFbQuery dt s = .next t) : t.dev.kept = s.dev.kept :=
  State.command_kept (fun q d => by simp) h
theorem execFbPut_kept (dt : Nat) {s t : State} (h : execFbPut dt s = .next t) : t.dev.kept = s.dev.kept :=
  State.command_kept (fun q d => by simp) h
theorem execFbDrop_kept (dt : Nat) {s t : State} (h : execFbDrop dt s = .next t) : t.dev.kept = s.dev.kept :=
  State.command_kept (fun q d => by simp) h
theorem execFbExport_kept (dt : Nat) {s t : State} (h : execFbExport dt s = .next t) : t.dev.kept = s.dev.kept :=
  State.command_kept (fun q d => by simp) h
theorem execFbImport_kept (dt : Nat) {s t : State} (h : execFbImport dt s = .next t) : t.dev.kept = s.dev.kept :=
  State.command_kept (fun q d => by simp) h
theorem execFbChangedReport_kept (dt : Nat) {s t : State} (h : execFbChangedReport dt s = .next t) : t.dev.kept = s.dev.kept :=
  State.runIf_kept (fun d => by simp) h
theorem execCoefLoad_kept (dt : Nat) {s t : State} (h : execCoefLoad dt s = .next t) : t.dev.kept = s.dev.kept :=
  State.command_kept (fun q d => by simp) h
theorem execSlotStatus_kept (dt : Nat) {s t : State} (h : execSlotStatus dt s = .next t) : t.dev.kept = s.dev.kept :=
  State.command_kept (fun q d => by simp) h
theorem execPropSet_kept (dt : Nat) {s t : State} (h : execPropSet dt s = .next t) : t.dev.kept = s.dev.kept :=
  State.command_kept (fun q d => by simp) h
theorem execPropGet_kept (dt : Nat) {s t : State} (h : execPropGet dt s = .next t) : t.dev.kept = s.dev.kept :=
  State.command_kept (fun q d => by simp) h
theorem execEvtRoute_kept (dt : Nat) {s t : State} (h : execEvtRoute dt s = .next t) : t.dev.kept = s.dev.kept :=
  State.command_kept (fun q d => by simp) h
theorem execSysOwner_kept (dt : Nat) {s t : State} (h : execSysOwner dt s = .next t) : t.dev.kept = s.dev.kept :=
  State.command_kept (fun q d => by simp) h
theorem execReplyQueueWaitTimeout_kept (dt : Nat) {s t : State} (h : execReplyQueueWaitTimeout dt s = .next t) : t.dev.kept = s.dev.kept :=
  State.runIf_kept (fun d => by (repeat' split) <;> simp) h
theorem execTraversePlanFreeze_kept (dt : Nat) {s t : State} (h : execTraversePlanFreeze dt s = .next t) : t.dev.kept = s.dev.kept :=
  State.runIf_kept (fun d => by simp) h
theorem execPagerRestore_kept (dt ctx : Nat) {s t : State} (h : execPagerRestore dt ctx s = .next t) : t.dev.kept = s.dev.kept :=
  State.runIf_kept (fun d => by simp) h
theorem execPagerPark_kept (dt ctx : Nat) {s t : State} (h : execPagerPark dt ctx s = .next t) : t.dev.kept = s.dev.kept :=
  State.runIf_kept (fun d => by simp) h
theorem execDwellEnd_kept (dt ctx : Nat) {s t : State} (h : execDwellEnd dt ctx s = .next t) : t.dev.kept = s.dev.kept :=
  State.runIf_kept (fun d => by simp) h
theorem execNoResourceStarvation_kept (dt : Nat) {s t : State} (h : execNoResourceStarvation dt s = .next t) : t.dev.kept = s.dev.kept :=
  State.runIf_kept (fun d => by
    dsimp only; split
    · rfl
    · rw [foldl_kept]; intro d x; split <;> simp) h
theorem execCtxOpen_kept (dt : Nat) {s t : State} (h : execCtxOpen dt s = .next t) : t.dev.kept = s.dev.kept :=
  State.command_kept (fun q d => by simp) h
theorem execCtxClose_kept (dt : Nat) {s t : State} (h : execCtxClose dt s = .next t) : t.dev.kept = s.dev.kept :=
  State.command_kept (fun q d => by simp) h
theorem execCtxConfig_kept (dt : Nat) {s t : State} (h : execCtxConfig dt s = .next t) : t.dev.kept = s.dev.kept :=
  State.command_kept (fun q d => by simp) h
theorem execCtxTune_kept (dt : Nat) {s t : State} (h : execCtxTune dt s = .next t) : t.dev.kept = s.dev.kept :=
  State.command_kept (fun q d => by simp) h
theorem execCtxStatus_kept (dt : Nat) {s t : State} (h : execCtxStatus dt s = .next t) : t.dev.kept = s.dev.kept :=
  State.command_kept (fun q d => by simp) h
theorem execCtxSuspend_kept (dt : Nat) {s t : State} (h : execCtxSuspend dt s = .next t) : t.dev.kept = s.dev.kept :=
  State.command_kept (fun q d => by simp) h
theorem execCtxResume_kept (dt : Nat) {s t : State} (h : execCtxResume dt s = .next t) : t.dev.kept = s.dev.kept :=
  State.command_kept (fun q d => by simp) h
theorem execCtxHandover_kept (dt : Nat) {s t : State} (h : execCtxHandover dt s = .next t) : t.dev.kept = s.dev.kept :=
  State.command_kept (fun q d => by simp) h
theorem execResStatus_kept (dt : Nat) {s t : State} (h : execResStatus dt s = .next t) : t.dev.kept = s.dev.kept :=
  State.command_kept (fun q d => by simp) h
theorem execSlotPin_kept (dt : Nat) {s t : State} (h : execSlotPin dt s = .next t) : t.dev.kept = s.dev.kept :=
  State.command_kept (fun q d => by simp) h
theorem execPllAudLockLoss_kept (dt : Nat) {s t : State} (h : execPllAudLockLoss dt s = .next t) : t.dev.kept = s.dev.kept :=
  State.runIf_kept (fun d => by simp) h
theorem execPlldIdleLock_kept (dt : Nat) {s t : State} (h : execPlldIdleLock dt s = .next t) : t.dev.kept = s.dev.kept :=
  State.runIf_kept (fun d => by (repeat' split) <;> simp) h
theorem execPlldLockAttemptTimeout_kept (dt : Nat) {s t : State} (h : execPlldLockAttemptTimeout dt s = .next t) : t.dev.kept = s.dev.kept :=
  State.runIf_kept (fun d => by (repeat' split) <;> simp) h
theorem execHandshakeQuietPoint_kept (dt : Nat) {s t : State} (h : execHandshakeQuietPoint dt s = .next t) : t.dev.kept = s.dev.kept :=
  State.runIf_kept (fun d => by (repeat' split) <;> simp) h
theorem execAudioRefEdgeFault_kept (dt missing : Nat) {s t : State} (h : execAudioRefEdgeFault dt missing s = .next t) : t.dev.kept = s.dev.kept :=
  State.runIf_kept (fun d => by simp) h
theorem execAudioRefLost_kept (dt cause : Nat) (offset : Int) {s t : State} (h : execAudioRefLost dt cause offset s = .next t) : t.dev.kept = s.dev.kept :=
  State.runIf_kept (fun d => by simp) h
theorem execAudioRefValid_kept (dt : Nat) (edges : Nat) (worst : Nat) {s t : State} (h : execAudioRefValid dt edges worst s = .next t) : t.dev.kept = s.dev.kept :=
  State.runIf_kept (fun d => by simp) h
theorem execAudioPllPhaseLock_kept (dt : Nat) (offset : Int) {s t : State} (h : execAudioPllPhaseLock dt offset s = .next t) : t.dev.kept = s.dev.kept :=
  State.runIf_kept (fun d => by simp) h
theorem execAudioPllLocked_kept (dt : Nat) (offset : Int) {s t : State} (h : execAudioPllLocked dt offset s = .next t) : t.dev.kept = s.dev.kept :=
  State.runIf_kept (fun d => by simp) h
theorem execAudioPllRelockTimeout_kept (dt : Nat) {s t : State} (h : execAudioPllRelockTimeout dt s = .next t) : t.dev.kept = s.dev.kept :=
  State.runIf_kept (fun d => by simp) h
theorem execClkAudio_kept (dt : Nat) {s t : State} (h : execClkAudio dt s = .next t) : t.dev.kept = s.dev.kept :=
  State.command_kept (fun q d => by simp) h
theorem execClkSpurPlan_kept (dt : Nat) {s t : State} (h : execClkSpurPlan dt s = .next t) : t.dev.kept = s.dev.kept :=
  State.command_kept (fun q d => by simp) h
theorem execClkStatus_kept (dt : Nat) {s t : State} (h : execClkStatus dt s = .next t) : t.dev.kept = s.dev.kept :=
  State.command_kept (fun q d => by simp) h
theorem execAmCoarseSearchDone_kept (dt : Nat) (ctx : Nat) {s t : State} (h : execAmCoarseSearchDone dt ctx s = .next t) : t.dev.kept = s.dev.kept :=
  State.runIf_kept (fun d => by (repeat' split) <;> simp) h
theorem execNbCfg_kept (dt : Nat) {s t : State} (h : execNbCfg dt s = .next t) : t.dev.kept = s.dev.kept :=
  State.command_kept (fun q d => by simp) h
theorem execNbMetrics_kept (dt : Nat) {s t : State} (h : execNbMetrics dt s = .next t) : t.dev.kept = s.dev.kept :=
  State.command_kept (fun q d => by simp) h
theorem execRdsBlockDecoded_kept (dt : Nat) (ctx : Nat) (stream : Nat) {s t : State} (h : execRdsBlockDecoded dt ctx stream s = .next t) : t.dev.kept = s.dev.kept :=
  State.runIf_kept (fun d => by simp) h
theorem execRdsBitLockChange_kept (dt : Nat) (ctx : Nat) (stream : Nat) {s t : State} (h : execRdsBitLockChange dt ctx stream s = .next t) : t.dev.kept = s.dev.kept :=
  State.runIf_kept (fun d => by simp) h
theorem execRdsGroupComplete_kept (dt ctx stream : Nat) {s t : State} (h : execRdsGroupComplete dt ctx stream s = .next t) : t.dev.kept = s.dev.kept :=
  State.runIf_kept (fun d => by simp) h
theorem execRdsCfg_kept (dt : Nat) {s t : State} (h : execRdsCfg dt s = .next t) : t.dev.kept = s.dev.kept :=
  State.command_kept (fun q d => by simp) h
theorem execRdsStatus_kept (dt : Nat) {s t : State} (h : execRdsStatus dt s = .next t) : t.dev.kept = s.dev.kept :=
  State.command_kept (fun q d => by simp) h
theorem execDabNullDetected_kept (dt inst : Nat) {s t : State} (h : execDabNullDetected dt inst s = .next t) : t.dev.kept = s.dev.kept :=
  State.runIf_kept (fun d => by simp) h
theorem execDabPrsProcessed_kept (dt : Nat) (inst : Nat) {s t : State} (h : execDabPrsProcessed dt inst s = .next t) : t.dev.kept = s.dev.kept :=
  State.runIf_kept (fun d => by simp) h
theorem execDabSyncLoss_kept (dt inst : Nat) {s t : State} (h : execDabSyncLoss dt inst s = .next t) : t.dev.kept = s.dev.kept :=
  State.runIf_kept (fun d => by simp) h
theorem execDabAnnouncementTimeout_kept (dt : Nat) {s t : State} (h : execDabAnnouncementTimeout dt s = .next t) : t.dev.kept = s.dev.kept :=
  State.runIf_kept (fun d => by simp) h
theorem execDabFibDecoded_kept (dt : Nat) (inst : Nat) (good : Bool) (bytes : List Byte) (figs : List Fig) {s t : State} (h : execDabFibDecoded dt inst good bytes figs s = .next t) : t.dev.kept = s.dev.kept :=
  State.runIf_kept (fun d => by simp) h
theorem execDabDatabaseComplete_kept (dt inst : Nat) {s t : State} (h : execDabDatabaseComplete dt inst s = .next t) : t.dev.kept = s.dev.kept :=
  State.runIf_kept (fun d => by simp) h
theorem execDabCifDecoded_kept (dt ctx cif : Nat) (bytes : List Byte) (ber : Nat) {s t : State} (h : execDabCifDecoded dt ctx cif bytes ber s = .next t) : t.dev.kept = s.dev.kept :=
  State.runIf_kept (fun d => by simp) h
theorem execDabLayer2Frame_kept (dt ctx : Nat) (headerOk : Bool) {s t : State} (h : execDabLayer2Frame dt ctx headerOk s = .next t) : t.dev.kept = s.dev.kept :=
  State.runIf_kept (fun d => by simp) h
theorem execDabSuperframe_kept (dt ctx : Nat) (pass : Bool) (corrected failed : Nat) (aus : List Bool) {s t : State} (h : execDabSuperframe dt ctx pass corrected failed aus s = .next t) : t.dev.kept = s.dev.kept :=
  State.runIf_kept (fun d => by simp) h
theorem execDabPacketDataGroup_kept (dt ctx addr : Nat) (xpad crc : Bool) (bytes : List Byte) {s t : State} (h : execDabPacketDataGroup dt ctx addr xpad crc bytes s = .next t) : t.dev.kept = s.dev.kept :=
  State.runIf_kept (fun d => by simp) h
theorem execDabEnsemble_kept (dt : Nat) {s t : State} (h : execDabEnsemble dt s = .next t) : t.dev.kept = s.dev.kept :=
  State.command_kept (fun q d => by simp) h
theorem execDabServiceSelect_kept (dt : Nat) {s t : State} (h : execDabServiceSelect dt s = .next t) : t.dev.kept = s.dev.kept :=
  State.command_kept (fun q d => by simp) h
theorem execDabFicDump_kept (dt : Nat) {s t : State} (h : execDabFicDump dt s = .next t) : t.dev.kept = s.dev.kept :=
  State.command_kept (fun q d => by simp) h
theorem execDabMetrics_kept (dt : Nat) {s t : State} (h : execDabMetrics dt s = .next t) : t.dev.kept = s.dev.kept :=
  State.command_kept (fun q d => by simp) h
theorem execDrmModeFound_kept (dt : Nat) (ctx : Nat) {s t : State} (h : execDrmModeFound dt ctx s = .next t) : t.dev.kept = s.dev.kept :=
  State.runIf_kept (fun d => by simp) h
theorem execDrmFrequencyFound_kept (dt : Nat) (ctx : Nat) {s t : State} (h : execDrmFrequencyFound dt ctx s = .next t) : t.dev.kept = s.dev.kept :=
  State.runIf_kept (fun d => by simp) h
theorem execDrmFrameFound_kept (dt : Nat) (ctx : Nat) {s t : State} (h : execDrmFrameFound dt ctx s = .next t) : t.dev.kept = s.dev.kept :=
  State.runIf_kept (fun d => by simp) h
theorem execDrmSyncLoss_kept (dt ctx : Nat) {s t : State} (h : execDrmSyncLoss dt ctx s = .next t) : t.dev.kept = s.dev.kept :=
  State.runIf_kept (fun d => by simp) h
theorem execDrmFacDecoded_kept (dt : Nat) (ctx : Nat) (good : Bool) (fac : DrmFac) {s t : State} (h : execDrmFacDecoded dt ctx good fac s = .next t) : t.dev.kept = s.dev.kept :=
  State.runIf_kept (fun d => by simp) h
theorem execDrmSdcDecoded_kept (dt ctx : Nat) (good : Bool) (sdc : DrmSdc) {s t : State} (h : execDrmSdcDecoded dt ctx good sdc s = .next t) : t.dev.kept = s.dev.kept :=
  State.runIf_kept (fun d => by simp) h
theorem execDrmAlarmSdcTimeout_kept (dt : Nat) {s t : State} (h : execDrmAlarmSdcTimeout dt s = .next t) : t.dev.kept = s.dev.kept :=
  State.runIf_kept (fun d => by simp) h
theorem execDrmMscFrameDecoded_kept (dt : Nat) (ctx : Nat) {s t : State} (h : execDrmMscFrameDecoded dt ctx s = .next t) : t.dev.kept = s.dev.kept :=
  State.runIf_kept (fun d => by simp) h
theorem execDrmAudioSuperframe_kept (dt ctx : Nat) (headerOk : Bool) (aus : List Bool) {s t : State} (h : execDrmAudioSuperframe dt ctx headerOk aus s = .next t) : t.dev.kept = s.dev.kept :=
  State.runIf_kept (fun d => by simp) h
theorem execDrmTextMessageComplete_kept (dt ctx toggle : Nat) (bytes : List Byte) {s t : State} (h : execDrmTextMessageComplete dt ctx toggle bytes s = .next t) : t.dev.kept = s.dev.kept :=
  State.runIf_kept (fun d => by simp) h
theorem execDrmDataUnit_kept (dt ctx : Nat) (crcOk : Bool) (bytes : List Byte) {s t : State} (h : execDrmDataUnit dt ctx crcOk bytes s = .next t) : t.dev.kept = s.dev.kept :=
  State.runIf_kept (fun d => by (repeat' split) <;> simp) h
theorem execMotDataGroup_kept (dt ctx typ tid seg : Nat) (last : Bool) (bytes : List Byte) (entries : List (Nat × List Byte)) {s t : State} (h : execMotDataGroup dt ctx typ tid seg last bytes entries s = .next t) : t.dev.kept = s.dev.kept :=
  State.runIf_kept (fun d => by simp) h
theorem execDrmCfg_kept (dt : Nat) {s t : State} (h : execDrmCfg dt s = .next t) : t.dev.kept = s.dev.kept :=
  State.command_kept (fun q d => by simp) h
theorem execDrmServiceSelect_kept (dt : Nat) {s t : State} (h : execDrmServiceSelect dt s = .next t) : t.dev.kept = s.dev.kept :=
  State.command_kept (fun q d => by simp) h
theorem execDrmMetrics_kept (dt : Nat) {s t : State} (h : execDrmMetrics dt s = .next t) : t.dev.kept = s.dev.kept :=
  State.command_kept (fun q d => by simp) h
theorem execAuxAdcSample_kept (dt input mv : Nat) {s t : State} (h : execAuxAdcSample dt input mv s = .next t) : t.dev.kept = s.dev.kept :=
  State.runIf_kept (fun d => by
    dsimp only; split
    · simp
    · split
      · simp
      · split <;> simp) h
theorem execXampInrushExpiry_kept (dt input : Nat) {s t : State} (h : execXampInrushExpiry dt input s = .next t) : t.dev.kept = s.dev.kept :=
  State.runIf_kept (fun d => by simp) h
theorem execXampSettleExpiry_kept (dt input : Nat) {s t : State} (h : execXampSettleExpiry dt input s = .next t) : t.dev.kept = s.dev.kept :=
  State.runIf_kept (fun d => by (repeat' split) <;> simp) h
theorem execXampEepromReadDone_kept (dt result : Nat) (bytes : List Byte) {s t : State} (h : execXampEepromReadDone dt result bytes s = .next t) : t.dev.kept = s.dev.kept :=
  State.runIf_kept (fun d => by (repeat' split) <;> simp) h
theorem execXampOffDelayExpiry_kept (dt input : Nat) {s t : State} (h : execXampOffDelayExpiry dt input s = .next t) : t.dev.kept = s.dev.kept :=
  State.runIf_kept (fun d => by (repeat' split) <;> simp) h
theorem execXampRetryWaitExpiry_kept (dt input : Nat) {s t : State} (h : execXampRetryWaitExpiry dt input s = .next t) : t.dev.kept = s.dev.kept :=
  State.runIf_kept (fun d => by (repeat' split) <;> simp) h
theorem execSyn0Lock_kept (dt : Nat) {s t : State} (h : execSyn0Lock dt s = .next t) : t.dev.kept = s.dev.kept :=
  State.runIf_kept (fun d => by simp) h
theorem execSyn0LockLoss_kept (dt : Nat) {s t : State} (h : execSyn0LockLoss dt s = .next t) : t.dev.kept = s.dev.kept :=
  State.runIf_kept (fun d => by simp) h
theorem execSyn0ReacquireTimeout_kept (dt : Nat) {s t : State} (h : execSyn0ReacquireTimeout dt s = .next t) : t.dev.kept = s.dev.kept :=
  State.runIf_kept (fun d => by simp) h
theorem execFeInput_kept (dt : Nat) (tAvg : Int) {s t : State} (h : execFeInput dt tAvg s = .next t) : t.dev.kept = s.dev.kept :=
  State.command_kept (fun q d => by simp) h
theorem execFeAgc_kept (dt : Nat) {s t : State} (h : execFeAgc dt s = .next t) : t.dev.kept = s.dev.kept :=
  State.command_kept (fun q d => by simp) h
theorem execFeXamp_kept (dt : Nat) {s t : State} (h : execFeXamp dt s = .next t) : t.dev.kept = s.dev.kept :=
  State.command_kept (fun q d => by simp) h
theorem execFeDiag_kept (dt : Nat) {s t : State} (h : execFeDiag dt s = .next t) : t.dev.kept = s.dev.kept :=
  State.command_kept (fun q d => by simp) h
theorem execFeLband_kept (dt : Nat) {s t : State} (h : execFeLband dt s = .next t) : t.dev.kept = s.dev.kept :=
  State.command_kept (fun q d => by simp) h
theorem execSurveyVisitEnd_kept (dt : Nat) (seg : Nat) {s t : State} (h : execSurveyVisitEnd dt seg s = .next t) : t.dev.kept = s.dev.kept :=
  State.runIf_kept (fun d => by (repeat' split) <;> simp) h
theorem execSurveyCycleBoundary_kept (dt : Nat) {s t : State} (h : execSurveyCycleBoundary dt s = .next t) : t.dev.kept = s.dev.kept :=
  State.runIf_kept (fun d => by simp) h
theorem execSurveyCfg_kept (dt : Nat) {s t : State} (h : execSurveyCfg dt s = .next t) : t.dev.kept = s.dev.kept :=
  State.command_kept (fun q d => by simp) h
theorem execSurveyRead_kept (dt : Nat) {s t : State} (h : execSurveyRead dt s = .next t) : t.dev.kept = s.dev.kept :=
  State.command_kept (fun q d => by simp) h
theorem execAudioFrameDecoded_kept (dt : Nat) (ctx : Nat) (bad : Bool) (rate : Nat) (layout : Nat) (pcm : List (Int × Int)) {s t : State} (h : execAudioFrameDecoded dt ctx bad rate layout pcm s = .next t) : t.dev.kept = s.dev.kept :=
  State.runIf_kept (fun d => by simp) h
theorem execPortFaultFrame_kept (dt leader kind : Nat) {s t : State} (h : execPortFaultFrame dt leader kind s = .next t) : t.dev.kept = s.dev.kept :=
  State.runIf_kept (fun d => by simp) h
theorem execPortGroupBackInStep_kept (dt : Nat) (leader : Nat) (frames : Nat) {s t : State} (h : execPortGroupBackInStep dt leader frames s = .next t) : t.dev.kept = s.dev.kept :=
  State.runIf_kept (fun d => by simp) h
theorem execPortFaultClear_kept (dt leader : Nat) {s t : State} (h : execPortFaultClear dt leader s = .next t) : t.dev.kept = s.dev.kept :=
  State.runIf_kept (fun d => by simp) h
theorem execPortSlaveClockLost_kept (dt : Nat) (port : Nat) (gap : Nat) (faults : Nat) (offset : Int) {s t : State} (h : execPortSlaveClockLost dt port gap faults offset s = .next t) : t.dev.kept = s.dev.kept :=
  State.runIf_kept (fun d => by simp) h
theorem execPortSlaveClockValid_kept (dt : Nat) (port : Nat) (frames : Nat) (bclks : Nat) (worst : Int) {s t : State} (h : execPortSlaveClockValid dt port frames bclks worst s = .next t) : t.dev.kept = s.dev.kept :=
  State.runIf_kept (fun d => by simp) h
theorem execPortStopComplete_kept (dt output : Nat) {s t : State} (h : execPortStopComplete dt output s = .next t) : t.dev.kept = s.dev.kept :=
  State.runIf_kept (fun d => by simp) h
theorem execSpdifInLost_kept (dt : Nat) (gap : Nat) (errors : Nat) (offset : Int) {s t : State} (h : execSpdifInLost dt gap errors offset s = .next t) : t.dev.kept = s.dev.kept :=
  State.runIf_kept (fun d => by simp) h
theorem execSpdifInValid_kept (dt : Nat) (frames : Nat) (errors : Nat) (offset : Int) {s t : State} (h : execSpdifInValid dt frames errors offset s = .next t) : t.dev.kept = s.dev.kept :=
  State.runIf_kept (fun d => by simp) h
theorem execProgRoute_kept (dt : Nat) {s t : State} (h : execProgRoute dt s = .next t) : t.dev.kept = s.dev.kept :=
  State.command_kept (fun q d => by simp) h
theorem execPortCfg_kept (dt : Nat) {s t : State} (h : execPortCfg dt s = .next t) : t.dev.kept = s.dev.kept :=
  State.command_kept (fun q d => by simp) h
theorem execPortRun_kept (dt : Nat) {s t : State} (h : execPortRun dt s = .next t) : t.dev.kept = s.dev.kept :=
  State.command_kept (fun q d => by simp) h
theorem execSpdifCfg_kept (dt : Nat) {s t : State} (h : execSpdifCfg dt s = .next t) : t.dev.kept = s.dev.kept :=
  State.command_kept (fun q d => by simp) h
theorem execProgLevel_kept (dt : Nat) {s t : State} (h : execProgLevel dt s = .next t) : t.dev.kept = s.dev.kept :=
  State.command_kept (fun q d => by simp) h
theorem execBlendCfg_kept (dt : Nat) {s t : State} (h : execBlendCfg dt s = .next t) : t.dev.kept = s.dev.kept :=
  State.command_kept (fun q d => by simp) h
theorem execAudioStatus_kept (dt : Nat) {s t : State} (h : execAudioStatus dt s = .next t) : t.dev.kept = s.dev.kept :=
  State.command_kept (fun q d => by simp) h
theorem execCalPassEnd_kept (dt : Nat) (input : Nat) (trims : List Byte) (codes : List Int) (tAvg : Int) {s t : State} (h : execCalPassEnd dt input trims codes tAvg s = .next t) : t.dev.kept = s.dev.kept :=
  State.runIf_kept (fun d => by simp) h
theorem execCalApplyDone_kept (dt input : Nat) {s t : State} (h : execCalApplyDone dt input s = .next t) : t.dev.kept = s.dev.kept :=
  State.runIf_kept (fun d => by simp) h
theorem execSyn0SearchEnd_kept (dt band cap : Nat) (tAvg : Int) {s t : State} (h : execSyn0SearchEnd dt band cap tAvg s = .next t) : t.dev.kept = s.dev.kept :=
  State.runIf_kept (fun d => by simp) h
theorem execCalTemperatureCheck_kept (dt : Nat) (tAvg : Int) {s t : State} (h : execCalTemperatureCheck dt tAvg s = .next t) : t.dev.kept = s.dev.kept :=
  State.runIf_kept (fun d => by simp) h
theorem execCalRun_kept (dt : Nat) {s t : State} (h : execCalRun dt s = .next t) : t.dev.kept = s.dev.kept :=
  State.command_kept (fun q d => by simp) h
theorem execCalRead_kept (dt : Nat) {s t : State} (h : execCalRead dt s = .next t) : t.dev.kept = s.dev.kept :=
  State.command_kept (fun q d => by simp) h
theorem execCalWrite_kept (dt : Nat) (tAvg : Int) {s t : State} (h : execCalWrite dt tAvg s = .next t) : t.dev.kept = s.dev.kept :=
  State.command_kept (fun q d => by simp) h
theorem execSynTableRead_kept (dt : Nat) {s t : State} (h : execSynTableRead dt s = .next t) : t.dev.kept = s.dev.kept :=
  State.command_kept (fun q d => by simp) h
theorem execSynTableWrite_kept (dt : Nat) (tAvg : Int) {s t : State} (h : execSynTableWrite dt tAvg s = .next t) : t.dev.kept = s.dev.kept :=
  State.command_kept (fun q d => by simp) h
theorem execFollowEvaluation_kept (dt : Nat) (prog : Nat) {s t : State} (h : execFollowEvaluation dt prog s = .next t) : t.dev.kept = s.dev.kept :=
  State.runIf_kept (fun d => by (repeat' split) <;> simp) h
theorem execFollowAlignMeasurement_kept (dt prog : Nat) {s t : State} (h : execFollowAlignMeasurement dt prog s = .next t) : t.dev.kept = s.dev.kept :=
  State.runIf_kept (fun d => by split <;> simp) h
theorem execFollowAlignTimeout_kept (dt prog : Nat) {s t : State} (h : execFollowAlignTimeout dt prog s = .next t) : t.dev.kept = s.dev.kept :=
  State.runIf_kept (fun d => by simp) h
theorem execFollowPartnerReady_kept (dt prog : Nat) {s t : State} (h : execFollowPartnerReady dt prog s = .next t) : t.dev.kept = s.dev.kept :=
  State.runIf_kept (fun d => by simp) h
theorem execFollowCfg_kept (dt : Nat) {s t : State} (h : execFollowCfg dt s = .next t) : t.dev.kept = s.dev.kept :=
  State.command_kept (fun q d => by simp) h
theorem execFollowStatus_kept (dt : Nat) {s t : State} (h : execFollowStatus dt s = .next t) : t.dev.kept = s.dev.kept :=
  State.command_kept (fun q d => by simp) h
theorem execCmbCfg_kept (dt : Nat) {s t : State} (h : execCmbCfg dt s = .next t) : t.dev.kept = s.dev.kept :=
  State.command_kept (fun q d => by simp) h
theorem execCmbStatus_kept (dt : Nat) {s t : State} (h : execCmbStatus dt s = .next t) : t.dev.kept = s.dev.kept :=
  State.command_kept (fun q d => by simp) h
theorem execWatchHopComplete_kept (dt : Nat) {s t : State} (h : execWatchHopComplete dt s = .next t) : t.dev.kept = s.dev.kept :=
  State.runIf_kept (fun d => by (repeat' split) <;> simp) h
theorem execWatchLevelMeasured_kept (dt level : Nat) (tAvg : Int) {s t : State} (h : execWatchLevelMeasured dt level tAvg s = .next t) : t.dev.kept = s.dev.kept :=
  State.runIf_kept (fun d => by simp) h
theorem execWatchNoSyncTimeout_kept (dt : Nat) (tAvg : Int) {s t : State} (h : execWatchNoSyncTimeout dt tAvg s = .next t) : t.dev.kept = s.dev.kept :=
  State.runIf_kept (fun d => by simp) h
theorem execWatchDwellEnd_kept (dt : Nat) (seen : List WatchSeen) (tAvg : Int) {s t : State} (h : execWatchDwellEnd dt seen tAvg s = .next t) : t.dev.kept = s.dev.kept :=
  State.runIf_kept (fun d => by simp) h
theorem execSyn1LockLoss_kept (dt : Nat) (tAvg : Int) {s t : State} (h : execSyn1LockLoss dt tAvg s = .next t) : t.dev.kept = s.dev.kept :=
  State.runIf_kept (fun d => by simp) h
theorem execWatchAlarmStateChange_kept (dt : Nat) (seen : List WatchSeen) {s t : State} (h : execWatchAlarmStateChange dt seen s = .next t) : t.dev.kept = s.dev.kept :=
  State.runIf_kept (fun d => by (repeat' split) <;> simp) h
theorem execWatchEntryBoundary_kept (dt : Nat) {s t : State} (h : execWatchEntryBoundary dt s = .next t) : t.dev.kept = s.dev.kept :=
  State.runIf_kept (fun d => by simp) h
theorem execWatchEntered_kept (dt : Nat) (tAvg : Int) {s t : State} (h : execWatchEntered dt tAvg s = .next t) : t.dev.kept = s.dev.kept :=
  State.runIf_kept (fun d => by simp) h
theorem execWatchExitComplete_kept (dt : Nat) {s t : State} (h : execWatchExitComplete dt s = .next t) : t.dev.kept = s.dev.kept :=
  State.runIf_kept (fun d => by simp) h
theorem execSyn1ChannelCalDone_kept (dt : Nat) (ok : Bool) (band cap : Nat) (tAvg : Int) {s t : State} (h : execSyn1ChannelCalDone dt ok band cap tAvg s = .next t) : t.dev.kept = s.dev.kept :=
  State.runIf_kept (fun d => by simp) h
theorem execWatchList_kept (dt : Nat) (tAvg : Int) {s t : State} (h : execWatchList dt tAvg s = .next t) : t.dev.kept = s.dev.kept :=
  State.command_kept (fun q d => by simp) h
theorem execWatchEnter_kept (dt : Nat) {s t : State} (h : execWatchEnter dt s = .next t) : t.dev.kept = s.dev.kept :=
  State.command_kept (fun q d => by simp) h
theorem execWatchStatus_kept (dt : Nat) {s t : State} (h : execWatchStatus dt s = .next t) : t.dev.kept = s.dev.kept :=
  State.command_kept (fun q d => by simp) h
theorem execPllFLock_kept (dt : Nat) {s t : State} (h : execPllFLock dt s = .next t) : t.dev.kept = s.dev.kept :=
  State.runIf_kept (fun d => by simp) h
theorem execClPortLinked_kept (dt : Nat) (port : Nat) (groups : Nat) {s t : State} (h : execClPortLinked dt port groups s = .next t) : t.dev.kept = s.dev.kept :=
  State.runIf_kept (fun d => by simp) h
theorem execClSyncLost_kept (dt : Nat) (port : Nat) (errors : Nat) (groups : Nat) {s t : State} (h : execClSyncLost dt port errors groups s = .next t) : t.dev.kept = s.dev.kept :=
  State.runIf_kept (fun d => by simp) h
theorem execClSignalLost_kept (dt : Nat) (port : Nat) (below : Nat) {s t : State} (h : execClSignalLost dt port below s = .next t) : t.dev.kept = s.dev.kept :=
  State.runIf_kept (fun d => by simp) h
theorem execHelloSend_kept (dt port : Nat) {s t : State} (h : execHelloSend dt port s = .next t) : t.dev.kept = s.dev.kept :=
  State.runIf_kept (fun d => by simp) h
theorem execHelloFrame_kept (dt port : Nat) (bytes : List Byte) {s t : State} (h : execHelloFrame dt port bytes s = .next t) : t.dev.kept = s.dev.kept :=
  State.runIf_kept (fun d => by simp) h
theorem execReservedFrame_kept (dt port : Nat) (x : Int) (bytes : List Byte) {s t : State} (h : execReservedFrame dt port x bytes s = .next t) : t.dev.kept = s.dev.kept :=
  State.runIf_kept (fun d => by simp) h
theorem execLeaveFrame_kept (dt port : Nat) (x : Int) (bytes : List Byte) {s t : State} (h : execLeaveFrame dt port x bytes s = .next t) : t.dev.kept = s.dev.kept :=
  State.runIf_kept (fun d => by simp) h
theorem execClPort_kept (dt : Nat) {s t : State} (h : execClPort dt s = .next t) : t.dev.kept = s.dev.kept :=
  State.command_kept (fun q d => by simp) h
theorem execClJoin_kept (dt : Nat) {s t : State} (h : execClJoin dt s = .next t) : t.dev.kept = s.dev.kept :=
  State.command_kept (fun q d => by simp) h
theorem execClLeave_kept (dt : Nat) {s t : State} (h : execClLeave dt s = .next t) : t.dev.kept = s.dev.kept :=
  State.command_kept (fun q d => by simp) h
theorem execClTopology_kept (dt : Nat) {s t : State} (h : execClTopology dt s = .next t) : t.dev.kept = s.dev.kept :=
  State.command_kept (fun q d => by simp) h
theorem execTopologyRefresh_kept (dt : Nat) {s t : State} (h : execTopologyRefresh dt s = .next t) : t.dev.kept = s.dev.kept :=
  State.runIf_kept (fun d => by simp) h
theorem execRouteTableApply_kept (dt : Nat) {s t : State} (h : execRouteTableApply dt s = .next t) : t.dev.kept = s.dev.kept :=
  State.runIf_kept (fun d => by (repeat' split) <;> simp) h
theorem execPealFrame_kept (dt port : Nat) (x : Int) (bytes : List Byte) {s t : State} (h : execPealFrame dt port x bytes s = .next t) : t.dev.kept = s.dev.kept :=
  State.runIf_kept (fun d => by simp) h
theorem execAnnouncePealSend_kept (dt : Nat) {s t : State} (h : execAnnouncePealSend dt s = .next t) : t.dev.kept = s.dev.kept :=
  State.runIf_kept (fun d => by simp) h
theorem execDiscoveryQuietEnd_kept (dt : Nat) {s t : State} (h : execDiscoveryQuietEnd dt s = .next t) : t.dev.kept = s.dev.kept :=
  State.runIf_kept (fun d => by simp) h
theorem execClStreamOpen_kept (dt : Nat) {s t : State} (h : execClStreamOpen dt s = .next t) : t.dev.kept = s.dev.kept :=
  State.command_kept (fun q d => by simp) h
theorem execClStreamOpenTimeout_kept (dt : Nat) {s t : State} (h : execClStreamOpenTimeout dt s = .next t) : t.dev.kept = s.dev.kept :=
  State.runIf_kept (fun d => by (repeat' split) <;> simp) h
theorem execStreamReleaseRepeat_kept (dt stream : Nat) {s t : State} (h : execStreamReleaseRepeat dt stream s = .next t) : t.dev.kept = s.dev.kept :=
  State.runIf_kept (fun d => by simp) h
theorem execClStreamClose_kept (dt : Nat) {s t : State} (h : execClStreamClose dt s = .next t) : t.dev.kept = s.dev.kept :=
  State.command_kept (fun q d => by simp) h
theorem execSlotGrantApply_kept (dt : Nat) {s t : State} (h : execSlotGrantApply dt s = .next t) : t.dev.kept = s.dev.kept :=
  State.runIf_kept (fun d => by simp) h
theorem execStreamFrame_kept (dt port : Nat) (x : Int) (bytes : List Byte) {s t : State} (h : execStreamFrame dt port x bytes s = .next t) : t.dev.kept = s.dev.kept :=
  State.runIf_kept (fun d => by simp) h
theorem execBundleFrame_kept (dt port : Nat) (x : Int) (bytes : List Byte) {s t : State} (h : execBundleFrame dt port x bytes s = .next t) : t.dev.kept = s.dev.kept :=
  State.runIf_kept (fun d => by simp) h
theorem execRemoteCmdFrame_kept (dt port : Nat) (x : Int) (bytes : List Byte) {s t : State} (h : execRemoteCmdFrame dt port x bytes s = .next t) : t.dev.kept = s.dev.kept :=
  State.runIf_kept (fun d => by simp) h
theorem execRemoteAckFrame_kept (dt port : Nat) (x : Int) (bytes : List Byte) {s t : State} (h : execRemoteAckFrame dt port x bytes s = .next t) : t.dev.kept = s.dev.kept :=
  State.runIf_kept (fun d => by simp) h
theorem execRemoteReplyFrame_kept (dt port : Nat) (x : Int) (bytes : List Byte) {s t : State} (h : execRemoteReplyFrame dt port x bytes s = .next t) : t.dev.kept = s.dev.kept :=
  State.runIf_kept (fun d => by simp) h
theorem execReplyAckFrame_kept (dt port : Nat) (x : Int) (bytes : List Byte) {s t : State} (h : execReplyAckFrame dt port x bytes s = .next t) : t.dev.kept = s.dev.kept :=
  State.runIf_kept (fun d => by simp) h
theorem execRemoteCmdRetryTimeout_kept (dt rseq : Nat) {s t : State} (h : execRemoteCmdRetryTimeout dt rseq s = .next t) : t.dev.kept = s.dev.kept :=
  State.runIf_kept (fun d => by
    dsimp only; split
    · rfl
    · split
      · rfl
      · split <;> simp) h
theorem execRemoteReplyRetryTimeout_kept (dt device rseq : Nat) {s t : State} (h : execRemoteReplyRetryTimeout dt device rseq s = .next t) : t.dev.kept = s.dev.kept :=
  State.runIf_kept (fun d => by
    dsimp only; split
    · rfl
    · split
      · rfl
      · split <;> simp) h
theorem execClDuplicateReport_kept (dt : Nat) {s t : State} (h : execClDuplicateReport dt s = .next t) : t.dev.kept = s.dev.kept :=
  State.runIf_kept (fun d => by simp) h
theorem execClRemote_kept (dt : Nat) {s t : State} (h : execClRemote dt s = .next t) : t.dev.kept = s.dev.kept :=
  State.command_kept (fun q d => by simp) h
theorem execFabricSlotStart_kept (dt : Nat) {s t : State} (h : execFabricSlotStart dt s = .next t) : t.dev.kept = s.dev.kept :=
  State.runIf_kept (fun d => by simp) h
theorem execTollFrame_kept (dt port : Nat) (x : Int) (bytes : List Byte) {s t : State} (h : execTollFrame dt port x bytes s = .next t) : t.dev.kept = s.dev.kept :=
  State.runIf_kept (fun d => by simp) h
theorem execClPortDriftSuspect_kept (dt port : Nat) {s t : State} (h : execClPortDriftSuspect dt port s = .next t) : t.dev.kept = s.dev.kept :=
  State.runIf_kept (fun d => by simp) h
theorem execClTollLoss_kept (dt : Nat) {s t : State} (h : execClTollLoss dt s = .next t) : t.dev.kept = s.dev.kept :=
  State.runIf_kept (fun d => by (repeat' split) <;> simp) h
theorem execClHoldoverMaxExpiry_kept (dt : Nat) {s t : State} (h : execClHoldoverMaxExpiry dt s = .next t) : t.dev.kept = s.dev.kept :=
  State.runIf_kept (fun d => by simp) h
theorem execClTime_kept (dt : Nat) {s t : State} (h : execClTime dt s = .next t) : t.dev.kept = s.dev.kept :=
  State.command_kept (fun q d => by simp) h
theorem execFuseEnChange_kept (dt : Nat) (level vppOk : Bool) {s t : State} (h : execFuseEnChange dt level vppOk s = .next t) : t.dev.kept = s.dev.kept :=
  State.run_kept (fun d => by (repeat' split) <;> simp) h
theorem execSecNonce_kept (dt : Nat) {s t : State} (h : execSecNonce dt s = .next t) : t.dev.kept = s.dev.kept :=
  State.command_kept (fun q d => by simp) h
theorem execSecFuseRead_kept (dt : Nat) {s t : State} (h : execSecFuseRead dt s = .next t) : t.dev.kept = s.dev.kept :=
  State.command_kept (fun q d => by simp) h
theorem execSecFuseProgram_kept (dt : Nat) {s t : State} (h : execSecFuseProgram dt s = .next t) : t.dev.kept = s.dev.kept :=
  State.command_kept (fun q d => by simp) h
theorem execSecDebugUnlock_kept (dt : Nat) {s t : State} (h : execSecDebugUnlock dt s = .next t) : t.dev.kept = s.dev.kept :=
  State.command_kept (fun q d => by simp) h
theorem execJtagInstruction_kept (dt : Nat) (code : JtagInstr) {s t : State} (h : execJtagInstruction dt code s = .next t) : t.dev.kept = s.dev.kept :=
  State.run_kept (fun d => by simp) h
theorem execSysPatchLoad_kept (dt : Nat) {s t : State} (h : execSysPatchLoad dt s = .next t) : t.dev.kept = s.dev.kept :=
  State.command_kept (fun q d => by simp) h
theorem execFaultCorrectedReport_kept (dt : Nat) {s t : State} (h : execFaultCorrectedReport dt s = .next t) : t.dev.kept = s.dev.kept :=
  State.runIf_kept (fun d => by simp) h
theorem execHeartbeat_kept (dt : Nat) {s t : State} (h : execHeartbeat dt s = .next t) : t.dev.kept = s.dev.kept :=
  State.runIf_kept (fun d => by simp) h
theorem execAliveToggle_kept (dt : Nat) {s t : State} (h : execAliveToggle dt s = .next t) : t.dev.kept = s.dev.kept :=
  State.runIf_kept (fun d => by simp) h
theorem execFltRead_kept (dt : Nat) {s t : State} (h : execFltRead dt s = .next t) : t.dev.kept = s.dev.kept :=
  State.command_kept (fun q d => by simp) h
theorem execFltInject_kept (dt : Nat) {s t : State} (h : execFltInject dt s = .next t) : t.dev.kept = s.dev.kept :=
  State.command_kept (fun q d => by simp) h
theorem execFltPolicy_kept (dt : Nat) {s t : State} (h : execFltPolicy dt s = .next t) : t.dev.kept = s.dev.kept :=
  State.command_kept (fun q d => by simp) h
theorem execAgcWindowEnd_kept (dt : Nat) (input : Nat) (codes : List Int) (detMain : Int) (detLb : Int) {s t : State} (h : execAgcWindowEnd dt input codes detMain detLb s = .next t) : t.dev.kept = s.dev.kept :=
  State.runIf_kept (fun d => by simp) h
theorem execNbWindowEnd_kept (dt : Nat) (ctx : Nat) {s t : State} (h : execNbWindowEnd dt ctx s = .next t) : t.dev.kept = s.dev.kept :=
  State.runIf_kept (fun d => by (repeat' split) <;> simp) h
theorem execFadeEnd_kept (dt : Nat) (prog : Nat) {s t : State} (h : execFadeEnd dt prog s = .next t) : t.dev.kept = s.dev.kept :=
  State.runIf_kept (fun d => by dsimp only; (repeat' split) <;> simp) h
theorem execRoundBoundary_kept (dt : Nat) (inp : RoundIn) {s t : State} (h : execRoundBoundary dt inp s = .next t) : t.dev.kept = s.dev.kept := by
  unfold execRoundBoundary at h
  simp only at h
  split at h
  · injection h with h; subst h; simp
  · exact State.runIf_kept (fun d => by simp) h
end Sys2Proof.Machine
end

