-- ==== Sys2Proof/Laws/Spectrum.lean ====
section
/-! SUPPORT. Spectra: when a calibration pass leaves a residue, when a carrier search finds a carrier, and that silence holds no phase
reference symbol. -/

namespace Sys2Proof.Machine
/-- A running maximum never falls. -/
theorem le_runningMax {α : Type} (q : α → Nat) (l : List α) (b : Nat × α) :
    b.1 ≤ (l.foldl (fun (b : Nat × α) k => if b.1 < q k then (q k, k) else b) b).1 := by
  induction l generalizing b with
  | nil => simp
  | cons k l ih =>
    refine Nat.le_trans ?_ (ih _)
    simp only; split <;> omega
/-- A running maximum is at least each value it went over. -/
theorem runningMax_ge {α : Type} (q : α → Nat) (l : List α) (b : Nat × α) (k : α) (h : k ∈ l) :
    q k ≤ (l.foldl (fun (b : Nat × α) k => if b.1 < q k then (q k, k) else b) b).1 := by
  induction l generalizing b with
  | nil => cases h
  | cons k' l ih =>
    cases h with
    | head => refine Nat.le_trans ?_ (le_runningMax q l _); simp only; split <;> omega
    | tail _ h => exact ih _ h
theorem residueAt_two : (2 : Nat) ∈ (List.range 524289).filter residueAt :=
  List.mem_filter.mpr ⟨List.mem_range.mpr (by omega), by decide +kernel⟩
/-- A component above -30 dBFS outside the excluded bands is enough for a residue. -/
theorem residueOf_some {codes : List Int} {k : Nat} (h0 : (codes.all fun v => v == 0) = false)
    (hk : k ∈ (List.range 524289).filter residueAt)
    (hq : (2048 * 2 ^ 19 * 2 ^ 48) ^ 2 < 1000 * (dftBin 1048576 k (codes.map fun v => { re := v })).sq) :
    ∃ l f, residueOf codes = some (l, f) := by
  have h := runningMax_ge (fun k => (dftBin 1048576 k (codes.map fun v => { re := v })).sq) _ (0, 0) k hk
  have hlt := Nat.lt_of_lt_of_le hq (Nat.mul_le_mul_left _ h)
  unfold residueOf
  rw [h0, if_neg Bool.false_ne_true]
  exact ⟨_, _, if_pos hlt⟩
theorem residueOf_silence {codes : List Int} (h0 : (codes.all fun v => v == 0) = true) : residueOf codes = none := by
  unfold residueOf
  rw [h0, if_pos rfl]
theorem cx_zero_mul (c : Cx) : Cx.mul {} c = {} := by simp [Cx.mul]
theorem cx_zero_scale (v : Int) : Cx.scale v {} = {} := by simp [Cx.scale]
/-- Σ x·r depends on r only where x is not zero. -/
theorem rotated_congr (r r' : Nat → Cx) (l : List (Nat × Cx)) (a : Cx) (h : ∀ q ∈ l, q.2 = {} ∨ r q.1 = r' q.1) :
    l.foldl (fun a q => a.add (q.2.mul (r q.1))) a = l.foldl (fun a q => a.add (q.2.mul (r' q.1))) a := by
  induction l generalizing a with
  | nil => rfl
  | cons q l ih =>
    simp only [List.foldl_cons]
    have hq : q.2.mul (r q.1) = q.2.mul (r' q.1) := by
      rcases h q (List.mem_cons_self ..) with h | h <;> rw [h]
      simp [cx_zero_mul]
    rw [hq]
    exact ih _ fun p hp => h p (List.mem_cons_of_mem _ hp)
theorem mem_indexed {α : Type} {l : List α} {q : Nat × α} : q ∈ indexed l ↔ l[q.1]? = some q.2 := by
  unfold indexed
  constructor
  · intro h
    obtain ⟨i, hi, rfl⟩ := List.mem_iff_getElem.mp h
    simp at hi ⊢
  · intro h
    obtain ⟨hl, h⟩ := List.getElem?_eq_some_iff.mp h
    refine List.mem_iff_getElem.mpr ⟨q.1, by simpa using hl, ?_⟩
    simp [h]
/-- The bins of a search that holds one sample in its middle, and no other, are of two kinds only. -/
theorem searchPower_middle {l : List Cx} (h : ∀ q ∈ indexed l, q.2 = {} ∨ q.1 = 128) (k : Nat) : searchPower l k = searchPower l (k % 2) := by
  unfold searchPower dftBin
  refine congrArg (fun z : Cx => (Cx.each (· / 2 ^ 32) z).sq) (rotated_congr (fun i => rotor48 (k * i % 256 * (2 ^ 32 / 256)))
    (fun i => rotor48 (k % 2 * i % 256 * (2 ^ 32 / 256))) _ _ ?_)
  intro q hq
  rw [mem_indexed] at hq
  simp only [List.getElem?_map, Option.map_eq_some_iff] at hq
  obtain ⟨p, hp, hq⟩ := hq
  obtain ⟨hi, hpe⟩ := List.getElem?_eq_some_iff.mp hp
  have hpi : p ∈ indexed l := hpe ▸ List.getElem_mem hi
  have h1 : p.1 = q.1 := by subst hpe; simp [indexed]
  rcases h p hpi with h0 | h0
  · left; rw [← hq, h0]; simp [Cx.scale, Cx.each]
  · right
    rw [← h1, h0]
    have : k * 128 % 256 = k % 2 * 128 % 256 := by omega
    rw [this]
theorem getD_of_all {l : List Nat} {i : Nat} {q : Nat → Prop} (hi : i < l.length) (h : ∀ v ∈ l, q v) : q (l.getD i 0) := by
  rw [List.getD_eq_getElem _ _ hi]
  exact h _ (List.getElem_mem hi)
/-- A search over a nearly flat spectrum finds no carrier. -/
theorem coarseOffset_flat {l : List Cx} {lo hi : Nat} (h : ∀ k < 256, lo ≤ searchPower l k ∧ searchPower l k ≤ hi) (hl : hi < 10 * lo) :
    coarseOffset l = none := by
  have hpw : ∀ v ∈ (List.range 256).map (searchPower l), lo ≤ v ∧ v ≤ hi := by
    intro v hv
    obtain ⟨k, hk, rfl⟩ := List.mem_map.mp hv
    exact h k (List.mem_range.mp hk)
  have hlen : ((List.range 256).map (searchPower l)).length = 256 := by rw [List.length_map, List.length_range]
  have hat : ∀ k : Int, ((List.range 256).map (searchPower l)).getD (k % 256).toNat 0 ≤ hi := fun k =>
    (getD_of_all (q := fun v => lo ≤ v ∧ v ≤ hi) (by rw [hlen]; omega) hpw).2
  have hm : ∀ b : Bool, lo ≤ (((List.range 256).map (searchPower l)).mergeSort (· ≤ ·)).getD (if b then 128 else 127) 0 := fun b =>
    getD_of_all (q := fun v => lo ≤ v) (by rw [List.length_mergeSort, hlen]; split <;> omega)
      fun v hv => (hpw v (List.mem_mergeSort.mp hv)).1
  unfold coarseOffset
  generalize (List.range 256).map (searchPower l) = pw at hat hm
  dsimp only
  rw [if_pos]
  exact Nat.lt_of_le_of_lt (hat _) (Nat.lt_of_lt_of_le hl (Nat.mul_le_mul_left 10 (hm _)))
theorem getD_zeros {n i : Nat} : (List.replicate n 0).getD i 0 = 0 := by
  by_cases h : i < n <;> simp [List.getD, h]
/-- A search over silence meets its own threshold. -/
theorem coarseOffset_silence {l : List Cx} (h : ∀ k < 256, searchPower l k = 0) : ∃ f, coarseOffset l = some f := by
  have hpw : (List.range 256).map (searchPower l) = List.replicate 256 0 := by
    rw [List.eq_replicate_iff]; simpa using h
  have hs : (List.replicate 256 0).mergeSort (· ≤ ·) = List.replicate 256 0 :=
    List.perm_replicate.mp (List.mergeSort_perm _ _)
  unfold coarseOffset
  simp only [hpw, hs, getD_zeros]
  rw [if_neg (by omega)]
  exact ⟨_, rfl⟩
theorem mem_indexed_snd {α : Type} {l : List α} {q : Nat × α} (h : q ∈ indexed l) : q.2 ∈ l := by
  rw [mem_indexed] at h
  exact List.mem_of_getElem? h
/-- The transform of silence is silence. -/
theorem ofdmBin_silence {n : Nat} {x : List Cx} (h : ∀ v ∈ x, v = {}) (k : Int) : ofdmBin n x k = {} := by
  unfold ofdmBin
  rw [rotated_congr (fun i => rotor48 (((k * i) % n).toNat * 2 ^ 32 / n)) (fun _ => {}) _ _ fun q hq => Or.inl (h _ (mem_indexed_snd hq))]
  have : ∀ (l : List (Nat × Cx)) (a : Cx), l.foldl (fun a q => a.add (q.2.mul {})) a = a := by
    intro l
    induction l with
    | nil => intro a; rfl
    | cons q l ih => intro a; rw [List.foldl_cons, ih]; simp [Cx.mul, Cx.add]
  rw [this]
  simp [Cx.each]
theorem derotated_silence {a : Nat} {l : List OfdmSample} (h : ∀ s ∈ l, s.v = {}) : ∀ v ∈ derotated [] a l, v = {} := by
  intro v hv
  obtain ⟨q, hq, rfl⟩ := List.mem_map.mp hv
  rw [h _ (mem_indexed_snd hq), cx_zero_mul]
  simp [Cx.each]
/-- Among candidates without power none is the best. -/
theorem bestShift_silence {l : List (Int × Nat)} (h : ∀ c ∈ l, c.2 = 0) : bestShift l = none := by
  have key : ∀ (l : List (Int × Nat)) (b : Option (Int × Nat)), (∀ c ∈ l, c.2 = 0) → (∀ x, b = some x → x.2 = 0) →
      ∀ x, l.foldl (fun (b : Option (Int × Nat)) c => match b with
        | some x => if x.2 < c.2 then some c else some x
        | none => some c) b = some x → x.2 = 0 := by
    intro l
    induction l with
    | nil => intro b _ hb; exact hb
    | cons c l ih =>
      intro b hl hb
      rw [List.foldl_cons]
      refine ih _ (fun c hc => hl c (List.mem_cons_of_mem _ hc)) fun x hx => ?_
      have hc := hl c (List.mem_cons_self ..)
      cases b with
      | none => cases hx; exact hc
      | some y =>
        dsimp only at hx
        split at hx <;> cases hx
        · exact hc
        · exact hb _ rfl
  unfold bestShift
  dsimp only
  split
  · rename_i k p hx
    have := key l none h (fun _ h => nomatch h) _ hx
    simp at this
    simp [this]
  · rfl
/-- No phase reference symbol is found in silence. -/
theorem prs_silence {x : DabDsp} {w : Nat} (h : ∀ s ∈ x.lead.span w dabUseful, s.v = {}) : x.prs true w = none := by
  have hb : x.lead.bins [] w = fun _ => {} := funext fun k => ofdmBin_silence (derotated_silence h) k
  have hs : ∀ l : List Cx, (∀ v ∈ l, v = {}) → Cx.sum l = {} := by
    intro l
    unfold Cx.sum
    suffices ∀ a : Cx, (∀ v ∈ l, v = {}) → l.foldl Cx.add a = a from this {}
    induction l with
    | nil => intro a _; rfl
    | cons v l ih =>
      intro a hl
      rw [List.foldl_cons, ih _ fun v hv => hl v (List.mem_cons_of_mem _ hv), hl v (List.mem_cons_self ..)]
      simp [Cx.add]
  have hc : coarseShift (fun _ => {}) = none := by
    unfold coarseShift
    refine bestShift_silence fun c hc => ?_
    obtain ⟨i, _, rfl⟩ := List.mem_map.mp hc
    dsimp only
    rw [hs]
    · decide
    · intro v hv
      obtain ⟨r, _, rfl⟩ := List.mem_map.mp hv
      rw [cx_zero_mul, cx_zero_mul]
  unfold DabDsp.prs
  rw [hb, if_pos rfl, hc]
end Sys2Proof.Machine
end

