-- ==== Sys2Proof/Laws/State.lean ====
section
/-!
SUPPORT. The small laws of State's updates: each leaves every part of the device but its own as it was, and what a lookup finds after
it. A proof about a command needs no unfolding of a record update.
-/
namespace Sys2Proof.Machine

/-! ## Tables and lists -/

theorem tabGet_tabSet_same {α : Type} (t : List (Nat × α)) (k : Nat) (v : α) : tabGet (tabSet t k v) k = some v := by
  have h : (t.filter (·.1 < k)).find? (·.1 == k) = none := by
    rw [List.find?_eq_none]; intro x hx; simp only [List.mem_filter, decide_eq_true_eq] at hx; simp; omega
  unfold tabGet tabSet
  rw [List.append_assoc, List.find?_append, h]; simp
theorem find_filter_other {α : Type} (t : List (Nat × α)) (p : Nat × α → Bool) (m : Nat) (h : ∀ v, p (m, v) = true) :
    (t.filter p).find? (·.1 == m) = t.find? (·.1 == m) := by
  induction t with
  | nil => rfl
  | cons a t ih =>
    rcases a with ⟨i, v⟩
    by_cases hi : i = m
    · subst hi; simp [h]
    · have hb : (i == m) = false := by simpa using hi
      by_cases hp : p (i, v) <;> simp [List.find?, hp, hb, ih]
theorem find_filter_none {α : Type} (t : List (Nat × α)) (p : Nat × α → Bool) (m : Nat) (h : ∀ v, p (m, v) = false) :
    (t.filter p).find? (·.1 == m) = none := by
  rw [List.find?_eq_none]
  rintro ⟨i, v⟩ hx hm
  simp only [List.mem_filter, beq_iff_eq] at hx hm
  subst hm; rw [h] at hx; exact absurd hx.2 (by simp)
theorem tabGet_tabSet_ne {α : Type} (t : List (Nat × α)) (k m : Nat) (v : α) (h : m ≠ k) : tabGet (tabSet t k v) m = tabGet t m := by
  unfold tabGet tabSet
  rw [List.append_assoc, List.find?_append, List.find?_append]
  rcases Nat.lt_or_gt_of_ne h with hm | hm
  · rw [find_filter_other t _ m (by simp [hm]), find_filter_none t (fun x => decide (k < x.1)) m (by simp; omega)]
    simp [Ne.symm h]
  · rw [find_filter_none t _ m (by simp; omega), find_filter_other t (fun x => decide (k < x.1)) m (by simp [hm])]
    simp [Ne.symm h]
theorem getD_upd_same {α : Type} (l : List α) (i : Nat) (f : α → α) (z : α) (h : i < l.length) : (upd l i f).getD i z = f (l.getD i z) := by
  simp [upd, List.getD, h]
theorem getD_upd_ne {α : Type} (l : List α) (i j : Nat) (f : α → α) (z : α) (h : j ≠ i) : (upd l i f).getD j z = l.getD j z := by
  simp [upd, List.getD, Ne.symm h]
@[simp] theorem length_upd {α : Type} (l : List α) (i : Nat) (f : α → α) : (upd l i f).length = l.length := by simp [upd]

/-! ## Lookups after an update -/

theorem Dev.inp_setInp (i : Nat) (f : InputSt → InputSt) (d : Dev) (h : i < d.rf.inputs.length) : (d.setInp i f).inp i = f (d.inp i) :=
  getD_upd_same _ _ _ _ h
theorem Dev.inp_setInp_ne (i j : Nat) (f : InputSt → InputSt) (d : Dev) (h : j ≠ i) : (d.setInp i f).inp j = d.inp j :=
  getD_upd_ne _ _ _ _ _ h
theorem Dev.sseg_setSseg (i : Nat) (f : SurveySeg → SurveySeg) (d : Dev) (h : i < d.survey.segs.length) : (d.setSseg i f).sseg i = f (d.sseg i) :=
  getD_upd_same _ _ _ _ h
theorem Dev.sseg_setSseg_ne (i j : Nat) (f : SurveySeg → SurveySeg) (d : Dev) (h : j ≠ i) : (d.setSseg i f).sseg j = d.sseg j :=
  getD_upd_ne _ _ _ _ _ h
theorem Dev.slot_setSlot (i : Nat) (f : SlotSt → SlotSt) (d : Dev) (h : i < d.chan.slots.length) : (d.setSlot i f).slot i = f (d.slot i) :=
  getD_upd_same _ _ _ _ h
theorem Dev.slot_setSlot_ne (i j : Nat) (f : SlotSt → SlotSt) (d : Dev) (h : j ≠ i) : (d.setSlot i f).slot j = d.slot j :=
  getD_upd_ne _ _ _ _ _ h
theorem Dev.prog_setProg (i : Nat) (f : ProgSt → ProgSt) (d : Dev) (h : i < d.audio.progs.length) : (d.setProg i f).prog i = f (d.prog i) :=
  getD_upd_same _ _ _ _ h
theorem Dev.prog_setProg_ne (i j : Nat) (f : ProgSt → ProgSt) (d : Dev) (h : j ≠ i) : (d.setProg i f).prog j = d.prog j :=
  getD_upd_ne _ _ _ _ _ h
theorem Dev.port_setPort (i : Nat) (f : PortSt → PortSt) (d : Dev) (h : i < d.audio.ports.length) : (d.setPort i f).port i = f (d.port i) :=
  getD_upd_same _ _ _ _ h
theorem Dev.port_setPort_ne (i j : Nat) (f : PortSt → PortSt) (d : Dev) (h : j ≠ i) : (d.setPort i f).port j = d.port j :=
  getD_upd_ne _ _ _ _ _ h
theorem Dev.clPort_setClPort (i : Nat) (f : ClPortSt → ClPortSt) (d : Dev) (h : i < d.cl.ports.length) : (d.setClPort i f).clPort i = f (d.clPort i) :=
  getD_upd_same _ _ _ _ h
theorem Dev.clPort_setClPort_ne (i j : Nat) (f : ClPortSt → ClPortSt) (d : Dev) (h : j ≠ i) : (d.setClPort i f).clPort j = d.clPort j :=
  getD_upd_ne _ _ _ _ _ h
@[simp] theorem Dev.nb_setNb (c : Nat) (f : NbSt → NbSt) (d : Dev) : (d.setNb c f).nb c = f (d.nb c) := by
  simp [Dev.nb, Dev.setNb, tabGet_tabSet_same]
theorem Dev.nb_setNb_ne (c m : Nat) (f : NbSt → NbSt) (d : Dev) (h : m ≠ c) : (d.setNb c f).nb m = d.nb m := by
  simp [Dev.nb, Dev.setNb, tabGet_tabSet_ne _ _ _ _ h]
@[simp] theorem Dev.rds_setRds (c : Nat) (f : RdsSt → RdsSt) (d : Dev) : (d.setRds c f).rds c = f (d.rds c) := by
  simp [Dev.rds, Dev.setRds, tabGet_tabSet_same]
theorem Dev.rds_setRds_ne (c m : Nat) (f : RdsSt → RdsSt) (d : Dev) (h : m ≠ c) : (d.setRds c f).rds m = d.rds m := by
  simp [Dev.rds, Dev.setRds, tabGet_tabSet_ne _ _ _ _ h]
@[simp] theorem Dev.dab_setDab (c : Nat) (f : DabSt → DabSt) (d : Dev) : (d.setDab c f).dab c = f (d.dab c) := by
  simp [Dev.dab, Dev.setDab, tabGet_tabSet_same]
theorem Dev.dab_setDab_ne (c m : Nat) (f : DabSt → DabSt) (d : Dev) (h : m ≠ c) : (d.setDab c f).dab m = d.dab m := by
  simp [Dev.dab, Dev.setDab, tabGet_tabSet_ne _ _ _ _ h]
@[simp] theorem Dev.drm_setDrm (c : Nat) (f : DrmSt → DrmSt) (d : Dev) : (d.setDrm c f).drm c = f (d.drm c) := by
  simp [Dev.drm, Dev.setDrm, tabGet_tabSet_same]
theorem Dev.drm_setDrm_ne (c m : Nat) (f : DrmSt → DrmSt) (d : Dev) (h : m ≠ c) : (d.setDrm c f).drm m = d.drm m := by
  simp [Dev.drm, Dev.setDrm, tabGet_tabSet_ne _ _ _ _ h]
@[simp] theorem Dev.dabInst_setDabInst (c : Nat) (f : DabInst → DabInst) (d : Dev) : (d.setDabInst c f).dabInst c = f (d.dabInst c) := by
  simp [Dev.dabInst, Dev.setDabInst, tabGet_tabSet_same]
theorem Dev.dabInst_setDabInst_ne (c m : Nat) (f : DabInst → DabInst) (d : Dev) (h : m ≠ c) : (d.setDabInst c f).dabInst m = d.dabInst m := by
  simp [Dev.dabInst, Dev.setDabInst, tabGet_tabSet_ne _ _ _ _ h]
@[simp] theorem Dev.dq_setDq (c : Nat) (f : DQueue → DQueue) (d : Dev) : (d.setDq c f).dq c = f (d.dq c) := by
  simp [Dev.dq, Dev.setDq, tabGet_tabSet_same]
theorem Dev.dq_setDq_ne (c m : Nat) (f : DQueue → DQueue) (d : Dev) (h : m ≠ c) : (d.setDq c f).dq m = d.dq m := by
  simp [Dev.dq, Dev.setDq, tabGet_tabSet_ne _ _ _ _ h]
@[simp] theorem Dev.ctx_setCtx (c : Nat) (f : CtxSt → CtxSt) (d : Dev) : (d.setCtx c f).ctx? c = (d.ctx? c).map f := by
  unfold Dev.setCtx
  split
  · rename_i x h; rw [h]; exact tabGet_tabSet_same _ _ _
  · rename_i h; rw [h]; rfl
theorem Dev.ctx_setCtx_ne (c m : Nat) (f : CtxSt → CtxSt) (d : Dev) (h : m ≠ c) : (d.setCtx c f).ctx? m = d.ctx? m := by
  unfold Dev.setCtx
  split
  · exact tabGet_tabSet_ne _ _ _ _ h
  · rfl
@[simp] theorem Dev.inst_setInst (c : Nat) (f : InstSt → InstSt) (d : Dev) : (d.setInst c f).inst? c = (d.inst? c).map f := by
  unfold Dev.setInst
  split
  · rename_i x h; rw [h]; exact tabGet_tabSet_same _ _ _
  · rename_i h; rw [h]; rfl
theorem Dev.inst_setInst_ne (c m : Nat) (f : InstSt → InstSt) (d : Dev) (h : m ≠ c) : (d.setInst c f).inst? m = d.inst? m := by
  unfold Dev.setInst
  split
  · exact tabGet_tabSet_ne _ _ _ _ h
  · rfl
@[simp] theorem Dev.fbe_setFbe (c : Nat) (f : FbEntry → FbEntry) (d : Dev) : (d.setFbe c f).fbe c = (d.fbe c).map f := by
  unfold Dev.setFbe
  split
  · rename_i x h; rw [h]; exact tabGet_tabSet_same _ _ _
  · rename_i h; rw [h]; rfl
theorem Dev.fbe_setFbe_ne (c m : Nat) (f : FbEntry → FbEntry) (d : Dev) (h : m ≠ c) : (d.setFbe c f).fbe m = d.fbe m := by
  unfold Dev.setFbe
  split
  · exact tabGet_tabSet_ne _ _ _ _ h
  · rfl
@[simp] theorem Dev.bind_setBind (c : Nat) (f : BindSt → BindSt) (d : Dev) : (d.setBind c f).bind? c = (d.bind? c).map f := by
  unfold Dev.setBind
  split
  · rename_i x h; rw [h]; exact tabGet_tabSet_same _ _ _
  · rename_i h; rw [h]; rfl
theorem Dev.bind_setBind_ne (c m : Nat) (f : BindSt → BindSt) (d : Dev) (h : m ≠ c) : (d.setBind c f).bind? m = d.bind? m := by
  unfold Dev.setBind
  split
  · exact tabGet_tabSet_ne _ _ _ _ h
  · rfl

/-! ## What each update leaves -/

@[simp] theorem Dev.tick_pwr (dt : Nat) (d : Dev) : (d.tick dt).pwr = d.pwr := rfl
@[simp] theorem Dev.tick_clk (dt : Nat) (d : Dev) : (d.tick dt).clk = d.clk := rfl
@[simp] theorem Dev.tick_regs (dt : Nat) (d : Dev) : (d.tick dt).regs = d.regs := rfl
@[simp] theorem Dev.tick_tw (dt : Nat) (d : Dev) : (d.tick dt).tw = d.tw := rfl
@[simp] theorem Dev.tick_twc (dt : Nat) (d : Dev) : (d.tick dt).twc = d.twc := rfl
@[simp] theorem Dev.tick_proto (dt : Nat) (d : Dev) : (d.tick dt).proto = d.proto := rfl
@[simp] theorem Dev.tick_sec (dt : Nat) (d : Dev) : (d.tick dt).sec = d.sec := rfl
@[simp] theorem Dev.tick_rf (dt : Nat) (d : Dev) : (d.tick dt).rf = d.rf := rfl
@[simp] theorem Dev.tick_cal (dt : Nat) (d : Dev) : (d.tick dt).cal = d.cal := rfl
@[simp] theorem Dev.tick_survey (dt : Nat) (d : Dev) : (d.tick dt).survey = d.survey := rfl
@[simp] theorem Dev.tick_chan (dt : Nat) (d : Dev) : (d.tick dt).chan = d.chan := rfl
@[simp] theorem Dev.tick_trav (dt : Nat) (d : Dev) : (d.tick dt).trav = d.trav := rfl
@[simp] theorem Dev.tick_dem (dt : Nat) (d : Dev) : (d.tick dt).dem = d.dem := rfl
@[simp] theorem Dev.tick_comb (dt : Nat) (d : Dev) : (d.tick dt).comb = d.comb := rfl
@[simp] theorem Dev.tick_fb (dt : Nat) (d : Dev) : (d.tick dt).fb = d.fb := rfl
@[simp] theorem Dev.tick_follow (dt : Nat) (d : Dev) : (d.tick dt).follow = d.follow := rfl
@[simp] theorem Dev.tick_audio (dt : Nat) (d : Dev) : (d.tick dt).audio = d.audio := rfl
@[simp] theorem Dev.tick_data (dt : Nat) (d : Dev) : (d.tick dt).data = d.data := rfl
@[simp] theorem Dev.tick_watch (dt : Nat) (d : Dev) : (d.tick dt).watch = d.watch := rfl
@[simp] theorem Dev.tick_cl (dt : Nat) (d : Dev) : (d.tick dt).cl = d.cl := rfl
@[simp] theorem Dev.tick_toc (dt : Nat) (d : Dev) : (d.tick dt).toc = d.toc := rfl
@[simp] theorem Dev.tick_draws (dt : Nat) (d : Dev) : (d.tick dt).draws = d.draws := rfl
@[simp] theorem Dev.setStatus_now (n : Nat) (d : Dev) : (d.setStatus n).now = d.now := rfl
@[simp] theorem Dev.setStatus_pwr (n : Nat) (d : Dev) : (d.setStatus n).pwr = d.pwr := rfl
@[simp] theorem Dev.setStatus_clk (n : Nat) (d : Dev) : (d.setStatus n).clk = d.clk := rfl
@[simp] theorem Dev.setStatus_tw (n : Nat) (d : Dev) : (d.setStatus n).tw = d.tw := rfl
@[simp] theorem Dev.setStatus_twc (n : Nat) (d : Dev) : (d.setStatus n).twc = d.twc := rfl
@[simp] theorem Dev.setStatus_proto (n : Nat) (d : Dev) : (d.setStatus n).proto = d.proto := rfl
@[simp] theorem Dev.setStatus_sec (n : Nat) (d : Dev) : (d.setStatus n).sec = d.sec := rfl
@[simp] theorem Dev.setStatus_rf (n : Nat) (d : Dev) : (d.setStatus n).rf = d.rf := rfl
@[simp] theorem Dev.setStatus_cal (n : Nat) (d : Dev) : (d.setStatus n).cal = d.cal := rfl
@[simp] theorem Dev.setStatus_survey (n : Nat) (d : Dev) : (d.setStatus n).survey = d.survey := rfl
@[simp] theorem Dev.setStatus_chan (n : Nat) (d : Dev) : (d.setStatus n).chan = d.chan := rfl
@[simp] theorem Dev.setStatus_trav (n : Nat) (d : Dev) : (d.setStatus n).trav = d.trav := rfl
@[simp] theorem Dev.setStatus_dem (n : Nat) (d : Dev) : (d.setStatus n).dem = d.dem := rfl
@[simp] theorem Dev.setStatus_comb (n : Nat) (d : Dev) : (d.setStatus n).comb = d.comb := rfl
@[simp] theorem Dev.setStatus_fb (n : Nat) (d : Dev) : (d.setStatus n).fb = d.fb := rfl
@[simp] theorem Dev.setStatus_follow (n : Nat) (d : Dev) : (d.setStatus n).follow = d.follow := rfl
@[simp] theorem Dev.setStatus_audio (n : Nat) (d : Dev) : (d.setStatus n).audio = d.audio := rfl
@[simp] theorem Dev.setStatus_data (n : Nat) (d : Dev) : (d.setStatus n).data = d.data := rfl
@[simp] theorem Dev.setStatus_watch (n : Nat) (d : Dev) : (d.setStatus n).watch = d.watch := rfl
@[simp] theorem Dev.setStatus_cl (n : Nat) (d : Dev) : (d.setStatus n).cl = d.cl := rfl
@[simp] theorem Dev.setStatus_toc (n : Nat) (d : Dev) : (d.setStatus n).toc = d.toc := rfl
@[simp] theorem Dev.setStatus_draws (n : Nat) (d : Dev) : (d.setStatus n).draws = d.draws := rfl
@[simp] theorem Dev.setInp_now (i : Nat) (f : InputSt → InputSt) (d : Dev) : (d.setInp i f).now = d.now := rfl
@[simp] theorem Dev.setInp_pwr (i : Nat) (f : InputSt → InputSt) (d : Dev) : (d.setInp i f).pwr = d.pwr := rfl
@[simp] theorem Dev.setInp_clk (i : Nat) (f : InputSt → InputSt) (d : Dev) : (d.setInp i f).clk = d.clk := rfl
@[simp] theorem Dev.setInp_regs (i : Nat) (f : InputSt → InputSt) (d : Dev) : (d.setInp i f).regs = d.regs := rfl
@[simp] theorem Dev.setInp_tw (i : Nat) (f : InputSt → InputSt) (d : Dev) : (d.setInp i f).tw = d.tw := rfl
@[simp] theorem Dev.setInp_twc (i : Nat) (f : InputSt → InputSt) (d : Dev) : (d.setInp i f).twc = d.twc := rfl
@[simp] theorem Dev.setInp_proto (i : Nat) (f : InputSt → InputSt) (d : Dev) : (d.setInp i f).proto = d.proto := rfl
@[simp] theorem Dev.setInp_sec (i : Nat) (f : InputSt → InputSt) (d : Dev) : (d.setInp i f).sec = d.sec := rfl
@[simp] theorem Dev.setInp_cal (i : Nat) (f : InputSt → InputSt) (d : Dev) : (d.setInp i f).cal = d.cal := rfl
@[simp] theorem Dev.setInp_survey (i : Nat) (f : InputSt → InputSt) (d : Dev) : (d.setInp i f).survey = d.survey := rfl
@[simp] theorem Dev.setInp_chan (i : Nat) (f : InputSt → InputSt) (d : Dev) : (d.setInp i f).chan = d.chan := rfl
@[simp] theorem Dev.setInp_trav (i : Nat) (f : InputSt → InputSt) (d : Dev) : (d.setInp i f).trav = d.trav := rfl
@[simp] theorem Dev.setInp_dem (i : Nat) (f : InputSt → InputSt) (d : Dev) : (d.setInp i f).dem = d.dem := rfl
@[simp] theorem Dev.setInp_comb (i : Nat) (f : InputSt → InputSt) (d : Dev) : (d.setInp i f).comb = d.comb := rfl
@[simp] theorem Dev.setInp_fb (i : Nat) (f : InputSt → InputSt) (d : Dev) : (d.setInp i f).fb = d.fb := rfl
@[simp] theorem Dev.setInp_follow (i : Nat) (f : InputSt → InputSt) (d : Dev) : (d.setInp i f).follow = d.follow := rfl
@[simp] theorem Dev.setInp_audio (i : Nat) (f : InputSt → InputSt) (d : Dev) : (d.setInp i f).audio = d.audio := rfl
@[simp] theorem Dev.setInp_data (i : Nat) (f : InputSt → InputSt) (d : Dev) : (d.setInp i f).data = d.data := rfl
@[simp] theorem Dev.setInp_watch (i : Nat) (f : InputSt → InputSt) (d : Dev) : (d.setInp i f).watch = d.watch := rfl
@[simp] theorem Dev.setInp_cl (i : Nat) (f : InputSt → InputSt) (d : Dev) : (d.setInp i f).cl = d.cl := rfl
@[simp] theorem Dev.setInp_toc (i : Nat) (f : InputSt → InputSt) (d : Dev) : (d.setInp i f).toc = d.toc := rfl
@[simp] theorem Dev.setInp_draws (i : Nat) (f : InputSt → InputSt) (d : Dev) : (d.setInp i f).draws = d.draws := rfl
@[simp] theorem Dev.setRun_now (i : Nat) (f : CalRun → CalRun) (d : Dev) : (d.setRun i f).now = d.now := rfl
@[simp] theorem Dev.setRun_pwr (i : Nat) (f : CalRun → CalRun) (d : Dev) : (d.setRun i f).pwr = d.pwr := rfl
@[simp] theorem Dev.setRun_clk (i : Nat) (f : CalRun → CalRun) (d : Dev) : (d.setRun i f).clk = d.clk := rfl
@[simp] theorem Dev.setRun_regs (i : Nat) (f : CalRun → CalRun) (d : Dev) : (d.setRun i f).regs = d.regs := rfl
@[simp] theorem Dev.setRun_tw (i : Nat) (f : CalRun → CalRun) (d : Dev) : (d.setRun i f).tw = d.tw := rfl
@[simp] theorem Dev.setRun_twc (i : Nat) (f : CalRun → CalRun) (d : Dev) : (d.setRun i f).twc = d.twc := rfl
@[simp] theorem Dev.setRun_proto (i : Nat) (f : CalRun → CalRun) (d : Dev) : (d.setRun i f).proto = d.proto := rfl
@[simp] theorem Dev.setRun_sec (i : Nat) (f : CalRun → CalRun) (d : Dev) : (d.setRun i f).sec = d.sec := rfl
@[simp] theorem Dev.setRun_rf (i : Nat) (f : CalRun → CalRun) (d : Dev) : (d.setRun i f).rf = d.rf := rfl
@[simp] theorem Dev.setRun_survey (i : Nat) (f : CalRun → CalRun) (d : Dev) : (d.setRun i f).survey = d.survey := rfl
@[simp] theorem Dev.setRun_chan (i : Nat) (f : CalRun → CalRun) (d : Dev) : (d.setRun i f).chan = d.chan := rfl
@[simp] theorem Dev.setRun_trav (i : Nat) (f : CalRun → CalRun) (d : Dev) : (d.setRun i f).trav = d.trav := rfl
@[simp] theorem Dev.setRun_dem (i : Nat) (f : CalRun → CalRun) (d : Dev) : (d.setRun i f).dem = d.dem := rfl
@[simp] theorem Dev.setRun_comb (i : Nat) (f : CalRun → CalRun) (d : Dev) : (d.setRun i f).comb = d.comb := rfl
@[simp] theorem Dev.setRun_fb (i : Nat) (f : CalRun → CalRun) (d : Dev) : (d.setRun i f).fb = d.fb := rfl
@[simp] theorem Dev.setRun_follow (i : Nat) (f : CalRun → CalRun) (d : Dev) : (d.setRun i f).follow = d.follow := rfl
@[simp] theorem Dev.setRun_audio (i : Nat) (f : CalRun → CalRun) (d : Dev) : (d.setRun i f).audio = d.audio := rfl
@[simp] theorem Dev.setRun_data (i : Nat) (f : CalRun → CalRun) (d : Dev) : (d.setRun i f).data = d.data := rfl
@[simp] theorem Dev.setRun_watch (i : Nat) (f : CalRun → CalRun) (d : Dev) : (d.setRun i f).watch = d.watch := rfl
@[simp] theorem Dev.setRun_cl (i : Nat) (f : CalRun → CalRun) (d : Dev) : (d.setRun i f).cl = d.cl := rfl
@[simp] theorem Dev.setRun_toc (i : Nat) (f : CalRun → CalRun) (d : Dev) : (d.setRun i f).toc = d.toc := rfl
@[simp] theorem Dev.setRun_draws (i : Nat) (f : CalRun → CalRun) (d : Dev) : (d.setRun i f).draws = d.draws := rfl
@[simp] theorem Dev.setSseg_now (n : Nat) (f : SurveySeg → SurveySeg) (d : Dev) : (d.setSseg n f).now = d.now := rfl
@[simp] theorem Dev.setSseg_pwr (n : Nat) (f : SurveySeg → SurveySeg) (d : Dev) : (d.setSseg n f).pwr = d.pwr := rfl
@[simp] theorem Dev.setSseg_clk (n : Nat) (f : SurveySeg → SurveySeg) (d : Dev) : (d.setSseg n f).clk = d.clk := rfl
@[simp] theorem Dev.setSseg_regs (n : Nat) (f : SurveySeg → SurveySeg) (d : Dev) : (d.setSseg n f).regs = d.regs := rfl
@[simp] theorem Dev.setSseg_tw (n : Nat) (f : SurveySeg → SurveySeg) (d : Dev) : (d.setSseg n f).tw = d.tw := rfl
@[simp] theorem Dev.setSseg_twc (n : Nat) (f : SurveySeg → SurveySeg) (d : Dev) : (d.setSseg n f).twc = d.twc := rfl
@[simp] theorem Dev.setSseg_proto (n : Nat) (f : SurveySeg → SurveySeg) (d : Dev) : (d.setSseg n f).proto = d.proto := rfl
@[simp] theorem Dev.setSseg_sec (n : Nat) (f : SurveySeg → SurveySeg) (d : Dev) : (d.setSseg n f).sec = d.sec := rfl
@[simp] theorem Dev.setSseg_rf (n : Nat) (f : SurveySeg → SurveySeg) (d : Dev) : (d.setSseg n f).rf = d.rf := rfl
@[simp] theorem Dev.setSseg_cal (n : Nat) (f : SurveySeg → SurveySeg) (d : Dev) : (d.setSseg n f).cal = d.cal := rfl
@[simp] theorem Dev.setSseg_chan (n : Nat) (f : SurveySeg → SurveySeg) (d : Dev) : (d.setSseg n f).chan = d.chan := rfl
@[simp] theorem Dev.setSseg_trav (n : Nat) (f : SurveySeg → SurveySeg) (d : Dev) : (d.setSseg n f).trav = d.trav := rfl
@[simp] theorem Dev.setSseg_dem (n : Nat) (f : SurveySeg → SurveySeg) (d : Dev) : (d.setSseg n f).dem = d.dem := rfl
@[simp] theorem Dev.setSseg_comb (n : Nat) (f : SurveySeg → SurveySeg) (d : Dev) : (d.setSseg n f).comb = d.comb := rfl
@[simp] theorem Dev.setSseg_fb (n : Nat) (f : SurveySeg → SurveySeg) (d : Dev) : (d.setSseg n f).fb = d.fb := rfl
@[simp] theorem Dev.setSseg_follow (n : Nat) (f : SurveySeg → SurveySeg) (d : Dev) : (d.setSseg n f).follow = d.follow := rfl
@[simp] theorem Dev.setSseg_audio (n : Nat) (f : SurveySeg → SurveySeg) (d : Dev) : (d.setSseg n f).audio = d.audio := rfl
@[simp] theorem Dev.setSseg_data (n : Nat) (f : SurveySeg → SurveySeg) (d : Dev) : (d.setSseg n f).data = d.data := rfl
@[simp] theorem Dev.setSseg_watch (n : Nat) (f : SurveySeg → SurveySeg) (d : Dev) : (d.setSseg n f).watch = d.watch := rfl
@[simp] theorem Dev.setSseg_cl (n : Nat) (f : SurveySeg → SurveySeg) (d : Dev) : (d.setSseg n f).cl = d.cl := rfl
@[simp] theorem Dev.setSseg_toc (n : Nat) (f : SurveySeg → SurveySeg) (d : Dev) : (d.setSseg n f).toc = d.toc := rfl
@[simp] theorem Dev.setSseg_draws (n : Nat) (f : SurveySeg → SurveySeg) (d : Dev) : (d.setSseg n f).draws = d.draws := rfl
@[simp] theorem Dev.setSlot_now (n : Nat) (f : SlotSt → SlotSt) (d : Dev) : (d.setSlot n f).now = d.now := rfl
@[simp] theorem Dev.setSlot_pwr (n : Nat) (f : SlotSt → SlotSt) (d : Dev) : (d.setSlot n f).pwr = d.pwr := rfl
@[simp] theorem Dev.setSlot_clk (n : Nat) (f : SlotSt → SlotSt) (d : Dev) : (d.setSlot n f).clk = d.clk := rfl
@[simp] theorem Dev.setSlot_regs (n : Nat) (f : SlotSt → SlotSt) (d : Dev) : (d.setSlot n f).regs = d.regs := rfl
@[simp] theorem Dev.setSlot_tw (n : Nat) (f : SlotSt → SlotSt) (d : Dev) : (d.setSlot n f).tw = d.tw := rfl
@[simp] theorem Dev.setSlot_twc (n : Nat) (f : SlotSt → SlotSt) (d : Dev) : (d.setSlot n f).twc = d.twc := rfl
@[simp] theorem Dev.setSlot_proto (n : Nat) (f : SlotSt → SlotSt) (d : Dev) : (d.setSlot n f).proto = d.proto := rfl
@[simp] theorem Dev.setSlot_sec (n : Nat) (f : SlotSt → SlotSt) (d : Dev) : (d.setSlot n f).sec = d.sec := rfl
@[simp] theorem Dev.setSlot_rf (n : Nat) (f : SlotSt → SlotSt) (d : Dev) : (d.setSlot n f).rf = d.rf := rfl
@[simp] theorem Dev.setSlot_cal (n : Nat) (f : SlotSt → SlotSt) (d : Dev) : (d.setSlot n f).cal = d.cal := rfl
@[simp] theorem Dev.setSlot_survey (n : Nat) (f : SlotSt → SlotSt) (d : Dev) : (d.setSlot n f).survey = d.survey := rfl
@[simp] theorem Dev.setSlot_trav (n : Nat) (f : SlotSt → SlotSt) (d : Dev) : (d.setSlot n f).trav = d.trav := rfl
@[simp] theorem Dev.setSlot_dem (n : Nat) (f : SlotSt → SlotSt) (d : Dev) : (d.setSlot n f).dem = d.dem := rfl
@[simp] theorem Dev.setSlot_comb (n : Nat) (f : SlotSt → SlotSt) (d : Dev) : (d.setSlot n f).comb = d.comb := rfl
@[simp] theorem Dev.setSlot_fb (n : Nat) (f : SlotSt → SlotSt) (d : Dev) : (d.setSlot n f).fb = d.fb := rfl
@[simp] theorem Dev.setSlot_follow (n : Nat) (f : SlotSt → SlotSt) (d : Dev) : (d.setSlot n f).follow = d.follow := rfl
@[simp] theorem Dev.setSlot_audio (n : Nat) (f : SlotSt → SlotSt) (d : Dev) : (d.setSlot n f).audio = d.audio := rfl
@[simp] theorem Dev.setSlot_data (n : Nat) (f : SlotSt → SlotSt) (d : Dev) : (d.setSlot n f).data = d.data := rfl
@[simp] theorem Dev.setSlot_watch (n : Nat) (f : SlotSt → SlotSt) (d : Dev) : (d.setSlot n f).watch = d.watch := rfl
@[simp] theorem Dev.setSlot_cl (n : Nat) (f : SlotSt → SlotSt) (d : Dev) : (d.setSlot n f).cl = d.cl := rfl
@[simp] theorem Dev.setSlot_toc (n : Nat) (f : SlotSt → SlotSt) (d : Dev) : (d.setSlot n f).toc = d.toc := rfl
@[simp] theorem Dev.setSlot_draws (n : Nat) (f : SlotSt → SlotSt) (d : Dev) : (d.setSlot n f).draws = d.draws := rfl
@[simp] theorem Dev.setCtx_now (c : Nat) (f : CtxSt → CtxSt) (d : Dev) : (d.setCtx c f).now = d.now := by unfold Dev.setCtx; split <;> rfl
@[simp] theorem Dev.setCtx_pwr (c : Nat) (f : CtxSt → CtxSt) (d : Dev) : (d.setCtx c f).pwr = d.pwr := by unfold Dev.setCtx; split <;> rfl
@[simp] theorem Dev.setCtx_clk (c : Nat) (f : CtxSt → CtxSt) (d : Dev) : (d.setCtx c f).clk = d.clk := by unfold Dev.setCtx; split <;> rfl
@[simp] theorem Dev.setCtx_regs (c : Nat) (f : CtxSt → CtxSt) (d : Dev) : (d.setCtx c f).regs = d.regs := by unfold Dev.setCtx; split <;> rfl
@[simp] theorem Dev.setCtx_tw (c : Nat) (f : CtxSt → CtxSt) (d : Dev) : (d.setCtx c f).tw = d.tw := by unfold Dev.setCtx; split <;> rfl
@[simp] theorem Dev.setCtx_twc (c : Nat) (f : CtxSt → CtxSt) (d : Dev) : (d.setCtx c f).twc = d.twc := by unfold Dev.setCtx; split <;> rfl
@[simp] theorem Dev.setCtx_proto (c : Nat) (f : CtxSt → CtxSt) (d : Dev) : (d.setCtx c f).proto = d.proto := by unfold Dev.setCtx; split <;> rfl
@[simp] theorem Dev.setCtx_sec (c : Nat) (f : CtxSt → CtxSt) (d : Dev) : (d.setCtx c f).sec = d.sec := by unfold Dev.setCtx; split <;> rfl
@[simp] theorem Dev.setCtx_rf (c : Nat) (f : CtxSt → CtxSt) (d : Dev) : (d.setCtx c f).rf = d.rf := by unfold Dev.setCtx; split <;> rfl
@[simp] theorem Dev.setCtx_cal (c : Nat) (f : CtxSt → CtxSt) (d : Dev) : (d.setCtx c f).cal = d.cal := by unfold Dev.setCtx; split <;> rfl
@[simp] theorem Dev.setCtx_survey (c : Nat) (f : CtxSt → CtxSt) (d : Dev) : (d.setCtx c f).survey = d.survey := by unfold Dev.setCtx; split <;> rfl
@[simp] theorem Dev.setCtx_chan (c : Nat) (f : CtxSt → CtxSt) (d : Dev) : (d.setCtx c f).chan = d.chan := by unfold Dev.setCtx; split <;> rfl
@[simp] theorem Dev.setCtx_dem (c : Nat) (f : CtxSt → CtxSt) (d : Dev) : (d.setCtx c f).dem = d.dem := by unfold Dev.setCtx; split <;> rfl
@[simp] theorem Dev.setCtx_comb (c : Nat) (f : CtxSt → CtxSt) (d : Dev) : (d.setCtx c f).comb = d.comb := by unfold Dev.setCtx; split <;> rfl
@[simp] theorem Dev.setCtx_fb (c : Nat) (f : CtxSt → CtxSt) (d : Dev) : (d.setCtx c f).fb = d.fb := by unfold Dev.setCtx; split <;> rfl
@[simp] theorem Dev.setCtx_follow (c : Nat) (f : CtxSt → CtxSt) (d : Dev) : (d.setCtx c f).follow = d.follow := by unfold Dev.setCtx; split <;> rfl
@[simp] theorem Dev.setCtx_audio (c : Nat) (f : CtxSt → CtxSt) (d : Dev) : (d.setCtx c f).audio = d.audio := by unfold Dev.setCtx; split <;> rfl
@[simp] theorem Dev.setCtx_data (c : Nat) (f : CtxSt → CtxSt) (d : Dev) : (d.setCtx c f).data = d.data := by unfold Dev.setCtx; split <;> rfl
@[simp] theorem Dev.setCtx_watch (c : Nat) (f : CtxSt → CtxSt) (d : Dev) : (d.setCtx c f).watch = d.watch := by unfold Dev.setCtx; split <;> rfl
@[simp] theorem Dev.setCtx_cl (c : Nat) (f : CtxSt → CtxSt) (d : Dev) : (d.setCtx c f).cl = d.cl := by unfold Dev.setCtx; split <;> rfl
@[simp] theorem Dev.setCtx_toc (c : Nat) (f : CtxSt → CtxSt) (d : Dev) : (d.setCtx c f).toc = d.toc := by unfold Dev.setCtx; split <;> rfl
@[simp] theorem Dev.setCtx_draws (c : Nat) (f : CtxSt → CtxSt) (d : Dev) : (d.setCtx c f).draws = d.draws := by unfold Dev.setCtx; split <;> rfl
@[simp] theorem Dev.setInst_now (n : Nat) (f : InstSt → InstSt) (d : Dev) : (d.setInst n f).now = d.now := by unfold Dev.setInst; split <;> rfl
@[simp] theorem Dev.setInst_pwr (n : Nat) (f : InstSt → InstSt) (d : Dev) : (d.setInst n f).pwr = d.pwr := by unfold Dev.setInst; split <;> rfl
@[simp] theorem Dev.setInst_clk (n : Nat) (f : InstSt → InstSt) (d : Dev) : (d.setInst n f).clk = d.clk := by unfold Dev.setInst; split <;> rfl
@[simp] theorem Dev.setInst_regs (n : Nat) (f : InstSt → InstSt) (d : Dev) : (d.setInst n f).regs = d.regs := by unfold Dev.setInst; split <;> rfl
@[simp] theorem Dev.setInst_tw (n : Nat) (f : InstSt → InstSt) (d : Dev) : (d.setInst n f).tw = d.tw := by unfold Dev.setInst; split <;> rfl
@[simp] theorem Dev.setInst_twc (n : Nat) (f : InstSt → InstSt) (d : Dev) : (d.setInst n f).twc = d.twc := by unfold Dev.setInst; split <;> rfl
@[simp] theorem Dev.setInst_proto (n : Nat) (f : InstSt → InstSt) (d : Dev) : (d.setInst n f).proto = d.proto := by unfold Dev.setInst; split <;> rfl
@[simp] theorem Dev.setInst_sec (n : Nat) (f : InstSt → InstSt) (d : Dev) : (d.setInst n f).sec = d.sec := by unfold Dev.setInst; split <;> rfl
@[simp] theorem Dev.setInst_rf (n : Nat) (f : InstSt → InstSt) (d : Dev) : (d.setInst n f).rf = d.rf := by unfold Dev.setInst; split <;> rfl
@[simp] theorem Dev.setInst_cal (n : Nat) (f : InstSt → InstSt) (d : Dev) : (d.setInst n f).cal = d.cal := by unfold Dev.setInst; split <;> rfl
@[simp] theorem Dev.setInst_survey (n : Nat) (f : InstSt → InstSt) (d : Dev) : (d.setInst n f).survey = d.survey := by unfold Dev.setInst; split <;> rfl
@[simp] theorem Dev.setInst_chan (n : Nat) (f : InstSt → InstSt) (d : Dev) : (d.setInst n f).chan = d.chan := by unfold Dev.setInst; split <;> rfl
@[simp] theorem Dev.setInst_dem (n : Nat) (f : InstSt → InstSt) (d : Dev) : (d.setInst n f).dem = d.dem := by unfold Dev.setInst; split <;> rfl
@[simp] theorem Dev.setInst_comb (n : Nat) (f : InstSt → InstSt) (d : Dev) : (d.setInst n f).comb = d.comb := by unfold Dev.setInst; split <;> rfl
@[simp] theorem Dev.setInst_fb (n : Nat) (f : InstSt → InstSt) (d : Dev) : (d.setInst n f).fb = d.fb := by unfold Dev.setInst; split <;> rfl
@[simp] theorem Dev.setInst_follow (n : Nat) (f : InstSt → InstSt) (d : Dev) : (d.setInst n f).follow = d.follow := by unfold Dev.setInst; split <;> rfl
@[simp] theorem Dev.setInst_audio (n : Nat) (f : InstSt → InstSt) (d : Dev) : (d.setInst n f).audio = d.audio := by unfold Dev.setInst; split <;> rfl
@[simp] theorem Dev.setInst_data (n : Nat) (f : InstSt → InstSt) (d : Dev) : (d.setInst n f).data = d.data := by unfold Dev.setInst; split <;> rfl
@[simp] theorem Dev.setInst_watch (n : Nat) (f : InstSt → InstSt) (d : Dev) : (d.setInst n f).watch = d.watch := by unfold Dev.setInst; split <;> rfl
@[simp] theorem Dev.setInst_cl (n : Nat) (f : InstSt → InstSt) (d : Dev) : (d.setInst n f).cl = d.cl := by unfold Dev.setInst; split <;> rfl
@[simp] theorem Dev.setInst_toc (n : Nat) (f : InstSt → InstSt) (d : Dev) : (d.setInst n f).toc = d.toc := by unfold Dev.setInst; split <;> rfl
@[simp] theorem Dev.setInst_draws (n : Nat) (f : InstSt → InstSt) (d : Dev) : (d.setInst n f).draws = d.draws := by unfold Dev.setInst; split <;> rfl
@[simp] theorem Dev.setNb_now (c : Nat) (f : NbSt → NbSt) (d : Dev) : (d.setNb c f).now = d.now := rfl
@[simp] theorem Dev.setNb_pwr (c : Nat) (f : NbSt → NbSt) (d : Dev) : (d.setNb c f).pwr = d.pwr := rfl
@[simp] theorem Dev.setNb_clk (c : Nat) (f : NbSt → NbSt) (d : Dev) : (d.setNb c f).clk = d.clk := rfl
@[simp] theorem Dev.setNb_regs (c : Nat) (f : NbSt → NbSt) (d : Dev) : (d.setNb c f).regs = d.regs := rfl
@[simp] theorem Dev.setNb_tw (c : Nat) (f : NbSt → NbSt) (d : Dev) : (d.setNb c f).tw = d.tw := rfl
@[simp] theorem Dev.setNb_twc (c : Nat) (f : NbSt → NbSt) (d : Dev) : (d.setNb c f).twc = d.twc := rfl
@[simp] theorem Dev.setNb_proto (c : Nat) (f : NbSt → NbSt) (d : Dev) : (d.setNb c f).proto = d.proto := rfl
@[simp] theorem Dev.setNb_sec (c : Nat) (f : NbSt → NbSt) (d : Dev) : (d.setNb c f).sec = d.sec := rfl
@[simp] theorem Dev.setNb_rf (c : Nat) (f : NbSt → NbSt) (d : Dev) : (d.setNb c f).rf = d.rf := rfl
@[simp] theorem Dev.setNb_cal (c : Nat) (f : NbSt → NbSt) (d : Dev) : (d.setNb c f).cal = d.cal := rfl
@[simp] theorem Dev.setNb_survey (c : Nat) (f : NbSt → NbSt) (d : Dev) : (d.setNb c f).survey = d.survey := rfl
@[simp] theorem Dev.setNb_chan (c : Nat) (f : NbSt → NbSt) (d : Dev) : (d.setNb c f).chan = d.chan := rfl
@[simp] theorem Dev.setNb_trav (c : Nat) (f : NbSt → NbSt) (d : Dev) : (d.setNb c f).trav = d.trav := rfl
@[simp] theorem Dev.setNb_comb (c : Nat) (f : NbSt → NbSt) (d : Dev) : (d.setNb c f).comb = d.comb := rfl
@[simp] theorem Dev.setNb_fb (c : Nat) (f : NbSt → NbSt) (d : Dev) : (d.setNb c f).fb = d.fb := rfl
@[simp] theorem Dev.setNb_follow (c : Nat) (f : NbSt → NbSt) (d : Dev) : (d.setNb c f).follow = d.follow := rfl
@[simp] theorem Dev.setNb_audio (c : Nat) (f : NbSt → NbSt) (d : Dev) : (d.setNb c f).audio = d.audio := rfl
@[simp] theorem Dev.setNb_data (c : Nat) (f : NbSt → NbSt) (d : Dev) : (d.setNb c f).data = d.data := rfl
@[simp] theorem Dev.setNb_watch (c : Nat) (f : NbSt → NbSt) (d : Dev) : (d.setNb c f).watch = d.watch := rfl
@[simp] theorem Dev.setNb_cl (c : Nat) (f : NbSt → NbSt) (d : Dev) : (d.setNb c f).cl = d.cl := rfl
@[simp] theorem Dev.setNb_toc (c : Nat) (f : NbSt → NbSt) (d : Dev) : (d.setNb c f).toc = d.toc := rfl
@[simp] theorem Dev.setNb_draws (c : Nat) (f : NbSt → NbSt) (d : Dev) : (d.setNb c f).draws = d.draws := rfl
@[simp] theorem Dev.setRds_now (c : Nat) (f : RdsSt → RdsSt) (d : Dev) : (d.setRds c f).now = d.now := rfl
@[simp] theorem Dev.setRds_pwr (c : Nat) (f : RdsSt → RdsSt) (d : Dev) : (d.setRds c f).pwr = d.pwr := rfl
@[simp] theorem Dev.setRds_clk (c : Nat) (f : RdsSt → RdsSt) (d : Dev) : (d.setRds c f).clk = d.clk := rfl
@[simp] theorem Dev.setRds_regs (c : Nat) (f : RdsSt → RdsSt) (d : Dev) : (d.setRds c f).regs = d.regs := rfl
@[simp] theorem Dev.setRds_tw (c : Nat) (f : RdsSt → RdsSt) (d : Dev) : (d.setRds c f).tw = d.tw := rfl
@[simp] theorem Dev.setRds_twc (c : Nat) (f : RdsSt → RdsSt) (d : Dev) : (d.setRds c f).twc = d.twc := rfl
@[simp] theorem Dev.setRds_proto (c : Nat) (f : RdsSt → RdsSt) (d : Dev) : (d.setRds c f).proto = d.proto := rfl
@[simp] theorem Dev.setRds_sec (c : Nat) (f : RdsSt → RdsSt) (d : Dev) : (d.setRds c f).sec = d.sec := rfl
@[simp] theorem Dev.setRds_rf (c : Nat) (f : RdsSt → RdsSt) (d : Dev) : (d.setRds c f).rf = d.rf := rfl
@[simp] theorem Dev.setRds_cal (c : Nat) (f : RdsSt → RdsSt) (d : Dev) : (d.setRds c f).cal = d.cal := rfl
@[simp] theorem Dev.setRds_survey (c : Nat) (f : RdsSt → RdsSt) (d : Dev) : (d.setRds c f).survey = d.survey := rfl
@[simp] theorem Dev.setRds_chan (c : Nat) (f : RdsSt → RdsSt) (d : Dev) : (d.setRds c f).chan = d.chan := rfl
@[simp] theorem Dev.setRds_trav (c : Nat) (f : RdsSt → RdsSt) (d : Dev) : (d.setRds c f).trav = d.trav := rfl
@[simp] theorem Dev.setRds_comb (c : Nat) (f : RdsSt → RdsSt) (d : Dev) : (d.setRds c f).comb = d.comb := rfl
@[simp] theorem Dev.setRds_fb (c : Nat) (f : RdsSt → RdsSt) (d : Dev) : (d.setRds c f).fb = d.fb := rfl
@[simp] theorem Dev.setRds_follow (c : Nat) (f : RdsSt → RdsSt) (d : Dev) : (d.setRds c f).follow = d.follow := rfl
@[simp] theorem Dev.setRds_audio (c : Nat) (f : RdsSt → RdsSt) (d : Dev) : (d.setRds c f).audio = d.audio := rfl
@[simp] theorem Dev.setRds_data (c : Nat) (f : RdsSt → RdsSt) (d : Dev) : (d.setRds c f).data = d.data := rfl
@[simp] theorem Dev.setRds_watch (c : Nat) (f : RdsSt → RdsSt) (d : Dev) : (d.setRds c f).watch = d.watch := rfl
@[simp] theorem Dev.setRds_cl (c : Nat) (f : RdsSt → RdsSt) (d : Dev) : (d.setRds c f).cl = d.cl := rfl
@[simp] theorem Dev.setRds_toc (c : Nat) (f : RdsSt → RdsSt) (d : Dev) : (d.setRds c f).toc = d.toc := rfl
@[simp] theorem Dev.setRds_draws (c : Nat) (f : RdsSt → RdsSt) (d : Dev) : (d.setRds c f).draws = d.draws := rfl
@[simp] theorem Dev.setUnit_now (c k : Nat) (f : RdsUnit → RdsUnit) (d : Dev) : (d.setUnit c k f).now = d.now := rfl
@[simp] theorem Dev.setUnit_pwr (c k : Nat) (f : RdsUnit → RdsUnit) (d : Dev) : (d.setUnit c k f).pwr = d.pwr := rfl
@[simp] theorem Dev.setUnit_clk (c k : Nat) (f : RdsUnit → RdsUnit) (d : Dev) : (d.setUnit c k f).clk = d.clk := rfl
@[simp] theorem Dev.setUnit_regs (c k : Nat) (f : RdsUnit → RdsUnit) (d : Dev) : (d.setUnit c k f).regs = d.regs := rfl
@[simp] theorem Dev.setUnit_tw (c k : Nat) (f : RdsUnit → RdsUnit) (d : Dev) : (d.setUnit c k f).tw = d.tw := rfl
@[simp] theorem Dev.setUnit_twc (c k : Nat) (f : RdsUnit → RdsUnit) (d : Dev) : (d.setUnit c k f).twc = d.twc := rfl
@[simp] theorem Dev.setUnit_proto (c k : Nat) (f : RdsUnit → RdsUnit) (d : Dev) : (d.setUnit c k f).proto = d.proto := rfl
@[simp] theorem Dev.setUnit_sec (c k : Nat) (f : RdsUnit → RdsUnit) (d : Dev) : (d.setUnit c k f).sec = d.sec := rfl
@[simp] theorem Dev.setUnit_rf (c k : Nat) (f : RdsUnit → RdsUnit) (d : Dev) : (d.setUnit c k f).rf = d.rf := rfl
@[simp] theorem Dev.setUnit_cal (c k : Nat) (f : RdsUnit → RdsUnit) (d : Dev) : (d.setUnit c k f).cal = d.cal := rfl
@[simp] theorem Dev.setUnit_survey (c k : Nat) (f : RdsUnit → RdsUnit) (d : Dev) : (d.setUnit c k f).survey = d.survey := rfl
@[simp] theorem Dev.setUnit_chan (c k : Nat) (f : RdsUnit → RdsUnit) (d : Dev) : (d.setUnit c k f).chan = d.chan := rfl
@[simp] theorem Dev.setUnit_trav (c k : Nat) (f : RdsUnit → RdsUnit) (d : Dev) : (d.setUnit c k f).trav = d.trav := rfl
@[simp] theorem Dev.setUnit_comb (c k : Nat) (f : RdsUnit → RdsUnit) (d : Dev) : (d.setUnit c k f).comb = d.comb := rfl
@[simp] theorem Dev.setUnit_fb (c k : Nat) (f : RdsUnit → RdsUnit) (d : Dev) : (d.setUnit c k f).fb = d.fb := rfl
@[simp] theorem Dev.setUnit_follow (c k : Nat) (f : RdsUnit → RdsUnit) (d : Dev) : (d.setUnit c k f).follow = d.follow := rfl
@[simp] theorem Dev.setUnit_audio (c k : Nat) (f : RdsUnit → RdsUnit) (d : Dev) : (d.setUnit c k f).audio = d.audio := rfl
@[simp] theorem Dev.setUnit_data (c k : Nat) (f : RdsUnit → RdsUnit) (d : Dev) : (d.setUnit c k f).data = d.data := rfl
@[simp] theorem Dev.setUnit_watch (c k : Nat) (f : RdsUnit → RdsUnit) (d : Dev) : (d.setUnit c k f).watch = d.watch := rfl
@[simp] theorem Dev.setUnit_cl (c k : Nat) (f : RdsUnit → RdsUnit) (d : Dev) : (d.setUnit c k f).cl = d.cl := rfl
@[simp] theorem Dev.setUnit_toc (c k : Nat) (f : RdsUnit → RdsUnit) (d : Dev) : (d.setUnit c k f).toc = d.toc := rfl
@[simp] theorem Dev.setUnit_draws (c k : Nat) (f : RdsUnit → RdsUnit) (d : Dev) : (d.setUnit c k f).draws = d.draws := rfl
@[simp] theorem Dev.setDab_now (c : Nat) (f : DabSt → DabSt) (d : Dev) : (d.setDab c f).now = d.now := rfl
@[simp] theorem Dev.setDab_pwr (c : Nat) (f : DabSt → DabSt) (d : Dev) : (d.setDab c f).pwr = d.pwr := rfl
@[simp] theorem Dev.setDab_clk (c : Nat) (f : DabSt → DabSt) (d : Dev) : (d.setDab c f).clk = d.clk := rfl
@[simp] theorem Dev.setDab_regs (c : Nat) (f : DabSt → DabSt) (d : Dev) : (d.setDab c f).regs = d.regs := rfl
@[simp] theorem Dev.setDab_tw (c : Nat) (f : DabSt → DabSt) (d : Dev) : (d.setDab c f).tw = d.tw := rfl
@[simp] theorem Dev.setDab_twc (c : Nat) (f : DabSt → DabSt) (d : Dev) : (d.setDab c f).twc = d.twc := rfl
@[simp] theorem Dev.setDab_proto (c : Nat) (f : DabSt → DabSt) (d : Dev) : (d.setDab c f).proto = d.proto := rfl
@[simp] theorem Dev.setDab_sec (c : Nat) (f : DabSt → DabSt) (d : Dev) : (d.setDab c f).sec = d.sec := rfl
@[simp] theorem Dev.setDab_rf (c : Nat) (f : DabSt → DabSt) (d : Dev) : (d.setDab c f).rf = d.rf := rfl
@[simp] theorem Dev.setDab_cal (c : Nat) (f : DabSt → DabSt) (d : Dev) : (d.setDab c f).cal = d.cal := rfl
@[simp] theorem Dev.setDab_survey (c : Nat) (f : DabSt → DabSt) (d : Dev) : (d.setDab c f).survey = d.survey := rfl
@[simp] theorem Dev.setDab_chan (c : Nat) (f : DabSt → DabSt) (d : Dev) : (d.setDab c f).chan = d.chan := rfl
@[simp] theorem Dev.setDab_trav (c : Nat) (f : DabSt → DabSt) (d : Dev) : (d.setDab c f).trav = d.trav := rfl
@[simp] theorem Dev.setDab_comb (c : Nat) (f : DabSt → DabSt) (d : Dev) : (d.setDab c f).comb = d.comb := rfl
@[simp] theorem Dev.setDab_fb (c : Nat) (f : DabSt → DabSt) (d : Dev) : (d.setDab c f).fb = d.fb := rfl
@[simp] theorem Dev.setDab_follow (c : Nat) (f : DabSt → DabSt) (d : Dev) : (d.setDab c f).follow = d.follow := rfl
@[simp] theorem Dev.setDab_audio (c : Nat) (f : DabSt → DabSt) (d : Dev) : (d.setDab c f).audio = d.audio := rfl
@[simp] theorem Dev.setDab_data (c : Nat) (f : DabSt → DabSt) (d : Dev) : (d.setDab c f).data = d.data := rfl
@[simp] theorem Dev.setDab_watch (c : Nat) (f : DabSt → DabSt) (d : Dev) : (d.setDab c f).watch = d.watch := rfl
@[simp] theorem Dev.setDab_cl (c : Nat) (f : DabSt → DabSt) (d : Dev) : (d.setDab c f).cl = d.cl := rfl
@[simp] theorem Dev.setDab_toc (c : Nat) (f : DabSt → DabSt) (d : Dev) : (d.setDab c f).toc = d.toc := rfl
@[simp] theorem Dev.setDab_draws (c : Nat) (f : DabSt → DabSt) (d : Dev) : (d.setDab c f).draws = d.draws := rfl
@[simp] theorem Dev.setDabInst_now (n : Nat) (f : DabInst → DabInst) (d : Dev) : (d.setDabInst n f).now = d.now := rfl
@[simp] theorem Dev.setDabInst_pwr (n : Nat) (f : DabInst → DabInst) (d : Dev) : (d.setDabInst n f).pwr = d.pwr := rfl
@[simp] theorem Dev.setDabInst_clk (n : Nat) (f : DabInst → DabInst) (d : Dev) : (d.setDabInst n f).clk = d.clk := rfl
@[simp] theorem Dev.setDabInst_regs (n : Nat) (f : DabInst → DabInst) (d : Dev) : (d.setDabInst n f).regs = d.regs := rfl
@[simp] theorem Dev.setDabInst_tw (n : Nat) (f : DabInst → DabInst) (d : Dev) : (d.setDabInst n f).tw = d.tw := rfl
@[simp] theorem Dev.setDabInst_twc (n : Nat) (f : DabInst → DabInst) (d : Dev) : (d.setDabInst n f).twc = d.twc := rfl
@[simp] theorem Dev.setDabInst_proto (n : Nat) (f : DabInst → DabInst) (d : Dev) : (d.setDabInst n f).proto = d.proto := rfl
@[simp] theorem Dev.setDabInst_sec (n : Nat) (f : DabInst → DabInst) (d : Dev) : (d.setDabInst n f).sec = d.sec := rfl
@[simp] theorem Dev.setDabInst_rf (n : Nat) (f : DabInst → DabInst) (d : Dev) : (d.setDabInst n f).rf = d.rf := rfl
@[simp] theorem Dev.setDabInst_cal (n : Nat) (f : DabInst → DabInst) (d : Dev) : (d.setDabInst n f).cal = d.cal := rfl
@[simp] theorem Dev.setDabInst_survey (n : Nat) (f : DabInst → DabInst) (d : Dev) : (d.setDabInst n f).survey = d.survey := rfl
@[simp] theorem Dev.setDabInst_chan (n : Nat) (f : DabInst → DabInst) (d : Dev) : (d.setDabInst n f).chan = d.chan := rfl
@[simp] theorem Dev.setDabInst_trav (n : Nat) (f : DabInst → DabInst) (d : Dev) : (d.setDabInst n f).trav = d.trav := rfl
@[simp] theorem Dev.setDabInst_comb (n : Nat) (f : DabInst → DabInst) (d : Dev) : (d.setDabInst n f).comb = d.comb := rfl
@[simp] theorem Dev.setDabInst_fb (n : Nat) (f : DabInst → DabInst) (d : Dev) : (d.setDabInst n f).fb = d.fb := rfl
@[simp] theorem Dev.setDabInst_follow (n : Nat) (f : DabInst → DabInst) (d : Dev) : (d.setDabInst n f).follow = d.follow := rfl
@[simp] theorem Dev.setDabInst_audio (n : Nat) (f : DabInst → DabInst) (d : Dev) : (d.setDabInst n f).audio = d.audio := rfl
@[simp] theorem Dev.setDabInst_data (n : Nat) (f : DabInst → DabInst) (d : Dev) : (d.setDabInst n f).data = d.data := rfl
@[simp] theorem Dev.setDabInst_watch (n : Nat) (f : DabInst → DabInst) (d : Dev) : (d.setDabInst n f).watch = d.watch := rfl
@[simp] theorem Dev.setDabInst_cl (n : Nat) (f : DabInst → DabInst) (d : Dev) : (d.setDabInst n f).cl = d.cl := rfl
@[simp] theorem Dev.setDabInst_toc (n : Nat) (f : DabInst → DabInst) (d : Dev) : (d.setDabInst n f).toc = d.toc := rfl
@[simp] theorem Dev.setDabInst_draws (n : Nat) (f : DabInst → DabInst) (d : Dev) : (d.setDabInst n f).draws = d.draws := rfl
@[simp] theorem Dev.setDrm_now (c : Nat) (f : DrmSt → DrmSt) (d : Dev) : (d.setDrm c f).now = d.now := rfl
@[simp] theorem Dev.setDrm_pwr (c : Nat) (f : DrmSt → DrmSt) (d : Dev) : (d.setDrm c f).pwr = d.pwr := rfl
@[simp] theorem Dev.setDrm_clk (c : Nat) (f : DrmSt → DrmSt) (d : Dev) : (d.setDrm c f).clk = d.clk := rfl
@[simp] theorem Dev.setDrm_regs (c : Nat) (f : DrmSt → DrmSt) (d : Dev) : (d.setDrm c f).regs = d.regs := rfl
@[simp] theorem Dev.setDrm_tw (c : Nat) (f : DrmSt → DrmSt) (d : Dev) : (d.setDrm c f).tw = d.tw := rfl
@[simp] theorem Dev.setDrm_twc (c : Nat) (f : DrmSt → DrmSt) (d : Dev) : (d.setDrm c f).twc = d.twc := rfl
@[simp] theorem Dev.setDrm_proto (c : Nat) (f : DrmSt → DrmSt) (d : Dev) : (d.setDrm c f).proto = d.proto := rfl
@[simp] theorem Dev.setDrm_sec (c : Nat) (f : DrmSt → DrmSt) (d : Dev) : (d.setDrm c f).sec = d.sec := rfl
@[simp] theorem Dev.setDrm_rf (c : Nat) (f : DrmSt → DrmSt) (d : Dev) : (d.setDrm c f).rf = d.rf := rfl
@[simp] theorem Dev.setDrm_cal (c : Nat) (f : DrmSt → DrmSt) (d : Dev) : (d.setDrm c f).cal = d.cal := rfl
@[simp] theorem Dev.setDrm_survey (c : Nat) (f : DrmSt → DrmSt) (d : Dev) : (d.setDrm c f).survey = d.survey := rfl
@[simp] theorem Dev.setDrm_chan (c : Nat) (f : DrmSt → DrmSt) (d : Dev) : (d.setDrm c f).chan = d.chan := rfl
@[simp] theorem Dev.setDrm_trav (c : Nat) (f : DrmSt → DrmSt) (d : Dev) : (d.setDrm c f).trav = d.trav := rfl
@[simp] theorem Dev.setDrm_comb (c : Nat) (f : DrmSt → DrmSt) (d : Dev) : (d.setDrm c f).comb = d.comb := rfl
@[simp] theorem Dev.setDrm_fb (c : Nat) (f : DrmSt → DrmSt) (d : Dev) : (d.setDrm c f).fb = d.fb := rfl
@[simp] theorem Dev.setDrm_follow (c : Nat) (f : DrmSt → DrmSt) (d : Dev) : (d.setDrm c f).follow = d.follow := rfl
@[simp] theorem Dev.setDrm_audio (c : Nat) (f : DrmSt → DrmSt) (d : Dev) : (d.setDrm c f).audio = d.audio := rfl
@[simp] theorem Dev.setDrm_data (c : Nat) (f : DrmSt → DrmSt) (d : Dev) : (d.setDrm c f).data = d.data := rfl
@[simp] theorem Dev.setDrm_watch (c : Nat) (f : DrmSt → DrmSt) (d : Dev) : (d.setDrm c f).watch = d.watch := rfl
@[simp] theorem Dev.setDrm_cl (c : Nat) (f : DrmSt → DrmSt) (d : Dev) : (d.setDrm c f).cl = d.cl := rfl
@[simp] theorem Dev.setDrm_toc (c : Nat) (f : DrmSt → DrmSt) (d : Dev) : (d.setDrm c f).toc = d.toc := rfl
@[simp] theorem Dev.setDrm_draws (c : Nat) (f : DrmSt → DrmSt) (d : Dev) : (d.setDrm c f).draws = d.draws := rfl
@[simp] theorem Dev.setService_now (v : Nat) (f : CmbSt → CmbSt) (d : Dev) : (d.setService v f).now = d.now := rfl
@[simp] theorem Dev.setService_pwr (v : Nat) (f : CmbSt → CmbSt) (d : Dev) : (d.setService v f).pwr = d.pwr := rfl
@[simp] theorem Dev.setService_clk (v : Nat) (f : CmbSt → CmbSt) (d : Dev) : (d.setService v f).clk = d.clk := rfl
@[simp] theorem Dev.setService_regs (v : Nat) (f : CmbSt → CmbSt) (d : Dev) : (d.setService v f).regs = d.regs := rfl
@[simp] theorem Dev.setService_tw (v : Nat) (f : CmbSt → CmbSt) (d : Dev) : (d.setService v f).tw = d.tw := rfl
@[simp] theorem Dev.setService_twc (v : Nat) (f : CmbSt → CmbSt) (d : Dev) : (d.setService v f).twc = d.twc := rfl
@[simp] theorem Dev.setService_proto (v : Nat) (f : CmbSt → CmbSt) (d : Dev) : (d.setService v f).proto = d.proto := rfl
@[simp] theorem Dev.setService_sec (v : Nat) (f : CmbSt → CmbSt) (d : Dev) : (d.setService v f).sec = d.sec := rfl
@[simp] theorem Dev.setService_rf (v : Nat) (f : CmbSt → CmbSt) (d : Dev) : (d.setService v f).rf = d.rf := rfl
@[simp] theorem Dev.setService_cal (v : Nat) (f : CmbSt → CmbSt) (d : Dev) : (d.setService v f).cal = d.cal := rfl
@[simp] theorem Dev.setService_survey (v : Nat) (f : CmbSt → CmbSt) (d : Dev) : (d.setService v f).survey = d.survey := rfl
@[simp] theorem Dev.setService_chan (v : Nat) (f : CmbSt → CmbSt) (d : Dev) : (d.setService v f).chan = d.chan := rfl
@[simp] theorem Dev.setService_trav (v : Nat) (f : CmbSt → CmbSt) (d : Dev) : (d.setService v f).trav = d.trav := rfl
@[simp] theorem Dev.setService_dem (v : Nat) (f : CmbSt → CmbSt) (d : Dev) : (d.setService v f).dem = d.dem := rfl
@[simp] theorem Dev.setService_fb (v : Nat) (f : CmbSt → CmbSt) (d : Dev) : (d.setService v f).fb = d.fb := rfl
@[simp] theorem Dev.setService_follow (v : Nat) (f : CmbSt → CmbSt) (d : Dev) : (d.setService v f).follow = d.follow := rfl
@[simp] theorem Dev.setService_audio (v : Nat) (f : CmbSt → CmbSt) (d : Dev) : (d.setService v f).audio = d.audio := rfl
@[simp] theorem Dev.setService_data (v : Nat) (f : CmbSt → CmbSt) (d : Dev) : (d.setService v f).data = d.data := rfl
@[simp] theorem Dev.setService_watch (v : Nat) (f : CmbSt → CmbSt) (d : Dev) : (d.setService v f).watch = d.watch := rfl
@[simp] theorem Dev.setService_cl (v : Nat) (f : CmbSt → CmbSt) (d : Dev) : (d.setService v f).cl = d.cl := rfl
@[simp] theorem Dev.setService_toc (v : Nat) (f : CmbSt → CmbSt) (d : Dev) : (d.setService v f).toc = d.toc := rfl
@[simp] theorem Dev.setService_draws (v : Nat) (f : CmbSt → CmbSt) (d : Dev) : (d.setService v f).draws = d.draws := rfl
@[simp] theorem Dev.setFbe_now (h : Nat) (f : FbEntry → FbEntry) (d : Dev) : (d.setFbe h f).now = d.now := by unfold Dev.setFbe; split <;> rfl
@[simp] theorem Dev.setFbe_pwr (h : Nat) (f : FbEntry → FbEntry) (d : Dev) : (d.setFbe h f).pwr = d.pwr := by unfold Dev.setFbe; split <;> rfl
@[simp] theorem Dev.setFbe_clk (h : Nat) (f : FbEntry → FbEntry) (d : Dev) : (d.setFbe h f).clk = d.clk := by unfold Dev.setFbe; split <;> rfl
@[simp] theorem Dev.setFbe_regs (h : Nat) (f : FbEntry → FbEntry) (d : Dev) : (d.setFbe h f).regs = d.regs := by unfold Dev.setFbe; split <;> rfl
@[simp] theorem Dev.setFbe_tw (h : Nat) (f : FbEntry → FbEntry) (d : Dev) : (d.setFbe h f).tw = d.tw := by unfold Dev.setFbe; split <;> rfl
@[simp] theorem Dev.setFbe_twc (h : Nat) (f : FbEntry → FbEntry) (d : Dev) : (d.setFbe h f).twc = d.twc := by unfold Dev.setFbe; split <;> rfl
@[simp] theorem Dev.setFbe_proto (h : Nat) (f : FbEntry → FbEntry) (d : Dev) : (d.setFbe h f).proto = d.proto := by unfold Dev.setFbe; split <;> rfl
@[simp] theorem Dev.setFbe_sec (h : Nat) (f : FbEntry → FbEntry) (d : Dev) : (d.setFbe h f).sec = d.sec := by unfold Dev.setFbe; split <;> rfl
@[simp] theorem Dev.setFbe_rf (h : Nat) (f : FbEntry → FbEntry) (d : Dev) : (d.setFbe h f).rf = d.rf := by unfold Dev.setFbe; split <;> rfl
@[simp] theorem Dev.setFbe_cal (h : Nat) (f : FbEntry → FbEntry) (d : Dev) : (d.setFbe h f).cal = d.cal := by unfold Dev.setFbe; split <;> rfl
@[simp] theorem Dev.setFbe_survey (h : Nat) (f : FbEntry → FbEntry) (d : Dev) : (d.setFbe h f).survey = d.survey := by unfold Dev.setFbe; split <;> rfl
@[simp] theorem Dev.setFbe_chan (h : Nat) (f : FbEntry → FbEntry) (d : Dev) : (d.setFbe h f).chan = d.chan := by unfold Dev.setFbe; split <;> rfl
@[simp] theorem Dev.setFbe_trav (h : Nat) (f : FbEntry → FbEntry) (d : Dev) : (d.setFbe h f).trav = d.trav := by unfold Dev.setFbe; split <;> rfl
@[simp] theorem Dev.setFbe_dem (h : Nat) (f : FbEntry → FbEntry) (d : Dev) : (d.setFbe h f).dem = d.dem := by unfold Dev.setFbe; split <;> rfl
@[simp] theorem Dev.setFbe_comb (h : Nat) (f : FbEntry → FbEntry) (d : Dev) : (d.setFbe h f).comb = d.comb := by unfold Dev.setFbe; split <;> rfl
@[simp] theorem Dev.setFbe_follow (h : Nat) (f : FbEntry → FbEntry) (d : Dev) : (d.setFbe h f).follow = d.follow := by unfold Dev.setFbe; split <;> rfl
@[simp] theorem Dev.setFbe_audio (h : Nat) (f : FbEntry → FbEntry) (d : Dev) : (d.setFbe h f).audio = d.audio := by unfold Dev.setFbe; split <;> rfl
@[simp] theorem Dev.setFbe_data (h : Nat) (f : FbEntry → FbEntry) (d : Dev) : (d.setFbe h f).data = d.data := by unfold Dev.setFbe; split <;> rfl
@[simp] theorem Dev.setFbe_watch (h : Nat) (f : FbEntry → FbEntry) (d : Dev) : (d.setFbe h f).watch = d.watch := by unfold Dev.setFbe; split <;> rfl
@[simp] theorem Dev.setFbe_cl (h : Nat) (f : FbEntry → FbEntry) (d : Dev) : (d.setFbe h f).cl = d.cl := by unfold Dev.setFbe; split <;> rfl
@[simp] theorem Dev.setFbe_toc (h : Nat) (f : FbEntry → FbEntry) (d : Dev) : (d.setFbe h f).toc = d.toc := by unfold Dev.setFbe; split <;> rfl
@[simp] theorem Dev.setFbe_draws (h : Nat) (f : FbEntry → FbEntry) (d : Dev) : (d.setFbe h f).draws = d.draws := by unfold Dev.setFbe; split <;> rfl
@[simp] theorem Dev.setGrp_now (p : Nat) (f : FollowGrp → FollowGrp) (d : Dev) : (d.setGrp p f).now = d.now := rfl
@[simp] theorem Dev.setGrp_pwr (p : Nat) (f : FollowGrp → FollowGrp) (d : Dev) : (d.setGrp p f).pwr = d.pwr := rfl
@[simp] theorem Dev.setGrp_clk (p : Nat) (f : FollowGrp → FollowGrp) (d : Dev) : (d.setGrp p f).clk = d.clk := rfl
@[simp] theorem Dev.setGrp_regs (p : Nat) (f : FollowGrp → FollowGrp) (d : Dev) : (d.setGrp p f).regs = d.regs := rfl
@[simp] theorem Dev.setGrp_tw (p : Nat) (f : FollowGrp → FollowGrp) (d : Dev) : (d.setGrp p f).tw = d.tw := rfl
@[simp] theorem Dev.setGrp_twc (p : Nat) (f : FollowGrp → FollowGrp) (d : Dev) : (d.setGrp p f).twc = d.twc := rfl
@[simp] theorem Dev.setGrp_proto (p : Nat) (f : FollowGrp → FollowGrp) (d : Dev) : (d.setGrp p f).proto = d.proto := rfl
@[simp] theorem Dev.setGrp_sec (p : Nat) (f : FollowGrp → FollowGrp) (d : Dev) : (d.setGrp p f).sec = d.sec := rfl
@[simp] theorem Dev.setGrp_rf (p : Nat) (f : FollowGrp → FollowGrp) (d : Dev) : (d.setGrp p f).rf = d.rf := rfl
@[simp] theorem Dev.setGrp_cal (p : Nat) (f : FollowGrp → FollowGrp) (d : Dev) : (d.setGrp p f).cal = d.cal := rfl
@[simp] theorem Dev.setGrp_survey (p : Nat) (f : FollowGrp → FollowGrp) (d : Dev) : (d.setGrp p f).survey = d.survey := rfl
@[simp] theorem Dev.setGrp_chan (p : Nat) (f : FollowGrp → FollowGrp) (d : Dev) : (d.setGrp p f).chan = d.chan := rfl
@[simp] theorem Dev.setGrp_trav (p : Nat) (f : FollowGrp → FollowGrp) (d : Dev) : (d.setGrp p f).trav = d.trav := rfl
@[simp] theorem Dev.setGrp_dem (p : Nat) (f : FollowGrp → FollowGrp) (d : Dev) : (d.setGrp p f).dem = d.dem := rfl
@[simp] theorem Dev.setGrp_comb (p : Nat) (f : FollowGrp → FollowGrp) (d : Dev) : (d.setGrp p f).comb = d.comb := rfl
@[simp] theorem Dev.setGrp_fb (p : Nat) (f : FollowGrp → FollowGrp) (d : Dev) : (d.setGrp p f).fb = d.fb := rfl
@[simp] theorem Dev.setGrp_audio (p : Nat) (f : FollowGrp → FollowGrp) (d : Dev) : (d.setGrp p f).audio = d.audio := rfl
@[simp] theorem Dev.setGrp_data (p : Nat) (f : FollowGrp → FollowGrp) (d : Dev) : (d.setGrp p f).data = d.data := rfl
@[simp] theorem Dev.setGrp_watch (p : Nat) (f : FollowGrp → FollowGrp) (d : Dev) : (d.setGrp p f).watch = d.watch := rfl
@[simp] theorem Dev.setGrp_cl (p : Nat) (f : FollowGrp → FollowGrp) (d : Dev) : (d.setGrp p f).cl = d.cl := rfl
@[simp] theorem Dev.setGrp_toc (p : Nat) (f : FollowGrp → FollowGrp) (d : Dev) : (d.setGrp p f).toc = d.toc := rfl
@[simp] theorem Dev.setGrp_draws (p : Nat) (f : FollowGrp → FollowGrp) (d : Dev) : (d.setGrp p f).draws = d.draws := rfl
@[simp] theorem Dev.setProg_now (p : Nat) (f : ProgSt → ProgSt) (d : Dev) : (d.setProg p f).now = d.now := rfl
@[simp] theorem Dev.setProg_pwr (p : Nat) (f : ProgSt → ProgSt) (d : Dev) : (d.setProg p f).pwr = d.pwr := rfl
@[simp] theorem Dev.setProg_clk (p : Nat) (f : ProgSt → ProgSt) (d : Dev) : (d.setProg p f).clk = d.clk := rfl
@[simp] theorem Dev.setProg_regs (p : Nat) (f : ProgSt → ProgSt) (d : Dev) : (d.setProg p f).regs = d.regs := rfl
@[simp] theorem Dev.setProg_tw (p : Nat) (f : ProgSt → ProgSt) (d : Dev) : (d.setProg p f).tw = d.tw := rfl
@[simp] theorem Dev.setProg_twc (p : Nat) (f : ProgSt → ProgSt) (d : Dev) : (d.setProg p f).twc = d.twc := rfl
@[simp] theorem Dev.setProg_proto (p : Nat) (f : ProgSt → ProgSt) (d : Dev) : (d.setProg p f).proto = d.proto := rfl
@[simp] theorem Dev.setProg_sec (p : Nat) (f : ProgSt → ProgSt) (d : Dev) : (d.setProg p f).sec = d.sec := rfl
@[simp] theorem Dev.setProg_rf (p : Nat) (f : ProgSt → ProgSt) (d : Dev) : (d.setProg p f).rf = d.rf := rfl
@[simp] theorem Dev.setProg_cal (p : Nat) (f : ProgSt → ProgSt) (d : Dev) : (d.setProg p f).cal = d.cal := rfl
@[simp] theorem Dev.setProg_survey (p : Nat) (f : ProgSt → ProgSt) (d : Dev) : (d.setProg p f).survey = d.survey := rfl
@[simp] theorem Dev.setProg_chan (p : Nat) (f : ProgSt → ProgSt) (d : Dev) : (d.setProg p f).chan = d.chan := rfl
@[simp] theorem Dev.setProg_trav (p : Nat) (f : ProgSt → ProgSt) (d : Dev) : (d.setProg p f).trav = d.trav := rfl
@[simp] theorem Dev.setProg_dem (p : Nat) (f : ProgSt → ProgSt) (d : Dev) : (d.setProg p f).dem = d.dem := rfl
@[simp] theorem Dev.setProg_comb (p : Nat) (f : ProgSt → ProgSt) (d : Dev) : (d.setProg p f).comb = d.comb := rfl
@[simp] theorem Dev.setProg_fb (p : Nat) (f : ProgSt → ProgSt) (d : Dev) : (d.setProg p f).fb = d.fb := rfl
@[simp] theorem Dev.setProg_follow (p : Nat) (f : ProgSt → ProgSt) (d : Dev) : (d.setProg p f).follow = d.follow := rfl
@[simp] theorem Dev.setProg_data (p : Nat) (f : ProgSt → ProgSt) (d : Dev) : (d.setProg p f).data = d.data := rfl
@[simp] theorem Dev.setProg_watch (p : Nat) (f : ProgSt → ProgSt) (d : Dev) : (d.setProg p f).watch = d.watch := rfl
@[simp] theorem Dev.setProg_cl (p : Nat) (f : ProgSt → ProgSt) (d : Dev) : (d.setProg p f).cl = d.cl := rfl
@[simp] theorem Dev.setProg_toc (p : Nat) (f : ProgSt → ProgSt) (d : Dev) : (d.setProg p f).toc = d.toc := rfl
@[simp] theorem Dev.setProg_draws (p : Nat) (f : ProgSt → ProgSt) (d : Dev) : (d.setProg p f).draws = d.draws := rfl
@[simp] theorem Dev.setPort_now (n : Nat) (f : PortSt → PortSt) (d : Dev) : (d.setPort n f).now = d.now := rfl
@[simp] theorem Dev.setPort_pwr (n : Nat) (f : PortSt → PortSt) (d : Dev) : (d.setPort n f).pwr = d.pwr := rfl
@[simp] theorem Dev.setPort_clk (n : Nat) (f : PortSt → PortSt) (d : Dev) : (d.setPort n f).clk = d.clk := rfl
@[simp] theorem Dev.setPort_regs (n : Nat) (f : PortSt → PortSt) (d : Dev) : (d.setPort n f).regs = d.regs := rfl
@[simp] theorem Dev.setPort_tw (n : Nat) (f : PortSt → PortSt) (d : Dev) : (d.setPort n f).tw = d.tw := rfl
@[simp] theorem Dev.setPort_twc (n : Nat) (f : PortSt → PortSt) (d : Dev) : (d.setPort n f).twc = d.twc := rfl
@[simp] theorem Dev.setPort_proto (n : Nat) (f : PortSt → PortSt) (d : Dev) : (d.setPort n f).proto = d.proto := rfl
@[simp] theorem Dev.setPort_sec (n : Nat) (f : PortSt → PortSt) (d : Dev) : (d.setPort n f).sec = d.sec := rfl
@[simp] theorem Dev.setPort_rf (n : Nat) (f : PortSt → PortSt) (d : Dev) : (d.setPort n f).rf = d.rf := rfl
@[simp] theorem Dev.setPort_cal (n : Nat) (f : PortSt → PortSt) (d : Dev) : (d.setPort n f).cal = d.cal := rfl
@[simp] theorem Dev.setPort_survey (n : Nat) (f : PortSt → PortSt) (d : Dev) : (d.setPort n f).survey = d.survey := rfl
@[simp] theorem Dev.setPort_chan (n : Nat) (f : PortSt → PortSt) (d : Dev) : (d.setPort n f).chan = d.chan := rfl
@[simp] theorem Dev.setPort_trav (n : Nat) (f : PortSt → PortSt) (d : Dev) : (d.setPort n f).trav = d.trav := rfl
@[simp] theorem Dev.setPort_dem (n : Nat) (f : PortSt → PortSt) (d : Dev) : (d.setPort n f).dem = d.dem := rfl
@[simp] theorem Dev.setPort_comb (n : Nat) (f : PortSt → PortSt) (d : Dev) : (d.setPort n f).comb = d.comb := rfl
@[simp] theorem Dev.setPort_fb (n : Nat) (f : PortSt → PortSt) (d : Dev) : (d.setPort n f).fb = d.fb := rfl
@[simp] theorem Dev.setPort_follow (n : Nat) (f : PortSt → PortSt) (d : Dev) : (d.setPort n f).follow = d.follow := rfl
@[simp] theorem Dev.setPort_data (n : Nat) (f : PortSt → PortSt) (d : Dev) : (d.setPort n f).data = d.data := rfl
@[simp] theorem Dev.setPort_watch (n : Nat) (f : PortSt → PortSt) (d : Dev) : (d.setPort n f).watch = d.watch := rfl
@[simp] theorem Dev.setPort_cl (n : Nat) (f : PortSt → PortSt) (d : Dev) : (d.setPort n f).cl = d.cl := rfl
@[simp] theorem Dev.setPort_toc (n : Nat) (f : PortSt → PortSt) (d : Dev) : (d.setPort n f).toc = d.toc := rfl
@[simp] theorem Dev.setPort_draws (n : Nat) (f : PortSt → PortSt) (d : Dev) : (d.setPort n f).draws = d.draws := rfl
@[simp] theorem Dev.setDq_now (q : Nat) (f : DQueue → DQueue) (d : Dev) : (d.setDq q f).now = d.now := rfl
@[simp] theorem Dev.setDq_pwr (q : Nat) (f : DQueue → DQueue) (d : Dev) : (d.setDq q f).pwr = d.pwr := rfl
@[simp] theorem Dev.setDq_clk (q : Nat) (f : DQueue → DQueue) (d : Dev) : (d.setDq q f).clk = d.clk := rfl
@[simp] theorem Dev.setDq_regs (q : Nat) (f : DQueue → DQueue) (d : Dev) : (d.setDq q f).regs = d.regs := rfl
@[simp] theorem Dev.setDq_tw (q : Nat) (f : DQueue → DQueue) (d : Dev) : (d.setDq q f).tw = d.tw := rfl
@[simp] theorem Dev.setDq_twc (q : Nat) (f : DQueue → DQueue) (d : Dev) : (d.setDq q f).twc = d.twc := rfl
@[simp] theorem Dev.setDq_proto (q : Nat) (f : DQueue → DQueue) (d : Dev) : (d.setDq q f).proto = d.proto := rfl
@[simp] theorem Dev.setDq_sec (q : Nat) (f : DQueue → DQueue) (d : Dev) : (d.setDq q f).sec = d.sec := rfl
@[simp] theorem Dev.setDq_rf (q : Nat) (f : DQueue → DQueue) (d : Dev) : (d.setDq q f).rf = d.rf := rfl
@[simp] theorem Dev.setDq_cal (q : Nat) (f : DQueue → DQueue) (d : Dev) : (d.setDq q f).cal = d.cal := rfl
@[simp] theorem Dev.setDq_survey (q : Nat) (f : DQueue → DQueue) (d : Dev) : (d.setDq q f).survey = d.survey := rfl
@[simp] theorem Dev.setDq_chan (q : Nat) (f : DQueue → DQueue) (d : Dev) : (d.setDq q f).chan = d.chan := rfl
@[simp] theorem Dev.setDq_trav (q : Nat) (f : DQueue → DQueue) (d : Dev) : (d.setDq q f).trav = d.trav := rfl
@[simp] theorem Dev.setDq_dem (q : Nat) (f : DQueue → DQueue) (d : Dev) : (d.setDq q f).dem = d.dem := rfl
@[simp] theorem Dev.setDq_comb (q : Nat) (f : DQueue → DQueue) (d : Dev) : (d.setDq q f).comb = d.comb := rfl
@[simp] theorem Dev.setDq_fb (q : Nat) (f : DQueue → DQueue) (d : Dev) : (d.setDq q f).fb = d.fb := rfl
@[simp] theorem Dev.setDq_follow (q : Nat) (f : DQueue → DQueue) (d : Dev) : (d.setDq q f).follow = d.follow := rfl
@[simp] theorem Dev.setDq_audio (q : Nat) (f : DQueue → DQueue) (d : Dev) : (d.setDq q f).audio = d.audio := rfl
@[simp] theorem Dev.setDq_watch (q : Nat) (f : DQueue → DQueue) (d : Dev) : (d.setDq q f).watch = d.watch := rfl
@[simp] theorem Dev.setDq_cl (q : Nat) (f : DQueue → DQueue) (d : Dev) : (d.setDq q f).cl = d.cl := rfl
@[simp] theorem Dev.setDq_toc (q : Nat) (f : DQueue → DQueue) (d : Dev) : (d.setDq q f).toc = d.toc := rfl
@[simp] theorem Dev.setDq_draws (q : Nat) (f : DQueue → DQueue) (d : Dev) : (d.setDq q f).draws = d.draws := rfl
@[simp] theorem Dev.setBind_now (c : Nat) (f : BindSt → BindSt) (d : Dev) : (d.setBind c f).now = d.now := by unfold Dev.setBind; split <;> rfl
@[simp] theorem Dev.setBind_pwr (c : Nat) (f : BindSt → BindSt) (d : Dev) : (d.setBind c f).pwr = d.pwr := by unfold Dev.setBind; split <;> rfl
@[simp] theorem Dev.setBind_clk (c : Nat) (f : BindSt → BindSt) (d : Dev) : (d.setBind c f).clk = d.clk := by unfold Dev.setBind; split <;> rfl
@[simp] theorem Dev.setBind_regs (c : Nat) (f : BindSt → BindSt) (d : Dev) : (d.setBind c f).regs = d.regs := by unfold Dev.setBind; split <;> rfl
@[simp] theorem Dev.setBind_tw (c : Nat) (f : BindSt → BindSt) (d : Dev) : (d.setBind c f).tw = d.tw := by unfold Dev.setBind; split <;> rfl
@[simp] theorem Dev.setBind_twc (c : Nat) (f : BindSt → BindSt) (d : Dev) : (d.setBind c f).twc = d.twc := by unfold Dev.setBind; split <;> rfl
@[simp] theorem Dev.setBind_proto (c : Nat) (f : BindSt → BindSt) (d : Dev) : (d.setBind c f).proto = d.proto := by unfold Dev.setBind; split <;> rfl
@[simp] theorem Dev.setBind_sec (c : Nat) (f : BindSt → BindSt) (d : Dev) : (d.setBind c f).sec = d.sec := by unfold Dev.setBind; split <;> rfl
@[simp] theorem Dev.setBind_rf (c : Nat) (f : BindSt → BindSt) (d : Dev) : (d.setBind c f).rf = d.rf := by unfold Dev.setBind; split <;> rfl
@[simp] theorem Dev.setBind_cal (c : Nat) (f : BindSt → BindSt) (d : Dev) : (d.setBind c f).cal = d.cal := by unfold Dev.setBind; split <;> rfl
@[simp] theorem Dev.setBind_survey (c : Nat) (f : BindSt → BindSt) (d : Dev) : (d.setBind c f).survey = d.survey := by unfold Dev.setBind; split <;> rfl
@[simp] theorem Dev.setBind_chan (c : Nat) (f : BindSt → BindSt) (d : Dev) : (d.setBind c f).chan = d.chan := by unfold Dev.setBind; split <;> rfl
@[simp] theorem Dev.setBind_trav (c : Nat) (f : BindSt → BindSt) (d : Dev) : (d.setBind c f).trav = d.trav := by unfold Dev.setBind; split <;> rfl
@[simp] theorem Dev.setBind_dem (c : Nat) (f : BindSt → BindSt) (d : Dev) : (d.setBind c f).dem = d.dem := by unfold Dev.setBind; split <;> rfl
@[simp] theorem Dev.setBind_comb (c : Nat) (f : BindSt → BindSt) (d : Dev) : (d.setBind c f).comb = d.comb := by unfold Dev.setBind; split <;> rfl
@[simp] theorem Dev.setBind_fb (c : Nat) (f : BindSt → BindSt) (d : Dev) : (d.setBind c f).fb = d.fb := by unfold Dev.setBind; split <;> rfl
@[simp] theorem Dev.setBind_follow (c : Nat) (f : BindSt → BindSt) (d : Dev) : (d.setBind c f).follow = d.follow := by unfold Dev.setBind; split <;> rfl
@[simp] theorem Dev.setBind_audio (c : Nat) (f : BindSt → BindSt) (d : Dev) : (d.setBind c f).audio = d.audio := by unfold Dev.setBind; split <;> rfl
@[simp] theorem Dev.setBind_watch (c : Nat) (f : BindSt → BindSt) (d : Dev) : (d.setBind c f).watch = d.watch := by unfold Dev.setBind; split <;> rfl
@[simp] theorem Dev.setBind_cl (c : Nat) (f : BindSt → BindSt) (d : Dev) : (d.setBind c f).cl = d.cl := by unfold Dev.setBind; split <;> rfl
@[simp] theorem Dev.setBind_toc (c : Nat) (f : BindSt → BindSt) (d : Dev) : (d.setBind c f).toc = d.toc := by unfold Dev.setBind; split <;> rfl
@[simp] theorem Dev.setBind_draws (c : Nat) (f : BindSt → BindSt) (d : Dev) : (d.setBind c f).draws = d.draws := by unfold Dev.setBind; split <;> rfl
@[simp] theorem Dev.setWatch_now (n : Nat) (f : WatchEntry → WatchEntry) (d : Dev) : (d.setWatch n f).now = d.now := rfl
@[simp] theorem Dev.setWatch_pwr (n : Nat) (f : WatchEntry → WatchEntry) (d : Dev) : (d.setWatch n f).pwr = d.pwr := rfl
@[simp] theorem Dev.setWatch_clk (n : Nat) (f : WatchEntry → WatchEntry) (d : Dev) : (d.setWatch n f).clk = d.clk := rfl
@[simp] theorem Dev.setWatch_regs (n : Nat) (f : WatchEntry → WatchEntry) (d : Dev) : (d.setWatch n f).regs = d.regs := rfl
@[simp] theorem Dev.setWatch_tw (n : Nat) (f : WatchEntry → WatchEntry) (d : Dev) : (d.setWatch n f).tw = d.tw := rfl
@[simp] theorem Dev.setWatch_twc (n : Nat) (f : WatchEntry → WatchEntry) (d : Dev) : (d.setWatch n f).twc = d.twc := rfl
@[simp] theorem Dev.setWatch_proto (n : Nat) (f : WatchEntry → WatchEntry) (d : Dev) : (d.setWatch n f).proto = d.proto := rfl
@[simp] theorem Dev.setWatch_sec (n : Nat) (f : WatchEntry → WatchEntry) (d : Dev) : (d.setWatch n f).sec = d.sec := rfl
@[simp] theorem Dev.setWatch_rf (n : Nat) (f : WatchEntry → WatchEntry) (d : Dev) : (d.setWatch n f).rf = d.rf := rfl
@[simp] theorem Dev.setWatch_cal (n : Nat) (f : WatchEntry → WatchEntry) (d : Dev) : (d.setWatch n f).cal = d.cal := rfl
@[simp] theorem Dev.setWatch_survey (n : Nat) (f : WatchEntry → WatchEntry) (d : Dev) : (d.setWatch n f).survey = d.survey := rfl
@[simp] theorem Dev.setWatch_chan (n : Nat) (f : WatchEntry → WatchEntry) (d : Dev) : (d.setWatch n f).chan = d.chan := rfl
@[simp] theorem Dev.setWatch_trav (n : Nat) (f : WatchEntry → WatchEntry) (d : Dev) : (d.setWatch n f).trav = d.trav := rfl
@[simp] theorem Dev.setWatch_dem (n : Nat) (f : WatchEntry → WatchEntry) (d : Dev) : (d.setWatch n f).dem = d.dem := rfl
@[simp] theorem Dev.setWatch_comb (n : Nat) (f : WatchEntry → WatchEntry) (d : Dev) : (d.setWatch n f).comb = d.comb := rfl
@[simp] theorem Dev.setWatch_fb (n : Nat) (f : WatchEntry → WatchEntry) (d : Dev) : (d.setWatch n f).fb = d.fb := rfl
@[simp] theorem Dev.setWatch_follow (n : Nat) (f : WatchEntry → WatchEntry) (d : Dev) : (d.setWatch n f).follow = d.follow := rfl
@[simp] theorem Dev.setWatch_audio (n : Nat) (f : WatchEntry → WatchEntry) (d : Dev) : (d.setWatch n f).audio = d.audio := rfl
@[simp] theorem Dev.setWatch_data (n : Nat) (f : WatchEntry → WatchEntry) (d : Dev) : (d.setWatch n f).data = d.data := rfl
@[simp] theorem Dev.setWatch_cl (n : Nat) (f : WatchEntry → WatchEntry) (d : Dev) : (d.setWatch n f).cl = d.cl := rfl
@[simp] theorem Dev.setWatch_toc (n : Nat) (f : WatchEntry → WatchEntry) (d : Dev) : (d.setWatch n f).toc = d.toc := rfl
@[simp] theorem Dev.setWatch_draws (n : Nat) (f : WatchEntry → WatchEntry) (d : Dev) : (d.setWatch n f).draws = d.draws := rfl
@[simp] theorem Dev.setClPort_now (p : Nat) (f : ClPortSt → ClPortSt) (d : Dev) : (d.setClPort p f).now = d.now := rfl
@[simp] theorem Dev.setClPort_pwr (p : Nat) (f : ClPortSt → ClPortSt) (d : Dev) : (d.setClPort p f).pwr = d.pwr := rfl
@[simp] theorem Dev.setClPort_clk (p : Nat) (f : ClPortSt → ClPortSt) (d : Dev) : (d.setClPort p f).clk = d.clk := rfl
@[simp] theorem Dev.setClPort_regs (p : Nat) (f : ClPortSt → ClPortSt) (d : Dev) : (d.setClPort p f).regs = d.regs := rfl
@[simp] theorem Dev.setClPort_tw (p : Nat) (f : ClPortSt → ClPortSt) (d : Dev) : (d.setClPort p f).tw = d.tw := rfl
@[simp] theorem Dev.setClPort_twc (p : Nat) (f : ClPortSt → ClPortSt) (d : Dev) : (d.setClPort p f).twc = d.twc := rfl
@[simp] theorem Dev.setClPort_proto (p : Nat) (f : ClPortSt → ClPortSt) (d : Dev) : (d.setClPort p f).proto = d.proto := rfl
@[simp] theorem Dev.setClPort_sec (p : Nat) (f : ClPortSt → ClPortSt) (d : Dev) : (d.setClPort p f).sec = d.sec := rfl
@[simp] theorem Dev.setClPort_rf (p : Nat) (f : ClPortSt → ClPortSt) (d : Dev) : (d.setClPort p f).rf = d.rf := rfl
@[simp] theorem Dev.setClPort_cal (p : Nat) (f : ClPortSt → ClPortSt) (d : Dev) : (d.setClPort p f).cal = d.cal := rfl
@[simp] theorem Dev.setClPort_survey (p : Nat) (f : ClPortSt → ClPortSt) (d : Dev) : (d.setClPort p f).survey = d.survey := rfl
@[simp] theorem Dev.setClPort_chan (p : Nat) (f : ClPortSt → ClPortSt) (d : Dev) : (d.setClPort p f).chan = d.chan := rfl
@[simp] theorem Dev.setClPort_trav (p : Nat) (f : ClPortSt → ClPortSt) (d : Dev) : (d.setClPort p f).trav = d.trav := rfl
@[simp] theorem Dev.setClPort_dem (p : Nat) (f : ClPortSt → ClPortSt) (d : Dev) : (d.setClPort p f).dem = d.dem := rfl
@[simp] theorem Dev.setClPort_comb (p : Nat) (f : ClPortSt → ClPortSt) (d : Dev) : (d.setClPort p f).comb = d.comb := rfl
@[simp] theorem Dev.setClPort_fb (p : Nat) (f : ClPortSt → ClPortSt) (d : Dev) : (d.setClPort p f).fb = d.fb := rfl
@[simp] theorem Dev.setClPort_follow (p : Nat) (f : ClPortSt → ClPortSt) (d : Dev) : (d.setClPort p f).follow = d.follow := rfl
@[simp] theorem Dev.setClPort_audio (p : Nat) (f : ClPortSt → ClPortSt) (d : Dev) : (d.setClPort p f).audio = d.audio := rfl
@[simp] theorem Dev.setClPort_data (p : Nat) (f : ClPortSt → ClPortSt) (d : Dev) : (d.setClPort p f).data = d.data := rfl
@[simp] theorem Dev.setClPort_watch (p : Nat) (f : ClPortSt → ClPortSt) (d : Dev) : (d.setClPort p f).watch = d.watch := rfl
@[simp] theorem Dev.setClPort_toc (p : Nat) (f : ClPortSt → ClPortSt) (d : Dev) : (d.setClPort p f).toc = d.toc := rfl
@[simp] theorem Dev.setClPort_draws (p : Nat) (f : ClPortSt → ClPortSt) (d : Dev) : (d.setClPort p f).draws = d.draws := rfl
@[simp] theorem Dev.setIfaceSec_now (x : IfaceSec) (d : Dev) : (d.setIfaceSec x).now = d.now := rfl
@[simp] theorem Dev.setIfaceSec_pwr (x : IfaceSec) (d : Dev) : (d.setIfaceSec x).pwr = d.pwr := rfl
@[simp] theorem Dev.setIfaceSec_clk (x : IfaceSec) (d : Dev) : (d.setIfaceSec x).clk = d.clk := rfl
@[simp] theorem Dev.setIfaceSec_regs (x : IfaceSec) (d : Dev) : (d.setIfaceSec x).regs = d.regs := rfl
@[simp] theorem Dev.setIfaceSec_tw (x : IfaceSec) (d : Dev) : (d.setIfaceSec x).tw = d.tw := rfl
@[simp] theorem Dev.setIfaceSec_twc (x : IfaceSec) (d : Dev) : (d.setIfaceSec x).twc = d.twc := rfl
@[simp] theorem Dev.setIfaceSec_proto (x : IfaceSec) (d : Dev) : (d.setIfaceSec x).proto = d.proto := rfl
@[simp] theorem Dev.setIfaceSec_rf (x : IfaceSec) (d : Dev) : (d.setIfaceSec x).rf = d.rf := rfl
@[simp] theorem Dev.setIfaceSec_cal (x : IfaceSec) (d : Dev) : (d.setIfaceSec x).cal = d.cal := rfl
@[simp] theorem Dev.setIfaceSec_survey (x : IfaceSec) (d : Dev) : (d.setIfaceSec x).survey = d.survey := rfl
@[simp] theorem Dev.setIfaceSec_chan (x : IfaceSec) (d : Dev) : (d.setIfaceSec x).chan = d.chan := rfl
@[simp] theorem Dev.setIfaceSec_trav (x : IfaceSec) (d : Dev) : (d.setIfaceSec x).trav = d.trav := rfl
@[simp] theorem Dev.setIfaceSec_dem (x : IfaceSec) (d : Dev) : (d.setIfaceSec x).dem = d.dem := rfl
@[simp] theorem Dev.setIfaceSec_comb (x : IfaceSec) (d : Dev) : (d.setIfaceSec x).comb = d.comb := rfl
@[simp] theorem Dev.setIfaceSec_fb (x : IfaceSec) (d : Dev) : (d.setIfaceSec x).fb = d.fb := rfl
@[simp] theorem Dev.setIfaceSec_follow (x : IfaceSec) (d : Dev) : (d.setIfaceSec x).follow = d.follow := rfl
@[simp] theorem Dev.setIfaceSec_audio (x : IfaceSec) (d : Dev) : (d.setIfaceSec x).audio = d.audio := rfl
@[simp] theorem Dev.setIfaceSec_data (x : IfaceSec) (d : Dev) : (d.setIfaceSec x).data = d.data := rfl
@[simp] theorem Dev.setIfaceSec_watch (x : IfaceSec) (d : Dev) : (d.setIfaceSec x).watch = d.watch := rfl
@[simp] theorem Dev.setIfaceSec_cl (x : IfaceSec) (d : Dev) : (d.setIfaceSec x).cl = d.cl := rfl
@[simp] theorem Dev.setIfaceSec_toc (x : IfaceSec) (d : Dev) : (d.setIfaceSec x).toc = d.toc := rfl
@[simp] theorem Dev.setIfaceSec_draws (x : IfaceSec) (d : Dev) : (d.setIfaceSec x).draws = d.draws := rfl
@[simp] theorem Dev.discard_now (d : Dev) : (d.discard).now = d.now := rfl
@[simp] theorem Dev.discard_pwr (d : Dev) : (d.discard).pwr = d.pwr := rfl
@[simp] theorem Dev.discard_clk (d : Dev) : (d.discard).clk = d.clk := rfl
@[simp] theorem Dev.discard_regs (d : Dev) : (d.discard).regs = d.regs := rfl
@[simp] theorem Dev.discard_tw (d : Dev) : (d.discard).tw = d.tw := rfl
@[simp] theorem Dev.discard_twc (d : Dev) : (d.discard).twc = d.twc := rfl
@[simp] theorem Dev.discard_proto (d : Dev) : (d.discard).proto = d.proto := rfl
@[simp] theorem Dev.discard_sec (d : Dev) : (d.discard).sec = d.sec := rfl
@[simp] theorem Dev.discard_rf (d : Dev) : (d.discard).rf = d.rf := rfl
@[simp] theorem Dev.discard_cal (d : Dev) : (d.discard).cal = d.cal := rfl
@[simp] theorem Dev.discard_survey (d : Dev) : (d.discard).survey = d.survey := rfl
@[simp] theorem Dev.discard_chan (d : Dev) : (d.discard).chan = d.chan := rfl
@[simp] theorem Dev.discard_trav (d : Dev) : (d.discard).trav = d.trav := rfl
@[simp] theorem Dev.discard_dem (d : Dev) : (d.discard).dem = d.dem := rfl
@[simp] theorem Dev.discard_comb (d : Dev) : (d.discard).comb = d.comb := rfl
@[simp] theorem Dev.discard_fb (d : Dev) : (d.discard).fb = d.fb := rfl
@[simp] theorem Dev.discard_follow (d : Dev) : (d.discard).follow = d.follow := rfl
@[simp] theorem Dev.discard_audio (d : Dev) : (d.discard).audio = d.audio := rfl
@[simp] theorem Dev.discard_data (d : Dev) : (d.discard).data = d.data := rfl
@[simp] theorem Dev.discard_watch (d : Dev) : (d.discard).watch = d.watch := rfl
@[simp] theorem Dev.discard_toc (d : Dev) : (d.discard).toc = d.toc := rfl
@[simp] theorem Dev.discard_draws (d : Dev) : (d.discard).draws = d.draws := rfl

end Sys2Proof.Machine
end

