-- ==== Sys2Proof/Machine/Pins.lean ====
section
/-!
DEFINITION. The balls (chapter 02): the state of every signal ball as the device's state gives it, in reset, in operation, in WATCH and
SLEEP (03 R89, R91), in a halt (R51), on a part that lacks its unit (R63) and while its bank has no supply (R53).
-/
namespace Sys2Proof.Machine

/-- The signal balls of R51, each with its index where a row has several. -/
inductive Ball where
  | ant (n : Nat)
  | lb (n : Nat)
  | axPwr (n : Nat)
  | axByp (n : Nat)
  | axSns (n : Nat)
  | xtalI
  | xtalO
  | resetN
  | irqN
  | alive
  | fuseEn
  | testMode
  | hostSel
  | twAddr (n : Nat)
  | tck
  | tms
  | tdi
  | tdo
  | trstN
  | twScl
  | twSda
  | twAlertN
  | spiClk
  | spiCsN
  | spiIo (n : Nat)
  | gpio (n : Nat)
  | apBclk (n : Nat)
  | apFs (n : Nat)
  | apDout (n : Nat)
  | spdo (n : Nat)
  | spdi
  | mclkIn
  | mclkOut
  | clTx (n : Nat)
  | clRx (n : Nat)
deriving DecidableEq, Repr

/-- What the device does with a ball. -/
inductive PinState where
  /-- Not driven, pulls inactive (R53). -/
  | undriven
  /-- High impedance. -/
  | highZ
  /-- An input, with its pull where R51 gives one. -/
  | input
  /-- Driven to a level. -/
  | level (high : Bool)
  /-- An open-drain output released. -/
  | released
  /-- An open-drain output pulled low. -/
  | pulled
  /-- A clock runs, or the oscillator. -/
  | clock
  /-- Audio frames or IEC 60958 frames are sent. -/
  | data
  /-- 50 Ω to the isolation switch or converter, which is closed or on, or not. -/
  | terminated (on : Bool)
  /-- A serial lane: transmitting or receiving, or electrically idle and off. -/
  | lane (on : Bool)
  /-- A port in operation: its master or its transfer decides. -/
  | operating
deriving DecidableEq, Repr

/-- Bank supply of a ball (R51). -/
def Dev.ballBank (d : Dev) : Ball → IoBank
  | .ant _ | .lb _ => d.pwr.bankRf
  | .axPwr _ | .axByp _ | .axSns _ | .xtalI | .xtalO => d.pwr.bank18
  | .gpio _ | .apBclk _ | .apFs _ | .apDout _ | .spdo _ | .spdi | .mclkIn | .mclkOut => d.pwr.bankA
  | .clTx _ | .clRx _ => d.pwr.bankSer
  | .resetN | .irqN | .alive | .fuseEn | .testMode | .hostSel | .twAddr _ | .tck | .tms | .tdi | .tdo | .trstN | .twScl | .twSda
  | .twAlertN | .spiClk | .spiCsN | .spiIo _ => d.pwr.bankH

/-- Port `n` is configured as a master: its BCLK and FS are outputs (R51, 20 R584). -/
def Dev.portMaster (d : Dev) (n : Nat) : Bool := (d.port n).cfg.any (·.role == 0)

/-- The clock balls of audio port `n` (R51; 20 R575, R576, R584): a running master's clocks run while PLL_AUD's do, in a halt too; a master
that is stopped or gated holds them low, and a port that is a slave or unconfigured has inputs. -/
def Dev.apClock (d : Dev) (n : Nat) : PinState :=
  if !d.portMaster n then .input
  else if (d.port n).run != .stopped && d.audClocks then .clock else .level false

/-- DOUT of audio port `n` (R51; 20 R573, R575, R576): frames while the port sends, low otherwise. -/
def Dev.apDout (d : Dev) (n : Nat) : PinState :=
  let x := d.port n
  if x.run != .stopped && x.clockOk && (d.audClocks || !d.portMaster n) then .data else .level false

/-- An enabled Carillon port, whose lanes are on. -/
def Dev.lanesOn (d : Dev) (n : Nat) : Bool := d.hasFabric && (d.clPort n).mode != .off

/-- State of a ball whose bank is supplied. -/
def Dev.ball (d : Dev) : Ball → PinState
  | .ant n => .terminated (n < d.nInputs && (d.inp n).iso)
  | .lb n => .terminated (n < d.nInputs && (d.inp n).lband != .off)
  | .axPwr n => .level (n < d.nInputs && (d.inp n).amp.pwr)
  | .axByp n => .level (d.nInputs ≤ n || (d.inp n).amp.byp)
  | .axSns _ => .highZ
  | .xtalI | .xtalO => .clock
  | .irqN => if d.irqLow then .pulled else .released
  | .alive => .level d.toc.alive
  | .twAlertN => if d.alertLow then .pulled else .released
  | .twScl | .twSda => if d.inReset then .released else .operating
  | .tdo => .highZ
  | .spiClk | .spiCsN | .spiIo 0 => if d.inReset then .input else .operating
  | .spiIo _ => if d.inReset then .highZ else .operating
  | .gpio n => match d.watch.gpio with
    | some (k, high) => if k = n then .level high else .input
    | none => .input
  | .apBclk n | .apFs n => d.apClock n
  | .apDout n => d.apDout n
  | .spdo n => if (d.audio.spdo.getD n {}).run != .stopped && d.audClocks then .data else .level false
  | .mclkOut => if d.audio.mclkOut != 0 && d.audClocks then .clock else .level false
  | .clTx n => .lane (d.lanesOn n)
  | .clRx n => .lane (d.lanesOn n)
  | .resetN | .fuseEn | .testMode | .hostSel | .twAddr _ | .tck | .tms | .tdi | .trstN | .spdi | .mclkIn => .input

/-- State of a ball (R53): nothing is driven and no pull acts while its bank supply is out of range. -/
def Dev.pin (d : Dev) (b : Ball) : PinState := if (d.ballBank b).inRange then d.ball b else .undriven

/-- The frames that port `n` sent in the last Round, and in a halt the frame it sends: digital zero in every slot, at once
(R51, 20 R563). -/
def Dev.portFrames (d : Dev) (n : Nat) : List (List Int) := if d.toc.halted then (d.port n).zeroFrames 1 else (d.port n).sent

/-- The frames of IEC 60958 output `n` with their validity bits: in a halt zero samples with validity set (R51, 20 R563, R578). -/
def Dev.spdoFrames (d : Dev) (n : Nat) : List (Int × Int × Bool) :=
  if d.toc.halted then [(0, 0, true)] else (d.audio.spdo.getD n {}).sent

/-- The bits that DOUT of port `n` carries over one frame `f` (20 R568), and FS with the inversion that the flags ask for. -/
def Dev.portLine (d : Dev) (n : Nat) (f : List Int) : List (Bool × Bool) :=
  match (d.port n).cfg with
  | none => []
  | some c =>
    let bits := frameBits c f
    let len := bits.length
    (List.range len).map fun i =>
      (bits.getD ((i + len - firstBit c.format) % len) false, Bool.xor (fsLevel c i) (hasBit c.flags 1))

end Sys2Proof.Machine
end

