-- ==== Sys2Proof/Machine/Stages.lean ====
section
/-!
DEFINITION. The stages of the signal path with their rates and formats (01 R29), and the layout of Deep Store (01 R37).
-/
namespace Sys2Proof.Machine

/-! ## Stages (R29) -/

/-- A stage of the signal path (R29); `k` is the decimation exponent of a slot's bank. -/
inductive Stage where
  | adc
  | segment
  | frontEnd
  | slot (k : Nat)
  | fabric (k : Nat)
deriving DecidableEq, Repr

/-- Datum ticks from one sample of the stage to its next: the ADC's rate is 1048.576 MS/s, one sample a tick (R26, R29). -/
def Stage.period : Stage → Nat
  | .adc => 1
  | .segment => 8
  | .frontEnd => 64
  | .slot k | .fabric k => 64 * 2 ^ k

/-- Samples of the stage in a second of undisciplined datum time (R29). -/
def Stage.rate (x : Stage) : Nat := 1048576000 / x.period

/-- Bits of each component of a sample, where the table states them. -/
def Stage.bits : Stage → Option Nat
  | .adc => some 12
  | .segment | .slot _ => some 16
  | .frontEnd => none
  | .fabric _ => some 12

/-- The samples of the stage are complex: every stage but the converter's. -/
def Stage.isComplex : Stage → Bool
  | .adc => false
  | _ => true

/-! ## Deep Store (R37) -/

/-- Banks of Deep Store. -/
def deepBanks : Nat := 16
/-- Bytes of data in a bank: 640 KiB. -/
def deepBankBytes : Nat := 640 * 1024
/-- Data and check bits of a bank word. -/
def deepWordBits : Nat × Nat := (128, 9)
/-- Bytes of a page (R34). -/
def deepPageBytes : Nat := 4096
/-- Pages of Deep Store (R34): the banks hold exactly these. -/
def deepPages : Nat := deepBanks * deepBankBytes / deepPageBytes

/-- The bank, and the byte address in it of the 16-byte word, that hold byte `offset` of page `page`: consecutive lines of 64 bytes lie
in consecutive banks. Which bank holds a page's first line is not stated: bank 0, as 64 lines fill the 16 banks four times over
(DESIGN CHOICE log 139). -/
def deepPlace (page offset : Nat) : Nat × Nat :=
  let line := page * (deepPageBytes / 64) + offset / 64
  (line % deepBanks, line / deepBanks * 64 + offset % 64 / 16 * 16)

/-- The block of region 3 that reports an error of a bank (25 R680). -/
def deepBlock (bank : Nat) : Nat := 16 + bank

end Sys2Proof.Machine
end

