-- ==== Sys2Proof/Tests/Slice0.lean ====
section
/-!
SUPPORT. Tests. First worked examples of the spec, then one ill-formed command for each check of WellFormed, then, for each obligation
with hypotheses, a theorem that shows concrete states and operands which meet them: its n-th part stands for the n-th clause of the
obligation. A part about a command that is admitted (07 R202) says so through `admitted`.
-/
open Sys2Proof Sys2Proof.Machine
namespace Sys2Proof.Tests

/-- A TSY-4880 that has booted: in ACTIVE, one second after datum time 0, with the fuse array read. -/
def upDev : Dev :=
  { now := 8000 * roundTicks + 1000, pwr := { resetN := true, stage := .done, mode := .active, causes := [], sampleStraps := false },
    clk := { pllA := .locked, audOn := true }, sec := { fuseRead := factoryFuses } }

/-- A state with no command waiting. -/
def on (d : Dev) : State := { dev := d, pending := [] }

/-- A command packet (07 R188) with its CRC. -/
def packet (op ctx : Nat) (params : List Byte) : List Byte :=
  let b := u16 op ++ u8 1 ++ u8 0 ++ u8 ctx ++ u8 0 ++ u16 params.length ++ params
  b ++ u16 (crc16 b)

/-- The device with one command packet at the front of Q0. -/
def sent (op ctx : Nat) (params : List Byte) (d : Dev := upDev) : State :=
  on { d with proto.q0 := [{ src := .spi, doneAt := 0, bytes := packet op ctx params }] }

/-- The packet at the front is admitted as one of opcode `op`, and what the command then finds satisfies `p`. -/
def admitted (s : State) (op : Nat) (p : Req → Dev → Bool) : Bool :=
  match s.admits 0 op with
  | some (q, e) => p q e
  | none => false


/-- A Field Book with one entry that is not pinned and 1,024 that are. -/
def fullBook : List (Nat × FbEntry) :=
  (0, { std := 0, freq := 100000 }) :: (List.range 1024).map fun h => (h + 1, { std := 0, freq := 100100 + h, pinned := true })

/-- Fuses with a fabric key. -/
def keyedFuses : List Byte := factoryFuses.take 0x2C ++ List.replicate 16 1 ++ keyCheck (List.replicate 16 1) ++ factoryFuses.drop 0x40

set_option Elab.async false
set_option maxRecDepth 20000
set_option linter.unusedVariables false

/-! ## Worked examples of the spec -/

/-- 07 R189. -/
theorem test_crc16 : crc16 [0x31, 0x32, 0x33, 0x34, 0x35, 0x36, 0x37, 0x38, 0x39] = 0x29B1 := by decide +kernel
/-- 01, 12 "Worked example": the NCO words of 97.4, 225.648 and 1,463.232 MHz. -/
theorem test_tuned_word : tunedWord 1 97400 0 = 0x163C0000 ∧ tunedWord 2 225648 0 = 0x246C0000 ∧ tunedWord 3 1463232 0 = -287309824 := by
  decide
/-- 09: g = −30.5 dB is att 25 dB and lna −5.5 dB. -/
theorem test_att_lna : attOf (-61) = 25 ∧ lnaOf (-61) = -11 := by decide
/-- 11, 12: c = 10^(31/20) gives E 5, 10^(18/20) E 2 and 10^(24/20) E 3. -/
theorem test_exponent : exponentOf 62 = 5 ∧ exponentOf 36 = 2 ∧ exponentOf 48 = 3 := by decide +kernel
/-- 12: factory bank 0 gives D = 29,004 ticks. -/
theorem test_slot_delay : slotDelay 3 62 = 29004 := by decide
/-- 12: a peak of 1,310,720 gives r = 7. -/
theorem test_norm_shift : normShift 1310720 0 = 7 := by decide +kernel
/-- 05: after BOOT_DONE FAST_STATUS reads 0x6A and CMDQ_FREE 8,192. -/
theorem test_after_boot :
    let d : Dev := { upDev with regs.irqStatus := 8, regs.irqEnable := 0x18, proto.q4 := [{ bytes := zeros 64, forSpi := true, forTw := false }] }
    d.fastStatus = 0x6A ∧ d.readReg 0x0080 = 0x00002000 := by decide +kernel
/-- 05: the reply to SYS_INFO is the only one and has 46 bytes. -/
theorem test_sys_info :
    (match exec (.sysInfo 0) (sent 0x0001 0xFF []) with | .next t => t.dev.readReg 0x0084 == 0x002E0001 | _ => false) = true := by
  decide +kernel
/-- 08: the nonce stands in M most significant byte first, then the counter and bytes 0-11. -/
theorem test_mac_message :
    macMessage 0x3C91E2075BA840D6 ([4, 0, 0x5A, 1, 0xFF, 0, 4, 0, 1, 0, 0, 0, 1, 0, 0, 0] ++ zeros 10) =
      [0x3C, 0x91, 0xE2, 0x07, 0x5B, 0xA8, 0x40, 0xD6, 1, 0, 0, 0, 4, 0, 0x5A, 1, 0xFF, 0, 4, 0, 1, 0, 0, 0] := by decide +kernel
/-- 25: an SRAM_UE that follows an unacknowledged injected one, as the mirror shows it. -/
theorem test_mirror_merge :
    let e : ErrIn := { injected := false, level := 0, cls := 1, region := 3, block := 21, master := 0x20, access := 1, addr := 5, detail := 0 }
    let r : FaultRec := { valid := true, injected := true, level := 0, cls := 1, region := 2, block := 1, master := 0x7F, addr := 0x3FFF0
                          capture := 7 }
    (match exec (.tocsinErrorArrival 0 [e] 500) (on { upDev with toc.rcd := r }) with
      | .next t => [0x0200, 0x0204, 0x0208, 0x020C].map t.dev.readReg
      | _ => []) = [0x0001010F, 0x007F0102, 0x0003FFF0, 0x00000002] := by decide +kernel
/-- 07: a PROP_SET of the interface that does not own the system is answered NOT_OWNER (status byte 3 of the reply). -/
theorem test_not_owner :
    let b := packet 0x0005 0xFF [0x02, 0x08, 0, 0, 80, 0, 0, 0]
    (match exec (.propSet 0) (on { upDev with proto.q2 := [{ src := .twoWire, doneAt := 0, bytes := b }] }) with
      | .next t => t.dev.proto.q3.map (at8 · 3)
      | _ => []) = [Status.notOwner.code] := by decide +kernel

/-! ## Ill-formed commands are refused, one for each check of `Instr.wf` -/

/-- A well-formed error. -/
def okErr : ErrIn :=
  { injected := false, level := 0, cls := 1, region := 4, block := 255, master := 255, access := 6, addr := 2 ^ 32 - 1, detail := 2 ^ 64 - 1 }
/-- An error of a region that Tocsin does not have. -/
def badErr : ErrIn := { okErr with region := 5 }
/-- A FAC. -/
def someFac : DrmFac := { mode := 1, occ := 3, long := true, reconf := 0, msc := 16, sdc := 4, toggle := false, first := true, servs := [] }
/-- An SDC. -/
def someSdc : DrmSdc := { servs := [], feed := [], alarm := none, utc := none, applies := false }

theorem test_error_well_formed : okErr.wf = true := by decide
theorem test_error_fields_checked :
    [{ okErr with cls := 0 }, { okErr with cls := 0x11 }, { okErr with level := 4 }, badErr, { okErr with block := 256 },
      { okErr with master := 256 }, { okErr with access := 7 }, { okErr with addr := 2 ^ 32 }, { okErr with detail := 2 ^ 64 }].all
      (fun e => !e.wf) = true := by decide
theorem test_ill_formed_1 :
    ([
      .bootSramInitDone 0 (some badErr), .thermalWarning 0 32768 0, .thermalWarning 0 0 32768, .thermalShutdown 0 [8] 0,
      .thermalShutdown 0 [] 32768, .sysTemp 0 32768 0, .sysTemp 0 0 32768, .spiDataPull 0 256 0, .handshakeTimeout 0 7 0 0 0 0 0,
      .handshakeTimeout 0 0 16 0 0 0 0, .handshakeTimeout 0 0 0 5 0 0 0, .handshakeTimeout 0 0 0 0 256 0 0, .pagerRestore 0 128,
      .pagerPark 0 128, .dwellEnd 0 128, .feInput 0 32768, .agcWindowEnd 0 4 (List.replicate 16384 0) 0 0,
      .agcWindowEnd 0 0 (List.replicate 16383 0) 0 0, .agcWindowEnd 0 0 (List.replicate 16384 2048) 0 0, .auxAdcSample 0 4 0, .xampInrushExpiry 0 4,
      .xampSettleExpiry 0 4, .xampOffDelayExpiry 0 4, .xampRetryWaitExpiry 0 4, .calWrite 0 32768, .synTableWrite 0 32768,
      .calPassEnd 0 4 [] [] 0] : List Instr).all (fun c => !c.wf) = true := by decide +kernel
theorem test_ill_formed_2 :
    ([
      .calPassEnd 0 0 [] [] 0, .calApplyDone 0 4, .syn0SearchEnd 0 0 0 32768, .calTemperatureCheck 0 32768,
      .syn1ChannelCalDone 0 false 0 0 32768, .surveyVisitEnd 0 16, .nbWindowEnd 0 128,
      .amCoarseSearchDone 0 128, .rdsBlockDecoded 0 128 0, .rdsBlockDecoded 0 0 4, .rdsGroupComplete 0 128 0,
      .dabCifDecoded 0 128 0 [] 0, .dabLayer2Frame 0 128 false, .dabSuperframe 0 128 false 0 0 [],
      .dabPacketDataGroup 0 128 0 false false [], .drmModeFound 0 128, .drmFrequencyFound 0 128,
      .drmFrameFound 0 128, .drmFacDecoded 0 128 false someFac, .drmSdcDecoded 0 128 false someSdc,
      .drmMscFrameDecoded 0 128, .drmAudioSuperframe 0 128 false [], .drmTextMessageComplete 0 128 0 [],
      .drmDataUnit 0 128 false [], .drmSyncLoss 0 128] : List Instr).all (fun c => !c.wf) = true := by decide
theorem test_ill_formed_3 :
    ([
      .followEvaluation 0 4, .followAlignMeasurement 0 4, .followAlignTimeout 0 4, .followPartnerReady 0 4,
      .fadeEnd 0 4, .audioFrameDecoded 0 128 false 48 1 [], .audioFrameDecoded 0 0 false 44 1 [], .audioFrameDecoded 0 0 false 48 3 [],
      .audioFrameDecoded 0 0 false 48 1 [(8388608, 0)], .audioFrameDecoded 0 0 false 48 1 [(0, -8388609)], .portFaultFrame 0 4 0,
      .portFaultClear 0 4, .portSlaveClockLost 0 4 0 0 0, .portSlaveClockValid 0 4 0 0 0, .portStopComplete 0 6,
      .motDataGroup 0 128 0 0 0 false [] [], .watchList 0 32768, .watchEntered 0 32768, .watchLevelMeasured 0 0 32768,
      .watchNoSyncTimeout 0 32768, .watchDwellEnd 0 [] 32768, .syn1LockLoss 0 32768, .clPortLinked 0 4 0, .clSyncLost 0 4 0 0,
      .clSignalLost 0 4 0, .helloSend 0 4, .helloFrame 0 4 [],
      .tollFrame 0 4 0 [], .pealFrame 0 4 0 []] : List Instr).all (fun c => !c.wf) = true := by decide
theorem test_ill_formed_4 :
    ([
      .leaveFrame 0 4 0 [], .streamFrame 0 4 0 [], .bundleFrame 0 4 0 [], .remoteCmdFrame 0 4 0 [], .remoteAckFrame 0 4 0 [],
      .remoteReplyFrame 0 4 0 [], .replyAckFrame 0 4 0 [], .reservedFrame 0 4 0 [], .remoteReplyRetryTimeout 0 33 0,
      .clPortDriftSuspect 0 4, .tocsinErrorArrival 0 [badErr] 0, .tocsinErrorArrival 0 [] 32768, .correctableError 0 badErr,
      .watchdogExpiry 0 5 0, .watchdogExpiry 0 0 256, .lockstepMismatch 0 (2 ^ 32), .busTimeout 0 5 0 0 0 0,
      .busTimeout 0 0 256 0 0 0, .busTimeout 0 0 0 256 0 0, .busTimeout 0 0 0 0 7 0, .busTimeout 0 0 0 0 0 (2 ^ 32),
      .rdsBitLockChange 0 128 0, .rdsBitLockChange 0 0 4, .ioBankSupplyChange 0 5 false false, .portGroupBackInStep 0 4 0] : List Instr).all (fun c => !c.wf) = true := by decide
theorem test_well_formed :
    ([.thermalWarning 0 32767 (-32768), .agcWindowEnd 0 3 (List.replicate 16384 2047) 0 0, .surveyVisitEnd 0 15, .drmModeFound 0 127,
      .audioFrameDecoded 0 127 true 12 2 [(-8388608, 8388607)], .portStopComplete 0 5, .ioBankSupplyChange 0 4 0 true,
      .handshakeTimeout 0 6 15 4 255 0 0, .correctableError 0 okErr] : List Instr).all
      Instr.wf = true := by decide +kernel

/-! ## Hypotheses of the statements over every command or step -/

/-- The outcome is a next state that satisfies `p`. -/
def nextHas (o : Host.Outcome State Fault Refusal) (p : State → Bool) : Bool := match o with
  | .next t => p t
  | _ => false

theorem witness_StepRunsTheFrontCommand : (on upDev).pending = [] := rfl
theorem witness_QueueAndDatumTime :
    nextHas (exec (.heartbeat 7) (on upDev)) (fun t => t.dev.now == upDev.now + 7) = true ∧ upDev.clk.pllA ≠ .stopped
    ∧ nextHas (exec (.heartbeat 40) (on { upDev with clk.pllA := .stopped, now := 64 })) (fun t => t.dev.now == 96) = true := by
  and_intros <;> decide +kernel
theorem witness_FusesOnlyBurn :
    nextHas (exec (.fuseProgrammingDone 0 [1, 0, 0, 0] [0, 0, 0, 0] false) (on { upDev with
      sec := { fuseRead := factoryFuses, job := some { offset := 0x10, data := [1, 0, 0, 0] } } })) (fun t =>
        t.dev.sec.fuses != factoryFuses && t.dev.sec.fuses.length == 256) = true
    ∧ upDev.sec.job = none ∧ nextHas (exec (.heartbeat 0) (on upDev)) (fun t => t.dev.sec.fuses == factoryFuses) = true :=
  by and_intros <;> decide +kernel
theorem witness_StrapsHold :
    nextHas (exec (.heartbeat 0) (on { upDev with pwr.hostSel := true })) (fun t => t.dev.pwr.hostSel) = true
    ∧ upDev.pwr.sampleStraps = false ∧ nextHas (exec (.strapSampling 0 true 5) (on upDev)) (fun t => !t.dev.pwr.hostSel) = true
    ∧ upDev.pwr.resetN = true ∧ nextHas (exec (.sysResetTakesEffect 0) (on upDev)) (fun t => !t.dev.pwr.sampleStraps) = true :=
  by and_intros <;> decide +kernel
theorem witness_HaltLeftOnlyByReset :
    nextHas (exec (.resetNAssert 0) (on { upDev with toc.halted := true })) (fun t => !t.dev.toc.halted) = true := by decide +kernel
theorem witness_FirstErrorHeld :
    nextHas (exec (.heartbeat 0) (on { upDev with toc.rcd := { valid := true, cls := 3 } })) (fun t => t.dev.toc.rcd.cls == 3) = true := by
  decide +kernel
theorem witness_RecordInvariantKept :
    upDev.recordHolds ∧ nextHas (step { dev := upDev, pending := [.heartbeat 0] }) (fun t => t.pending == []) = true :=
  ⟨by unfold Dev.recordHolds; decide +kernel, by decide +kernel⟩
theorem witness_EveryCommandGoesOn : ∀ dt, Instr.heartbeat 0 ≠ .reservedOpcode dt := by intro dt; simp

/-! ## States and operands that meet the hypotheses of the obligations -/

theorem witness_SupplyRows :
    (let s : State := on { ({} : Dev) with pwr.aonOk := false, pwr.resetN := true }
     (s.dev.pwr.aonOk = false))
    ∧ (let s : State := State.reset
       (s.dev.pwr.refclk = true))
    ∧ (let bank : Nat := 4
       (bank ≤ 4)) :=
  by and_intros <;> decide +kernel

theorem witness_BootRows :
    (let s : State := on { upDev with now := 1024, pwr.stage := .held, pwr.sampleStraps := true, pwr.coreOk := false }
     let dt : Nat := 0
     (s.dev.toc.halted = false) ∧ (s.dev.pwr.stage = .released ∨ s.dev.pwr.stage = .held) ∧ (s.dev.pwr.aonOk = true) ∧ (s.dev.pwr.refclk = true) ∧ (s.dev.pwr.resetN = true) ∧ (s.dev.pwr.sampleStraps = true) ∧ (s.dev.pwr.seenHighAt + 32 * refTicks ≤ (s.dev.tick dt).now))
    ∧ (let s : State := on { upDev with pwr.stage := .strapped }
       (s.dev.toc.halted = false) ∧ (s.dev.pwr.stage = .strapped ∨ (s.dev.pwr.stage = .released ∧ s.dev.pwr.sampleStraps = false)))
    ∧ (let s : State := on { upDev with pwr.stage := .fused }
       (s.dev.toc.halted = false) ∧ (s.dev.pwr.stage = .fused))
    ∧ (let s : State := on { upDev with pwr.stage := .pllLocked }
       (s.dev.toc.halted = false) ∧ (s.dev.pwr.stage = .pllLocked))
    ∧ (let s : State := on { upDev with pwr.stage := .sramDone }
       (s.dev.toc.halted = false) ∧ (s.dev.pwr.stage = .sramDone))
    ∧ (let s : State := on { upDev with pwr.stage := .romDone }
       (s.dev.toc.halted = false) ∧ (s.dev.pwr.stage = .romDone))
    ∧ (let s : State := on { upDev with pwr.stage := .strapped }
       (s.dev.toc.halted = false) ∧ (s.dev.toc.rcd.valid = false) ∧ (s.dev.pwr.stage = .strapped))
    ∧ (let s : State := on { upDev with pwr.stage := .fused }
       (s.dev.toc.halted = false) ∧ (s.dev.toc.rcd.valid = false) ∧ (s.dev.pwr.stage = .fused))
    ∧ (let s : State := on { upDev with pwr.stage := .pllLocked }
       (s.dev.toc.halted = false) ∧ (s.dev.toc.rcd.valid = false) ∧ (s.dev.pwr.stage = .pllLocked))
    ∧ (let s : State := on { upDev with pwr.stage := .sramDone }
       (s.dev.toc.halted = false) ∧ (s.dev.toc.rcd.valid = false) ∧ (s.dev.pwr.stage = .sramDone)) :=
  by and_intros <;> decide +kernel

theorem witness_ChipFaultsHalt :
    (let s : State := on upDev
     (s.dev.inReset = false) ∧ (s.dev.toc.halted = false) ∧ (s.dev.toc.rcd.valid = false))
    ∧ (let s : State := on upDev
       (s.dev.inReset = false) ∧ (s.dev.toc.halted = false) ∧ (s.dev.toc.rcd.valid = false))
    ∧ (let s : State := on upDev
       (s.dev.inReset = false) ∧ (s.dev.toc.halted = false) ∧ (s.dev.toc.rcd.valid = false))
    ∧ (let s : State := on upDev
       (s.dev.inReset = false) ∧ (s.dev.toc.halted = false) ∧ (s.dev.toc.rcd.valid = false) ∧ (s.dev.clk.pllA ≠ .stopped))
    ∧ (let s : State := on { upDev with clk.pllF := true }
       (s.dev.inReset = false) ∧ (s.dev.toc.halted = false) ∧ (s.dev.toc.rcd.valid = false) ∧ (s.dev.clk.pllA ≠ .stopped) ∧ (s.dev.clk.pllF = true))
    ∧ (let s : State := on upDev
       let dt : Nat := 0
       (s.dev.inReset = false) ∧ (s.dev.toc.halted = false) ∧ (s.dev.toc.rcd.valid = false) ∧ (s.dev.booted = true) ∧ (s.dev.pwr.mode = .active) ∧ ((s.dev.tick dt).sinceRef s.dev.toc.beatAt 65536 = true)) :=
  by and_intros <;> decide +kernel

theorem witness_ThermalWarning :
    (let s : State := on upDev
     let h : Int := 1200
     let limit := 8 * s.dev.prop P.thermalWarn
     (s.dev.izosh = true) ∧ (s.dev.pwr.thermal = false) ∧ (limit ≤ h))
    ∧ (let s : State := on { upDev with pwr.thermal := true }
       let h : Int := 0
       let limit := 8 * s.dev.prop P.thermalWarn
       (s.dev.izosh = true) ∧ (s.dev.pwr.thermal = true) ∧ (h ≤ limit - 40))
    ∧ (let s : State := on upDev
       let h : Int := 0
       let limit := 8 * s.dev.prop P.thermalWarn
       (s.dev.izosh = true) ∧ (s.dev.pwr.thermal = true ∧ limit - 40 < h ∨ s.dev.pwr.thermal = false ∧ h < limit)) :=
  by and_intros <;> decide +kernel

theorem witness_SleepAndResetTakeEffect :
    (let s : State := on { upDev with pwr.sleepSince := some 0 }
     let dt : Nat := 0
     let since : Nat := 0
     (s.dev.booted = true) ∧ (s.dev.toc.halted = false) ∧ (s.dev.pwr.mode = .active) ∧ (s.dev.pwr.sleepSince = some since) ∧ ((s.dev.tick dt).sinceUs since 5000 = true))
    ∧ (let s : State := on { upDev with pwr.resetDue := some (1, 5) }
       let dt : Nat := 0
       let due : Nat := 5
       let scope := 1
       (s.dev.booted = true) ∧ (s.dev.toc.halted = false) ∧ (s.dev.pwr.resetDue = some (scope, due)) ∧ (due ≤ (s.dev.tick dt).now) ∧ (s.dev.pwr.aonOk = true) ∧ (s.dev.pwr.coreOk = true) ∧ (s.dev.pwr.resetN = true) ∧ (s.dev.pwr.testMode = false) ∧ (s.dev.pwr.refclk = true)) :=
  by and_intros <;> decide +kernel

theorem witness_SystemCommands :
    (let s : State := sent 0x0001 0xFF [] upDev
     admitted s 0x0001 (fun q e =>
       decide ((q.badHeader = false) ∧ (q.len = 0))) = true)
    ∧ (let s : State := sent 0x0009 0xFF [] upDev
       admitted s 0x0009 (fun q e =>
         decide ((q.badHeader = false) ∧ (q.len = 0))) = true)
    ∧ (let s : State := sent 0x0002 0xFF [2, 0, 0, 0] upDev
       admitted s 0x0002 (fun q e =>
         decide ((q.badHeader = false) ∧ (q.len = 4) ∧ (zeroAt q.params 1 3 = true) ∧ (q.src = e.proto.owner) ∧ (q.p8 0 = 2) ∧ (e.anyOpen = false) ∧ (e.joined = false) ∧ (e.calBusy = false) ∧ (e.sec.job = none) ∧ (e.inWatch = false))) = true)
    ∧ (let s : State := sent 0x0002 0xFF [0, 0, 0, 0] upDev
       admitted s 0x0002 (fun q e =>
         decide ((q.badHeader = false) ∧ (q.len = 4) ∧ (zeroAt q.params 1 3 = true) ∧ (q.src = e.proto.owner) ∧ (q.p8 0 = 0) ∧ (e.inWatch = false))) = true)
    ∧ (let s : State := sent 0x0002 0xFF [0, 0, 0, 0] { upDev with pwr.mode := .watch, watch.phase := .watching }
       admitted s 0x0002 (fun q e =>
         decide ((q.badHeader = false) ∧ (q.len = 4) ∧ (zeroAt q.params 1 3 = true) ∧ (q.src = e.proto.owner) ∧ (q.p8 0 = 0) ∧ (e.inWatch = true))) = true)
    ∧ (let s : State := sent 0x0004 0xFF [1, 0, 0, 0] { upDev with pwr.fuseEn := true }
       admitted s 0x0004 (fun q e =>
         decide ((q.badHeader = false) ∧ (q.len = 4) ∧ (q.p8 0 = 1 ∨ q.p8 0 = 2) ∧ (zeroAt q.params 1 3 = true) ∧ (q.src = e.proto.owner) ∧ (e.sec.job = none) ∧ (e.inWatch = false))) = true) :=
  by and_intros <;> decide +kernel

theorem witness_WritingOneClears :
    (let s : State := on { upDev with regs.irqStatus := 0x30 }
     let g := 3
     (s.dev.portAnswers = true) ∧ (g < 4))
    ∧ (let s : State := on { upDev with regs.sysRws := 7 }
       (s.dev.portAnswers = true)) :=
  by and_intros <;> decide +kernel

theorem witness_OwnedRegisterWrites :
    (let s : State := on upDev
     let port : RegPort := .spi
     let g := 3
     (s.dev.portAnswers = true) ∧ (s.dev.toc.halted = false) ∧ (port = s.dev.ownerPort) ∧ (g < 4))
    ∧ (let s : State := on upDev
       let port : RegPort := .spi
       (s.dev.portAnswers = true) ∧ (s.dev.toc.halted = false) ∧ (port = s.dev.ownerPort))
    ∧ (let s : State := on upDev
       let port : RegPort := .spi
       let v : Word := 0xC0
       (s.dev.portAnswers = true) ∧ (s.dev.toc.halted = false) ∧ (port = s.dev.ownerPort) ∧ (v.extractLsb' 6 2 = 3))
    ∧ (let s : State := on { upDev with regs.twCfg := 0x110 }
       let port : RegPort := .spi
       let v : Word := 0x12
       (s.dev.portAnswers = true) ∧ (s.dev.toc.halted = false) ∧ (port = s.dev.ownerPort) ∧ (v.extractLsb' 6 2 ≠ 3) ∧ (s.dev.ctrlEn = false ∨ v.getLsbD 5 = true))
    ∧ (let s : State := on { upDev with regs.twCfg := 0x130 }
       let port : RegPort := .spi
       let v : Word := 0x10
       (s.dev.portAnswers = true) ∧ (s.dev.toc.halted = false) ∧ (port = s.dev.ownerPort) ∧ (v.extractLsb' 6 2 ≠ 3) ∧ (s.dev.ctrlEn = true) ∧ (v.getLsbD 5 = false))
    ∧ (let s : State := on upDev
       let dt : Nat := 0
       let port : RegPort := .twoWire
       let v : Word := 1
       let c := Instr.registerWrite 0 .twoWire 0x60 [1]
       (s.dev.portAnswers = true) ∧ (s.dev.toc.halted = false) ∧ (port ≠ s.dev.ownerPort) ∧ (c = Instr.registerWrite dt port 0x60 [v] ∨ c = .twCfgWrite dt port v ∨
             (∃ g < 4, c = .registerWrite dt port (0x50 + 4 * g) [v]))) :=
  by and_intros <;> decide +kernel

theorem witness_SpiInstructions :
    (let s : State := on upDev
     (s.dev.inReset = false))
    ∧ (let s : State := on upDev
       let b := 0
       (s.dev.inReset = false) ∧ (s.dev.portAnswers = true) ∧ (spiInstr b = none))
    ∧ (let s : State := on upDev
       let b := 0x33
       (s.dev.inReset = false) ∧ (spiInstr b ≠ none))
    ∧ (let s : State := on { upDev with proto.q1 := [[1, 2, 3]] }
       let n := 8
       let r := [1, 2, 3]
       let rest := []
       (s.dev.inReset = false) ∧ (s.dev.deliversReplies = true) ∧ (s.dev.proto.q1 = r :: rest) ∧ (r ≠ []) ∧ (3 + r.length ≤ n) ∧ (s.dev.proto.waitOn = none))
    ∧ (let s : State := on { upDev with proto.q1 := [[1, 2, 3]] }
       let n := 4
       (s.dev.inReset = false) ∧ (s.dev.proto.q1.headD [] = [] ∨ n < 3 + (s.dev.proto.q1.headD []).length) ∧ (s.dev.deliversReplies = true))
    ∧ (let s : State := on { upDev with proto.q4 := [{ bytes := List.replicate 64 7, forSpi := true, forTw := false }] }
       let n := 67
       let r := { bytes := List.replicate 64 7, forSpi := true, forTw := false }
       let rest := []
       (s.dev.inReset = false) ∧ (s.dev.izosh = true) ∧ (s.dev.proto.q4 = r :: rest) ∧ (r.forSpi = true) ∧ (r.forTw = false) ∧ (67 ≤ n) ∧ (n < 131))
    ∧ (let s : State := on upDev
       let b := packet 1 0xFF []
       (s.dev.inReset = false) ∧ (s.dev.booted = true) ∧ (s.dev.toc.halted = false) ∧ (s.dev.sleeping = false) ∧ (b.length = packetLength b) ∧ (8 ≤ b.length) ∧ (at16 b 6 ≤ 1024) ∧ (packetLength b ≤ s.dev.cmdqFree) ∧ (crcGood b = true))
    ∧ (let s : State := on upDev
       (s.dev.inReset = false) ∧ (s.dev.booted = true ∨ s.dev.toc.halted = true))
    ∧ (let s : State := on upDev
       let b : List Byte := [1, 0]
       (s.dev.booted = true) ∧ (s.dev.toc.halted = false) ∧ (s.dev.sleeping = false) ∧ (b ≠ []) ∧ (b.length < 8))
    ∧ (let s : State := on { upDev with proto.q0 := [{ src := .spi, doneAt := 0, bytes := zeros 8190 }] }
       let b : List Byte := packet 1 0xFF []
       (s.dev.booted = true) ∧ (s.dev.toc.halted = false) ∧ (s.dev.sleeping = false) ∧ (b ≠ []) ∧ (8 ≤ b.length) ∧ (at16 b 6 ≤ 1024) ∧ (s.dev.cmdqFree < packetLength b))
    ∧ (let s : State := on upDev
       let b : List Byte := [1, 0, 0, 0, 255, 0, 1, 4]
       (s.dev.booted = true) ∧ (s.dev.toc.halted = false) ∧ (s.dev.sleeping = false) ∧ (b ≠ []) ∧ (8 ≤ b.length) ∧ (s.dev.pwr.sleepSince = none) ∧ (1024 < at16 b 6))
    ∧ (let s : State := on upDev
       let b : List Byte := (packet 1 0xFF []).take 9 ++ [0]
       (s.dev.booted = true) ∧ (s.dev.toc.halted = false) ∧ (s.dev.sleeping = false) ∧ (b ≠ []) ∧ (8 ≤ b.length) ∧ (at16 b 6 ≤ 1024) ∧ (packetLength b ≤ s.dev.cmdqFree) ∧ (b.length = packetLength b) ∧ (crcGood b = false))
    ∧ (let s : State := on { upDev with pwr.sleepSince := some 0 }
       let b : List Byte := [1, 0, 0, 0, 255, 0, 1, 4]
       (s.dev.booted = true) ∧ (s.dev.toc.halted = false) ∧ (s.dev.sleeping = false) ∧ (b ≠ []) ∧ (8 ≤ b.length) ∧ (s.dev.pwr.sleepSince.isSome = true))
    ∧ (let s : State := on upDev
       let b : List Byte := (packet 1 0xFF []).take 9
       (s.dev.booted = true) ∧ (s.dev.toc.halted = false) ∧ (s.dev.sleeping = false) ∧ (b ≠ []) ∧ (8 ≤ b.length) ∧ (at16 b 6 ≤ 1024) ∧ (packetLength b ≤ s.dev.cmdqFree) ∧ (b.length ≠ packetLength b)) :=
  by and_intros <;> decide +kernel

theorem witness_TwoWireTarget :
    (let s : State := on upDev
     let hi : Byte := 1
     (s.dev.twAnswers = true) ∧ (s.dev.tw.waiting = none) ∧ (boxLength s.dev.tw.box ≠ some s.dev.tw.box.length) ∧ (boxTooLong s.dev.tw.box = false) ∧ (hi.toNat < 0x80))
    ∧ (let s : State := on { upDev with tw.waiting := some [1] }
       let w := [1]
       (s.dev.twAnswers = true) ∧ (s.dev.tw.waiting = some w))
    ∧ (let s : State := on { upDev with tw.pointer := 4 }
       (s.dev.twAnswers = true) ∧ (s.dev.tw.pointer < 0x8000))
    ∧ (let s : State := on { upDev with tw.pointer := 0x8000 }
       (s.dev.twAnswers = true) ∧ (s.dev.tw.pointer / 0x1000 = 8))
    ∧ (let s : State := on { upDev with tw.pointer := 0x9000, proto.q3 := [[1, 2]] }
       let n := 4
       let r := [1, 2]
       let rest := []
       (s.dev.twAnswers = true) ∧ (s.dev.tw.pointer / 0x1000 = 9) ∧ (s.dev.deliversReplies = true) ∧ (s.dev.proto.q3 = r :: rest) ∧ (r ≠ []) ∧ (2 + r.length ≤ n) ∧ (s.dev.proto.waitOn = none))
    ∧ (let s : State := on { upDev with tw.pointer := 0xA000, proto.q4 := [{ bytes := List.replicate 64 1, forSpi := false, forTw := true }] }
       (s.dev.twAnswers = true) ∧ (s.dev.tw.pointer / 0x1000 = 10))
    ∧ (let s : State := on { upDev with regs.irqStatus := 8, regs.irqRoute := 2 }
       let dt : Nat := 0
       let d := s.dev.tick dt
       (s.dev.twAnswers = true) ∧ (d.alertLow = true))
    ∧ (let s : State := on upDev
       (s.dev.twAnswers = true) ∧ (s.dev.regs.twCfg.getLsbD 8 = true))
    ∧ (let s : State := on { upDev with tw.pointer := 0x9000, proto.q3 := [[1, 2]] }
       let n := 3
       let r : List Byte := [1, 2]
       let rest : List (List Byte) := []
       (s.dev.twAnswers = true) ∧ (s.dev.regs.twCfg.getLsbD 8 = true) ∧ (s.dev.tw.pointer / 0x1000 = 9) ∧ (s.dev.proto.q3 = r :: rest) ∧ (n < 2 + r.length) ∧ (boxTooLong s.dev.tw.box = false))
    ∧ (let s : State := on { upDev with tw.box := [0, 0, 0, 0, 0, 0, 100, 0] ++ List.replicate 12 0 }
       let b : List Byte := List.replicate 12 0
       let hi : Byte := 0x80
       let lo : Byte := 20
       let all := s.dev.tw.box ++ b
       (s.dev.booted = true) ∧ (s.dev.toc.halted = false) ∧ (s.dev.sleeping = false) ∧ (s.dev.pwr.sleepSince = none) ∧ (s.dev.twAnswers = true) ∧ (s.dev.tw.waiting = none) ∧ (hi.toNat / 16 = 8) ∧ (256 * hi.toNat + lo.toNat = 0x8000 + s.dev.tw.box.length) ∧ (b ≠ []) ∧ (s.dev.tw.box.length % 32 + b.length ≤ 32) ∧ (s.dev.tw.box ≠ []) ∧ (8 ≤ all.length → all.length < packetLength all ∧ at16 all 6 ≤ 1024))
    ∧ (let s : State := on upDev
       let b : List Byte := packet 1 0xFF []
       (s.dev.booted = true) ∧ (s.dev.toc.halted = false) ∧ (s.dev.sleeping = false) ∧ (s.dev.pwr.sleepSince = none) ∧ (8 ≤ b.length) ∧ (b.length = packetLength b) ∧ (at16 b 6 ≤ 1024) ∧ (crcGood b = true) ∧ (s.dev.twAnswers = true) ∧ (s.dev.tw.waiting = none) ∧ (b.length ≤ 32) ∧ (b.length ≤ s.dev.mailRoom))
    ∧ (let s : State := on { upDev with proto.q2 := [{ src := .twoWire, doneAt := 0, bytes := zeros 8190 }] }
       let b : List Byte := packet 1 0xFF []
       (s.dev.booted = true) ∧ (s.dev.toc.halted = false) ∧ (s.dev.sleeping = false) ∧ (s.dev.pwr.sleepSince = none) ∧ (8 ≤ b.length) ∧ (b.length = packetLength b) ∧ (at16 b 6 ≤ 1024) ∧ (crcGood b = true) ∧ (s.dev.twAnswers = true) ∧ (s.dev.tw.waiting = none) ∧ (b.length ≤ 32) ∧ (s.dev.mailRoom < b.length))
    ∧ (let s : State := on { upDev with tw.waiting := some (packet 1 0xFF []), tw.box := packet 1 0xFF [] }
       let b : List Byte := packet 1 0xFF []
       (s.dev.booted = true) ∧ (s.dev.toc.halted = false) ∧ (s.dev.sleeping = false) ∧ (s.dev.pwr.sleepSince = none) ∧ (8 ≤ b.length) ∧ (b.length = packetLength b) ∧ (at16 b 6 ≤ 1024) ∧ (crcGood b = true) ∧ (s.dev.tw.waiting = some b) ∧ (b.length ≤ s.dev.mailRoom)) :=
  by and_intros <;> decide +kernel

theorem witness_TwoWireController :
    (let s : State := sent 0x0C01 0xFF [16, 0, 1, 1, 9] { upDev with regs.twCfg := 0x132 }
     admitted s 0x0C01 (fun q e =>
       decide ((q.badHeader = false) ∧ (q.len = 4 + q.p8 2) ∧ (q.p8 2 ≤ 32) ∧ (q.p8 3 ≤ 32) ∧ (q.p8 2 + q.p8 3 ≠ 0) ∧ (0x08 ≤ q.p8 0) ∧ (q.p8 0 ≤ 0x77) ∧ (q.p8 0 ≠ 0x60 + e.pwr.twAddr.toNat) ∧ (q.p8 1 < 4) ∧ (q.src = e.proto.owner) ∧ (e.ctrlEn = true) ∧ (e.inWatch = false) ∧ (e.twc.state = 0))) = true)
    ∧ (let s : State := sent 0x0C02 0xFF [] { upDev with regs.twCfg := 0x132 }
       admitted s 0x0C02 (fun q e =>
         decide ((q.badHeader = false) ∧ (q.len = 0) ∧ (q.src = e.proto.owner) ∧ (e.ctrlEn = true) ∧ (e.inWatch = false) ∧ (e.twc.state = 0))) = true)
    ∧ (let s : State := sent 0x0C03 0xFF [] upDev
       admitted s 0x0C03 (fun q e =>
         decide ((q.badHeader = false) ∧ (q.len = 0) ∧ (e.inWatch = false))) = true)
    ∧ (let s : State := on { upDev with regs.twCfg := 0x132, tw.lastStop := some 0, twc.state := 1, twc.req := some { addr := 0x10, flags := 0, wr := [1], rdLen := 1, input := none } }
       let d := s.dev.tick 0
       let high := false
       (s.dev.izosh = true) ∧ (s.dev.ctrlEn = true) ∧ (s.dev.twc.state = 1 ∨ s.dev.twc.state = 3) ∧ (d.busFree = true ∨ high = true))
    ∧ (let s : State := on { upDev with tw.busBusy := true }
       let d := s.dev.tick 0
       (s.dev.izosh = true) ∧ (d.busFree = false))
    ∧ (let s : State := on { upDev with regs.twCfg := 0x132, twc.state := 3, tw.busBusy := true, twc.req := some { addr := 0x10, flags := 0, wr := [1], rdLen := 1, input := none } }
       let d := s.dev.tick 0
       (s.dev.izosh = true) ∧ (s.dev.twc.state = 1 ∨ s.dev.twc.state = 3) ∧ (d.sinceUs d.twc.since 25000 = true) ∧ (d.busFree = false))
    ∧ (let r : TwcReq := { addr := 0x10, flags := 0, wr := [1], rdLen := 1, input := none }
       let s : State := on { upDev with regs.twCfg := 0x132, twc.state := 2, twc.req := some r, twc.attempts := 7 }
       (s.dev.izosh = true) ∧ (s.dev.twc.state = 2) ∧ (s.dev.twc.req = some r) ∧ (r.input = none) ∧ (s.dev.rf.eepQueue = []) ∧ (s.dev.twc.attempts < 8))
    ∧ (let r : TwcReq := { addr := 0x10, flags := 0, wr := [1], rdLen := 1, input := none }
       let s : State := on { upDev with regs.twCfg := 0x132, twc.state := 2, twc.req := some r, twc.attempts := 8 }
       (s.dev.izosh = true) ∧ (s.dev.twc.state = 2) ∧ (s.dev.twc.req = some r) ∧ (r.input = none) ∧ (s.dev.rf.eepQueue = []) ∧ (8 ≤ s.dev.twc.attempts))
    ∧ (let s : State := on { upDev with regs.twCfg := 0x132, twc.state := 2, twc.req := some { addr := 0x10, flags := 0, wr := [1], rdLen := 1, input := none } }
       let r := 1
       (s.dev.izosh = true) ∧ (s.dev.twc.state = 2) ∧ (r = 1 ∨ r = 2 ∨ r = 3 ∨ r = 7) ∧ ((s.dev.twc.req.bind (·.input)) = none))
    ∧ (let s : State := on { upDev with regs.twCfg := 0x132, twc.state := 2, twc.req := some { addr := 0x10, flags := 0, wr := [1], rdLen := 1, input := none } }
       let dt : Nat := 0
       let d := s.dev.tick dt
       (s.dev.izosh = true) ∧ (s.dev.twc.state = 2) ∧ (d.sinceUs d.twc.since 25000 = true))
    ∧ (let s : State := on { upDev with twc.state := 4 }
       let n := 9
       (s.dev.up = true) ∧ (s.dev.twc.state = 4) ∧ (n ≤ 9))
    ∧ (let s : State := on { upDev with twc.state := 4 }
       let dt : Nat := 0
       let d := s.dev.tick dt
       (s.dev.up = true) ∧ (s.dev.twc.state = 4) ∧ (d.sinceUs d.twc.since 25000 = true))
    ∧ (let d : Dev := { upDev with twc.req := some { addr := 0x10, flags := 0, wr := [1], rdLen := 1, input := none } }
       let r : TwcReq := { addr := 0x10, flags := 0, wr := [1], rdLen := 1, input := none }
       (d.twc.req = some r) ∧ (r.input = none) ∧ (d.rf.eepQueue = []))
    ∧ (let r : TwcReq := { addr := 0x50, flags := 0, wr := [0], rdLen := 32, input := some 3 }
       let d : Dev := { upDev with twc.req := some r }
       let i := 3
       (d.twc.req = some r) ∧ (d.rf.eepQueue = []) ∧ (r.input = some i) ∧ (i < d.rf.inputs.length))
    ∧ (let d : Dev := upDev
       (d.rf.eepQueue = []) ∧ (d.up = true) ∧ (d.pwr.mode ≠ .sleep)) :=
  by and_intros <;> decide +kernel

theorem witness_ProtocolCommands :
    (let s : State := sent 0x0005 0xFF [1, 0, 0, 0, 90, 0, 0, 0] upDev
     admitted s 0x0005 (fun q e =>
       let es := propEntries q.params
       decide ((q.badHeader = false) ∧ (q.len ≠ 0) ∧ (q.len % 8 = 0) ∧ (q.len ≤ 1024) ∧ (q.fits (u64 e.nextBoundary) = true) ∧ (∀ k < es.length, e.idUnfitted ((es.map (·.id)).getD k 0) = false ∧ entryRefused es q.ctx k = false) ∧ (e.brokenSets q.ctx (propValues es) = []) ∧ (q.notPropOwner e = false) ∧ (e.inWatch = false) ∧ (q.ctx = 0xFF ∨ (e.ctxOpen q.ctx = true ∧ e.ctxClosing q.ctx = false)))) = true)
    ∧ (let s : State := sent 0x0006 0xFF [1, 0] upDev
       admitted s 0x0006 (fun q e =>
         let ids := (entriesOf 2 q.params).map fun b => at16 b 0
         let pl := ids.flatMap fun id => u16 id ++ u16 0 ++ s32 (e.stagedProp q.ctx id)
         decide ((q.badHeader = false) ∧ (q.len ≠ 0) ∧ (q.len % 2 = 0) ∧ (q.len ≤ 256) ∧ (∀ k < ids.length, e.idUnfitted (ids.getD k 0) = false ∧ idRefused ids q.ctx k = false) ∧ (q.ctx = 0xFF ∨ (e.ctxOpen q.ctx = true ∧ e.ctxClosing q.ctx = false)) ∧ (q.fits pl = true))) = true)
    ∧ (let s : State := sent 0x0007 0xFF [3, 127, 3, 0] upDev
       admitted s 0x0007 (fun q e =>
         decide ((q.badHeader = false) ∧ (q.len = 4) ∧ (q.p8 0 ≤ q.p8 1) ∧ (q.p8 1 ≤ 127) ∧ (q.p8 2 < 4) ∧ (q.p8 3 = 0) ∧ (q.src = e.proto.owner))) = true)
    ∧ (let s : State := sent 0x0008 0xFF [0, 0, 0, 0] upDev
       admitted s 0x0008 (fun q e =>
         decide ((q.badHeader = false) ∧ (q.len = 4) ∧ (zeroAt q.params 2 2 = true) ∧ (q.src = e.proto.owner) ∧ (e.inWatch = false) ∧ (q.p8 0 = 0) ∧ (q.p8 1 = 0))) = true)
    ∧ (let s : State := sent 0x0008 0xFF [1, 0, 0, 0] upDev
       admitted s 0x0008 (fun q e =>
         decide ((q.badHeader = false) ∧ (q.len = 4) ∧ (zeroAt q.params 2 2 = true) ∧ (q.src = e.proto.owner) ∧ (e.inWatch = false) ∧ (q.p8 0 = 1) ∧ (q.p8 1 = 0) ∧ (e.regs.twCfg.getLsbD 4 = true))) = true)
    ∧ (let s : State := sent 0x0008 0xFF [2, 32, 0, 0] { upDev with cl.routes := [{ addr := 32, port := some 0, hops := 1, uid := [1] }] }
       admitted s 0x0008 (fun q e =>
         decide ((q.badHeader = false) ∧ (q.len = 4) ∧ (zeroAt q.params 2 2 = true) ∧ (q.src = e.proto.owner) ∧ (e.inWatch = false) ∧ (q.p8 0 = 2) ∧ (1 ≤ q.p8 1) ∧ (q.p8 1 ≤ 0x20) ∧ (e.hasFabric = true) ∧ (e.inRoutes (q.p8 1) = true))) = true) :=
  by and_intros <;> decide +kernel

theorem witness_StreamRowsAndReplies :
    (let s : State := sent 0x00FF 0xFF []
     let dt : Nat := 0
     let d := s.dev.tick dt
     let p := { src := .spi, doneAt := 0, bytes := packet 0x00FF 0xFF [] }
     (d.takes = true) ∧ (d.front = some p) ∧ (opcodeDefined p.opcode = false) ∧ (d.factoryOpen p = false) ∧ (d.canReply p.src = true) ∧ (crcGood p.bytes = true) ∧ ((d.taken p).repeats (d.nextReq p) = false))
    ∧ (let p : QPkt := { src := .spi, doneAt := 0, bytes := packet 0xF000 0xFF [] }
       let s : State := on { upDev with sec.unlock := 1, pwr.fuseEn := true, proto.q0 := [p] }
       let d := s.dev.tick 0
       (d.takes = true) ∧ (d.front = some p) ∧ (opcodeDefined p.opcode = false) ∧ (d.factoryRuns p = true))
    ∧ (let s : State := on { upDev with proto.waitOn := some (1, 0), proto.q1 := [[1, 2]] }
       let dt : Nat := 0
       let t := 0
       let r := [1, 2]
       let rest := []
       (s.dev.izosh = true) ∧ (s.dev.proto.waitOn = some (1, t)) ∧ (t + 800 * roundTicks ≤ (s.dev.tick dt).now) ∧ (s.dev.proto.q1 = r :: rest))
    ∧ (let pl : List Byte := [9]
       (pl.length < 0x10000)) :=
  by and_intros <;> decide +kernel

theorem witness_RefusalOrder :
    (let raw : List Byte := [1, 0, 1, 0, 255, 0, 0, 0, 0, 0]
     (crcGood raw = false))
    ∧ (let q : Req := { opcode := 1, tag := 1, flags := 0, ctx := 0xFF, rsv := 0, params := [], src := .spi, seq := 1, crc := packetCrc (packet 1 0xFF []) }
       let raw : List Byte := packet 1 0xFF []
       let d : Dev := { upDev with proto.caches := [(.spi, [{ tag := 1, crc := packetCrc (packet 1 0xFF []), reply := zeros 14 }])] }
       let c := { tag := 1, crc := packetCrc (packet 1 0xFF []), reply := zeros 14 }
       (crcGood raw = true) ∧ (c ∈ (d.cache q.src).head?) ∧ (c.tag = q.tag) ∧ (c.crc = q.crc))
    ∧ (let q : Req := { opcode := 0x0902, tag := 1, flags := 0, ctx := 0xFF, rsv := 0, params := [], src := .spi, seq := 1, crc := packetCrc (packet 1 0xFF []) }
       let raw : List Byte := packet 1 0xFF []
       let d : Dev := { upDev with sec.fuses := factoryFuses.set 8 0x62 }
       (crcGood raw = true) ∧ (d.repeats q = false) ∧ (d.groupFitted q.opcode = false))
    ∧ (let q : Req := { opcode := 1, tag := 1, flags := 0, ctx := 0x80, rsv := 0, params := [], src := .spi, seq := 1, crc := packetCrc (packet 1 0xFF []) }
       let raw : List Byte := packet 1 0xFF []
       let d : Dev := upDev
       (crcGood raw = true) ∧ (d.repeats q = false) ∧ (d.groupFitted q.opcode = true) ∧ (q.ctx ≠ 0xFF) ∧ (d.nCtx ≤ q.ctx)) :=
  by and_intros <;> decide +kernel

theorem witness_AdmissionTouchesOnlyTheStream :
    (let s : State := sent 0x0001 0xFF [] upDev
     let op : Nat := 1
     admitted s op (fun q e =>
       decide (True)) = true)
    ∧ (let s : State := sent 0x0001 0xFF [] upDev
       let op : Nat := 1
       admitted s op (fun q e =>
         let p := { src := .spi, doneAt := 0, bytes := packet 1 0xFF [] }
         let rest := []
         decide ((s.dev.front = some p) ∧ (p.src = .spi) ∧ (s.dev.proto.q0 = p :: rest))) = true)
    ∧ (let s : State := on { upDev with proto.q2 := [{ src := .twoWire, doneAt := 0, bytes := packet 1 0xFF [] }] }
       let op : Nat := 1
       admitted s op (fun q e =>
         let p := { src := .twoWire, doneAt := 0, bytes := packet 1 0xFF [] }
         let rest := []
         decide ((s.dev.front = some p) ∧ (p.src = .twoWire) ∧ (s.dev.proto.q2 = p :: rest))) = true)
    ∧ (let st : Status := .badParam
       (st ≠ .busy) ∧ (st ≠ .halted))
    ∧ (let r : Res := refuse .badParam upDev
       (r.later = false) ∧ (r.status.acts = false)) :=
  by and_intros <;> decide +kernel

theorem witness_AuthenticationRefuses :
    (let d : Dev := { upDev with sec.ifaces := [{ iface := .spi, locked := true }] }
     let q : Req := { opcode := 4, tag := 1, flags := 0, ctx := 0xFF, rsv := 0, params := [], src := .spi, seq := 1, crc := packetCrc (packet 1 0xFF []) }
     (d.critical q = true) ∧ ((d.ifaceSec q.src).locked = true))
    ∧ (let d : Dev := { upDev with sec.fuseRead := factoryFuses.take 0x14 ++ [1] ++ zeros 15 ++ keyCheck ([1] ++ zeros 15) ++ factoryFuses.drop 0x28 }
       let q : Req := { opcode := 4, tag := 1, flags := 0, ctx := 0xFF, rsv := 0, params := [], src := .spi, seq := 1, crc := packetCrc (packet 1 0xFF []) }
       (d.critical q = true) ∧ (d.keyState = 1) ∧ ((d.ifaceSec q.src).locked = false) ∧ (hasBit q.flags 0 = false))
    ∧ (let d : Dev := { upDev with sec.ifaces := [{ iface := .spi, failures := 7 }], sec.fuseRead := factoryFuses.take 0x14 ++ [1] ++ zeros 15 ++ keyCheck ([1] ++ zeros 15) ++ factoryFuses.drop 0x28 }
       let q : Req := { opcode := 4, tag := 1, flags := 0, ctx := 0xFF, rsv := 0, params := [], src := .spi, seq := 1, crc := packetCrc (packet 1 0xFF []) }
       (d.critical q = true) ∧ (d.keyState = 1) ∧ ((d.ifaceSec q.src).locked = false) ∧ (hasBit q.flags 0 = false) ∧ ((d.ifaceSec q.src).failures = 7))
    ∧ (let d : Dev := upDev
       let q : Req := { opcode := 4, tag := 1, flags := 0, ctx := 0xFF, rsv := 0, params := [], src := .spi, seq := 1, crc := packetCrc (packet 1 0xFF []) }
       (d.critical q = true) ∧ (d.keyState = 0) ∧ ((d.ifaceSec q.src).locked = false) ∧ (d.pwr.fuseEn = false ∨ hasBit q.flags 0 = true))
    ∧ (let d : Dev := { upDev with pwr.fuseEn := true }
       let q : Req := { opcode := 4, tag := 1, flags := 0, ctx := 0xFF, rsv := 0, params := [], src := .spi, seq := 1, crc := packetCrc (packet 1 0xFF []) }
       (d.critical q = true) ∧ (d.keyState = 0) ∧ ((d.ifaceSec q.src).locked = false) ∧ (d.pwr.fuseEn = true) ∧ (hasBit q.flags 0 = false))
    ∧ (let d : Dev := { upDev with sec.fuseRead := factoryFuses.take 0x14 ++ [1] ++ zeros 15 ++ keyCheck ([1] ++ zeros 15) ++ factoryFuses.drop 0x28 }
       let b : List Byte := u16 4 ++ u8 1 ++ u8 1 ++ u8 0xFF ++ u8 0 ++ u16 0 ++ u32 1 ++ zeros 10
       let raw : List Byte := b.take 12 ++ mac8 ([1] ++ zeros 15) (macMessage d.sec.nonce b) ++ zeros 2
       let q : Req := { opcode := 4, tag := 1, flags := 1, ctx := 0xFF, rsv := 0, params := [], src := .spi, seq := 1, crc := 0 }
       (d.critical q = true) ∧ (d.keyState = 1) ∧ ((d.ifaceSec q.src).locked = false) ∧ (hasBit q.flags 0 = true) ∧ (packetMac raw = mac8 (slice d.sec.fuseRead 0x14 16) (macMessage d.sec.nonce raw)) ∧ ((d.ifaceSec q.src).last < packetCounter raw)) :=
  by and_intros <;> decide +kernel

theorem witness_SecurityRows :
    (let s : State := sent 0x0B01 0xFF [] upDev
     admitted s 0x0B01 (fun q e =>
       decide ((q.badHeader = false) ∧ (q.len = 0))) = true)
    ∧ (let s : State := sent 0x0B02 0xFF [] upDev
       admitted s 0x0B02 (fun q e =>
         decide ((q.badHeader = false) ∧ (q.len = 0) ∧ (e.inWatch = false))) = true)
    ∧ (let s : State := sent 0x0B03 0xFF [64, 1, 0, 0, 1] { upDev with pwr.fuseEn := true, pwr.vppOk := true }
       admitted s 0x0B03 (fun q e =>
         decide ((q.badHeader = false) ∧ (q.len = 4 + q.p8 1) ∧ (1 ≤ q.p8 1) ∧ (q.p8 1 ≤ 24) ∧ (0x0C ≤ q.p8 0) ∧ (q.p8 0 + q.p8 1 ≤ 0x44) ∧ (zeroAt q.params 2 2 = true) ∧ (fuseSpanBad (q.p8 0) (q.p8 1) (slice q.params 4 (q.p8 1)) = false) ∧ (q.src = e.proto.owner) ∧ (e.pwr.fuseEn = true) ∧ (e.pwr.vppOk = true) ∧ (e.fuseLocked (q.p8 0) (q.p8 1) = false) ∧ (e.inWatch = false))) = true)
    ∧ (let s : State := on { upDev with sec.job := some { offset := 0x0C, data := [1] }, proto.running := some { opcode := 0x0B03, tag := 1, flags := 0, ctx := 0xFF, rsv := 0, params := [], src := .spi, seq := 1, crc := 0 } }
       let j := { offset := 0x0C, data := [1] }
       let r := { opcode := 0x0B03, tag := 1, flags := 0, ctx := 0xFF, rsv := 0, params := [], src := .spi, seq := 1, crc := 0 }
       (s.dev.izosh = true) ∧ (s.dev.sec.job = some j) ∧ (j.stopped = false) ∧ (s.dev.proto.running = some r))
    ∧ (let s : State := on upDev
       (s.dev.sec.job = none))
    ∧ (let s : State := on { upDev with sec.job := some { offset := 0x0C, data := [1] } }
       let j := { offset := 0x0C, data := [1] }
       (s.dev.sec.job = some j))
    ∧ (let s : State := sent 0x0B04 0xFF [1, 0, 0, 0] { upDev with pwr.fuseEn := true }
       admitted s 0x0B04 (fun q e =>
         decide ((q.badHeader = false) ∧ (q.len = 4) ∧ (1 ≤ q.p8 0) ∧ (q.p8 0 ≤ 3) ∧ (zeroAt q.params 1 3 = true) ∧ (q.src = e.proto.owner) ∧ (e.debugBit 1 = false) ∧ (e.inWatch = false))) = true) :=
  by and_intros <;> decide +kernel

theorem witness_PatchLoading :
    (let s : State := sent 0x0003 0xFF [2, 0, 0, 0, 1, 0, 0, 0, 7] { upDev with pwr.fuseEn := true, sec.patch := some { total := 2, rev := 1, crc := 0, image := [5] } }
     admitted s 0x0003 (fun q e =>
       let j := { total := 2, rev := 1, crc := 0, image := [5] }
       decide ((q.badHeader = false) ∧ (zeroAt q.params 1 3 = true) ∧ (q.src = e.proto.owner) ∧ (e.inWatch = false) ∧ (e.sec.committed = none) ∧ (q.p8 0 = 2) ∧ (9 ≤ q.len) ∧ (q.len ≤ 1024) ∧ (e.sec.patch = some j) ∧ (q.p32 4 = j.image.length) ∧ (q.p32 4 + (q.len - 8) ≤ j.total))) = true)
    ∧ (let s : State := sent 0x0003 0xFF [3, 0, 0, 0] { upDev with pwr.fuseEn := true, sec.patch := some { total := 2, rev := 1, crc := 0, image := [5, 6] } }
       admitted s 0x0003 (fun q e =>
         let j := { total := 2, rev := 1, crc := 0, image := [5, 6] }
         decide ((q.badHeader = false) ∧ (zeroAt q.params 1 3 = true) ∧ (q.src = e.proto.owner) ∧ (e.inWatch = false) ∧ (e.sec.committed = none) ∧ (q.p8 0 = 3) ∧ (q.len = 4) ∧ (e.sec.patch = some j) ∧ (j.image.length = j.total))) = true)
    ∧ (let d : Dev := { upDev with sec.committed := some { total := 2, rev := 1, crc := 0, image := [5, 6] } }
       let j : PatchJob := { total := 2, rev := 1, crc := 0, image := [5, 6] }
       (d.sec.committed = some j)) :=
  by and_intros <;> decide +kernel

theorem witness_ClockAndReferenceRows :
    (let s : State := on upDev
     (s.dev.active = true) ∧ (s.dev.clk.audOn = true) ∧ (s.dev.clk.audState ≠ 4))
    ∧ (let s : State := on { upDev with clk.change := some ({ plan := 2, attempt := 1, host := true, holding := false, since := 0 } : PlanChange) }
       let c := ({ plan := 2, attempt := 1, host := true, holding := false, since := 0 } : PlanChange)
       (s.dev.active = true) ∧ (s.dev.clk.change = some c))
    ∧ (let s : State := on { upDev with clk.change := some ({ plan := 2, attempt := 2, host := true, holding := false, since := 0 } : PlanChange) }
       let dt : Nat := 0
       let d := s.dev.tick dt
       let c := ({ plan := 2, attempt := 2, host := true, holding := false, since := 0 } : PlanChange)
       (s.dev.active = true) ∧ (s.dev.clk.change = some c) ∧ (c.holding = false) ∧ (d.sinceRef c.since 16384 = true) ∧ (c.attempt < 3))
    ∧ (let s : State := on { upDev with clk.change := some ({ plan := 2, attempt := 3, host := true, holding := false, since := 0 } : PlanChange) }
       let dt : Nat := 0
       let d := s.dev.tick dt
       let c := ({ plan := 2, attempt := 3, host := true, holding := false, since := 0 } : PlanChange)
       (s.dev.active = true) ∧ (s.dev.clk.change = some c) ∧ (c.holding = false) ∧ (d.sinceRef c.since 16384 = true) ∧ (3 ≤ c.attempt))
    ∧ (let s : State := on { upDev with clk.change := some ({ plan := 2, attempt := 1, host := true, holding := true, since := 0 } : PlanChange) }
       let c := ({ plan := 2, attempt := 1, host := true, holding := true, since := 0 } : PlanChange)
       (s.dev.active = true) ∧ (s.dev.clk.change = some c) ∧ (c.holding = true))
    ∧ (let s : State := on upDev
       let x := 6
       let (far, r, b, held, stalled) := (15, 4, 8, 1, 256)
       (x ≤ 6) ∧ (s.dev.crossingArmed x far r b = true) ∧ (1 ≤ held) ∧ (crossingTimeout x ≤ stalled) ∧ (s.dev.toc.rcd.valid = false))
    ∧ (let s : State := on { upDev with pwr.mode := .sleep }
       let (x, far, r, b, held, stalled) := (0, 0, 0, 0, 1, 256)
       (s.dev.crossingArmed x far r b = false ∨ held = 0 ∨ stalled < crossingTimeout x))
    ∧ (let s : State := on { upDev with clk.audMode := 1, clk.audState := 1 }
       let d := s.dev.tick 0
       let gap := 500
       let faults := List.replicate (edgeFaultsOf gap) d.now ++ d.clk.refFaults.filter d.inRefWindow
       (s.dev.active = true) ∧ (s.dev.clk.audMode ≠ 0) ∧ (faults.length ≤ 4 ∨ s.dev.refHeld = false))
    ∧ (let s : State := on { upDev with clk.audMode := 1, clk.audState := 1, clk.refFaults := List.replicate 4 upDev.now }
       let d := s.dev.tick 0
       let gap := 500
       let faults := List.replicate (edgeFaultsOf gap) d.now ++ d.clk.refFaults.filter d.inRefWindow
       (s.dev.active = true) ∧ (s.dev.clk.audMode ≠ 0) ∧ (4 < faults.length) ∧ (s.dev.refHeld = true))
    ∧ (let s : State := on { upDev with clk.audMode := 1, clk.audState := 1 }
       let gap := 4000
       let off : Int := 0
       (s.dev.active = true) ∧ (s.dev.clk.audMode ≠ 0) ∧ (s.dev.clk.audState = 1 ∨ s.dev.clk.audState = 3) ∧ (4000 ≤ gap ∨ refInRange off = false))
    ∧ (let s : State := on { upDev with clk.audMode := 1, clk.audState := 2 }
       let (edges, worst) := (64, 20000)
       (s.dev.active = true) ∧ (s.dev.clk.audMode ≠ 0) ∧ (s.dev.clk.audState = 2) ∧ (64 ≤ edges) ∧ (refInRange worst = true))
    ∧ (let s : State := on { upDev with clk.audMode := 1, clk.audState := 3 }
       let off : Int := -20000
       (s.dev.active = true) ∧ (s.dev.clk.audState = 3) ∧ (refInRange off = true))
    ∧ (let s : State := on { upDev with clk.audMode := 1, clk.audState := 4, clk.audSince := some 0 }
       let dt : Nat := 0
       let d := s.dev.tick dt
       let off : Int := 20000
       (s.dev.active = true) ∧ (d.relocking = true) ∧ (s.dev.clk.audMode = 0 ∨ refInRange off = true))
    ∧ (let s : State := on { upDev with clk.audMode := 1, clk.audState := 4, clk.audSince := some 0 }
       let dt : Nat := 0
       let d := s.dev.tick dt
       let t0 := 0
       (s.dev.active = true) ∧ (d.relocking = true) ∧ (s.dev.clk.audMode ≠ 0) ∧ (s.dev.clk.audSince = some t0) ∧ (t0 + msec 25 ≤ (s.dev.tick dt).now))
    ∧ (let s : State := on { upDev with toc.halted := true }
       (s.dev.toc.halted = true) ∧ (s.dev.clk.audOn = true) ∧ (s.dev.clk.audState ≠ 4)) :=
  by and_intros <;> decide +kernel

theorem witness_ClockCommands :
    (let s : State := sent 0x0803 0xFF [] upDev
     admitted s 0x0803 (fun q e =>
       decide ((q.badHeader = false) ∧ (e.inWatch = false) ∧ (q.len = 0))) = true)
    ∧ (let s : State := sent 0x0802 0xFF [1, 0, 0, 0] upDev
       admitted s 0x0802 (fun q e =>
         decide ((q.badHeader = false) ∧ (e.inWatch = false) ∧ (q.len = 4) ∧ (q.p8 0 ≤ 2) ∧ (zeroAt q.params 1 3 = true) ∧ (q.src = e.proto.owner) ∧ (e.staged P.spurAuto ≠ 1) ∧ (e.clk.change = none) ∧ (q.p8 0 = e.clk.planLive))) = true)
    ∧ (let s : State := sent 0x0802 0xFF [2, 0, 0, 0] upDev
       admitted s 0x0802 (fun q e =>
         decide ((q.badHeader = false) ∧ (e.inWatch = false) ∧ (q.len = 4) ∧ (q.p8 0 ≤ 2) ∧ (zeroAt q.params 1 3 = true) ∧ (q.src = e.proto.owner) ∧ (e.staged P.spurAuto ≠ 1) ∧ (e.clk.change = none) ∧ (q.p8 0 ≠ e.clk.planLive))) = true)
    ∧ (let s : State := sent 0x0801 0xFF [1, 2, 0, 1] upDev
       admitted s 0x0801 (fun q e =>
         decide ((q.badHeader = false) ∧ (e.inWatch = false) ∧ (q.len = 4) ∧ (q.p8 0 ≤ 3) ∧ (q.p8 1 ≤ 3) ∧ (q.p8 2 ≤ 3) ∧ (q.p8 3 ≤ 1) ∧ (q.p8 0 ≠ 2 → q.p8 2 = 0) ∧ (q.p8 0 ≠ 1 → q.p8 3 = 0) ∧ (q.src = e.proto.owner) ∧ (q.p8 0 = 2 → (e.portCfg (q.p8 2)).map (·.role) = some 1) ∧ (family441 (q.p8 1) = family441 e.clk.audRate ∨ e.familyHeld (q.p8 1) = false) ∧ (e.clk.audPending = false) ∧ (¬ (q.p8 0 = e.clk.audMode ∧ q.p8 1 = e.clk.audRate ∧ q.p8 2 = e.clk.refPort ∧ q.p8 3 = e.clk.mclkRatio)))) = true)
    ∧ (let s : State := sent 0x0801 0xFF [1, 2, 0, 1] { upDev with clk.audMode := 1, clk.audRate := 2, clk.refPort := 0, clk.mclkRatio := 1 }
       admitted s 0x0801 (fun q e =>
       decide ((q.badHeader = false) ∧ (e.inWatch = false) ∧ (q.len = 4) ∧ (q.p8 0 ≤ 3) ∧ (q.p8 1 ≤ 3) ∧ (q.p8 2 ≤ 3) ∧ (q.p8 3 ≤ 1) ∧ (q.p8 0 ≠ 2 → q.p8 2 = 0) ∧ (q.p8 0 ≠ 1 → q.p8 3 = 0) ∧ (q.src = e.proto.owner) ∧ (q.p8 0 = 2 → (e.portCfg (q.p8 2)).map (·.role) = some 1) ∧ (family441 (q.p8 1) = family441 e.clk.audRate ∨ e.familyHeld (q.p8 1) = false) ∧ (e.clk.audPending = false) ∧ (q.p8 0 = e.clk.audMode ∧ q.p8 1 = e.clk.audRate ∧ q.p8 2 = e.clk.refPort ∧ q.p8 3 = e.clk.mclkRatio))) = true) :=
  by and_intros <;> decide +kernel

theorem witness_ContextCommands_1 :
    (let s : State := sent 0x0102 0x03 [] { upDev with trav.ctxs := [(3, { kind := 1, fg := true, prio := 3, owner := .spi, since := 0, state := .running, tuning := some { freq := 100000, inputs := 1, std := 0, step := 0, count := 1 } })] }
     admitted s 0x0102 (fun q e =>
       let x : CtxSt := { kind := 1, fg := true, prio := 3, owner := .spi, since := 0, state := .running, tuning := some { freq := 100000, inputs := 1, std := 0, step := 0, count := 1 } }
       decide ((q.badHeader = false) ∧ (e.ctx? q.ctx = some x) ∧ (q.src = x.owner) ∧ (e.inWatch = false) ∧ (x.closing = none) ∧ (q.len = 0))) = true)
    ∧ (let s : State := sent 0x0103 0x03 [1, 7, 0, 0] { upDev with trav.ctxs := [(3, { kind := 1, fg := true, prio := 3, owner := .spi, since := 0 })] }
       admitted s 0x0103 (fun q e =>
         let x : CtxSt := { kind := 1, fg := true, prio := 3, owner := .spi, since := 0 }
         let fg := q.p8 0 == 1
         decide ((q.badHeader = false) ∧ (e.ctx? q.ctx = some x) ∧ (q.src = x.owner) ∧ (e.inWatch = false) ∧ (x.closing = none) ∧ (q.len = 4) ∧ (q.p8 0 ≤ 1) ∧ (q.p8 1 ≤ 7) ∧ (zeroAt q.params 2 2 = true) ∧ (classPermitted x.kind fg = true) ∧ (x.fg = fg) ∧ ((e.ledgerRow q.ctx x).fg = fg))) = true)
    ∧ (let s : State := sent 0x0103 0x03 [0, 7, 0, 0] { upDev with trav.ctxs := [(3, { kind := 7, fg := true, prio := 3, owner := .spi, since := 0 })] }
       admitted s 0x0103 (fun q e =>
         let x : CtxSt := { kind := 7, fg := true, prio := 3, owner := .spi, since := 0 }
         let fg := q.p8 0 == 1
         let l := e.ledgerWith q.ctx fun r => { r with fg := fg }
         decide ((q.badHeader = false) ∧ (e.ctx? q.ctx = some x) ∧ (q.src = x.owner) ∧ (e.inWatch = false) ∧ (x.closing = none) ∧ (q.len = 4) ∧ (q.p8 0 ≤ 1) ∧ (q.p8 1 ≤ 7) ∧ (zeroAt q.params 2 2 = true) ∧ (classPermitted x.kind fg = true) ∧ (x.fg = true) ∧ (fg = false) ∧ (firstFailure (e.admitBg l) = none))) = true)
    ∧ (let s : State := sent 0x0103 0x03 [1, 7, 0, 0] { upDev with trav.ctxs := [(3, { kind := 7, fg := false, prio := 3, owner := .spi, since := 0 })] }
       admitted s 0x0103 (fun q e =>
         let x : CtxSt := { kind := 7, fg := false, prio := 3, owner := .spi, since := 0 }
         let fg := q.p8 0 == 1
         let l := e.ledgerWith q.ctx fun r => { r with fg := fg }
         decide ((q.badHeader = false) ∧ (e.ctx? q.ctx = some x) ∧ (q.src = x.owner) ∧ (e.inWatch = false) ∧ (x.closing = none) ∧ (q.len = 4) ∧ (q.p8 0 ≤ 1) ∧ (q.p8 1 ≤ 7) ∧ (zeroAt q.params 2 2 = true) ∧ (classPermitted x.kind fg = true) ∧ (x.fg = false) ∧ (fg = true) ∧ (firstFailure (e.admitFg l) = none))) = true)
    ∧ (let s : State := sent 0x0105 0x03 [160, 134, 1, 0, 1, 0, 0, 0, 1, 0, 0, 0, 0, 0, 0, 0] { upDev with trav.ctxs := [(3, { kind := 1, fg := true, prio := 3, owner := .spi, since := 0 })] }
       admitted s 0x0105 (fun q e =>
         let x : CtxSt := { kind := 1, fg := true, prio := 3, owner := .spi, since := 0 }
         decide ((q.badHeader = false) ∧ (e.ctx? q.ctx = some x) ∧ (q.src = x.owner) ∧ (e.inWatch = false) ∧ (x.closing = none) ∧ (q.len = 16) ∧ (zeroAt q.params 10 6 = true) ∧ (e.maskUnfitted q.tuning.inputs = false) ∧ (e.stdUnfitted q.tuning.std = false) ∧ (badTuning x.kind q.tuning = false) ∧ (x.state ≠ .halted) ∧ (e.pinClash q.ctx q.tuning.std = false) ∧ (firstFailure (e.admission q.ctx fun r => { r with tuning := some q.tuning }) = none))) = true)
    ∧ (let s : State := sent 0x0106 0x03 [] { upDev with trav.ctxs := [(3, { kind := 1, fg := true, prio := 3, owner := .spi, since := 0, state := .running, tuning := some { freq := 100000, inputs := 1, std := 0, step := 0, count := 1 } })] }
       admitted s 0x0106 (fun q e =>
         let x : CtxSt := { kind := 1, fg := true, prio := 3, owner := .spi, since := 0, state := .running, tuning := some { freq := 100000, inputs := 1, std := 0, step := 0, count := 1 } }
         decide ((q.badHeader = false) ∧ (e.ctx? q.ctx = some x) ∧ (q.src = x.owner) ∧ (e.inWatch = false) ∧ (x.closing = none) ∧ (q.len = 0) ∧ (x.state ≠ .halted))) = true)
    ∧ (let s : State := sent 0x0107 0x03 [] { upDev with trav.ctxs := [(3, { kind := 1, fg := true, prio := 3, owner := .spi, since := 0, state := .halted, tuning := some { freq := 100000, inputs := 1, std := 0, step := 0, count := 1 } })] }
       admitted s 0x0107 (fun q e =>
         let x : CtxSt := { kind := 1, fg := true, prio := 3, owner := .spi, since := 0, state := .halted, tuning := some { freq := 100000, inputs := 1, std := 0, step := 0, count := 1 } }
         decide ((q.badHeader = false) ∧ (e.ctx? q.ctx = some x) ∧ (q.src = x.owner) ∧ (e.inWatch = false) ∧ (x.closing = none) ∧ (q.len = 0) ∧ (x.state = .halted) ∧ (x.fg = true → firstFailure (e.admission q.ctx fun r => { r with halted := false }) = none))) = true)
    ∧ (let s : State := sent 0x0108 0x03 [0, 0, 0, 0] { upDev with trav.ctxs := [(3, { kind := 1, fg := true, prio := 3, owner := .spi, since := 0 })] }
       admitted s 0x0108 (fun q e =>
         let x : CtxSt := { kind := 1, fg := true, prio := 3, owner := .spi, since := 0 }
         decide ((q.badHeader = false) ∧ (e.ctx? q.ctx = some x) ∧ (q.src = x.owner) ∧ (e.inWatch = false) ∧ (x.closing = none) ∧ (q.len = 4) ∧ (zeroAt q.params 2 2 = true) ∧ (q.p8 0 = 0) ∧ (q.p8 1 = 0))) = true)
    ∧ (let s : State := sent 0x0108 0x03 [1, 0, 0, 0] { upDev with trav.ctxs := [(3, { kind := 1, fg := true, prio := 3, owner := .spi, since := 0 })] }
       admitted s 0x0108 (fun q e =>
         let x : CtxSt := { kind := 1, fg := true, prio := 3, owner := .spi, since := 0 }
         decide ((q.badHeader = false) ∧ (e.ctx? q.ctx = some x) ∧ (q.src = x.owner) ∧ (e.inWatch = false) ∧ (x.closing = none) ∧ (q.len = 4) ∧ (zeroAt q.params 2 2 = true) ∧ (q.p8 0 = 1) ∧ (q.p8 1 = 0) ∧ (e.regs.twCfg.getLsbD 4 = true))) = true)
    ∧ (let s : State := sent 0x0108 0x03 [2, 32, 0, 0] { upDev with trav.ctxs := [(3, { kind := 1, fg := true, prio := 3, owner := .spi, since := 0 })], cl.routes := [{ addr := 32, port := some 0, hops := 1, uid := [1] }] }
       admitted s 0x0108 (fun q e =>
         let x : CtxSt := { kind := 1, fg := true, prio := 3, owner := .spi, since := 0 }
         decide ((q.badHeader = false) ∧ (e.ctx? q.ctx = some x) ∧ (q.src = x.owner) ∧ (e.inWatch = false) ∧ (x.closing = none) ∧ (q.len = 4) ∧ (zeroAt q.params 2 2 = true) ∧ (q.p8 0 = 2) ∧ (1 ≤ q.p8 1) ∧ (q.p8 1 ≤ 0x20) ∧ (e.hasFabric = true) ∧ (e.inRoutes (q.p8 1) = true))) = true)
    ∧ (let s : State := sent 0x0102 0x03 [] { upDev with trav.ctxs := [(3, { kind := 1, fg := true, prio := 3, owner := .twoWire, since := 0 })] }
       admitted s 0x0102 (fun q e =>
         let x : CtxSt := { kind := 1, fg := true, prio := 3, owner := .twoWire, since := 0 }
         decide ((q.badHeader = false) ∧ (e.ctx? q.ctx = some x) ∧ (q.len = 0) ∧ (e.inWatch = false) ∧ (q.src ≠ x.owner))) = true)
    ∧ (let s : State := sent 0x0106 0x03 [] { upDev with trav.ctxs := [(3, { kind := 1, fg := true, prio := 3, owner := .twoWire, since := 0 })] }
       admitted s 0x0106 (fun q e =>
         let x : CtxSt := { kind := 1, fg := true, prio := 3, owner := .twoWire, since := 0 }
         decide ((q.badHeader = false) ∧ (e.ctx? q.ctx = some x) ∧ (q.len = 0) ∧ (e.inWatch = false) ∧ (q.src ≠ x.owner))) = true) :=
  by and_intros <;> decide +kernel

theorem witness_ContextCommands_2 :
    (let s : State := sent 0x0107 0x03 [] { upDev with trav.ctxs := [(3, { kind := 1, fg := true, prio := 3, owner := .twoWire, since := 0 })] }
     admitted s 0x0107 (fun q e =>
       let x : CtxSt := { kind := 1, fg := true, prio := 3, owner := .twoWire, since := 0 }
       decide ((q.badHeader = false) ∧ (e.ctx? q.ctx = some x) ∧ (q.len = 0) ∧ (e.inWatch = false) ∧ (q.src ≠ x.owner))) = true)
    ∧ (let s : State := sent 0x0102 0x03 [] { upDev with trav.ctxs := [(3, { kind := 1, fg := true, prio := 3, owner := .spi, since := 0, closing := some 5 })] }
       admitted s 0x0102 (fun q e =>
         let x : CtxSt := { kind := 1, fg := true, prio := 3, owner := .spi, since := 0, closing := some 5 }
         let b := 5
         decide ((q.badHeader = false) ∧ (e.ctx? q.ctx = some x) ∧ (q.len = 0) ∧ (e.inWatch = false) ∧ (q.src = x.owner) ∧ (x.closing = some b))) = true)
    ∧ (let s : State := sent 0x0106 0x03 [] { upDev with trav.ctxs := [(3, { kind := 1, fg := true, prio := 3, owner := .spi, since := 0, closing := some 5 })] }
       admitted s 0x0106 (fun q e =>
         let x : CtxSt := { kind := 1, fg := true, prio := 3, owner := .spi, since := 0, closing := some 5 }
         let b := 5
         decide ((q.badHeader = false) ∧ (e.ctx? q.ctx = some x) ∧ (q.len = 0) ∧ (e.inWatch = false) ∧ (q.src = x.owner) ∧ (x.closing = some b))) = true)
    ∧ (let s : State := sent 0x0107 0x03 [] { upDev with trav.ctxs := [(3, { kind := 1, fg := true, prio := 3, owner := .spi, since := 0, closing := some 5 })] }
       admitted s 0x0107 (fun q e =>
         let x : CtxSt := { kind := 1, fg := true, prio := 3, owner := .spi, since := 0, closing := some 5 }
         let b := 5
         decide ((q.badHeader = false) ∧ (e.ctx? q.ctx = some x) ∧ (q.len = 0) ∧ (e.inWatch = false) ∧ (q.src = x.owner) ∧ (x.closing = some b))) = true) :=
  by and_intros <;> decide +kernel

theorem witness_ContextOpensAndReads :
    (let s : State := sent 0x0101 0xFF [1, 1, 7, 0] { upDev with trav.ctxs := [(0, { kind := 1, fg := true, prio := 3, owner := .spi, since := 0 })] }
     admitted s 0x0101 (fun q e =>
       let c := 1
       decide ((q.badHeader = false) ∧ (q.len = 4) ∧ (e.kindUnfitted (q.p8 0) = false) ∧ (kindKnown (q.p8 0) = true) ∧ (q.p8 1 ≤ 1) ∧ (classPermitted (q.p8 0) (q.p8 1 == 1) = true) ∧ (q.p8 2 ≤ 7) ∧ (q.p8 3 = 0) ∧ (e.inWatch = false) ∧ (q.ctx = c ∧ c ≠ 0xFF ∨ q.ctx = 0xFF ∧ c < e.nCtx ∧ ∀ k < c, (e.ctx? k).isSome = true) ∧ (e.ctx? c = none) ∧ (q.p8 1 = 1 → (e.ledger.filter (·.fg)).length < 16) ∧ (classPages (e.ledger ++ [{ ctx := c, kind := q.p8 0, fg := q.p8 1 == 1, tuning := none, halted := false }]) (q.p8 1 == 1)
            ≤ (if q.p8 1 = 1 then e.stagedN P.dsQuotaFg else e.stagedN P.dsQuotaBg)))) = true)
    ∧ (let s : State := sent 0x0101 0xFF [8, 0, 7, 0] { upDev with trav.ctxs := (List.range 128).map fun c => (c, { kind := 8, fg := false, prio := 3, owner := .spi, since := 0 }) }
       admitted s 0x0101 (fun q e =>
         decide ((q.badHeader = false) ∧ (q.len = 4) ∧ (e.kindUnfitted (q.p8 0) = false) ∧ (kindKnown (q.p8 0) = true) ∧ (q.p8 1 ≤ 1) ∧ (classPermitted (q.p8 0) (q.p8 1 == 1) = true) ∧ (q.p8 2 ≤ 7) ∧ (q.p8 3 = 0) ∧ (e.inWatch = false) ∧ (q.ctx = 0xFF) ∧ (∀ k < e.nCtx, (e.ctx? k).isSome = true))) = true)
    ∧ (let s : State := sent 0x0101 0x00 [1, 1, 7, 0] { upDev with trav.ctxs := [(0, { kind := 1, fg := true, prio := 3, owner := .spi, since := 0 })] }
       admitted s 0x0101 (fun q e =>
         decide ((q.badHeader = false) ∧ (q.len = 4) ∧ (e.kindUnfitted (q.p8 0) = false) ∧ (kindKnown (q.p8 0) = true) ∧ (q.p8 1 ≤ 1) ∧ (classPermitted (q.p8 0) (q.p8 1 == 1) = true) ∧ (q.p8 2 ≤ 7) ∧ (q.p8 3 = 0) ∧ (e.inWatch = false) ∧ (q.ctx ≠ 0xFF) ∧ ((e.ctx? q.ctx).isSome = true))) = true)
    ∧ (let s : State := sent 0x0104 0x00 [] { upDev with trav.ctxs := [(0, { kind := 1, fg := true, prio := 3, owner := .spi, since := 0, state := .running, tuning := some { freq := 100000, inputs := 1, std := 0, step := 0, count := 1 } })] }
       admitted s 0x0104 (fun q e =>
         let x := { kind := 1, fg := true, prio := 3, owner := .spi, since := 0, state := .running, tuning := some { freq := 100000, inputs := 1, std := 0, step := 0, count := 1 } }
         decide ((q.badHeader = false) ∧ (q.len = 0) ∧ (e.inWatch = false) ∧ (e.ctx? q.ctx = some x))) = true)
    ∧ (let s : State := sent 0x0104 0x00 [] upDev
       admitted s 0x0104 (fun q e =>
         decide ((q.badHeader = false) ∧ (q.len = 0) ∧ (e.inWatch = false) ∧ (e.ctx? q.ctx = none))) = true)
    ∧ (let s : State := sent 0x0109 0xFF [] upDev
       admitted s 0x0109 (fun q e =>
         decide ((q.badHeader = false) ∧ (q.len = 0) ∧ (e.inWatch = false))) = true) :=
  by and_intros <;> decide +kernel

theorem witness_TraverseRows :
    (let s : State := on { upDev with now := 8000 * roundTicks + 65536, rf.inputs := [{ mode := .live }, {}, {}, {}], trav.ctxs := [(3, { kind := 1, fg := true, prio := 3, owner := .spi, since := 0, state := .ready, tuning := some { freq := 100000, inputs := 1, std := 0, step := 0, count := 1 } })] }
     let dt : Nat := 0
     (s.dev.up = true) ∧ (s.dev.pwr.mode = .active) ∧ (((s.dev.tick dt).now) % roundTicks = 65536))
    ∧ (let s : State := on { upDev with now := 8000 * roundTicks + 65536, trav.ctxs := [(3, { kind := 1, fg := true, prio := 3, owner := .spi, since := 0, state := .parked, tuning := some { freq := 100000, inputs := 1, std := 0, step := 0, count := 1 }, park := some { since := 0, dwellLeft := 1, partialM := false, c := 0 } })], trav.plan := some (5, 0, [{ out := [], inn := some (.ctx 3) }]) }
       let dt : Nat := 0
       let d := s.dev.tick dt
       let c := 3
       (s.dev.up = true) ∧ (s.dev.pwr.mode = .active) ∧ (d.planRestores.contains c = true) ∧ (c ∉ s.dev.trav.restored))
    ∧ (let s : State := on { upDev with trav.parking := [(3, 1, 2)] }
       let c := 3
       let m := 1
       let b := 2
       let rest := []
       (s.dev.up = true) ∧ (s.dev.pwr.mode = .active) ∧ (s.dev.trav.parking = (c, m, b) :: rest))
    ∧ (let s : State := on { upDev with trav.ctxs := [(3, { kind := 8, fg := false, prio := 3, owner := .spi, since := 0, state := .running, dwellEnd := some 5, tuning := some { freq := 100000, inputs := 1, std := 0, step := 0, count := 1 } })] }
       let dt : Nat := 0
       let c := 3
       let x := { kind := 8, fg := false, prio := 3, owner := .spi, since := 0, state := .running, dwellEnd := some 5, tuning := some { freq := 100000, inputs := 1, std := 0, step := 0, count := 1 } }
       let b := 5
       (s.dev.up = true) ∧ (s.dev.pwr.mode = .active) ∧ (s.dev.ctx? c = some x) ∧ (x.fg = false) ∧ (x.state = .running) ∧ (x.dwellDone = false) ∧ (x.dwellEnd = some b) ∧ (b ≤ (s.dev.tick dt).now))
    ∧ (let s : State := on { upDev with proto.props := [(P.starveLimit, 0)] }
       (s.dev.up = true) ∧ (s.dev.pwr.mode = .active) ∧ (s.dev.propN P.starveLimit = 0))
    ∧ (let s : State := on { upDev with rf.inputs := [{ mode := .live }, {}, {}, {}], trav.ctxs := [(3, { kind := 8, fg := false, prio := 3, owner := .spi, since := 0, state := .ready, waitFrom := some 0, tuning := some { freq := 100000, inputs := 1, std := 0, step := 0, count := 1 } })], proto.props := [(P.starveLimit, 100)] }
       let dt : Nat := 0
       let d := s.dev.tick dt
       let c := 3
       let x := { kind := 8, fg := false, prio := 3, owner := .spi, since := 0, state := .ready, waitFrom := some 0, tuning := some { freq := 100000, inputs := 1, std := 0, step := 0, count := 1 } }
       let t := 0
       (s.dev.up = true) ∧ (s.dev.pwr.mode = .active) ∧ (s.dev.propN P.starveLimit ≠ 0) ∧ (s.dev.trav.ctxs = [(c, x)]) ∧ (x.inst = none) ∧ (x.fg = false) ∧ (x.waits = true) ∧ (x.starved = false) ∧ (d.entInput (.ctx c) = true) ∧ (x.waitFrom = some t) ∧ (s.dev.propN P.starveLimit ≤ ((s.dev.tick dt).now - t) / roundTicks))
    ∧ (let s : State := on { upDev with now := 8000 * roundTicks }
       let dt : Nat := 0
       (s.dev.up = true) ∧ (((s.dev.tick dt).now) % roundTicks = 0) ∧ (s.dev.pwr.mode = .active))
    ∧ (let s : State := on { upDev with now := 8000 * roundTicks, pwr.mode := .watch }
       let dt : Nat := 0
       (s.dev.up = true) ∧ (((s.dev.tick dt).now) % roundTicks = 0) ∧ (s.dev.pwr.mode = .watch)) :=
  by and_intros <;> decide +kernel

theorem witness_PropertiesApplyAtTheirBoundary :
    (let d : Dev := { upDev with proto.staged := [{ ctx := 0xFF, entries := [(1, 90)], due := 5 }] }
     let p := { ctx := 0xFF, entries := [(1, 90)], due := 5 }
     let id := 1
     let v := 90
     (d.proto.staged = [p]) ∧ (p.ctx = 0xFF) ∧ (p.due ≤ d.now) ∧ ((id, v) ∈ p.entries) ∧ ((p.entries.map (·.1)).Nodup))
    ∧ (let d : Dev := { upDev with proto.staged := [{ ctx := 0xFF, entries := [(1, 90)], due := 5 }] }
       let p := { ctx := 0xFF, entries := [(1, 90)], due := 5 }
       let id := 2
       (d.proto.staged = [p]) ∧ (p.ctx = 0xFF) ∧ (p.due ≤ d.now) ∧ (id ∉ p.entries.map (·.1))) :=
  by and_intros <;> decide +kernel

theorem witness_FrontEndCommands_1 :
    (let s : State := sent 0x0201 0xFF [0, 1, 0, 0] { upDev with rf.inputs := [{ mode := .live }, {}, {}, {}] }
     admitted s 0x0201 (fun q e =>
       let i := q.p8 0
       let x := e.inp i
       decide ((q.badHeader = false) ∧ (q.src = e.proto.owner) ∧ (e.inWatch = false) ∧ (q.p8 0 < e.nInputs) ∧ (q.p8 0 ≤ 3) ∧ (q.len = 4) ∧ (zeroAt q.params 2 2 = true) ∧ (x.offDue = none) ∧ (e.cal.runs.any (·.input == i) = false) ∧ (q.p8 1 = 1) ∧ (x.mode = .live))) = true)
    ∧ (let s : State := sent 0x0201 0xFF [0, 1, 0, 0] { upDev with cal.vals := [some { uid := zeros 8, tCal := 200, pairs := 1, trims := zeros 48, time := 0 }, none, none, none] }
       admitted s 0x0201 (fun q e =>
         let i := q.p8 0
         let x := e.inp i
         let tAvg := 200
         decide ((q.badHeader = false) ∧ (q.src = e.proto.owner) ∧ (e.inWatch = false) ∧ (q.p8 0 < e.nInputs) ∧ (q.p8 0 ≤ 3) ∧ (q.len = 4) ∧ (zeroAt q.params 2 2 = true) ∧ (x.offDue = none) ∧ (e.cal.runs.any (·.input == i) = false) ∧ (q.p8 1 = 1) ∧ (x.mode = .off) ∧ (e.calValid i tAvg = true))) = true)
    ∧ (let s : State := sent 0x0201 0xFF [0, 1, 0, 0] upDev
       admitted s 0x0201 (fun q e =>
         let i := q.p8 0
         let x := e.inp i
         let tAvg := 200
         decide ((q.badHeader = false) ∧ (q.src = e.proto.owner) ∧ (e.inWatch = false) ∧ (q.p8 0 < e.nInputs) ∧ (q.p8 0 ≤ 3) ∧ (q.len = 4) ∧ (zeroAt q.params 2 2 = true) ∧ (x.offDue = none) ∧ (e.cal.runs.any (·.input == i) = false) ∧ (q.p8 1 = 1) ∧ (x.mode = .off) ∧ (e.calValid i tAvg = false))) = true)
    ∧ (let s : State := sent 0x0201 0xFF [0, 0, 0, 0] upDev
       admitted s 0x0201 (fun q e =>
         let i := q.p8 0
         let x := e.inp i
         decide ((q.badHeader = false) ∧ (q.src = e.proto.owner) ∧ (e.inWatch = false) ∧ (q.p8 0 < e.nInputs) ∧ (q.p8 0 ≤ 3) ∧ (q.len = 4) ∧ (zeroAt q.params 2 2 = true) ∧ (x.offDue = none) ∧ (e.cal.runs.any (·.input == i) = false) ∧ (q.p8 1 = 0) ∧ (x.mode = .off))) = true)
    ∧ (let s : State := sent 0x0201 0xFF [0, 0, 0, 0] { upDev with rf.inputs := [{ mode := .live }, {}, {}, {}] }
       admitted s 0x0201 (fun q e =>
         let i := q.p8 0
         let x := e.inp i
         decide ((q.badHeader = false) ∧ (q.src = e.proto.owner) ∧ (e.inWatch = false) ∧ (q.p8 0 < e.nInputs) ∧ (q.p8 0 ≤ 3) ∧ (q.len = 4) ∧ (zeroAt q.params 2 2 = true) ∧ (x.offDue = none) ∧ (e.cal.runs.any (·.input == i) = false) ∧ (q.p8 1 = 0) ∧ (x.mode = .live))) = true)
    ∧ (let s : State := sent 0x0202 0xFF [0, 2, 184, 30, 0, 0, 0, 0] { upDev with rf.inputs := [{ mode := .live, lband := .on }, {}, {}, {}] }
       admitted s 0x0202 (fun q e =>
         let i := q.p8 0
         let x := e.inp i
         decide ((q.badHeader = false) ∧ (q.src = e.proto.owner) ∧ (e.inWatch = false) ∧ (q.p8 0 < e.nInputs) ∧ (q.p8 0 ≤ 3) ∧ (q.len = 8) ∧ (zeroAt q.params 4 4 = true) ∧ (q.p8 1 ≤ 2) ∧ (q.p8 1 ≠ 2 → q.p8 2 = 0 ∧ q.p8 3 = 0) ∧ (-72 ≤ q.ps8 2) ∧ (q.ps8 2 ≤ 48) ∧ (q.p8 3 ≤ 30) ∧ (e.inputLive i = true) ∧ (q.p8 3 ≠ 0 → x.lband.isOn = true))) = true)
    ∧ (let s : State := sent 0x0203 0xFF [0, 0, 0, 0] upDev
       admitted s 0x0203 (fun q e =>
         let i := q.p8 0
         let x := e.inp i
         decide ((q.badHeader = false) ∧ (q.src = e.proto.owner) ∧ (e.inWatch = false) ∧ (q.p8 0 < e.nInputs) ∧ (q.p8 0 ≤ 3) ∧ (q.len = 4) ∧ (zeroAt q.params 3 1 = true) ∧ (x.amp.seqn = none) ∧ (x.amp.faulted = false) ∧ (q.p8 1 = 0) ∧ (q.p8 2 = 0) ∧ (x.amp.pwr = false))) = true)
    ∧ (let s : State := sent 0x0203 0xFF [0, 0, 0, 0] { upDev with rf.inputs := [{ amp := { pwr := true } }, {}, {}, {}] }
       admitted s 0x0203 (fun q e =>
         let i := q.p8 0
         let x := e.inp i
         decide ((q.badHeader = false) ∧ (q.src = e.proto.owner) ∧ (e.inWatch = false) ∧ (q.p8 0 < e.nInputs) ∧ (q.p8 0 ≤ 3) ∧ (q.len = 4) ∧ (zeroAt q.params 3 1 = true) ∧ (x.amp.seqn = none) ∧ (x.amp.faulted = false) ∧ (q.p8 1 = 0) ∧ (q.p8 2 = 0) ∧ (x.amp.pwr = true))) = true)
    ∧ (let s : State := sent 0x0203 0xFF [0, 2, 119, 0] upDev
       admitted s 0x0203 (fun q e =>
         let i := q.p8 0
         let x := e.inp i
         let byp := true
         decide ((q.badHeader = false) ∧ (q.src = e.proto.owner) ∧ (e.inWatch = false) ∧ (q.p8 0 < e.nInputs) ∧ (q.p8 0 ≤ 3) ∧ (q.len = 4) ∧ (zeroAt q.params 3 1 = true) ∧ (x.amp.seqn = none) ∧ (x.amp.faulted = false) ∧ (q.p8 1 = (if byp then 2 else 1)) ∧ (q.p8 2 = 0 ∨ 0x08 ≤ q.p8 2 ∧ q.p8 2 ≤ 0x77) ∧ (x.amp.pwr = false))) = true)
    ∧ (let s : State := sent 0x0203 0xFF [0, 2, 0, 0] { upDev with rf.inputs := [{ amp := { pwr := true } }, {}, {}, {}] }
       admitted s 0x0203 (fun q e =>
         let i := q.p8 0
         let x := e.inp i
         let byp := true
         decide ((q.badHeader = false) ∧ (q.src = e.proto.owner) ∧ (e.inWatch = false) ∧ (q.p8 0 < e.nInputs) ∧ (q.p8 0 ≤ 3) ∧ (q.len = 4) ∧ (zeroAt q.params 3 1 = true) ∧ (x.amp.seqn = none) ∧ (x.amp.faulted = false) ∧ (q.p8 1 = (if byp then 2 else 1)) ∧ (q.p8 2 = 0) ∧ (x.amp.pwr = true) ∧ (x.amp.byp = byp))) = true)
    ∧ (let s : State := sent 0x0203 0xFF [0, 1, 0, 0] { upDev with rf.inputs := [{ amp := { pwr := true } }, {}, {}, {}] }
       admitted s 0x0203 (fun q e =>
         let i := q.p8 0
         let x := e.inp i
         let byp := false
         decide ((q.badHeader = false) ∧ (q.src = e.proto.owner) ∧ (e.inWatch = false) ∧ (q.p8 0 < e.nInputs) ∧ (q.p8 0 ≤ 3) ∧ (q.len = 4) ∧ (zeroAt q.params 3 1 = true) ∧ (x.amp.seqn = none) ∧ (x.amp.faulted = false) ∧ (q.p8 1 = (if byp then 2 else 1)) ∧ (q.p8 2 = 0) ∧ (x.amp.pwr = true) ∧ (x.amp.byp ≠ byp))) = true)
    ∧ (let s : State := sent 0x0203 0xFF [0, 3, 0, 0] { upDev with rf.inputs := [{ amp := { faulted := true } }, {}, {}, {}] }
       admitted s 0x0203 (fun q e =>
         let i := q.p8 0
         let x := e.inp i
         decide ((q.badHeader = false) ∧ (q.src = e.proto.owner) ∧ (e.inWatch = false) ∧ (q.p8 0 < e.nInputs) ∧ (q.p8 0 ≤ 3) ∧ (q.len = 4) ∧ (zeroAt q.params 3 1 = true) ∧ (x.amp.seqn = none) ∧ (x.amp.faulted = true) ∧ (q.p8 1 = 3) ∧ (q.p8 2 = 0))) = true) :=
  by and_intros <;> decide +kernel

theorem witness_FrontEndCommands_2 :
    (let s : State := sent 0x0204 0xFF [3, 0, 0, 0] upDev
     admitted s 0x0204 (fun q e =>
       decide ((q.badHeader = false) ∧ (q.src = e.proto.owner) ∧ (e.inWatch = false) ∧ (q.p8 0 < e.nInputs) ∧ (q.p8 0 ≤ 3) ∧ (q.len = 4) ∧ (zeroAt q.params 2 2 = true) ∧ (q.p8 1 = 0))) = true)
    ∧ (let s : State := sent 0x0204 0xFF [3, 1, 0, 0] upDev
       admitted s 0x0204 (fun q e =>
         decide ((q.badHeader = false) ∧ (q.src = e.proto.owner) ∧ (e.inWatch = false) ∧ (q.p8 0 < e.nInputs) ∧ (q.p8 0 ≤ 3) ∧ (q.len = 4) ∧ (zeroAt q.params 2 2 = true) ∧ (q.p8 1 = 1))) = true)
    ∧ (let s : State := sent 0x0205 0xFF [0, 1, 0, 0] { upDev with rf.inputs := [{ mode := .live }, {}, {}, {}] }
       admitted s 0x0205 (fun q e =>
         let i := q.p8 0
         let x := e.inp i
         decide ((q.badHeader = false) ∧ (q.src = e.proto.owner) ∧ (e.inWatch = false) ∧ (q.p8 0 < e.nInputs) ∧ (q.p8 0 ≤ 3) ∧ (q.len = 4) ∧ (zeroAt q.params 2 2 = true) ∧ (x.mode = .live) ∧ (e.cal.runs.any (·.input == i) = false) ∧ (e.rf.syn0Attempt = 0) ∧ (q.p8 1 = 1) ∧ (x.lband = .off))) = true)
    ∧ (let s : State := sent 0x0205 0xFF [0, 0, 0, 0] { upDev with rf.inputs := [{ mode := .live, lband := .on }, {}, {}, {}] }
       admitted s 0x0205 (fun q e =>
         let i := q.p8 0
         let x := e.inp i
         decide ((q.badHeader = false) ∧ (q.src = e.proto.owner) ∧ (e.inWatch = false) ∧ (q.p8 0 < e.nInputs) ∧ (q.p8 0 ≤ 3) ∧ (q.len = 4) ∧ (zeroAt q.params 2 2 = true) ∧ (x.mode = .live) ∧ (e.cal.runs.any (·.input == i) = false) ∧ (e.rf.syn0Attempt = 0) ∧ (q.p8 1 = 0) ∧ (x.lband = .on))) = true)
    ∧ (let s : State := sent 0x0205 0xFF [0, 1, 0, 0] { upDev with rf.inputs := [{ mode := .live, lband := .on }, {}, {}, {}] }
       admitted s 0x0205 (fun q e =>
         let i := q.p8 0
         let x := e.inp i
         decide ((q.badHeader = false) ∧ (q.src = e.proto.owner) ∧ (e.inWatch = false) ∧ (q.p8 0 < e.nInputs) ∧ (q.p8 0 ≤ 3) ∧ (q.len = 4) ∧ (zeroAt q.params 2 2 = true) ∧ (x.mode = .live) ∧ (e.cal.runs.any (·.input == i) = false) ∧ (e.rf.syn0Attempt = 0) ∧ (q.p8 1 = 1) ∧ (x.lband = .on))) = true)
    ∧ (let s : State := sent 0x0205 0xFF [0, 0, 0, 0] { upDev with rf.inputs := [{ mode := .live }, {}, {}, {}] }
       admitted s 0x0205 (fun q e =>
         let i := q.p8 0
         let x := e.inp i
         decide ((q.badHeader = false) ∧ (q.src = e.proto.owner) ∧ (e.inWatch = false) ∧ (q.p8 0 < e.nInputs) ∧ (q.p8 0 ≤ 3) ∧ (q.len = 4) ∧ (zeroAt q.params 2 2 = true) ∧ (x.mode = .live) ∧ (e.cal.runs.any (·.input == i) = false) ∧ (e.rf.syn0Attempt = 0) ∧ (q.p8 1 = 0) ∧ (x.lband = .off))) = true) :=
  by and_intros <;> decide +kernel

theorem witness_Syn0Rows :
    (let s : State := on { upDev with clk.syn0 := 2 }
     (s.dev.active = true) ∧ (s.dev.clk.syn0 = 2) ∧ (s.dev.rf.syn0Attempt = 0))
    ∧ (let s : State := on { upDev with clk.syn0 := 2, rf := { inputs := [{ mode := .live, lband := .on }, {}, {}, {}], syn0Attempt := 2 } }
       (s.dev.active = true) ∧ (s.dev.clk.syn0 = 2) ∧ (s.dev.rf.syn0Attempt ≠ 0))
    ∧ (let s : State := on { upDev with clk.syn0 := 1, rf.inputs := [{ mode := .live, lband := .on }, {}, {}, {}] }
       (s.dev.active = true) ∧ (s.dev.clk.syn0 = 1) ∧ (s.dev.convertersOn ≠ 0))
    ∧ (let s : State := on { upDev with clk.syn0 := 1, cal.syn0Run := some { startup := false, start := 0, began := true } }
       (s.dev.active = true) ∧ (s.dev.clk.syn0 = 1) ∧ (s.dev.convertersOn = 0))
    ∧ (let s : State := on { upDev with clk.syn0 := 2, rf := { inputs := [{ mode := .live, lband := .on }, {}, {}, {}], syn0Attempt := 2 } }
       let dt : Nat := 0
       let d := s.dev.tick dt
       (s.dev.active = true) ∧ (s.dev.clk.syn0 = 2) ∧ (s.dev.rf.syn0Attempt ≠ 0) ∧ (d.sinceRef d.rf.syn0Since 16384 = true) ∧ (s.dev.rf.syn0Attempt < 3))
    ∧ (let s : State := on { upDev with clk.syn0 := 2, rf := { inputs := [{ mode := .live, lband := .on }, {}, {}, {}], syn0Attempt := 3 } }
       let dt : Nat := 0
       let d := s.dev.tick dt
       (s.dev.active = true) ∧ (s.dev.clk.syn0 = 2) ∧ (s.dev.rf.syn0Attempt ≠ 0) ∧ (d.sinceRef d.rf.syn0Since 16384 = true) ∧ (3 ≤ s.dev.rf.syn0Attempt))
    ∧ (let s : State := on { upDev with clk.syn0 := 1, rf.inputs := [{ mode := .live, lband := .on }, {}, {}, {}], cal.syn0Run := some { startup := false, start := 0, began := true, searches := 5 } }
       let r := { startup := false, start := 0, began := true, searches := 5 }
       (s.dev.active = true) ∧ (s.dev.clk.syn0 = 1) ∧ (s.dev.convertersOn ≠ 0) ∧ (s.dev.rf.loLost = none) ∧ (s.dev.cal.syn0Run = some r) ∧ (2 * (r.searches / 2) + 2 < 8))
    ∧ (let s : State := on { upDev with clk.syn0 := 2, rf := { inputs := [{ mode := .live, lband := .on }, {}, {}, {}], syn0Attempt := 3 } }
       let i := 0
       (i < 4) ∧ (i < s.dev.rf.inputs.length) ∧ ((s.dev.inp i).lband = .on)) :=
  by and_intros <;> decide +kernel

theorem witness_AgcWindows :
    (let s : State := on { upDev with now := 8000 * roundTicks + 16384, rf.inputs := [{ mode := .live }, {}, {}, {}] }
     let dt : Nat := 0
     let i : Nat := 0
     (s.dev.active = true) ∧ (i < s.dev.nInputs) ∧ (s.dev.inputLive i = true) ∧ (((s.dev.tick dt).now) % 16384 = 0))
    ∧ (let s : State := on { upDev with now := 8000 * roundTicks + 16384 }
       let dt : Nat := 0
       let i : Nat := 0
       (s.dev.active = true) ∧ (s.dev.inputLive i = false ∨ ((s.dev.tick dt).now) % 16384 ≠ 0))
    ∧ (let d : Dev := { upDev with rf.inputs := [{ mode := .live }, {}, {}, {}] }
       let i : Nat := 0
       (i < d.rf.inputs.length))
    ∧ (let d : Dev := { upDev with rf.inputs := [{ mode := .live, agcNext := some (2, 10, 20) }, {}, {}, {}] }
       let i : Nat := 0
       let g := 10
       let lb := 20
       (i < d.rf.inputs.length) ∧ ((d.inp i).agcNext = some (2, g, lb)))
    ∧ (let d : Dev := { upDev with rf.inputs := [{ mode := .live, agcNext := some (1, 10, 20) }, {}, {}, {}] }
       let i : Nat := 0
       let g := 10
       let lb := 20
       (i < d.rf.inputs.length) ∧ ((d.inp i).agcNext = some (1, g, lb)))
    ∧ (let d : Dev := { upDev with rf.inputs := [{ mode := .live, agcMode := 1 }, {}, {}, {}] }
       let i : Nat := 0
       (i < d.rf.inputs.length) ∧ ((d.inp i).agcNext = none) ∧ ((d.inp i).agcMode ≠ 0))
    ∧ (let d : Dev := { upDev with rf.inputs := [{ mode := .live }, {}, {}, {}] }
       let i : Nat := 0
       (i < d.rf.inputs.length) ∧ ((d.inp i).agcNext = none) ∧ ((d.inp i).agcMode = 0) ∧ (d.prop (P.agcMinGain i) ≤ d.prop (P.agcMaxGain i)))
    ∧ (let d : Dev := { upDev with rf.inputs := [{ mode := .live }, {}, {}, {}] }
       let i : Nat := 0
       let j := 1
       (i < d.rf.inputs.length) ∧ (j ≠ i)) :=
  by and_intros <;> decide +kernel

theorem witness_AmplifierRows :
    (let s : State := on { upDev with rf.inputs := [{ mode := .live, amp := { pwr := true } }, {}, {}, {}] }
     let dt : Nat := 0
     let i : Nat := 0
     let d := s.dev.tick dt
     let a := (s.dev.inp i).amp
     let mv := 100
     (s.dev.izosh = true) ∧ (i < s.dev.nInputs) ∧ (a.pwr = true) ∧ ((d.classify i mv a).2 = none))
    ∧ (let s : State := on { upDev with rf.inputs := [{ mode := .live, amp := { pwr := true, lastOn := some false } }, {}, {}, {}] }
       let i : Nat := 0
       let a := (s.dev.inp i).amp
       let mv := 1750
       (s.dev.izosh = true) ∧ (i < s.dev.nInputs) ∧ (a.pwr = true) ∧ (1750 ≤ mv))
    ∧ (let s : State := on { upDev with rf.inputs := [{ mode := .live, amp := { pwr := true } }, {}, {}, {}] }
       let dt : Nat := 0
       let i : Nat := 0
       let a := (s.dev.inp i).amp
       (s.dev.izosh = true) ∧ (i < s.dev.nInputs) ∧ (a.pwr = true) ∧ (a.pwrAt + a.times.1 * 8 * roundTicks ≤ (s.dev.tick dt).now))
    ∧ (let s : State := on { upDev with rf.inputs := [{ mode := .live, amp := { pwr := true, seqn := some { kind := .on true, stage := .settling } } }, {}, {}, {}] }
       let dt : Nat := 0
       let i : Nat := 0
       let a := (s.dev.inp i).amp
       let k := .on true
       (s.dev.izosh = true) ∧ (i < s.dev.nInputs) ∧ (a.pwr = true) ∧ (a.pwrAt + a.times.2 * 8 * roundTicks ≤ (s.dev.tick dt).now) ∧ (a.seqn = some { kind := k, stage := .settling }) ∧ (a.eepAddr = 0))
    ∧ (let s : State := on { upDev with rf.inputs := [{ mode := .live, amp := { pwr := true, seqn := some { kind := .off, stage := .offDelay 0 } } }, {}, {}, {}] }
       let dt : Nat := 0
       let i : Nat := 0
       let a := (s.dev.inp i).amp
       let t := 0
       (s.dev.izosh = true) ∧ (i < s.dev.nInputs) ∧ (a.seqn = some { kind := .off, stage := .offDelay t }) ∧ (t + 8 * roundTicks ≤ (s.dev.tick dt).now))
    ∧ (let s : State := on { upDev with rf.inputs := [{ mode := .live, amp := { seqn := some { kind := .on true, stage := .retryWait 0 } } }, {}, {}, {}] }
       let dt : Nat := 0
       let i : Nat := 0
       let a := (s.dev.inp i).amp
       let k := .on true
       let t := 0
       (s.dev.izosh = true) ∧ (i < s.dev.nInputs) ∧ (a.seqn = some { kind := k, stage := .retryWait t }) ∧ (t + msec 1000 ≤ (s.dev.tick dt).now))
    ∧ (let s : State := on { upDev with twc.state := 2, twc.req := some { addr := 0x50, flags := 0, wr := [0], rdLen := 32, input := some 0 }, regs.twCfg := 0x132, rf.inputs := [{ amp := { pwr := true, seqn := some { kind := .on true, stage := .reading } } }, {}, {}, {}] }
       let i : Nat := 0
       let r := { addr := 0x50, flags := 0, wr := [0], rdLen := 32, input := some 0 }
       (s.dev.izosh = true) ∧ (i < s.dev.nInputs) ∧ (s.dev.twc.state = 2) ∧ (s.dev.ctrlEn = true) ∧ (s.dev.twc.req = some r) ∧ (r.input = some i)) :=
  by and_intros <;> decide +kernel

theorem witness_CalibrationRows_1 :
    (let s : State := on { upDev with rf.inputs := [{ mode := .live }, {}, {}, {}], cal.runs := [{ input := 0, startup := false, start := 0, began := true, gains := (5, 6), passes := 0 }] }
       let dt : Nat := 0
       let i : Nat := 0
       let r : CalRun := { input := 0, startup := false, start := 0, began := true, gains := (5, 6), passes := 0 }
       let trims : List Byte := zeros 48
       let codes : List Int := []
       let n := r.passes + 1
       (s.dev.active = true) ∧ (s.dev.calRun i = some r) ∧ (r.began = true) ∧ (r.outcome = none) ∧ (r.passes < 8) ∧ (trims.length = 48) ∧ (r.start + (2 + 8 * (r.passes + 1)) * roundTicks ≤ (s.dev.tick dt).now) ∧ (residueOf codes = none) ∧ (n % 2 = 1))
    ∧ (let s : State := on { upDev with rf.inputs := [{ mode := .live }, {}, {}, {}], cal.runs := [{ input := 0, startup := false, start := 0, began := true, gains := (5, 6), passes := 1, first := zeros 48 }] }
       let dt : Nat := 0
       let i : Nat := 0
       let r : CalRun := { input := 0, startup := false, start := 0, began := true, gains := (5, 6), passes := 1, first := zeros 48 }
       let trims : List Byte := zeros 48
       let codes : List Int := []
       let n := r.passes + 1
       (s.dev.active = true) ∧ (s.dev.calRun i = some r) ∧ (r.began = true) ∧ (r.outcome = none) ∧ (r.passes < 8) ∧ (trims.length = 48) ∧ (r.start + (2 + 8 * (r.passes + 1)) * roundTicks ≤ (s.dev.tick dt).now) ∧ (residueOf codes = none) ∧ (n % 2 = 0) ∧ (r.broken = false) ∧ (passesAgree r.first trims = true))
    ∧ (let s : State := on { upDev with rf.inputs := [{ mode := .live }, {}, {}, {}], cal.runs := [{ input := 0, startup := false, start := 0, began := true, gains := (5, 6), passes := 1, first := [3] ++ zeros 47 }] }
       let dt : Nat := 0
       let i : Nat := 0
       let r : CalRun := { input := 0, startup := false, start := 0, began := true, gains := (5, 6), passes := 1, first := [3] ++ zeros 47 }
       let trims : List Byte := zeros 48
       let codes : List Int := []
       let n := r.passes + 1
       (s.dev.active = true) ∧ (s.dev.calRun i = some r) ∧ (r.began = true) ∧ (r.outcome = none) ∧ (r.passes < 8) ∧ (trims.length = 48) ∧ (r.start + (2 + 8 * (r.passes + 1)) * roundTicks ≤ (s.dev.tick dt).now) ∧ (residueOf codes = none) ∧ (n % 2 = 0) ∧ (n < 8) ∧ (r.broken = true ∨ passesAgree r.first trims = false))
    ∧ (let s : State := on { upDev with rf.inputs := [{ mode := .live }, {}, {}, {}], cal.runs := [{ input := 0, startup := false, start := 0, began := true, gains := (5, 6), passes := 7, first := zeros 48, broken := true }] }
       let dt : Nat := 0
       let i : Nat := 0
       let r : CalRun := { input := 0, startup := false, start := 0, began := true, gains := (5, 6), passes := 7, first := zeros 48, broken := true }
       let trims : List Byte := zeros 48
       let codes : List Int := []
       let n := r.passes + 1
       (s.dev.active = true) ∧ (s.dev.calRun i = some r) ∧ (r.began = true) ∧ (r.outcome = none) ∧ (r.passes < 8) ∧ (trims.length = 48) ∧ (r.start + (2 + 8 * (r.passes + 1)) * roundTicks ≤ (s.dev.tick dt).now) ∧ (residueOf codes = none) ∧ (n = 8) ∧ (r.broken = true ∨ passesAgree r.first trims = false))
    ∧ (let s : State := on { upDev with rf.inputs := [{ mode := .live }, {}, {}, {}], cal.runs := [{ input := 0, startup := false, start := 0, began := true, gains := (5, 6), outcome := some (.disagree, 5) }] }
       let dt : Nat := 0
       let i := 0
       let r := { input := 0, startup := false, start := 0, began := true, gains := (5, 6), outcome := some (.disagree, 5) }
       let o := .disagree
       let due := 5
       (s.dev.active = true) ∧ (i < s.dev.rf.inputs.length) ∧ (s.dev.calRun i = some r) ∧ (r.outcome = some (o, due)) ∧ (due ≤ (s.dev.tick dt).now) ∧ (r.applied = false))
    ∧ (let s : State := on { upDev with cal.syn0Run := some { startup := false, start := 0, began := true } }
       let dt : Nat := 0
       let r := { startup := false, start := 0, began := true }
       (s.dev.active = true) ∧ (s.dev.cal.syn0Run = some r) ∧ (r.began = true) ∧ (r.start + usec (400 * (r.searches + 1)) ≤ (s.dev.tick dt).now) ∧ (r.searches % 2 = 0))
    ∧ (let s : State := on { upDev with cal.syn0Run := some { startup := false, start := 0, began := true, searches := 1, first := (1, 2) } }
       let dt : Nat := 0
       let r := { startup := false, start := 0, began := true, searches := 1, first := (1, 2) }
       let band := 1
       let cap := 4
       (s.dev.active = true) ∧ (s.dev.cal.syn0Run = some r) ∧ (r.began = true) ∧ (r.start + usec (400 * (r.searches + 1)) ≤ (s.dev.tick dt).now) ∧ (r.searches % 2 = 1) ∧ (band ≠ r.first.1 ∨ r.first.2 + 1 < cap ∨ cap + 1 < r.first.2))
    ∧ (let s : State := on { upDev with cal.syn0Run := some { startup := false, start := 0, began := true, searches := 1, first := (1, 2) } }
       let dt : Nat := 0
       let r := { startup := false, start := 0, began := true, searches := 1, first := (1, 2) }
       let band := 1
       let cap := 3
       (s.dev.active = true) ∧ (s.dev.cal.syn0Run = some r) ∧ (r.began = true) ∧ (r.start + usec (400 * (r.searches + 1)) ≤ (s.dev.tick dt).now) ∧ (r.searches % 2 = 1) ∧ (band = r.first.1) ∧ (cap ≤ r.first.2 + 1) ∧ (r.first.2 ≤ cap + 1))
    ∧ (let s : State := on upDev
       let dt : Nat := 0
       (s.dev.active = true) ∧ (((s.dev.tick dt).now) % (8 * roundTicks) ≠ 0))
    ∧ (let s : State := on { upDev with now := 8000 * roundTicks }
       let dt : Nat := 0
       (s.dev.active = true) ∧ (((s.dev.tick dt).now) % (8 * roundTicks) = 0) ∧ (∀ i < 4, s.dev.inputLive i = false))
    ∧ (let v : CalVals := { uid := zeros 8, tCal := 200, pairs := 1, trims := zeros 48, time := 0 }
       let s : State := on { upDev with rf.inputs := [{ mode := .live }, {}, {}, {}], cal.runs := [{ input := 0, startup := false, start := 0, began := true, gains := (5, 6), outcome := some (.agreed 1 v, 5) }] }
       let dt : Nat := 0
       let i := 0
       let r := { input := 0, startup := false, start := 0, began := true, gains := (5, 6), outcome := some (.agreed 1 v, 5) }
       let o := .agreed 1 v
       let due := 5
       (s.dev.active = true) ∧ (i < s.dev.rf.inputs.length) ∧ (s.dev.calRun i = some r) ∧ (r.outcome = some (o, due)) ∧ (due ≤ (s.dev.tick dt).now) ∧ (r.applied = false)) :=
  by and_intros <;> decide +kernel

/-- One strong sample leaves a residue in every bin. -/
theorem residue_of_impulse : ∃ l f, residueOf [2 ^ 31] = some (l, f) :=
  residueOf_some (k := 2) (by decide +kernel) residueAt_two (by decide +kernel)
theorem witness_CalibrationRows_3 :
    (let s : State := on { upDev with rf.inputs := [{ mode := .live }, {}, {}, {}], cal.runs := [{ input := 0, startup := false, start := 0, began := true, gains := (5, 6), passes := 0 }] }
     let dt : Nat := 0
     let i : Nat := 0
     let r : CalRun := { input := 0, startup := false, start := 0, began := true, gains := (5, 6), passes := 0 }
     let trims : List Byte := zeros 48
     let codes : List Int := [2 ^ 31]
     let n := r.passes + 1
     (∃ l f, residueOf codes = some (l, f)) ∧ (s.dev.active = true) ∧ (s.dev.calRun i = some r) ∧ (r.began = true) ∧ (r.outcome = none) ∧ (r.passes < 8) ∧ (trims.length = 48) ∧ (r.start + (2 + 8 * (r.passes + 1)) * roundTicks ≤ (s.dev.tick dt).now) ∧ (n % 2 = 1))
    ∧ (let s : State := on { upDev with rf.inputs := [{ mode := .live }, {}, {}, {}], cal.runs := [{ input := 0, startup := false, start := 0, began := true, gains := (5, 6), passes := 7, first := zeros 48 }] }
       let dt : Nat := 0
       let i : Nat := 0
       let r : CalRun := { input := 0, startup := false, start := 0, began := true, gains := (5, 6), passes := 7, first := zeros 48 }
       let trims : List Byte := zeros 48
       let codes : List Int := [2 ^ 31]
       let n := r.passes + 1
       (∃ l f, residueOf codes = some (l, f)) ∧ (s.dev.active = true) ∧ (s.dev.calRun i = some r) ∧ (r.began = true) ∧ (r.outcome = none) ∧ (r.passes < 8) ∧ (trims.length = 48) ∧ (r.start + (2 + 8 * (r.passes + 1)) * roundTicks ≤ (s.dev.tick dt).now) ∧ (n % 2 = 0)) :=
  ⟨⟨residue_of_impulse, by decide +kernel⟩, ⟨residue_of_impulse, by decide +kernel⟩⟩
theorem witness_CalibrationRows_2 :
    (let s : State := on { upDev with now := 8000 * roundTicks, rf.inputs := [{ mode := .live }, {}, {}, {}], cal.vals := [some { uid := zeros 8, tCal := 200, pairs := 1, trims := zeros 48, time := 0 }, none, none, none] }
     let dt : Nat := 0
     let tAvg := 360
     let c := 200
     (s.dev.active = true) ∧ (((s.dev.tick dt).now) % (8 * roundTicks) = 0) ∧ (s.dev.inputLive 0 = true) ∧ (s.dev.tCal 0 = some c) ∧ (s.dev.cal.advised.getD 0 false = false) ∧ (∀ i < 4, i ≠ 0 → s.dev.inputLive i = false) ∧ (s.dev.cal.advised.length = 4) ∧ (160 ≤ (tAvg - c).natAbs))
    ∧ (let s : State := on { upDev with now := 8000 * roundTicks, rf.inputs := [{ mode := .live }, {}, {}, {}], cal.vals := [some { uid := zeros 8, tCal := 200, pairs := 1, trims := zeros 48, time := 0 }, none, none, none] }
       let dt : Nat := 0
       let tAvg := 340
       let c := 200
       (s.dev.active = true) ∧ (((s.dev.tick dt).now) % (8 * roundTicks) = 0) ∧ (s.dev.inputLive 0 = true) ∧ (s.dev.tCal 0 = some c) ∧ (s.dev.cal.advised.getD 0 false = false) ∧ (∀ i < 4, i ≠ 0 → s.dev.inputLive i = false) ∧ (s.dev.cal.advised.length = 4) ∧ ((tAvg - c).natAbs < 160))
    ∧ (let s : State := on { upDev with cal.syn1Run := some { left := [200000, 210000], start := 0 } }
       let dt : Nat := 0
       let r := { left := [200000, 210000], start := 0 }
       let f := 200000
       let rest := [210000]
       let ok := false
       let band := 1
       let cap := 2
       let tAvg := 200
       let placed := if ok then placeSyn1 s.dev.watchChannels (s.dev.syn1New f band cap tAvg) s.dev.cal.syn1 else none
       (s.dev.active = true) ∧ (s.dev.cal.syn1Run = some r) ∧ (r.start ≤ (s.dev.tick dt).now) ∧ (r.left = f :: rest) ∧ (s.dev.watch.waits = []) ∧ (rest ≠ []) ∧ (placed = none))
    ∧ (let s : State := on { upDev with cal.syn1Run := some { left := [200000, 210000], start := 0 } }
       let dt : Nat := 0
       let r := { left := [200000, 210000], start := 0 }
       let f := 200000
       let rest := [210000]
       let ok := true
       let band := 1
       let cap := 2
       let tAvg := 200
       let placed := if ok then placeSyn1 s.dev.watchChannels (s.dev.syn1New f band cap tAvg) s.dev.cal.syn1 else none
       let l := [upDev.syn1New 200000 1 2 200]
       (s.dev.active = true) ∧ (s.dev.cal.syn1Run = some r) ∧ (r.start ≤ (s.dev.tick dt).now) ∧ (r.left = f :: rest) ∧ (s.dev.watch.waits = []) ∧ (rest ≠ []) ∧ (placed = some l))
    ∧ (let s : State := on { upDev with cal.syn1Run := some { left := [200000], start := 0 } }
       let dt : Nat := 0
       let r := { left := [200000], start := 0 }
       let f := 200000
       let rest := []
       (s.dev.active = true) ∧ (s.dev.cal.syn1Run = some r) ∧ (r.start ≤ (s.dev.tick dt).now) ∧ (r.left = f :: rest) ∧ (s.dev.watch.waits = []) ∧ (rest = [])) :=
  by and_intros <;> decide +kernel

theorem witness_CalibrationCommands :
    (let s : State := sent 0x0701 0xFF [49, 0, 0, 0] { upDev with rf.inputs := [{ mode := .live }, {}, {}, {}], watch.list := [{ freq := 200000, std := 2, flags := 0, gtype := 0, minLevel := 0, id := 0 }] }
     admitted s 0x0701 (fun q e =>
       decide ((q.badHeader = false) ∧ (q.src = e.proto.owner) ∧ (e.inWatch = false) ∧ (q.len = 4) ∧ (zeroAt q.params 1 3 = true) ∧ (q.p8 0 ≠ 0) ∧ (q.p8 0 < 64) ∧ (∀ i ∈ bitsOf 4 (q.p8 0), i < e.nInputs ∧ (e.inp i).mode = .live ∧ (e.inp i).offDue = none ∧ e.cal.runs.any (·.input == i) = false) ∧ (hasBit (q.p8 0) 4 = true → e.convertersOn = 0 ∧ e.cal.syn0Run = none ∧ e.rf.syn0Attempt = 0) ∧ (hasBit (q.p8 0) 5 = true → e.watchChannels ≠ [] ∧ e.syn1Busy = false))) = true)
    ∧ (let s : State := sent 0x0702 0xFF [0, 0, 0, 0] { upDev with cal.vals := [some { uid := zeros 8, tCal := 200, pairs := 1, trims := zeros 48, time := 0 }, none, none, none] }
       admitted s 0x0702 (fun q e =>
         let v := { uid := zeros 8, tCal := 200, pairs := 1, trims := zeros 48, time := 0 }
         decide ((q.badHeader = false) ∧ (q.src = e.proto.owner) ∧ (e.inWatch = false) ∧ (q.len = 4) ∧ (zeroAt q.params 1 3 = true) ∧ (q.p8 0 ≤ 3) ∧ (q.p8 0 < e.nInputs) ∧ (e.cal.vals.getD (q.p8 0) none = some v))) = true)
    ∧ (let s : State := sent 0x0703 0xFF (([1, 0, 0, 0] : List Byte) ++ upDev.calRecord 0 { uid := zeros 8, tCal := 200, pairs := 1, trims := zeros 48, time := 0 }) { upDev with pwr.fuseEn := true }
       admitted s 0x0703 (fun q e =>
         let tAvg := 321
         let rcd := q.params.drop 4
         let i := at8 rcd 1
         decide ((q.badHeader = false) ∧ (q.src = e.proto.owner) ∧ (e.inWatch = false) ∧ (q.len = 100) ∧ (q.p8 0 = 1) ∧ (zeroAt q.params 1 3 = true) ∧ (i ≤ 3) ∧ (i < e.nInputs) ∧ ((e.inp i).mode = .off) ∧ (e.recordResult rcd tAvg ≠ 0))) = true)
    ∧ (let s : State := sent 0x0703 0xFF (([1, 0, 0, 0] : List Byte) ++ upDev.calRecord 0 { uid := zeros 8, tCal := 200, pairs := 1, trims := zeros 48, time := 0 }) { upDev with pwr.fuseEn := true }
       admitted s 0x0703 (fun q e =>
         let tAvg := 320
         let rcd := q.params.drop 4
         let i := at8 rcd 1
         decide ((q.badHeader = false) ∧ (q.src = e.proto.owner) ∧ (e.inWatch = false) ∧ (q.len = 100) ∧ (q.p8 0 = 1) ∧ (zeroAt q.params 1 3 = true) ∧ (i ≤ 3) ∧ (i < e.nInputs) ∧ ((e.inp i).mode = .off) ∧ (e.recordResult rcd tAvg = 0))) = true)
    ∧ (let s : State := sent 0x0704 0xFF [] upDev
       admitted s 0x0704 (fun q e =>
         decide ((q.badHeader = false) ∧ (q.src = e.proto.owner) ∧ (e.inWatch = false) ∧ (q.len = 0) ∧ (e.cal.syn1.length ≤ 16))) = true)
    ∧ (let s : State := sent 0x0705 0xFF (([1, 0, 0, 0] : List Byte) ++ zeros 16) { upDev with pwr.fuseEn := true }
       admitted s 0x0705 (fun q e =>
         let b := q.params.drop 4
         let x := syn1OfBytes b
         decide ((q.badHeader = false) ∧ (q.src = e.proto.owner) ∧ (e.inWatch = false) ∧ (q.len = 20) ∧ (q.p8 0 = 1) ∧ (zeroAt q.params 1 3 = true) ∧ (e.syn1Busy = false) ∧ (zeroAt b 8 4 = true) ∧ (x.crc ≠ crc32 (e.uid ++ b.take 12)))) = true)
    ∧ (let s : State := sent 0x0705 0xFF (([1, 0, 0, 0] : List Byte) ++ (upDev.syn1New 200000 1 2 200).bytes) { upDev with pwr.fuseEn := true }
       admitted s 0x0705 (fun q e =>
         let tAvg := 321
         let b := q.params.drop 4
         let x := syn1OfBytes b
         decide ((q.badHeader = false) ∧ (q.src = e.proto.owner) ∧ (e.inWatch = false) ∧ (q.len = 20) ∧ (q.p8 0 = 1) ∧ (zeroAt q.params 1 3 = true) ∧ (e.syn1Busy = false) ∧ (zeroAt b 8 4 = true) ∧ (x.crc = crc32 (e.uid ++ b.take 12)) ∧ (120 < (tAvg - x.tCal).natAbs))) = true)
    ∧ (let s : State := sent 0x0705 0xFF (([1, 0, 0, 0] : List Byte) ++ (upDev.syn1New 200000 1 2 200).bytes) { upDev with pwr.fuseEn := true }
       admitted s 0x0705 (fun q e =>
         let tAvg := 320
         let b := q.params.drop 4
         let x := syn1OfBytes b
         decide ((q.badHeader = false) ∧ (q.src = e.proto.owner) ∧ (e.inWatch = false) ∧ (q.len = 20) ∧ (q.p8 0 = 1) ∧ (zeroAt q.params 1 3 = true) ∧ (e.syn1Busy = false) ∧ (zeroAt b 8 4 = true) ∧ (x.crc = crc32 (e.uid ++ b.take 12)) ∧ ((tAvg - x.tCal).natAbs ≤ 120) ∧ (e.cal.syn1.any (·.freq == x.freq) = false) ∧ (e.cal.syn1.length < 16))) = true) :=
  by and_intros <;> decide +kernel

theorem witness_SurveyAndSlots :
    (let s : State := on upDev
     let dt : Nat := 0
     let seg := 1
     (s.dev.active = true) ∧ (s.dev.survey.runs.find? (VisitRun.endsAt (s.dev.tick dt).now seg) = none))
    ∧ (let r : VisitRun := { seg := 1, exp := 0, start := 8000 * 131072 + 2 * 131072, spoiled := true }
       let s : State := on { upDev with now := 8000 * 131072 + 4 * 131072, rf.inputs := [{ mode := .live }, {}, {}, {}], survey.runs := [r] }
       let dt : Nat := 0
       let seg := 1
       (s.dev.active = true) ∧ (s.dev.survey.runs.find? (VisitRun.endsAt (s.dev.tick dt).now seg) = some r) ∧ (r.spoiled = true))
    ∧ (let r : VisitRun := { seg := 1, exp := 0, start := 8000 * 131072 + 2 * 131072 }
       let s : State := on { upDev with now := 8000 * 131072 + 4 * 131072, rf.inputs := [{ mode := .live }, {}, {}, {}], survey.runs := [r] }
       let dt : Nat := 0
       let seg := 1
       (s.dev.active = true) ∧ (s.dev.survey.runs.find? (VisitRun.endsAt (s.dev.tick dt).now seg) = some r) ∧ (r.spoiled = false) ∧ (seg < s.dev.survey.segs.length))
    ∧ (let s : State := on { upDev with now := 8000 * roundTicks }
       let dt : Nat := 0
       (s.dev.active = true) ∧ (((s.dev.tick dt).now) % cycleTicks = 0) ∧ (s.dev.survey.began ≠ some ((s.dev.tick dt).now)))
    ∧ (let s : State := on { upDev with now := 8000 * roundTicks, survey.began := some (8000 * roundTicks) }
       let dt : Nat := 0
       (s.dev.active = true) ∧ (s.dev.survey.began = some ((s.dev.tick dt).now)))
    ∧ (let s : State := sent 0x0301 0xFF [1, 1, 0, 0, 160, 134, 1, 0, 200, 0, 200, 0, 10, 0, 44, 1] upDev
       admitted s 0x0301 (fun q e =>
         let tb : SegTable := { feed := hasBit (q.p8 1) 0, std := q.p8 2, start := q.p32 4, step := q.p16 8, width := q.p16 10
                                count := q.p16 12, fbMin := q.ps16 14 }
         decide ((q.badHeader = false) ∧ (e.inWatch = false) ∧ (q.src = e.proto.owner) ∧ (q.len = 16) ∧ (q.p8 0 ≤ 15) ∧ (q.p8 0 / 4 < e.nInputs) ∧ (e.stdUnfitted tb.std = false) ∧ (q.p8 1 ≤ 1) ∧ (q.p8 2 ≤ 4) ∧ (q.p8 3 = 0) ∧ (5 ≤ tb.step) ∧ (tb.step ≤ 20000) ∧ (5 ≤ tb.width) ∧ (tb.width ≤ 8000) ∧ (tb.count ≤ 1024) ∧ (-200 ≤ tb.fbMin) ∧ (tb.fbMin ≤ 1400) ∧ (stdSuits tb.std (q.p8 0 % 4) = true) ∧ (tb.outside (q.p8 0 % 4) = false) ∧ (tb.feed = true → tb.count ≠ 0))) = true)
    ∧ (let s : State := sent 0x0302 0xFF [1, 0, 2, 0, 3, 0, 0, 0] { upDev with survey.segs := [{}, { visit := some { time := 0, bins := (List.replicate (binCount 1) (0 : Int)), chans := none, flags := 1, exp := 3 } }] }
       admitted s 0x0302 (fun q e =>
         let v := { time := 0, bins := (List.replicate (binCount 1) (0 : Int)), chans := none, flags := 1, exp := 3 }
         let pl := u8 (q.p8 0) ++ u8 (q.p8 1) ++ u8 v.flags ++ s8 v.exp ++ u64 v.time ++ u16 (q.p16 2) ++ u16 (q.p16 4)
           ++ ((v.bins.drop (q.p16 2)).take (q.p16 4)).flatMap s16
         decide ((q.badHeader = false) ∧ (e.inWatch = false) ∧ (q.len = 8) ∧ (q.p8 0 ≤ 15) ∧ (q.p8 0 / 4 < e.nInputs) ∧ (q.p8 1 = 0) ∧ (1 ≤ q.p16 4) ∧ (q.p16 4 ≤ 496) ∧ (q.p16 2 + q.p16 4 ≤ binCount (q.p8 0 % 4)) ∧ (zeroAt q.params 6 2 = true) ∧ ((e.sseg (q.p8 0)).visit = some v) ∧ (q.fits pl = true))) = true)
    ∧ (let s : State := sent 0x0303 0xFF [16, 3, 2, 1, 0, 0, 0, 0, 0, 0, 0, 0, 0, 0, 2, 0, 100, 0, 0, 0, 255, 255, 255, 255] upDev
       admitted s 0x0303 (fun q e =>
         decide (q.badHeader = false) && decide (e.inWatch = false) && decide (q.src = e.proto.owner) && decide (16 ≤ q.p8 0) && decide (q.p8 0 ≤ 31) && decide (q.p8 1 ≤ 10) && decide (1 ≤ q.p8 2) && decide (q.p8 2 ≤ maxTaps (q.p8 1)) && decide (q.len = 16 + 4 * q.p8 2) && decide (-4 ≤ q.ps8 3) && decide (q.ps8 3 ≤ 7) && decide (∀ i ∈ List.range 10, -4 ≤ q.ps8 (4 + i) ∧ q.ps8 (4 + i) ≤ 7) && decide (∀ i ∈ List.range 10, q.p8 1 ≤ i → q.ps8 (4 + i) = 0) && decide (q.p8 14 ≤ 2 * (q.p8 2 - 1)) && decide (q.p8 15 = 0) && decide (∀ i ∈ List.range (q.p8 2), -131072 ≤ q.ps32 (16 + 4 * i) ∧ q.ps32 (16 + 4 * i) ≤ 131071) && decide (e.bankInUse (q.p8 0) = false)) = true)
    ∧ (let s : State := sent 0x0304 0xFF [32, 32, 0, 0] upDev
       admitted s 0x0304 (fun q e =>
         let pl := (List.range (q.p8 1)).flatMap fun i => e.slotEntry (q.p8 0 + i)
         decide ((q.badHeader = false) ∧ (e.inWatch = false) ∧ (q.len = 4) ∧ (1 ≤ q.p8 1) ∧ (q.p8 1 ≤ 32) ∧ (q.p8 0 + q.p8 1 ≤ 64) ∧ (q.p8 0 + q.p8 1 ≤ e.nSlots) ∧ (zeroAt q.params 2 2 = true) ∧ (q.fits pl = true))) = true)
    ∧ (let s : State := sent 0x0305 0xFF [63, 1, 0, 0] upDev
       admitted s 0x0305 (fun q e =>
         decide ((q.badHeader = false) ∧ (e.inWatch = false) ∧ (q.src = e.proto.owner) ∧ (q.len = 4) ∧ (q.p8 0 < 64) ∧ (q.p8 0 < e.nSlots) ∧ (q.p8 3 = 0) ∧ (q.p8 1 = 1) ∧ (q.p8 2 = 0) ∧ (q.ctx = 0xFF) ∧ (e.slotFg (q.p8 0) = false) ∧ ((e.stagedPin (q.p8 0)).1 ≠ 2))) = true)
    ∧ (let s : State := sent 0x0305 0xFF [63, 0, 0, 0] { upDev with chan.pins := [{ slot := 63, action := 1, ctx := 0xFF, bank := 0, due := 5 }] }
       admitted s 0x0305 (fun q e =>
         decide ((q.badHeader = false) ∧ (e.inWatch = false) ∧ (q.src = e.proto.owner) ∧ (q.len = 4) ∧ (q.p8 0 < 64) ∧ (q.p8 0 < e.nSlots) ∧ (q.p8 3 = 0) ∧ (q.p8 1 = 0) ∧ (q.p8 2 = 0) ∧ (q.ctx = 0xFF) ∧ ((e.stagedPin (q.p8 0)).1 ≠ 0))) = true)
    ∧ (let s : State := sent 0x0305 0x03 [63, 2, 255, 0] { upDev with trav.ctxs := [(3, { kind := 1, fg := true, prio := 3, owner := .spi, since := 0 })] }
       admitted s 0x0305 (fun q e =>
         let x := { kind := 1, fg := true, prio := 3, owner := .spi, since := 0 }
         decide ((q.badHeader = false) ∧ (e.inWatch = false) ∧ (q.src = e.proto.owner) ∧ (q.len = 4) ∧ (q.p8 0 < 64) ∧ (q.p8 0 < e.nSlots) ∧ (q.p8 3 = 0) ∧ (q.p8 1 = 2) ∧ (q.p8 2 = 0xFF) ∧ (e.ctx? q.ctx = some x) ∧ (e.ctxBusy q.ctx = false) ∧ (x.fg = true) ∧ (x.stdFixed ≠ 0xFF) ∧ (e.instPinned q.ctx (q.p8 0) = false) ∧ ((e.stagedPin (q.p8 0)).1 ≠ 2) ∧ (e.slotFg (q.p8 0) = false) ∧ (e.pinExceeds q.ctx = false))) = true) :=
  by and_intros <;> decide +kernel

theorem witness_NarrowbandWindowDecides_1 :
    (let g : NbCfg := { bwMode := 1, bw := 3 }
     (g.bwMode = 1))
    ∧ (let g : NbCfg := { bw := 3 }
       let aci : Int := 101
       let hi : Int := 100
       (g.bwMode ≠ 1) ∧ (hi < aci))
    ∧ (let g : NbCfg := { bw := 3 }
       let aci : Int := 50
       let hi : Int := 100
       let lo : Int := 50
       (g.bwMode ≠ 1) ∧ (lo ≤ aci) ∧ (aci ≤ hi))
    ∧ (let r : NbRun := { bw := 5, lowRun := 8 }
       let g : NbCfg := { bw := 3 }
       let aci : Int := 49
       let hi : Int := 100
       let lo : Int := 50
       (g.bwMode ≠ 1) ∧ (aci < lo) ∧ (aci ≤ hi) ∧ (r.lowRun < 9))
    ∧ (let r : NbRun := { bw := 5, lowRun := 9 }
       let g : NbCfg := { bw := 3 }
       let aci : Int := 49
       let hi : Int := 100
       let lo : Int := 50
       (g.bwMode ≠ 1) ∧ (aci < lo) ∧ (aci ≤ hi) ∧ (9 ≤ r.lowRun))
    ∧ (let g : NbCfg := { eq := 1 }
       (g.eq ≠ 2))
    ∧ (let r : NbRun := {}
       let g : NbCfg := {}
       (g.eq = 2) ∧ (r.eqOn = false))
    ∧ (let r : NbRun := { eqOn := true }
       let g : NbCfg := {}
       let mp : Nat := 150
       let on : Nat := 200
       (g.eq = 2) ∧ (r.eqOn = true) ∧ (on ≤ mp + 50))
    ∧ (let r : NbRun := { eqOn := true, eqLow := 14 }
       let g : NbCfg := {}
       let mp : Nat := 149
       let on : Nat := 200
       (g.eq = 2) ∧ (r.eqOn = true) ∧ (mp + 50 < on) ∧ (r.eqLow < 15))
    ∧ (let r : NbRun := { eqOn := true, eqLow := 15 }
       let g : NbCfg := {}
       let mp : Nat := 149
       let on : Nat := 200
       (g.eq = 2) ∧ (r.eqOn = true) ∧ (mp + 50 < on) ∧ (15 ≤ r.eqLow))
    ∧ (let r : NbRun := { lockRun := 3 }
       let good : Bool := true
       let up : Nat := 4
       (r.locked = false) ∧ (good = true) ∧ (up ≤ r.lockRun + 1))
    ∧ (let r : NbRun := { lockRun := 2 }
       let good : Bool := true
       let up : Nat := 4
       (r.locked = false) ∧ (good = false ∨ r.lockRun + 1 < up)) :=
  by and_intros <;> decide +kernel

theorem witness_NarrowbandWindowDecides_2 :
    (let r : NbRun := { locked := true, lockRun := 3 }
     let bad : Bool := true
     let down : Nat := 4
     (r.locked = true) ∧ (bad = true) ∧ (down ≤ r.lockRun + 1))
    ∧ (let r : NbRun := { locked := true, lockRun := 2 }
       let bad : Bool := true
       let down : Nat := 4
       (r.locked = true) ∧ (bad = false ∨ r.lockRun + 1 < down)) :=
  by and_intros <;> decide +kernel

/-- A running FM context. -/
def fmCtx : CtxSt := { kind := 1, fg := true, prio := 3, owner := .spi, since := 0, state := .running, tuning := some { freq := 100000, inputs := 1, std := 0, step := 0, count := 1 }, nb := some 0, slot := some 5, input := some 0 }
/-- A running AM context. -/
def amCtx : CtxSt := { kind := 2, fg := true, prio := 3, owner := .spi, since := 0, state := .running, tuning := some { freq := 1000, inputs := 1, std := 1, step := 0, count := 1 }, nb := some 0, slot := some 5, input := some 0 }
/-- A device with it as context 3. -/
def fmUp : Dev := { upDev with trav.ctxs := [(3, fmCtx)] }
/-- A device with it as context 3. -/
def amUp : Dev := { upDev with trav.ctxs := [(3, amCtx)] }
/-- `fmUp` with RDS stream unit 2. -/
def rdsUp (g : RdsCfg) (u : RdsUnit) : Dev := { fmUp with dem.rds := [(3, { cfg := g, units := (List.replicate 4 {}).set 2 u })] }
/-- 256 samples of which only the middle one is not zero. -/
def middleSample : List Cx := List.replicate 128 ({} : Cx) ++ { re := 2 ^ 20 } :: List.replicate 127 ({} : Cx)
/-- Its spectrum is flat: no carrier. -/
theorem coarse_none : coarseOffset middleSample = none := by
  refine coarseOffset_flat (lo := 4722366482869645213696) (hi := 4722366483007084167169) (fun k _ => ?_) (by decide)
  rw [searchPower_middle (by decide +kernel)]
  rcases Nat.mod_two_eq_zero_or_one k with h | h <;> rw [h] <;> decide +kernel
/-- A search over silence ends with a frequency. -/
theorem coarse_some : ∃ f, coarseOffset (List.replicate 256 {}) = some f := by
  refine coarseOffset_silence fun k _ => ?_
  rw [searchPower_middle (by decide +kernel)]
  rcases Nat.mod_two_eq_zero_or_one k with h | h <;> rw [h] <;> decide +kernel
theorem witness_NarrowbandRows :
    (let s : State := on { fmUp with now := 8000 * roundTicks, dem.nb := [(3, { dsp := { sums := { n := 255 } } })] }
       let c := 3
       let x := fmCtx
       let d := s.dev.tick 0
       let e := match d.slotOf c with | some n => d.slotTakes n d.now [] | none => d
       let w := (e.nb c).dsp.win (e.stdOf c) d.now (e.nb c).run.locked
       (s.dev.active = true) ∧ (s.dev.nbRuns c = true) ∧ (s.dev.ctx? c = some x) ∧ (x.dispatched < d.now) ∧ ((d.now - x.dispatched) % nbWindow = 0) ∧ (w.valid = false))
    ∧ (let s : State := on { fmUp with now := 8000 * roundTicks, dem.nb := [(3, { dsp := { sums := { n := 256 } } })] }
       let c := 3
       let x := fmCtx
       let d := s.dev.tick 0
       let e := match d.slotOf c with | some n => d.slotTakes n d.now [] | none => d
       let w := (e.nb c).dsp.win (e.stdOf c) d.now (e.nb c).run.locked
       (s.dev.active = true) ∧ (s.dev.nbRuns c = true) ∧ (s.dev.ctx? c = some x) ∧ (x.dispatched < d.now) ∧ ((d.now - x.dispatched) % nbWindow = 0) ∧ (w.valid = true) ∧ (e.stdOf c = 0) ∧ ((e.nb c).cfgAt ≠ some d.now))
    ∧ (let s : State := on { amUp with now := 8000 * roundTicks, dem.nb := [(3, { dsp := { sums := { n := 64 } }, cfgAt := some (8000 * roundTicks) })] }
       let c := 3
       let x := amCtx
       let d := s.dev.tick 0
       let e := match d.slotOf c with | some n => d.slotTakes n d.now [] | none => d
       let w := (e.nb c).dsp.win (e.stdOf c) d.now (e.nb c).run.locked
       (s.dev.active = true) ∧ (s.dev.nbRuns c = true) ∧ (s.dev.ctx? c = some x) ∧ (x.dispatched < d.now) ∧ ((d.now - x.dispatched) % nbWindow = 0) ∧ (w.valid = true) ∧ ((e.nb c).cfgAt = some d.now))
    ∧ (let s : State := sent 0x1001 0x03 [1, 7, 2, 1, 0, 3, 0, 0] fmUp
       admitted s 0x1001 (fun q e =>
         let x : CtxSt := fmCtx
         decide ((q.badHeader = false) ∧ (e.inWatch = false) ∧ (e.ctx? q.ctx = some x) ∧ (x.closing = none) ∧ (e.stdOf q.ctx ≤ 1) ∧ (q.src = x.owner) ∧ (q.len = 8) ∧ (badNbCfg (e.stdOf q.ctx) q = false))) = true)
    ∧ (let s : State := sent 0x1002 0x03 [] fmUp
       admitted s 0x1002 (fun q e =>
         let x : CtxSt := fmCtx
         decide ((q.badHeader = false) ∧ (e.inWatch = false) ∧ (e.ctx? q.ctx = some x) ∧ (x.closing = none) ∧ (e.stdOf q.ctx ≤ 1) ∧ (q.len = 0))) = true) :=
  by and_intros <;> decide +kernel

theorem witness_NarrowbandRows_1 :
    (let s : State := on { amUp with chan.slots := (List.replicate 64 {}).set 5 { user := some (.ctx 3), seg := 0, settleFrom := 0 }, rf.inputs := [{ mode := .live }, {}, {}, {}], dem.nb := [(3, { dsp := { search := middleSample } })] }
     let d := s.dev.tick 0
     let c := 3
     (s.dev.active = true) ∧ (s.dev.nbRuns c = true) ∧ (s.dev.stdOf c = 1) ∧ ((s.dev.nb c).run.coarse = false) ∧ (d.ctxFlagged c = false) ∧ ((s.dev.nb c).dsp.search.length = 256)) ∧ coarseOffset middleSample = none :=
  ⟨by decide +kernel, coarse_none⟩
theorem witness_NarrowbandRows_2 :
    (let s : State := on { amUp with chan.slots := (List.replicate 64 {}).set 5 { user := some (.ctx 3), seg := 0, settleFrom := 0 }, rf.inputs := [{ mode := .live }, {}, {}, {}], dem.nb := [(3, { dsp := { search := List.replicate 256 {} } })] }
     let d := s.dev.tick 0
     let c := 3
     let n := 5
     (s.dev.active = true) ∧ (s.dev.nbRuns c = true) ∧ (s.dev.stdOf c = 1) ∧ ((s.dev.nb c).run.coarse = false) ∧ (d.ctxFlagged c = false) ∧ ((s.dev.nb c).dsp.search.length = 256) ∧ (s.dev.slotOf c = some n) ∧ (s.dev.serviceOf c = none) ∧ (n < s.dev.chan.slots.length) ∧ ((s.dev.slot n).user.isSome = true))
    ∧ ∃ f, coarseOffset (List.replicate 256 {}) = some f :=
  ⟨by decide +kernel, coarse_some⟩
theorem witness_RdsRows :
    (let s : State := on (rdsUp { streams := 15 } { locked := true, dsp := { errs := List.replicate 32 (-13108) } })
       let c := 3
       let k := 2
       let x := s.dev.rds c
       let u := x.unit k
       (s.dev.active = true) ∧ (s.dev.rdsRuns c k = true) ∧ (k < x.units.length) ∧ (u.locked = true) ∧ (32 * 2 ^ 32 < 25 * u.dsp.jitter ∨ 24 ≤ u.dsp.run))
    ∧ (let s : State := on (rdsUp { streams := 15 } { locked := true, dsp := { run := 24 } })
       let c := 3
       let k := 2
       let x := s.dev.rds c
       let u := x.unit k
       (s.dev.active = true) ∧ (s.dev.rdsRuns c k = true) ∧ (k < x.units.length) ∧ (u.locked = true) ∧ (32 * 2 ^ 32 < 25 * u.dsp.jitter ∨ 24 ≤ u.dsp.run))
    ∧ (let s : State := on (rdsUp { streams := 15 } { locked := true, dsp := { errs := List.replicate 32 (-13107), run := 23 } })
       let c := 3
       let k := 2
       let x := s.dev.rds c
       let u := x.unit k
       (s.dev.active = true) ∧ (s.dev.rdsRuns c k = true) ∧ (k < x.units.length) ∧ (u.locked = true) ∧ (25 * u.dsp.jitter ≤ 32 * 2 ^ 32) ∧ (u.dsp.run < 24))
    ∧ (let s : State := on (rdsUp { streams := 15 } { dsp := { errs := List.replicate 32 6553 } })
       let c := 3
       let k := 2
       let x := s.dev.rds c
       let u := x.unit k
       (s.dev.active = true) ∧ (s.dev.rdsRuns c k = true) ∧ (k < x.units.length) ∧ (u.locked = false) ∧ (u.dsp.errs.length = 32) ∧ (100 * u.dsp.jitter < 32 * 2 ^ 32) ∧ (u.dsp.run = 0))
    ∧ (let s : State := on (rdsUp { streams := 15 } { dsp := { errs := List.replicate 32 6554 } })
       let c := 3
       let k := 2
       let x := s.dev.rds c
       let u := x.unit k
       (s.dev.active = true) ∧ (s.dev.rdsRuns c k = true) ∧ (k < x.units.length) ∧ (u.locked = false) ∧ (32 * 2 ^ 32 ≤ 100 * u.dsp.jitter))
    ∧ (let s : State := on (rdsUp { streams := 15 } {})
       let c := 3
       let k := 2
       let x := s.dev.rds c
       let u := x.unit k
       (s.dev.active = true) ∧ (s.dev.rdsRuns c k = true) ∧ (k < x.units.length) ∧ (u.dsp.bits = []))
    ∧ (let s : State := on (rdsUp { streams := 15 } { dsp := { bits := [{ v := false, erased := true, t := 9 }], clean := 26 } })
       let c := 3
       let k := 2
       let x := s.dev.rds c
       let u := x.unit k
       let b : RdsBit := { v := false, erased := true, t := 9 }
       let rest : List RdsBit := []
       let y : RdsDsp := { u.dsp with
                            pos := u.dsp.pos + 1, win := (2 * u.dsp.win + bit b.v) % 2 ^ 26
                            clean := if b.erased then 0 else min 26 (u.dsp.clean + 1), bits := rest }
       (s.dev.active = true) ∧ (s.dev.rdsRuns c k = true) ∧ (k < x.units.length) ∧ (u.dsp.bits = b :: rest) ∧ (u.sync = none) ∧ (y.clean < 26))
    ∧ (let s : State := on (rdsUp { streams := 15 } { dsp := { bits := [{ v := false, erased := false, t := 9 }], clean := 25, win := 0x7E } })
       let c := 3
       let k := 2
       let x := s.dev.rds c
       let u := x.unit k
       let b : RdsBit := { v := false, erased := false, t := 9 }
       let rest : List RdsBit := []
       let y : RdsDsp := { u.dsp with
                            pos := u.dsp.pos + 1, win := (2 * u.dsp.win + bit b.v) % 2 ^ 26
                            clean := if b.erased then 0 else min 26 (u.dsp.clean + 1), bits := rest }
       let o := 0
       (s.dev.active = true) ∧ (s.dev.rdsRuns c k = true) ∧ (k < x.units.length) ∧ (u.dsp.bits = b :: rest) ∧ (u.sync = none) ∧ (y.clean = 26) ∧ (offsetIn x.cfg.offsets y.win = some o))
    ∧ (let s : State := on (rdsUp { streams := 15 } { sync := some (78, 3), dsp := { bits := [{ v := false, erased := true, t := 9 }], clean := 26, pos := 77 } })
       let c := 3
       let k := 2
       let x := s.dev.rds c
       let u := x.unit k
       let b : RdsBit := { v := false, erased := true, t := 9 }
       let rest : List RdsBit := []
       let y : RdsDsp := { u.dsp with
                            pos := u.dsp.pos + 1, win := (2 * u.dsp.win + bit b.v) % 2 ^ 26
                            clean := if b.erased then 0 else min 26 (u.dsp.clean + 1), bits := rest }
       let pl := 3
       (s.dev.active = true) ∧ (s.dev.rdsRuns c k = true) ∧ (k < x.units.length) ∧ (u.dsp.bits = b :: rest) ∧ (u.sync = some (y.pos, pl)) ∧ (pl < 4) ∧ (y.clean < 26))
    ∧ (let s : State := on (rdsUp { streams := 15 } { sync := some (78, 0), dsp := { bits := [{ v := false, erased := false, t := 9 }], clean := 26, pos := 77, win := 0x7E } })
       let c := 3
       let k := 2
       let x := s.dev.rds c
       let u := x.unit k
       let b : RdsBit := { v := false, erased := false, t := 9 }
       let rest : List RdsBit := []
       let y : RdsDsp := { u.dsp with
                            pos := u.dsp.pos + 1, win := (2 * u.dsp.win + bit b.v) % 2 ^ 26
                            clean := if b.erased then 0 else min 26 (u.dsp.clean + 1), bits := rest }
       let pl := 0
       let o := 0
       let n := 0
       let w := 0
       (s.dev.active = true) ∧ (s.dev.rdsRuns c k = true) ∧ (k < x.units.length) ∧ (u.dsp.bits = b :: rest) ∧ (u.sync = some (y.pos, pl)) ∧ (pl < 4) ∧ (y.clean = 26) ∧ (offsetIn x.cfg.offsets y.win ≠ some 5) ∧ (correctBlock (s.dev.ctxPropN c P.rdsCorrMax) (placeOffsets pl) y.win = some (o, n, w)))
    ∧ (let s : State := on (rdsUp { streams := 15 } {})
       let c := 3
       let k := 2
       let x := s.dev.rds c
       let u := x.unit k
       (s.dev.active = true) ∧ (s.dev.rdsRuns c k = true) ∧ (k < x.units.length) ∧ (u.group = none))
    ∧ (let s : State := on (rdsUp { streams := 15 } { group := some (List.replicate 4 { q := 0, w := 1 }, true, false, 5) })
       let c := 3
       let k := 2
       let x := s.dev.rds c
       let u := x.unit k
       (s.dev.active = true) ∧ (s.dev.rdsRuns c k = true) ∧ (k < x.units.length) ∧ (u.group = some (List.replicate 4 { q := 0, w := 1 }, true, false, 5)) ∧ (s.dev.bind? c = none))
    ∧ (let s : State := sent 0x1003 0x03 [15, 1, 2, 1, 161, 211, 0, 0, 5, 0, 0, 0, 0, 0, 0, 0] fmUp
       admitted s 0x1003 (fun q e =>
         let y : CtxSt := fmCtx
         let g : RdsCfg := { streams := q.p8 0, rbds := q.p8 1, deliver := q.p8 2, flags := q.p8 3, pi := q.p16 4, mask := q.p32 8 }
         decide ((q.badHeader = false) ∧ (e.inWatch = false) ∧ (e.ctx? q.ctx = some y) ∧ (y.closing = none) ∧ (y.stdFixed = 0) ∧ (q.src = y.owner) ∧ (q.len = 16) ∧ (g.streams ≤ 15) ∧ (g.rbds ≤ 1) ∧ (g.deliver ≤ 2) ∧ (g.flags ≤ 3) ∧ (hasBit g.flags 0 = false → g.pi = 0) ∧ (g.deliver = 2 ↔ g.mask ≠ 0) ∧ (zeroAt q.params 6 2 = true) ∧ (zeroAt q.params 12 4 = true))) = true)
    ∧ (let s : State := sent 0x1004 0x03 [] fmUp
       admitted s 0x1004 (fun q e =>
         let y : CtxSt := fmCtx
         decide ((q.badHeader = false) ∧ (e.inWatch = false) ∧ (e.ctx? q.ctx = some y) ∧ (y.closing = none) ∧ (y.stdFixed = 0) ∧ (q.len = 0))) = true)
    ∧ (let d : Dev := rdsUp { streams := 15 } { locked := true }
       let c := 3
       let k := 2
       let x := d.rds c
       let u := x.unit k
       (x.cfg.rbds = 0))
    ∧ (let d : Dev := rdsUp { streams := 15, rbds := 1 } { locked := true }
       let c := 3
       let k := 2
       let x := d.rds c
       let u := x.unit k
       (hasBit x.cfg.flags 0 = false) ∧ (u.sync = none) ∧ (x.cfg.rbds ≠ 0))
    ∧ (let d : Dev := rdsUp { streams := 15 } { locked := true }
       let c := 3
       let k := 2
       let x := d.rds c
       let u := x.unit k
       let o := 4
       (hasBit x.cfg.flags 0 = false) ∧ (u.sync = none) ∧ (o < 5) ∧ (u.found = []))
    ∧ (let d : Dev := rdsUp { streams := 15 } { locked := true, found := [(74, (offsetPlace 4 + 3) % 4)] }
       let c := 3
       let k := 2
       let x := d.rds c
       let u := x.unit k
       let o := 4
       let pos := 100
       (hasBit x.cfg.flags 0 = false) ∧ (u.sync = none) ∧ (o < 5) ∧ (k < x.units.length) ∧ (u.warm = (0, 0)) ∧ (u.found = [(pos - 26, (offsetPlace o + 3) % 4)]) ∧ (26 ≤ pos))
    ∧ (let d : Dev := rdsUp { streams := 15 } { locked := true, sync := some (100, 3), blocks := List.replicate 3 { q := 0, w := 1 } }
       let c := 3
       let k := 2
       let x := d.rds c
       let u := x.unit k
       let pos := 100
       let pl := 3
       (u.sync = some (pos, pl)) ∧ (pl < 4) ∧ (k < x.units.length) ∧ (u.warm = (0, 0)) ∧ (((true :: u.errs).take 50 |>.filter id).length ≤ d.ctxPropN c P.rdsSyncLoss)) :=
  by and_intros <;> decide +kernel

/-- A device with a running DAB instance 0 in state `y`, and its context 3. -/
def dabUp (y : DabInst) : Dev :=
  { upDev with
    trav := { ctxs := [(3, { kind := 3, fg := true, prio := 3, owner := .spi, since := 0, state := .running, tuning := some { freq := 220352, inputs := 1, std := 2, step := 0, count := 1 }, inst := some 0, decode := true })], insts := [(0, { freq := 220352, inputs := 1, anchor := 3, running := true, slot := some 5, input := some 0 })] }
    dem.insts := [(0, y)] }
/-- Samples of power 1, then a null of 21 blocks, then power again. -/
def nullThere : OfdmBranch :=
  { buf := List.replicate 8192 { t := 0, v := { re := 1 } } ++ List.replicate 1344 { t := 0 } ++ List.replicate 64 { t := 0, v := { re := 1 } } }
theorem witness_DabRows_1 :
    (let s : State := on (dabUp { dsp := { branches := [nullThere] } })
       let n := 0
       let y := s.dev.dabInst n
       (s.dev.active = true) ∧ (s.dev.instRuns n = true) ∧ (y.sync = 0) ∧ (y.dsp.lead.findNull = some (8192, 9536)))
    ∧ (let s : State := on (dabUp {})
       let n := 0
       let y := s.dev.dabInst n
       (s.dev.active = true) ∧ (s.dev.instRuns n = true) ∧ (y.sync = 0) ∧ (y.dsp.lead.findNull = none))
    ∧ (let s : State := on (dabUp { sync := 1 })
       let n := 0
       let y := s.dev.dabInst n
       (s.dev.active = true) ∧ (s.dev.instRuns n = true) ∧ (y.sync ≠ 0))
    ∧ (let s : State := on (dabUp {})
       let n := 0
       let y := s.dev.dabInst n
       (s.dev.active = true) ∧ (s.dev.instRuns n = true) ∧ (y.sync = 0))
    ∧ (let s : State := on (dabUp { sync := 3, dsp := { win := some 472, branches := [{ buf := List.replicate 2520 { t := 0 } }] } })
       let n := 0
       let y := s.dev.dabInst n
       let w := 472
       let k := 5
       (s.dev.active = true) ∧ (s.dev.instRuns n = true) ∧ (1 ≤ y.sync) ∧ (y.dsp.win = some w) ∧ ((s.dev.inst? n).bind (·.slot) = some k) ∧ (y.dsp.next = 0) ∧ (y.dsp.branches.all (·.has w dabUseful) = true) ∧ (y.sync < 3 → y.dsp.prs true w ≠ none))
    ∧ (let s : State := on (dabUp { sync := 0 })
       let n := 0
       let y := s.dev.dabInst n
       let limit := s.dev.ctxPropN (s.dev.anchorOf n) P.dabLossFrames
       (s.dev.active = true) ∧ (s.dev.instRuns n = true) ∧ (y.sync = 0 ∨ (y.nullMiss < limit ∧ y.fibMiss < limit)))
    ∧ (let s : State := on (dabUp { sync := 3, nullMiss := 200 })
       let n := 0
       let y := s.dev.dabInst n
       let limit := s.dev.ctxPropN (s.dev.anchorOf n) P.dabLossFrames
       (s.dev.active = true) ∧ (s.dev.instRuns n = true) ∧ (y.sync ≠ 0) ∧ (limit ≤ y.nullMiss ∨ limit ≤ y.fibMiss))
    ∧ (let s : State := on (dabUp { sync := 3, fibs := [(0, 1)] })
       let n := 0
       let y := s.dev.dabInst n
       (s.dev.active = true) ∧ (s.dev.instRuns n = true) ∧ (3 ≤ y.sync))
    ∧ (let s : State := on (dabUp { sync := 4, quiet := 9 })
       let n := 0
       let y := s.dev.dabInst n
       (s.dev.active = true) ∧ (s.dev.instRuns n = true) ∧ (¬ (y.sync = 4 ∧ y.complete = false ∧ 10 ≤ y.quiet ∧ y.conf.referenced = true)))
    ∧ (let s : State := on (dabUp { sync := 4, quiet := 10 })
       let n := 0
       let y := s.dev.dabInst n
       (s.dev.active = true) ∧ (s.dev.instRuns n = true) ∧ (y.sync = 4) ∧ (y.complete = false) ∧ (10 ≤ y.quiet) ∧ (y.conf.referenced = true))
    ∧ (let s : State := on upDev
       (s.dev.active = true) ∧ (s.dev.dem.insts = []))
    ∧ (let s : State := on { upDev with trav := { ctxs := [(3, { kind := 3, fg := true, prio := 3, owner := .spi, since := 0, state := .running, tuning := some { freq := 220352, inputs := 1, std := 2, step := 0, count := 1 }, inst := some 0, decode := true })], insts := [(0, { freq := 220352, inputs := 1, anchor := 3, running := true, slot := some 5, input := some 0 })] }, dem := { insts := [(0, { clusters := [{ id := 1, asw := 1, subch := 1, region := 0, prev := 0, at_ := 0 }] })] }, now := 16000 * roundTicks }
       let dt : Nat := 0
       let n := 0
       let y := { clusters := [{ id := 1, asw := 1, subch := 1, region := 0, prev := 0, at_ := 0 }] }
       (s.dev.active = true) ∧ (s.dev.dem.insts = [(n, y)]) ∧ (∀ k ∈ y.clusters, k.at_ + 16000 * roundTicks ≤ (s.dev.tick dt).now)) :=
  by and_intros <;> decide +kernel

theorem witness_DabRows_3 :
    (let s : State := on (dabUp { sync := 2, dsp := { win := some 472, branches := [{ buf := List.replicate 2520 { t := 0 } }] } })
     let n := 0
     let y := s.dev.dabInst n
     let w := 472
     let k := 5
     (s.dev.active = true) ∧ (s.dev.instRuns n = true) ∧ (1 ≤ y.sync) ∧ (y.dsp.win = some w) ∧ ((s.dev.inst? n).bind (·.slot) = some k) ∧ (y.dsp.next = 0) ∧ (y.dsp.branches.all (·.has w dabUseful) = true) ∧ (y.sync < 3))
    ∧ ({ win := some 472, branches := [{ buf := List.replicate 2520 { t := 0 } }] } : DabDsp).prs true 472 = none :=
  ⟨by decide +kernel, prs_silence (by decide +kernel)⟩
theorem witness_DabRows_2 :
    (let s : State := on { upDev with trav := { ctxs := [(3, { kind := 3, fg := true, prio := 3, owner := .spi, since := 0, state := .running, tuning := some { freq := 220352, inputs := 1, std := 2, step := 0, count := 1 }, inst := some 0, decode := true })], insts := [(0, { freq := 220352, inputs := 1, anchor := 3, running := true, slot := some 5, input := some 0 })] }, dem := { insts := [(0, { sync := 4 })], dab := [(3, { decode := some ({ id := 1, start := 0, size := 84, prot := 0, rate := 112 }, 2) })] } }
     let c := 3
     let n := 0
     let sub := { id := 1, start := 0, size := 84, prot := 0, rate := 112 }
     let k := 2
     (s.dev.active = true) ∧ (s.dev.dabDecodes c = true) ∧ (s.dev.instOf c = some n) ∧ ((s.dev.dabInst n).change = none) ∧ ((s.dev.dab c).decode = some (sub, k)) ∧ ((s.dev.dab c).restart = none) ∧ (s.dev.kindOf c ≠ 5))
    ∧ (let s : State := on { upDev with trav := { ctxs := [(3, { kind := 3, fg := true, prio := 3, owner := .spi, since := 0, state := .running, tuning := some { freq := 220352, inputs := 1, std := 2, step := 0, count := 1 }, inst := some 0, decode := true })], insts := [(0, { freq := 220352, inputs := 1, anchor := 3, running := true, slot := some 5, input := some 0 })] }, dem := { insts := [(0, { sync := 4 })], dab := [(3, { decode := some ({ id := 1, start := 0, size := 84, prot := 0, rate := 112 }, 2), plus := some false })] } }
       let c := 3
       (s.dev.active = true) ∧ (s.dev.dabDecodes c = true) ∧ (s.dev.dabAudio c false = true))
    ∧ (let s : State := on { upDev with trav := { ctxs := [(3, { kind := 3, fg := true, prio := 3, owner := .spi, since := 0, state := .running, tuning := some { freq := 220352, inputs := 1, std := 2, step := 0, count := 1 }, inst := some 0, decode := true })], insts := [(0, { freq := 220352, inputs := 1, anchor := 3, running := true, slot := some 5, input := some 0 })] }, dem := { insts := [(0, { sync := 4 })], dab := [(3, { decode := some ({ id := 1, start := 0, size := 84, prot := 0, rate := 112 }, 2), plus := some true })] } }
       let c := 3
       (s.dev.active = true) ∧ (s.dev.dabDecodes c = true) ∧ (s.dev.dabAudio c true = true))
    ∧ (let s : State := on { upDev with trav := { ctxs := [(3, { kind := 5, fg := true, prio := 3, owner := .spi, since := 0, state := .running, tuning := some { freq := 220352, inputs := 1, std := 2, step := 0, count := 1 }, inst := some 0, decode := true })], insts := [(0, { freq := 220352, inputs := 1, anchor := 3, running := true, slot := some 5, input := some 0 })] }, dem := { insts := [(0, { sync := 4 })], dab := [(3, { decode := some ({ id := 1, start := 0, size := 84, prot := 0, rate := 112 }, 2) })] } }
       let c := 3
       let x := { decode := some ({ id := 1, start := 0, size := 84, prot := 0, rate := 112 }, 2) }
       (s.dev.active = true) ∧ (s.dev.dabDecodes c = true) ∧ (s.dev.dab c = x) ∧ (x.decode.isSome = true) ∧ (s.dev.bind? c = none))
    ∧ (let s : State := on { upDev with trav := { ctxs := [(3, { kind := 5, fg := true, prio := 3, owner := .spi, since := 0, state := .running, tuning := some { freq := 220352, inputs := 1, std := 2, step := 0, count := 1 }, inst := some 0, decode := true })], insts := [(0, { freq := 220352, inputs := 1, anchor := 3, running := true, slot := some 5, input := some 0 })] }, dem := { insts := [(0, { sync := 4 })], dab := [(3, { decode := some ({ id := 1, start := 0, size := 84, prot := 0, rate := 112 }, 2), res := some { sub := { id := 1, start := 0, size := 84, prot := 0, rate := 112 }, typ := 3, addr := some 7 }, sel := some { sid := 0xE1C2, flags := 0, scids := 0, subch := 0 } })] }, data := { queues := [(8, { pages := 4 })], binds := [(3, { queue := 8, mot := false })] } }
       let c := 3
       let b := { queue := 8, mot := false }
       let sub := { id := 1, start := 0, size := 84, prot := 0, rate := 112 }
       let k := 2
       let r := { sub := { id := 1, start := 0, size := 84, prot := 0, rate := 112 }, typ := 3, addr := some 7 }
       let l := { sid := 0xE1C2, flags := 0, scids := 0, subch := 0 }
       let addr := 7
       let bytes := [1, 2]
       (s.dev.active = true) ∧ (s.dev.dabDecodes c = true) ∧ ((s.dev.dab c).decode = some (sub, k)) ∧ (s.dev.bind? c = some b) ∧ (b.mot = false) ∧ (bytes ≠ []) ∧ ((s.dev.dab c).res = some r) ∧ ((s.dev.dab c).sel = some l) ∧ (r.typ = 3) ∧ (r.addr = some addr)) :=
  by and_intros <;> decide +kernel

/-- A device with a running DRM context 3 in state `y`. -/
def drmUp (y : DrmSt) : Dev :=
  { upDev with
    now := 8000 * roundTicks + 16384 * 100, trav.ctxs := [(3, { kind := 4, fg := true, prio := 3, owner := .spi, since := 0, state := .running, tuning := some { freq := 6000, inputs := 1, std := 3, step := 0, count := 1 }, slot := some 5, input := some 0, decode := true })], dem.drm := [(3, y)]
    chan.slots := (List.replicate 64 {}).set 5 { user := some (.ctx 3), seg := 0, settleFrom := 0 }, rf.inputs := [{ mode := .live }, {}, {}, {}] }
theorem witness_DrmRows_1 :
    (let s : State := on (drmUp {})
       let c := 3
       let d := s.dev.tick 0
       let x := s.dev.drm c
       (s.dev.active = true) ∧ (s.dev.drmRuns c = true) ∧ (x.sync = 0) ∧ (x.dsp.lead.findMode (s.dev.drmModes c) = none))
    ∧ (let s : State := on (drmUp { sync := 1, mode := some 1 })
       let c := 3
       let d := s.dev.tick 0
       let x := s.dev.drm c
       (s.dev.active = true) ∧ (s.dev.drmRuns c = true) ∧ (x.sync = 1) ∧ ((x.dsp.win.bind fun w => x.dsp.lead.integerShift (x.mode.getD 0) x.cells w x.dsp.freqs) = none))
    ∧ (let s : State := on (drmUp { sync := 1, mode := some 1, dsp := { win := some 300 } })
       let c := 3
       let d := s.dev.tick 0
       let x := s.dev.drm c
       let w := 300
       (s.dev.active = true) ∧ (s.dev.drmRuns c = true) ∧ (x.sync = 1) ∧ (x.dsp.win = some w))
    ∧ (let s : State := on (drmUp { sync := 2, mode := some 1, dsp := { win := some 300 } })
       let c := 3
       let d := s.dev.tick 0
       let x := s.dev.drm c
       let freqs := if x.dsp.freqs.isEmpty then [(x.dsp.lead.base, turnsOf (x.residual - d.drmShift c) (drmRate (x.mode.getD 0)))] else x.dsp.freqs
       let found := x.dsp.win.bind fun w => x.dsp.lead.frameStart (x.mode.getD 0) x.cells w freqs
       (s.dev.active = true) ∧ (s.dev.drmRuns c = true) ∧ (x.sync = 2) ∧ (x.dsp.win.isSome = true) ∧ (found = none))
    ∧ (let s : State := on (drmUp { sync := 0 })
       let c : Nat := 3
       let x := s.dev.drm c
       (s.dev.active = true) ∧ (s.dev.drmRuns c = true) ∧ (x.sync = 0 ∨ x.facMiss < s.dev.ctxPropN c P.drmLossFrames))
    ∧ (let s : State := on (drmUp { sync := 4, facMiss := 200, mode := some 1 })
       let c : Nat := 3
       let x := s.dev.drm c
       (s.dev.active = true) ∧ (s.dev.drmRuns c = true) ∧ (x.sync ≠ 0) ∧ (s.dev.ctxPropN c P.drmLossFrames ≤ x.facMiss))
    ∧ (let s : State := on (drmUp { sync := 3, mode := some 1, dsp := { full := true } })
       let c := 3
       let d := s.dev.tick 0
       let x := s.dev.drm c
       (s.dev.active = true) ∧ (s.dev.drmRuns c = true) ∧ (3 ≤ x.sync) ∧ (x.dsp.full = true))
    ∧ (let s : State := on (drmUp { sync := 3, mode := some 1, dsp := { full := true } })
       let c := 3
       let d := s.dev.tick 0
       let x := s.dev.drm c
       (s.dev.active = true) ∧ (s.dev.drmRuns c = true) ∧ (3 ≤ x.sync) ∧ (x.dsp.full = true) ∧ (x.mode = some someFac.mode))
    ∧ (let s : State := on (drmUp { sync := 4 })
       let c : Nat := 3
       let x := s.dev.drm c
       (s.dev.active = true) ∧ (s.dev.drmRuns c = true) ∧ (4 ≤ x.sync))
    ∧ (let s : State := on (drmUp { sync := 4, alarm := true, alarmRun := 1 })
       let c := 3
       let d := s.dev.tick 0
       let x := s.dev.drm c
       (s.dev.active = true) ∧ (s.dev.drmRuns c = true) ∧ (4 ≤ x.sync) ∧ (someSdc.alarm.isSome ≠ x.alarm) ∧ (x.alarmRun ≠ 0))
    ∧ (let s : State := on upDev
       (s.dev.active = true) ∧ (s.dev.dem.drm = []))
    ∧ (let s : State := on { upDev with now := 1000000 * roundTicks, trav.ctxs := [(3, { kind := 4, fg := true, prio := 3, owner := .spi, since := 0, state := .running, tuning := some { freq := 6000, inputs := 1, std := 3, step := 0, count := 1 }, slot := some 5, input := some 0, decode := true })], dem.drm := [(3, { sync := 5, alarm := true, sdcAt := 0 })], chan.slots := (List.replicate 64 {}).set 5 { user := some (.ctx 3), seg := 0, settleFrom := 0 }, rf.inputs := [{ mode := .live }, {}, {}, {}] }
       let dt : Nat := 0
       let c : Nat := 3
       let x := s.dev.drm c
       (s.dev.active = true) ∧ (s.dev.dem.drm = [(c, x)]) ∧ (s.dev.drmRuns c = true) ∧ (x.alarm = true) ∧ (x.sdcAt + s.dev.ctxPropN c P.drmLossFrames * (if s.dev.stdOf c = 4 then 3200 else 9600) * roundTicks ≤ (s.dev.tick dt).now)) :=
  by and_intros <;> decide +kernel

theorem witness_DrmRows_2 :
    (let s : State := on (drmUp { sync := 5, res := some { sid := 5, short := 0, typ := 0, stream := 0, packet := none, rate := 100, arate := 3, mapping := 0, app := 7, prot := 9 } })
     let c : Nat := 3
     (s.dev.active = true) ∧ (s.dev.drmDecodes c = true))
    ∧ (let s : State := on (drmUp { sync := 5, decode := true, res := some { sid := 5, short := 0, typ := 0, stream := 0, packet := none, rate := 100, arate := 3, mapping := 0, app := 7, prot := 9 } })
       let c : Nat := 3
       let x := s.dev.drm c
       (s.dev.active = true) ∧ (s.dev.drmDecodes c = true) ∧ (x.decode = true) ∧ (s.dev.kindOf c = 4))
    ∧ (let s : State := on (drmUp { sync := 5, decode := true, res := some { sid := 5, short := 0, typ := 0, stream := 0, packet := none, rate := 100, arate := 3, mapping := 0, app := 7, prot := 9 }, cfg := { deliver := 1 }, text := some (1, [65]) })
       let c : Nat := 3
       let x := s.dev.drm c
       let tg := 1
       let bytes := [65]
       (s.dev.active = true) ∧ (s.dev.drmDecodes c = true) ∧ (x.decode = true) ∧ (s.dev.kindOf c = 4) ∧ (hasBit x.cfg.deliver 0 = true) ∧ (1 ≤ bytes.length) ∧ (bytes.length ≤ 128) ∧ (x.text = some (tg, bytes)))
    ∧ (let s : State := on (drmUp { sync := 5, decode := true, res := some { sid := 5, short := 0, typ := 0, stream := 0, packet := none, rate := 100, arate := 3, mapping := 0, app := 7, prot := 9 }, cfg := { deliver := 1 } })
       let c : Nat := 3
       let x := s.dev.drm c
       let tg := 1
       let bytes := [65]
       (s.dev.active = true) ∧ (s.dev.drmDecodes c = true) ∧ (x.decode = true) ∧ (s.dev.kindOf c = 4) ∧ (hasBit x.cfg.deliver 0 = true) ∧ (1 ≤ bytes.length) ∧ (bytes.length ≤ 128) ∧ (x.text ≠ some (tg, bytes)) ∧ (s.dev.bind? c = none))
    ∧ (let s : State := on { upDev with now := 8000 * roundTicks + 16384 * 100, trav.ctxs := [(3, { kind := 6, fg := true, prio := 3, owner := .spi, since := 0, state := .running, tuning := some { freq := 6000, inputs := 1, std := 3, step := 0, count := 1 }, slot := some 5, input := some 0, decode := true })], dem.drm := [(3, { sync := 5, decode := true, res := some { sid := 5, short := 0, typ := 3, stream := 0, packet := none, rate := 100, arate := 3, mapping := 0, app := 7, prot := 9 } })], chan.slots := (List.replicate 64 {}).set 5 { user := some (.ctx 3), seg := 0, settleFrom := 0 }, rf.inputs := [{ mode := .live }, {}, {}, {}], data := { queues := [(8, { pages := 4 })], binds := [(3, { queue := 8, mot := false })] } }
       let c : Nat := 3
       let x := s.dev.drm c
       let r := { sid := 5, short := 0, typ := 3, stream := 0, packet := none, rate := 100, arate := 3, mapping := 0, app := 7, prot := 9 }
       let b := { queue := 8, mot := false }
       (s.dev.active = true) ∧ (s.dev.drmDecodes c = true) ∧ (x.decode = true) ∧ (x.res = some r) ∧ (s.dev.kindOf c = 6) ∧ (s.dev.bind? c = some b) ∧ (b.mot = false))
    ∧ (let s : State := on { upDev with now := 8000 * roundTicks + 16384 * 100, trav.ctxs := [(3, { kind := 6, fg := true, prio := 3, owner := .spi, since := 0, state := .running, tuning := some { freq := 6000, inputs := 1, std := 3, step := 0, count := 1 }, slot := some 5, input := some 0, decode := true })], dem.drm := [(3, { sync := 5, decode := true, res := some { sid := 5, short := 0, typ := 3, stream := 0, packet := none, rate := 100, arate := 3, mapping := 0, app := 7, prot := 9 } })], chan.slots := (List.replicate 64 {}).set 5 { user := some (.ctx 3), seg := 0, settleFrom := 0 }, rf.inputs := [{ mode := .live }, {}, {}, {}] }
       let c : Nat := 3
       let x := s.dev.drm c
       (s.dev.active = true) ∧ (s.dev.drmDecodes c = true) ∧ (x.decode = true)) :=
  by and_intros <;> decide +kernel

theorem witness_DigitalReceptionCommands :
    (let s : State := sent 0x1101 0x03 [1, 2, 3, 4, 5, 6, 3, 0] { upDev with trav := { ctxs := [(3, { kind := 3, fg := true, prio := 3, owner := .spi, since := 0, state := .running, tuning := some { freq := 220352, inputs := 1, std := 2, step := 0, count := 1 }, inst := some 0, decode := true })], insts := [(0, { freq := 220352, inputs := 1, anchor := 3, running := true, slot := some 5, input := some 0 })] }, dem := { insts := [(0, {})], dab := [(3, {})] } }
     admitted s 0x1101 (fun q e =>
       let x : CtxSt := { kind := 3, fg := true, prio := 3, owner := .spi, since := 0, state := .running, tuning := some { freq := 220352, inputs := 1, std := 2, step := 0, count := 1 }, inst := some 0, decode := true }
       decide ((q.badHeader = false) ∧ (e.inWatch = false) ∧ (e.ctx? q.ctx = some x) ∧ (x.closing = none) ∧ (x.stdFixed = 2) ∧ (q.src = x.owner) ∧ (q.len = 8) ∧ (q.p8 6 ≤ 3) ∧ (q.p8 7 = 0))) = true)
    ∧ (let s : State := sent 0x1102 0x03 [0, 0, 0, 0, 0, 0, 0, 0] { upDev with trav := { ctxs := [(3, { kind := 3, fg := true, prio := 3, owner := .spi, since := 0, state := .running, tuning := some { freq := 220352, inputs := 1, std := 2, step := 0, count := 1 }, inst := some 0, decode := true })], insts := [(0, { freq := 220352, inputs := 1, anchor := 3, running := true, slot := some 5, input := some 0 })] }, dem := { insts := [(0, {})], dab := [(3, {})] } }
       admitted s 0x1102 (fun q e =>
         let x : CtxSt := { kind := 3, fg := true, prio := 3, owner := .spi, since := 0, state := .running, tuning := some { freq := 220352, inputs := 1, std := 2, step := 0, count := 1 }, inst := some 0, decode := true }
         decide ((q.badHeader = false) ∧ (e.inWatch = false) ∧ (e.ctx? q.ctx = some x) ∧ (x.closing = none) ∧ (x.stdFixed = 2) ∧ (q.src = x.owner) ∧ (q.len = 8) ∧ (x.kind = 3 ∨ x.kind = 5) ∧ (q.p8 5 = 0) ∧ (q.p8 6 = 0) ∧ (q.p8 7 = 0) ∧ (q.p32 0 = 0) ∧ (q.p8 4 = 0))) = true)
    ∧ (let s : State := sent 0x1102 0x03 [194, 225, 0, 0, 0, 0, 0, 0] { upDev with trav := { ctxs := [(3, { kind := 3, fg := true, prio := 3, owner := .spi, since := 0, state := .running, tuning := some { freq := 220352, inputs := 1, std := 2, step := 0, count := 1 }, inst := some 0, decode := true })], insts := [(0, { freq := 220352, inputs := 1, anchor := 3, running := true, slot := some 5, input := some 0 })] }, dem := { insts := [(0, { sync := 4, complete := true, conf := { subs := [{ id := 1, start := 0, size := 84, prot := 0, rate := 112 }], servs := [{ sid := 0xE1C2, data := false, ecc := 0, ca := false, label := none }], comps := [{ sid := 0xE1C2, scids := 0, tmid := 0, typ := 63, subch := some 1, scid := none, addr := none, ca := false }] } })], dab := [(3, {})] } }
       admitted s 0x1102 (fun q e =>
         let x : CtxSt := { kind := 3, fg := true, prio := 3, owner := .spi, since := 0, state := .running, tuning := some { freq := 220352, inputs := 1, std := 2, step := 0, count := 1 }, inst := some 0, decode := true }
         let y := match x.inst with | some n => e.dabInst n | none => ({} : DabInst)
         let sel : DabSel := { sid := q.p32 0, flags := 0, scids := 0, subch := 0 }
         let r := { sub := { id := 1, start := 0, size := 84, prot := 0, rate := 112 }, typ := 1, addr := none }
         decide ((q.badHeader = false) ∧ (e.inWatch = false) ∧ (e.ctx? q.ctx = some x) ∧ (x.closing = none) ∧ (x.stdFixed = 2) ∧ (q.src = x.owner) ∧ (q.len = 8) ∧ (x.kind = 3 ∨ x.kind = 5) ∧ (q.p8 5 = 0) ∧ (q.p8 6 = 0) ∧ (q.p8 7 = 0) ∧ (q.p8 4 = 0) ∧ (q.p32 0 ≠ 0) ∧ (q.p32 0 ≤ 0xFFFFFF) ∧ (sel.resolve x.kind y.ecc y.conf = .ok r))) = true)
    ∧ (let s : State := sent 0x1102 0x03 [194, 225, 0, 0, 0, 0, 0, 0] { upDev with trav := { ctxs := [(3, { kind := 3, fg := true, prio := 3, owner := .spi, since := 0, state := .running, tuning := some { freq := 220352, inputs := 1, std := 2, step := 0, count := 1 }, inst := some 0, decode := true })], insts := [(0, { freq := 220352, inputs := 1, anchor := 3, running := true, slot := some 5, input := some 0 })] }, dem := { insts := [(0, {})], dab := [(3, {})] } }
       admitted s 0x1102 (fun q e =>
         let x : CtxSt := { kind := 3, fg := true, prio := 3, owner := .spi, since := 0, state := .running, tuning := some { freq := 220352, inputs := 1, std := 2, step := 0, count := 1 }, inst := some 0, decode := true }
         let y := match x.inst with | some n => e.dabInst n | none => ({} : DabInst)
         let sel : DabSel := { sid := q.p32 0, flags := 0, scids := 0, subch := 0 }
         let why := 0
         decide ((q.badHeader = false) ∧ (e.inWatch = false) ∧ (e.ctx? q.ctx = some x) ∧ (x.closing = none) ∧ (x.stdFixed = 2) ∧ (q.src = x.owner) ∧ (q.len = 8) ∧ (x.kind = 3 ∨ x.kind = 5) ∧ (q.p8 5 = 0) ∧ (q.p8 6 = 0) ∧ (q.p8 7 = 0) ∧ (q.p8 4 = 0) ∧ (q.p32 0 ≠ 0) ∧ (q.p32 0 ≤ 0xFFFFFF) ∧ (sel.resolve x.kind y.ecc y.conf = .error why) ∧ (why ≠ 3))) = true)
    ∧ (let s : State := sent 0x1102 0x03 [194, 225, 0, 0, 0, 0, 0, 0] { upDev with trav := { ctxs := [(3, { kind := 3, fg := true, prio := 3, owner := .spi, since := 0, state := .running, tuning := some { freq := 220352, inputs := 1, std := 2, step := 0, count := 1 }, inst := some 0, decode := true })], insts := [(0, { freq := 220352, inputs := 1, anchor := 3, running := true, slot := some 5, input := some 0 })] }, dem := { insts := [(0, { sync := 4, complete := true, conf := { subs := [{ id := 1, start := 0, size := 300, prot := 0, rate := 112 }], servs := [{ sid := 0xE1C2, data := false, ecc := 0, ca := false, label := none }], comps := [{ sid := 0xE1C2, scids := 0, tmid := 0, typ := 63, subch := some 1, scid := none, addr := none, ca := false }] } })], dab := [(3, {})] } }
       admitted s 0x1102 (fun q e =>
         let x : CtxSt := { kind := 3, fg := true, prio := 3, owner := .spi, since := 0, state := .running, tuning := some { freq := 220352, inputs := 1, std := 2, step := 0, count := 1 }, inst := some 0, decode := true }
         let y := match x.inst with | some n => e.dabInst n | none => ({} : DabInst)
         let sel : DabSel := { sid := q.p32 0, flags := 0, scids := 0, subch := 0 }
         let why := 3
         decide ((q.badHeader = false) ∧ (e.inWatch = false) ∧ (e.ctx? q.ctx = some x) ∧ (x.closing = none) ∧ (x.stdFixed = 2) ∧ (q.src = x.owner) ∧ (q.len = 8) ∧ (x.kind = 3 ∨ x.kind = 5) ∧ (q.p8 5 = 0) ∧ (q.p8 6 = 0) ∧ (q.p8 7 = 0) ∧ (q.p8 4 = 0) ∧ (q.p32 0 ≠ 0) ∧ (q.p32 0 ≤ 0xFFFFFF) ∧ (sel.resolve x.kind y.ecc y.conf = .error why) ∧ (why = 3))) = true)
    ∧ (let s : State := sent 0x1103 0x03 [0, 0, 5, 0] { upDev with trav := { ctxs := [(3, { kind := 3, fg := true, prio := 3, owner := .spi, since := 0, state := .running, tuning := some { freq := 220352, inputs := 1, std := 2, step := 0, count := 1 }, inst := some 0, decode := true })], insts := [(0, { freq := 220352, inputs := 1, anchor := 3, running := true, slot := some 5, input := some 0 })] }, dem := { insts := [(0, { sync := 4, complete := true, conf := { subs := [{ id := 1, start := 0, size := 84, prot := 0, rate := 112 }], servs := [{ sid := 0xE1C2, data := false, ecc := 0, ca := false, label := none }], comps := [{ sid := 0xE1C2, scids := 0, tmid := 0, typ := 63, subch := some 1, scid := none, addr := none, ca := false }] } })], dab := [(3, {})] } }
       admitted s 0x1103 (fun q e =>
         let x : CtxSt := { kind := 3, fg := true, prio := 3, owner := .spi, since := 0, state := .running, tuning := some { freq := 220352, inputs := 1, std := 2, step := 0, count := 1 }, inst := some 0, decode := true }
         let n := 0
         let l := (e.dabInst n).dump (q.p8 0)
         let sent := (l.drop (q.p8 1)).take (q.p8 2)
         let pl := u8 (q.p8 0) ++ u8 l.length ++ u8 (q.p8 1) ++ u8 sent.length ++ u16 (e.dabInst n).cif ++ zeros 2 ++ sent.flatten
         decide ((q.badHeader = false) ∧ (e.inWatch = false) ∧ (e.ctx? q.ctx = some x) ∧ (x.closing = none) ∧ (x.stdFixed = 2) ∧ (q.len = 4) ∧ (x.inst = some n) ∧ (q.p8 0 ≤ 3) ∧ (q.p8 3 = 0) ∧ (1 ≤ q.p8 2) ∧ (q.p8 2 ≤ 31) ∧ (q.p8 1 ≤ l.length) ∧ (q.fits pl = true))) = true)
    ∧ (let s : State := sent 0x1104 0x03 [] { upDev with trav := { ctxs := [(3, { kind := 3, fg := true, prio := 3, owner := .spi, since := 0, state := .running, tuning := some { freq := 220352, inputs := 1, std := 2, step := 0, count := 1 }, inst := some 0, decode := true })], insts := [(0, { freq := 220352, inputs := 1, anchor := 3, running := true, slot := some 5, input := some 0 })] }, dem := { insts := [(0, {})], dab := [(3, {})] } }
       admitted s 0x1104 (fun q e =>
         let x : CtxSt := { kind := 3, fg := true, prio := 3, owner := .spi, since := 0, state := .running, tuning := some { freq := 220352, inputs := 1, std := 2, step := 0, count := 1 }, inst := some 0, decode := true }
         decide ((q.badHeader = false) ∧ (e.inWatch = false) ∧ (e.ctx? q.ctx = some x) ∧ (x.closing = none) ∧ (x.stdFixed = 2) ∧ (q.len = 0))) = true)
    ∧ (let s : State := sent 0x1201 0x03 [5, 1, 1, 0] { upDev with trav.ctxs := [(3, { kind := 4, fg := true, prio := 3, owner := .spi, since := 0, state := .running, tuning := some { freq := 6000, inputs := 1, std := 3, step := 0, count := 1 }, slot := some 5, input := some 0, decode := true })] }
       admitted s 0x1201 (fun q e =>
         let x : CtxSt := { kind := 4, fg := true, prio := 3, owner := .spi, since := 0, state := .running, tuning := some { freq := 6000, inputs := 1, std := 3, step := 0, count := 1 }, slot := some 5, input := some 0, decode := true }
         let c := q.ctx
         decide ((q.badHeader = false) ∧ (e.inWatch = false) ∧ (e.ctx? q.ctx = some x) ∧ (x.closing = none) ∧ (e.isDrm c = true) ∧ (e.hasDrm = true) ∧ (q.src = x.owner) ∧ (q.len = 4) ∧ (q.p8 0 ≤ 15) ∧ (e.stdOf c = 3 → q.p8 0 ≠ 0) ∧ (e.stdOf c = 4 → q.p8 0 = 0) ∧ (q.p8 1 ≤ 3) ∧ (x.kind = 6 → hasBit (q.p8 1) 1 = false) ∧ (q.p8 2 ≤ 1) ∧ (q.p8 3 = 0))) = true)
    ∧ (let s : State := sent 0x1202 0x03 [0, 0, 0, 0, 0, 0, 0, 0] { upDev with trav.ctxs := [(3, { kind := 4, fg := true, prio := 3, owner := .spi, since := 0, state := .running, tuning := some { freq := 6000, inputs := 1, std := 3, step := 0, count := 1 }, slot := some 5, input := some 0, decode := true })] }
       admitted s 0x1202 (fun q e =>
         let x : CtxSt := { kind := 4, fg := true, prio := 3, owner := .spi, since := 0, state := .running, tuning := some { freq := 6000, inputs := 1, std := 3, step := 0, count := 1 }, slot := some 5, input := some 0, decode := true }
         let c := q.ctx
         decide ((q.badHeader = false) ∧ (e.inWatch = false) ∧ (e.ctx? q.ctx = some x) ∧ (x.closing = none) ∧ (e.isDrm c = true) ∧ (e.hasDrm = true) ∧ (q.src = x.owner) ∧ (q.len = 8) ∧ (x.kind = 4 ∨ x.kind = 6) ∧ (q.p8 5 = 0) ∧ (zeroAt q.params 6 2 = true) ∧ (q.p32 0 = 0) ∧ (q.p8 4 = 0))) = true)
    ∧ (let s : State := sent 0x1202 0x03 [5, 0, 0, 0, 0, 0, 0, 0] { upDev with trav.ctxs := [(3, { kind := 4, fg := true, prio := 3, owner := .spi, since := 0, state := .running, tuning := some { freq := 6000, inputs := 1, std := 3, step := 0, count := 1 }, slot := some 5, input := some 0, decode := true })], dem.drm := [(3, { fac := some { mode := 1, occ := 3, long := true, reconf := 0, msc := 16, sdc := 4, toggle := false, first := true, servs := [{ sid := 5, short := 0, data := false, ca := false }] }, servs := [{ sid := 5, short := 0, typ := 0, stream := 0, packet := none, rate := 100, arate := 3, mapping := 0, app := 7, prot := 9 }] })] }
       admitted s 0x1202 (fun q e =>
         let x : CtxSt := { kind := 4, fg := true, prio := 3, owner := .spi, since := 0, state := .running, tuning := some { freq := 6000, inputs := 1, std := 3, step := 0, count := 1 }, slot := some 5, input := some 0, decode := true }
         let c := q.ctx
         let y := e.drm c
         let fl := if x.kind = 4 then 0 else 1
         let r := { sid := 5, short := 0, typ := 0, stream := 0, packet := none, rate := 100, arate := 3, mapping := 0, app := 7, prot := 9 }
         decide ((q.badHeader = false) ∧ (e.inWatch = false) ∧ (e.ctx? q.ctx = some x) ∧ (x.closing = none) ∧ (e.isDrm c = true) ∧ (e.hasDrm = true) ∧ (q.src = x.owner) ∧ (q.len = 8) ∧ (x.kind = 4 ∨ x.kind = 6) ∧ (q.p8 5 = 0) ∧ (zeroAt q.params 6 2 = true) ∧ (q.p8 4 = fl) ∧ (q.p32 0 ≠ 0) ∧ (q.p32 0 ≤ 0xFFFFFF) ∧ (drmResolve x.kind y.fac y.servs (q.p32 0, fl, 0) = .ok r))) = true)
    ∧ (let s : State := sent 0x1202 0x03 [5, 0, 0, 0, 0, 0, 0, 0] { upDev with trav.ctxs := [(3, { kind := 4, fg := true, prio := 3, owner := .spi, since := 0, state := .running, tuning := some { freq := 6000, inputs := 1, std := 3, step := 0, count := 1 }, slot := some 5, input := some 0, decode := true })] }
       admitted s 0x1202 (fun q e =>
         let x : CtxSt := { kind := 4, fg := true, prio := 3, owner := .spi, since := 0, state := .running, tuning := some { freq := 6000, inputs := 1, std := 3, step := 0, count := 1 }, slot := some 5, input := some 0, decode := true }
         let c := q.ctx
         let y := e.drm c
         let fl := if x.kind = 4 then 0 else 1
         let why := 0
         decide ((q.badHeader = false) ∧ (e.inWatch = false) ∧ (e.ctx? q.ctx = some x) ∧ (x.closing = none) ∧ (e.isDrm c = true) ∧ (e.hasDrm = true) ∧ (q.src = x.owner) ∧ (q.len = 8) ∧ (x.kind = 4 ∨ x.kind = 6) ∧ (q.p8 5 = 0) ∧ (zeroAt q.params 6 2 = true) ∧ (q.p8 4 = fl) ∧ (q.p32 0 ≠ 0) ∧ (q.p32 0 ≤ 0xFFFFFF) ∧ (drmResolve x.kind y.fac y.servs (q.p32 0, fl, 0) = .error why))) = true)
    ∧ (let s : State := sent 0x1203 0x03 [] { upDev with trav.ctxs := [(3, { kind := 4, fg := true, prio := 3, owner := .spi, since := 0, state := .running, tuning := some { freq := 6000, inputs := 1, std := 3, step := 0, count := 1 }, slot := some 5, input := some 0, decode := true })] }
       admitted s 0x1203 (fun q e =>
         let x : CtxSt := { kind := 4, fg := true, prio := 3, owner := .spi, since := 0, state := .running, tuning := some { freq := 6000, inputs := 1, std := 3, step := 0, count := 1 }, slot := some 5, input := some 0, decode := true }
         let c := q.ctx
         decide ((q.badHeader = false) ∧ (e.inWatch = false) ∧ (e.ctx? q.ctx = some x) ∧ (x.closing = none) ∧ (e.isDrm c = true) ∧ (e.hasDrm = true) ∧ (q.len = 0))) = true) :=
  by and_intros <;> decide +kernel

theorem witness_CombinerAndFieldBook_1 :
    (let s : State := on upDev
     let dt : Nat := 0
     (s.dev.active = true) ∧ (s.dev.propN P.fbEvtRounds = 0 ∨ s.dev.fb.changedAt ≠ some ((s.dev.tick dt).now)))
    ∧ (let s : State := on { upDev with proto.props := [(P.fbEvtRounds, 8)], fb.eventAt := some (8000 * roundTicks + 999) }
       let dt : Nat := 0
       let t0 := 8000 * roundTicks + 999
       (s.dev.active = true) ∧ (s.dev.fb.eventAt = some t0) ∧ ((s.dev.tick dt).now < t0 + s.dev.propN P.fbEvtRounds * roundTicks))
    ∧ (let s : State := on { upDev with proto.props := [(P.fbEvtRounds, 8)], fb.changedAt := some (8000 * roundTicks + 1000) }
       let dt : Nat := 0
       (s.dev.active = true) ∧ (s.dev.propN P.fbEvtRounds ≠ 0) ∧ (s.dev.fb.changedAt = some ((s.dev.tick dt).now)) ∧ (s.dev.fb.eventAt = none))
    ∧ (let s : State := sent 0x0401 0xFF ([255, 0, 2, 0, 5] ++ List.replicate 15 0) { upDev with fb.entries := [(7, { std := 0, freq := 100000, id := 5 })] }
       admitted s 0x0401 (fun q e =>
         let page (first count : Nat) (f : Nat × FbEntry → List Byte) : List Byte :=
           let sent := (e.fb.entries.filter (first ≤ ·.1)).take count
           let next := if sent.length < count then 0xFFFF else match sent.getLast? with
             | some (h, _) => if h = 8191 then 0xFFFF else h + 1
             | none => 0xFFFF
           u8 sent.length ++ u8 0 ++ u16 next ++ u32 e.fb.gen ++ sent.flatMap f
         let pl := page (q.p16 2) (q.p8 4) fun x => u16 x.1 ++ x.2.bytesWith x.2.seen
         decide ((q.badHeader = false) ∧ (e.inWatch = false) ∧ (q.len = 20) ∧ (q.p8 0 = 0xFF) ∧ (q.p8 1 = 0) ∧ (q.p16 2 ≤ 8191) ∧ (1 ≤ q.p8 4) ∧ (q.p8 4 ≤ 28) ∧ (zeroAt q.params 5 15 = true) ∧ (q.fits pl = true))) = true)
    ∧ (let s : State := sent 0x0404 0xFF [2, 0, 5, 0] { upDev with fb.entries := [(7, { std := 0, freq := 100000, id := 5 })] }
       admitted s 0x0404 (fun q e =>
         let page (first count : Nat) (f : Nat × FbEntry → List Byte) : List Byte :=
           let sent := (e.fb.entries.filter (first ≤ ·.1)).take count
           let next := if sent.length < count then 0xFFFF else match sent.getLast? with
             | some (h, _) => if h = 8191 then 0xFFFF else h + 1
             | none => 0xFFFF
           u8 sent.length ++ u8 0 ++ u16 next ++ u32 e.fb.gen ++ sent.flatMap f
         let pl := page (q.p16 0) (q.p8 2) fun x => u16 x.1 ++ x.2.bytesWith (x.2.age e.now)
         decide ((q.badHeader = false) ∧ (e.inWatch = false) ∧ (q.len = 4) ∧ (q.p16 0 ≤ 8191) ∧ (1 ≤ q.p8 2) ∧ (q.p8 2 ≤ 29) ∧ (q.p8 3 = 0) ∧ (q.fits pl = true))) = true)
    ∧ (let s : State := sent 0x0402 0xFF ([255, 255, 1, 0, 0, 0, 160, 134, 1, 255, 161, 211] ++ List.replicate 24 0) upDev
       admitted s 0x0402 (fun q e =>
         let src := q.src.fbBit
         let b := slice q.params 4 32
         let r := e.fbStaged.fbPut (q.p16 0) (q.p8 2) b src
         decide ((q.badHeader = false) ∧ (e.inWatch = false) ∧ (q.src = e.proto.owner) ∧ (q.len = 36) ∧ (e.imageUnfitted b = false) ∧ (q.p16 0 ≤ 8191 ∨ q.p16 0 = 0xFFFF) ∧ (q.p8 2 ≤ 2) ∧ (q.p8 3 = 0) ∧ (putZeroBad b = false) ∧ (fbFieldBad b = false) ∧ (at16 b 12 = 0 ∨ 0x8000 ≤ at16 b 12) ∧ (r.1 = .ok))) = true)
    ∧ (let s : State := sent 0x0402 0xFF ([7, 0, 1, 0, 0, 0, 160, 134, 1, 255, 161, 211] ++ List.replicate 24 0) upDev
       admitted s 0x0402 (fun q e =>
         let src := q.src.fbBit
         let b := slice q.params 4 32
         let r := e.fbStaged.fbPut (q.p16 0) (q.p8 2) b src
         decide ((q.badHeader = false) ∧ (e.inWatch = false) ∧ (q.src = e.proto.owner) ∧ (q.len = 36) ∧ (e.imageUnfitted b = false) ∧ (q.p16 0 ≤ 8191 ∨ q.p16 0 = 0xFFFF) ∧ (q.p8 2 ≤ 2) ∧ (q.p8 3 = 0) ∧ (putZeroBad b = false) ∧ (fbFieldBad b = false) ∧ (at16 b 12 = 0 ∨ 0x8000 ≤ at16 b 12) ∧ (r.1 = .wrongState))) = true)
    ∧ (let s : State := sent 0x0402 0xFF ([0, 0, 1, 0, 0, 0, 160, 134, 1, 255, 161, 211] ++ List.replicate 24 0) { upDev with fb.entries := fullBook }
       admitted s 0x0402 (fun q e =>
         let src := q.src.fbBit
         let b := slice q.params 4 32
         let r := e.fbStaged.fbPut (q.p16 0) (q.p8 2) b src
         decide ((q.badHeader = false) ∧ (e.inWatch = false) ∧ (q.src = e.proto.owner) ∧ (q.len = 36) ∧ (e.imageUnfitted b = false) ∧ (q.p16 0 ≤ 8191 ∨ q.p16 0 = 0xFFFF) ∧ (q.p8 2 ≤ 2) ∧ (q.p8 3 = 0) ∧ (putZeroBad b = false) ∧ (fbFieldBad b = false) ∧ (at16 b 12 = 0 ∨ 0x8000 ≤ at16 b 12) ∧ (r.1 = .noPages))) = true)
    ∧ (let s : State := sent 0x0403 0xFF [7, 0, 0, 0] { upDev with fb.entries := [(7, { std := 0, freq := 100000, id := 5 })] }
       admitted s 0x0403 (fun q e =>
         let src := q.src.fbBit
         decide ((q.badHeader = false) ∧ (e.inWatch = false) ∧ (q.src = e.proto.owner) ∧ (q.len = 4) ∧ (q.p16 0 ≤ 8191) ∧ (q.p8 2 ≤ 2) ∧ (q.p8 3 = 0) ∧ (q.p8 2 = 0) ∧ ((e.fbStaged.fbe (q.p16 0)).isSome = true))) = true)
    ∧ (let s : State := sent 0x0403 0xFF [7, 0, 0, 0] upDev
       admitted s 0x0403 (fun q e =>
         let src := q.src.fbBit
         decide ((q.badHeader = false) ∧ (e.inWatch = false) ∧ (q.src = e.proto.owner) ∧ (q.len = 4) ∧ (q.p16 0 ≤ 8191) ∧ (q.p8 2 ≤ 2) ∧ (q.p8 3 = 0) ∧ (q.p8 2 = 0) ∧ (e.fbStaged.fbe (q.p16 0) = none))) = true)
    ∧ (let s : State := sent 0x0403 0xFF [0, 0, 1, 0] upDev
       admitted s 0x0403 (fun q e =>
         let src := q.src.fbBit
         decide ((q.badHeader = false) ∧ (e.inWatch = false) ∧ (q.src = e.proto.owner) ∧ (q.len = 4) ∧ (q.p16 0 ≤ 8191) ∧ (q.p8 2 ≤ 2) ∧ (q.p8 3 = 0) ∧ (q.p8 2 ≠ 0) ∧ (q.p16 0 = 0))) = true)
    ∧ (let s : State := sent 0x0405 0xFF ([1, 0, 0, 0, 32, 0, 160, 134, 1, 255, 161, 211] ++ List.replicate 24 0) upDev
       admitted s 0x0405 (fun q e =>
         let src := q.src.fbBit
         decide ((q.badHeader = false) ∧ (e.inWatch = false) ∧ (q.src = e.proto.owner) ∧ (1 ≤ q.p8 0) ∧ (q.p8 0 ≤ 31) ∧ (q.len = 4 + 32 * q.p8 0) ∧ (zeroAt q.params 1 3 = true))) = true) :=
  by and_intros <;> decide +kernel

theorem witness_CombinerAndFieldBook_2 :
    (let s : State := sent 0x1301 0xFF [2, 1, 0, 0, 0, 0, 0, 0] { upDev with comb.services := [(2, { anchor := 3, latency := 1, branches := [{ remote := false, source := 0, state := .active }], since := 0 })] }
     admitted s 0x1301 (fun q e =>
       let src := q.src.fbBit
       let bs := q.branches.map branchOf
       let act (anchor : Option Nat) : CmbAct := { service := q.p8 0, anchor := anchor, latency := q.p8 3, branches := bs
                                                   due := boundaryAt (e.now + 65536) }
       let staged (a : Option Nat) : Dev := { e with comb.acts := e.comb.acts ++ [act a] }
       decide ((q.badHeader = false) ∧ (e.inWatch = false) ∧ (q.src = e.proto.owner) ∧ (q.len = 8 + 8 * q.p8 2) ∧ (q.p8 2 ≤ 7) ∧ (q.p8 0 ≤ 7) ∧ (q.p32 4 = 0) ∧ (q.p8 1 = 1) ∧ (q.ctx = 0xFF) ∧ (q.p8 2 = 0) ∧ (q.p8 3 = 0) ∧ ((e.cmbAnchor (q.p8 0)).isSome = true) ∧ (((List.range 8).map (staged none).cmbCount).sum ≤ 32))) = true)
    ∧ (let s : State := sent 0x1301 0x03 [2, 0, 1, 3, 0, 0, 0, 0, 0, 1, 0, 0, 0, 0, 0, 0] { upDev with trav.ctxs := [(3, { kind := 1, fg := true, prio := 3, owner := .spi, since := 0, state := .running, tuning := some { freq := 100000, inputs := 1, std := 0, step := 0, count := 1 }, nb := some 0, slot := some 5, input := some 0 })] }
       admitted s 0x1301 (fun q e =>
         let src := q.src.fbBit
         let bs := q.branches.map branchOf
         let act (anchor : Option Nat) : CmbAct := { service := q.p8 0, anchor := anchor, latency := q.p8 3, branches := bs
                                                     due := boundaryAt (e.now + 65536) }
         let staged (a : Option Nat) : Dev := { e with comb.acts := e.comb.acts ++ [act a] }
         let x := { kind := 1, fg := true, prio := 3, owner := .spi, since := 0, state := .running, tuning := some { freq := 100000, inputs := 1, std := 0, step := 0, count := 1 }, nb := some 0, slot := some 5, input := some 0 }
         decide ((q.badHeader = false) ∧ (e.inWatch = false) ∧ (q.src = e.proto.owner) ∧ (q.len = 8 + 8 * q.p8 2) ∧ (q.p8 2 ≤ 7) ∧ (q.p8 0 ≤ 7) ∧ (q.p32 4 = 0) ∧ (q.p8 1 = 0) ∧ (q.ctx ≠ 0xFF) ∧ (e.ctx? q.ctx = some x) ∧ (x.closing = none) ∧ (x.fg = true) ∧ (x.tuning.isSome = true) ∧ (anchorKind x.kind = true) ∧ (q.branches.any branchBad = false) ∧ (1 ≤ q.p8 3) ∧ (q.p8 3 ≤ 8) ∧ (∀ b ∈ bs, b.remote = false) ∧ (∀ b ∈ bs, b.source < e.nInputs ∧ e.inputOf q.ctx ≠ some b.source) ∧ ((bs.map (·.source)).Nodup) ∧ (∀ k ∈ List.range 8, k ≠ q.p8 0 → e.cmbAnchor k ≠ some q.ctx) ∧ (e.cmbAnchor (q.p8 0) = none ∨ e.cmbAnchor (q.p8 0) = some q.ctx) ∧ ((staged (some q.ctx)).fgSlots e.ledger ≤ min 48 e.nSlots) ∧ (((List.range 8).map (staged (some q.ctx)).cmbCount).sum ≤ 32))) = true)
    ∧ (let s : State := sent 0x1302 0xFF [2, 0, 0, 0] upDev
       admitted s 0x1302 (fun q e =>
         decide ((q.badHeader = false) ∧ (e.inWatch = false) ∧ (q.len = 4) ∧ (q.p8 0 ≤ 7) ∧ (zeroAt q.params 1 3 = true) ∧ (tabGet e.comb.services (q.p8 0) = none))) = true)
    ∧ (let s : State := sent 0x1302 0xFF [2, 0, 0, 0] { upDev with comb.services := [(2, { anchor := 3, latency := 1, branches := [{ remote := false, source := 0, state := .active }], since := 0 })] }
       admitted s 0x1302 (fun q e =>
         let x := { anchor := 3, latency := 1, branches := [{ remote := false, source := 0, state := .active }], since := 0 }
         decide ((q.badHeader = false) ∧ (e.inWatch = false) ∧ (q.len = 4) ∧ (q.p8 0 ≤ 7) ∧ (zeroAt q.params 1 3 = true) ∧ (tabGet e.comb.services (q.p8 0) = some x))) = true) :=
  by and_intros <;> decide +kernel

theorem witness_FieldBookKeeps :
    (let d : Dev := { upDev with fb.entries := [(7, { std := 0, freq := 100000, id := 5, pinned := true })] }
     let x := (7, ({ std := 0, freq := 100000, id := 5, pinned := true } : FbEntry))
     (x ∈ d.fb.entries) ∧ (x.2.pinned = true ∨ x.2.tuned = true ∨ x.1 < d.fb.sweep ∨ d.fb.sweep + 128 ≤ x.1))
    ∧ (let d : Dev := { upDev with fb.entries := [(200, { std := 0, freq := 100000, id := 5 })] }
       let x := (200, ({ std := 0, freq := 100000, id := 5 } : FbEntry))
       (x ∈ d.fb.entries) ∧ (x.1 < d.fb.sweep ∨ d.fb.sweep + 128 ≤ x.1))
    ∧ (let d : Dev := { upDev with fb.entries := [(7, { std := 0, freq := 100000 })] }
       let id := 0
       let h := 7
       let x := ({ std := 0, freq := 100000 } : FbEntry)
       (d.fbVictim id = some h) ∧ ((h, x) ∈ d.fb.entries) ∧ ((d.fb.entries.map (·.1)).Nodup)) :=
  by and_intros <;> decide +kernel

theorem witness_FollowRows_1 :
    (let s : State := on { upDev with now := 2000000 * roundTicks }
     let p : Nat := 0
     (s.dev.active = true) ∧ (s.dev.grp? p = none))
    ∧ (let s : State := on { upDev with now := 2000000 * roundTicks, follow.groups := [(0, ({ mode := 1, regional := false, set := [4], pool := [], link := 0, onAir := 3, evalAt := 2000000 * roundTicks } : FollowGrp))], trav.ctxs := [(3, { kind := 1, fg := true, prio := 3, owner := .spi, since := 0, state := .running, tuning := some { freq := 100000, inputs := 1, std := 0, step := 0, count := 1 }, nb := some 0, slot := some 5, input := some 0, adec := some 0 }), (4, { kind := 1, fg := true, prio := 3, owner := .spi, since := 0, state := .running, tuning := some { freq := 100000, inputs := 1, std := 0, step := 0, count := 1 }, nb := some 0, slot := some 5, input := some 0, adec := some 0 })] }
       let dt : Nat := 0
       let p : Nat := 0
       let g := ({ mode := 1, regional := false, set := [4], pool := [], link := 0, onAir := 3, evalAt := 2000000 * roundTicks } : FollowGrp)
       (s.dev.active = true) ∧ (s.dev.grp? p = some g) ∧ ((s.dev.tick dt).now < g.evalAt + s.dev.propN P.followEval * roundTicks))
    ∧ (let s : State := on { upDev with now := 2000000 * roundTicks, follow.groups := [(0, ({ mode := 1, regional := false, set := [4], pool := [], link := 0, onAir := 3 } : FollowGrp))], trav.ctxs := [(3, { kind := 1, fg := true, prio := 3, owner := .spi, since := 0, state := .running, tuning := some { freq := 100000, inputs := 1, std := 0, step := 0, count := 1 }, nb := some 0, slot := some 5, input := some 0, adec := some 0 }), (4, { kind := 1, fg := true, prio := 3, owner := .spi, since := 0, state := .running, tuning := some { freq := 100000, inputs := 1, std := 0, step := 0, count := 1 }, nb := some 0, slot := some 5, input := some 0, adec := some 0 })], audio.progs := [{ src := some 3, ports := 0, causes := 0, blend := some ({ partner := 4, manual := true, place := (0, 100100), since := 0 } : BlendSt) }, {}, {}, {}] }
       let dt : Nat := 0
       let p : Nat := 0
       let x := s.dev.prog p
       let g := ({ mode := 1, regional := false, set := [4], pool := [], link := 0, onAir := 3 } : FollowGrp)
       (s.dev.active = true) ∧ (s.dev.grp? p = some g) ∧ (g.evalAt + s.dev.propN P.followEval * roundTicks ≤ (s.dev.tick dt).now) ∧ (x.fading.isSome = true ∨ x.blend.any (·.manual) = true))
    ∧ (let s : State := on { upDev with now := 2000000 * roundTicks, follow.groups := [(0, ({ mode := 1, regional := false, set := [4], pool := [], link := 0, onAir := 3 } : FollowGrp))], trav.ctxs := [(3, { kind := 1, fg := true, prio := 3, owner := .spi, since := 0, state := .running, tuning := some { freq := 100000, inputs := 1, std := 0, step := 0, count := 1 }, nb := some 0, slot := some 5, input := some 0, adec := some 0 }), (4, { kind := 1, fg := true, prio := 3, owner := .spi, since := 0, state := .running, tuning := some { freq := 100000, inputs := 1, std := 0, step := 0, count := 1 }, nb := some 0, slot := some 5, input := some 0, adec := some 0 })], audio.progs := [{ src := some 3, ports := 0, causes := 0 }, {}, {}, {}] }
       let dt : Nat := 0
       let p : Nat := 0
       let g := ({ mode := 1, regional := false, set := [4], pool := [], link := 0, onAir := 3 } : FollowGrp)
       (s.dev.active = true) ∧ (s.dev.grp? p = some g) ∧ (g.evalAt + s.dev.propN P.followEval * roundTicks ≤ (s.dev.tick dt).now))
    ∧ (let s : State := on { upDev with now := 2000000 * roundTicks, audio.progs := [{ src := some 3, ports := 0, causes := 0, blend := some ({ partner := 4, manual := true, place := (0, 100100), since := 0, relAt := some 0 } : BlendSt) }, {}, {}, {}], trav.ctxs := [(3, { kind := 1, fg := true, prio := 3, owner := .spi, since := 0, state := .running, tuning := some { freq := 100000, inputs := 1, std := 0, step := 0, count := 1 }, nb := some 0, slot := some 5, input := some 0, adec := some 0 }), (4, { kind := 1, fg := true, prio := 3, owner := .spi, since := 0, state := .running, tuning := some { freq := 100100, inputs := 1, std := 0, step := 0, count := 1 }, nb := some 0, slot := some 5, input := some 0, adec := some 0 })] }
       let dt : Nat := 0
       let p : Nat := 0
       let x := s.dev.prog p
       let b := ({ partner := 4, manual := true, place := (0, 100100), since := 0, relAt := some 0 } : BlendSt)
       let t0 := 0
       (s.dev.active = true) ∧ (p < s.dev.audio.progs.length) ∧ (x.fading = none) ∧ (x.blend = some b) ∧ (b.mismatched = false) ∧ (b.ready = false) ∧ (b.relAt = some t0) ∧ (t0 + msec 2000 ≤ (s.dev.tick dt).now) ∧ (b.measAt = none))
    ∧ (let s : State := on { upDev with now := 2000000 * roundTicks, audio.progs := [{ src := some 3, ports := 0, causes := 0, blend := some ({ partner := 4, manual := true, place := (0, 100100), since := 0, relAt := some 0, lastLag := some 5 } : BlendSt) }, {}, {}, {}], trav.ctxs := [(3, { kind := 1, fg := true, prio := 3, owner := .spi, since := 0, state := .running, tuning := some { freq := 100000, inputs := 1, std := 0, step := 0, count := 1 }, nb := some 0, slot := some 5, input := some 0, adec := some 0 }), (4, { kind := 1, fg := true, prio := 3, owner := .spi, since := 0, state := .running, tuning := some { freq := 100100, inputs := 1, std := 0, step := 0, count := 1 }, nb := some 0, slot := some 5, input := some 0, adec := some 0 })] }
       let dt : Nat := 0
       let p : Nat := 0
       let x := s.dev.prog p
       let b := ({ partner := 4, manual := true, place := (0, 100100), since := 0, relAt := some 0, lastLag := some 5 } : BlendSt)
       let t0 := 0
       let lag := 5
       let l := 5
       (s.dev.active = true) ∧ (p < s.dev.audio.progs.length) ∧ (x.fading = none) ∧ (x.blend = some b) ∧ (b.mismatched = false) ∧ (b.ready = false) ∧ (b.relAt = some t0) ∧ (t0 + msec 2000 ≤ (s.dev.tick dt).now) ∧ (b.measAt = none) ∧ (b.lastLag = some l) ∧ ((lag - l).natAbs ≤ 1) ∧ (b.lag = none) ∧ (lag ≤ 144000) ∧ (b.manual = true))
    ∧ (let s : State := on { upDev with now := 2000000 * roundTicks, audio.progs := [{ src := some 3, ports := 0, causes := 0, blend := some ({ partner := 4, manual := false, place := (0, 100100), since := 0, runAt := some 0 } : BlendSt) }, {}, {}, {}], trav.ctxs := [(3, { kind := 1, fg := true, prio := 3, owner := .spi, since := 0, state := .running, tuning := some { freq := 100000, inputs := 1, std := 0, step := 0, count := 1 }, nb := some 0, slot := some 5, input := some 0, adec := some 0 }), (4, { kind := 1, fg := true, prio := 3, owner := .spi, since := 0, state := .running, tuning := some { freq := 100100, inputs := 1, std := 0, step := 0, count := 1 }, nb := some 0, slot := some 5, input := some 0, adec := some 0 })] }
       let dt : Nat := 0
       let p : Nat := 0
       let x := s.dev.prog p
       let b := ({ partner := 4, manual := false, place := (0, 100100), since := 0, runAt := some 0 } : BlendSt)
       let t0 := 0
       (s.dev.active = true) ∧ (p < s.dev.audio.progs.length) ∧ (x.fading = none) ∧ (x.blend = some b) ∧ (b.mismatched = false) ∧ (b.lag = none) ∧ (b.runAt = some t0) ∧ (t0 + msec 10000 ≤ (s.dev.tick dt).now) ∧ (b.manual = false))
    ∧ (let s : State := on { upDev with now := 2000000 * roundTicks, audio.progs := [{ src := some 3, ports := 0, causes := 0, blend := some ({ partner := 4, manual := true, place := (0, 100100), since := 0, runAt := some 0 } : BlendSt) }, {}, {}, {}], trav.ctxs := [(3, { kind := 1, fg := true, prio := 3, owner := .spi, since := 0, state := .running, tuning := some { freq := 100000, inputs := 1, std := 0, step := 0, count := 1 }, nb := some 0, slot := some 5, input := some 0, adec := some 0 }), (4, { kind := 1, fg := true, prio := 3, owner := .spi, since := 0, state := .running, tuning := some { freq := 100100, inputs := 1, std := 0, step := 0, count := 1 }, nb := some 0, slot := some 5, input := some 0, adec := some 0 })] }
       let dt : Nat := 0
       let p : Nat := 0
       let x := s.dev.prog p
       let b := ({ partner := 4, manual := true, place := (0, 100100), since := 0, runAt := some 0 } : BlendSt)
       let t0 := 0
       (s.dev.active = true) ∧ (p < s.dev.audio.progs.length) ∧ (x.fading = none) ∧ (x.blend = some b) ∧ (b.mismatched = false) ∧ (b.lag = none) ∧ (b.runAt = some t0) ∧ (t0 + msec 10000 ≤ (s.dev.tick dt).now) ∧ (b.manual = true))
    ∧ (let s : State := on { upDev with now := 2000000 * roundTicks, audio.progs := [{ src := some 3, ports := 0, causes := 0, blend := some ({ partner := 4, manual := true, place := (0, 100100), since := 0, lag := some 0 } : BlendSt) }, {}, {}, {}], trav.ctxs := [(3, { kind := 1, fg := true, prio := 3, owner := .spi, since := 0, state := .running, tuning := some { freq := 100000, inputs := 1, std := 0, step := 0, count := 1 }, nb := some 0, slot := some 5, input := some 0, adec := some 0 }), (4, { kind := 1, fg := true, prio := 3, owner := .spi, since := 0, state := .running, tuning := some { freq := 100100, inputs := 1, std := 0, step := 0, count := 1 }, nb := some 0, slot := some 5, input := some 0, adec := some 0 })] }
       let dt : Nat := 0
       let p : Nat := 0
       let d := s.dev.tick dt
       let x := s.dev.prog p
       let b := ({ partner := 4, manual := true, place := (0, 100100), since := 0, lag := some 0 } : BlendSt)
       let l := 0
       (s.dev.active = true) ∧ (p < s.dev.audio.progs.length) ∧ (x.blend = some b) ∧ (b.mismatched = false) ∧ (b.ready = false) ∧ (b.lag = some l) ∧ (l.toNat * deltaUnit ≤ d.deltaNow p) ∧ (b.manual = true))
    ∧ (let s : State := on { upDev with now := 2000000 * roundTicks, audio.progs := [{ src := some 3, ports := 0, causes := 0, blend := some ({ partner := 4, manual := false, place := (0, 100100), since := 0, lag := some 0 } : BlendSt) }, {}, {}, {}], trav.ctxs := [(3, { kind := 1, fg := true, prio := 3, owner := .spi, since := 0, state := .running, tuning := some { freq := 100000, inputs := 1, std := 0, step := 0, count := 1 }, nb := some 0, slot := some 5, input := some 0, adec := some 0 }), (4, { kind := 1, fg := true, prio := 3, owner := .spi, since := 0, state := .running, tuning := some { freq := 100100, inputs := 1, std := 0, step := 0, count := 1 }, nb := some 0, slot := some 5, input := some 0, adec := some 0 })] }
       let dt : Nat := 0
       let p : Nat := 0
       let d := s.dev.tick dt
       let x := s.dev.prog p
       let b := ({ partner := 4, manual := false, place := (0, 100100), since := 0, lag := some 0 } : BlendSt)
       let l := 0
       (s.dev.active = true) ∧ (p < s.dev.audio.progs.length) ∧ (x.blend = some b) ∧ (b.mismatched = false) ∧ (b.ready = false) ∧ (b.lag = some l) ∧ (l.toNat * deltaUnit ≤ d.deltaNow p) ∧ (b.manual = false))
    ∧ (let s : State := on { upDev with now := 2000000 * roundTicks, audio.progs := [{ src := some 3, ports := 0, causes := 0, fading := some ({ from_ := 3, target := 4, start := 0, ends := 5, result := 0 } : FadeSt), blend := some ({ partner := 4, manual := false, place := (0, 100100), since := 0 } : BlendSt) }, {}, {}, {}], trav.ctxs := [(3, { kind := 1, fg := true, prio := 3, owner := .spi, since := 0, state := .running, tuning := some { freq := 100000, inputs := 1, std := 0, step := 0, count := 1 }, nb := some 0, slot := some 5, input := some 0, adec := some 0 }), (4, { kind := 1, fg := true, prio := 3, owner := .spi, since := 0, state := .running, tuning := some { freq := 100000, inputs := 1, std := 0, step := 0, count := 1 }, nb := some 0, slot := some 5, input := some 0, adec := some 0 })], follow.groups := [(0, ({ mode := 1, regional := false, set := [4], pool := [], link := 0, onAir := 3 } : FollowGrp))] }
       let dt : Nat := 0
       let p : Nat := 0
       let x := s.dev.prog p
       let f := ({ from_ := 3, target := 4, start := 0, ends := 5, result := 0 } : FadeSt)
       (s.dev.active = true) ∧ (p < s.dev.audio.progs.length) ∧ (x.fading = some f) ∧ (f.ends ≤ (s.dev.tick dt).now) ∧ (f.result ≠ 2) ∧ (f.result ≠ 4))
    ∧ (let s : State := on { upDev with now := 2000000 * roundTicks, audio.progs := [{ src := some 3, ports := 0, causes := 0, fading := some ({ from_ := 3, target := 4, start := 0, ends := 5, result := 2 } : FadeSt), blend := some ({ partner := 4, manual := false, place := (0, 100100), since := 0 } : BlendSt) }, {}, {}, {}], trav.ctxs := [(3, { kind := 1, fg := true, prio := 3, owner := .spi, since := 0, state := .running, tuning := some { freq := 100000, inputs := 1, std := 0, step := 0, count := 1 }, nb := some 0, slot := some 5, input := some 0, adec := some 0 }), (4, { kind := 1, fg := true, prio := 3, owner := .spi, since := 0, state := .running, tuning := some { freq := 100000, inputs := 1, std := 0, step := 0, count := 1 }, nb := some 0, slot := some 5, input := some 0, adec := some 0 })], follow.groups := [(0, ({ mode := 1, regional := false, set := [4], pool := [], link := 0, onAir := 3 } : FollowGrp))] }
       let dt : Nat := 0
       let p : Nat := 0
       let x := s.dev.prog p
       let f := ({ from_ := 3, target := 4, start := 0, ends := 5, result := 2 } : FadeSt)
       (s.dev.active = true) ∧ (p < s.dev.audio.progs.length) ∧ (x.fading = some f) ∧ (f.ends ≤ (s.dev.tick dt).now) ∧ (f.result = 2 ∨ f.result = 4)) :=
  by and_intros <;> decide +kernel

theorem witness_FollowRows_2 :
    (let s : State := sent 0x0406 0xFF [0, 0, 0, 1, 3, 255, 255, 0, 255, 255, 255, 255, 255, 255, 255, 255, 0, 0, 0, 0] { upDev with trav.ctxs := [(3, { kind := 1, fg := true, prio := 3, owner := .spi, since := 0, state := .running, tuning := some { freq := 100000, inputs := 1, std := 0, step := 0, count := 1 }, nb := some 0, slot := some 5, input := some 0, adec := some 0 })], audio.progs := [{ src := some 3, ports := 0, causes := 0 }, {}, {}, {}] }
     admitted s 0x0406 (fun q e =>
       let p : Nat := 0
       decide ((s.dev.active = true) ∧ (q.badHeader = false) ∧ (e.inWatch = false) ∧ (q.p8 0 = p) ∧ (p ≤ 3) ∧ (q.src = e.proto.owner) ∧ (q.len = 20) ∧ (q.p8 1 = 0) ∧ (q.p8 2 = 0) ∧ (q.p8 3 ≤ 1) ∧ (q.p8 4 ≤ 127) ∧ (q.p8 4 < e.nCtx) ∧ (∀ k ∈ List.range 2, q.p8 (5 + k) = 0xFF) ∧ (∀ k ∈ List.range 8, q.p8 (8 + k) = 0xFF) ∧ (q.p8 7 = 0) ∧ (q.p16 18 = 0) ∧ ((e.progRoute p).1 = some (q.p8 4)) ∧ ((e.prog p).fading = none) ∧ ((q.p8 4) ∉ e.groupCtxs p) ∧ ((e.ctx? (q.p8 4)).any (fun c => decide (c.closing = none ∧ c.fg = true ∧ audioKind c.kind = true ∧ c.owner = q.src)) = true))) = true)
    ∧ (let s : State := sent 0x0407 0xFF [0, 0, 0, 0] upDev
       admitted s 0x0407 (fun q e =>
         let p : Nat := 0
         decide ((s.dev.active = true) ∧ (q.badHeader = false) ∧ (e.inWatch = false) ∧ (q.p8 0 = p) ∧ (p ≤ 3) ∧ (q.len = 4) ∧ (zeroAt q.params 1 3 = true) ∧ (e.grp? p = none))) = true) :=
  by and_intros <;> decide +kernel

theorem witness_AudioRows :
    (let s : State := on { upDev with now := 8000 * roundTicks, trav.ctxs := [(3, { kind := 1, fg := true, prio := 3, owner := .spi, since := 0, state := .running, tuning := some { freq := 100000, inputs := 1, std := 0, step := 0, count := 1 }, nb := some 0, slot := some 5, input := some 0, adec := some 0 })] }
     let n : Nat := 3
     let x := { kind := 1, fg := true, prio := 3, owner := .spi, since := 0, state := .running, tuning := some { freq := 100000, inputs := 1, std := 0, step := 0, count := 1 }, nb := some 0, slot := some 5, input := some 0, adec := some 0 }
     (s.dev.active = true) ∧ (s.dev.ctx? n = some x) ∧ (x.state = .running) ∧ (x.adec.isSome = true))
    ∧ (let s : State := on { upDev with now := 8000 * roundTicks, audio.ports := [{ cfg := some { role := 0, format := 0, rate := 2, slots := 2, slotBits := 32, wordBits := 24, group := 0xFF, flags := 0 }, run := .running, clockOk := true }, {}, {}, {}] }
       let n : Nat := 0
       let kind := 1
       (s.dev.active = true) ∧ (kind ≤ 3) ∧ (n < 4) ∧ (n < s.dev.audio.ports.length) ∧ (s.dev.leader n = n) ∧ (s.dev.groupSends n = true) ∧ (2 ≤ kind → (s.dev.group n).any s.dev.slaveRuns = true))
    ∧ (let s : State := on { upDev with now := 8000 * roundTicks, clk := { pllA := .locked, audOn := true }, audio.ports := [{ cfg := some { role := 1, format := 0, rate := 2, slots := 2, slotBits := 32, wordBits := 24, group := 0xFF, flags := 0 }, run := .running, clockOk := true }, {}, {}, {}] }
       let n : Nat := 0
       let kind := 3
       (s.dev.active = true) ∧ (kind ≤ 3) ∧ (n < 4) ∧ (n < s.dev.audio.ports.length) ∧ (s.dev.leader n = n) ∧ (s.dev.groupSends n = true) ∧ (2 ≤ kind → (s.dev.group n).any s.dev.slaveRuns = true))
    ∧ (let s : State := on { upDev with now := 8000 * roundTicks, audio.ports := [{ cfg := some { role := 0, format := 0, rate := 2, slots := 2, slotBits := 32, wordBits := 24, group := 0xFF, flags := 0 }, run := .running, outOfStep := true }, {}, {}, {}] }
       let n : Nat := 0
       (s.dev.active = true) ∧ ((s.dev.port n).outOfStep = true))
    ∧ (let s : State := on { upDev with now := 8000 * roundTicks, audio.ports := [{ cfg := some { role := 0, format := 0, rate := 2, slots := 2, slotBits := 32, wordBits := 24, group := 0xFF, flags := 0 }, run := .running, clockOk := true, muted := true }, {}, {}, {}] }
       let dt : Nat := 0
       let n : Nat := 0
       let d := s.dev.tick dt
       (s.dev.active = true) ∧ (n < 4) ∧ (n < s.dev.audio.ports.length) ∧ (s.dev.leader n = n) ∧ ((s.dev.port n).muted = true) ∧ (s.dev.groupSends n = true) ∧ ((s.dev.port n).faults.any (d.withinFrames (d.groupRate n) 256) = false))
    ∧ (let s : State := on { upDev with now := 8000 * roundTicks, audio.ports := [{ cfg := some { role := 1, format := 0, rate := 2, slots := 2, slotBits := 32, wordBits := 24, group := 0xFF, flags := 0 }, run := .running, clockOk := true }, {}, {}, {}] }
       let n : Nat := 0
       (s.dev.active = true) ∧ (n < 4) ∧ (s.dev.audio.ports.length = 4) ∧ (s.dev.slaveRuns n = true) ∧ (s.dev.leader n = n) ∧ (s.dev.group n = [n]) ∧ ((s.dev.port n).clockOk = true))
    ∧ (let s : State := on { upDev with now := 8000 * roundTicks, audio.ports := [{ cfg := some { role := 1, format := 0, rate := 2, slots := 2, slotBits := 32, wordBits := 24, group := 0xFF, flags := 0 }, run := .running }, {}, {}, {}] }
       let n : Nat := 0
       let c := { role := 1, format := 0, rate := 2, slots := 2, slotBits := 32, wordBits := 24, group := 0xFF, flags := 0 }
       (s.dev.active = true) ∧ (n < 4) ∧ (s.dev.audio.ports.length = 4) ∧ (s.dev.slaveRuns n = true) ∧ (s.dev.leader n = n) ∧ (s.dev.group n = [n]) ∧ ((s.dev.port n).clockOk = false) ∧ ((s.dev.port n).cfg = some c))
    ∧ (let s : State := on { upDev with now := 8000 * roundTicks, audio.ports := [{ cfg := some { role := 0, format := 0, rate := 2, slots := 2, slotBits := 32, wordBits := 24, group := 0xFF, flags := 0 }, run := .stopping 0 }, {}, {}, {}] }
       let dt : Nat := 0
       let n : Nat := 0
       let t0 := 0
       (s.dev.active = true) ∧ (n < 4) ∧ ((s.dev.port n).run = .stopping t0) ∧ (t0 + msec 5 ≤ (s.dev.tick dt).now))
    ∧ (let s : State := on { upDev with now := 8000 * roundTicks, audio.spdo := [{ run := .stopping 0 }, {}] }
       let dt : Nat := 0
       let n : Nat := 4
       let t0 := 0
       (s.dev.active = true) ∧ (4 ≤ n) ∧ (n < 6) ∧ ((s.dev.audio.spdo.getD (n - 4) {}).run = .stopping t0) ∧ (t0 + msec 5 ≤ (s.dev.tick dt).now))
    ∧ (let s : State := on { upDev with now := 8000 * roundTicks, clk := { pllA := .locked, audOn := true, audMode := 3 } }
       let gap := 4000
       let errors := 0
       let off := 0
       (s.dev.active = true) ∧ (s.dev.spdiRuns = true) ∧ (4000 ≤ gap ∨ 4 < errors ∨ refInRange off = false) ∧ (s.dev.audio.spdiLost ≠ some true))
    ∧ (let s : State := on { upDev with now := 8000 * roundTicks, clk := { pllA := .locked, audOn := true, audMode := 3 } }
       let n := 64
       let off := 0
       (s.dev.active = true) ∧ (s.dev.spdiRuns = true) ∧ (64 ≤ n) ∧ (refInRange off = true) ∧ (s.dev.audio.spdiLost = none))
    ∧ (let s : State := on { upDev with now := 8000 * roundTicks, clk := { pllA := .locked, audOn := true, audMode := 3 }, audio.spdiLost := some true }
       let n := 64
       let off := 0
       (s.dev.active = true) ∧ (s.dev.spdiRuns = true) ∧ (64 ≤ n) ∧ (refInRange off = true) ∧ (s.dev.audio.spdiLost = some true)) :=
  by and_intros <;> decide +kernel

theorem witness_AudioCommands :
    (let s : State := sent 0x0501 0xFF [0, 0, 0, 0] upDev
     admitted s 0x0501 (fun q e =>
       decide ((q.badHeader = false) ∧ (e.inWatch = false) ∧ (q.len = 4) ∧ (q.p8 0 ≤ 3) ∧ (e.followArmed (q.p8 0) = false) ∧ (q.ctx = 0xFF) ∧ (q.src = e.proto.owner) ∧ (q.p8 1 = 0) ∧ (q.p8 2 = 0) ∧ (q.p8 3 = 0))) = true)
    ∧ (let s : State := sent 0x0501 0x03 [0, 0, 2, 1] { upDev with trav.ctxs := [(3, { kind := 1, fg := true, prio := 3, owner := .spi, since := 0, state := .running, tuning := some { freq := 100000, inputs := 1, std := 0, step := 0, count := 1 }, nb := some 0, slot := some 5, input := some 0, adec := some 0 })] }
       admitted s 0x0501 (fun q e =>
         let x := { kind := 1, fg := true, prio := 3, owner := .spi, since := 0, state := .running, tuning := some { freq := 100000, inputs := 1, std := 0, step := 0, count := 1 }, nb := some 0, slot := some 5, input := some 0, adec := some 0 }
         decide ((q.badHeader = false) ∧ (e.inWatch = false) ∧ (q.len = 4) ∧ (q.p8 0 ≤ 3) ∧ (e.followArmed (q.p8 0) = false) ∧ (e.ctx? q.ctx = some x) ∧ (q.ctx ≠ 0xFF) ∧ (q.src = x.owner) ∧ (x.closing = none) ∧ (audioKind x.kind = true) ∧ (∀ k ∈ List.range 4, k ≠ q.p8 0 → (e.progRoute k).1 ≠ some q.ctx) ∧ (q.p8 1 = 0) ∧ (q.p8 2 ≤ 7) ∧ (q.p8 3 < 6))) = true)
    ∧ (let s : State := sent 0x0501 0x03 [0, 1, 0, 0] { upDev with trav.ctxs := [(3, { kind := 1, fg := true, prio := 3, owner := .spi, since := 0, state := .running, tuning := some { freq := 100000, inputs := 1, std := 0, step := 0, count := 1 }, nb := some 0, slot := some 5, input := some 0, adec := some 0 })], audio.ports := [{ cfg := some { role := 0, format := 0, rate := 2, slots := 2, slotBits := 32, wordBits := 24, group := 0xFF, flags := 0 } }, {}, {}, {}] }
       admitted s 0x0501 (fun q e =>
         let x := { kind := 1, fg := true, prio := 3, owner := .spi, since := 0, state := .running, tuning := some { freq := 100000, inputs := 1, std := 0, step := 0, count := 1 }, nb := some 0, slot := some 5, input := some 0, adec := some 0 }
         decide ((q.badHeader = false) ∧ (e.inWatch = false) ∧ (q.len = 4) ∧ (q.p8 0 ≤ 3) ∧ (e.followArmed (q.p8 0) = false) ∧ (e.ctx? q.ctx = some x) ∧ (q.ctx ≠ 0xFF) ∧ (q.src = x.owner) ∧ (x.closing = none) ∧ (audioKind x.kind = true) ∧ (∀ k ∈ List.range 4, k ≠ q.p8 0 → (e.progRoute k).1 = none ∧ (e.progRoute k).2.1 = 0) ∧ (q.p8 1 = 1) ∧ (q.p8 2 = 0) ∧ (q.p8 3 = 0) ∧ ((e.portCfg 0).any (fun c => decide (2 ≤ c.slots)) = true))) = true)
    ∧ (let s : State := sent 0x0507 0xFF [] upDev
       admitted s 0x0507 (fun q e =>
         decide ((q.badHeader = false) ∧ (e.inWatch = false) ∧ (q.len = 0))) = true)
    ∧ (let s : State := sent 0x0502 0xFF [0, 0, 0, 2, 2, 32, 24, 255, 0, 0, 0, 0] upDev
       admitted s 0x0502 (fun q e =>
         decide ((q.badHeader = false) ∧ (e.inWatch = false) ∧ (q.src = e.proto.owner) ∧ (q.len = 12) ∧ (q.p8 0 ≤ 3) ∧ (q.portCfg.bad (q.p8 0) = false) ∧ (zeroAt q.params 9 3 = true) ∧ (∀ n ∈ List.range 4, e.willRun n = false) ∧ (family441 q.portCfg.rate = family441 e.clk.audRate) ∧ (e.clk.audMode ≠ 2) ∧ (e.clk.audPending = false) ∧ (∀ k ∈ List.range 4, (e.progRoute k).2.1 = 0))) = true)
    ∧ (let s : State := sent 0x0503 0xFF [1, 0, 0, 0] { upDev with audio.ports := [{ cfg := some { role := 0, format := 0, rate := 2, slots := 2, slotBits := 32, wordBits := 24, group := 0xFF, flags := 0 } }, {}, {}, {}] }
       admitted s 0x0503 (fun q e =>
         decide ((q.badHeader = false) ∧ (e.inWatch = false) ∧ (q.src = e.proto.owner) ∧ (q.len = 4) ∧ (1 ≤ q.p8 0) ∧ (q.p8 0 < 64) ∧ (zeroAt q.params 2 2 = true) ∧ (e.clk.audPending = false) ∧ (((bitsOf 6 (q.p8 0)).any e.outStopping) = false) ∧ (∀ n ∈ bitsOf 4 (q.p8 0), ∀ m ∈ e.groupAccepted (leaderOf n (e.portCfg n)), hasBit (q.p8 0) m = true) ∧ (q.p8 1 = 0))) = true)
    ∧ (let s : State := sent 0x0503 0xFF [1, 1, 0, 0] { upDev with audio.ports := [{ cfg := some { role := 0, format := 0, rate := 2, slots := 2, slotBits := 32, wordBits := 24, group := 0xFF, flags := 0 } }, {}, {}, {}] }
       admitted s 0x0503 (fun q e =>
         decide ((q.badHeader = false) ∧ (e.inWatch = false) ∧ (q.src = e.proto.owner) ∧ (q.len = 4) ∧ (1 ≤ q.p8 0) ∧ (q.p8 0 < 64) ∧ (zeroAt q.params 2 2 = true) ∧ (e.clk.audPending = false) ∧ (((bitsOf 6 (q.p8 0)).any e.outStopping) = false) ∧ (∀ n ∈ bitsOf 4 (q.p8 0), ∀ m ∈ e.groupAccepted (leaderOf n (e.portCfg n)), hasBit (q.p8 0) m = true) ∧ (q.p8 1 = 1) ∧ (∀ n ∈ bitsOf 6 (q.p8 0), (e.outRate n).any (fun r => decide (family441 r = family441 e.clk.audRate)) = true) ∧ (∀ n ∈ bitsOf 4 (q.p8 0), e.groupAgrees n = true))) = true)
    ∧ (let s : State := sent 0x0504 0xFF [0, 2, 1, 0, 65] upDev
       admitted s 0x0504 (fun q e =>
         decide ((q.badHeader = false) ∧ (e.inWatch = false) ∧ (q.src = e.proto.owner) ∧ (q.p8 2 ≤ 128) ∧ (q.len = 4 + q.p8 2) ∧ (q.p8 0 ≤ 1) ∧ (q.p8 1 ≤ 3) ∧ (q.p8 3 = 0) ∧ (e.willRun (4 + q.p8 0) = false) ∧ (family441 (q.p8 1) = family441 e.clk.audRate))) = true)
    ∧ (let s : State := sent 0x0505 0xFF [0, 1, 156, 0] upDev
       admitted s 0x0505 (fun q e =>
         decide ((q.badHeader = false) ∧ (e.inWatch = false) ∧ (q.src = e.proto.owner) ∧ (q.len = 4) ∧ (q.p8 0 ≤ 3) ∧ (q.p8 1 ≤ 1) ∧ (-120 ≤ q.ps8 2) ∧ (q.ps8 2 ≤ 24) ∧ (q.p8 3 = 0))) = true)
    ∧ (let s : State := sent 0x0506 0xFF [0, 1, 20, 0, 0, 0, 255, 0] upDev
       admitted s 0x0506 (fun q e =>
         decide ((q.badHeader = false) ∧ (e.inWatch = false) ∧ (q.src = e.proto.owner) ∧ (q.len = 8) ∧ (q.p8 0 ≤ 3) ∧ (q.p8 1 ≤ 1) ∧ (20 ≤ q.p16 2) ∧ (q.p16 2 ≤ 500) ∧ (q.p8 7 = 0) ∧ (e.followArmed (q.p8 0) = false) ∧ (e.blendBusy (q.p8 0) = false) ∧ (q.p8 4 = 0) ∧ (q.p8 5 = 0) ∧ (q.p8 6 = 0xFF))) = true)
    ∧ (let s : State := sent 0x0506 0xFF [0, 1, 20, 0, 1, 1, 4, 0] { upDev with trav.ctxs := [(3, { kind := 1, fg := true, prio := 3, owner := .spi, since := 0, state := .running, tuning := some { freq := 100000, inputs := 1, std := 0, step := 0, count := 1 }, nb := some 0, slot := some 5, input := some 0, adec := some 0 }), (4, { kind := 1, fg := true, prio := 3, owner := .spi, since := 0, state := .running, tuning := some { freq := 100000, inputs := 1, std := 0, step := 0, count := 1 }, nb := some 0, slot := some 5, input := some 0, adec := some 0 })], audio.progs := [{ src := some 3, ports := 0, causes := 0 }, {}, {}, {}] }
       admitted s 0x0506 (fun q e =>
         decide ((q.badHeader = false) ∧ (e.inWatch = false) ∧ (q.src = e.proto.owner) ∧ (q.len = 8) ∧ (q.p8 0 ≤ 3) ∧ (q.p8 1 ≤ 1) ∧ (20 ≤ q.p16 2) ∧ (q.p16 2 ≤ 500) ∧ (q.p8 7 = 0) ∧ (e.followArmed (q.p8 0) = false) ∧ (e.blendBusy (q.p8 0) = false) ∧ (q.p8 4 ≤ 1) ∧ (1 ≤ q.p8 5) ∧ (q.p8 5 ≤ 2) ∧ (q.p8 6 ≤ 127) ∧ (q.p8 6 < e.nCtx) ∧ (q.badTarget (q.p8 6) e = false) ∧ ((e.progRoute (q.p8 0)).1.isSome = true) ∧ (e.blendFull = false))) = true) :=
  by and_intros <;> decide +kernel

/-- A device whose DAB context 3 decodes a selection with MOT, bound as `b`. -/
def motUp (b : BindSt) : Dev :=
  { dabUp { sync := 4, apps := [(0xE1C2, 0, 2)] } with
    now := 2000000 * roundTicks
    dem.dab := [(3, { decode := some ({ id := 1, start := 0, size := 84, prot := 0, rate := 112 }, 2),
                      res := some { sub := { id := 1, start := 0, size := 84, prot := 0, rate := 112 }, typ := 1, addr := none },
                      sel := some { sid := 0xE1C2, flags := 4, scids := 0, subch := 0 } })]
    data := { queues := [(8, { pages := 4 })], binds := [(3, b)] } }
theorem witness_DataQueueRows_1 :
    (let s : State := on (motUp { queue := 8, mot := true })
     let c := 3
     let b := { queue := 8, mot := true }
     (s.dev.active = true) ∧ (s.dev.takesMot c = true) ∧ (s.dev.bind? c = some b) ∧ (b.mot = true))
    ∧ (let s : State := on (motUp { queue := 8, mot := true })
       let c := 3
       let b := { queue := 8, mot := true }
       let tid := 9
       let bytes := zeros 7
       (s.dev.active = true) ∧ (s.dev.takesMot c = true) ∧ (s.dev.bind? c = some b) ∧ (b.mot = true) ∧ (b.objs.length < 8) ∧ (b.objs.any (·.tid == tid) = false) ∧ (s.dev.motUsed + ({ tid := tid, header := bytes, bodyLen := motBodyLen bytes, segs := [], last := none, at_ := 0 } : MotObj).pages
                 ≤ s.dev.propN P.dsQuotaMot))
    ∧ (let s : State := on (motUp { queue := 8, mot := true, objs := [{ tid := 9, header := zeros 7, bodyLen := 5, segs := [], last := none, at_ := 0 }] })
       let c := 3
       let b := { queue := 8, mot := true, objs := [{ tid := 9, header := zeros 7, bodyLen := 5, segs := [], last := none, at_ := 0 }] }
       let tid := 9
       let o := { tid := 9, header := zeros 7, bodyLen := 5, segs := [], last := none, at_ := 0 }
       (s.dev.active = true) ∧ (s.dev.takesMot c = true) ∧ (s.dev.bind? c = some b) ∧ (b.mot = true) ∧ (b.objs = [o]) ∧ (o.tid = tid) ∧ (o.segs = []) ∧ (o.last = none))
    ∧ (let s : State := on (motUp { queue := 8, mot := true, objs := [{ tid := 9, header := zeros 7, bodyLen := 5, segs := [], last := none, at_ := 0 }] })
       let dt : Nat := 0
       let c := 3
       let b := { queue := 8, mot := true, objs := [{ tid := 9, header := zeros 7, bodyLen := 5, segs := [], last := none, at_ := 0 }] }
       (s.dev.active = true) ∧ (s.dev.data.binds = [(c, b)]) ∧ (∀ o ∈ b.objs, o.at_ + msec (1000 * s.dev.propN P.motTimeout) ≤ (s.dev.tick dt).now))
    ∧ (let s : State := on { upDev with data.queues := [(8, { pages := 4, recs := [[1, 2, 3]] })] }
       let n := 1
       (s.dev.inReset = false) ∧ (n < 2))
    ∧ (let s : State := on { upDev with data.queues := [(8, { pages := 4, recs := [[1, 2, 3]] })] }
       let k := 8
       let n := 9
       (s.dev.inReset = false) ∧ (2 ≤ n) ∧ (s.dev.izosh = true) ∧ (8 ≤ k) ∧ (k ≤ 127) ∧ ((s.dev.dq k).pages ≠ 0) ∧ ((s.dev.dq k).recs ≠ []))
    ∧ (let s : State := on { upDev with data.queues := [(8, { pages := 4, recs := [[1, 2, 3]] })] }
       let k := 9
       let n := 9
       (s.dev.inReset = false) ∧ (2 ≤ n) ∧ (s.dev.izosh = true) ∧ (k < 8 ∨ 127 < k ∨ (s.dev.dq k).pages = 0))
    ∧ (let s : State := sent 0x0601 0xFF [9, 0, 2, 0] upDev
       admitted s 0x0601 (fun q e =>
         let k := q.p8 0
         decide ((q.badHeader = false) ∧ (e.inWatch = false) ∧ (q.src = e.proto.owner) ∧ (q.len = 4) ∧ (8 ≤ k) ∧ (k ≤ 127) ∧ (q.p16 2 ≤ 512) ∧ (q.p8 1 = 0) ∧ (q.p16 2 = 0 → ∀ c ∈ List.range 128, e.ctxOpen c = true → e.stagedBind c ≠ some k) ∧ (e.stagedPages k = q.p16 2 ∨ ((((List.range 120).map (8 + ·)).filter (· != k)).map e.stagedPages).sum + q.p16 2 ≤ e.stagedN P.dsQuotaQueue))) = true)
    ∧ (let s : State := sent 0x0602 0x03 [8, 1, 0, 0] { upDev with trav.ctxs := [(3, { kind := 1, fg := true, prio := 3, owner := .spi, since := 0, state := .running, tuning := some { freq := 100000, inputs := 1, std := 0, step := 0, count := 1 }, nb := some 0, slot := some 5, input := some 0, adec := some 0 })], data.queues := [(8, { pages := 4, recs := [[1, 2, 3]] })] }
       admitted s 0x0602 (fun q e =>
         let k := q.p8 0
         let c := { kind := 1, fg := true, prio := 3, owner := .spi, since := 0, state := .running, tuning := some { freq := 100000, inputs := 1, std := 0, step := 0, count := 1 }, nb := some 0, slot := some 5, input := some 0, adec := some 0 }
         decide ((q.badHeader = false) ∧ (e.inWatch = false) ∧ (e.ctx? q.ctx = some c) ∧ (c.closing = none) ∧ (q.src = c.owner) ∧ (q.len = 4) ∧ (zeroAt q.params 2 2 = true) ∧ (q.p8 1 ≤ 1) ∧ (k = 0 ∧ q.p8 1 = 0 ∨ 8 ≤ k ∧ k ≤ 127 ∧ e.stagedPages k ≠ 0))) = true)
    ∧ (let s : State := sent 0x0603 0xFF [8, 3, 0, 0] { upDev with data.queues := [(8, { pages := 4, recs := [[1, 2, 3]] })] }
       admitted s 0x0603 (fun q e =>
         let k := q.p8 0
         let pl := (List.range (q.p8 1)).flatMap fun j => e.queueEntry (k + j)
         decide ((q.badHeader = false) ∧ (e.inWatch = false) ∧ (q.len = 4) ∧ (8 ≤ k) ∧ (k ≤ 127) ∧ (1 ≤ q.p8 1) ∧ (q.p8 1 ≤ 31) ∧ (k + q.p8 1 ≤ 128) ∧ (zeroAt q.params 2 2 = true) ∧ (q.fits pl = true))) = true)
    ∧ (let s : State := sent 0x0604 0xFF [8, 1, 0, 0, 0, 0, 0, 0] { upDev with data.queues := [(8, { pages := 4, recs := [[1, 2, 3]] })] }
       admitted s 0x0604 (fun q e =>
         let k := q.p8 0
         let x := e.dq k
         decide ((q.badHeader = false) ∧ (e.inWatch = false) ∧ (q.src = e.proto.owner) ∧ (q.len = 8) ∧ (8 ≤ k) ∧ (k ≤ 127) ∧ (x.pages ≠ 0) ∧ (q.p16 4 = 0) ∧ (q.p16 6 = 0) ∧ (q.p8 1 = 1) ∧ (q.p16 2 = 0))) = true)
    ∧ (let s : State := sent 0x0604 0xFF [8, 1, 10, 0, 0, 0, 0, 0] { upDev with data.queues := [(8, { pages := 4, recs := [[1, 2, 3]] })] }
       admitted s 0x0604 (fun q e =>
         let k := q.p8 0
         let x := e.dq k
         decide ((q.badHeader = false) ∧ (e.inWatch = false) ∧ (q.src = e.proto.owner) ∧ (q.len = 8) ∧ (8 ≤ k) ∧ (k ≤ 127) ∧ (x.pages ≠ 0) ∧ (q.p16 4 = 0) ∧ (q.p16 6 = 0) ∧ (q.p8 1 = 1) ∧ (1 ≤ q.p16 2) ∧ (q.p16 2 ≤ 1016) ∧ ((x.recs.headD []).length ≤ q.p16 2))) = true) :=
  by and_intros <;> decide +kernel

theorem witness_DataQueueRows_2 :
    (let s : State := sent 0x0604 0xFF [8, 0, 0, 0, 0, 0, 0, 0] { upDev with data.queues := [(8, { pages := 4, recs := [[1, 2, 3]] })] }
     admitted s 0x0604 (fun q e =>
       let k := q.p8 0
       let x := e.dq k
       decide ((q.badHeader = false) ∧ (e.inWatch = false) ∧ (q.src = e.proto.owner) ∧ (q.len = 8) ∧ (8 ≤ k) ∧ (k ≤ 127) ∧ (x.pages ≠ 0) ∧ (q.p16 4 = 0) ∧ (q.p16 6 = 0) ∧ (q.p8 1 = 0) ∧ (q.p16 2 = 0))) = true) :=
  by decide +kernel

theorem witness_WatchRows_1 :
    (let s : State := on { upDev with now := 2000000 * roundTicks, pwr.mode := .watch, pwr.resetN := true, watch := { list := [({ freq := 220352, std := 2, flags := 0, gtype := 0, minLevel := 20, id := 0 } : WatchEntry)], phase := .watching, hop := some 0 } }
     let w := s.dev.watch
     let n := 0
     (s.dev.watching = true) ∧ (w.phase = .watching) ∧ (w.hopCal = false) ∧ (w.hop = some n))
    ∧ (let s : State := on { upDev with now := 2000000 * roundTicks, pwr.mode := .watch, pwr.resetN := true, watch := { list := [({ freq := 220352, std := 2, flags := 0, gtype := 0, minLevel := 20, id := 0 } : WatchEntry)], phase := .watching, current := some 0 } }
       let dt : Nat := 0
       let w := s.dev.watch
       let n := 0
       let en := ({ freq := 220352, std := 2, flags := 0, gtype := 0, minLevel := 20, id := 0 } : WatchEntry)
       let lv := 30
       (s.dev.watching = true) ∧ (w.phase = .watching) ∧ (w.current = some n) ∧ (w.list[n]? = some en) ∧ (lv < 256) ∧ (w.measured = false) ∧ (w.dwellAt + msec 2 ≤ (s.dev.tick dt).now) ∧ (en.minLevel ≤ lv))
    ∧ (let s : State := on { upDev with now := 2000000 * roundTicks, pwr.mode := .watch, pwr.resetN := true, watch := { list := [({ freq := 220352, std := 2, flags := 0, gtype := 0, minLevel := 20, id := 0 } : WatchEntry)], phase := .watching, current := some 0 } }
       let dt : Nat := 0
       let w := s.dev.watch
       let n := 0
       let en := ({ freq := 220352, std := 2, flags := 0, gtype := 0, minLevel := 20, id := 0 } : WatchEntry)
       let lv := 10
       (s.dev.watching = true) ∧ (w.phase = .watching) ∧ (w.current = some n) ∧ (w.list[n]? = some en) ∧ (lv < 256) ∧ (w.measured = false) ∧ (w.dwellAt + msec 2 ≤ (s.dev.tick dt).now) ∧ (lv < en.minLevel))
    ∧ (let s : State := on { upDev with now := 2000000 * roundTicks, pwr.mode := .watch, pwr.resetN := true, watch := { list := [({ freq := 220352, std := 2, flags := 0, gtype := 0, minLevel := 20, id := 0 } : WatchEntry)], phase := .watching, current := some 0 } }
       let dt : Nat := 0
       let w := s.dev.watch
       let n := 0
       let en := ({ freq := 220352, std := 2, flags := 0, gtype := 0, minLevel := 20, id := 0 } : WatchEntry)
       (s.dev.watching = true) ∧ (w.phase = .watching) ∧ (w.current = some n) ∧ (w.list[n]? = some en) ∧ (w.dwellAt + en.syncLimit ≤ (s.dev.tick dt).now))
    ∧ (let en : WatchEntry := { freq := 220352, std := 2, flags := 0, gtype := 0, minLevel := 20, id := 0x1001 }
       let s : State := on { upDev with now := 2000000 * roundTicks, pwr.mode := .watch, pwr.resetN := true, watch := { list := [en], phase := .watching, current := some 0 } }
       let d := s.dev.tick 0
       let w := s.dev.watch
       let n := 0
       let seen : List WatchSeen := []
       (s.dev.watching = true) ∧ (w.phase = .watching) ∧ (w.current = some n) ∧ (w.list[n]? = some en) ∧ (w.dwellAt ≤ d.now) ∧ (w.dwellAt + en.dwellMax ≤ d.now ∨ (en.alarm = false ∧ en.earlyEnd seen = true)))
    ∧ (let en : WatchEntry := { freq := 220352, std := 2, flags := 0, gtype := 0, minLevel := 20, id := 0x1001 }
       let s : State := on { upDev with now := 0, pwr.mode := .watch, pwr.resetN := true, watch := { list := [en], phase := .watching, current := some 0 } }
       let d := s.dev.tick 0
       let w := s.dev.watch
       let n := 0
       let seen : List WatchSeen := [.frame 0x1001 false none, .frame 0x1001 false none]
       (s.dev.watching = true) ∧ (w.phase = .watching) ∧ (w.current = some n) ∧ (w.list[n]? = some en) ∧ (w.dwellAt ≤ d.now) ∧ (w.dwellAt + en.dwellMax ≤ d.now ∨ (en.alarm = false ∧ en.earlyEnd seen = true)))
    ∧ (let en : WatchEntry := { freq := 220352, std := 2, flags := 0, gtype := 0, minLevel := 20, id := 0x1001 }
       let s : State := on { upDev with now := 0, pwr.mode := .watch, pwr.resetN := true, watch := { list := [en], phase := .watching, current := some 0 } }
       let d := s.dev.tick 0
       let w := s.dev.watch
       let n := 0
       let seen : List WatchSeen := [.frame 0x1001 false none]
       (s.dev.watching = true) ∧ (w.phase = .watching) ∧ (w.current = some n) ∧ (w.list[n]? = some en) ∧ (w.dwellAt ≤ d.now) ∧ (d.now < w.dwellAt + en.dwellMax) ∧ (en.alarm = true ∨ en.earlyEnd seen = false))
    ∧ (let s : State := on { upDev with now := 2000000 * roundTicks, pwr.mode := .watch, pwr.resetN := true, watch := { list := [({ freq := 220352, std := 2, flags := 0, gtype := 0, minLevel := 20, id := 0 } : WatchEntry)], phase := .watching, current := some 0 } }
       let dt : Nat := 0
       let w := s.dev.watch
       let n := 0
       let en := ({ freq := 220352, std := 2, flags := 0, gtype := 0, minLevel := 20, id := 0 } : WatchEntry)
       (s.dev.watching = true) ∧ (w.phase = .watching) ∧ (w.current = some n) ∧ (w.list[n]? = some en) ∧ (w.dwellAt ≤ (s.dev.tick dt).now))
    ∧ (let s : State := on { upDev with now := 2000000 * roundTicks, pwr.mode := .watch, pwr.resetN := true, watch := { list := [({ freq := 220352, std := 2, flags := 0, gtype := 0, minLevel := 20, id := 0 } : WatchEntry)], phase := .watching, current := some 0 } }
       let w := s.dev.watch
       let n := 0
       let en := ({ freq := 220352, std := 2, flags := 0, gtype := 0, minLevel := 20, id := 0 } : WatchEntry)
       (s.dev.watching = true) ∧ (w.phase = .watching) ∧ (w.current = some n) ∧ (w.list[n]? = some en) ∧ (w.next = none))
    ∧ (let en : WatchEntry := { freq := 220352, std := 2, flags := 0, gtype := 0, minLevel := 20, id := 0x1001 }
       let s : State := on { upDev with now := 2000000 * roundTicks, pwr.mode := .watch, pwr.resetN := true, watch := { list := [en], phase := .watching, current := some 0 } }
       let d := s.dev.tick 0
       let w := s.dev.watch
       let n := 0
       let seen : List WatchSeen := [.frame 0x1001 true (some 1)]
       (s.dev.watching = true) ∧ (w.phase = .watching) ∧ (w.current = some n) ∧ (w.list[n]? = some en) ∧ (en.shows seen = none))
    ∧ (let en : WatchEntry := { freq := 220352, std := 2, flags := 0, gtype := 0, minLevel := 20, id := 0x1001 }
       let s : State := on { upDev with now := 2000000 * roundTicks, pwr.mode := .watch, pwr.resetN := true, watch := { list := [en], phase := .watching, current := some 0 } }
       let d := s.dev.tick 0
       let w := s.dev.watch
       let n := 0
       let seen : List WatchSeen := [.frame 0x1002 true (some 1), .frame 0x1002 true (some 1)]
       let act := true
       let o := 0x10
       let blocks : List Nat := []
       (s.dev.watching = true) ∧ (w.phase = .watching) ∧ (w.current = some n) ∧ (w.list[n]? = some en) ∧ (en.shows seen = some (act, o, blocks)) ∧ (en.alarm = act ∨ (en.id ≠ 0 ∧ en.id ≠ en.received seen)))
    ∧ (let en : WatchEntry := { freq := 220352, std := 2, flags := 0, gtype := 0, minLevel := 20, id := 0x1001 }
       let s : State := on { upDev with now := 2000000 * roundTicks, pwr.mode := .watch, pwr.resetN := true, watch := { list := [en], phase := .watching, current := some 0 } }
       let d := s.dev.tick 0
       let w := s.dev.watch
       let n := 0
       let seen : List WatchSeen := [.frame 0x1001 true (some 1), .frame 0x1001 true (some 1)]
       let act := true
       let o := 0x10
       let blocks : List Nat := []
       (s.dev.watching = true) ∧ (w.phase = .watching) ∧ (w.current = some n) ∧ (w.list[n]? = some en) ∧ (en.shows seen = some (act, o, blocks)) ∧ (en.alarm ≠ act) ∧ (en.id = 0 ∨ en.id = en.received seen))
    ∧ (let s : State := on { upDev with now := 2000000 * roundTicks, pwr.mode := .active, pwr.resetN := true, watch := { phase := .entering } }
       let dt : Nat := 0
       let w := s.dev.watch
       (s.dev.active = true) ∧ (w.phase = .entering) ∧ (w.parked = false) ∧ (((s.dev.tick dt).now) % roundTicks = 0) ∧ (w.since + msec 5 ≤ (s.dev.tick dt).now))
    ∧ (let s : State := on { upDev with now := 2000000 * roundTicks, pwr.mode := .active, pwr.resetN := true, watch := { phase := .entering, parked := true } }
       let w := s.dev.watch
       (s.dev.active = true) ∧ (w.phase = .entering) ∧ (w.parked = true)) :=
  by and_intros <;> decide +kernel

theorem witness_WatchRows_2 :
    (let s : State := on { upDev with now := 2000000 * roundTicks, pwr.mode := .watch, pwr.resetN := true, watch := { phase := .leaving } }
     let w := s.dev.watch
     (s.dev.watching = true) ∧ (w.phase = .leaving))
    ∧ (let s : State := sent 0x0D01 0xFF [1, 0, 0, 0, 192, 92, 3, 0, 2, 0, 0, 20, 0, 0, 0, 0] { upDev with cal.syn1Run := some { left := [], start := 0 } }
       admitted s 0x0D01 (fun q e =>
         let l := (entriesOf 12 (q.params.drop 4)).map watchEntryOf
         decide (q.badHeader = false) && decide (q.src = e.proto.owner) && decide (q.p8 0 ≤ 16) && decide (q.len = 4 + 12 * q.p8 0) && decide (zeroAt q.params 1 3 = true) && decide (l.any WatchEntry.bad = false) && decide ((l.map fun x => 8 * x.freq + x.std).Nodup) && decide (∀ x ∈ l, x.std < 3 ∨ e.hasDrm = true) && decide (e.syn1Busy = true)) = true)
    ∧ (let s : State := sent 0x0D01 0xFF [1, 0, 0, 0, 192, 92, 3, 0, 2, 0, 0, 20, 0, 0, 0, 0] upDev
       admitted s 0x0D01 (fun q e =>
         let l := (entriesOf 12 (q.params.drop 4)).map watchEntryOf
         decide (q.badHeader = false) && decide (q.src = e.proto.owner) && decide (q.p8 0 ≤ 16) && decide (q.len = 4 + 12 * q.p8 0) && decide (zeroAt q.params 1 3 = true) && decide (l.any WatchEntry.bad = false) && decide ((l.map fun x => 8 * x.freq + x.std).Nodup) && decide (∀ x ∈ l, x.std < 3 ∨ e.hasDrm = true) && decide (e.syn1Busy = false) && decide (e.inWatch = false)) = true)
    ∧ (let s : State := sent 0x0D01 0xFF [1, 0, 0, 0, 192, 92, 3, 0, 2, 0, 0, 20, 0, 0, 0, 0] { upDev with pwr := { resetN := true, stage := .done, mode := .watch, causes := [], sampleStraps := false }, watch := { list := [({ freq := 220352, std := 2, flags := 0, gtype := 0, minLevel := 20, id := 0 } : WatchEntry)], phase := .watching, current := some 0 } }
       admitted s 0x0D01 (fun q e =>
         let l := (entriesOf 12 (q.params.drop 4)).map watchEntryOf
         decide (q.badHeader = false) && decide (q.src = e.proto.owner) && decide (q.p8 0 ≤ 16) && decide (q.len = 4 + 12 * q.p8 0) && decide (zeroAt q.params 1 3 = true) && decide (l.any WatchEntry.bad = false) && decide ((l.map fun x => 8 * x.freq + x.std).Nodup) && decide (∀ x ∈ l, x.std < 3 ∨ e.hasDrm = true) && decide (e.syn1Busy = false) && decide (e.inWatch = true) && decide (e.watch.current.isSome = true)) = true)
    ∧ (let s : State := sent 0x0D01 0xFF [1, 0, 0, 0, 192, 92, 3, 0, 2, 0, 0, 20, 0, 0, 0, 0] { upDev with pwr := { resetN := true, stage := .done, mode := .watch, causes := [], sampleStraps := false }, watch := { list := [({ freq := 220352, std := 2, flags := 0, gtype := 0, minLevel := 20, id := 0 } : WatchEntry)], phase := .watching } }
       admitted s 0x0D01 (fun q e =>
         let l := (entriesOf 12 (q.params.drop 4)).map watchEntryOf
         decide (q.badHeader = false) && decide (q.src = e.proto.owner) && decide (q.p8 0 ≤ 16) && decide (q.len = 4 + 12 * q.p8 0) && decide (zeroAt q.params 1 3 = true) && decide (l.any WatchEntry.bad = false) && decide ((l.map fun x => 8 * x.freq + x.std).Nodup) && decide (∀ x ∈ l, x.std < 3 ∨ e.hasDrm = true) && decide (e.syn1Busy = false) && decide (e.inWatch = true) && decide (e.watch.current = none)) = true)
    ∧ (let s : State := sent 0x0D02 0xFF [1, 1, 0, 255, 0, 0, 0, 0] { upDev with watch.list := [({ freq := 220352, std := 2, flags := 0, gtype := 0, minLevel := 20, id := 0 } : WatchEntry)], cal.syn1Run := some { left := [], start := 0 } }
       admitted s 0x0D02 (fun q e =>
         decide ((q.badHeader = false) ∧ (q.src = e.proto.owner) ∧ (q.len = 8) ∧ (q.p8 0 ≤ 1) ∧ (q.p8 1 ≤ 1) ∧ (q.p8 2 ≤ 2) ∧ (q.p8 4 ≤ 1) ∧ (q.p8 3 = 0xFF ∨ q.p8 3 / 8 % 16 = 0) ∧ (zeroAt q.params 5 3 = true) ∧ (e.inWatch = false) ∧ (e.stagedWatch ≠ []) ∧ (e.cal.runs = []) ∧ (e.cal.syn0Run = none) ∧ (e.sec.job = none) ∧ (q.p8 2 = 0 ∨ (e.inp 0).amp.faulted = false) ∧ (e.syn1Busy = true))) = true)
    ∧ (let s : State := sent 0x0D02 0xFF [1, 1, 0, 255, 0, 0, 0, 0] { upDev with watch.list := [({ freq := 220352, std := 2, flags := 0, gtype := 0, minLevel := 20, id := 0 } : WatchEntry)] }
       admitted s 0x0D02 (fun q e =>
         decide ((q.badHeader = false) ∧ (q.src = e.proto.owner) ∧ (q.len = 8) ∧ (q.p8 0 ≤ 1) ∧ (q.p8 1 ≤ 1) ∧ (q.p8 2 ≤ 2) ∧ (q.p8 4 ≤ 1) ∧ (q.p8 3 = 0xFF ∨ q.p8 3 / 8 % 16 = 0) ∧ (zeroAt q.params 5 3 = true) ∧ (e.inWatch = false) ∧ (e.stagedWatch ≠ []) ∧ (e.cal.runs = []) ∧ (e.cal.syn0Run = none) ∧ (e.sec.job = none) ∧ (q.p8 2 = 0 ∨ (e.inp 0).amp.faulted = false) ∧ (e.syn1Busy = false))) = true)
    ∧ (let s : State := sent 0x0D03 0xFF [] { upDev with watch.list := [({ freq := 220352, std := 2, flags := 0, gtype := 0, minLevel := 20, id := 0 } : WatchEntry)] }
       admitted s 0x0D03 (fun q e =>
         let tAvg : Int := 200
         let w := s.dev.watch
         let w := e.watch
         let pl := u8 w.phase.code ++ u8 (bit w.opts.wake + 2 * bit w.opts.retain + 4 * bit w.opts.irq + 8 * bit e.syn1Busy)
           ++ u8 w.list.length ++ u8 (w.current.getD 0xFF) ++ u8 w.opts.ax0 ++ u8 w.opts.gpio ++ u16 0 ++ u32 w.cycles ++ u32 w.lastAlert
           ++ (indexed w.list).flatMap fun x => e.watchEntryBytes x.1 x.2 e.pwr.tAvg
         decide ((q.badHeader = false) ∧ (q.len = 0) ∧ (q.fits pl = true))) = true) :=
  by and_intros <;> decide +kernel

theorem witness_FabricLinks_1 :
    (let s : State := on { upDev with now := 8000 * roundTicks, sec.fuseRead := keyedFuses, cl := { ports := [{ enabled := true, mode := .off }, {}, {}, {}], phase := .joined, addrs := [{ uid := zeros 8, addr := 2 }] }, clk.pllFSince := some 0 }
     let p : Nat := 0
     (s.dev.active = true) ∧ (p < s.dev.cl.ports.length) ∧ (s.dev.clk.pllFSince.isSome = true))
    ∧ (let s : State := on { upDev with now := 8000 * roundTicks, sec.fuseRead := keyedFuses, cl := { ports := [{ enabled := true, mode := .training }, {}, {}, {}], phase := .joined, addrs := [{ uid := zeros 8, addr := 2 }] } }
       let p : Nat := 0
       let x := s.dev.clPort p
       let n := 1024
       (s.dev.active = true) ∧ (p < s.dev.cl.ports.length) ∧ (x.mode = .training) ∧ (1024 ≤ n))
    ∧ (let s : State := on { upDev with now := 8000 * roundTicks, sec.fuseRead := keyedFuses, cl := { ports := [{ enabled := true, mode := .training }, {}, {}, {}], phase := .joined, addrs := [{ uid := zeros 8, addr := 2 }] } }
       let p : Nat := 0
       let n := 1023
       let x := s.dev.clPort p
       (s.dev.active = true) ∧ (p < s.dev.cl.ports.length) ∧ (x.mode = .training) ∧ (n < 1024))
    ∧ (let s : State := on { upDev with now := 8000 * roundTicks, sec.fuseRead := keyedFuses, cl := { ports := [{ enabled := true, mode := .linked }, {}, {}, {}], phase := .joined, addrs := [{ uid := zeros 8, addr := 2 }] } }
       let p : Nat := 0
       let x := s.dev.clPort p
       (s.dev.active = true) ∧ (p < s.dev.cl.ports.length) ∧ (x.mode ≠ .off))
    ∧ (let s : State := on { upDev with now := 8000 * roundTicks, sec.fuseRead := keyedFuses, cl := { ports := [{ enabled := true, mode := .linked }, {}, {}, {}], phase := .joined, addrs := [{ uid := zeros 8, addr := 2 }] } }
       let p : Nat := 0
       let x := s.dev.clPort p
       let n := 1000
       (s.dev.active = true) ∧ (p < s.dev.cl.ports.length) ∧ (1000 ≤ n) ∧ (x.mode = .up ∨ x.mode = .linked))
    ∧ (let s : State := on { upDev with now := 8000 * roundTicks, sec.fuseRead := keyedFuses, cl := { ports := [{ enabled := true, mode := .training }, {}, {}, {}], phase := .joined, addrs := [{ uid := zeros 8, addr := 2 }] } }
       let p : Nat := 0
       let x := s.dev.clPort p
       let n := 1000
       (s.dev.active = true) ∧ (p < s.dev.cl.ports.length) ∧ (n < 1000 ∨ x.mode = .off ∨ x.mode = .training))
    ∧ (let s : State := on { upDev with now := 8000 * roundTicks, sec.fuseRead := keyedFuses, cl := { ports := [{ enabled := true, mode := .up }, {}, {}, {}], phase := .joined, addrs := [{ uid := zeros 8, addr := 2 }] } }
       let p : Nat := 0
       let n := 999
       let x := s.dev.clPort p
       (s.dev.active = true) ∧ (p < s.dev.cl.ports.length) ∧ (n < 1000 ∨ x.mode = .off ∨ x.mode = .training))
    ∧ (let s : State := on { upDev with now := 8000 * roundTicks, sec.fuseRead := keyedFuses, cl := { ports := [{ enabled := true, mode := .linked }, {}, {}, {}], phase := .joined, addrs := [{ uid := zeros 8, addr := 2 }] } }
       let p : Nat := 0
       let x := s.dev.clPort p
       (s.dev.active = true) ∧ (p < s.dev.cl.ports.length) ∧ (s.dev.joined = true) ∧ (s.dev.fabKeyed = true) ∧ (x.mode = .linked) ∧ (x.helloAt = none))
    ∧ (let s : State := on { upDev with now := 8000 * roundTicks, sec.fuseRead := keyedFuses, cl := { ports := [{ enabled := true, mode := .linked }, {}, {}, {}], phase := .joined, addrs := [{ uid := zeros 8, addr := 2 }] } }
       let p : Nat := 0
       let x := s.dev.clPort p
       let b := (zeros 40)
       (s.dev.active = true) ∧ (p < s.dev.cl.ports.length) ∧ (s.dev.fabKeyed = true) ∧ (x.mode = .linked ∨ x.mode = .up) ∧ (headerGood b = false))
    ∧ (let s : State := on { upDev with now := 8000 * roundTicks, sec.fuseRead := keyedFuses, cl := { ports := [{ enabled := true, mode := .linked }, {}, {}, {}], phase := .joined, addrs := [{ uid := zeros 8, addr := 2 }] } }
       let p : Nat := 0
       let x := s.dev.clPort p
       let b := (frameBytes 0 1 2 8 5 0 0 0 (zeros 32))
       (s.dev.active = true) ∧ (p < s.dev.cl.ports.length) ∧ (s.dev.fabKeyed = true) ∧ (x.mode = .linked ∨ x.mode = .up) ∧ (headerGood b = true) ∧ (frameType b ≠ 3 ∨ frameDest b ≠ 0))
    ∧ (let s : State := on { upDev with now := 8000 * roundTicks, sec.fuseRead := keyedFuses, cl := { ports := [{ enabled := true, mode := .linked }, {}, {}, {}], phase := .joined, addrs := [{ uid := zeros 8, addr := 2 }] } }
       let p : Nat := 0
       let x := s.dev.clPort p
       let b := (frameBytes 0 0 3 8 5 0 0 0 (([9, 9, 9, 9, 9, 9, 9, 9] : List Byte) ++ zeros 8 ++ zeros 8 ++ [1, 1] ++ zeros 6))
       let y := framePayload b
       (s.dev.active = true) ∧ (p < s.dev.cl.ports.length) ∧ (s.dev.fabKeyed = true) ∧ (x.mode = .linked ∨ x.mode = .up) ∧ (headerGood b = true) ∧ (frameType b = 3) ∧ (frameDest b = 0) ∧ (trailerGood b = true) ∧ ((framePayload b).length = 32) ∧ ((slice y 16 8).all (· == 0) = true))
    ∧ (let s : State := on { upDev with now := 8000 * roundTicks, sec.fuseRead := keyedFuses, cl := { ports := [{ enabled := true, mode := .linked, answered := true }, {}, {}, {}], phase := .joined, addrs := [{ uid := zeros 8, addr := 2 }] } }
       let dt : Nat := 0
       let p : Nat := 0
       let d := s.dev.tick dt
       let x := s.dev.clPort p
       let b := (frameBytes 0 0 3 8 5 0 0 0 (([9, 9, 9, 9, 9, 9, 9, 9] : List Byte) ++ zeros 8 ++ mac8 (List.replicate 16 1) (zeros 8 ++ ([9, 9, 9, 9, 9, 9, 9, 9] : List Byte) ++ [1]) ++ [1, 1] ++ zeros 6))
       let y := framePayload b
       let right := slice y 16 8 = d.helloResponse (leBytes 8 x.challenge.toNat) (slice y 0 8) (at8 y 24)
       (s.dev.active = true) ∧ (p < s.dev.cl.ports.length) ∧ (s.dev.fabKeyed = true) ∧ (x.mode = .linked ∨ x.mode = .up) ∧ (headerGood b = true) ∧ (frameType b = 3) ∧ (frameDest b = 0) ∧ (trailerGood b = true) ∧ ((framePayload b).length = 32) ∧ ((slice y 16 8).all (· == 0) = false) ∧ (right) ∧ (x.mode = .linked) ∧ (x.answered = true) ∧ (s.dev.joined = true))
    ∧ (let s : State := on { upDev with now := 8000 * roundTicks, sec.fuseRead := keyedFuses, cl := { ports := [{ enabled := true, mode := .linked, answered := true }, {}, {}, {}], phase := .joined, addrs := [{ uid := zeros 8, addr := 2 }] } }
       let dt : Nat := 0
       let p : Nat := 0
       let d := s.dev.tick dt
       let x := s.dev.clPort p
       let b := (frameBytes 0 0 3 8 5 0 0 0 (([9, 9, 9, 9, 9, 9, 9, 9] : List Byte) ++ zeros 8 ++ ([1] ++ zeros 7) ++ [1, 1] ++ zeros 6))
       let y := framePayload b
       let right := slice y 16 8 = d.helloResponse (leBytes 8 x.challenge.toNat) (slice y 0 8) (at8 y 24)
       (s.dev.active = true) ∧ (p < s.dev.cl.ports.length) ∧ (s.dev.fabKeyed = true) ∧ (x.mode = .linked ∨ x.mode = .up) ∧ (headerGood b = true) ∧ (frameType b = 3) ∧ (frameDest b = 0) ∧ (trailerGood b = true) ∧ ((framePayload b).length = 32) ∧ ((slice y 16 8).all (· == 0) = false) ∧ (¬ right))
    ∧ (let s : State := on { upDev with now := 8000 * roundTicks, sec.fuseRead := keyedFuses, cl := { ports := [{ enabled := true, mode := .up, frameAt := some 0 }, {}, {}, {}], phase := .joined, addrs := [{ uid := zeros 8, addr := 2 }] } }
       let dt : Nat := 0
       let p : Nat := 0
       let x := s.dev.clPort p
       let t0 := 0
       (s.dev.active = true) ∧ (p < s.dev.cl.ports.length) ∧ (x.mode = .up) ∧ (x.suspect = false) ∧ (x.frameAt = some t0) ∧ (t0 + 16 * roundTicks ≤ (s.dev.tick dt).now)) :=
  by and_intros <;> decide +kernel

theorem witness_FabricLinks_2 :
    (let s : State := sent 0x0901 0xFF [0, 1, 0, 0] { upDev with sec.fuseRead := keyedFuses, cl := { ports := [{ enabled := true, mode := .up }, {}, {}, {}], phase := .joined, addrs := [{ uid := zeros 8, addr := 2 }] } }
     admitted s 0x0901 (fun q e =>
       decide ((q.badHeader = false) ∧ (e.inWatch = false) ∧ (q.src = e.proto.owner) ∧ (q.len = 4) ∧ (q.p8 0 ≤ 3) ∧ (q.p8 1 ≤ 1) ∧ (zeroAt q.params 2 2 = true) ∧ (e.portEnabled (q.p8 0) = (q.p8 1 == 1)))) = true)
    ∧ (let s : State := sent 0x0901 0xFF [1, 1, 0, 0] { upDev with sec.fuseRead := keyedFuses, cl := { ports := [{ enabled := true, mode := .up }, {}, {}, {}], phase := .joined, addrs := [{ uid := zeros 8, addr := 2 }] } }
       admitted s 0x0901 (fun q e =>
         decide ((q.badHeader = false) ∧ (e.inWatch = false) ∧ (q.src = e.proto.owner) ∧ (q.len = 4) ∧ (q.p8 0 ≤ 3) ∧ (q.p8 1 ≤ 1) ∧ (zeroAt q.params 2 2 = true) ∧ (e.portEnabled (q.p8 0) ≠ (q.p8 1 == 1)))) = true)
    ∧ (let s : State := sent 0x0902 0xFF [] { upDev with sec.fuseRead := keyedFuses, cl := { ports := [{ enabled := true, mode := .up }, {}, {}, {}], phase := .apart, addrs := [{ uid := zeros 8, addr := 2 }] } }
       admitted s 0x0902 (fun q e =>
         decide ((q.badHeader = false) ∧ (e.inWatch = false) ∧ (q.src = e.proto.owner) ∧ (q.len = 0) ∧ (e.joined = false) ∧ (e.cl.joinDue = none) ∧ (∃ k ∈ List.range 4, e.portEnabled k = true) ∧ (e.fabKeyed = true))) = true)
    ∧ (let s : State := sent 0x0902 0xFF [] upDev
       admitted s 0x0902 (fun q e =>
         decide ((q.badHeader = false) ∧ (e.inWatch = false) ∧ (q.src = e.proto.owner) ∧ (q.len = 0) ∧ (e.fabKeyed = false))) = true)
    ∧ (let s : State := sent 0x0903 0xFF [] { upDev with sec.fuseRead := keyedFuses, cl := { ports := [{ enabled := true, mode := .up }, {}, {}, {}], phase := .joined, addrs := [{ uid := zeros 8, addr := 2 }] } }
       admitted s 0x0903 (fun q e =>
         decide ((q.badHeader = false) ∧ (e.inWatch = false) ∧ (q.src = e.proto.owner) ∧ (q.len = 0) ∧ (e.joined = true ∨ e.cl.joinDue.isSome = true))) = true)
    ∧ (let s : State := sent 0x0906 0xFF [1, 0, 0, 0] { upDev with sec.fuseRead := keyedFuses, cl := { ports := [{ enabled := true, mode := .up }, {}, {}, {}], phase := .joined, addrs := [{ uid := zeros 8, addr := 2 }] } }
       admitted s 0x0906 (fun q e =>
         let es := e.topoEntries (q.p8 0)
         let pl := u8 e.cl.phase.code ++ u8 e.ownAddr ++ u8 (e.addrOf e.benchUid) ++ u8 e.cl.routes.length ++ padTo 8 e.benchUid
           ++ u16 e.cl.refresh ++ u16 e.cl.refused ++ u32 e.cl.discarded ++ u8 es.length ++ zeros 3 ++ es.flatten
         decide ((q.badHeader = false) ∧ (e.inWatch = false) ∧ (q.len = 4) ∧ (q.p8 0 ≤ 2) ∧ (zeroAt q.params 1 3 = true) ∧ (q.fits pl = true))) = true) :=
  by and_intros <;> decide +kernel

theorem witness_FabricPeals_1 :
    (let s : State := on { upDev with now := 8000 * roundTicks, sec.fuseRead := keyedFuses, cl := { ports := [{ enabled := true, mode := .up }, {}, {}, {}], phase := .joined, addrs := [{ uid := zeros 8, addr := 2 }], quiet := some 3 } }
     (s.dev.active = true) ∧ (s.dev.joined = true) ∧ (s.dev.cl.quiet.isSome = true) ∧ (s.dev.cl.announceAt = none))
    ∧ (let s : State := on { upDev with now := 8000 * roundTicks, sec.fuseRead := keyedFuses, cl := { ports := [{ enabled := true, mode := .up }, {}, {}, {}], phase := .joined, addrs := [{ uid := zeros 8, addr := 2 }], quiet := some 64, best := some (9, ([9, 9, 9, 9, 9, 9, 9, 9] : List Byte)) } }
       let n := 64
       (s.dev.active = true) ∧ (s.dev.joined = true) ∧ (s.dev.cl.quiet = some n) ∧ (64 ≤ n) ∧ (s.dev.benchUid ≠ s.dev.uid ∨ s.dev.isBench = true))
    ∧ (let s : State := on { upDev with now := 8000 * roundTicks, sec.fuseRead := keyedFuses, cl := { ports := [{ enabled := true, mode := .up }, {}, {}, {}], phase := .joined, addrs := [{ uid := zeros 8, addr := 2 }], quiet := some 64, best := some (9, zeros 8) } }
       let n := 64
       (s.dev.active = true) ∧ (s.dev.joined = true) ∧ (s.dev.cl.quiet = some n) ∧ (64 ≤ n) ∧ (s.dev.benchUid = s.dev.uid) ∧ (s.dev.isBench = false))
    ∧ (let s : State := on { upDev with now := 8000 * roundTicks, sec.fuseRead := keyedFuses, cl := { ports := [{ enabled := true, mode := .up }, {}, {}, {}], phase := .joined, addrs := [{ uid := zeros 8, addr := 2 }], loop := .benchmark } }
       let dt : Nat := 0
       (s.dev.active = true) ∧ (s.dev.isBench = true) ∧ (((s.dev.tick dt).now) % roundTicks = 0) ∧ (s.dev.cl.unsolicited = true ∨ s.dev.cl.requestAt = none))
    ∧ (let s : State := on { upDev with now := 8000 * roundTicks, sec.fuseRead := keyedFuses, cl := { ports := [{ enabled := true, mode := .up }, {}, {}, {}], phase := .joined, addrs := [{ uid := zeros 8, addr := 2 }] } }
       let dt : Nat := 0
       (s.dev.active = true) ∧ (s.dev.joined = true) ∧ (((s.dev.tick dt).now) % roundTicks = 0) ∧ (s.dev.cl.pending = []))
    ∧ (let s : State := on { upDev with now := 8000 * roundTicks, sec.fuseRead := keyedFuses, cl := { ports := [{ enabled := true, mode := .up }, {}, {}, {}], phase := .joined, addrs := [{ uid := zeros 8, addr := 2 }], pending := [(7, 8001 * roundTicks, [])] } }
       let dt : Nat := 0
       let n := 7
       let due := 8001 * roundTicks
       let ans := ([] : List TopoAns)
       let rest := ([] : List (Nat × Nat × List TopoAns))
       (s.dev.active = true) ∧ (s.dev.joined = true) ∧ (((s.dev.tick dt).now) % roundTicks = 0) ∧ (s.dev.cl.pending = (n, due, ans) :: rest) ∧ ((s.dev.tick dt).now < due))
    ∧ (let s : State := on { upDev with now := 8000 * roundTicks, sec.fuseRead := keyedFuses, cl := { ports := [{ enabled := true, mode := .up }, {}, {}, {}], phase := .joined, addrs := [{ uid := zeros 8, addr := 2 }], pending := [(7, 0, [])] } }
       let dt : Nat := 0
       let n := 7
       let due := 0
       let ans := ([] : List TopoAns)
       let rest := ([] : List (Nat × Nat × List TopoAns))
       (s.dev.active = true) ∧ (s.dev.joined = true) ∧ (((s.dev.tick dt).now) % roundTicks = 0) ∧ (s.dev.cl.pending = (n, due, ans) :: rest) ∧ (due ≤ (s.dev.tick dt).now))
    ∧ (let s : State := on { upDev with now := 8000 * roundTicks, sec.fuseRead := keyedFuses, cl := { ports := [{ enabled := true, mode := .up }, {}, {}, {}], phase := .joined, addrs := [{ uid := zeros 8, addr := 2 }] } }
       let dt : Nat := 0
       (s.dev.active = true) ∧ (s.dev.joined = true) ∧ (((s.dev.tick dt).now) % roundTicks = 0))
    ∧ (let s : State := on { upDev with now := 8000 * roundTicks, sec.fuseRead := keyedFuses, cl := { ports := [{ enabled := true, mode := .up }, {}, {}, {}], phase := .joined, addrs := [{ uid := zeros 8, addr := 2 }], releases := [(4, 0)] } }
       let dt : Nat := 0
       let st := 4
       let t0 := 0
       (s.dev.active = true) ∧ (s.dev.joined = true) ∧ ((st, t0) ∈ s.dev.cl.releases) ∧ (t0 + 16 * roundTicks ≤ (s.dev.tick dt).now) ∧ (s.dev.isBench = false))
    ∧ (let s : State := on { upDev with now := 8000 * roundTicks, sec.fuseRead := keyedFuses, cl := { ports := [{ enabled := true, mode := .up }, {}, {}, {}], phase := .joined, addrs := [{ uid := zeros 8, addr := 2 }] } }
       (s.dev.active = true) ∧ (s.dev.cl.opening = none))
    ∧ (let s : State := on { upDev with now := 8000 * roundTicks, sec.fuseRead := keyedFuses, cl := { ports := [{ enabled := true, mode := .up }, {}, {}, {}], phase := .joined, addrs := [{ uid := zeros 8, addr := 2 }], opening := some ({ stream := 4, ctx := 4, dest := 3, k := 6, bundle := 4, first := 9, slots := 1 }, 8000 * roundTicks) } }
       let dt : Nat := 0
       let y := { stream := 4, ctx := 4, dest := 3, k := 6, bundle := 4, first := 9, slots := 1 }
       let t0 := 8000 * roundTicks
       (s.dev.active = true) ∧ (s.dev.cl.opening = some (y, t0)) ∧ ((s.dev.tick dt).now < t0 + 8 * roundTicks))
    ∧ (let s : State := on { upDev with now := 8000 * roundTicks, sec.fuseRead := keyedFuses, cl := { ports := [{ enabled := true, mode := .up }, {}, {}, {}], phase := .joined, addrs := [{ uid := zeros 8, addr := 2 }], opening := some ({ stream := 4, ctx := 4, dest := 3, k := 6, bundle := 4, first := 9, slots := 1 }, 0) } }
       let dt : Nat := 0
       let y := ({ stream := 4, ctx := 4, dest := 3, k := 6, bundle := 4, first := 9, slots := 1 } : StreamSt)
       let t0 := 0
       (s.dev.active = true) ∧ (s.dev.cl.opening = some (y, t0)) ∧ (t0 + 8 * roundTicks ≤ (s.dev.tick dt).now) ∧ (s.dev.isBench = false)) :=
  by and_intros <;> decide +kernel

theorem witness_FabricPeals_2 :
    (let s : State := on { upDev with now := 8000 * roundTicks, sec.fuseRead := keyedFuses, cl := { ports := [{ enabled := true, mode := .up, neighbour := ([9, 9, 9, 9, 9, 9, 9, 9] : List Byte) }, {}, {}, {}], phase := .joined, addrs := [{ uid := zeros 8, addr := 2 }] } }
     let dt : Nat := 0
     let p : Nat := 0
     let d := s.dev.tick dt
     let a := 0
     let b := (frameBytes 255 3 2 8 5 0 0 0 (zeros 8))
     let y := framePayload b
     (s.dev.active = true) ∧ ((s.dev.clPort p).mode = .up) ∧ (headerGood b = true) ∧ (trailerGood b = true) ∧ (d.outside p a = false) ∧ (p < s.dev.cl.ports.length) ∧ (frameType b = 2) ∧ (y.length < 32 ∨ y.drop (y.length - 8) ≠ s.dev.fabMac (y.take (y.length - 8))
                 ∨ (y.take 8, at16 y 10) ∈ s.dev.cl.seen))
    ∧ (let s : State := on { upDev with now := 8000 * roundTicks, sec.fuseRead := keyedFuses, cl := { ports := [{ enabled := true, mode := .up, neighbour := ([9, 9, 9, 9, 9, 9, 9, 9] : List Byte) }, {}, {}, {}], phase := .joined, addrs := [{ uid := zeros 8, addr := 2 }] } }
       let dt : Nat := 0
       let p : Nat := 0
       let d := s.dev.tick dt
       let a := 0
       let b := (frameBytes 255 3 2 8 5 0 0 0 ((([9, 9, 9, 9, 9, 9, 9, 9] : List Byte) ++ [2, 0, 7, 0] ++ zeros 8 ++ [0, 3, 5, 0] ++ zeros 32) ++ mac8 (List.replicate 16 1) (([9, 9, 9, 9, 9, 9, 9, 9] : List Byte) ++ [2, 0, 7, 0] ++ zeros 8 ++ [0, 3, 5, 0] ++ zeros 32)))
       let y := framePayload b
       (s.dev.active = true) ∧ ((s.dev.clPort p).mode = .up) ∧ (headerGood b = true) ∧ (trailerGood b = true) ∧ (d.outside p a = false) ∧ (p < s.dev.cl.ports.length) ∧ (frameType b = 2) ∧ (32 ≤ y.length) ∧ (y.drop (y.length - 8) = s.dev.fabMac (y.take (y.length - 8))) ∧ (at8 y 8 = 2) ∧ (at16 y 22 ≠ 0) ∧ ((y.take 8, at16 y 10) ∉ s.dev.cl.seen))
    ∧ (let s : State := on { upDev with now := 8000 * roundTicks, sec.fuseRead := keyedFuses, cl := { ports := [{ enabled := true, mode := .up, neighbour := ([9, 9, 9, 9, 9, 9, 9, 9] : List Byte) }, {}, {}, {}], phase := .joined, addrs := [{ uid := zeros 8, addr := 2 }] } }
       let dt : Nat := 0
       let p : Nat := 0
       let d := s.dev.tick dt
       let a := 0
       let b := (frameBytes 0 3 6 8 5 0 0 0 (zeros 18))
       let y := framePayload b
       (s.dev.active = true) ∧ ((s.dev.clPort p).mode = .up) ∧ (headerGood b = true) ∧ (trailerGood b = true) ∧ (d.outside p a = false) ∧ (p < s.dev.cl.ports.length) ∧ (frameType b = 6) ∧ (y.length ≠ 18 ∨ slice y 10 8 ≠ s.dev.fabMac (y.take 10)))
    ∧ (let s : State := on { upDev with now := 8000 * roundTicks, sec.fuseRead := keyedFuses, cl := { ports := [{ enabled := true, mode := .up, neighbour := ([9, 9, 9, 9, 9, 9, 9, 9] : List Byte) }, {}, {}, {}], phase := .joined, addrs := [{ uid := zeros 8, addr := 2 }] } }
       let dt : Nat := 0
       let p : Nat := 0
       let d := s.dev.tick dt
       let a := 0
       let b := (frameBytes 0 3 6 8 5 0 0 0 ((([8, 8, 8, 8, 8, 8, 8, 8] : List Byte) ++ [7, 0]) ++ mac8 (List.replicate 16 1) (([8, 8, 8, 8, 8, 8, 8, 8] : List Byte) ++ [7, 0])))
       let y := framePayload b
       (s.dev.active = true) ∧ ((s.dev.clPort p).mode = .up) ∧ (headerGood b = true) ∧ (trailerGood b = true) ∧ (d.outside p a = false) ∧ (p < s.dev.cl.ports.length) ∧ (frameType b = 6) ∧ (y.length = 18) ∧ (slice y 10 8 = s.dev.fabMac (y.take 10)) ∧ ((slice y 0 8, at16 y 8) ∉ s.dev.cl.seen) ∧ ((s.dev.clPort p).neighbour ≠ slice y 0 8))
    ∧ (let s : State := sent 0x0904 0x03 [3, 0, 5, 0, 0, 0, 0, 0] { upDev with sec.fuseRead := keyedFuses, cl := { ports := [{ enabled := true, mode := .up }, {}, {}, {}], phase := .joined, addrs := [{ uid := zeros 8, addr := 2 }], routes := [{ addr := 3, port := some 0, hops := 1, uid := zeros 8 }], streams := [{ stream := 4, ctx := 4, dest := 3, k := 6, bundle := 4, first := 9, slots := 1 }] }, trav.ctxs := [(3, { kind := 11, fg := true, prio := 3, owner := .spi, since := 0, state := .running, tuning := some { freq := 100000, inputs := 1, std := 0, step := 0, count := 1 }, slot := some 5, input := some 0 })] }
       admitted s 0x0904 (fun q e =>
         let x := { kind := 11, fg := true, prio := 3, owner := .spi, since := 0, state := .running, tuning := some { freq := 100000, inputs := 1, std := 0, step := 0, count := 1 }, slot := some 5, input := some 0 }
         let b := { stream := 4, ctx := 4, dest := 3, k := 6, bundle := 4, first := 9, slots := 1 }
         decide ((q.badHeader = false) ∧ (e.inWatch = false) ∧ (q.src = e.proto.owner) ∧ (q.len = 8) ∧ (q.p16 2 ≠ 0) ∧ (q.p16 2 ≠ 0xFFFF) ∧ (1 ≤ q.p8 0) ∧ (q.p8 0 ≤ 0x20) ∧ (q.p8 0 ≠ e.ownAddr) ∧ (q.p8 1 = 0) ∧ (q.p32 4 = 0) ∧ (e.cl.phase = .joined) ∧ (e.ownAddr ≠ 0) ∧ (e.ctx? q.ctx = some x) ∧ (x.kind = 0x0B) ∧ (x.tuning.isSome = true) ∧ (x.closing = none) ∧ (∀ y ∈ e.cl.streams, y.ctx ≠ q.ctx ∧ y.stream ≠ q.p16 2) ∧ (e.inRoutes (q.p8 0) = true) ∧ (∀ r ∈ e.cl.releases, r.1 ≠ q.p16 2) ∧ (e.bundleFor (q.p8 0) (stdK x.std) = some b))) = true)
    ∧ (let s : State := sent 0x0904 0x03 [3, 0, 5, 0, 0, 0, 0, 0] { upDev with sec.fuseRead := keyedFuses, cl := { ports := [{ enabled := true, mode := .up }, {}, {}, {}], phase := .joined, addrs := [{ uid := zeros 8, addr := 2 }], routes := [{ addr := 3, port := some 0, hops := 1, uid := zeros 8 }] }, trav.ctxs := [(3, { kind := 11, fg := true, prio := 3, owner := .spi, since := 0, state := .running, tuning := some { freq := 100000, inputs := 1, std := 0, step := 0, count := 1 }, slot := some 5, input := some 0 })] }
       admitted s 0x0904 (fun q e =>
         let x := { kind := 11, fg := true, prio := 3, owner := .spi, since := 0, state := .running, tuning := some { freq := 100000, inputs := 1, std := 0, step := 0, count := 1 }, slot := some 5, input := some 0 }
         decide ((q.badHeader = false) ∧ (e.inWatch = false) ∧ (q.src = e.proto.owner) ∧ (q.len = 8) ∧ (q.p16 2 ≠ 0) ∧ (q.p16 2 ≠ 0xFFFF) ∧ (1 ≤ q.p8 0) ∧ (q.p8 0 ≤ 0x20) ∧ (q.p8 0 ≠ e.ownAddr) ∧ (q.p8 1 = 0) ∧ (q.p32 4 = 0) ∧ (e.cl.phase = .joined) ∧ (e.ownAddr ≠ 0) ∧ (e.ctx? q.ctx = some x) ∧ (x.kind = 0x0B) ∧ (x.tuning.isSome = true) ∧ (x.closing = none) ∧ (∀ y ∈ e.cl.streams, y.ctx ≠ q.ctx ∧ y.stream ≠ q.p16 2) ∧ (e.inRoutes (q.p8 0) = true) ∧ (∀ r ∈ e.cl.releases, r.1 ≠ q.p16 2) ∧ (e.bundleFor (q.p8 0) (stdK x.std) = none))) = true)
    ∧ (let s : State := sent 0x0905 0xFF [4, 0, 0, 0] { upDev with sec.fuseRead := keyedFuses, cl := { ports := [{ enabled := true, mode := .up }, {}, {}, {}], phase := .joined, addrs := [{ uid := zeros 8, addr := 2 }], streams := [{ stream := 4, ctx := 4, dest := 3, k := 6, bundle := 4, first := 9, slots := 1 }] } }
       admitted s 0x0905 (fun q e =>
         decide ((q.badHeader = false) ∧ (e.inWatch = false) ∧ (q.src = e.proto.owner) ∧ (q.len = 4) ∧ (q.p16 0 ≠ 0) ∧ (q.p16 0 ≠ 0xFFFF) ∧ (q.p16 2 = 0) ∧ (e.cl.streams.any (fun x => x.stream == q.p16 0 && x.closeDue.isNone) = true))) = true)
    ∧ (let s : State := sent 0x0905 0xFF [4, 0, 0, 0] { upDev with sec.fuseRead := keyedFuses, cl := { ports := [{ enabled := true, mode := .up }, {}, {}, {}], phase := .joined, addrs := [{ uid := zeros 8, addr := 2 }] } }
       admitted s 0x0905 (fun q e =>
         decide ((q.badHeader = false) ∧ (e.inWatch = false) ∧ (q.src = e.proto.owner) ∧ (q.len = 4) ∧ (q.p16 0 ≠ 0) ∧ (q.p16 0 ≠ 0xFFFF) ∧ (q.p16 2 = 0) ∧ (e.cl.streams.any (fun x => x.stream == q.p16 0 && x.closeDue.isNone) = false))) = true) :=
  by and_intros <;> decide +kernel

theorem witness_FabricTraffic_1 :
    (let s : State := on { upDev with now := 8000 * roundTicks, sec.fuseRead := keyedFuses, cl := { ports := [{ enabled := true, mode := .linked }, {}, {}, {}], phase := .joined, addrs := [{ uid := zeros 8, addr := 2 }] } }
     let dt : Nat := 0
     let p : Nat := 0
     let a : Int := 0
     let b : List Byte := (zeros 40)
     let rows : List Instr := [.tollFrame dt p a b, .pealFrame dt p a b, .leaveFrame dt p a b, .streamFrame dt p a b, .bundleFrame dt p a b,
       .remoteCmdFrame dt p a b, .remoteAckFrame dt p a b, .remoteReplyFrame dt p a b, .replyAckFrame dt p a b, .reservedFrame dt p a b]
     let i := .tollFrame 0 0 0 (zeros 40)
     (s.dev.active = true) ∧ ((s.dev.clPort p).mode ≠ .up) ∧ (i ∈ rows))
    ∧ (let s : State := on { upDev with now := 8000 * roundTicks, sec.fuseRead := keyedFuses, cl := { ports := [{ enabled := true, mode := .up, neighbour := ([9, 9, 9, 9, 9, 9, 9, 9] : List Byte) }, {}, {}, {}], phase := .joined, addrs := [{ uid := zeros 8, addr := 2 }] } }
       let dt : Nat := 0
       let p : Nat := 0
       let a : Int := 0
       let b : List Byte := (zeros 40)
       let rows : List Instr := [.tollFrame dt p a b, .pealFrame dt p a b, .leaveFrame dt p a b, .streamFrame dt p a b, .bundleFrame dt p a b,
         .remoteCmdFrame dt p a b, .remoteAckFrame dt p a b, .remoteReplyFrame dt p a b, .replyAckFrame dt p a b, .reservedFrame dt p a b]
       let i := .tollFrame 0 0 0 (zeros 40)
       (s.dev.active = true) ∧ ((s.dev.clPort p).mode = .up) ∧ (headerGood b = false) ∧ (i ∈ rows))
    ∧ (let s : State := on { upDev with now := 8000 * roundTicks, sec.fuseRead := keyedFuses, cl := { ports := [{ enabled := true, mode := .up, neighbour := ([9, 9, 9, 9, 9, 9, 9, 9] : List Byte) }, {}, {}, {}], phase := .joined, addrs := [{ uid := zeros 8, addr := 2 }] } }
       let dt : Nat := 0
       let p : Nat := 0
       let d := s.dev.tick dt
       let a : Int := 0
       let b : List Byte := (frameBytes 2 3 119 8 5 0 0 0 ([]))
       let mine := frameDest b = 0 ∨ (frameDest b = s.dev.ownAddr ∧ s.dev.ownAddr ≠ 0)
       (s.dev.active = true) ∧ ((s.dev.clPort p).mode = .up) ∧ (headerGood b = true) ∧ (trailerGood b = true) ∧ (mine) ∧ (p < s.dev.cl.ports.length) ∧ (d.outside p a = false) ∧ (typeDefined (frameType b) = false))
    ∧ (let s : State := on { upDev with now := 8000 * roundTicks, sec.fuseRead := keyedFuses, cl := { ports := [{ enabled := true, mode := .up, neighbour := ([9, 9, 9, 9, 9, 9, 9, 9] : List Byte) }, {}, {}, {}], phase := .joined, addrs := [{ uid := zeros 8, addr := 2 }], replies := [({ dev := 3, rseq := 5, bytes := [1, 2], sends := 1, sentAt := 0 } : RemoteReply)] } }
       let dt : Nat := 0
       let p : Nat := 0
       let d := s.dev.tick dt
       let a : Int := 0
       let b : List Byte := (frameBytes 2 3 35 8 5 0 0 0 ([]))
       let mine := frameDest b = 0 ∨ (frameDest b = s.dev.ownAddr ∧ s.dev.ownAddr ≠ 0)
       (s.dev.active = true) ∧ ((s.dev.clPort p).mode = .up) ∧ (headerGood b = true) ∧ (trailerGood b = true) ∧ (mine) ∧ (p < s.dev.cl.ports.length) ∧ (d.outside p a = false) ∧ (frameType b = 0x23))
    ∧ (let s : State := on { upDev with now := 8000 * roundTicks, sec.fuseRead := keyedFuses, cl := { ports := [{ enabled := true, mode := .up, neighbour := ([9, 9, 9, 9, 9, 9, 9, 9] : List Byte) }, {}, {}, {}], phase := .joined, addrs := [{ uid := zeros 8, addr := 2 }], cmds := [({ rseq := 5, dev := 3, packet := [1, 0], src := .spi, sends := 1, sentAt := 0 } : RemoteCmd)] } }
       let dt : Nat := 0
       let p : Nat := 0
       let d := s.dev.tick dt
       let a : Int := 0
       let b : List Byte := (frameBytes 2 3 33 8 5 0 0 0 ([0, 0, 0, 0]))
       let mine := frameDest b = 0 ∨ (frameDest b = s.dev.ownAddr ∧ s.dev.ownAddr ≠ 0)
       let src := frameSrc b
       let n := frameSeq b
       let c := ({ rseq := 5, dev := 3, packet := [1, 0], src := .spi, sends := 1, sentAt := 0 } : RemoteCmd)
       (s.dev.active = true) ∧ ((s.dev.clPort p).mode = .up) ∧ (headerGood b = true) ∧ (trailerGood b = true) ∧ (mine) ∧ (p < s.dev.cl.ports.length) ∧ (d.outside p a = false) ∧ (frameType b = 0x21) ∧ (s.dev.cl.cmds = [c]) ∧ (c.dev = src) ∧ (c.rseq = n) ∧ (at8 (framePayload b) 0 = 0))
    ∧ (let s : State := on { upDev with now := 8000 * roundTicks, sec.fuseRead := keyedFuses, cl := { ports := [{ enabled := true, mode := .up, neighbour := ([9, 9, 9, 9, 9, 9, 9, 9] : List Byte) }, {}, {}, {}], phase := .joined, addrs := [{ uid := zeros 8, addr := 2 }], cmds := [({ rseq := 5, dev := 3, packet := [1, 0], src := .spi, sends := 1, sentAt := 0 } : RemoteCmd)] } }
       let dt : Nat := 0
       let p : Nat := 0
       let d := s.dev.tick dt
       let a : Int := 0
       let b : List Byte := (frameBytes 2 3 33 8 5 0 0 0 ([2, 0, 0, 0]))
       let mine := frameDest b = 0 ∨ (frameDest b = s.dev.ownAddr ∧ s.dev.ownAddr ≠ 0)
       let src := frameSrc b
       let n := frameSeq b
       let c := ({ rseq := 5, dev := 3, packet := [1, 0], src := .spi, sends := 1, sentAt := 0 } : RemoteCmd)
       (s.dev.active = true) ∧ ((s.dev.clPort p).mode = .up) ∧ (headerGood b = true) ∧ (trailerGood b = true) ∧ (mine) ∧ (p < s.dev.cl.ports.length) ∧ (d.outside p a = false) ∧ (frameType b = 0x21) ∧ (s.dev.cl.cmds = [c]) ∧ (c.dev = src) ∧ (c.rseq = n) ∧ (at8 (framePayload b) 0 = 2))
    ∧ (let s : State := on { upDev with now := 8000 * roundTicks, sec.fuseRead := keyedFuses, cl := { ports := [{ enabled := true, mode := .up, neighbour := ([9, 9, 9, 9, 9, 9, 9, 9] : List Byte) }, {}, {}, {}], phase := .joined, addrs := [{ uid := zeros 8, addr := 2 }], cmds := [({ rseq := 5, dev := 3, packet := [1, 0], src := .spi, sends := 1, sentAt := 0 } : RemoteCmd)] } }
       let dt : Nat := 0
       let p : Nat := 0
       let d := s.dev.tick dt
       let a : Int := 0
       let b : List Byte := (frameBytes 2 3 33 8 5 0 0 0 ([1, 0, 0, 0]))
       let mine := frameDest b = 0 ∨ (frameDest b = s.dev.ownAddr ∧ s.dev.ownAddr ≠ 0)
       let src := frameSrc b
       let n := frameSeq b
       let c := ({ rseq := 5, dev := 3, packet := [1, 0], src := .spi, sends := 1, sentAt := 0 } : RemoteCmd)
       (s.dev.active = true) ∧ ((s.dev.clPort p).mode = .up) ∧ (headerGood b = true) ∧ (trailerGood b = true) ∧ (mine) ∧ (p < s.dev.cl.ports.length) ∧ (d.outside p a = false) ∧ (frameType b = 0x21) ∧ (s.dev.cl.cmds = [c]) ∧ (c.dev = src) ∧ (c.rseq = n) ∧ (at8 (framePayload b) 0 = 1))
    ∧ (let s : State := on { upDev with now := 8000 * roundTicks, sec.fuseRead := keyedFuses, cl := { ports := [{ enabled := true, mode := .up, neighbour := ([9, 9, 9, 9, 9, 9, 9, 9] : List Byte) }, {}, {}, {}], phase := .joined, addrs := [{ uid := zeros 8, addr := 2 }] }, proto.props := [(P.clRemoteAccept, 0)] }
       let dt : Nat := 0
       let p : Nat := 0
       let d := s.dev.tick dt
       let a : Int := 0
       let b : List Byte := (frameBytes 2 3 32 8 5 0 0 0 (packet 1 0xFF []))
       let mine := frameDest b = 0 ∨ (frameDest b = s.dev.ownAddr ∧ s.dev.ownAddr ≠ 0)
       let src := frameSrc b
       let n := frameSeq b
       (s.dev.active = true) ∧ ((s.dev.clPort p).mode = .up) ∧ (headerGood b = true) ∧ (trailerGood b = true) ∧ (mine) ∧ (p < s.dev.cl.ports.length) ∧ (d.outside p a = false) ∧ (frameType b = 0x20) ∧ (((tabGet s.dev.cl.pairs src).getD []).all (·.1 != n) = true) ∧ (s.dev.prop P.clRemoteAccept = 0))
    ∧ (let s : State := on { upDev with now := 8000 * roundTicks, sec.fuseRead := keyedFuses, cl := { ports := [{ enabled := true, mode := .up, neighbour := ([9, 9, 9, 9, 9, 9, 9, 9] : List Byte) }, {}, {}, {}], phase := .joined, addrs := [{ uid := zeros 8, addr := 2 }] }, proto.props := [(P.clRemoteAccept, 1)] }
       let dt : Nat := 0
       let p : Nat := 0
       let d := s.dev.tick dt
       let a : Int := 0
       let b : List Byte := (frameBytes 2 3 32 8 5 0 0 0 (packet 1 0xFF []))
       let mine := frameDest b = 0 ∨ (frameDest b = s.dev.ownAddr ∧ s.dev.ownAddr ≠ 0)
       let src := frameSrc b
       let n := frameSeq b
       (s.dev.active = true) ∧ ((s.dev.clPort p).mode = .up) ∧ (headerGood b = true) ∧ (trailerGood b = true) ∧ (mine) ∧ (p < s.dev.cl.ports.length) ∧ (d.outside p a = false) ∧ (frameType b = 0x20) ∧ (((tabGet s.dev.cl.pairs src).getD []).all (·.1 != n) = true) ∧ (s.dev.prop P.clRemoteAccept ≠ 0) ∧ (queueBytes s.dev.proto.q5 + (framePayload b).length ≤ 8192))
    ∧ (let s : State := on { upDev with now := 8000 * roundTicks, sec.fuseRead := keyedFuses, cl := { ports := [{ enabled := true, mode := .up, neighbour := ([9, 9, 9, 9, 9, 9, 9, 9] : List Byte) }, {}, {}, {}], phase := .joined, addrs := [{ uid := zeros 8, addr := 2 }], pairs := [(3, [(5, 0)])] } }
       let dt : Nat := 0
       let p : Nat := 0
       let d := s.dev.tick dt
       let a : Int := 0
       let b : List Byte := (frameBytes 2 3 32 8 5 0 0 0 (packet 1 0xFF []))
       let mine := frameDest b = 0 ∨ (frameDest b = s.dev.ownAddr ∧ s.dev.ownAddr ≠ 0)
       let src := frameSrc b
       let n := frameSeq b
       (s.dev.active = true) ∧ ((s.dev.clPort p).mode = .up) ∧ (headerGood b = true) ∧ (trailerGood b = true) ∧ (mine) ∧ (p < s.dev.cl.ports.length) ∧ (d.outside p a = false) ∧ (frameType b = 0x20) ∧ (((tabGet s.dev.cl.pairs src).getD []).any (·.1 == n) = true))
    ∧ (let s : State := on { upDev with now := 8000 * roundTicks, sec.fuseRead := keyedFuses, cl := { ports := [{ enabled := true, mode := .up, neighbour := ([9, 9, 9, 9, 9, 9, 9, 9] : List Byte) }, {}, {}, {}], phase := .joined, addrs := [{ uid := zeros 8, addr := 2 }], cmds := [({ rseq := 5, dev := 3, packet := [1, 0], src := .spi, sends := 1, sentAt := 0 } : RemoteCmd)] } }
       let dt : Nat := 0
       let p : Nat := 0
       let d := s.dev.tick dt
       let a : Int := 0
       let b : List Byte := (frameBytes 2 3 34 8 5 0 0 0 (packet 1 0xFF []))
       let mine := frameDest b = 0 ∨ (frameDest b = s.dev.ownAddr ∧ s.dev.ownAddr ≠ 0)
       let src := frameSrc b
       let n := frameSeq b
       let c := ({ rseq := 5, dev := 3, packet := [1, 0], src := .spi, sends := 1, sentAt := 0 } : RemoteCmd)
       (s.dev.active = true) ∧ ((s.dev.clPort p).mode = .up) ∧ (headerGood b = true) ∧ (trailerGood b = true) ∧ (mine) ∧ (p < s.dev.cl.ports.length) ∧ (d.outside p a = false) ∧ (frameType b = 0x22) ∧ (s.dev.cl.cmds = [c]) ∧ (c.dev = src) ∧ (c.rseq = n) ∧ (n ∉ (tabGet s.dev.cl.replySeqs src).getD []))
    ∧ (let s : State := on { upDev with now := 8000 * roundTicks, sec.fuseRead := keyedFuses, cl := { ports := [{ enabled := true, mode := .up, neighbour := ([9, 9, 9, 9, 9, 9, 9, 9] : List Byte) }, {}, {}, {}], phase := .joined, addrs := [{ uid := zeros 8, addr := 2 }] } }
       let dt : Nat := 0
       let p : Nat := 0
       let d := s.dev.tick dt
       let a : Int := 0
       let b : List Byte := (frameBytes 2 3 16 8 5 0 0 0 (zeros 40))
       let mine := frameDest b = 0 ∨ (frameDest b = s.dev.ownAddr ∧ s.dev.ownAddr ≠ 0)
       let src := frameSrc b
       (s.dev.active = true) ∧ ((s.dev.clPort p).mode = .up) ∧ (headerGood b = true) ∧ (trailerGood b = true) ∧ (mine) ∧ (p < s.dev.cl.ports.length) ∧ (d.outside p a = false) ∧ (frameType b = 0x10) ∧ (s.dev.streamNamed src (at16 (framePayload b) 0) = false)) :=
  by and_intros <;> decide +kernel

theorem witness_FabricTraffic_2 :
    (let s : State := on { upDev with now := 8000 * roundTicks, sec.fuseRead := keyedFuses, cl := { ports := [{ enabled := true, mode := .up, neighbour := ([9, 9, 9, 9, 9, 9, 9, 9] : List Byte) }, {}, {}, {}], phase := .joined, addrs := [{ uid := zeros 8, addr := 2 }] }, comb.services := [(2, { anchor := 3, latency := 1, branches := [{ remote := false, source := 0, state := .active }, { remote := true, source := 3, stream := 0, state := .active }], since := 0 })] }
     let dt : Nat := 0
     let p : Nat := 0
     let d := s.dev.tick dt
     let a : Int := 0
     let b : List Byte := (frameBytes 2 3 16 8 5 0 0 0 (zeros 128))
     let mine := frameDest b = 0 ∨ (frameDest b = s.dev.ownAddr ∧ s.dev.ownAddr ≠ 0)
     let src := frameSrc b
     (s.dev.active = true) ∧ ((s.dev.clPort p).mode = .up) ∧ (headerGood b = true) ∧ (trailerGood b = true) ∧ (mine) ∧ (p < s.dev.cl.ports.length) ∧ (d.outside p a = false) ∧ (frameType b = 0x10) ∧ (s.dev.streamNamed src (at16 (framePayload b) 0) = true))
    ∧ (let s : State := on { upDev with now := 8000 * roundTicks, sec.fuseRead := keyedFuses, cl := { ports := [{ enabled := true, mode := .up, neighbour := ([9, 9, 9, 9, 9, 9, 9, 9] : List Byte) }, {}, {}, {}], phase := .joined, addrs := [{ uid := zeros 8, addr := 2 }] } }
       let dt : Nat := 0
       let p : Nat := 0
       let d := s.dev.tick dt
       let a : Int := 0
       let b : List Byte := (frameBytes 2 3 17 8 5 0 0 0 (zeros 60))
       let mine := frameDest b = 0 ∨ (frameDest b = s.dev.ownAddr ∧ s.dev.ownAddr ≠ 0)
       (s.dev.active = true) ∧ ((s.dev.clPort p).mode = .up) ∧ (headerGood b = true) ∧ (trailerGood b = true) ∧ (mine) ∧ (p < s.dev.cl.ports.length) ∧ (d.outside p a = false) ∧ (frameType b = 0x11) ∧ (s.dev.comb.services = []))
    ∧ (let s : State := on { upDev with now := 8000 * roundTicks, sec.fuseRead := keyedFuses, cl := { ports := [{ enabled := true, mode := .up, neighbour := ([9, 9, 9, 9, 9, 9, 9, 9] : List Byte) }, {}, {}, {}], phase := .joined, addrs := [{ uid := zeros 8, addr := 2 }], best := some (9, ([9, 9, 9, 9, 9, 9, 9, 9] : List Byte)) } }
       let p : Nat := 0
       let b : List Byte := (frameBytes 2 3 1 8 5 0 0 0 (([1] ++ zeros 31)))
       (s.dev.active = true) ∧ ((s.dev.clPort p).mode = .up) ∧ (headerGood b = true) ∧ (trailerGood b = true) ∧ (frameType b = 1) ∧ ((framePayload b).length = 32) ∧ (p < s.dev.cl.ports.length) ∧ (s.dev.tollCounts (slice (framePayload b) 0 8) = false))
    ∧ (let s : State := on { upDev with now := 8000 * roundTicks, sec.fuseRead := keyedFuses, cl := { ports := [{ enabled := true, mode := .up, neighbour := ([9, 9, 9, 9, 9, 9, 9, 9] : List Byte) }, {}, {}, {}], phase := .joined, addrs := [{ uid := zeros 8, addr := 2 }], best := some (9, ([9, 9, 9, 9, 9, 9, 9, 9] : List Byte)) } }
       let p : Nat := 0
       let b : List Byte := (frameBytes 2 3 1 8 5 0 0 0 (([9, 9, 9, 9, 9, 9, 9, 9] : List Byte) ++ zeros 24))
       (s.dev.active = true) ∧ ((s.dev.clPort p).mode = .up) ∧ (headerGood b = true) ∧ (trailerGood b = true) ∧ (frameType b = 1) ∧ ((framePayload b).length = 32) ∧ (p < s.dev.cl.ports.length) ∧ (s.dev.tollCounts (slice (framePayload b) 0 8) = true))
    ∧ (let s : State := on { upDev with now := 8000 * roundTicks, sec.fuseRead := keyedFuses, cl := { ports := [{ enabled := true, mode := .up }, {}, {}, {}], phase := .joined, addrs := [{ uid := zeros 8, addr := 2 }] } }
       let dt : Nat := 0
       (s.dev.active = true) ∧ (s.dev.joined = true) ∧ (((s.dev.tick dt).now) % 2048 = 0) ∧ (s.dev.cl.streams = []) ∧ (s.dev.proto.fabricOut = []) ∧ (∀ k ∈ List.range 4, (s.dev.clPort k).waiting = []))
    ∧ (let s : State := on { upDev with now := 8000 * roundTicks, sec.fuseRead := keyedFuses, cl := { ports := [{ enabled := true, mode := .up }, {}, {}, {}], phase := .joined, addrs := [{ uid := zeros 8, addr := 2 }], cmds := [({ rseq := 5, dev := 3, packet := [1, 0], src := .spi, sends := 1, sentAt := 8000 * roundTicks } : RemoteCmd)] } }
       let dt : Nat := 0
       let c := ({ rseq := 5, dev := 3, packet := [1, 0], src := .spi, sends := 1, sentAt := 8000 * roundTicks } : RemoteCmd)
       (s.dev.active = true) ∧ (s.dev.cl.cmds = [c]) ∧ (c.acked = false) ∧ ((s.dev.tick dt).now < c.sentAt + 3 * roundTicks))
    ∧ (let s : State := on { upDev with now := 8000 * roundTicks, sec.fuseRead := keyedFuses, cl := { ports := [{ enabled := true, mode := .up }, {}, {}, {}], phase := .joined, addrs := [{ uid := zeros 8, addr := 2 }], cmds := [({ rseq := 5, dev := 3, packet := [1, 0], src := .spi, sends := 99, sentAt := 0 } : RemoteCmd)] } }
       let dt : Nat := 0
       let c := ({ rseq := 5, dev := 3, packet := [1, 0], src := .spi, sends := 99, sentAt := 0 } : RemoteCmd)
       (s.dev.active = true) ∧ (s.dev.cl.cmds = [c]) ∧ (c.acked = false) ∧ (c.sentAt + 3 * roundTicks ≤ (s.dev.tick dt).now) ∧ (s.dev.waitsToSend c.dev 0x20 c.rseq = false) ∧ (s.dev.propN P.clRemoteTries ≤ c.sends))
    ∧ (let s : State := on { upDev with now := 8000 * roundTicks, sec.fuseRead := keyedFuses, cl := { ports := [{ enabled := true, mode := .up }, {}, {}, {}], phase := .joined, addrs := [{ uid := zeros 8, addr := 2 }], cmds := [({ rseq := 5, dev := 3, packet := [1, 0], src := .spi, sends := 0, sentAt := 0 } : RemoteCmd)] } }
       let dt : Nat := 0
       let c := ({ rseq := 5, dev := 3, packet := [1, 0], src := .spi, sends := 0, sentAt := 0 } : RemoteCmd)
       (s.dev.active = true) ∧ (s.dev.cl.cmds = [c]) ∧ (c.acked = false) ∧ (c.sentAt + 3 * roundTicks ≤ (s.dev.tick dt).now) ∧ (s.dev.waitsToSend c.dev 0x20 c.rseq = false) ∧ (c.sends < s.dev.propN P.clRemoteTries))
    ∧ (let s : State := on { upDev with now := 8000 * roundTicks, sec.fuseRead := keyedFuses, cl := { ports := [{ enabled := true, mode := .up }, {}, {}, {}], phase := .joined, addrs := [{ uid := zeros 8, addr := 2 }], replies := [({ dev := 3, rseq := 5, bytes := [1, 2], sends := 99, sentAt := 0 } : RemoteReply)] } }
       let dt : Nat := 0
       let r := ({ dev := 3, rseq := 5, bytes := [1, 2], sends := 99, sentAt := 0 } : RemoteReply)
       (s.dev.active = true) ∧ (s.dev.cl.replies = [r]) ∧ (r.sentAt + 3 * roundTicks ≤ (s.dev.tick dt).now) ∧ (s.dev.waitsToSend r.dev 0x22 r.rseq = false) ∧ (s.dev.propN P.clRemoteTries ≤ r.sends))
    ∧ (let s : State := on { upDev with now := 8000 * roundTicks, sec.fuseRead := keyedFuses, cl := { ports := [{ enabled := true, mode := .up }, {}, {}, {}], phase := .joined, addrs := [{ uid := zeros 8, addr := 2 }], replies := [({ dev := 3, rseq := 5, bytes := [1, 2], sends := 0, sentAt := 0 } : RemoteReply)] } }
       let dt : Nat := 0
       let r := ({ dev := 3, rseq := 5, bytes := [1, 2], sends := 0, sentAt := 0 } : RemoteReply)
       (s.dev.active = true) ∧ (s.dev.cl.replies = [r]) ∧ (r.sentAt + 3 * roundTicks ≤ (s.dev.tick dt).now) ∧ (s.dev.waitsToSend r.dev 0x22 r.rseq = false) ∧ (r.sends < s.dev.propN P.clRemoteTries))
    ∧ (let s : State := on { upDev with now := 8000 * roundTicks, sec.fuseRead := keyedFuses, cl := { ports := [{ enabled := true, mode := .up }, {}, {}, {}], phase := .joined, addrs := [{ uid := zeros 8, addr := 2 }], dups := 3 } }
       let dt : Nat := 0
       (s.dev.active = true) ∧ (((s.dev.tick dt).now) % roundTicks = 0) ∧ (s.dev.cl.dups ≠ 0) ∧ (s.dev.cl.dupAt = none))
    ∧ (let s : State := on { upDev with now := 8000 * roundTicks, sec.fuseRead := keyedFuses, cl := { ports := [{ enabled := true, mode := .linked }, {}, {}, {}], phase := .joined, addrs := [{ uid := zeros 8, addr := 2 }], loop := .locked, tollPort := some 0 } }
       let dt : Nat := 0
       let d := s.dev.tick dt
       let c := 0
       (s.dev.active = true) ∧ (((s.dev.tick dt).now) % roundTicks = 0) ∧ (s.dev.joined = true) ∧ (d.bestToll false = none) ∧ (s.dev.cl.loop = .tracking ∨ s.dev.cl.loop = .locked) ∧ (d.lossCause = some c)) :=
  by and_intros <;> decide +kernel

theorem witness_FabricTraffic_3 :
    (let s : State := on { upDev with now := 8000 * roundTicks, sec.fuseRead := keyedFuses, cl := { ports := [{ enabled := true, mode := .up }, {}, {}, {}], phase := .joined, addrs := [{ uid := zeros 8, addr := 2 }], loop := .locked } }
     let dt : Nat := 0
     let d := s.dev.tick dt
     (s.dev.active = true) ∧ (((s.dev.tick dt).now) % roundTicks = 0) ∧ (s.dev.joined = true) ∧ (d.lossCause = none))
    ∧ (let s : State := on { upDev with now := 8000 * roundTicks, sec.fuseRead := keyedFuses, cl := { ports := [{ enabled := true, mode := .up }, {}, {}, {}], phase := .joined, addrs := [{ uid := zeros 8, addr := 2 }], loop := .holdover, holdRounds := 100000000, best := some (9, ([9, 9, 9, 9, 9, 9, 9, 9] : List Byte)) } }
       let dt : Nat := 0
       let d := s.dev.tick dt
       (s.dev.active = true) ∧ (((s.dev.tick dt).now) % roundTicks = 0) ∧ (s.dev.cl.loop = .holdover) ∧ (s.dev.propN P.clHoldoverMax ≤ s.dev.cl.holdRounds) ∧ (d.bestToll false = none) ∧ (s.dev.benchUid ≠ s.dev.uid))
    ∧ (let s : State := sent 0x0907 0xFF [1, 0, 5, 0] { upDev with sec.fuseRead := keyedFuses, cl := { ports := [{ enabled := true, mode := .up }, {}, {}, {}], phase := .joined, addrs := [{ uid := zeros 8, addr := 2 }], stored := [(.spi, 5, [1, 2])] } }
       admitted s 0x0907 (fun q e =>
         let r := ((.spi, 5, [1, 2]) : Iface × Nat × List Byte)
         decide ((q.badHeader = false) ∧ (e.inWatch = false) ∧ (q.src = e.proto.owner) ∧ (q.p8 0 = 1) ∧ (q.len = 4) ∧ (q.p8 1 = 0) ∧ (e.cl.stored.find? (fun x => x.1 == q.src && x.2.1 == q.p16 2) = some r) ∧ (q.fits r.2.2 = true))) = true)
    ∧ (let s : State := sent 0x0907 0xFF [1, 0, 5, 0] { upDev with sec.fuseRead := keyedFuses, cl := { ports := [{ enabled := true, mode := .up }, {}, {}, {}], phase := .joined, addrs := [{ uid := zeros 8, addr := 2 }] } }
       admitted s 0x0907 (fun q e =>
         decide ((q.badHeader = false) ∧ (e.inWatch = false) ∧ (q.src = e.proto.owner) ∧ (q.p8 0 = 1) ∧ (q.len = 4) ∧ (q.p8 1 = 0) ∧ (e.cl.stored.find? (fun x => x.1 == q.src && x.2.1 == q.p16 2) = none) ∧ (q.fits [] = true))) = true)
    ∧ (let s : State := sent 0x0907 0xFF (([0, 3, 0, 0] : List Byte) ++ packet 1 0xFF []) { upDev with sec.fuseRead := keyedFuses, cl := { ports := [{ enabled := true, mode := .up }, {}, {}, {}], phase := .joined, addrs := [{ uid := zeros 8, addr := 2 }], routes := [{ addr := 3, port := some 0, hops := 1, uid := zeros 8 }] } }
       admitted s 0x0907 (fun q e =>
         let pk := q.params.drop 4
         decide (q.badHeader = false) && decide (e.inWatch = false) && decide (q.src = e.proto.owner) && decide (q.p8 0 = 0) && decide (14 ≤ q.len) && decide (q.len ≤ 452) && decide (packetLength pk = pk.length) && decide (1 ≤ q.p8 1) && decide (q.p8 1 ≤ 0x20) && decide (q.p8 1 ≠ e.ownAddr) && decide (q.p16 2 = 0) && decide (e.cl.phase = .joined) && decide (e.ownAddr ≠ 0) && decide (e.inRoutes (q.p8 1) = true) && decide (e.q6Bytes + pk.length ≤ 8192) && decide (q.fits (u16 e.cl.rseq ++ zeros 2) = true)) = true)
    ∧ (let s : State := sent 0x0908 0xFF [0, 0, 0, 0] { upDev with sec.fuseRead := keyedFuses, cl := { ports := [{ enabled := true, mode := .up }, {}, {}, {}], phase := .joined, addrs := [{ uid := zeros 8, addr := 2 }] } }
       admitted s 0x0908 (fun q e =>
         decide ((q.badHeader = false) ∧ (e.inWatch = false) ∧ (q.src = e.proto.owner) ∧ (q.len = 4) ∧ (zeroAt q.params 1 3 = true) ∧ (q.p8 0 = 0))) = true)
    ∧ (let s : State := sent 0x0908 0xFF [1, 0, 0, 0] { upDev with sec.fuseRead := keyedFuses, cl := { ports := [{ enabled := true, mode := .up }, {}, {}, {}], phase := .joined, addrs := [{ uid := zeros 8, addr := 2 }] } }
       admitted s 0x0908 (fun q e =>
         decide ((q.badHeader = false) ∧ (e.inWatch = false) ∧ (q.src = e.proto.owner) ∧ (q.len = 4) ∧ (zeroAt q.params 1 3 = true) ∧ (q.p8 0 = 1))) = true) :=
  by and_intros <;> decide +kernel

theorem witness_TocsinRows_1 :
    (let s : State := on upDev
     let T := s.dev.toc
     let e := ({ injected := false, level := classLevel 3, cls := 3, region := 1, block := 2, master := 3, access := 4, addr := 5, detail := 0 } : ErrIn)
     (s.dev.inReset = false) ∧ (T.halted = false) ∧ (T.rcd.valid = false) ∧ (e.injected = false) ∧ (1 ≤ e.cls) ∧ (e.cls ≤ 15) ∧ (e.level = classLevel e.cls) ∧ (2 < e.cls → e.detail = 0))
    ∧ (let s : State := on upDev
       let T := s.dev.toc
       let errs := [({ injected := false, level := classLevel 3, cls := 3, region := 1, block := 2, master := 3, access := 4, addr := 5, detail := 0 } : ErrIn)]
       let e := ({ injected := false, level := classLevel 3, cls := 3, region := 1, block := 2, master := 3, access := 4, addr := 5, detail := 0 } : ErrIn)
       (s.dev.inReset = false) ∧ (T.halted = false) ∧ (T.rcd.valid = false) ∧ (e ∈ errs) ∧ (∀ x ∈ errs, x.injected = false ∧ 1 ≤ x.cls ∧ x.cls ≤ 15 ∧ (x = e ∨ ErrIn.rank e < ErrIn.rank x)) ∧ (errs.length ≤ 0xFFFF))
    ∧ (let s : State := on { upDev with toc.inject := some { kind := 2, region := 1, block := 2, mode := 0, addr := 0, since := 0 } }
       let T := s.dev.toc
       let e := ({ injected := true, level := classLevel 3, cls := 3, region := 1, block := 2, master := 3, access := 4, addr := 5, detail := 0 } : ErrIn)
       let j := { kind := 2, region := 1, block := 2, mode := 0, addr := 0, since := 0 }
       (s.dev.inReset = false) ∧ (T.halted = false) ∧ (T.rcd.valid = false) ∧ (s.dev.pwr.mode ≠ .sleep) ∧ (e.injected = true) ∧ (T.inject = some j) ∧ (j.mode = 0) ∧ (j.kind ≠ 1))
    ∧ (let s : State := on upDev
       let T := s.dev.toc
       (s.dev.inReset = false) ∧ (T.halted = false) ∧ (T.rcd.valid = false))
    ∧ (let s : State := on upDev
       let T := s.dev.toc
       (s.dev.inReset = false) ∧ (T.halted = false) ∧ (T.rcd.valid = false))
    ∧ (let s : State := on upDev
       let T := s.dev.toc
       let r := 1
       let b := 4
       (s.dev.inReset = false) ∧ (T.halted = false) ∧ (T.rcd.valid = false) ∧ (s.dev.booted = true) ∧ (hasWatchdog r b = true) ∧ (s.dev.blockUnfitted r b = false))
    ∧ (let s : State := on { upDev with toc.inject := some { kind := 2, region := 1, block := 2, mode := 1, addr := 0, since := 0 } }
       let dt : Nat := 0
       let d := s.dev.tick dt
       let T := s.dev.toc
       let j := ({ kind := 2, region := 1, block := 2, mode := 1, addr := 0, since := 0 } : Injection)
       (s.dev.inReset = false) ∧ (T.halted = false) ∧ (T.rcd.valid = false) ∧ (s.dev.booted = true) ∧ (T.inject = some j) ∧ (d.sinceUs j.since 100 = true))
    ∧ (let s : State := on { upDev with toc := { rcd := { valid := true, cls := 3, capture := 4 }, captures := 4 } }
       let T := s.dev.toc
       let e := ({ injected := false, level := classLevel 3, cls := 3, region := 1, block := 2, master := 3, access := 4, addr := 5, detail := 0 } : ErrIn)
       (s.dev.inReset = false) ∧ (T.halted = false) ∧ (T.rcd.valid = true) ∧ (e.injected = false) ∧ (1 ≤ e.cls) ∧ (e.cls ≤ 15))
    ∧ (let s : State := on upDev
       let T := s.dev.toc
       let e : ErrIn := ({ injected := false, level := classLevel 3, cls := 3, region := 1, block := 2, master := 3, access := 4, addr := 5, detail := 0 } : ErrIn)
       (s.dev.inReset = false) ∧ (T.halted = false) ∧ (e.region ≤ 4) ∧ (T.ce.length = 5) ∧ (T.ceWindow.length = 5) ∧ (T.ceTotal < 2 ^ 32 - 1) ∧ (e.injected = false) ∧ (T.policy.threshold = 0 ∨ T.windowOpen = false ∨ T.ceWindow.getD e.region 0 + 1 < T.policy.threshold))
    ∧ (let s : State := on { upDev with toc := { policy := { threshold := 1, window := 10, logCe := false, allowHalt := false }, windowOpen := true } }
       let T := s.dev.toc
       let e : ErrIn := ({ injected := false, level := classLevel 3, cls := 3, region := 1, block := 2, master := 3, access := 4, addr := 5, detail := 0 } : ErrIn)
       (s.dev.inReset = false) ∧ (T.halted = false) ∧ (e.region ≤ 4) ∧ (T.ce.length = 5) ∧ (T.ceWindow.length = 5) ∧ (T.ceTotal < 2 ^ 32 - 1) ∧ (e.injected = false) ∧ (T.policy.threshold ≠ 0) ∧ (T.windowOpen = true) ∧ (T.policy.threshold ≤ T.ceWindow.getD e.region 0 + 1) ∧ (T.rcd.valid = false))
    ∧ (let s : State := on { upDev with toc.inject := some { kind := 1, region := 1, block := 2, mode := 0, addr := 0, since := 0 } }
       let T := s.dev.toc
       let e : ErrIn := ({ injected := true, level := classLevel 3, cls := 3, region := 1, block := 2, master := 3, access := 4, addr := 5, detail := 0 } : ErrIn)
       let j := ({ kind := 1, region := 1, block := 2, mode := 0, addr := 0, since := 0 } : Injection)
       (s.dev.inReset = false) ∧ (T.halted = false) ∧ (e.region ≤ 4) ∧ (T.ce.length = 5) ∧ (T.ceWindow.length = 5) ∧ (T.ceTotal < 2 ^ 32 - 1) ∧ (e.injected = true) ∧ (T.inject = some j) ∧ (j.mode = 0) ∧ (j.kind = 1))
    ∧ (let s : State := on { upDev with now := 8000 * roundTicks, toc.ceNew := [1, 0, 0, 0, 0] }
       let dt : Nat := 0
       let d := s.dev.tick dt
       let T := s.dev.toc
       (s.dev.up = true) ∧ (((s.dev.tick dt).now) % roundTicks = 0) ∧ (T.ceNew.any (· != 0) = true) ∧ (T.ceReported = none ∨ ∃ r, T.ceReported = some r ∧ r + 800 ≤ d.round)) :=
  by and_intros <;> decide +kernel

theorem witness_TocsinRows_2 :
    (let s : State := on upDev
     (s.dev.izosh = true))
    ∧ (let s : State := on upDev
       let dt : Nat := 0
       let d := s.dev.tick dt
       let T := s.dev.toc
       (s.dev.up = true) ∧ (d.sinceRef T.aliveAt 16000 = true)) :=
  by and_intros <;> decide +kernel

theorem witness_HaltResponder :
    (let s : State := on { upDev with toc := { halted := true, rcd := { valid := true, halted := true, cls := 3, capture := 4 }, q7 := [zeros 64] }, proto.q0 := [{ src := .spi, doneAt := 0, bytes := packet 0x0201 0xFF [0, 1, 0, 0] }] }
     let p : QPkt := ({ src := .spi, doneAt := 0, bytes := packet 0x0201 0xFF [0, 1, 0, 0] } : QPkt)
     (s.dev.toc.halted = true) ∧ (s.dev.haltFront = some p) ∧ (s.dev.canReply p.src = true) ∧ (p.opcode ≠ 0x0A01) ∧ (p.opcode ≠ 0x0A02) ∧ (p.opcode ≠ 0x0001))
    ∧ (let s : State := on { upDev with toc := { halted := true, rcd := { valid := true, halted := true, cls := 3, capture := 4 }, q7 := [zeros 64] }, proto.q0 := [{ src := .spi, doneAt := 0, bytes := packet 0x0001 0xFF [] }] }
       let dt : Nat := 0
       let p : QPkt := ({ src := .spi, doneAt := 0, bytes := packet 0x0001 0xFF [] } : QPkt)
       let d := s.dev.tick dt
       let q := d.nextReq p
       let e := d.taken p
       (s.dev.toc.halted = true) ∧ (s.dev.haltFront = some p) ∧ (s.dev.canReply p.src = true) ∧ (crcGood p.bytes = true) ∧ (e.repeats q = false) ∧ (q.ctx = 0xFF) ∧ (q.badHeader = false) ∧ (hasBit q.flags 0 = false) ∧ (p.opcode = 0x0001) ∧ (q.len = 0))
    ∧ (let s : State := on { upDev with toc := { halted := true, rcd := { valid := true, halted := true, cls := 3, capture := 4 }, q7 := [zeros 64] }, proto.q0 := [{ src := .spi, doneAt := 0, bytes := packet 0x0A01 0xFF [1, 0, 0, 0] }] }
       let dt : Nat := 0
       let p : QPkt := ({ src := .spi, doneAt := 0, bytes := packet 0x0A01 0xFF [1, 0, 0, 0] } : QPkt)
       let d := s.dev.tick dt
       let q := d.nextReq p
       let e := d.taken p
       (s.dev.toc.halted = true) ∧ (s.dev.haltFront = some p) ∧ (s.dev.canReply p.src = true) ∧ (crcGood p.bytes = true) ∧ (e.repeats q = false) ∧ (q.ctx = 0xFF) ∧ (q.badHeader = false) ∧ (hasBit q.flags 0 = false) ∧ (p.opcode = 0x0A01) ∧ (q.len = 4) ∧ (q.p8 0 ≤ 15) ∧ (zeroAt q.params 1 3 = true) ∧ (q.src.isFabric = false))
    ∧ (let s : State := on { upDev with toc := { halted := true, rcd := { valid := true, halted := true, cls := 3, capture := 4 }, q7 := [zeros 64] }, proto.q0 := [{ src := .spi, doneAt := 0, bytes := packet 0x0A02 0xFF [4, 0, 0, 0] }] }
       let dt : Nat := 0
       let p : QPkt := ({ src := .spi, doneAt := 0, bytes := packet 0x0A02 0xFF [4, 0, 0, 0] } : QPkt)
       let d := s.dev.tick dt
       let q := d.nextReq p
       let e := d.taken p
       (s.dev.toc.halted = true) ∧ (s.dev.haltFront = some p) ∧ (s.dev.canReply p.src = true) ∧ (crcGood p.bytes = true) ∧ (e.repeats q = false) ∧ (q.ctx = 0xFF) ∧ (q.badHeader = false) ∧ (hasBit q.flags 0 = false) ∧ (p.opcode = 0x0A02) ∧ (e.critical q = false) ∧ (q.len = 4) ∧ (q.p8 2 < 4) ∧ (zeroAt q.params 3 1 = true) ∧ (q.src = e.proto.owner)) :=
  by and_intros <;> decide +kernel

theorem witness_FaultCommands :
    (let s : State := sent 0x0A01 0xFF [1, 0, 0, 0] { upDev with toc.q7 := [zeros 64] }
     admitted s 0x0A01 (fun q e =>
       decide ((q.badHeader = false) ∧ (q.len = 4) ∧ (q.p8 0 ≤ 15) ∧ (zeroAt q.params 1 3 = true) ∧ (q.src.isFabric = true → q.p8 0 ≤ 5) ∧ (∀ x ∈ e.toc.q7, x.length = 64) ∧ (e.toc.ce.length = 5))) = true)
    ∧ (let s : State := sent 0x0A02 0xFF [0, 0, 3, 0] upDev
       admitted s 0x0A02 (fun q e =>
         decide ((q.badHeader = false) ∧ (q.len = 4) ∧ (q.p8 2 < 4) ∧ (zeroAt q.params 3 1 = true) ∧ (q.src = e.proto.owner) ∧ (e.toc.halted = false) ∧ (q.p16 0 = 0))) = true)
    ∧ (let s : State := sent 0x0A02 0xFF [4, 0, 3, 0] { upDev with toc := { rcd := { valid := true, cls := 3, capture := 4 } } }
       admitted s 0x0A02 (fun q e =>
         let T := e.toc
         decide ((q.badHeader = false) ∧ (q.len = 4) ∧ (q.p8 2 < 4) ∧ (zeroAt q.params 3 1 = true) ∧ (q.src = e.proto.owner) ∧ (e.toc.halted = false) ∧ (q.p16 0 ≠ 0) ∧ (T.rcd.valid = true) ∧ (T.rcd.capture = q.p16 0) ∧ (T.q7.length < 64))) = true)
    ∧ (let s : State := sent 0x0A02 0xFF [4, 0, 3, 0] { upDev with toc := { rcd := { valid := true, cls := 3, capture := 4 }, q7 := List.replicate 64 (zeros 64) } }
       admitted s 0x0A02 (fun q e =>
         let T := e.toc
         decide ((q.badHeader = false) ∧ (q.len = 4) ∧ (q.p8 2 < 4) ∧ (zeroAt q.params 3 1 = true) ∧ (q.src = e.proto.owner) ∧ (e.toc.halted = false) ∧ (q.p16 0 ≠ 0) ∧ (T.rcd.valid = true) ∧ (T.rcd.capture = q.p16 0) ∧ (64 ≤ T.q7.length))) = true)
    ∧ (let s : State := sent 0x0A03 0xFF [4, 1, 4, 0, 0, 0, 0, 0] upDev
       admitted s 0x0A03 (fun q e =>
         let (kind, region, block, mode, addr) := (q.p8 0, q.p8 1, q.p8 2, q.p8 3, q.p32 4)
         decide ((q.badHeader = false) ∧ (q.len = 8) ∧ (q.src = e.proto.owner) ∧ (e.inWatch = false) ∧ (e.toc.inject = none) ∧ (kind ≤ 7 → e.blockUnfitted region block = false) ∧ (kind = 8 → addr = 4 → e.hasFabric = true) ∧ (badInjection kind region block mode addr = false) ∧ (mode = 1 → e.toc.nextPolicy.allowHalt = true))) = true)
    ∧ (let s : State := sent 0x0A04 0xFF [5, 0, 100, 0, 1, 1, 0, 0] upDev
       admitted s 0x0A04 (fun q e =>
         decide ((q.badHeader = false) ∧ (q.len = 8) ∧ (q.p16 2 ≤ 8000) ∧ (q.p16 0 = 0 ↔ q.p16 2 = 0) ∧ (q.p8 4 ≤ 1) ∧ (q.p8 5 ≤ 1) ∧ (zeroAt q.params 6 2 = true) ∧ (q.src = e.proto.owner) ∧ (e.inWatch = false))) = true) :=
  by and_intros <;> decide +kernel

end Sys2Proof.Tests
end

section
/-!
SUPPORT. The straps (02 R57-R60) through every row. `Laws/Kept.lean` has the rows that leave all of `Dev.kept` alone; here stand the
few others: a reset, a halt and an error change the fuses, the record or the halt, and the straps not even then.
-/
namespace Sys2Proof.Machine

/-! ## What is read off `Kept` -/

/-- The sampled straps HOST_SEL and TW_ADDR. -/
def Kept.straps (k : Kept) : Bool × BitVec 3 := (k.hostSel, k.twAddr)

@[simp] theorem Kept.straps_mk (f : List Byte) (h : Bool) (a : BitVec 3) (r : FaultRec) (x : Bool) :
    (Kept.mk f h a r x).straps = (h, a) := rfl
@[simp] theorem Dev.straps_fold (d : Dev) : (d.pwr.hostSel, d.pwr.twAddr) = d.kept.straps := rfl
theorem Dev.straps_eq_iff (d e : Dev) :
    d.kept.straps = e.kept.straps ↔ d.pwr.hostSel = e.pwr.hostSel ∧ d.pwr.twAddr = e.pwr.twAddr := Prod.mk_inj

@[simp] theorem State.after_pwr (s : State) (dt : Nat) (e : Dev) : (s.after dt e).dev.pwr = e.pwr := rfl

section
variable {β : Type} (p : Kept → β)

/-- A part `p` of `Kept` that every arm of a row leaves alone is left alone by the row. -/
theorem State.run_keeps {s t : State} {dt : Nat} {f : Dev → Dev} (hf : ∀ d, p (f d).kept = p d.kept) (h : s.run dt f = .next t) :
    p t.dev.kept = p s.dev.kept := by
  rw [State.run_next, Host.Outcome.next.injEq] at h
  subst h
  exact (hf (s.dev.tick dt)).trans (congrArg p (Dev.tick_kept dt s.dev))

theorem State.runIf_keeps {s t : State} {dt : Nat} {c : Dev → Bool} {f : Dev → Dev} (hf : ∀ d, p (f d).kept = p d.kept)
    (h : s.runIf dt c f = .next t) : p t.dev.kept = p s.dev.kept :=
  State.run_keeps p (fun d => by split <;> simp [hf]) h

theorem Dev.onlyIf_keeps (c : Bool) {f : Dev → Dev} (hf : ∀ d, p (f d).kept = p d.kept) (d : Dev) :
    p (d.onlyIf c f).kept = p d.kept := by
  unfold Dev.onlyIf; split <;> simp [hf]

theorem checked_keeps (d : Dev) (l : List (Bool × Status)) {go : Res} (h : p go.dev.kept = p d.kept) :
    p (checked d l go).dev.kept = p d.kept := by
  unfold checked; split <;> simp [h]

theorem Res.forFabric_keeps (q : Req) (d : Dev) {r : Res} (h : p r.dev.kept = p d.kept) : p (r.forFabric q d).dev.kept = p d.kept := by
  unfold Res.forFabric; split <;> simp [h]

theorem Dev.conclude_keeps (q : Req) {r : Res} (d : Dev) (h : p r.dev.kept = p d.kept) : p (d.conclude q r).kept = p d.kept := by
  unfold Dev.conclude
  split
  · exact h
  · split <;> simp [h]

theorem Dev.execute_keeps (q : Req) (raw : List Byte) {body : Body} (hb : ∀ q d, p (body q d).dev.kept = p d.kept) (d : Dev) :
    p (d.execute q raw body).kept = p d.kept := by
  have ha := Dev.authenticate_kept q raw d
  unfold Dev.execute
  repeat' split
  · simp
  · simp
  · simp
  · rename_i d1 h1
    rw [Dev.reply_kept, ← ha, h1]
  · rename_i d1 h1
    rw [Dev.conclude_keeps p q d1 (Res.forFabric_keeps p q d1 (hb q d1)), ← ha, h1]

theorem Dev.take_keeps (x : QPkt) {run : Req → Dev → Dev} (hr : ∀ q d, p (run q d).kept = p d.kept) (d : Dev) :
    p (d.take x run).kept = p d.kept := by
  unfold Dev.take
  split
  · simp [hr]
  · split <;> simp

theorem Dev.command_keeps (op : Nat) {body : Body} (hb : ∀ q d, p (body q d).dev.kept = p d.kept) (d : Dev) :
    p (d.command op body).kept = p d.kept := by
  unfold Dev.command
  split
  · rfl
  · split
    · exact Dev.take_keeps p _ (fun q e => Dev.execute_keeps p q _ hb e) d
    · rfl

end

/-! ## Resets -/

@[simp] theorem Dev.dropFuseJob_straps (d : Dev) : d.dropFuseJob.kept.straps = d.kept.straps := by
  obtain ⟨f, n, h, -⟩ := d.dropFuseJob_spec
  simp [h]

@[simp] theorem Dev.reset_straps (k : ResetKind) (d : Dev) : (d.reset k).kept.straps = d.kept.straps := by
  obtain ⟨f, n, h, -⟩ := d.reset_spec k
  simp [h, PowerSt.reset]

/-- What makes the boot after a reset sample the straps: that it was due to, or a loss of VDD_AON, or RESET_N low. -/
@[simp] theorem Dev.reset_sampleStraps (k : ResetKind) (d : Dev) :
    (d.reset k).pwr.sampleStraps = (d.pwr.sampleStraps || k == .aonLoss || !d.pwr.resetN) := by
  obtain ⟨f, n, h, -⟩ := d.reset_spec k
  simp [h, PowerSt.reset]

@[simp] theorem Dev.tryBoot_sampleStraps (d : Dev) : d.tryBoot.pwr.sampleStraps = d.pwr.sampleStraps := by
  unfold Dev.tryBoot; split <;> rfl

@[simp] theorem Dev.sendLeaves_pwr (d : Dev) : d.sendLeaves.pwr = d.pwr := by
  unfold Dev.sendLeaves; split <;> rfl

@[simp] theorem Dev.ampsOff_pwr (d : Dev) : d.ampsOff.pwr = d.pwr := rfl

@[simp] theorem Dev.wake_straps (src : Iface) (bytes : List Byte) (headerOnly : Bool) (d : Dev) :
    (d.wake src bytes headerOnly).kept.straps = d.kept.straps := by
  simp [Dev.wake]

@[simp] theorem Dev.pushAsleep_straps (bytes : List Byte) (d : Dev) : (d.pushAsleep bytes).kept.straps = d.kept.straps := by
  unfold Dev.pushAsleep; repeat' split
  all_goals simp

@[simp] theorem Dev.boxRefused_straps (d : Dev) : d.boxRefused.kept.straps = d.kept.straps := by
  unfold Dev.boxRefused; dsimp only; repeat' split
  all_goals simp

@[simp] theorem Dev.boxDone_straps (d : Dev) : d.boxDone.kept.straps = d.kept.straps := by
  unfold Dev.boxDone; dsimp only; repeat' split
  all_goals simp

@[simp] theorem Dev.twWrite_straps (bytes : List Byte) (d : Dev) : (d.twWrite bytes).kept.straps = d.kept.straps := by
  unfold Dev.twWrite; split <;> simp

@[simp] theorem Dev.twPart_kept (part : TwPart) (d : Dev) : (d.twPart part).kept = d.kept := by
  cases part with
  | address => rfl
  | write bytes => simp [Dev.twPart]
  | read count => simp [Dev.twPart]

/-! ## Errors and the halt -/

@[simp] theorem Dev.halt_straps (tHot : Int) (d : Dev) : (d.halt tHot).kept.straps = d.kept.straps := by
  unfold Dev.halt; split <;> simp

@[simp] theorem Dev.recordError_straps (e : ErrIn) (d : Dev) : (d.recordError e).kept.straps = d.kept.straps := by
  unfold Dev.recordError; split <;> rfl

@[simp] theorem Dev.errorsArrive_straps (errs : List ErrIn) (tHot : Int) (d : Dev) :
    (d.errorsArrive errs tHot).kept.straps = d.kept.straps := by
  unfold Dev.errorsArrive
  split
  · rfl
  · split
    · rfl
    · rw [Dev.onlyIf_keeps Kept.straps _ (Dev.halt_straps tHot), Dev.poison_kept,
        foldl_keeps (fun d : Dev => d.kept.straps) _ (fun d e => Dev.recordError_straps e d), Dev.recordError_straps]

@[simp] theorem Dev.chipFault_straps (cls addr : Nat) (d : Dev) : (d.chipFault cls addr).kept.straps = d.kept.straps := by
  simp [Dev.chipFault]

@[simp] theorem Dev.correctable_straps (e : ErrIn) (d : Dev) : (d.correctable e).kept.straps = d.kept.straps := by
  unfold Dev.correctable
  split
  · rfl
  · dsimp only
    rw [Dev.onlyIf_keeps Kept.straps _ (Dev.errorsArrive_straps _ _), Dev.onlyIf_keeps Kept.straps _ (fun d => by simp)]
    simp

@[simp] theorem Dev.correctableArrival_straps (e : ErrIn) (d : Dev) : (d.correctableArrival e).kept.straps = d.kept.straps := by
  unfold Dev.correctableArrival
  split
  · exact Dev.onlyIf_keeps Kept.straps _ (Dev.correctable_straps e) d
  · split
    · exact Dev.onlyIf_keeps Kept.straps _ (fun d => by simp) d
    · rfl

@[simp] theorem Dev.errorArrival_straps (errs : List ErrIn) (tHot : Int) (d : Dev) :
    (d.errorArrival errs tHot).kept.straps = d.kept.straps := by
  unfold Dev.errorArrival
  dsimp only
  split
  · simp
  · rw [Dev.onlyIf_keeps Kept.straps _ (fun d => by simp), Dev.errorsArrive_straps]

/-! ## The rows and commands of Tocsin -/

@[simp] theorem Dev.ackRecord_straps (d : Dev) : d.ackRecord.kept.straps = d.kept.straps := by
  simp [Dev.ackRecord]

@[simp] theorem fltAckBody_straps (q : Req) (d : Dev) : (fltAckBody q d).dev.kept.straps = d.kept.straps := by
  unfold fltAckBody
  refine checked_keeps Kept.straps d _ ?_
  rw [ok_kept, Dev.onlyIf_keeps Kept.straps _ (fun d => by simp), Dev.onlyIf_keeps Kept.straps _ (fun d => by simp),
    Dev.onlyIf_keeps Kept.straps _ Dev.ackRecord_straps]

@[simp] theorem Dev.haltResponder_straps (d : Dev) : d.haltResponder.kept.straps = d.kept.straps := by
  unfold Dev.haltResponder
  split
  · rfl
  · refine Dev.take_keeps Kept.straps _ (fun q e => ?_) d
    split_ifs
    · simp
    · exact Dev.execute_keeps Kept.straps q _ fltAckBody_straps e
    · simp
    · simp

/-! ## The rows that reset, halt or report an error -/

theorem execVddAonBrownOut_straps (dt : Nat) {s t : State} (h : execVddAonBrownOut dt s = .next t) :
    t.dev.kept.straps = s.dev.kept.straps := by
  rw [execVddAonBrownOut, Host.Outcome.next.injEq] at h
  subst h
  simp

theorem execVddCoreBrownOut_straps (dt : Nat) {s t : State} (h : execVddCoreBrownOut dt s = .next t) :
    t.dev.kept.straps = s.dev.kept.straps :=
  State.run_keeps Kept.straps (fun d => by simp) h

theorem execResetNAssert_straps (dt : Nat) {s t : State} (h : execResetNAssert dt s = .next t) :
    t.dev.kept.straps = s.dev.kept.straps :=
  State.run_keeps Kept.straps (fun d => by simp) h

theorem execTestModeChange_straps (dt : Nat) (level : Bool) {s t : State} (h : execTestModeChange dt level s = .next t) :
    t.dev.kept.straps = s.dev.kept.straps :=
  State.run_keeps Kept.straps (fun d => by split <;> simp) h

theorem execFuseReadDone_straps (dt : Nat) (ok : Bool) {s t : State} (h : execFuseReadDone dt ok s = .next t) :
    t.dev.kept.straps = s.dev.kept.straps :=
  State.runIf_keeps Kept.straps (fun d => by split <;> simp) h

theorem execBootPllALock_straps (dt : Nat) (ok : Bool) {s t : State} (h : execBootPllALock dt ok s = .next t) :
    t.dev.kept.straps = s.dev.kept.straps :=
  State.runIf_keeps Kept.straps (fun d => by split <;> simp) h

theorem execBootSramInitDone_straps (dt : Nat) (bad : Option ErrIn) {s t : State} (h : execBootSramInitDone dt bad s = .next t) :
    t.dev.kept.straps = s.dev.kept.straps :=
  State.runIf_keeps Kept.straps (fun d => by split <;> simp) h

theorem execBootRomCheckDone_straps (dt : Nat) (ok : Bool) {s t : State} (h : execBootRomCheckDone dt ok s = .next t) :
    t.dev.kept.straps = s.dev.kept.straps :=
  State.runIf_keeps Kept.straps (fun d => by split <;> simp) h

theorem execRefclkLoss_straps (dt sinceEdge : Nat) {s t : State} (h : execRefclkLoss dt sinceEdge s = .next t) :
    t.dev.kept.straps = s.dev.kept.straps :=
  State.run_keeps Kept.straps (fun d => by
    dsimp only
    split
    · simp
    · split <;> simp) h

theorem execThermalShutdown_straps (dt : Nat) (sensors : List Nat) (tHot : Int) {s t : State}
    (h : execThermalShutdown dt sensors tHot s = .next t) : t.dev.kept.straps = s.dev.kept.straps :=
  State.run_keeps Kept.straps (fun d => by simp) h

theorem execSysResetTakesEffect_straps (dt : Nat) {s t : State} (h : execSysResetTakesEffect dt s = .next t) :
    t.dev.kept.straps = s.dev.kept.straps :=
  State.runIf_keeps Kept.straps (fun d => by
    split
    · rfl
    · split <;> simp) h

theorem execSpiCmdPush_straps (dt : Nat) (bytes : List Byte) {s t : State} (h : execSpiCmdPush dt bytes s = .next t) :
    t.dev.kept.straps = s.dev.kept.straps :=
  State.runIf_keeps Kept.straps (fun d => by dsimp only; (repeat' split) <;> simp) h

theorem execTwPointerWrite_straps (dt : Nat) (bytes : List Byte) {s t : State} (h : execTwPointerWrite dt bytes s = .next t) :
    t.dev.kept.straps = s.dev.kept.straps :=
  State.runIf_keeps Kept.straps (fun d => by simp) h

theorem execTwCommandMailboxWrite_straps (dt : Nat) (bytes : List Byte) {s t : State} (h : execTwCommandMailboxWrite dt bytes s = .next t) :
    t.dev.kept.straps = s.dev.kept.straps :=
  State.runIf_keeps Kept.straps (fun d => by simp) h

theorem execTwTargetTimeout_straps (dt : Nat) (sdaHeld : Bool) (part : TwPart) {s t : State}
    (h : execTwTargetTimeout dt sdaHeld part s = .next t) : t.dev.kept.straps = s.dev.kept.straps :=
  State.runIf_keeps Kept.straps (fun d => by simp) h

theorem execFuseProgrammingDone_straps (dt : Nat) (setBits givenUp : List Byte) (stopped : Bool) {s t : State}
    (h : execFuseProgrammingDone dt setBits givenUp stopped s = .next t) : t.dev.kept.straps = s.dev.kept.straps :=
  State.runIf_keeps Kept.straps (fun d => by split <;> simp) h

theorem execPllALockLoss_straps (dt : Nat) {s t : State} (h : execPllALockLoss dt s = .next t) :
    t.dev.kept.straps = s.dev.kept.straps :=
  State.runIf_keeps Kept.straps (fun d => by simp) h

theorem execPlldLiveLockLoss_straps (dt : Nat) {s t : State} (h : execPlldLiveLockLoss dt s = .next t) :
    t.dev.kept.straps = s.dev.kept.straps :=
  State.runIf_keeps Kept.straps (fun d => by simp) h

theorem execPllFLockLoss_straps (dt : Nat) {s t : State} (h : execPllFLockLoss dt s = .next t) :
    t.dev.kept.straps = s.dev.kept.straps :=
  State.runIf_keeps Kept.straps (fun d => by simp) h

theorem execHandshakeTimeout_straps (dt crossing farRegion region block held stalled : Nat) {s t : State}
    (h : execHandshakeTimeout dt crossing farRegion region block held stalled s = .next t) : t.dev.kept.straps = s.dev.kept.straps :=
  State.runIf_keeps Kept.straps (fun d => by simp) h

theorem execTocsinErrorArrival_straps (dt : Nat) (errs : List ErrIn) (tHot : Int) {s t : State}
    (h : execTocsinErrorArrival dt errs tHot s = .next t) : t.dev.kept.straps = s.dev.kept.straps :=
  State.run_keeps Kept.straps (fun d => by simp) h

theorem execCorrectableError_straps (dt : Nat) (err : ErrIn) {s t : State} (h : execCorrectableError dt err s = .next t) :
    t.dev.kept.straps = s.dev.kept.straps :=
  State.run_keeps Kept.straps (fun d => by simp) h

theorem execWatchdogExpiry_straps (dt region block : Nat) {s t : State} (h : execWatchdogExpiry dt region block s = .next t) :
    t.dev.kept.straps = s.dev.kept.straps :=
  State.runIf_keeps Kept.straps (fun d => by simp) h

theorem execLockstepMismatch_straps (dt fetchAddr : Nat) {s t : State} (h : execLockstepMismatch dt fetchAddr s = .next t) :
    t.dev.kept.straps = s.dev.kept.straps :=
  State.run_keeps Kept.straps (fun d => by simp) h

theorem execBusTimeout_straps (dt region block master access addr : Nat) {s t : State}
    (h : execBusTimeout dt region block master access addr s = .next t) : t.dev.kept.straps = s.dev.kept.straps :=
  State.run_keeps Kept.straps (fun d => by simp) h

theorem execHeartbeatTimeout_straps (dt : Nat) {s t : State} (h : execHeartbeatTimeout dt s = .next t) :
    t.dev.kept.straps = s.dev.kept.straps :=
  State.runIf_keeps Kept.straps (fun d => by simp) h

theorem execInjectionMissed_straps (dt : Nat) {s t : State} (h : execInjectionMissed dt s = .next t) :
    t.dev.kept.straps = s.dev.kept.straps :=
  State.runIf_keeps Kept.straps (fun d => by
    split
    · rfl
    · exact Dev.onlyIf_keeps Kept.straps _ (fun e => by simp) d) h

theorem execHaltResponderPacket_straps (dt : Nat) {s t : State} (h : execHaltResponderPacket dt s = .next t) :
    t.dev.kept.straps = s.dev.kept.straps :=
  State.runIf_keeps Kept.straps (fun d => by simp) h

theorem execFltAck_straps (dt : Nat) {s t : State} (h : execFltAck dt s = .next t) : t.dev.kept.straps = s.dev.kept.straps :=
  State.runIf_keeps Kept.straps (Dev.command_keeps Kept.straps _ fltAckBody_straps) h

/-! ## Every row -/

theorem execTwArbLost_kept (dt byteNo bitNo : Nat) (rdData : List Byte) {s t : State} (h : execTwArbLost dt byteNo bitNo rdData s = .next t) :
    t.dev.kept = s.dev.kept :=
  State.runIf_kept (fun d => by dsimp only; split <;> simp [Dev.onlyIf]) h

theorem execReservedOpcode_kept (dt : Nat) {s t : State} (h : execReservedOpcode dt s = .next t) : t.dev.kept = s.dev.kept := by
  unfold execReservedOpcode at h
  dsimp only at h
  split at h
  · split at h
    · exact State.run_kept (fun d => rfl) h
    · split at h
      · cases h
      · exact State.run_kept (Dev.reservedOpcode_kept _) h
  · exact State.run_kept (fun d => rfl) h

/-- The rows that may change the fuses, the record or the halt, or sample the straps: STRAP_SAMPLING, the resets, the packets that may
wake the device, the end of a programming of fuses, FLT_ACK, also from the halt responder, and the rows that report an error. -/
def mayChangeKept : Instr → Bool
  | .vddAonBrownOut _ | .vddCoreBrownOut _ | .resetNAssert _ | .testModeChange _ _ | .strapSampling _ _ _
  | .fuseReadDone _ _ | .bootPllALock _ _ | .bootSramInitDone _ _ | .bootRomCheckDone _ _ | .refclkLoss _ _
  | .thermalShutdown _ _ _ | .sysResetTakesEffect _ | .spiCmdPush _ _ | .twPointerWrite _ _
  | .twCommandMailboxWrite _ _ | .twTargetTimeout _ _ _ | .fuseProgrammingDone _ _ _ _ | .pllALockLoss _
  | .plldLiveLockLoss _ | .pllFLockLoss _ | .handshakeTimeout _ _ _ _ _ _ _ | .tocsinErrorArrival _ _ _
  | .correctableError _ _ | .watchdogExpiry _ _ _ | .lockstepMismatch _ _ | .busTimeout _ _ _ _ _ _
  | .heartbeatTimeout _ | .injectionMissed _ | .haltResponderPacket _ | .fltAck _ => true
  | _ => false

/-- Every other row leaves the fuses, the straps, the record and the halt alone. -/
theorem exec_kept {c : Instr} {s t : State} (hc : mayChangeKept c = false) (h : exec c s = .next t) : t.dev.kept = s.dev.kept := by
  cases c with
  | powerOn dt => exact execPowerOn_kept dt h
  | resetNRelease dt => exact execResetNRelease_kept dt h
  | bootDone dt => exact execBootDone_kept dt h
  | refclkRestoredInReset dt => exact execRefclkRestoredInReset_kept dt h
  | thermalWarning dt tHot tAvg => exact execThermalWarning_kept dt tHot tAvg h
  | fuseEnChange dt level vppOk => exact execFuseEnChange_kept dt level vppOk h
  | sysInfo dt => exact execSysInfo_kept dt h
  | sysPower dt => exact execSysPower_kept dt h
  | sysPatchLoad dt => exact execSysPatchLoad_kept dt h
  | sysReset dt => exact execSysReset_kept dt h
  | propSet dt => exact execPropSet_kept dt h
  | propGet dt => exact execPropGet_kept dt h
  | evtRoute dt => exact execEvtRoute_kept dt h
  | sysOwner dt => exact execSysOwner_kept dt h
  | sysTemp dt tHot tAvg => exact execSysTemp_kept dt tHot tAvg h
  | reservedOpcode dt => exact execReservedOpcode_kept dt h
  | sleepEntry dt => exact execSleepEntry_kept dt h
  | spiRspPull dt clocked => exact execSpiRspPull_kept dt clocked h
  | spiEvtPull dt clocked => exact execSpiEvtPull_kept dt clocked h
  | spiDataPull dt queue clocked => exact execSpiDataPull_kept dt queue clocked h
  | spiFastStatus dt => exact execSpiFastStatus_kept dt h
  | spiUnknownInstruction dt code => exact execSpiUnknownInstruction_kept dt code h
  | registerWrite dt port addr values => exact execRegisterWrite_kept dt port addr values h
  | irqStatusWrite dt port reg value => exact execIrqStatusWrite_kept dt port reg value h
  | sysStatusClear dt port value => exact execSysStatusClear_kept dt port value h
  | twStatusClear dt port value => exact execTwStatusClear_kept dt port value h
  | twCfgWrite dt port value => exact execTwCfgWrite_kept dt port value h
  | tocsinTimeLoRead dt addr count => exact execTocsinTimeLoRead_kept dt addr count h
  | twMirrorRead dt count => exact execTwMirrorRead_kept dt count h
  | twPendingPacketEntersQ2 dt => exact execTwPendingPacketEntersQ2_kept dt h
  | twMailboxStatusRead dt count => exact execTwMailboxStatusRead_kept dt count h
  | twReplyMailboxRead dt count => exact execTwReplyMailboxRead_kept dt count h
  | twEventMailboxRead dt count => exact execTwEventMailboxRead_kept dt count h
  | twAlertResponse dt lostAt => exact execTwAlertResponse_kept dt lostAt h
  | twcXfer dt => exact execTwcXfer_kept dt h
  | twcRecover dt => exact execTwcRecover_kept dt h
  | twcStatus dt => exact execTwcStatus_kept dt h
  | twcAttemptStart dt linesHigh => exact execTwcAttemptStart_kept dt linesHigh h
  | twcBusFreeTimeout dt => exact execTwcBusFreeTimeout_kept dt h
  | twArbLost dt byteNo bitNo rdData => exact execTwArbLost_kept dt byteNo bitNo rdData h
  | twcTransferEnd dt result wrDone rdData => exact execTwcTransferEnd_kept dt result wrDone rdData h
  | twcSclLowTimeout dt wrDone rdData => exact execTwcSclLowTimeout_kept dt wrDone rdData h
  | twRecoveryDone dt pulses released => exact execTwRecoveryDone_kept dt pulses released h
  | twRecoverySclTimeout dt => exact execTwRecoverySclTimeout_kept dt h
  | replyQueueWaitTimeout dt => exact execReplyQueueWaitTimeout_kept dt h
  | secNonce dt => exact execSecNonce_kept dt h
  | secFuseRead dt => exact execSecFuseRead_kept dt h
  | secFuseProgram dt => exact execSecFuseProgram_kept dt h
  | secDebugUnlock dt => exact execSecDebugUnlock_kept dt h
  | clkAudio dt => exact execClkAudio_kept dt h
  | clkSpurPlan dt => exact execClkSpurPlan_kept dt h
  | clkStatus dt => exact execClkStatus_kept dt h
  | pllAudLockLoss dt => exact execPllAudLockLoss_kept dt h
  | plldIdleLock dt => exact execPlldIdleLock_kept dt h
  | plldLockAttemptTimeout dt => exact execPlldLockAttemptTimeout_kept dt h
  | handshakeQuietPoint dt => exact execHandshakeQuietPoint_kept dt h
  | audioRefEdgeFault dt gap => exact execAudioRefEdgeFault_kept dt gap h
  | audioRefLost dt gap offset => exact execAudioRefLost_kept dt gap offset h
  | audioRefValid dt edges worst => exact execAudioRefValid_kept dt edges worst h
  | audioPllPhaseLock dt offset => exact execAudioPllPhaseLock_kept dt offset h
  | audioPllLocked dt offset => exact execAudioPllLocked_kept dt offset h
  | audioPllRelockTimeout dt => exact execAudioPllRelockTimeout_kept dt h
  | roundBoundary dt inp => exact execRoundBoundary_kept dt inp h
  | traversePlanFreeze dt => exact execTraversePlanFreeze_kept dt h
  | pagerRestore dt ctx => exact execPagerRestore_kept dt ctx h
  | pagerPark dt ctx => exact execPagerPark_kept dt ctx h
  | dwellEnd dt ctx => exact execDwellEnd_kept dt ctx h
  | noResourceStarvation dt => exact execNoResourceStarvation_kept dt h
  | ctxOpen dt => exact execCtxOpen_kept dt h
  | ctxClose dt => exact execCtxClose_kept dt h
  | ctxConfig dt => exact execCtxConfig_kept dt h
  | ctxStatus dt => exact execCtxStatus_kept dt h
  | ctxTune dt => exact execCtxTune_kept dt h
  | ctxSuspend dt => exact execCtxSuspend_kept dt h
  | ctxResume dt => exact execCtxResume_kept dt h
  | ctxHandover dt => exact execCtxHandover_kept dt h
  | resStatus dt => exact execResStatus_kept dt h
  | feInput dt tAvg => exact execFeInput_kept dt tAvg h
  | feAgc dt => exact execFeAgc_kept dt h
  | feXamp dt => exact execFeXamp_kept dt h
  | feDiag dt => exact execFeDiag_kept dt h
  | feLband dt => exact execFeLband_kept dt h
  | agcWindowEnd dt input codes detMain detLb => exact execAgcWindowEnd_kept dt input codes detMain detLb h
  | auxAdcSample dt input mv => exact execAuxAdcSample_kept dt input mv h
  | xampInrushExpiry dt input => exact execXampInrushExpiry_kept dt input h
  | xampSettleExpiry dt input => exact execXampSettleExpiry_kept dt input h
  | xampEepromReadDone dt result bytes => exact execXampEepromReadDone_kept dt result bytes h
  | xampOffDelayExpiry dt input => exact execXampOffDelayExpiry_kept dt input h
  | xampRetryWaitExpiry dt input => exact execXampRetryWaitExpiry_kept dt input h
  | syn0Lock dt => exact execSyn0Lock_kept dt h
  | syn0LockLoss dt => exact execSyn0LockLoss_kept dt h
  | syn0ReacquireTimeout dt => exact execSyn0ReacquireTimeout_kept dt h
  | calRun dt => exact execCalRun_kept dt h
  | calRead dt => exact execCalRead_kept dt h
  | calWrite dt tAvg => exact execCalWrite_kept dt tAvg h
  | synTableRead dt => exact execSynTableRead_kept dt h
  | synTableWrite dt tAvg => exact execSynTableWrite_kept dt tAvg h
  | calPassEnd dt input trims codes tAvg => exact execCalPassEnd_kept dt input trims codes tAvg h
  | calApplyDone dt input => exact execCalApplyDone_kept dt input h
  | syn0SearchEnd dt band cap tAvg => exact execSyn0SearchEnd_kept dt band cap tAvg h
  | calTemperatureCheck dt tAvg => exact execCalTemperatureCheck_kept dt tAvg h
  | syn1ChannelCalDone dt ok band cap tAvg => exact execSyn1ChannelCalDone_kept dt ok band cap tAvg h
  | surveyCycleBoundary dt => exact execSurveyCycleBoundary_kept dt h
  | surveyVisitEnd dt seg => exact execSurveyVisitEnd_kept dt seg h
  | surveyCfg dt => exact execSurveyCfg_kept dt h
  | surveyRead dt => exact execSurveyRead_kept dt h
  | coefLoad dt => exact execCoefLoad_kept dt h
  | slotStatus dt => exact execSlotStatus_kept dt h
  | slotPin dt => exact execSlotPin_kept dt h
  | nbWindowEnd dt ctx => exact execNbWindowEnd_kept dt ctx h
  | amCoarseSearchDone dt ctx => exact execAmCoarseSearchDone_kept dt ctx h
  | nbCfg dt => exact execNbCfg_kept dt h
  | nbMetrics dt => exact execNbMetrics_kept dt h
  | rdsBlockDecoded dt ctx stream => exact execRdsBlockDecoded_kept dt ctx stream h
  | rdsGroupComplete dt ctx stream => exact execRdsGroupComplete_kept dt ctx stream h
  | rdsCfg dt => exact execRdsCfg_kept dt h
  | rdsStatus dt => exact execRdsStatus_kept dt h
  | dabNullDetected dt inst => exact execDabNullDetected_kept dt inst h
  | dabPrsProcessed dt inst => exact execDabPrsProcessed_kept dt inst h
  | dabFibDecoded dt inst good bytes figs => exact execDabFibDecoded_kept dt inst good bytes figs h
  | dabDatabaseComplete dt inst => exact execDabDatabaseComplete_kept dt inst h
  | dabCifDecoded dt ctx cif bytes ber => exact execDabCifDecoded_kept dt ctx cif bytes ber h
  | dabLayer2Frame dt ctx headerOk => exact execDabLayer2Frame_kept dt ctx headerOk h
  | dabSuperframe dt ctx pass corrected failed aus => exact execDabSuperframe_kept dt ctx pass corrected failed aus h
  | dabPacketDataGroup dt ctx addr xpad crc bytes => exact execDabPacketDataGroup_kept dt ctx addr xpad crc bytes h
  | dabSyncLoss dt inst => exact execDabSyncLoss_kept dt inst h
  | dabAnnouncementTimeout dt => exact execDabAnnouncementTimeout_kept dt h
  | dabEnsemble dt => exact execDabEnsemble_kept dt h
  | dabServiceSelect dt => exact execDabServiceSelect_kept dt h
  | dabFicDump dt => exact execDabFicDump_kept dt h
  | dabMetrics dt => exact execDabMetrics_kept dt h
  | drmModeFound dt ctx => exact execDrmModeFound_kept dt ctx h
  | drmFrequencyFound dt ctx => exact execDrmFrequencyFound_kept dt ctx h
  | drmFrameFound dt ctx => exact execDrmFrameFound_kept dt ctx h
  | drmFacDecoded dt ctx good fac => exact execDrmFacDecoded_kept dt ctx good fac h
  | drmSdcDecoded dt ctx good sdc => exact execDrmSdcDecoded_kept dt ctx good sdc h
  | drmMscFrameDecoded dt ctx => exact execDrmMscFrameDecoded_kept dt ctx h
  | drmAudioSuperframe dt ctx headerOk aus => exact execDrmAudioSuperframe_kept dt ctx headerOk aus h
  | drmTextMessageComplete dt ctx toggle bytes => exact execDrmTextMessageComplete_kept dt ctx toggle bytes h
  | drmDataUnit dt ctx crcOk bytes => exact execDrmDataUnit_kept dt ctx crcOk bytes h
  | drmSyncLoss dt ctx => exact execDrmSyncLoss_kept dt ctx h
  | drmAlarmSdcTimeout dt => exact execDrmAlarmSdcTimeout_kept dt h
  | drmCfg dt => exact execDrmCfg_kept dt h
  | drmServiceSelect dt => exact execDrmServiceSelect_kept dt h
  | drmMetrics dt => exact execDrmMetrics_kept dt h
  | cmbCfg dt => exact execCmbCfg_kept dt h
  | cmbStatus dt => exact execCmbStatus_kept dt h
  | fbChangedReport dt => exact execFbChangedReport_kept dt h
  | fbQuery dt => exact execFbQuery_kept dt h
  | fbPut dt => exact execFbPut_kept dt h
  | fbDrop dt => exact execFbDrop_kept dt h
  | fbExport dt => exact execFbExport_kept dt h
  | fbImport dt => exact execFbImport_kept dt h
  | followCfg dt => exact execFollowCfg_kept dt h
  | followStatus dt => exact execFollowStatus_kept dt h
  | followEvaluation dt prog => exact execFollowEvaluation_kept dt prog h
  | followAlignMeasurement dt prog => exact execFollowAlignMeasurement_kept dt prog h
  | followAlignTimeout dt prog => exact execFollowAlignTimeout_kept dt prog h
  | followPartnerReady dt prog => exact execFollowPartnerReady_kept dt prog h
  | fadeEnd dt prog => exact execFadeEnd_kept dt prog h
  | audioFrameDecoded dt ctx bad rate layout pcm => exact execAudioFrameDecoded_kept dt ctx bad rate layout pcm h
  | progRoute dt => exact execProgRoute_kept dt h
  | portCfg dt => exact execPortCfg_kept dt h
  | portRun dt => exact execPortRun_kept dt h
  | spdifCfg dt => exact execSpdifCfg_kept dt h
  | progLevel dt => exact execProgLevel_kept dt h
  | blendCfg dt => exact execBlendCfg_kept dt h
  | audioStatus dt => exact execAudioStatus_kept dt h
  | portFaultFrame dt leader kind => exact execPortFaultFrame_kept dt leader kind h
  | portFaultClear dt leader => exact execPortFaultClear_kept dt leader h
  | portSlaveClockLost dt port gap faults offset => exact execPortSlaveClockLost_kept dt port gap faults offset h
  | portSlaveClockValid dt port frames bclks worst => exact execPortSlaveClockValid_kept dt port frames bclks worst h
  | portStopComplete dt output => exact execPortStopComplete_kept dt output h
  | spdifInLost dt gap errors offset => exact execSpdifInLost_kept dt gap errors offset h
  | spdifInValid dt frames errors offset => exact execSpdifInValid_kept dt frames errors offset h
  | queueCfg dt => exact execQueueCfg_kept dt h
  | queueBind dt => exact execQueueBind_kept dt h
  | queueStatus dt => exact execQueueStatus_kept dt h
  | queueFlush dt => exact execQueueFlush_kept dt h
  | motDataGroup dt ctx typ tid seg last bytes entries => exact execMotDataGroup_kept dt ctx typ tid seg last bytes entries h
  | motObjectTimeout dt => exact execMotObjectTimeout_kept dt h
  | watchList dt tAvg => exact execWatchList_kept dt tAvg h
  | watchEnter dt => exact execWatchEnter_kept dt h
  | watchStatus dt => exact execWatchStatus_kept dt h
  | watchEntryBoundary dt => exact execWatchEntryBoundary_kept dt h
  | watchEntered dt tAvg => exact execWatchEntered_kept dt tAvg h
  | watchHopComplete dt => exact execWatchHopComplete_kept dt h
  | watchLevelMeasured dt level tAvg => exact execWatchLevelMeasured_kept dt level tAvg h
  | watchNoSyncTimeout dt tAvg => exact execWatchNoSyncTimeout_kept dt tAvg h
  | watchDwellEnd dt seen tAvg => exact execWatchDwellEnd_kept dt seen tAvg h
  | watchAlarmStateChange dt seen => exact execWatchAlarmStateChange_kept dt seen h
  | syn1LockLoss dt tAvg => exact execSyn1LockLoss_kept dt tAvg h
  | watchExitComplete dt => exact execWatchExitComplete_kept dt h
  | clPort dt => exact execClPort_kept dt h
  | clJoin dt => exact execClJoin_kept dt h
  | clLeave dt => exact execClLeave_kept dt h
  | clStreamOpen dt => exact execClStreamOpen_kept dt h
  | clStreamClose dt => exact execClStreamClose_kept dt h
  | clTopology dt => exact execClTopology_kept dt h
  | clRemote dt => exact execClRemote_kept dt h
  | clTime dt => exact execClTime_kept dt h
  | pllFLock dt => exact execPllFLock_kept dt h
  | clPortLinked dt port groups => exact execClPortLinked_kept dt port groups h
  | clSyncLost dt port errors groups => exact execClSyncLost_kept dt port errors groups h
  | clSignalLost dt port below => exact execClSignalLost_kept dt port below h
  | helloSend dt port => exact execHelloSend_kept dt port h
  | helloFrame dt port bytes => exact execHelloFrame_kept dt port bytes h
  | tollFrame dt port x bytes => exact execTollFrame_kept dt port x bytes h
  | pealFrame dt port x bytes => exact execPealFrame_kept dt port x bytes h
  | leaveFrame dt port x bytes => exact execLeaveFrame_kept dt port x bytes h
  | streamFrame dt port x bytes => exact execStreamFrame_kept dt port x bytes h
  | bundleFrame dt port x bytes => exact execBundleFrame_kept dt port x bytes h
  | remoteCmdFrame dt port x bytes => exact execRemoteCmdFrame_kept dt port x bytes h
  | remoteAckFrame dt port x bytes => exact execRemoteAckFrame_kept dt port x bytes h
  | remoteReplyFrame dt port x bytes => exact execRemoteReplyFrame_kept dt port x bytes h
  | replyAckFrame dt port x bytes => exact execReplyAckFrame_kept dt port x bytes h
  | reservedFrame dt port x bytes => exact execReservedFrame_kept dt port x bytes h
  | fabricSlotStart dt => exact execFabricSlotStart_kept dt h
  | announcePealSend dt => exact execAnnouncePealSend_kept dt h
  | discoveryQuietEnd dt => exact execDiscoveryQuietEnd_kept dt h
  | topologyRefresh dt => exact execTopologyRefresh_kept dt h
  | routeTableApply dt => exact execRouteTableApply_kept dt h
  | remoteCmdRetryTimeout dt rseq => exact execRemoteCmdRetryTimeout_kept dt rseq h
  | remoteReplyRetryTimeout dt device rseq => exact execRemoteReplyRetryTimeout_kept dt device rseq h
  | clStreamOpenTimeout dt => exact execClStreamOpenTimeout_kept dt h
  | streamReleaseRepeat dt stream => exact execStreamReleaseRepeat_kept dt stream h
  | slotGrantApply dt => exact execSlotGrantApply_kept dt h
  | clDuplicateReport dt => exact execClDuplicateReport_kept dt h
  | clPortDriftSuspect dt port => exact execClPortDriftSuspect_kept dt port h
  | clTollLoss dt => exact execClTollLoss_kept dt h
  | clHoldoverMaxExpiry dt => exact execClHoldoverMaxExpiry_kept dt h
  | faultCorrectedReport dt => exact execFaultCorrectedReport_kept dt h
  | heartbeat dt => exact execHeartbeat_kept dt h
  | aliveToggle dt => exact execAliveToggle_kept dt h
  | fltRead dt => exact execFltRead_kept dt h
  | fltInject dt => exact execFltInject_kept dt h
  | fltPolicy dt => exact execFltPolicy_kept dt h
  | vddCoreBrownOutRelease dt => exact execVddCoreBrownOutRelease_kept dt h
  | rdsBitLockChange dt ctx stream => exact execRdsBitLockChange_kept dt ctx stream h
  | jtagInstruction dt code => exact execJtagInstruction_kept dt code h
  | ioBankSupplyChange dt bank inRange is33 => exact execIoBankSupplyChange_kept dt bank inRange is33 h
  | portGroupBackInStep dt leader frames => exact execPortGroupBackInStep_kept dt leader frames h
  | twBusStartStop dt isStop => exact execTwBusStartStop_kept dt isStop h
  | _ => cases hc

/-- Of the rows that `exec_kept` leaves out, STRAP_SAMPLING alone changes the straps. -/
theorem exec_straps_of_mayChangeKept {c : Instr} {s t : State} (hc : mayChangeKept c = true) (hs : ∀ dt h a, c ≠ .strapSampling dt h a)
    (h : exec c s = .next t) : t.dev.kept.straps = s.dev.kept.straps := by
  cases c with
  | vddAonBrownOut dt => exact execVddAonBrownOut_straps dt h
  | vddCoreBrownOut dt => exact execVddCoreBrownOut_straps dt h
  | resetNAssert dt => exact execResetNAssert_straps dt h
  | testModeChange dt level => exact execTestModeChange_straps dt level h
  | strapSampling dt hostSel twAddr => exact absurd rfl (hs dt hostSel twAddr)
  | fuseReadDone dt ok => exact execFuseReadDone_straps dt ok h
  | bootPllALock dt ok => exact execBootPllALock_straps dt ok h
  | bootSramInitDone dt bad => exact execBootSramInitDone_straps dt bad h
  | bootRomCheckDone dt ok => exact execBootRomCheckDone_straps dt ok h
  | refclkLoss dt sinceEdge => exact execRefclkLoss_straps dt sinceEdge h
  | thermalShutdown dt sensors tHot => exact execThermalShutdown_straps dt sensors tHot h
  | sysResetTakesEffect dt => exact execSysResetTakesEffect_straps dt h
  | spiCmdPush dt bytes => exact execSpiCmdPush_straps dt bytes h
  | twPointerWrite dt bytes => exact execTwPointerWrite_straps dt bytes h
  | twCommandMailboxWrite dt bytes => exact execTwCommandMailboxWrite_straps dt bytes h
  | twTargetTimeout dt sdaHeld part => exact execTwTargetTimeout_straps dt sdaHeld part h
  | fuseProgrammingDone dt setBits givenUp stopped => exact execFuseProgrammingDone_straps dt setBits givenUp stopped h
  | pllALockLoss dt => exact execPllALockLoss_straps dt h
  | plldLiveLockLoss dt => exact execPlldLiveLockLoss_straps dt h
  | pllFLockLoss dt => exact execPllFLockLoss_straps dt h
  | handshakeTimeout dt crossing farRegion region block held stalled =>
    exact execHandshakeTimeout_straps dt crossing farRegion region block held stalled h
  | tocsinErrorArrival dt errs tHot => exact execTocsinErrorArrival_straps dt errs tHot h
  | correctableError dt err => exact execCorrectableError_straps dt err h
  | watchdogExpiry dt region block => exact execWatchdogExpiry_straps dt region block h
  | lockstepMismatch dt fetchAddr => exact execLockstepMismatch_straps dt fetchAddr h
  | busTimeout dt region block master access addr => exact execBusTimeout_straps dt region block master access addr h
  | heartbeatTimeout dt => exact execHeartbeatTimeout_straps dt h
  | injectionMissed dt => exact execInjectionMissed_straps dt h
  | haltResponderPacket dt => exact execHaltResponderPacket_straps dt h
  | fltAck dt => exact execFltAck_straps dt h
  | _ => cases hc

/-- The straps hold through every row but STRAP_SAMPLING. -/
theorem exec_straps {c : Instr} {s t : State} (hs : ∀ dt h a, c ≠ .strapSampling dt h a) (h : exec c s = .next t) :
    t.dev.kept.straps = s.dev.kept.straps := by
  cases hc : mayChangeKept c with
  | false => exact congrArg Kept.straps (exec_kept hc h)
  | true => exact exec_straps_of_mayChangeKept hc hs h

/-- STRAP_SAMPLING in a boot that does not sample only lets its time pass. -/
theorem execStrapSampling_of_not_sampleStraps {s : State} (dt : Nat) (hostSel : Bool) (twAddr : BitVec 3)
    (hs : s.dev.pwr.sampleStraps = false) : execStrapSampling dt hostSel twAddr s = .next (s.after dt (s.dev.tick dt)) :=
  State.runIf_skip _ (by simp [Dev.samplesStraps, hs])

/-- A SYS_RESET leaves it as it was whether the next boot samples the straps, while RESET_N is high. -/
theorem execSysResetTakesEffect_sampleStraps (dt : Nat) {s t : State} (h : execSysResetTakesEffect dt s = .next t)
    (hr : s.dev.pwr.resetN = true) : t.dev.pwr.sampleStraps = s.dev.pwr.sampleStraps := by
  rw [execSysResetTakesEffect, State.runIf, State.run_next, Host.Outcome.next.injEq] at h
  subst h
  rw [State.after_pwr]
  split
  · split
    · rfl
    · rename_i scope _ _
      have hk : ((if scope = 1 then .restart else .full : ResetKind) == .aonLoss) = false := by split <;> rfl
      split
      · simp [hk, hr]
      · rfl
  · rfl

/-- Settles O6: the straps of `Kept` through each row, and the two rows that sampling turns on. -/
theorem strapsHold : Obligations.StrapsHold := by
  unfold Obligations.StrapsHold
  refine ⟨fun c s t h hs => ?_, fun s t dt hostSel twAddr h hs => ?_, fun s t dt h hr hs => ?_⟩
  · exact (Dev.straps_eq_iff _ _).1 (exec_straps hs h)
  · rw [exec_strapSampling, execStrapSampling_of_not_sampleStraps dt hostSel twAddr hs, Host.Outcome.next.injEq] at h
    subst h
    exact ⟨rfl, rfl⟩
  · exact (execSysResetTakesEffect_sampleStraps dt h hr).trans hs

end Sys2Proof.Machine
end

section
/-!
PROOF. THERMAL_WARNING: one equation per branch of `Dev.setTemps`, and the row that runs it while Izosh runs.
-/
namespace Sys2Proof.Machine

/-- The device with new sensor readings in place and its warning state untouched (03 R98). -/
def Dev.withReadings (tHot tAvg : Int) (d : Dev) : Dev :=
  { d with pwr.tHot := tHot, pwr.tAvg := tAvg, pwr.tMax := max d.pwr.tMax tHot }

/-- The threshold of the thermal warning in the sensors' unit, an eighth of a degree (03 R98, R99). -/
def Dev.warnLimit (d : Dev) : Int := 8 * d.prop P.thermalWarn

/-- Storing readings, in the terms above. -/
theorem Dev.setTemps_eq (tHot tAvg : Int) (d : Dev) : d.setTemps tHot tAvg =
    if !d.pwr.thermal && d.warnLimit ≤ tHot then ({ d.withReadings tHot tAvg with pwr.thermal := true } : Dev).emit 7 []
    else if d.pwr.thermal && tHot ≤ d.warnLimit - 40 then { d.withReadings tHot tAvg with pwr.thermal := false }
    else d.withReadings tHot tAvg := rfl

/-- A warning not yet given rises at its threshold, with event 7. -/
theorem Dev.setTemps_rises {d : Dev} {tHot : Int} (tAvg : Int) (hw : d.pwr.thermal = false) (hh : d.warnLimit ≤ tHot) :
    d.setTemps tHot tAvg = ({ d.withReadings tHot tAvg with pwr.thermal := true } : Dev).emit 7 [] := by
  rw [Dev.setTemps_eq, if_pos (by simp [hw, hh])]

/-- A warning already given re-arms 5 °C, 40 units, below its threshold, with no event. -/
theorem Dev.setTemps_rearms {d : Dev} {tHot : Int} (tAvg : Int) (hw : d.pwr.thermal = true) (hh : tHot ≤ d.warnLimit - 40) :
    d.setTemps tHot tAvg = { d.withReadings tHot tAvg with pwr.thermal := false } := by
  rw [Dev.setTemps_eq, if_neg (by simp [hw]), if_pos (by simp [hw, hh])]

/-- Otherwise, the hysteresis of a warning already given included, only the readings change. -/
theorem Dev.setTemps_holds {d : Dev} {tHot : Int} (tAvg : Int)
    (hh : d.pwr.thermal = true ∧ d.warnLimit - 40 < tHot ∨ d.pwr.thermal = false ∧ tHot < d.warnLimit) :
    d.setTemps tHot tAvg = d.withReadings tHot tAvg := by
  obtain ⟨hw, hh⟩ | ⟨hw, hh⟩ := hh
  · rw [Dev.setTemps_eq, if_neg (by simp [hw]), if_neg (by simp [hw, hh])]
  · rw [Dev.setTemps_eq, if_neg (by simp [hw, hh]), if_neg (by simp [hw])]

/-- While Izosh runs, THERMAL_WARNING stores the readings on the device as it stands once the row's time has passed. -/
theorem exec_thermalWarning_next {s : State} (dt : Nat) (tHot tAvg : Int) (hz : s.dev.izosh = true) :
    exec (.thermalWarning dt tHot tAvg) s = .next (s.after dt ((s.dev.tick dt).setTemps tHot tAvg)) :=
  (exec_thermalWarning ..).trans (State.runIf_next _ hz)

/-- Settles O14: the three branches of `Dev.setTemps`. That the warning's event has no payload is DEDUCED log 21, and that
Izosh reads the sensors only while it runs is DEDUCED log 77. -/
theorem thermalWarning : Obligations.ThermalWarning := by
  unfold Obligations.ThermalWarning
  intro s dt tHot tAvg hz
  refine ⟨fun hw hh => ?rise, fun hw hh => ?rearm, fun hh => ?hold⟩ <;> rw [exec_thermalWarning_next dt tHot tAvg hz]
  case rise => rw [Dev.setTemps_rises (d := s.dev.tick dt) tAvg hw hh]; rfl
  case rearm => rw [Dev.setTemps_rearms (d := s.dev.tick dt) tAvg hw hh]; rfl
  case hold => rw [Dev.setTemps_holds (d := s.dev.tick dt) tAvg hh]; rfl

end Sys2Proof.Machine
end

section
/-!
SUPPORT. What leaves the fuse array and its programming (08 R229-R235), all of `Dev.sec`, as they are: the operations that come
before or after a reset or a halt in the rows that `exec_kept` leaves out.
-/
namespace Sys2Proof.Machine

@[simp] theorem Dev.sec_ite (c : Prop) [Decidable c] (a b : Dev) : (if c then a else b).sec = if c then a.sec else b.sec := by
  split <;> rfl

@[simp] theorem Dev.onlyIf_sec (c : Bool) (f : Dev → Dev) (h : ∀ d, (f d).sec = d.sec) (d : Dev) : (d.onlyIf c f).sec = d.sec := by
  unfold Dev.onlyIf; split <;> simp [h]

/-! ## Events and replies -/

@[simp] theorem Dev.flagSys_sec (m : BitVec 5) (d : Dev) : (d.flagSys m).sec = d.sec := rfl
@[simp] theorem Dev.flagTw_sec (m : BitVec 3) (d : Dev) : (d.flagTw m).sec = d.sec := rfl

@[simp] theorem Dev.raise_sec (src ctx : Nat) (payload : List Byte) (d : Dev) : (d.raise src ctx payload).sec = d.sec := by
  simp [Dev.raise, Dev.queueRecord]

@[simp] theorem Dev.emit_sec (src : Nat) (payload : List Byte) (d : Dev) : (d.emit src payload).sec = d.sec :=
  Dev.raise_sec src 0xFF payload d

@[simp] theorem Dev.putReply_sec (queue : Nat) (bytes : List Byte) (d : Dev) : (d.putReply queue bytes).sec = d.sec := by
  simp [Dev.putReply]

@[simp] theorem Dev.portReply_sec (queue : Nat) (header : List Byte) (st : Status) (d : Dev) :
    (d.portReply queue header st).sec = d.sec := by
  simp [Dev.portReply, Dev.replyDropped]

@[simp] theorem Dev.sendReply_sec (src : Iface) (serial : Nat) (bytes : List Byte) (d : Dev) :
    (d.sendReply src serial bytes).sec = d.sec := by
  cases src <;> simp [Dev.sendReply]

@[simp] theorem Dev.remember_sec (src : Iface) (e : CacheEntry) (d : Dev) : (d.remember src e).sec = d.sec := by
  simp [Dev.remember]

@[simp] theorem Dev.reply_sec (q : Req) (st : Status) (payload : List Byte) (d : Dev) : (d.reply q st payload).sec = d.sec := by
  simp [Dev.reply]

@[simp] theorem Dev.answerLater_sec (st : Status) (payload : List Byte) (d : Dev) : (d.answerLater st payload).sec = d.sec := by
  unfold Dev.answerLater; split <;> simp

@[simp] theorem Dev.pushPacket_sec (bytes : List Byte) (d : Dev) : (d.pushPacket bytes).sec = d.sec := by
  simp [Dev.pushPacket]

/-! ## Boot, halt and errors -/

@[simp] theorem Dev.tryBoot_sec (d : Dev) : d.tryBoot.sec = d.sec := by simp [Dev.tryBoot]
@[simp] theorem Dev.sendLeaves_sec (d : Dev) : d.sendLeaves.sec = d.sec := by simp [Dev.sendLeaves]
@[simp] theorem Dev.fabricHalts_sec (d : Dev) : d.fabricHalts.sec = d.sec := by simp [Dev.fabricHalts, Dev.dropRemote]
@[simp] theorem Dev.ampsOff_sec (d : Dev) : d.ampsOff.sec = d.sec := rfl
@[simp] theorem Dev.inputsHalt_sec (d : Dev) : d.inputsHalt.sec = d.sec := rfl
@[simp] theorem Dev.endTwcForHalt_sec (d : Dev) : d.endTwcForHalt.sec = d.sec := by simp [Dev.endTwcForHalt]
@[simp] theorem Dev.poison_sec (errs : List ErrIn) (d : Dev) : (d.poison errs).sec = d.sec := rfl
@[simp] theorem Dev.logFault_sec (entry : List Byte) (d : Dev) : (d.logFault entry).sec = d.sec := by simp [Dev.logFault]

@[simp] theorem Dev.recordError_sec (e : ErrIn) (d : Dev) : (d.recordError e).sec = d.sec := by
  unfold Dev.recordError; split <;> rfl

@[simp] theorem Dev.injectDone_sec (j : Injection) (result : Nat) (d : Dev) : (d.injectDone j result).sec = d.sec := by
  simp [Dev.injectDone]

/-! ## The two-wire target -/

@[simp] theorem Dev.gpioRelease_sec (d : Dev) : d.gpioRelease.sec = d.sec := by simp [Dev.gpioRelease]

@[simp] theorem Dev.abortTwc_sec (d : Dev) : d.abortTwc.sec = d.sec := by
  unfold Dev.abortTwc; repeat' split
  all_goals rfl

@[simp] theorem Dev.ownedWrite_sec (port : RegPort) (f : Dev → Dev) (d : Dev) (h : ∀ d, (f d).sec = d.sec) :
    (d.ownedWrite port f).sec = d.sec := by
  simp [Dev.ownedWrite, h]

@[simp] theorem Dev.writeTwCfg_sec (v : Word) (d : Dev) : (d.writeTwCfg v).sec = d.sec := by simp [Dev.writeTwCfg]
@[simp] theorem Dev.writeEnable_sec (g : Nat) (v : Word) (d : Dev) : (d.writeEnable g v).sec = d.sec := by
  simp [Dev.writeEnable]

@[simp] theorem Dev.writeReg_sec (port : RegPort) (addr : Nat) (v : Word) (d : Dev) : (d.writeReg port addr v).sec = d.sec := by
  simp [Dev.writeReg, Dev.clearIrq, Dev.clearSys, Dev.clearTw]

@[simp] theorem Dev.mirrorWrite_sec (bytes : List Byte) (p : Nat) (word : List Byte) (d : Dev) :
    (Dev.mirrorWrite bytes p word d).2.sec = d.sec := by
  induction bytes generalizing p word d with
  | nil => rfl
  | cons b rest ih =>
    unfold Dev.mirrorWrite
    dsimp only
    repeat' split
    all_goals simp [ih]

@[simp] theorem Dev.twWritten_sec (bytes : List Byte) (d : Dev) : (d.twWritten bytes).sec = d.sec := by
  unfold Dev.twWritten; split <;> simp

@[simp] theorem Dev.twNack_sec (d : Dev) : d.twNack.sec = d.sec := by simp [Dev.twNack]
@[simp] theorem Dev.twSettled_sec (d : Dev) : d.twSettled.sec = d.sec := rfl
@[simp] theorem Dev.readEffect_sec (addr : Nat) (d : Dev) : (d.readEffect addr).sec = d.sec := by simp [Dev.readEffect]

@[simp] theorem Dev.mirrorBytes_sec (n p : Nat) (latch : Option Word) (d : Dev) : (Dev.mirrorBytes n p latch d).2.sec = d.sec := by
  induction n generalizing p latch d with
  | zero => rfl
  | succ n ih => rw [Dev.mirrorBytes]; dsimp only; split <;> simp [ih]

@[simp] theorem Dev.roomAgain_sec (queue : Nat) (d : Dev) : (d.roomAgain queue).sec = d.sec := by
  unfold Dev.roomAgain; split <;> simp

@[simp] theorem Dev.twReadPart_sec (count : Nat) (d : Dev) : (d.twReadPart count).sec = d.sec := by
  simp [Dev.twReadPart, Dev.mirrorRead, Dev.statusRead, Dev.replyRead, Dev.eventRead, Dev.mailRead]

@[simp] theorem Dev.twPart_sec (part : TwPart) (d : Dev) : (d.twPart part).sec = d.sec := by
  cases part with
  | address => rfl
  | write bytes => simp [Dev.twPart]
  | read count => simp [Dev.twPart]

end Sys2Proof.Machine
end

section
/-!
PROOF. Fuse bits only burn (08 R230). Two operations touch the array: `setFuses`, the end of a programming, and `Dev.dropFuseJob`, the
programming that a reset or halt cuts short. Both OR bits in, and only while a programming is under way.
-/
namespace Sys2Proof.Machine

/-! ## Burning an array -/

/-- Clearing the bits of `b` in `a` leaves none: every bit of `a` is also set in `b`. -/
theorem and_not_eq_zero_iff {a b : Byte} : a &&& ~~~b = 0 ↔ ∀ i (hi : i < 8), a[i] = true → b[i] = true := by
  constructor
  · intro h i hi ha
    have hz := congrArg (BitVec.getLsbD · i) h
    simpa [hi, ha] using hz
  · intro h
    ext i hi
    simpa using h i hi

theorem burntInto_refl (f : List Byte) : burntInto f f := fun n => by simp

theorem burntInto_trans {f g h : List Byte} (hfg : burntInto f g) (hgh : burntInto g h) : burntInto f h := fun n =>
  and_not_eq_zero_iff.2 fun i hi ha => and_not_eq_zero_iff.1 (hgh n) i hi (and_not_eq_zero_iff.1 (hfg n) i hi ha)

/-- ORing bits into a byte, or leaving it alone, keeps the bits that are set. -/
theorem and_not_ite_or (c : Prop) [Decidable c] (b m : Byte) : b &&& ~~~(if c then b ||| m else b) = 0 :=
  and_not_eq_zero_iff.2 fun i hi hb => by split <;> simp [hb]

/-- A change of each byte by its index that keeps the byte's set bits burns the array. -/
theorem burntInto_map_indexed (f : List Byte) {g : Nat × Byte → Byte} (hg : ∀ i b, b &&& ~~~g (i, b) = 0) :
    burntInto f ((indexed f).map g) := by
  intro n
  by_cases hn : n < f.length
  · simp [indexed, List.getD_eq_getElem?_getD, hn, hg]
  · simp [List.getD_eq_getElem?_getD, List.getElem?_eq_none (Nat.le_of_not_lt hn)]

theorem burntInto_setFuses (f : List Byte) (off : Nat) (m : List Byte) : burntInto f (setFuses f off m) :=
  burntInto_map_indexed f fun _ b => and_not_ite_or _ b _

/-! ## Burning as a relation of states -/

/-- A change of fuse state that only burns: no bit returns to 0, and where no programming is under way the array stays and none
begins, so that a further such change leaves the array alone too. -/
structure SecSt.BurnsTo (x y : SecSt) : Prop where
  burnt : burntInto x.fuses y.fuses
  idle : x.job = none → y.fuses = x.fuses ∧ y.job = none

@[simp] theorem SecSt.BurnsTo.refl (x : SecSt) : x.BurnsTo x := ⟨burntInto_refl _, fun h => ⟨rfl, h⟩⟩

theorem SecSt.BurnsTo.trans {x y z : SecSt} (hxy : x.BurnsTo y) (hyz : y.BurnsTo z) : x.BurnsTo z where
  burnt := burntInto_trans hxy.burnt hyz.burnt
  idle hx := by
    obtain ⟨hf, hy⟩ := hxy.idle hx
    obtain ⟨hf', hz⟩ := hyz.idle hy
    exact ⟨hf'.trans hf, hz⟩

/-- What R230 asks of a step, of the fuse state before and after it. -/
def SecSt.OnlyBurns (x y : SecSt) : Prop := burntInto x.fuses y.fuses ∧ (x.job = none → y.fuses = x.fuses)

theorem SecSt.BurnsTo.onlyBurns {x y : SecSt} (h : x.BurnsTo y) : x.OnlyBurns y := ⟨h.burnt, fun hx => (h.idle hx).1⟩

theorem SecSt.onlyBurns_of_fuses_eq {x y : SecSt} (h : y.fuses = x.fuses) : x.OnlyBurns y :=
  ⟨h ▸ burntInto_refl _, fun _ => h⟩

/-! ## Resets and the halt -/

@[simp] theorem Dev.dropFuseJob_burns (d : Dev) : d.sec.BurnsTo d.dropFuseJob.sec := by
  unfold Dev.dropFuseJob
  split
  · exact .refl _
  · rename_i j hj
    exact ⟨burntInto_map_indexed _ fun _ b => and_not_ite_or _ b _, by simp [hj]⟩

/-- A reset keeps the array that the programming cut short leaves, and no programming is under way after it. -/
@[simp] theorem Dev.reset_burns (k : ResetKind) (d : Dev) : d.sec.BurnsTo (d.reset k).sec :=
  d.dropFuseJob_burns.trans ⟨burntInto_refl _, fun _ => ⟨rfl, rfl⟩⟩

@[simp] theorem Dev.halt_burns (tHot : Int) (d : Dev) : d.sec.BurnsTo (d.halt tHot).sec := by
  unfold Dev.halt
  split
  · exact .refl _
  · simpa using (d.setStatus 4).dropFuseJob_burns

theorem Dev.onlyIf_burns (c : Bool) {f : Dev → Dev} (hf : ∀ d : Dev, d.sec.BurnsTo (f d).sec) (d : Dev) :
    d.sec.BurnsTo (d.onlyIf c f).sec := by
  unfold Dev.onlyIf; split <;> simp [hf]

/-! ## Errors -/

/-- Errors are recorded without a change to the fuses; the halt that one of them causes drops a programming. -/
@[simp] theorem Dev.errorsArrive_burns (errs : List ErrIn) (tHot : Int) (d : Dev) : d.sec.BurnsTo (d.errorsArrive errs tHot).sec := by
  unfold Dev.errorsArrive
  split
  · exact .refl _
  · split
    · exact .refl _
    · rename_i first _
      dsimp only
      generalize hd1 : (errs.erase first).foldl (fun d e => d.recordError e) (d.recordError first) = d1
      have hsec : d1.sec = d.sec := by
        rw [← hd1, foldl_keeps Dev.sec _ (fun d e => Dev.recordError_sec e d), Dev.recordError_sec]
      simpa [hsec] using Dev.onlyIf_burns (errs.any d.errorHalts) (Dev.halt_burns tHot) (d1.poison errs)

@[simp] theorem Dev.chipFault_burns (cls addr : Nat) (d : Dev) : d.sec.BurnsTo (d.chipFault cls addr).sec :=
  d.errorsArrive_burns _ _

@[simp] theorem Dev.correctable_burns (e : ErrIn) (d : Dev) : d.sec.BurnsTo (d.correctable e).sec := by
  unfold Dev.correctable
  split
  · exact .refl _
  · dsimp only
    generalize hd2 : Dev.onlyIf (d.toc.policy.logCe && !d.toc.ceLogged.contains e.region) _ _ = d2
    have hsec : d2.sec = d.sec := by
      rw [← hd2, Dev.onlyIf_sec]
      simp
    rw [← hsec]
    exact Dev.onlyIf_burns _ (Dev.errorsArrive_burns _ _) d2

@[simp] theorem Dev.correctableArrival_burns (e : ErrIn) (d : Dev) : d.sec.BurnsTo (d.correctableArrival e).sec := by
  unfold Dev.correctableArrival
  split
  · exact Dev.onlyIf_burns _ (Dev.correctable_burns e) d
  · split
    · exact Dev.onlyIf_burns _ (fun d => by simp) d
    · exact .refl _

@[simp] theorem Dev.errorArrival_burns (errs : List ErrIn) (tHot : Int) (d : Dev) : d.sec.BurnsTo (d.errorArrival errs tHot).sec := by
  unfold Dev.errorArrival
  dsimp only
  split <;> simp

/-! ## Waking from SLEEP -/

@[simp] theorem Dev.wake_burns (src : Iface) (bytes : List Byte) (headerOnly : Bool) (d : Dev) :
    d.sec.BurnsTo (d.wake src bytes headerOnly).sec := by
  rw [Dev.wake, Dev.tryBoot_sec]
  exact Dev.reset_burns .wake { d with pwr.wakeHeld := some (src, bytes), pwr.wakeHeaderOnly := headerOnly }

@[simp] theorem Dev.pushAsleep_burns (bytes : List Byte) (d : Dev) : d.sec.BurnsTo (d.pushAsleep bytes).sec := by
  unfold Dev.pushAsleep
  split_ifs <;> simp

@[simp] theorem Dev.boxRefused_burns (d : Dev) : d.sec.BurnsTo d.boxRefused.sec := by
  unfold Dev.boxRefused
  dsimp only
  split_ifs
  · exact Dev.wake_burns _ _ _ { d with tw.box := [] }
  · simp
  · simp

@[simp] theorem Dev.boxDone_burns (d : Dev) : d.sec.BurnsTo d.boxDone.sec := by
  unfold Dev.boxDone
  dsimp only
  split_ifs
  · simp
  · exact Dev.wake_burns _ _ _ { d with tw.box := [] }
  all_goals simp

@[simp] theorem Dev.twWrite_burns (bytes : List Byte) (d : Dev) : d.sec.BurnsTo (d.twWrite bytes).sec := by
  unfold Dev.twWrite
  split
  · have hr := (d.twWritten bytes).twSettled.boxRefused_burns
    rw [Dev.twSettled_sec, Dev.twWritten_sec] at hr
    exact hr.trans (Dev.boxDone_burns _)
  · simp

/-! ## The rows -/

theorem State.run_onlyBurns {s t : State} {dt : Nat} {f : Dev → Dev} (hf : ∀ d : Dev, d.sec.BurnsTo (f d).sec)
    (h : s.run dt f = .next t) : s.dev.sec.OnlyBurns t.dev.sec := by
  rw [State.run_next, Host.Outcome.next.injEq] at h
  subst h
  exact (hf (s.dev.tick dt)).onlyBurns

theorem State.runIf_onlyBurns {s t : State} {dt : Nat} {c : Dev → Bool} {f : Dev → Dev} (hf : ∀ d : Dev, d.sec.BurnsTo (f d).sec)
    (h : s.runIf dt c f = .next t) : s.dev.sec.OnlyBurns t.dev.sec :=
  State.run_onlyBurns (fun d => by split <;> simp [hf]) h

theorem State.runIf_onlyBurns_of_fuses {s t : State} {dt : Nat} {c : Dev → Bool} {f : Dev → Dev}
    (hf : ∀ d, (f d).kept.fuses = d.kept.fuses) (h : s.runIf dt c f = .next t) : s.dev.sec.OnlyBurns t.dev.sec :=
  SecSt.onlyBurns_of_fuses_eq (State.runIf_keeps Kept.fuses hf h)

theorem execVddAonBrownOut_onlyBurns (dt : Nat) {s t : State} (h : execVddAonBrownOut dt s = .next t) : s.dev.sec.OnlyBurns t.dev.sec := by
  rw [execVddAonBrownOut, Host.Outcome.next.injEq] at h
  subst h
  exact (Dev.reset_burns .aonLoss { s.dev.tick dt with pwr.aonOk := false }).onlyBurns

theorem execVddCoreBrownOut_onlyBurns (dt : Nat) {s t : State} (h : execVddCoreBrownOut dt s = .next t) : s.dev.sec.OnlyBurns t.dev.sec :=
  State.run_onlyBurns (fun d => Dev.chipFault_burns _ _ { d with pwr.coreOk := false }) h

theorem execResetNAssert_onlyBurns (dt : Nat) {s t : State} (h : execResetNAssert dt s = .next t) : s.dev.sec.OnlyBurns t.dev.sec :=
  State.run_onlyBurns (fun d => Dev.reset_burns .resetN { d with pwr.resetN := false }) h

theorem execTestModeChange_onlyBurns (dt : Nat) (level : Bool) {s t : State} (h : execTestModeChange dt level s = .next t) :
    s.dev.sec.OnlyBurns t.dev.sec :=
  State.run_onlyBurns (fun d => by
    split
    · exact Dev.reset_burns .resetN { d with pwr.testMode := true }
    · simp) h

theorem execStrapSampling_onlyBurns (dt : Nat) (hostSel : Bool) (twAddr : BitVec 3) {s t : State}
    (h : execStrapSampling dt hostSel twAddr s = .next t) : s.dev.sec.OnlyBurns t.dev.sec :=
  State.runIf_onlyBurns_of_fuses (fun _ => by rfl) h

theorem execFuseReadDone_onlyBurns (dt : Nat) (ok : Bool) {s t : State} (h : execFuseReadDone dt ok s = .next t) :
    s.dev.sec.OnlyBurns t.dev.sec :=
  State.runIf_onlyBurns (fun d => by
    split
    · exact ⟨burntInto_refl _, fun hj => ⟨rfl, hj⟩⟩
    · simp) h

theorem execBootPllALock_onlyBurns (dt : Nat) (ok : Bool) {s t : State} (h : execBootPllALock dt ok s = .next t) :
    s.dev.sec.OnlyBurns t.dev.sec :=
  State.runIf_onlyBurns (fun d => by split <;> simp) h

theorem execBootSramInitDone_onlyBurns (dt : Nat) (bad : Option ErrIn) {s t : State} (h : execBootSramInitDone dt bad s = .next t) :
    s.dev.sec.OnlyBurns t.dev.sec :=
  State.runIf_onlyBurns (fun d => by split <;> simp) h

theorem execBootRomCheckDone_onlyBurns (dt : Nat) (ok : Bool) {s t : State} (h : execBootRomCheckDone dt ok s = .next t) :
    s.dev.sec.OnlyBurns t.dev.sec :=
  State.runIf_onlyBurns (fun d => by split <;> simp) h

theorem execRefclkLoss_onlyBurns (dt sinceEdge : Nat) {s t : State} (h : execRefclkLoss dt sinceEdge s = .next t) :
    s.dev.sec.OnlyBurns t.dev.sec :=
  State.run_onlyBurns (fun d => by
    dsimp only
    split
    · exact .refl d.sec
    · have hf := Dev.chipFault_burns 0x09 0 (Dev.setStatus 8 { d with pwr.refclk := false, pwr.onRc := true })
      split <;> exact hf) h

theorem execThermalShutdown_onlyBurns (dt : Nat) (sensors : List Nat) (tHot : Int) {s t : State}
    (h : execThermalShutdown dt sensors tHot s = .next t) : s.dev.sec.OnlyBurns t.dev.sec :=
  State.run_onlyBurns (Dev.errorsArrive_burns _ _) h

theorem execSysResetTakesEffect_onlyBurns (dt : Nat) {s t : State} (h : execSysResetTakesEffect dt s = .next t) :
    s.dev.sec.OnlyBurns t.dev.sec :=
  State.runIf_onlyBurns (fun d => by
    split
    · exact .refl d.sec
    · split
      · rw [Dev.tryBoot_sec]
        simpa using d.sendLeaves.ampsOff.reset_burns _
      · exact .refl d.sec) h

theorem execSpiCmdPush_onlyBurns (dt : Nat) (bytes : List Byte) {s t : State} (h : execSpiCmdPush dt bytes s = .next t) :
    s.dev.sec.OnlyBurns t.dev.sec :=
  State.runIf_onlyBurns (fun d => by
    dsimp only
    split_ifs
    · simp
    · simp
    · exact Dev.pushAsleep_burns bytes { d with regs.spiOut := [] }
    · simp) h

theorem execTwPointerWrite_onlyBurns (dt : Nat) (bytes : List Byte) {s t : State} (h : execTwPointerWrite dt bytes s = .next t) :
    s.dev.sec.OnlyBurns t.dev.sec :=
  State.runIf_onlyBurns (Dev.twWrite_burns bytes) h

theorem execTwCommandMailboxWrite_onlyBurns (dt : Nat) (bytes : List Byte) {s t : State}
    (h : execTwCommandMailboxWrite dt bytes s = .next t) : s.dev.sec.OnlyBurns t.dev.sec :=
  State.runIf_onlyBurns (Dev.twWrite_burns bytes) h

theorem execTwTargetTimeout_onlyBurns (dt : Nat) (sdaHeld : Bool) (part : TwPart) {s t : State}
    (h : execTwTargetTimeout dt sdaHeld part s = .next t) : s.dev.sec.OnlyBurns t.dev.sec :=
  State.runIf_onlyBurns (fun d => by simpa using (d.twPart part).twSettled.boxRefused_burns) h

/-- FUSE_PROGRAMMING_DONE: without a programming under way it does nothing, with one it ORs the bits in that read back 1. -/
theorem execFuseProgrammingDone_onlyBurns (dt : Nat) (setBits givenUp : List Byte) (stopped : Bool) {s t : State}
    (h : execFuseProgrammingDone dt setBits givenUp stopped s = .next t) : s.dev.sec.OnlyBurns t.dev.sec :=
  State.runIf_onlyBurns (fun d => by
    split
    · exact .refl d.sec
    · rename_i j hj
      rw [Dev.answerLater_sec]
      exact ⟨burntInto_setFuses _ _ _, by simp [hj]⟩) h

theorem execPllALockLoss_onlyBurns (dt : Nat) {s t : State} (h : execPllALockLoss dt s = .next t) : s.dev.sec.OnlyBurns t.dev.sec :=
  State.runIf_onlyBurns (Dev.chipFault_burns _ _) h

theorem execPlldLiveLockLoss_onlyBurns (dt : Nat) {s t : State} (h : execPlldLiveLockLoss dt s = .next t) :
    s.dev.sec.OnlyBurns t.dev.sec :=
  State.runIf_onlyBurns (fun d => d.chipFault_burns _ _) h

theorem execPllFLockLoss_onlyBurns (dt : Nat) {s t : State} (h : execPllFLockLoss dt s = .next t) : s.dev.sec.OnlyBurns t.dev.sec :=
  State.runIf_onlyBurns (Dev.chipFault_burns _ _) h

theorem execHandshakeTimeout_onlyBurns (dt crossing farRegion region block held stalled : Nat) {s t : State}
    (h : execHandshakeTimeout dt crossing farRegion region block held stalled s = .next t) : s.dev.sec.OnlyBurns t.dev.sec :=
  State.runIf_onlyBurns (fun d => d.errorsArrive_burns _ _) h

theorem execTocsinErrorArrival_onlyBurns (dt : Nat) (errs : List ErrIn) (tHot : Int) {s t : State}
    (h : execTocsinErrorArrival dt errs tHot s = .next t) : s.dev.sec.OnlyBurns t.dev.sec :=
  State.run_onlyBurns (Dev.errorArrival_burns errs tHot) h

theorem execCorrectableError_onlyBurns (dt : Nat) (err : ErrIn) {s t : State} (h : execCorrectableError dt err s = .next t) :
    s.dev.sec.OnlyBurns t.dev.sec :=
  State.run_onlyBurns (Dev.correctableArrival_burns err) h

theorem execWatchdogExpiry_onlyBurns (dt region block : Nat) {s t : State} (h : execWatchdogExpiry dt region block s = .next t) :
    s.dev.sec.OnlyBurns t.dev.sec :=
  State.runIf_onlyBurns (fun d => d.errorsArrive_burns _ _) h

theorem execLockstepMismatch_onlyBurns (dt fetchAddr : Nat) {s t : State} (h : execLockstepMismatch dt fetchAddr s = .next t) :
    s.dev.sec.OnlyBurns t.dev.sec :=
  State.run_onlyBurns (fun d => d.errorsArrive_burns _ _) h

theorem execBusTimeout_onlyBurns (dt region block master access addr : Nat) {s t : State}
    (h : execBusTimeout dt region block master access addr s = .next t) : s.dev.sec.OnlyBurns t.dev.sec :=
  State.run_onlyBurns (fun d => d.errorsArrive_burns _ _) h

theorem execHeartbeatTimeout_onlyBurns (dt : Nat) {s t : State} (h : execHeartbeatTimeout dt s = .next t) :
    s.dev.sec.OnlyBurns t.dev.sec :=
  State.runIf_onlyBurns (Dev.chipFault_burns _ _) h

theorem execInjectionMissed_onlyBurns (dt : Nat) {s t : State} (h : execInjectionMissed dt s = .next t) :
    s.dev.sec.OnlyBurns t.dev.sec :=
  State.runIf_onlyBurns (fun d => by
    split
    · exact .refl d.sec
    · exact Dev.onlyIf_burns _ (fun e => e.errorsArrive_burns _ _) d) h

/-! ## FLT_ACK and the halt responder leave the array alone -/

theorem fltAckBody_fuses (q : Req) (d : Dev) : (fltAckBody q d).dev.kept.fuses = d.kept.fuses := by
  unfold fltAckBody
  refine checked_keeps Kept.fuses d _ ?_
  rw [ok_kept, Dev.onlyIf_keeps Kept.fuses _ (fun d => by simp), Dev.onlyIf_keeps Kept.fuses _ (fun d => by simp)]
  exact Dev.onlyIf_keeps Kept.fuses _ (fun d => by simp [Dev.ackRecord, ← Dev.fuses_kept]) d

theorem Dev.haltResponder_fuses (d : Dev) : d.haltResponder.kept.fuses = d.kept.fuses := by
  unfold Dev.haltResponder
  split
  · rfl
  · refine Dev.take_keeps Kept.fuses _ (fun q e => ?_) d
    split_ifs
    · simp
    · exact Dev.execute_keeps Kept.fuses q _ fltAckBody_fuses e
    · simp
    · simp

theorem execHaltResponderPacket_onlyBurns (dt : Nat) {s t : State} (h : execHaltResponderPacket dt s = .next t) :
    s.dev.sec.OnlyBurns t.dev.sec :=
  State.runIf_onlyBurns_of_fuses Dev.haltResponder_fuses h

theorem execFltAck_onlyBurns (dt : Nat) {s t : State} (h : execFltAck dt s = .next t) : s.dev.sec.OnlyBurns t.dev.sec :=
  State.runIf_onlyBurns_of_fuses (Dev.command_keeps Kept.fuses _ fltAckBody_fuses) h

/-! ## Every row -/

/-- The rows that `exec_kept` leaves out only burn. -/
theorem exec_onlyBurns_of_mayChangeKept {c : Instr} {s t : State} (hc : mayChangeKept c = true) (h : exec c s = .next t) :
    s.dev.sec.OnlyBurns t.dev.sec := by
  cases c with
  | vddAonBrownOut dt => exact execVddAonBrownOut_onlyBurns dt h
  | vddCoreBrownOut dt => exact execVddCoreBrownOut_onlyBurns dt h
  | resetNAssert dt => exact execResetNAssert_onlyBurns dt h
  | testModeChange dt level => exact execTestModeChange_onlyBurns dt level h
  | strapSampling dt hostSel twAddr => exact execStrapSampling_onlyBurns dt hostSel twAddr h
  | fuseReadDone dt ok => exact execFuseReadDone_onlyBurns dt ok h
  | bootPllALock dt ok => exact execBootPllALock_onlyBurns dt ok h
  | bootSramInitDone dt bad => exact execBootSramInitDone_onlyBurns dt bad h
  | bootRomCheckDone dt ok => exact execBootRomCheckDone_onlyBurns dt ok h
  | refclkLoss dt sinceEdge => exact execRefclkLoss_onlyBurns dt sinceEdge h
  | thermalShutdown dt sensors tHot => exact execThermalShutdown_onlyBurns dt sensors tHot h
  | sysResetTakesEffect dt => exact execSysResetTakesEffect_onlyBurns dt h
  | spiCmdPush dt bytes => exact execSpiCmdPush_onlyBurns dt bytes h
  | twPointerWrite dt bytes => exact execTwPointerWrite_onlyBurns dt bytes h
  | twCommandMailboxWrite dt bytes => exact execTwCommandMailboxWrite_onlyBurns dt bytes h
  | twTargetTimeout dt sdaHeld part => exact execTwTargetTimeout_onlyBurns dt sdaHeld part h
  | fuseProgrammingDone dt setBits givenUp stopped => exact execFuseProgrammingDone_onlyBurns dt setBits givenUp stopped h
  | pllALockLoss dt => exact execPllALockLoss_onlyBurns dt h
  | plldLiveLockLoss dt => exact execPlldLiveLockLoss_onlyBurns dt h
  | pllFLockLoss dt => exact execPllFLockLoss_onlyBurns dt h
  | handshakeTimeout dt crossing farRegion region block held stalled =>
    exact execHandshakeTimeout_onlyBurns dt crossing farRegion region block held stalled h
  | tocsinErrorArrival dt errs tHot => exact execTocsinErrorArrival_onlyBurns dt errs tHot h
  | correctableError dt err => exact execCorrectableError_onlyBurns dt err h
  | watchdogExpiry dt region block => exact execWatchdogExpiry_onlyBurns dt region block h
  | lockstepMismatch dt fetchAddr => exact execLockstepMismatch_onlyBurns dt fetchAddr h
  | busTimeout dt region block master access addr => exact execBusTimeout_onlyBurns dt region block master access addr h
  | heartbeatTimeout dt => exact execHeartbeatTimeout_onlyBurns dt h
  | injectionMissed dt => exact execInjectionMissed_onlyBurns dt h
  | haltResponderPacket dt => exact execHaltResponderPacket_onlyBurns dt h
  | fltAck dt => exact execFltAck_onlyBurns dt h
  | _ => cases hc

/-- Settles O5: most rows leave all of `Kept` alone, the fuses with it; the others only OR bits in, and only for a programming under
way. -/
theorem fusesOnlyBurn : Obligations.FusesOnlyBurn := by
  unfold Obligations.FusesOnlyBurn
  intro c s t h
  cases hc : mayChangeKept c with
  | false => exact SecSt.onlyBurns_of_fuses_eq (congrArg Kept.fuses (exec_kept hc h))
  | true => exact exec_onlyBurns_of_mayChangeKept hc h

end Sys2Proof.Machine
end

section
/-!
SUPPORT. What the shared operations leave as it was: raising an event (07 R216) touches the interrupt bits and Q4 alone, a reply
(07 R196, R199) the interrupt bits and the stream, the checks of a command (07 R202) nothing.
-/
namespace Sys2Proof.Machine

/-! ## The checks of a command -/

/-- No check of a list fails. -/
theorem firstFailure_eq_none {l : List (Bool × Status)} : firstFailure l = none ↔ ∀ c ∈ l, c.1 = false := by
  induction l with
  | nil => simp
  | cons c l ih => obtain ⟨b, st⟩ := c; cases b <;> simp [ih]

/-- Where no check fails, the command goes on. -/
theorem checked_of_passes {d : Dev} {l : List (Bool × Status)} {go : Res} (h : ∀ c ∈ l, c.1 = false) : checked d l go = go :=
  checked_none go (firstFailure_eq_none.2 h)

/-! ## Guards -/

/-- What an operation leaves as it was, its guarded form leaves as it was. -/
theorem Dev.onlyIf_leaves {β : Type _} (p : Dev → β) (c : Bool) {f : Dev → Dev} (hf : ∀ d, p (f d) = p d) (d : Dev) :
    p (d.onlyIf c f) = p d := by
  unfold Dev.onlyIf; split
  · exact hf d
  · rfl

@[simp] theorem Dev.onlyIf_true (f : Dev → Dev) (d : Dev) : d.onlyIf true f = f d := rfl
@[simp] theorem Dev.onlyIf_false (f : Dev → Dev) (d : Dev) : d.onlyIf false f = d := rfl

/-! ## Events -/

/-- The device but for what an event changes: the interrupt bits, which bits are new on this edge, Q4 and the records' index. -/
def Dev.sansEvents (d : Dev) : Dev :=
  { d with
    regs.irqStatus := 0, regs.setEdge := 0, regs.irqNew := 0, regs.sysNew := 0, regs.twNew := 0, regs.alertAcked := false
    proto.q4 := [], proto.evtIndex := 0 }

theorem Dev.setStatus_sansEvents (n : Nat) (d : Dev) : (d.setStatus n).sansEvents = d.sansEvents := by
  simp only [Dev.setStatus, RegSt.onEdge, Dev.sansEvents]
  split <;> rfl

theorem Dev.queueRecord_sansEvents (src ctx : Nat) (payload : List Byte) (deliver : Nat) (d : Dev) :
    (d.queueRecord src ctx payload deliver).sansEvents = d.sansEvents := by
  unfold Dev.queueRecord
  dsimp only
  split
  · rfl
  · split
    · exact Dev.setStatus_sansEvents ..
    · rfl

theorem Dev.raise_sansEvents (src ctx : Nat) (payload : List Byte) (d : Dev) : (d.raise src ctx payload).sansEvents = d.sansEvents := by
  unfold Dev.raise
  split
  · rfl
  · dsimp only
    split
    · exact (Dev.queueRecord_sansEvents ..).trans (Dev.setStatus_sansEvents ..)
    · exact Dev.setStatus_sansEvents ..

@[simp] theorem Dev.raise_now (src ctx : Nat) (payload : List Byte) (d : Dev) : (d.raise src ctx payload).now = d.now := (congrArg Dev.now (d.raise_sansEvents src ctx payload) :)
@[simp] theorem Dev.raise_pwr (src ctx : Nat) (payload : List Byte) (d : Dev) : (d.raise src ctx payload).pwr = d.pwr := (congrArg Dev.pwr (d.raise_sansEvents src ctx payload) :)
@[simp] theorem Dev.raise_clk (src ctx : Nat) (payload : List Byte) (d : Dev) : (d.raise src ctx payload).clk = d.clk := (congrArg Dev.clk (d.raise_sansEvents src ctx payload) :)
@[simp] theorem Dev.raise_tw (src ctx : Nat) (payload : List Byte) (d : Dev) : (d.raise src ctx payload).tw = d.tw := (congrArg Dev.tw (d.raise_sansEvents src ctx payload) :)
@[simp] theorem Dev.raise_twc (src ctx : Nat) (payload : List Byte) (d : Dev) : (d.raise src ctx payload).twc = d.twc := (congrArg Dev.twc (d.raise_sansEvents src ctx payload) :)
@[simp] theorem Dev.raise_rf (src ctx : Nat) (payload : List Byte) (d : Dev) : (d.raise src ctx payload).rf = d.rf := (congrArg Dev.rf (d.raise_sansEvents src ctx payload) :)
@[simp] theorem Dev.raise_cal (src ctx : Nat) (payload : List Byte) (d : Dev) : (d.raise src ctx payload).cal = d.cal := (congrArg Dev.cal (d.raise_sansEvents src ctx payload) :)
@[simp] theorem Dev.raise_survey (src ctx : Nat) (payload : List Byte) (d : Dev) : (d.raise src ctx payload).survey = d.survey := (congrArg Dev.survey (d.raise_sansEvents src ctx payload) :)
@[simp] theorem Dev.raise_chan (src ctx : Nat) (payload : List Byte) (d : Dev) : (d.raise src ctx payload).chan = d.chan := (congrArg Dev.chan (d.raise_sansEvents src ctx payload) :)
@[simp] theorem Dev.raise_trav (src ctx : Nat) (payload : List Byte) (d : Dev) : (d.raise src ctx payload).trav = d.trav := (congrArg Dev.trav (d.raise_sansEvents src ctx payload) :)
@[simp] theorem Dev.raise_dem (src ctx : Nat) (payload : List Byte) (d : Dev) : (d.raise src ctx payload).dem = d.dem := (congrArg Dev.dem (d.raise_sansEvents src ctx payload) :)
@[simp] theorem Dev.raise_fb (src ctx : Nat) (payload : List Byte) (d : Dev) : (d.raise src ctx payload).fb = d.fb := (congrArg Dev.fb (d.raise_sansEvents src ctx payload) :)
@[simp] theorem Dev.raise_follow (src ctx : Nat) (payload : List Byte) (d : Dev) : (d.raise src ctx payload).follow = d.follow := (congrArg Dev.follow (d.raise_sansEvents src ctx payload) :)
@[simp] theorem Dev.raise_audio (src ctx : Nat) (payload : List Byte) (d : Dev) : (d.raise src ctx payload).audio = d.audio := (congrArg Dev.audio (d.raise_sansEvents src ctx payload) :)
@[simp] theorem Dev.raise_data (src ctx : Nat) (payload : List Byte) (d : Dev) : (d.raise src ctx payload).data = d.data := (congrArg Dev.data (d.raise_sansEvents src ctx payload) :)
@[simp] theorem Dev.raise_watch (src ctx : Nat) (payload : List Byte) (d : Dev) : (d.raise src ctx payload).watch = d.watch := (congrArg Dev.watch (d.raise_sansEvents src ctx payload) :)
@[simp] theorem Dev.raise_cl (src ctx : Nat) (payload : List Byte) (d : Dev) : (d.raise src ctx payload).cl = d.cl := (congrArg Dev.cl (d.raise_sansEvents src ctx payload) :)
@[simp] theorem Dev.raise_toc (src ctx : Nat) (payload : List Byte) (d : Dev) : (d.raise src ctx payload).toc = d.toc := (congrArg Dev.toc (d.raise_sansEvents src ctx payload) :)
@[simp] theorem Dev.raise_proto_q1 (src ctx : Nat) (payload : List Byte) (d : Dev) : (d.raise src ctx payload).proto.q1 = d.proto.q1 := (congrArg (ProtoSt.q1 ·.proto) (d.raise_sansEvents src ctx payload) :)
@[simp] theorem Dev.raise_proto_q3 (src ctx : Nat) (payload : List Byte) (d : Dev) : (d.raise src ctx payload).proto.q3 = d.proto.q3 := (congrArg (ProtoSt.q3 ·.proto) (d.raise_sansEvents src ctx payload) :)
@[simp] theorem Dev.raise_proto_lastReady (src ctx : Nat) (payload : List Byte) (d : Dev) : (d.raise src ctx payload).proto.lastReady = d.proto.lastReady := (congrArg (ProtoSt.lastReady ·.proto) (d.raise_sansEvents src ctx payload) :)
@[simp] theorem Dev.raise_proto_caches (src ctx : Nat) (payload : List Byte) (d : Dev) : (d.raise src ctx payload).proto.caches = d.proto.caches := (congrArg (ProtoSt.caches ·.proto) (d.raise_sansEvents src ctx payload) :)
@[simp] theorem Dev.raise_proto_waitOn (src ctx : Nat) (payload : List Byte) (d : Dev) : (d.raise src ctx payload).proto.waitOn = d.proto.waitOn := (congrArg (ProtoSt.waitOn ·.proto) (d.raise_sansEvents src ctx payload) :)
@[simp] theorem Dev.raise_proto_replyDrops (src ctx : Nat) (payload : List Byte) (d : Dev) : (d.raise src ctx payload).proto.replyDrops = d.proto.replyDrops := (congrArg (ProtoSt.replyDrops ·.proto) (d.raise_sansEvents src ctx payload) :)
@[simp] theorem Dev.raise_proto_deliver (src ctx : Nat) (payload : List Byte) (d : Dev) : (d.raise src ctx payload).proto.deliver = d.proto.deliver := (congrArg (ProtoSt.deliver ·.proto) (d.raise_sansEvents src ctx payload) :)
@[simp] theorem Dev.raise_proto_running (src ctx : Nat) (payload : List Byte) (d : Dev) : (d.raise src ctx payload).proto.running = d.proto.running := (congrArg (ProtoSt.running ·.proto) (d.raise_sansEvents src ctx payload) :)
@[simp] theorem Dev.raise_regs_twRws (src ctx : Nat) (payload : List Byte) (d : Dev) : (d.raise src ctx payload).regs.twRws = d.regs.twRws := (congrArg (RegSt.twRws ·.regs) (d.raise_sansEvents src ctx payload) :)

@[simp] theorem Dev.emit_now (src : Nat) (payload : List Byte) (d : Dev) : (d.emit src payload).now = d.now := d.raise_now src 0xFF payload
@[simp] theorem Dev.emit_pwr (src : Nat) (payload : List Byte) (d : Dev) : (d.emit src payload).pwr = d.pwr := d.raise_pwr src 0xFF payload
@[simp] theorem Dev.emit_clk (src : Nat) (payload : List Byte) (d : Dev) : (d.emit src payload).clk = d.clk := d.raise_clk src 0xFF payload
@[simp] theorem Dev.emit_tw (src : Nat) (payload : List Byte) (d : Dev) : (d.emit src payload).tw = d.tw := d.raise_tw src 0xFF payload
@[simp] theorem Dev.emit_twc (src : Nat) (payload : List Byte) (d : Dev) : (d.emit src payload).twc = d.twc := d.raise_twc src 0xFF payload
@[simp] theorem Dev.emit_rf (src : Nat) (payload : List Byte) (d : Dev) : (d.emit src payload).rf = d.rf := d.raise_rf src 0xFF payload
@[simp] theorem Dev.emit_cal (src : Nat) (payload : List Byte) (d : Dev) : (d.emit src payload).cal = d.cal := d.raise_cal src 0xFF payload
@[simp] theorem Dev.emit_survey (src : Nat) (payload : List Byte) (d : Dev) : (d.emit src payload).survey = d.survey := d.raise_survey src 0xFF payload
@[simp] theorem Dev.emit_trav (src : Nat) (payload : List Byte) (d : Dev) : (d.emit src payload).trav = d.trav := d.raise_trav src 0xFF payload
@[simp] theorem Dev.emit_fb (src : Nat) (payload : List Byte) (d : Dev) : (d.emit src payload).fb = d.fb := d.raise_fb src 0xFF payload
@[simp] theorem Dev.emit_follow (src : Nat) (payload : List Byte) (d : Dev) : (d.emit src payload).follow = d.follow := d.raise_follow src 0xFF payload
@[simp] theorem Dev.emit_audio (src : Nat) (payload : List Byte) (d : Dev) : (d.emit src payload).audio = d.audio := d.raise_audio src 0xFF payload
@[simp] theorem Dev.emit_data (src : Nat) (payload : List Byte) (d : Dev) : (d.emit src payload).data = d.data := d.raise_data src 0xFF payload
@[simp] theorem Dev.emit_watch (src : Nat) (payload : List Byte) (d : Dev) : (d.emit src payload).watch = d.watch := d.raise_watch src 0xFF payload
@[simp] theorem Dev.emit_cl (src : Nat) (payload : List Byte) (d : Dev) : (d.emit src payload).cl = d.cl := d.raise_cl src 0xFF payload
@[simp] theorem Dev.emit_toc (src : Nat) (payload : List Byte) (d : Dev) : (d.emit src payload).toc = d.toc := d.raise_toc src 0xFF payload
@[simp] theorem Dev.emit_proto_q1 (src : Nat) (payload : List Byte) (d : Dev) : (d.emit src payload).proto.q1 = d.proto.q1 := d.raise_proto_q1 src 0xFF payload
@[simp] theorem Dev.emit_proto_q3 (src : Nat) (payload : List Byte) (d : Dev) : (d.emit src payload).proto.q3 = d.proto.q3 := d.raise_proto_q3 src 0xFF payload
@[simp] theorem Dev.emit_proto_lastReady (src : Nat) (payload : List Byte) (d : Dev) : (d.emit src payload).proto.lastReady = d.proto.lastReady := d.raise_proto_lastReady src 0xFF payload
@[simp] theorem Dev.emit_proto_caches (src : Nat) (payload : List Byte) (d : Dev) : (d.emit src payload).proto.caches = d.proto.caches := d.raise_proto_caches src 0xFF payload
@[simp] theorem Dev.emit_proto_waitOn (src : Nat) (payload : List Byte) (d : Dev) : (d.emit src payload).proto.waitOn = d.proto.waitOn := d.raise_proto_waitOn src 0xFF payload
@[simp] theorem Dev.emit_proto_replyDrops (src : Nat) (payload : List Byte) (d : Dev) : (d.emit src payload).proto.replyDrops = d.proto.replyDrops := d.raise_proto_replyDrops src 0xFF payload
@[simp] theorem Dev.emit_proto_deliver (src : Nat) (payload : List Byte) (d : Dev) : (d.emit src payload).proto.deliver = d.proto.deliver := d.raise_proto_deliver src 0xFF payload
@[simp] theorem Dev.emit_proto_running (src : Nat) (payload : List Byte) (d : Dev) : (d.emit src payload).proto.running = d.proto.running := d.raise_proto_running src 0xFF payload
@[simp] theorem Dev.emit_regs_twRws (src : Nat) (payload : List Byte) (d : Dev) : (d.emit src payload).regs.twRws = d.regs.twRws := d.raise_regs_twRws src 0xFF payload

/-! ## Replies -/

/-- The device but for what a reply changes: the registers and the stream. -/
def Dev.sansStream (d : Dev) : Dev := { d with regs := {}, proto := {} }

theorem Dev.raise_sansStream (src ctx : Nat) (payload : List Byte) (d : Dev) : (d.raise src ctx payload).sansStream = d.sansStream :=
  (congrArg Dev.sansStream (d.raise_sansEvents src ctx payload) :)

theorem Dev.putReply_sansStream (queue : Nat) (bytes : List Byte) (d : Dev) : (d.putReply queue bytes).sansStream = d.sansStream := by
  unfold Dev.putReply
  dsimp only
  split <;> exact Dev.raise_sansStream ..

theorem Dev.sendReply_sansStream (src : Iface) (serial : Nat) (bytes : List Byte) (d : Dev) :
    (d.sendReply src serial bytes).sansStream = d.sansStream := by
  cases src with
  | spi => exact Dev.putReply_sansStream ..
  | twoWire => exact Dev.putReply_sansStream ..
  | fabric dev => rfl

theorem Dev.reply_sansStream (q : Req) (st : Status) (payload : List Byte) (d : Dev) :
    (d.reply q st payload).sansStream = d.sansStream := by
  unfold Dev.reply
  exact (Dev.sendReply_sansStream ..).trans (Dev.onlyIf_leaves Dev.sansStream _ (f := Dev.remember q.src _) (fun _ => rfl) d)

theorem Dev.portReply_sansStream (queue : Nat) (header : List Byte) (st : Status) (d : Dev) :
    (d.portReply queue header st).sansStream = d.sansStream := by
  unfold Dev.portReply
  dsimp only
  split
  · exact Dev.raise_sansStream ..
  · exact Dev.putReply_sansStream ..

@[simp] theorem Dev.reply_pwr (q : Req) (st : Status) (payload : List Byte) (d : Dev) : (d.reply q st payload).pwr = d.pwr := (congrArg Dev.pwr (d.reply_sansStream q st payload) :)
@[simp] theorem Dev.reply_clk (q : Req) (st : Status) (payload : List Byte) (d : Dev) : (d.reply q st payload).clk = d.clk := (congrArg Dev.clk (d.reply_sansStream q st payload) :)
@[simp] theorem Dev.reply_tw (q : Req) (st : Status) (payload : List Byte) (d : Dev) : (d.reply q st payload).tw = d.tw := (congrArg Dev.tw (d.reply_sansStream q st payload) :)
@[simp] theorem Dev.reply_twc (q : Req) (st : Status) (payload : List Byte) (d : Dev) : (d.reply q st payload).twc = d.twc := (congrArg Dev.twc (d.reply_sansStream q st payload) :)
@[simp] theorem Dev.reply_rf (q : Req) (st : Status) (payload : List Byte) (d : Dev) : (d.reply q st payload).rf = d.rf := (congrArg Dev.rf (d.reply_sansStream q st payload) :)
@[simp] theorem Dev.reply_cal (q : Req) (st : Status) (payload : List Byte) (d : Dev) : (d.reply q st payload).cal = d.cal := (congrArg Dev.cal (d.reply_sansStream q st payload) :)
@[simp] theorem Dev.reply_survey (q : Req) (st : Status) (payload : List Byte) (d : Dev) : (d.reply q st payload).survey = d.survey := (congrArg Dev.survey (d.reply_sansStream q st payload) :)
@[simp] theorem Dev.reply_chan (q : Req) (st : Status) (payload : List Byte) (d : Dev) : (d.reply q st payload).chan = d.chan := (congrArg Dev.chan (d.reply_sansStream q st payload) :)
@[simp] theorem Dev.reply_trav (q : Req) (st : Status) (payload : List Byte) (d : Dev) : (d.reply q st payload).trav = d.trav := (congrArg Dev.trav (d.reply_sansStream q st payload) :)
@[simp] theorem Dev.reply_dem (q : Req) (st : Status) (payload : List Byte) (d : Dev) : (d.reply q st payload).dem = d.dem := (congrArg Dev.dem (d.reply_sansStream q st payload) :)
@[simp] theorem Dev.reply_comb (q : Req) (st : Status) (payload : List Byte) (d : Dev) : (d.reply q st payload).comb = d.comb := (congrArg Dev.comb (d.reply_sansStream q st payload) :)
@[simp] theorem Dev.reply_fb (q : Req) (st : Status) (payload : List Byte) (d : Dev) : (d.reply q st payload).fb = d.fb := (congrArg Dev.fb (d.reply_sansStream q st payload) :)
@[simp] theorem Dev.reply_follow (q : Req) (st : Status) (payload : List Byte) (d : Dev) : (d.reply q st payload).follow = d.follow := (congrArg Dev.follow (d.reply_sansStream q st payload) :)
@[simp] theorem Dev.reply_audio (q : Req) (st : Status) (payload : List Byte) (d : Dev) : (d.reply q st payload).audio = d.audio := (congrArg Dev.audio (d.reply_sansStream q st payload) :)
@[simp] theorem Dev.reply_data (q : Req) (st : Status) (payload : List Byte) (d : Dev) : (d.reply q st payload).data = d.data := (congrArg Dev.data (d.reply_sansStream q st payload) :)
@[simp] theorem Dev.reply_watch (q : Req) (st : Status) (payload : List Byte) (d : Dev) : (d.reply q st payload).watch = d.watch := (congrArg Dev.watch (d.reply_sansStream q st payload) :)
@[simp] theorem Dev.reply_cl (q : Req) (st : Status) (payload : List Byte) (d : Dev) : (d.reply q st payload).cl = d.cl := (congrArg Dev.cl (d.reply_sansStream q st payload) :)
@[simp] theorem Dev.reply_toc (q : Req) (st : Status) (payload : List Byte) (d : Dev) : (d.reply q st payload).toc = d.toc := (congrArg Dev.toc (d.reply_sansStream q st payload) :)

@[simp] theorem Dev.portReply_pwr (queue : Nat) (header : List Byte) (st : Status) (d : Dev) : (d.portReply queue header st).pwr = d.pwr := (congrArg Dev.pwr (d.portReply_sansStream queue header st) :)
@[simp] theorem Dev.portReply_toc (queue : Nat) (header : List Byte) (st : Status) (d : Dev) : (d.portReply queue header st).toc = d.toc := (congrArg Dev.toc (d.portReply_sansStream queue header st) :)

end Sys2Proof.Machine
end

section
/-!
PROOF. The first-error record and the halt (25 R682, R683, R689) through every row. `exec_kept` has the rows that leave both alone;
of the others, those that report an error only advance them (`Kept.Advances`), those that reset lose both, and FLT_ACK lets go of a
record outside a halt.
-/
namespace Sys2Proof.Machine

/-! ## How errors move the record and the halt -/

/-- The invariant of the record, of what outlasts a step. -/
def Kept.recordHolds (k : Kept) : Prop :=
  (k.rcd.valid = false → k.rcd = {}) ∧ (k.halted = true → k.rcd.valid = true ∧ k.rcd.halted = true)

/-- What errors may do: no halt ends, a record held keeps what its first error fixed, and the invariant stays. -/
structure Kept.Advances (k l : Kept) : Prop where
  halt : k.halted = true → l.halted = true
  first : k.rcd.valid = true → l.rcd.valid = true ∧ l.rcd.first = k.rcd.first
  holds : k.recordHolds → l.recordHolds

theorem Kept.Advances.refl (k : Kept) : k.Advances k := ⟨id, fun h => ⟨h, rfl⟩, id⟩

theorem Kept.Advances.trans {k l m : Kept} (hkl : k.Advances l) (hlm : l.Advances m) : k.Advances m where
  halt h := hlm.halt (hkl.halt h)
  first h := by
    obtain ⟨hv, hf⟩ := hkl.first h
    obtain ⟨hv', hf'⟩ := hlm.first hv
    exact ⟨hv', hf'.trans hf⟩
  holds h := hlm.holds (hkl.holds h)

theorem Kept.Advances.of_eq {k l : Kept} (h : l.rcd = k.rcd ∧ l.halted = k.halted) : k.Advances l := by
  obtain ⟨hr, hh⟩ := h
  exact ⟨fun h => hh ▸ h, fun h => ⟨hr ▸ h, by rw [hr]⟩, fun h => by rwa [Kept.recordHolds, hr, hh]⟩

/-- The device's record and halt may go on to those of `e` as errors arrive. -/
def Dev.Advances (d e : Dev) : Prop := d.kept.Advances e.kept

theorem Dev.Advances.of_kept {d e : Dev} (h : e.kept = d.kept) : d.Advances e := by
  unfold Dev.Advances; rw [h]; exact .refl _

theorem Dev.Advances.refl (d : Dev) : d.Advances d := .of_kept rfl

theorem Dev.Advances.trans {d e f : Dev} (hde : d.Advances e) (hef : e.Advances f) : d.Advances f := Kept.Advances.trans hde hef

theorem Dev.Advances.of_toc {d e : Dev} (h : e.toc = d.toc) : d.Advances e :=
  .of_eq ⟨congrArg TocsinSt.rcd h, congrArg TocsinSt.halted h⟩

theorem Dev.onlyIf_advances (c : Bool) {f : Dev → Dev} {d : Dev} (hf : d.Advances (f d)) : d.Advances (d.onlyIf c f) := by
  unfold Dev.onlyIf; split
  · exact hf
  · exact .refl d

/-! ## The operations on the record -/

@[simp] theorem Dev.dropFuseJob_toc (d : Dev) : d.dropFuseJob.toc = d.toc := by
  obtain ⟨f, n, h, -⟩ := d.dropFuseJob_spec
  rw [h]

@[simp] theorem Dev.dropFuseJob_lastReady (d : Dev) : d.dropFuseJob.proto.lastReady = d.proto.lastReady := by
  obtain ⟨f, n, h, -⟩ := d.dropFuseJob_spec
  rw [h]

@[simp] theorem Dev.endTwcForHalt_toc (d : Dev) : d.endTwcForHalt.toc = d.toc := by
  unfold Dev.endTwcForHalt; dsimp only; repeat' split
  all_goals rfl

@[simp] theorem Dev.endTwcForHalt_lastReady (d : Dev) : d.endTwcForHalt.proto.lastReady = d.proto.lastReady := by
  unfold Dev.endTwcForHalt; dsimp only; repeat' split
  all_goals rfl

@[simp] theorem Dev.fabricHalts_toc (d : Dev) : d.fabricHalts.toc = d.toc := by
  unfold Dev.fabricHalts Dev.sendLeaves; dsimp only; split <;> rfl

@[simp] theorem Dev.fabricHalts_lastReady (d : Dev) : d.fabricHalts.proto.lastReady = d.proto.lastReady := by
  unfold Dev.fabricHalts Dev.sendLeaves; dsimp only; split <;> rfl

/-- What a halt that begins does to Tocsin (25 R689): the record held is marked, ALIVE falls and an injection ends. -/
theorem Dev.halt_toc {d : Dev} (tHot : Int) (hh : d.toc.halted = false) :
    (d.halt tHot).toc = { d.toc with
      halted := true, alive := false, inject := none
      rcd := { d.toc.rcd with halted := true, haltTemp := tHot, lastSeq := d.proto.lastReady } } := by
  have ht : ((d.setStatus 4).dropFuseJob.endTwcForHalt).ampsOff.inputsHalt.fabricHalts.toc = d.toc := by
    rw [Dev.fabricHalts_toc]
    exact ((d.setStatus 4).dropFuseJob.endTwcForHalt_toc).trans (d.setStatus 4).dropFuseJob_toc
  have hl : ((d.setStatus 4).dropFuseJob.endTwcForHalt).ampsOff.inputsHalt.fabricHalts.proto.lastReady = d.proto.lastReady := by
    rw [Dev.fabricHalts_lastReady]
    exact ((d.setStatus 4).dropFuseJob.endTwcForHalt_lastReady).trans (d.setStatus 4).dropFuseJob_lastReady
  rw [Dev.halt, if_neg (by simp [hh])]
  dsimp only
  rw [ht, hl]

@[simp] theorem Dev.halt_halted (tHot : Int) (d : Dev) : (d.halt tHot).toc.halted = true := by
  unfold Dev.halt; split
  · assumption
  · rfl

/-- A halt that finds a record held advances it. -/
theorem Dev.halt_advances {d : Dev} (tHot : Int) (hv : d.toc.rcd.valid = true) : d.Advances (d.halt tHot) := by
  cases hh : d.toc.halted with
  | true => rw [Dev.halt, if_pos hh]; exact .refl d
  | false =>
    have hr := congrArg TocsinSt.rcd (d.halt_toc tHot hh)
    refine ⟨fun _ => d.halt_halted tHot, fun _ => ?_, fun _ => ⟨fun h => ?_, fun _ => ?_⟩⟩ <;> rw [← Dev.rcd_kept, hr] at *
    · exact ⟨hv, rfl⟩
    · exact absurd (hv.symm.trans h) (by simp)
    · exact ⟨hv, rfl⟩

@[simp] theorem Dev.recordError_valid (e : ErrIn) (d : Dev) : (d.recordError e).toc.rcd.valid = true := by
  unfold Dev.recordError; split
  · assumption
  · rfl

@[simp] theorem Dev.recordError_halted (e : ErrIn) (d : Dev) : (d.recordError e).toc.halted = d.toc.halted := by
  unfold Dev.recordError; split <;> rfl

/-- Recording an error fills an empty record, or merges into the one held. An empty one stands outside a halt. -/
theorem Dev.recordError_advances (e : ErrIn) (d : Dev) : d.Advances (d.recordError e) := by
  cases hv : d.toc.rcd.valid with
  | true =>
    have hr : d.recordError e = d.mergeRecord e (d.errorHalts e) := if_pos hv
    refine ⟨fun h => by rwa [← Dev.halted_kept, Dev.recordError_halted], fun _ => ?_, fun h => ⟨fun hn => ?_, fun hh => ?_⟩⟩
    · rw [hr]; exact ⟨hv, rfl⟩
    · exact absurd ((Dev.recordError_valid e d).symm.trans hn) (by simp)
    · rw [← Dev.halted_kept, Dev.recordError_halted] at hh
      have hm := (h.2 hh).2
      rw [hr]
      rw [← Dev.rcd_kept] at hm
      exact ⟨hv, by rw [← Dev.rcd_kept]; simp [Dev.mergeRecord, hm]⟩
  | false =>
    refine ⟨fun h => by rwa [← Dev.halted_kept, Dev.recordError_halted], fun h => ?_, fun h => ⟨fun hn => ?_, fun hh => ?_⟩⟩
    · exact absurd (hv.symm.trans h) (by simp)
    · exact absurd ((Dev.recordError_valid e d).symm.trans hn) (by simp)
    · rw [← Dev.halted_kept, Dev.recordError_halted] at hh
      exact absurd (hv.symm.trans (h.2 hh).1) (by simp)

theorem Dev.recordErrors_advances (l : List ErrIn) (d : Dev) (hv : d.toc.rcd.valid = true) :
    d.Advances (l.foldl (fun d e => d.recordError e) d) ∧ (l.foldl (fun d e => d.recordError e) d).toc.rcd.valid = true := by
  induction l generalizing d with
  | nil => exact ⟨.refl d, hv⟩
  | cons e l ih =>
    obtain ⟨ha, hv'⟩ := ih (d.recordError e) (by simp)
    exact ⟨(d.recordError_advances e).trans ha, hv'⟩

/-- One error outside reset: recorded, its word marked, and the halt where it halts. -/
theorem Dev.errorsArrive_singleton {d : Dev} (e : ErrIn) (tHot : Int) (hr : d.inReset = false) :
    d.errorsArrive [e] tHot = ((d.recordError e).poison [e]).onlyIf (d.errorHalts e) (Dev.halt tHot) := by
  simp [Dev.errorsArrive, hr, minBy]

/-- Errors that reach Tocsin together advance the record: the first fills it or merges, the others merge, and the halt finds it held. -/
theorem Dev.errorsArrive_advances (errs : List ErrIn) (tHot : Int) (d : Dev) : d.Advances (d.errorsArrive errs tHot) := by
  unfold Dev.errorsArrive
  split
  · exact .refl d
  · split
    · exact .refl d
    · rename_i first _
      obtain ⟨ha, hv⟩ := Dev.recordErrors_advances (errs.erase first) (d.recordError first) (by simp)
      exact ((d.recordError_advances first).trans (ha.trans (.of_kept (Dev.poison_kept errs _)))).trans (Dev.onlyIf_advances _ (Dev.halt_advances tHot hv))

/-- Outside reset an error that arrives leaves a record held. -/
theorem Dev.errorsArrive_valid {d : Dev} (e : ErrIn) (tHot : Int) (hr : d.inReset = false) :
    (d.errorsArrive [e] tHot).toc.rcd.valid = true := by
  rw [Dev.errorsArrive_singleton e tHot hr]
  refine ((Dev.onlyIf_advances _ (Dev.halt_advances tHot ?_)).first ?_).1 <;> exact Dev.recordError_valid e d

theorem Dev.chipFault_advances (cls addr : Nat) (d : Dev) : d.Advances (d.chipFault cls addr) := d.errorsArrive_advances _ _

theorem Dev.correctable_advances (e : ErrIn) (d : Dev) : d.Advances (d.correctable e) := by
  unfold Dev.correctable
  split
  · exact .refl d
  · dsimp only
    refine Dev.Advances.trans (.of_kept ?_) (Dev.onlyIf_advances _ (Dev.errorsArrive_advances _ _ _))
    rw [Dev.onlyIf_kept _ _ fun d => by simp]
    rfl

theorem Dev.correctableArrival_advances (e : ErrIn) (d : Dev) : d.Advances (d.correctableArrival e) := by
  unfold Dev.correctableArrival
  split
  · exact Dev.onlyIf_advances _ (d.correctable_advances e)
  · split
    · exact Dev.onlyIf_advances _ ((d.correctable_advances _).trans (.of_kept (Dev.injectDone_kept _ _ _)))
    · exact .refl d

theorem Dev.errorArrival_advances (errs : List ErrIn) (tHot : Int) (d : Dev) : d.Advances (d.errorArrival errs tHot) := by
  have ha := d.errorsArrive_advances (realErrors errs ++ d.injectedErrors errs) tHot
  unfold Dev.errorArrival
  dsimp only
  split
  · exact ha
  · exact ha.trans (Dev.onlyIf_advances _ (.of_kept (by simp)))

/-! ## Waking from SLEEP keeps the record (25 R684) -/

@[simp] theorem Dev.tryBoot_toc (d : Dev) : d.tryBoot.toc = d.toc := by
  unfold Dev.tryBoot; split <;> rfl

@[simp] theorem Dev.reset_toc (k : ResetKind) (d : Dev) : (d.reset k).toc = d.toc.reset k := by
  obtain ⟨f, n, h, -⟩ := d.reset_spec k
  rw [h]

theorem Dev.not_halted_of_sleeping {d : Dev} (h : d.sleeping = true) : d.toc.halted = false := by
  simp [Dev.sleeping, Dev.up] at h; exact h.1.2

theorem Dev.wake_advances {d : Dev} (src : Iface) (bytes : List Byte) (headerOnly : Bool) (h : d.toc.halted = false) :
    d.Advances (d.wake src bytes headerOnly) := by
  refine .of_eq ⟨?_, ?_⟩
  · rw [← Dev.rcd_kept, Dev.wake, Dev.tryBoot_toc, Dev.reset_toc]; rfl
  · rw [← Dev.halted_kept, ← Dev.halted_kept, h, Dev.wake, Dev.tryBoot_toc, Dev.reset_toc]; rfl

theorem Dev.pushAsleep_advances {d : Dev} (bytes : List Byte) (h : d.sleeping = true) : d.Advances (d.pushAsleep bytes) := by
  have hw := fun l b => Dev.wake_advances (d := d) .spi l b (Dev.not_halted_of_sleeping h)
  have hflag : d.Advances (d.flagSys 2) := .of_kept (by simp)
  unfold Dev.pushAsleep
  split
  · exact .refl d
  · split
    · exact hflag
    · split
      · exact hw ..
      · split
        · exact hflag
        · exact hw ..

theorem Dev.boxRefused_advances (d : Dev) : d.Advances d.boxRefused := by
  unfold Dev.boxRefused
  dsimp only
  split
  · split
    · rename_i hs
      exact Dev.wake_advances (d := { d with tw.box := [] }) _ _ _ (Dev.not_halted_of_sleeping hs)
    · exact .of_kept (by simp)
  · exact .refl d

theorem Dev.boxDone_advances (d : Dev) : d.Advances d.boxDone := by
  unfold Dev.boxDone
  dsimp only
  split
  · exact .refl d
  · split
    · rename_i hs
      exact Dev.wake_advances (d := { d with tw.box := [] }) _ _ _ (Dev.not_halted_of_sleeping hs)
    · repeat' split
      all_goals exact .of_kept (by simp)

theorem Dev.twWrite_advances (bytes : List Byte) (d : Dev) : d.Advances (d.twWrite bytes) := by
  unfold Dev.twWrite
  split
  · exact (Dev.Advances.of_kept (by simp)).trans ((Dev.boxRefused_advances _).trans (Dev.boxDone_advances _))
  · exact .of_kept (by simp)

/-! ## FLT_ACK (25 R700) -/

/-- The record as a halt holds it. -/
def Kept.inHalt (k : Kept) : Bool × FaultRec := (k.halted, if k.halted then k.rcd else {})

@[simp] theorem Dev.ackRecord_halted (d : Dev) : d.ackRecord.toc.halted = d.toc.halted := by
  rw [Dev.ackRecord]
  exact (Dev.halted_kept _).trans (congrArg Kept.halted (Dev.logFault_kept _ d))

/-- A refusal leaves the device as it is; so what an accepted FLT_ACK keeps, every FLT_ACK keeps. -/
theorem fltAckBody_keeps {β : Type _} (p : Kept → β) (q : Req) (d : Dev)
    (h : d.toc.halted = false → (q.p16 0 ≠ 0 → d.toc.rcd.valid = true) →
      p ((d.onlyIf (q.p16 0 != 0) Dev.ackRecord).kept) = p d.kept) :
    p (fltAckBody q d).dev.kept = p d.kept := by
  unfold fltAckBody checked
  dsimp only
  split
  · exact congrArg p (refuse_kept _ d)
  · rename_i hc
    obtain ⟨hh, hv⟩ : d.toc.halted = false ∧ (q.p16 0 ≠ 0 → d.toc.rcd.valid = true ∧ d.toc.rcd.capture = q.p16 0) := by
      have hs := firstFailure_eq_none.1 hc (d.toc.halted || (q.p16 0 != 0 && !(d.toc.rcd.valid && d.toc.rcd.capture == q.p16 0)), .wrongState) (by simp)
      simpa using hs
    rw [ok_kept, Dev.onlyIf_kept _ _ fun d => by simp, Dev.onlyIf_kept _ _ fun d => by simp]
    exact h hh fun hn => (hv hn).1

theorem fltAckBody_inHalt (q : Req) (d : Dev) : (fltAckBody q d).dev.kept.inHalt = d.kept.inHalt := by
  refine fltAckBody_keeps Kept.inHalt q d fun hh _ => ?_
  have hk : (d.onlyIf (q.p16 0 != 0) Dev.ackRecord).toc.halted = d.toc.halted := by
    unfold Dev.onlyIf; split <;> simp
  simp [Kept.inHalt, ← Dev.halted_kept, hk, hh]

theorem fltAckBody_recordHolds (q : Req) (d : Dev) : (fltAckBody q d).dev.kept.recordHolds = d.kept.recordHolds := by
  refine fltAckBody_keeps Kept.recordHolds q d fun hh hv => ?_
  unfold Dev.onlyIf
  split
  · rename_i hn
    have hv := hv (by simpa using hn)
    have he : d.ackRecord.kept.recordHolds := ⟨fun _ => rfl, fun h => absurd h (by rw [← Dev.halted_kept]; simp [hh])⟩
    exact propext ⟨fun _ => ⟨fun h => absurd (hv.symm.trans h) (by simp), fun h => absurd (hh.symm.trans h) (by simp)⟩, fun _ => he⟩
  · rfl

theorem Dev.haltResponder_inHalt (d : Dev) : d.haltResponder.kept.inHalt = d.kept.inHalt := by
  unfold Dev.haltResponder
  split
  · rfl
  · refine Dev.take_keeps Kept.inHalt _ (fun q e => ?_) d
    split_ifs
    · simp
    · exact Dev.execute_keeps Kept.inHalt q _ fltAckBody_inHalt e
    · simp
    · simp

/-- In a halt the record stays as it is, whatever the halt responder answers. -/
theorem Dev.haltResponder_advances {d : Dev} (h : d.toc.halted = true) : d.Advances d.haltResponder := by
  have hi := d.haltResponder_inHalt
  have hh : d.haltResponder.kept.halted = true := (congrArg Prod.fst hi).trans h
  have hr : d.haltResponder.kept.rcd = d.kept.rcd := by simpa [Kept.inHalt, hh, ← Dev.halted_kept, h] using congrArg Prod.snd hi
  exact .of_eq ⟨hr, hh.trans h.symm⟩

/-! ## The rows that report errors, or wake the device -/

theorem State.after_advances {s : State} {dt : Nat} {e : Dev} (h : (s.dev.tick dt).Advances e) : s.dev.Advances (s.after dt e).dev :=
  Dev.Advances.trans (.of_kept (Dev.tick_kept dt s.dev)) (h.trans (.of_kept rfl))

theorem State.runIf_advances {s t : State} {dt : Nat} {c : Dev → Bool} {f : Dev → Dev} (h : s.runIf dt c f = .next t)
    (hf : ∀ d : Dev, c d = true → d.Advances (f d)) : s.dev.Advances t.dev := by
  rw [State.runIf, State.run_next, Host.Outcome.next.injEq] at h
  subst h
  refine State.after_advances ?_
  split
  · exact hf _ ‹_›
  · exact .refl _

theorem State.run_advances {s t : State} {dt : Nat} {f : Dev → Dev} (h : s.run dt f = .next t)
    (hf : ∀ d : Dev, d.Advances (f d)) : s.dev.Advances t.dev :=
  State.runIf_advances (c := fun _ => true) h fun d _ => hf d

theorem execRefclkLoss_advances (dt ago : Nat) {s t : State} (h : execRefclkLoss dt ago s = .next t) : s.dev.Advances t.dev :=
  State.run_advances h fun d => by
    dsimp only
    split
    · exact .of_toc rfl
    · rename_i hr
      generalize hd : Dev.setStatus 8 { d with pwr.refclk := false, pwr.onRc := true } = d2
      have hk : d2.kept = d.kept := by rw [← hd, Dev.setStatus_kept]; rfl
      have ha := (Dev.Advances.of_kept hk).trans (d2.chipFault_advances 0x09 0)
      split
      · exact ha
      · rename_i hv
        have hv' : (d2.chipFault 0x09 0).toc.rcd.valid = true :=
          Dev.errorsArrive_valid _ _ (by rw [← hd]; exact Bool.eq_false_iff.2 hr)
        rw [Dev.rcd_kept, hk, ← Dev.rcd_kept] at hv
        exact ⟨ha.halt, fun h => absurd h hv, fun h => ⟨fun hn => absurd (hv'.symm.trans hn) (by simp), (ha.holds h).2⟩⟩

/-- The rows that may lose a record or end a halt: resets, and FLT_ACK. -/
def mayForgetRecord : Instr → Bool
  | .fltAck _ | .sysResetTakesEffect _ | .resetNAssert _ | .testModeChange _ true | .vddAonBrownOut _ => true
  | _ => false

/-- Every other row advances the record and the halt. -/
theorem exec_advances_of_mayChangeKept {c : Instr} {s t : State} (hc : mayChangeKept c = true) (hf : mayForgetRecord c = false)
    (h : exec c s = .next t) : s.dev.Advances t.dev := by
  cases c with
  | vddCoreBrownOut dt =>
    exact State.run_advances (show execVddCoreBrownOut dt s = .next t from h)
      (fun d => Dev.Advances.trans (e := { d with pwr.coreOk := false }) (.of_toc rfl) (Dev.chipFault_advances _ _ _))
  | testModeChange dt level =>
    cases level with
    | true => cases hf
    | false => exact State.run_advances (show execTestModeChange dt false s = .next t from h) (fun d => .of_toc (Dev.tryBoot_toc _))
  | strapSampling dt hostSel twAddr => exact State.runIf_advances (show execStrapSampling dt hostSel twAddr s = .next t from h) (fun d _ => .of_toc rfl)
  | fuseReadDone dt ok =>
    exact State.runIf_advances (show execFuseReadDone dt ok s = .next t from h) (fun d _ => by split; exacts [.of_toc rfl, d.chipFault_advances _ _])
  | bootPllALock dt ok =>
    exact State.runIf_advances (show execBootPllALock dt ok s = .next t from h) (fun d _ => by split; exacts [.of_toc rfl, d.chipFault_advances _ _])
  | bootSramInitDone dt bad =>
    exact State.runIf_advances (show execBootSramInitDone dt bad s = .next t from h) (fun d _ => by split; exacts [.of_toc rfl, d.errorsArrive_advances _ _])
  | bootRomCheckDone dt ok =>
    exact State.runIf_advances (show execBootRomCheckDone dt ok s = .next t from h) (fun d _ => by split; exacts [.of_toc rfl, d.chipFault_advances _ _])
  | refclkLoss dt ago => exact execRefclkLoss_advances dt ago h
  | thermalShutdown dt sensors tHot => exact State.run_advances (show execThermalShutdown dt sensors tHot s = .next t from h) (Dev.errorsArrive_advances _ _)
  | spiCmdPush dt bytes =>
    exact State.runIf_advances (show execSpiCmdPush dt bytes s = .next t from h) (fun d _ => by
      dsimp only
      repeat' split
      · exact .of_kept (by simp)
      · exact .of_toc rfl
      · rename_i hs
        exact Dev.Advances.trans (e := { d with regs.spiOut := [] }) (.of_toc rfl) (Dev.pushAsleep_advances bytes hs)
      · exact .of_kept (by simp))
  | twPointerWrite dt bytes => exact State.runIf_advances (show execTwPointerWrite dt bytes s = .next t from h) (fun d _ => d.twWrite_advances bytes)
  | twCommandMailboxWrite dt bytes => exact State.runIf_advances (show execTwCommandMailboxWrite dt bytes s = .next t from h) (fun d _ => d.twWrite_advances bytes)
  | twTargetTimeout dt sdaHeld part =>
    exact State.runIf_advances (show execTwTargetTimeout dt sdaHeld part s = .next t from h) (fun d _ => (Dev.Advances.of_kept (by simp)).trans
      ((d.twPart part).twSettled.boxRefused_advances.trans (.of_kept (by simp))))
  | fuseProgrammingDone dt setBits givenUp stopped =>
    exact State.runIf_advances (show execFuseProgrammingDone dt setBits givenUp stopped s = .next t from h) (fun d _ => by
      split
      · exact .refl d
      · exact .of_eq (by dsimp only; rw [Dev.answerLater_kept]; exact ⟨rfl, rfl⟩))
  | pllALockLoss dt => exact State.runIf_advances (show execPllALockLoss dt s = .next t from h) (fun d _ => d.chipFault_advances _ _)
  | plldLiveLockLoss dt => exact State.runIf_advances (show execPlldLiveLockLoss dt s = .next t from h) (fun d _ => d.chipFault_advances _ _)
  | pllFLockLoss dt => exact State.runIf_advances (show execPllFLockLoss dt s = .next t from h) (fun d _ => d.chipFault_advances _ _)
  | handshakeTimeout dt crossing farRegion region block held stalled =>
    exact State.runIf_advances (show execHandshakeTimeout dt crossing farRegion region block held stalled s = .next t from h) (fun d _ => d.errorsArrive_advances _ _)
  | tocsinErrorArrival dt errs tHot => exact State.run_advances (show execTocsinErrorArrival dt errs tHot s = .next t from h) (Dev.errorArrival_advances errs tHot)
  | correctableError dt err => exact State.run_advances (show execCorrectableError dt err s = .next t from h) (Dev.correctableArrival_advances err)
  | watchdogExpiry dt region block => exact State.runIf_advances (show execWatchdogExpiry dt region block s = .next t from h) (fun d _ => d.errorsArrive_advances _ _)
  | lockstepMismatch dt fetchAddr => exact State.run_advances (show execLockstepMismatch dt fetchAddr s = .next t from h) (fun d => d.errorsArrive_advances _ _)
  | busTimeout dt region block master access addr => exact State.run_advances (show execBusTimeout dt region block master access addr s = .next t from h) (fun d => d.errorsArrive_advances _ _)
  | heartbeatTimeout dt => exact State.runIf_advances (show execHeartbeatTimeout dt s = .next t from h) (fun d _ => d.chipFault_advances _ _)
  | injectionMissed dt =>
    exact State.runIf_advances (show execInjectionMissed dt s = .next t from h) (fun d _ => by
      split
      · exact .refl d
      · exact Dev.onlyIf_advances _ (d.errorsArrive_advances _ _))
  | haltResponderPacket dt => exact State.runIf_advances (show execHaltResponderPacket dt s = .next t from h) (fun d hh => Dev.haltResponder_advances hh)
  | fltAck _ | sysResetTakesEffect _ | resetNAssert _ | vddAonBrownOut _ => cases hf
  | _ => cases hc

theorem exec_advances {c : Instr} {s t : State} (hf : mayForgetRecord c = false) (h : exec c s = .next t) : s.dev.Advances t.dev := by
  cases hc : mayChangeKept c with
  | false => exact .of_kept (exec_kept hc h)
  | true => exact exec_advances_of_mayChangeKept hc hf h

/-! ## The rows that may lose the record -/

/-- After a reset that keeps nothing, Tocsin is as after power-on. -/
theorem Dev.recordHolds_of_toc {d : Dev} (h : d.toc = {}) : d.recordHolds := by
  unfold Dev.recordHolds; rw [h]; exact ⟨fun _ => rfl, fun h => by cases h⟩

/-- A reset that keeps the record stands outside a halt, so the invariant of the record goes on. -/
theorem TocsinSt.reset_recordHolds (k : ResetKind) {d e : Dev} (h : d.recordHolds) (he : e.toc = d.toc.reset k) : e.recordHolds := by
  unfold TocsinSt.reset at he
  split at he
  · unfold Dev.recordHolds
    rw [he]
    exact ⟨h.1, fun hh => by cases hh⟩
  · exact Dev.recordHolds_of_toc he

theorem execFltAck_recordHolds (dt : Nat) {s t : State} (h : execFltAck dt s = .next t) : t.dev.recordHolds = s.dev.recordHolds :=
  State.runIf_keeps Kept.recordHolds (Dev.command_keeps Kept.recordHolds _ fltAckBody_recordHolds) h

theorem execFltAck_halted (dt : Nat) {s t : State} (h : execFltAck dt s = .next t) : t.dev.toc.halted = s.dev.toc.halted :=
  congrArg Prod.fst (State.runIf_keeps Kept.inHalt (Dev.command_keeps Kept.inHalt _ fltAckBody_inHalt) h)

/-- SYS_RESET_TAKES_EFFECT does nothing, or resets a device that is not halted. -/
theorem execSysResetTakesEffect_toc (dt : Nat) {s t : State} (h : execSysResetTakesEffect dt s = .next t) :
    t.dev.toc = s.dev.toc ∨ (s.dev.toc.halted = false ∧ ∃ k, t.dev.toc = s.dev.toc.reset k) := by
  rw [execSysResetTakesEffect, State.runIf, State.run_next, Host.Outcome.next.injEq] at h
  subst h
  rw [State.after]
  dsimp only
  split
  · rename_i hu
    split
    · exact .inl rfl
    · rename_i scope due _
      split
      · refine .inr ⟨by simpa using (Bool.and_eq_true_iff.1 hu).2, if scope = 1 then .restart else .full, ?_⟩
        rw [Dev.tryBoot_toc, Dev.reset_toc]
        congr 1
        unfold Dev.sendLeaves; split <;> rfl
      · exact .inl rfl
  · exact .inl rfl

theorem exec_recordHolds {c : Instr} {s t : State} (hi : s.dev.recordHolds) (h : exec c s = .next t) : t.dev.recordHolds := by
  cases hf : mayForgetRecord c with
  | false => exact (exec_advances hf h).holds hi
  | true =>
    cases c with
    | fltAck dt => rwa [execFltAck_recordHolds dt h]
    | sysResetTakesEffect dt =>
      obtain ht | ⟨-, k, ht⟩ := execSysResetTakesEffect_toc dt h
      · unfold Dev.recordHolds; rw [ht]; exact hi
      · exact TocsinSt.reset_recordHolds k hi ht
    | resetNAssert dt =>
      injection h with h
      subst h
      exact Dev.recordHolds_of_toc (Dev.reset_toc .resetN { s.dev.tick dt with pwr.resetN := false })
    | testModeChange dt level =>
      cases level with
      | true =>
        injection h with h
        subst h
        exact Dev.recordHolds_of_toc (Dev.reset_toc .resetN { s.dev.tick dt with pwr.testMode := true })
      | false => cases hf
    | vddAonBrownOut dt =>
      injection h with h
      subst h
      exact Dev.recordHolds_of_toc (Dev.reset_toc .aonLoss { s.dev.tick dt with pwr.aonOk := false })
    | _ => cases hf

/-- Settles O7: no error ends a halt, FLT_ACK and a SYS_RESET do nothing to a halted device, and the other rows that lose the record are
the resets named. That TEST_MODE ends a halt is DESIGN CHOICE log 115. -/
theorem haltLeftOnlyByReset : Obligations.HaltLeftOnlyByReset := by
  unfold Obligations.HaltLeftOnlyByReset
  intro c s t h hs ht
  cases hf : mayForgetRecord c with
  | false => exact absurd (((exec_advances hf h).halt hs).symm.trans ht) (by simp)
  | true =>
    cases c with
    | fltAck dt => exact absurd ((hs.symm.trans (execFltAck_halted dt h).symm).trans ht) (by simp)
    | sysResetTakesEffect dt =>
      obtain he | ⟨hn, -⟩ := execSysResetTakesEffect_toc dt h
      · exact absurd ((hs.symm.trans (congrArg TocsinSt.halted he).symm).trans ht) (by simp)
      · exact absurd (hs.symm.trans hn) (by simp)
    | resetNAssert dt => exact .inl ⟨dt, rfl⟩
    | testModeChange dt level =>
      cases level with
      | true => exact .inr (.inl ⟨dt, rfl⟩)
      | false => cases hf
    | vddAonBrownOut dt => exact .inr (.inr ⟨dt, rfl⟩)
    | _ => cases hf

/-- Settles O8: every row but the resets and FLT_ACK advances the record, which keeps what the first error fixed. -/
theorem firstErrorHeld : Obligations.FirstErrorHeld := by
  unfold Obligations.FirstErrorHeld
  intro c s t h hv
  cases hf : mayForgetRecord c with
  | false => exact .inl ((exec_advances hf h).first hv)
  | true =>
    cases c with
    | fltAck dt => exact .inr (.inl ⟨dt, rfl⟩)
    | sysResetTakesEffect dt => exact .inr (.inr (.inl ⟨dt, rfl⟩))
    | resetNAssert dt => exact .inr (.inr (.inr (.inl ⟨dt, rfl⟩)))
    | testModeChange dt level =>
      cases level with
      | true => exact .inr (.inr (.inr (.inr (.inl ⟨dt, rfl⟩))))
      | false => cases hf
    | vddAonBrownOut dt => exact .inr (.inr (.inr (.inr (.inr ⟨dt, rfl⟩))))
    | _ => cases hf

/-- Settles O9: the row at the front keeps the invariant, and an empty queue changes nothing. -/
theorem recordInvariantKept : Obligations.RecordInvariantKept := by
  unfold Obligations.RecordInvariantKept
  intro s t hi h
  unfold step at h
  split at h
  · rw [Host.Outcome.next.injEq] at h
    exact h ▸ hi
  · rename_i c rest _
    exact exec_recordHolds (s := { s with pending := rest }) hi h

end Sys2Proof.Machine
end

section
/-!
SUPPORT. The lengths of the little-endian fields (00 R19) and what a field reads back as.
-/
namespace Sys2Proof.Machine

@[simp] theorem leBytes_length (n v : Nat) : (leBytes n v).length = n := by
  induction n generalizing v with
  | zero => rfl
  | succ n ih => simp [leBytes, ih]

@[simp] theorem u8_length (v : Nat) : (u8 v).length = 1 := leBytes_length 1 v
@[simp] theorem u16_length (v : Nat) : (u16 v).length = 2 := leBytes_length 2 v
@[simp] theorem u32_length (v : Nat) : (u32 v).length = 4 := leBytes_length 4 v
@[simp] theorem u64_length (v : Nat) : (u64 v).length = 8 := leBytes_length 8 v
@[simp] theorem ub_length (b : Bool) : (ub b).length = 1 := leBytes_length 1 _
@[simp] theorem s8_length (v : Int) : (s8 v).length = 1 := leBytes_length 1 _
@[simp] theorem s16_length (v : Int) : (s16 v).length = 2 := leBytes_length 2 _
@[simp] theorem s32_length (v : Int) : (s32 v).length = 4 := leBytes_length 4 _
@[simp] theorem zeros_length (n : Nat) : (zeros n).length = n := List.length_replicate
@[simp] theorem padTo_length (n : Nat) (l : List Byte) : (padTo n l).length = n := by simp [padTo]; omega

/-- A list of fields of one length. -/
theorem flatMap_length_const {α : Type _} (l : List α) {f : α → List Byte} {n : Nat} (h : ∀ x ∈ l, (f x).length = n) :
    (l.flatMap f).length = l.length * n := by
  rw [List.length_flatMap, List.map_congr_left h, List.map_const', List.sum_replicate, smul_eq_mul]

/-- Little-endian bytes spell the number that fits them. -/
theorem leNat_leBytes (n v : Nat) (h : v < 256 ^ n) : leNat (leBytes n v) = v := by
  induction n generalizing v with
  | zero => simp [leBytes, leNat] at h ⊢; omega
  | succ n ih =>
    have hd : v / 256 < 256 ^ n := by rw [Nat.div_lt_iff_lt_mul (by norm_num)]; rwa [pow_succ] at h
    simp only [leBytes, leNat, ih _ hd, BitVec.toNat_ofNat]
    omega

end Sys2Proof.Machine
end

section
/-!
SUPPORT. What an event and a flag set (05 R147, R148; 07 R216): the status bits of the interrupt registers, and which of them a later
event leaves set.
-/
namespace Sys2Proof.Machine

@[simp] theorem RegSt.onEdge_irqStatus (e : Nat) (r : RegSt) : (r.onEdge e).irqStatus = r.irqStatus := by
  unfold RegSt.onEdge; split <;> rfl

@[simp] theorem RegSt.onEdge_sysRws (e : Nat) (r : RegSt) : (r.onEdge e).sysRws = r.sysRws := by
  unfold RegSt.onEdge; split <;> rfl

@[simp] theorem RegSt.onEdge_twRws (e : Nat) (r : RegSt) : (r.onEdge e).twRws = r.twRws := by
  unfold RegSt.onEdge; split <;> rfl

@[simp] theorem Dev.flagTw_twRws (m : BitVec 3) (d : Dev) : (d.flagTw m).regs.twRws = d.regs.twRws ||| m := by
  simp [Dev.flagTw]

theorem Dev.setStatus_irqBit (n : Nat) (d : Dev) {m : Nat} (hm : m < 128) : (d.setStatus n).irqBit m = (d.irqBit m || decide (n = m)) := by
  have hbit : (BitVec.ofNat 128 (1 <<< n)).getLsbD m = decide (n = m) := by
    rw [BitVec.getLsbD_ofNat, Nat.shiftLeft_eq, Nat.one_mul, Nat.testBit_two_pow]; simp [hm]
  show ((d.regs.onEdge d.edge).irqStatus ||| BitVec.ofNat 128 (1 <<< n)).getLsbD m = _
  rw [BitVec.getLsbD_or, hbit, RegSt.onEdge_irqStatus]; rfl

/-- A bit once set stays set through any event. -/
theorem Dev.raise_irqBit_mono {d : Dev} {n : Nat} (hn : n < 128) (h : d.irqBit n = true) (src ctx : Nat) (payload : List Byte) :
    (d.raise src ctx payload).irqBit n = true := by
  have set {d : Dev} (h : d.irqBit n = true) (m : Nat) : (d.setStatus m).irqBit n = true := by rw [Dev.setStatus_irqBit m d hn, h]; rfl
  unfold Dev.raise
  split
  · exact h
  · dsimp only
    split
    · unfold Dev.queueRecord
      dsimp only
      split
      · exact set h src
      · split
        · exact set (set h src) 1
        · exact set h src
    · exact set h src

/-- A source outside the fabric's that is raised outside SLEEP, or in a halt, sets its bit. -/
theorem Dev.raise_irqBit_self {d : Dev} {src : Nat} (hs : src < 112) (hm : d.pwr.mode ≠ .sleep ∨ d.toc.halted = true) (ctx : Nat)
    (payload : List Byte) : (d.raise src ctx payload).irqBit src = true := by
  have set (d : Dev) : (d.setStatus src).irqBit src = true := by rw [Dev.setStatus_irqBit src d (by omega)]; simp
  have hq : ((d.pwr.mode == .sleep && !d.toc.halted) || !d.sourceFitted src) = false := by
    have : ¬ 112 ≤ src := by omega
    obtain h | h := hm <;> simp [h, Dev.sourceFitted, this]
  unfold Dev.raise
  rw [hq]
  simp only [Bool.false_eq_true, if_false]
  split
  · unfold Dev.queueRecord
    dsimp only
    split
    · exact set d
    · split
      · rw [Dev.setStatus_irqBit 1 _ (by omega)]; exact Bool.or_eq_true_iff.2 (.inl (set d))
      · exact set d
  · exact set d

/-- The same for an event that concerns no context. -/
theorem Dev.emit_irqBit_self {d : Dev} {src : Nat} (hs : src < 112) (hm : d.pwr.mode ≠ .sleep ∨ d.toc.halted = true)
    (payload : List Byte) : (d.emit src payload).irqBit src = true :=
  Dev.raise_irqBit_self hs hm 0xFF payload

/-- Izosh does not run in SLEEP. -/
theorem Dev.mode_of_izosh {d : Dev} (h : d.izosh = true) : d.pwr.mode ≠ .sleep := by
  intro hm; simp [Dev.izosh, hm] at h

/-- What a row leaves whose effect is known. -/
theorem State.run_of_eq {s : State} {dt : Nat} {f : Dev → Dev} {e : Dev} (h : f (s.dev.tick dt) = e) : s.run dt f = .next (s.after dt e) := by
  rw [State.run_next, h]

/-- The same for a row whose condition holds. -/
theorem State.runIf_of_eq {s : State} {dt : Nat} {p : Dev → Bool} {f : Dev → Dev} {e : Dev} (hp : p (s.dev.tick dt) = true)
    (h : f (s.dev.tick dt) = e) : s.runIf dt p f = .next (s.after dt e) := by
  rw [State.runIf_next f hp, h]

/-- An admitted command whose body answers at once with a status that acts. -/
theorem State.command_acts {s : State} {dt op : Nat} {q : Req} {e d : Dev} {st : Status} {pl : List Byte} {body : Body}
    (h : s.admits dt op = some (q, e)) (hb : body q e = { status := st, payload := pl, dev := d }) (ha : st.acts = true)
    (hf : q.fits pl = true) : s.command dt op body = .next (s.answered dt q st pl d) := by
  rw [State.command_admitted body h, hb,
    show Res.forFabric q e { status := st, payload := pl, dev := d } = { status := st, payload := pl, dev := d } from Res.forFabric_fits e hf]
  simp [Dev.conclude, ha]; rfl

/-- An admitted command whose checks pass and that answers OK, its reply's length not varying with its parameters. -/
theorem State.command_passes {s : State} {dt op : Nat} {q : Req} {e d : Dev} {pl : List Byte} {body : Body} {l : List (Bool × Status)}
    (h : s.admits dt op = some (q, e)) (hb : body q e = checked e l (okWith pl d)) (hl : ∀ c ∈ l, c.1 = false) (hf : q.fits pl = true) :
    s.command dt op body = .next (s.answered dt q .ok pl d) :=
  State.command_ok h (hb.trans (checked_of_passes hl)) hf

/-- The reply to an opcode whose replies do not vary fits by its length alone. -/
theorem Req.fits_opcode {q : Req} {op : Nat} {pl : List Byte} (h : q.opcode = op) (hop : Req.largestReply { q with opcode := op } = 0)
    (hl : pl.length ≤ 434) : q.fits pl = true :=
  Req.fits_fixed (by rw [← h] at hop; exact hop) hl

/-- The same for an admitted packet. -/
theorem State.admits_fits {s : State} {dt op : Nat} {q : Req} {e : Dev} {pl : List Byte} (h : s.admits dt op = some (q, e))
    (hop : Req.largestReply { q with opcode := op } = 0) (hl : pl.length ≤ 434) : q.fits pl = true :=
  Req.fits_opcode (State.admits_opcode h) hop hl

end Sys2Proof.Machine
end

section
/-!
PROOF. What every row has in common: it lets its time pass, leaves the queue of commands alone and goes on. All rows but three act
once their time has passed; a loss of VDD_AON and a Round boundary set datum time themselves, and a reserved opcode may stop by name.
-/
namespace Sys2Proof.Machine

/-! ## Rows that act once their time has passed -/

/-- The row is none of the three that do more than act once their time has passed. -/
def Instr.plain : Instr → Bool
  | .vddAonBrownOut _ | .roundBoundary _ _ | .reservedOpcode _ => false
  | _ => true

/-- A plain row leaves some device at the end of its time. -/
theorem exec_plain {c : Instr} (hc : Instr.plain c = true) (s : State) : ∃ e, exec c s = .next (s.after c.delay e) := by
  cases c with
  | vddAonBrownOut _ | roundBoundary _ _ | reservedOpcode _ => cases hc
  | _ => exact ⟨_, rfl⟩

/-- A reserved opcode only runs, or stops by name. -/
theorem execReservedOpcode_run (dt : Nat) (s : State) :
    (∃ e, execReservedOpcode dt s = .next (s.after dt e)) ∨ ∃ r, execReservedOpcode dt s = .refused r := by
  unfold execReservedOpcode
  dsimp only
  split
  · split
    · exact .inl ⟨_, rfl⟩
    · split
      · exact .inr ⟨_, rfl⟩
      · exact .inl ⟨_, rfl⟩
  · exact .inl ⟨_, rfl⟩

/-- Datum time once `dt` ticks have passed, while PLL_A runs and while it is stopped (01 R28). -/
theorem Dev.later_spec (d : Dev) (dt : Nat) : (d.clk.pllA ≠ .stopped → d.later dt = d.now + dt)
    ∧ (d.clk.pllA = .stopped → d.later dt = max d.now ((d.now + dt) / 32 * 32)) :=
  ⟨fun h => if_neg h, fun h => if_pos h⟩

theorem exec_now {c : Instr} {s t : State} (h : exec c s = .next t) (hv : ∀ dt, c ≠ .vddAonBrownOut dt)
    (hr : ∀ dt inp, c ≠ .roundBoundary dt inp) : t.dev.now = s.dev.later c.delay := by
  cases hc : Instr.plain c with
  | true =>
    obtain ⟨e, he⟩ := exec_plain hc s
    rw [he] at h; injection h with h; subst h; rfl
  | false =>
    cases c with
    | vddAonBrownOut dt => exact absurd rfl (hv dt)
    | roundBoundary dt inp => exact absurd rfl (hr dt inp)
    | reservedOpcode dt =>
      obtain ⟨e, he⟩ | ⟨r, he⟩ := execReservedOpcode_run dt s
      · rw [exec_reservedOpcode, he] at h; injection h with h; subst h; rfl
      · rw [exec_reservedOpcode, he] at h; cases h
    | _ => cases hc

theorem execRoundBoundary_pending (dt : Nat) (inp : RoundIn) {s t : State} (h : execRoundBoundary dt inp s = .next t) :
    t.pending = s.pending := by
  unfold execRoundBoundary at h
  dsimp only at h
  split at h
  · injection h with h; subst h; rfl
  · rw [State.runIf, State.run_next] at h; injection h with h; subst h; rfl

theorem exec_pending {c : Instr} {s t : State} (h : exec c s = .next t) : t.pending = s.pending := by
  cases hc : Instr.plain c with
  | true =>
    obtain ⟨e, he⟩ := exec_plain hc s
    rw [he] at h; injection h with h; subst h; rfl
  | false =>
    cases c with
    | vddAonBrownOut dt => injection h with h; subst h; rfl
    | roundBoundary dt inp => exact execRoundBoundary_pending dt inp h
    | reservedOpcode dt =>
      obtain ⟨e, he⟩ | ⟨r, he⟩ := execReservedOpcode_run dt s
      · rw [exec_reservedOpcode, he] at h; injection h with h; subst h; rfl
      · rw [exec_reservedOpcode, he] at h; cases h
    | _ => cases hc

/-- Settles O1: the two equations of `step`. That an empty queue idles is DESIGN CHOICE log 6. -/
theorem stepRunsTheFrontCommand : Obligations.StepRunsTheFrontCommand :=
  ⟨fun _ _ _ => rfl, fun s h => by unfold step; rw [h]⟩

/-- Settles O2: the fields of the reset state, each at its value. That RESET_N is low is DESIGN CHOICE log 13. -/
theorem resetState : Obligations.ResetState := by
  unfold Obligations.ResetState
  refine ⟨rfl, rfl, rfl, rfl, ?routes, rfl, rfl, rfl, rfl, rfl, rfl, rfl, rfl, rfl, rfl, rfl, ?record, rfl, ?inputs, rfl, rfl, rfl⟩
  case routes => decide
  case record => exact Dev.recordHolds_of_toc rfl
  case inputs => decide

/-- Settles O3: a plain row and a reserved opcode let exactly their time pass. That datum time moves by whole REFCLK cycles while PLL_A
is stopped is DEDUCED log 113. -/
theorem queueAndDatumTime : Obligations.QueueAndDatumTime := by
  unfold Obligations.QueueAndDatumTime
  refine ⟨fun c s t h hv hr => ?_, fun c s t h => exec_pending h⟩
  rw [exec_now h hv hr]
  exact s.dev.later_spec c.delay

/-- Settles O4: every row but a reserved opcode runs, or answers a next state of its own. -/
theorem everyCommandGoesOn : Obligations.EveryCommandGoesOn := by
  unfold Obligations.EveryCommandGoesOn
  intro c s hr
  cases hc : Instr.plain c with
  | true =>
    obtain ⟨e, he⟩ := exec_plain hc s
    exact ⟨_, he⟩
  | false =>
    cases c with
    | vddAonBrownOut dt => exact ⟨_, rfl⟩
    | roundBoundary dt inp =>
      rw [exec_roundBoundary, execRoundBoundary]
      split
      · exact ⟨_, rfl⟩
      · exact ⟨_, rfl⟩
    | reservedOpcode dt => exact absurd rfl (hr dt)
    | _ => cases hc

end Sys2Proof.Machine
end

section
/-!
PROOF. Supplies, resets and the boot (chapter 03): when a waiting boot begins, what each reset leaves, the boot's stages, and the
errors on which the chip halts.
-/
namespace Sys2Proof.Machine

/-! ## The start of a boot (R74) -/

/-- Where everything holds that R74 asks for, boot begins at this moment. -/
theorem Dev.tryBoot_of_bootable {d : Dev} (h : d.pwr.bootable) :
    d.tryBoot = { d with pwr.stage := .released, pwr.bootAt := d.now } := by
  obtain ⟨hs, ha, hc, hr, ht, hf⟩ := h
  rw [Dev.tryBoot, if_pos (by simp [Dev.inReset, hs, ha, hc, hr, ht, hf])]

theorem Dev.tryBoot_of_not_bootable {d : Dev} (h : ¬ d.pwr.bootable) : d.tryBoot = d := by
  rw [Dev.tryBoot, if_neg fun hb => h (by simpa [Dev.inReset, PowerSt.bootable, and_assoc] using hb)]

/-- A row that only brings the supplies to `p` and lets R74 decide. -/
theorem State.after_tryBoot (s : State) (dt : Nat) (p : PowerSt) :
    (p.bootable → s.after dt ({ s.dev.tick dt with pwr := p } : Dev).tryBoot
      = s.after dt { s.dev with pwr := { p with stage := .released, bootAt := (s.dev.tick dt).now } })
    ∧ (¬ p.bootable → s.after dt ({ s.dev.tick dt with pwr := p } : Dev).tryBoot = s.after dt { s.dev with pwr := p }) :=
  ⟨fun h => by rw [Dev.tryBoot_of_bootable (d := { s.dev.tick dt with pwr := p }) h]; rfl,
   fun h => by rw [Dev.tryBoot_of_not_bootable (d := { s.dev.tick dt with pwr := p }) h]; rfl⟩

theorem exec_letsBoot {s : State} {dt : Nat} {p : PowerSt} {c : Instr}
    (h : exec c s = .next (s.after dt ({ s.dev.tick dt with pwr := p } : Dev).tryBoot)) :
    (p.bootable → exec c s = .next (s.after dt { s.dev with pwr := { p with stage := .released, bootAt := (s.dev.tick dt).now } }))
    ∧ (¬ p.bootable → exec c s = .next (s.after dt { s.dev with pwr := p })) :=
  ⟨fun hb => by rw [h, (s.after_tryBoot dt p).1 hb], fun hb => by rw [h, (s.after_tryBoot dt p).2 hb]⟩

/-- Settles O10: each row brings its own level and lets R74 decide; an I/O bank's row sets that bank. -/
theorem supplyRows : Obligations.SupplyRows := by
  unfold Obligations.SupplyRows
  refine ⟨fun s dt => ⟨fun hoff => ?powerOn, ?core, fun href => ?release, ?refclk, ?test⟩, fun s dt bank v hb => ?bank⟩
  case powerOn => exact exec_letsBoot ((exec_powerOn ..).trans (State.runIf_next _ (by simp [hoff])))
  case core => exact exec_letsBoot rfl
  case release => exact exec_letsBoot ((exec_resetNRelease ..).trans (State.runIf_next _ href))
  case refclk => exact exec_letsBoot rfl
  case test => exact exec_letsBoot rfl
  case bank =>
    match bank, hb with
    | 0, _ | 1, _ | 2, _ | 3, _ | 4, _ => exact ⟨rfl, rfl⟩

/-- Settles O11: a reset of either kind leaves every island as after power-on. That TEST_MODE ends a halt is DESIGN CHOICE log 115, that
the owner follows the last straps over a loss of VDD_AON is DESIGN CHOICE log 114. -/
theorem resetRowsLoseEverythingElse : Obligations.ResetRowsLoseEverythingElse := by
  unfold Obligations.ResetRowsLoseEverythingElse
  intro s dt
  refine ⟨?resetN, ?aon, ?test⟩
  case resetN =>
    obtain ⟨f, n, h, hf⟩ := Dev.reset_spec .resetN { s.dev.tick dt with pwr.resetN := false }
    refine ⟨s.after dt (Dev.reset .resetN { s.dev.tick dt with pwr.resetN := false }), rfl, ?_⟩
    rw [h]
    exact ⟨⟨rfl, rfl, rfl, rfl, rfl, rfl, rfl, rfl, rfl, rfl, rfl, rfl, rfl, rfl, rfl, rfl, rfl, rfl, rfl, rfl, rfl, hf⟩, rfl,
      by simp [State.after, PowerSt.reset], rfl⟩
  case aon =>
    obtain ⟨f, n, h, hf⟩ := Dev.reset_spec .aonLoss { s.dev.tick dt with pwr.aonOk := false }
    refine ⟨_, (exec_vddAonBrownOut ..).trans rfl, ?_⟩
    dsimp only
    rw [h]
    exact ⟨⟨rfl, rfl, rfl, rfl, rfl, rfl, rfl, rfl, rfl, rfl, rfl, rfl, rfl, rfl, rfl, rfl, rfl, rfl, rfl, rfl, rfl, hf⟩, rfl,
      by simp [PowerSt.reset]⟩
  case test =>
    obtain ⟨f, n, h, hf⟩ := Dev.reset_spec .resetN { s.dev.tick dt with pwr.testMode := true }
    refine ⟨s.after dt (Dev.reset .resetN { s.dev.tick dt with pwr.testMode := true }), rfl, ?_⟩
    rw [h]
    exact ⟨⟨rfl, rfl, rfl, rfl, rfl, rfl, rfl, rfl, rfl, rfl, rfl, rfl, rfl, rfl, rfl, rfl, rfl, rfl, rfl, rfl, rfl, hf⟩, rfl,
      fun hr => by simp [State.after, PowerSt.reset, hr], rfl⟩

/-! ## An error that halts -/

@[simp] theorem Dev.dropFuseJob_pwr (d : Dev) : d.dropFuseJob.pwr = d.pwr := by
  obtain ⟨f, n, h, -⟩ := d.dropFuseJob_spec
  rw [h]

@[simp] theorem Dev.endTwcForHalt_pwr (d : Dev) : d.endTwcForHalt.pwr = d.pwr := by
  unfold Dev.endTwcForHalt; dsimp only; repeat' split
  all_goals rfl

@[simp] theorem Dev.fabricHalts_pwr (d : Dev) : d.fabricHalts.pwr = d.pwr := by
  unfold Dev.fabricHalts Dev.sendLeaves; dsimp only; split <;> rfl

/-- Of the supplies and the boot a halt changes t_hot alone. -/
theorem Dev.halt_pwr {d : Dev} (tHot : Int) (hh : d.toc.halted = false) : (d.halt tHot).pwr = { d.pwr with tHot := tHot } := by
  have hp : ((d.setStatus 4).dropFuseJob.endTwcForHalt).ampsOff.inputsHalt.fabricHalts.pwr = d.pwr := by
    rw [Dev.fabricHalts_pwr]
    exact ((d.setStatus 4).dropFuseJob.endTwcForHalt_pwr).trans (d.setStatus 4).dropFuseJob_pwr
  rw [Dev.halt, if_neg (by simp [hh])]
  dsimp only
  rw [hp]

/-- The capture number after `n` (25 R682). -/
def nextCapture (n : Nat) : Nat := if n % 65536 = 65535 then 1 else n + 1

theorem nextCapture_ne_zero (n : Nat) : nextCapture n ≠ 0 := by
  unfold nextCapture; split <;> omega

/-- The record that error `e` fills on a device that halts with it (25 R682, R689). -/
def Dev.haltRecord (e : ErrIn) (tHot : Int) (d : Dev) : FaultRec :=
  { valid := true, halted := true, injected := false, real := true, level := e.level, cls := e.cls, region := e.region
    block := e.block, master := e.master, access := e.access, addr := e.addr, time := d.now, haltTemp := tHot
    lastSeq := d.proto.lastReady, capture := nextCapture d.toc.captures, detail := e.detail }

/-- A real error that finds no record fills it, and the device halts with it. -/
theorem Dev.errorsArrive_fills {d : Dev} {e : ErrIn} (tHot : Int) (hr : d.inReset = false) (hh : d.toc.halted = false)
    (hv : d.toc.rcd.valid = false) (he : e.injected = false) :
    (d.errorsArrive [e] tHot).toc = { d.toc with
        halted := true, alive := false, inject := none, captures := nextCapture d.toc.captures
        poisoned := (d.poison [e]).toc.poisoned, rcd := d.haltRecord e tHot }
      ∧ (d.errorsArrive [e] tHot).pwr = { d.pwr with tHot := tHot } := by
  have hf : d.recordError e = d.fillRecord e true := by simp [Dev.recordError, hv, Dev.errorHalts, he]
  rw [Dev.errorsArrive_singleton e tHot hr, show d.errorHalts e = true by simp [Dev.errorHalts, he], hf, Dev.onlyIf_true,
    Dev.halt_toc (d := (d.fillRecord e true).poison [e]) tHot hh, Dev.halt_pwr (d := (d.fillRecord e true).poison [e]) tHot hh]
  refine ⟨?_, rfl⟩
  simp [Dev.fillRecord, Dev.poison, Dev.haltRecord, nextCapture, he]

/-! ## The boot (R80) -/

/-- A row of the boot on which the device halts with class `cls`: what BootRows says of it. -/
theorem exec_haltsInBoot {s : State} {dt : Nat} {c : Instr} {e : ErrIn}
    (hs : s.dev.inReset = false) (hh : s.dev.toc.halted = false) (hv : s.dev.toc.rcd.valid = false) (he : e.injected = false)
    (h : exec c s = .next (s.after dt ((s.dev.tick dt).errorsArrive [e] s.dev.pwr.tHot))) :
    ∃ t, exec c s = .next t ∧ t.dev.toc.halted = true ∧ t.dev.toc.rcd.valid = true ∧ t.dev.toc.rcd.halted = true
      ∧ t.dev.toc.rcd.cls = e.cls ∧ t.dev.toc.rcd.time = (s.dev.tick dt).now ∧ t.dev.toc.alive = false := by
  refine ⟨_, h, ?_⟩
  have ht := (Dev.errorsArrive_fills (d := s.dev.tick dt) s.dev.pwr.tHot hs hh hv he).1
  rw [State.after]
  dsimp only
  rw [ht]
  exact ⟨rfl, rfl, rfl, rfl, rfl, rfl⟩

/-- The entry of a list that `minBy` finds is in it and smallest. -/
theorem minBy_spec {α : Type} (key : α → Nat) (l : List α) :
    (minBy key l = none → l = []) ∧ ∀ m, minBy key l = some m → m ∈ l ∧ ∀ c ∈ l, key m ≤ key c := by
  induction l with
  | nil => simp [minBy]
  | cons a l ih =>
    obtain ⟨hn, hs⟩ := ih
    rw [minBy]
    split
    · rename_i h
      simp [hn h]
    · rename_i b h
      obtain ⟨hb, hle⟩ := hs b h
      split
      · rename_i hlt
        refine ⟨fun h => by simp at h, fun m hm => ?_⟩
        obtain rfl : b = m := by simpa using hm
        exact ⟨List.mem_cons_of_mem _ hb, fun c hc => by
          obtain rfl | hc := List.mem_cons.1 hc
          · exact hlt.le
          · exact hle c hc⟩
      · rename_i hlt
        refine ⟨fun h => by simp at h, fun m hm => ?_⟩
        obtain rfl : a = m := by simpa using hm
        exact ⟨List.mem_cons_self, fun c hc => by
          obtain rfl | hc := List.mem_cons.1 hc
          · exact le_rfl
          · exact (Nat.le_of_not_lt hlt).trans (hle c hc)⟩

/-- The nonce drawn is neither zero nor the one before (08, before R238). -/
theorem drawNonce_ne (old drawn : BitVec 64) : drawNonce old drawn ≠ 0 ∧ drawNonce old drawn ≠ old := by
  unfold drawNonce
  split
  · rename_i h; simpa using h
  · split
    · rename_i h; subst h; decide
    · rename_i h; exact ⟨by decide, fun h' => h h'.symm⟩

/-! What BOOT_DONE does last leaves the boot's own results alone. -/

@[simp] theorem Dev.spaceFrom_sansEvents (b d : Dev) : (d.spaceFrom b).sansEvents = d.sansEvents :=
  Dev.onlyIf_leaves Dev.sansEvents _ (fun d => d.raise_sansEvents 2 0xFF []) d

@[simp] theorem Dev.rejoins_parts (d : Dev) :
    d.rejoins.pwr = d.pwr ∧ d.rejoins.toc = d.toc ∧ d.rejoins.sec = d.sec ∧ d.rejoins.proto = d.proto := by
  unfold Dev.rejoins Dev.restartPorts; dsimp only; split <;> exact ⟨rfl, rfl, rfl, rfl⟩

@[simp] theorem Dev.putReply_deliver (queue : Nat) (bytes : List Byte) (d : Dev) :
    (d.putReply queue bytes).proto.deliver = d.proto.deliver := by
  unfold Dev.putReply; dsimp only; split <;> simp

@[simp] theorem Dev.portReply_deliver (queue : Nat) (header : List Byte) (st : Status) (d : Dev) :
    (d.portReply queue header st).proto.deliver = d.proto.deliver := by
  unfold Dev.portReply Dev.replyDropped
  dsimp only
  split
  · exact Dev.emit_proto_deliver ..
  · simp

theorem Dev.releaseHeld_parts (d : Dev) :
    (∃ w h, d.releaseHeld.pwr = { d.pwr with wakeHeld := w, wakeHeaderOnly := h }) ∧ d.releaseHeld.toc = d.toc
      ∧ d.releaseHeld.sec = d.sec ∧ d.releaseHeld.proto.deliver = d.proto.deliver := by
  unfold Dev.releaseHeld
  split
  · exact ⟨⟨_, _, rfl⟩, rfl, rfl, rfl⟩
  · dsimp only
    repeat' split
    · exact ⟨⟨none, false, Dev.portReply_pwr ..⟩, Dev.portReply_toc .., Dev.portReply_sec .., Dev.portReply_deliver ..⟩
    · exact ⟨⟨none, false, Dev.portReply_pwr ..⟩, Dev.portReply_toc .., Dev.portReply_sec .., Dev.portReply_deliver ..⟩
    · exact ⟨⟨none, false, rfl⟩, rfl, rfl, rfl⟩
    · exact ⟨⟨none, false, rfl⟩, rfl, rfl, rfl⟩

/-- The device at BOOT_DONE, before its event and the packet held from SLEEP. -/
def Dev.bootDone (d : Dev) : Dev :=
  { d with
    pwr.stage := .done
    pwr.mode := .active
    pwr.bootCause := (minBy id d.pwr.causes).getD 0
    pwr.causes := []
    proto.deliver := (List.range 128).map fun n => if sourceDefined n then (if d.pwr.hostSel then 2 else 1) else 0
    sec.nonce := drawNonce d.sec.nonce (Config.entropy d.draws)
    toc.aliveAt := d.now
    toc.beatAt := d.now
    draws := d.draws + 1 }

/-- What BOOT_DONE leaves of the supplies, of Tocsin, of the nonce and of the delivery of events. -/
theorem exec_bootDone_next {s : State} {dt : Nat} (hh : s.dev.toc.halted = false) (hs : s.dev.pwr.stage = .romDone) :
    ∃ t, exec (.bootDone dt) s = .next t
      ∧ (∃ w h, t.dev.pwr = { (s.dev.tick dt).bootDone.pwr with wakeHeld := w, wakeHeaderOnly := h })
      ∧ t.dev.toc = (s.dev.tick dt).bootDone.toc ∧ t.dev.sec = (s.dev.tick dt).bootDone.sec
      ∧ t.dev.proto.deliver = (s.dev.tick dt).bootDone.proto.deliver := by
  refine ⟨_, (exec_bootDone ..).trans (State.runIf_next _ (by simp [Dev.bootAtStage, hs, hh])), ?_⟩
  change let e := (((s.dev.tick dt).bootDone.emit 3 []).spaceFrom (s.dev.tick dt)).rejoins.releaseHeld
    (∃ w h, e.pwr = _) ∧ e.toc = _ ∧ e.sec = _ ∧ e.proto.deliver = _
  have he : (((s.dev.tick dt).bootDone.emit 3 []).spaceFrom (s.dev.tick dt)).sansEvents = (s.dev.tick dt).bootDone.sansEvents :=
    (Dev.spaceFrom_sansEvents ..).trans (Dev.raise_sansEvents ..)
  generalize ((s.dev.tick dt).bootDone.emit 3 []).spaceFrom (s.dev.tick dt) = e at he
  obtain ⟨hp, ht, hs, hd⟩ := e.rejoins_parts
  obtain ⟨⟨w, h, hp'⟩, ht', hs', hd'⟩ := e.rejoins.releaseHeld_parts
  refine ⟨⟨w, h, ?_⟩, ht'.trans (ht.trans (congrArg Dev.toc he :)), hs'.trans (hs.trans (congrArg Dev.sec he :)),
    hd'.trans ((congrArg ProtoSt.deliver hd).trans (congrArg (ProtoSt.deliver ·.proto) he :))⟩
  rw [hp', hp, show e.pwr = (s.dev.tick dt).bootDone.pwr from (congrArg Dev.pwr he :)]

/-- Settles O12: each row at its stage, BOOT_DONE by what it fixes, and the four steps that fail by the record they fill. -/
theorem bootRows : Obligations.BootRows := by
  unfold Obligations.BootRows
  refine ⟨fun s dt hh => ⟨fun h a hst ha hr hn hs hw => ?straps, fun hst => ?fuses, fun hst => ?pll, fun hst => ?sram, fun hst => ?rom,
    fun hst => ?done⟩, fun s dt hh hv => ⟨fun hst => ?fuses', fun hst => ?pll', fun e hst => ?sram', fun hst => ?rom'⟩⟩
  case straps =>
    rw [exec_strapSampling, execStrapSampling, State.runIf_next]
    · obtain hst | hst := hst <;> simp [hst] <;> rfl
    · have hw' : (s.dev.tick dt).pwr.seenHighAt + 32 * refTicks ≤ (s.dev.tick dt).now := hw
      have hst' : (s.dev.pwr.stage == .held || s.dev.pwr.stage == .released) = true := by obtain hst | hst := hst <;> simp [hst]
      simp only [Dev.samplesStraps, Dev.tick_pwr, Dev.tick_toc] at hw' ⊢
      simp [hst', hh, ha, hr, hn, hs, hw']
  case fuses =>
    rw [exec_fuseReadDone, execFuseReadDone, State.runIf_next]
    · rfl
    · obtain hst | ⟨hst, hs⟩ := hst <;> simp [Dev.bootAtStage, *]
  case pll =>
    rw [exec_bootPllALock, execBootPllALock, State.runIf_next _ (by simp [Dev.bootAtStage, hst, hh])]; rfl
  case sram =>
    rw [exec_bootSramInitDone, execBootSramInitDone, State.runIf_next _ (by simp [Dev.bootAtStage, hst, hh])]; rfl
  case rom =>
    rw [exec_bootRomCheckDone, execBootRomCheckDone, State.runIf_next _ (by simp [Dev.bootAtStage, hst, hh])]; rfl
  case done =>
    obtain ⟨t, he, ⟨w, h, hp⟩, ht, hs, hd⟩ := exec_bootDone_next (dt := dt) hh hst
    obtain ⟨hn, hm⟩ := minBy_spec id s.dev.pwr.causes
    refine ⟨t, he, by simp [Dev.booted, hp, Dev.bootDone], by simp [hp, Dev.bootDone], by simp [hp, Dev.bootDone], fun hc => ?_,
      fun c hc => ?_, by rw [ht]; rfl, by rw [hs]; exact (drawNonce_ne _ _).1, by rw [hs]; exact (drawNonce_ne _ _).2, fun n hn hd' => ?_⟩
    · cases h : minBy id s.dev.pwr.causes with
      | none => exact absurd (hn h) hc
      | some m => simpa [hp, Dev.bootDone, h] using (hm m h).1
    · cases h : minBy id s.dev.pwr.causes with
      | none => simp [hn h] at hc
      | some m => simpa [hp, Dev.bootDone, h] using (hm m h).2 c hc
    · rw [hd]
      simp [Dev.bootDone, hn, hd']
      rfl
  case fuses' =>
    exact exec_haltsInBoot (e := chipError 0x0C 0) (by simp [Dev.inReset, hst]) hh hv rfl
      ((exec_fuseReadDone ..).trans (State.runIf_next _ (by simp [Dev.bootAtStage, hst, hh])))
  case pll' =>
    exact exec_haltsInBoot (e := chipError 0x09 1) (by simp [Dev.inReset, hst]) hh hv rfl
      ((exec_bootPllALock ..).trans (State.runIf_next _ (by simp [Dev.bootAtStage, hst, hh])))
  case sram' =>
    exact exec_haltsInBoot (e := { e with cls := 0x01, level := 0, injected := false }) (by simp [Dev.inReset, hst]) hh hv rfl
      ((exec_bootSramInitDone ..).trans (State.runIf_next _ (by simp [Dev.bootAtStage, hst, hh])))
  case rom' =>
    exact exec_haltsInBoot (e := chipError 0x0C 1) (by simp [Dev.inReset, hst]) hh hv rfl
      ((exec_bootRomCheckDone ..).trans (State.runIf_next _ (by simp [Dev.bootAtStage, hst, hh])))

/-! ## The chip's own faults -/

/-- A row on which the chip halts with an error of chip level: what ChipFaultsHalt says of it. -/
theorem exec_chipHalts {s : State} {dt cls addr : Nat} {tHot : Int} {c : Instr} {d : Dev} {e : ErrIn}
    (hs : d.inReset = false) (hh : d.toc.halted = false) (hv : d.toc.rcd.valid = false)
    (he : e.injected = false ∧ e.cls = cls ∧ e.level = 3 ∧ e.addr = addr)
    (h : exec c s = .next (s.after dt (d.errorsArrive [e] tHot))) :
    ∃ t, exec c s = .next t ∧ t.dev.toc.halted = true ∧ t.dev.toc.rcd.valid = true ∧ t.dev.toc.rcd.cls = cls
      ∧ t.dev.toc.rcd.level = 3 ∧ t.dev.toc.rcd.addr = addr ∧ t.dev.toc.rcd.capture ≠ 0 := by
  obtain ⟨hi, hc, hl, ha⟩ := he
  refine ⟨_, h, ?_⟩
  have ht := (Dev.errorsArrive_fills tHot hs hh hv hi).1
  rw [State.after]
  dsimp only
  rw [ht]
  exact ⟨rfl, rfl, hc, hl, ha, nextCapture_ne_zero _⟩

/-- REFCLK_LOSS outside reset and without a record held: it fills the record with the time of the last edge. -/
theorem exec_refclkLoss_halts {s : State} (dt ago : Nat) (hs : s.dev.inReset = false) (hh : s.dev.toc.halted = false)
    (hv : s.dev.toc.rcd.valid = false) :
    ∃ t, exec (.refclkLoss dt ago) s = .next t ∧ t.dev.toc.halted = true ∧ t.dev.toc.rcd.cls = 0x09
        ∧ t.dev.toc.rcd.addr = 0 ∧ t.dev.pwr.refclk = false ∧ t.dev.pwr.onRc = true ∧ t.dev.toc.rcd.time = (s.dev.tick dt).now - ago := by
  obtain ⟨ht, hp⟩ := Dev.errorsArrive_fills (d := Dev.setStatus 8 { s.dev.tick dt with pwr.refclk := false, pwr.onRc := true })
    (e := chipError 0x09 0) s.dev.pwr.tHot hs hh hv rfl
  refine ⟨_, rfl, ?_⟩
  dsimp only
  split
  · rename_i hr
    exact absurd (hs.symm.trans hr) (by simp)
  split
  · rename_i hr
    exact absurd (hv.symm.trans hr) (by simp)
  refine ⟨congrArg TocsinSt.halted ht, congrArg (·.rcd.cls) ht, congrArg (·.rcd.addr) ht, congrArg (·.refclk) hp, congrArg (·.onRc) hp, rfl⟩

/-- Settles O13: each row is one real error of chip level on a device that holds no record. -/
theorem chipFaultsHalt : Obligations.ChipFaultsHalt := by
  unfold Obligations.ChipFaultsHalt
  intro s dt hs hh hv
  have hclk (h : s.dev.clk.pllA ≠ .stopped) : (s.dev.tick dt).clocked = true := by simp [Dev.clocked, hh, show (s.dev.tick dt).inReset = false from hs, h]
  refine ⟨?core, fun ago => exec_refclkLoss_halts dt ago hs hh hv, fun n tHot => ?thermal, fun hc => ⟨?pllA, ?plld, fun hf => ?pllF⟩,
    fun hb hm hbeat => ?beat⟩
  case core =>
    exact exec_chipHalts (d := { s.dev.tick dt with pwr.coreOk := false }) (e := chipError 0x0A 0) hs hh hv ⟨rfl, rfl, rfl, rfl⟩ rfl
  case thermal => exact exec_chipHalts (d := s.dev.tick dt) (e := thermalError n) hs hh hv ⟨rfl, rfl, rfl, rfl⟩ rfl
  case pllA =>
    exact exec_chipHalts (d := s.dev.tick dt) (e := chipError 9 1) hs hh hv ⟨rfl, rfl, rfl, rfl⟩
      ((exec_pllALockLoss ..).trans (State.runIf_next _ (hclk hc)))
  case plld =>
    exact exec_chipHalts (d := s.dev.tick dt) (e := chipError 9 (2 + s.dev.clk.plldLive)) hs hh hv ⟨rfl, rfl, rfl, rfl⟩
      ((exec_plldLiveLockLoss ..).trans (State.runIf_next _ (hclk hc)))
  case pllF =>
    exact exec_chipHalts (d := s.dev.tick dt) (e := chipError 9 4) hs hh hv ⟨rfl, rfl, rfl, rfl⟩
      ((exec_pllFLockLoss ..).trans (State.runIf_next _ (by rw [hclk hc]; simpa using hf)))
  case beat =>
    exact exec_chipHalts (d := s.dev.tick dt) (e := chipError 0x0D 0) hs hh hv ⟨rfl, rfl, rfl, rfl⟩
      ((exec_heartbeatTimeout ..).trans (State.runIf_next _ (by
        have hz : (s.dev.tick dt).izosh = true := by simp [Dev.izosh, Dev.up, show (s.dev.tick dt).booted = true from hb, hh, hm]
        rw [hz]; exact hbeat)))

end Sys2Proof.Machine
end

section
/-!
PROOF. SLEEP and SYS_RESET as they take effect, and the commands of chapter 03.
-/
namespace Sys2Proof.Machine

/-! ## What leaves on the fabric first -/

/-- The device but for what the fabric, its clock and the events change. -/
def Dev.sansFabric (d : Dev) : Dev := { d.sansEvents with cl := {}, clk := {}, proto.fabricOut := [] }

theorem Dev.sendLeaves_eq (d : Dev) : ∃ l, d.sendLeaves = { d with cl.tx := l } := by
  unfold Dev.sendLeaves; split
  · exact ⟨d.cl.tx, rfl⟩
  · exact ⟨_, rfl⟩

theorem Dev.portsOff_sansFabric (cause : Nat) (d : Dev) : (d.portsOff cause).sansFabric = d.sansFabric := by
  have h : ∀ (l : List Nat) (d : Dev), (l.foldl (fun d p => d.portDown p cause) d).sansEvents = d.sansEvents := fun l d =>
    foldl_keeps Dev.sansEvents _ (fun d p => Dev.raise_sansEvents ..) l d
  exact (congrArg (fun d : Dev => { d with cl := {}, clk := {}, proto.fabricOut := [] }) (h d.upPorts d) :)

theorem Dev.fabricSleeps_sansFabric (d : Dev) : d.fabricSleeps.sansFabric = d.sansFabric := by
  obtain ⟨l, hl⟩ := d.sendLeaves_eq
  unfold Dev.fabricSleeps
  rw [hl]
  exact (congrArg (fun d : Dev => { d with cl := {}, clk := {}, proto.fabricOut := [] }) (Dev.portsOff_sansFabric 5 { d with cl.tx := l }) :)

/-- Settles O15: the fabric falls silent before SLEEP, whose state is built afresh from what it keeps; a SYS_RESET resets after its
LEAVE frames, and boot begins as its conditions hold. -/
theorem sleepAndResetTakeEffect : Obligations.SleepAndResetTakeEffect := by
  unfold Obligations.SleepAndResetTakeEffect
  intro s dt since due hb hh
  have hup : (s.dev.tick dt).up = true := by simp [Dev.up, show (s.dev.tick dt).booted = true from hb, hh]
  refine ⟨fun hm hs hd => ?sleep, fun scope hr hdue ha hc hn ht hf => ?reset⟩
  case sleep =>
    have hf := (s.dev.tick dt).fabricSleeps_sansFabric
    have hx : exec (.sleepEntry dt) s = .next (s.after dt (s.dev.tick dt).fabricSleeps.enterSleep) := by
      rw [exec_sleepEntry, execSleepEntry, State.runIf_next _ (by simp [Dev.active, hup, hm])]
      simp [hs, hd]
    generalize (s.dev.tick dt).fabricSleeps = g at hf hx
    refine ⟨s.after dt g.enterSleep, hx, rfl, rfl, rfl, rfl, rfl, rfl, rfl, rfl, rfl, ?_⟩
    exact ⟨(congrArg (·.cal.vals) hf :), (congrArg (·.cal.syn0) hf :), (congrArg (·.cal.syn1) hf :), (congrArg (·.toc.rcd) hf :),
      (congrArg (·.pwr.hostSel) hf :), (congrArg (·.pwr.twAddr) hf :), (congrArg (·.regs.twCfg) hf :), (congrArg (·.regs.irqEnable) hf :),
      (congrArg (·.proto.owner) hf :), (congrArg (·.sec.fuses) hf :), rfl, rfl, rfl⟩
  case reset =>
    obtain ⟨l, hl⟩ := (s.dev.tick dt).sendLeaves_eq
    obtain ⟨f, n, h, -⟩ := Dev.reset_spec (if scope = 1 then .restart else .full) (s.dev.tick dt).sendLeaves.ampsOff
    have hbt : ((s.dev.tick dt).sendLeaves.ampsOff.reset (if scope = 1 then .restart else .full)).pwr.bootable := by
      rw [h, hl]; exact ⟨rfl, ha, hc, hn, ht, hf⟩
    refine ⟨s.after dt ((s.dev.tick dt).sendLeaves.ampsOff.reset (if scope = 1 then .restart else .full)).tryBoot, ?_, ?_⟩
    · rw [exec_sysResetTakesEffect, execSysResetTakesEffect, State.runIf_next _ hup]
      simp [hr, hdue]
    · rw [Dev.tryBoot_of_bootable hbt, h]
      refine ⟨rfl, rfl, rfl, rfl, rfl, ?_, ?_, ?_, ?_, fun h1 => ?_, fun h1 => ?_⟩
      · rw [hl]; by_cases h1 : scope = 1 <;> simp [State.after, h1] <;> rfl
      · rw [hl]; rfl
      · rw [hl]; rfl
      · rw [hl]; by_cases h1 : scope = 1 <;> simp [State.after, h1, PowerSt.reset, Dev.ampsOff, hn]
      · rw [hl]; subst h1; exact ⟨rfl, rfl, rfl⟩
      · rw [hl, if_neg h1]; exact ⟨rfl, rfl⟩

/-! ## Host commands (R94-R98) -/

theorem Dev.infoPayload_length (d : Dev) : d.infoPayload.length = 32 := by simp [Dev.infoPayload]

/-- Settles O16: each command by its checks, all of which pass, and its result. That SYS_TEMP stores what the sensors show now is
DEDUCED log 20, that the 5 ms of a WATCH entry count as ACTIVE is DESIGN CHOICE log 118. -/
theorem systemCommands : Obligations.SystemCommands := by
  unfold Obligations.SystemCommands
  intro s dt q e hq
  refine ⟨fun h hl => ⟨?info, Dev.infoPayload_length e⟩, fun tHot tAvg h hl => ?temp, fun h hl hz hs => ⟨fun ht ho hj hc hp hw => ?sleep,
    fun ht hw => ?active, fun ht hw => ?watch⟩, fun h hl hsc hz hs hj hw => ?reset⟩
  case info =>
    exact State.command_passes h rfl (by simp [hl, hq]) (State.admits_fits h rfl (by simp [Dev.infoPayload_length]))
  case temp =>
    exact State.command_passes h rfl (by simp [hl, hq]) (State.admits_fits h rfl (by
      simp only [List.length_append, flatMap_length_const (n := 2) _ (fun _ _ => s16_length _)]; simp))
  case sleep =>
    refine State.command_ok h ?_ (State.admits_fits h rfl (by simp))
    unfold sysPowerBody
    rw [checked_of_passes (by simp [hl, hq, ht, hz, Req.notSystem, hs, ho, hj, hc, hp, hw])]
    simp [ht, ok]
  case active =>
    refine State.command_ok h ?_ (State.admits_fits h rfl (by simp))
    unfold sysPowerBody
    rw [checked_of_passes (by simp [hl, hq, ht, hz, Req.notSystem, hs])]
    simp [ht, hw, ok]
  case watch =>
    refine State.command_ok h ?_ (State.admits_fits h rfl (by simp))
    unfold sysPowerBody
    rw [checked_of_passes (by simp [hl, hq, ht, hz, Req.notSystem, hs])]
    simp [ht, hw, ok]
  case reset =>
    refine State.command_passes h rfl ?_ (State.admits_fits h rfl (by simp))
    obtain hsc | hsc := hsc <;> simp [hl, hq, hsc, hz, Req.notSystem, hs, hj, hw]

end Sys2Proof.Machine
end

section
/-!
PROOF. The direct register window and the SPI port (chapter 05).
-/
namespace Sys2Proof.Machine

/-! ## Status bits that a write of 1 clears (R147, R148) -/

theorem Dev.gpioRelease_eq (d : Dev) : ∃ w, d.gpioRelease = { d with watch := w } := by
  unfold Dev.gpioRelease; split
  · exact ⟨_, rfl⟩
  · exact ⟨d.watch, rfl⟩

/-- A word moved to register `g` of four: the bits of register `g`, zero elsewhere. -/
theorem wordAt_getLsbD (v : Word) {g n : Nat} (hn : n < 128) :
    ((v.zeroExtend 128) <<< (32 * g)).getLsbD n = (n / 32 == g && v.getLsbD (n % 32)) := by
  rw [BitVec.getLsbD_shiftLeft, BitVec.getLsbD_setWidth]
  by_cases hg : n / 32 = g
  · have hlt : ¬ n < 32 * g := by omega
    have hm : n - 32 * g = n % 32 := by omega
    have h128 : n % 32 < 128 := by omega
    simp [hn, hg, hlt, hm, h128]
  · by_cases hlt : n < 32 * g
    · simp [hg, hlt]
    · have hge : 32 ≤ n - 32 * g := by omega
      simp [hg, BitVec.getLsbD_of_ge v _ hge]

/-- Clearing all of `m` but what is new leaves what was set and is new or not in `m`. -/
theorem getLsbD_clear {w : Nat} (x m new : BitVec w) {n : Nat} (hn : n < w) :
    (x &&& ~~~(m &&& ~~~new)).getLsbD n = (x.getLsbD n && (new.getLsbD n || !m.getLsbD n)) := by
  simp only [BitVec.getLsbD_and, BitVec.getLsbD_not, hn]
  cases x.getLsbD n <;> cases m.getLsbD n <;> cases new.getLsbD n <;> rfl

/-- Settles O17: each write clears, in its own register, exactly the bits written as 1 that no setting on the same edge keeps. -/
theorem writingOneClears : Obligations.WritingOneClears := by
  unfold Obligations.WritingOneClears
  intro s dt port v hp d edge noQueue
  have ht : d.takesWrites = true := hp
  refine ⟨fun g _ => ⟨s.after dt (d.clearIrq g v), rfl, ?irq⟩, ⟨s.after dt (d.clearSys v), rfl, ?sys⟩, ⟨s.after dt (d.clearTw v), rfl, ?tw⟩⟩
  case irq =>
    unfold Dev.clearIrq
    rw [if_pos ht]
    dsimp only
    obtain ⟨w, hw⟩ := Dev.gpioRelease_eq { d with
      regs.irqStatus := d.regs.irqStatus &&& ~~~(((v.zeroExtend 128) <<< (32 * g)) &&& ~~~(d.regs.onEdge d.edge).irqNew) }
    rw [hw]
    refine ⟨fun n hn => ?_, rfl, rfl, rfl, rfl, rfl, rfl⟩
    exact (getLsbD_clear _ _ _ hn).trans (by rw [wordAt_getLsbD v hn]; rfl)
  case sys =>
    unfold Dev.clearSys
    rw [if_pos ht]
    refine ⟨fun k hk => (getLsbD_clear _ _ _ hk).trans ?_, rfl, rfl, rfl, rfl, rfl, rfl⟩
    rw [BitVec.getLsbD_extractLsb']; simp only [hk, decide_true, Bool.true_and]; rfl
  case tw =>
    unfold Dev.clearTw
    rw [if_pos ht]
    refine ⟨fun k hk => (getLsbD_clear _ _ _ hk).trans ?_, rfl, rfl, rfl, rfl, rfl, rfl⟩
    rw [BitVec.getLsbD_extractLsb']; simp only [hk, decide_true, Bool.true_and]; rfl

/-! ## Registers that the owner's port writes (R145, R150) -/

/-- A write from the owner's port outside a halt takes effect. -/
theorem Dev.ownedWrite_owner {d : Dev} (hp : d.portAnswers = true) (hh : d.toc.halted = false) (f : Dev → Dev) :
    Dev.ownedWrite d.ownerPort f d = f d := by
  unfold Dev.ownedWrite Dev.takesWrites; simp [hp, hh]

/-- From the other port it only sets the flag. -/
theorem Dev.ownedWrite_other {d : Dev} {port : RegPort} (hp : d.portAnswers = true) (hh : d.toc.halted = false) (ho : port ≠ d.ownerPort)
    (f : Dev → Dev) : Dev.ownedWrite port f d = d.flagSys 0x10 := by
  unfold Dev.ownedWrite Dev.takesWrites; simp [hp, hh, ho]

/-- A write to IRQ_ENABLEg. -/
theorem Dev.writeReg_enable (port : RegPort) {g : Nat} (hg : g < 4) (v : Word) (d : Dev) :
    d.writeReg port (0x50 + 4 * g) v = Dev.ownedWrite port (Dev.writeEnable g v) d := by
  have ha : 4 * ((0x50 + 4 * g) / 4) = 0x50 + 4 * g := by omega
  have hi : (0x50 + 4 * g - 0x50) / 4 = g := by omega
  unfold Dev.writeReg
  dsimp only
  rw [ha, if_neg (by omega), if_pos (by omega), hi]

/-- A write to IRQ_ROUTE. -/
theorem Dev.writeReg_route (port : RegPort) (v : Word) (d : Dev) :
    d.writeReg port 0x60 v = Dev.ownedWrite port (fun d => { d with regs.irqRoute := v }) d := rfl

theorem Dev.writeEnable_enabled (g : Nat) (v : Word) (d : Dev) {n : Nat} (hn : n < 128) :
    (Dev.writeEnable g v d).irqEnabled n = if n / 32 = g then v.getLsbD (n % 32) else d.irqEnabled n := by
  have hones : (0xFFFFFFFF : Word).getLsbD (n % 32) = true := by
    have h : n % 32 < 32 := Nat.mod_lt _ (by omega)
    interval_cases n % 32 <;> rfl
  have hmask := wordAt_getLsbD 0xFFFFFFFF (g := g) hn
  rw [hones, Bool.and_true] at hmask
  show ((d.regs.irqEnable &&& ~~~((BitVec.zeroExtend 128 (0xFFFFFFFF : Word)) <<< (32 * g))) ||| (v.zeroExtend 128) <<< (32 * g)).getLsbD n = _
  rw [BitVec.getLsbD_or, BitVec.getLsbD_and, BitVec.getLsbD_not, hmask, wordAt_getLsbD v hn]
  by_cases h : n / 32 = g
  · simp [h, hn]
  · simp [beq_eq_false_iff_ne.2 h, h, hn, Dev.irqEnabled]

/-- Settles O18: the owner's port writes its register, or four in a row; any other port's write is denied. -/
theorem ownedRegisterWrites : Obligations.OwnedRegisterWrites := by
  unfold Obligations.OwnedRegisterWrites
  intro s dt port v hp hh d
  have owner (e : Dev) (he : e.portAnswers = true) (hh : e.toc.halted = false) (f : Dev → Dev) : Dev.ownedWrite e.ownerPort f e = f e :=
    Dev.ownedWrite_owner he hh f
  refine ⟨fun ho => ⟨fun g hg => ⟨s.after dt (Dev.writeEnable g v d), ?one, fun n hn => Dev.writeEnable_enabled g v d hn, rfl⟩,
    fun a b c e => ⟨s.after dt (Dev.writeEnable 3 e (Dev.writeEnable 2 c (Dev.writeEnable 1 b (Dev.writeEnable 0 a d)))), ?four, fun n hn => ?bits,
      rfl⟩, ?route, fun hv => ?reserved, fun hv => ⟨fun hc => ?cfg, fun hc hv5 => ?abort⟩⟩, fun ho c hc => ?denied⟩
  case one =>
    subst ho
    exact State.run_of_eq ((Dev.writeReg_enable _ hg v d).trans (owner d hp hh _))
  case four =>
    subst ho
    have h0 := fun d : Dev => Dev.writeReg_enable s.dev.ownerPort (g := 0) (by omega) a d
    have h1 := fun d : Dev => Dev.writeReg_enable s.dev.ownerPort (g := 1) (by omega) b d
    have h2 := fun d : Dev => Dev.writeReg_enable s.dev.ownerPort (g := 2) (by omega) c d
    have h3 := fun d : Dev => Dev.writeReg_enable s.dev.ownerPort (g := 3) (by omega) e d
    simp only [Nat.reduceMul, Nat.reduceAdd] at h0 h1 h2 h3
    rw [exec_registerWrite, execRegisterWrite, State.run_next]
    simp only [Dev.writeRegs, Nat.reduceAdd, h0, h1, h2, h3]
    rw [show Dev.ownedWrite s.dev.ownerPort (Dev.writeEnable 0 a) (s.dev.tick dt) = _ from owner d hp hh _,
      show Dev.ownedWrite s.dev.ownerPort (Dev.writeEnable 1 b) (Dev.writeEnable 0 a d) = _ from owner (Dev.writeEnable 0 a d) hp hh _,
      show Dev.ownedWrite s.dev.ownerPort (Dev.writeEnable 2 c) (Dev.writeEnable 1 b (Dev.writeEnable 0 a d)) = _ from
        owner (Dev.writeEnable 1 b (Dev.writeEnable 0 a d)) hp hh _,
      show Dev.ownedWrite s.dev.ownerPort (Dev.writeEnable 3 e) (Dev.writeEnable 2 c (Dev.writeEnable 1 b (Dev.writeEnable 0 a d))) = _ from
        owner (Dev.writeEnable 2 c (Dev.writeEnable 1 b (Dev.writeEnable 0 a d))) hp hh _]
  case bits =>
    show (Dev.writeEnable 3 e (Dev.writeEnable 2 c (Dev.writeEnable 1 b (Dev.writeEnable 0 a d)))).irqEnabled n = _
    simp only [Dev.writeEnable_enabled _ _ _ hn]
    have hg : n / 32 < 4 := by omega
    interval_cases n / 32 <;> rfl
  case route =>
    subst ho
    exact State.run_of_eq ((Dev.writeReg_route _ v d).trans (owner d hp hh _))
  case reserved =>
    subst ho
    refine State.run_of_eq ((owner d hp hh _).trans ?_)
    unfold Dev.writeTwCfg; rw [if_pos hv]
  case cfg =>
    subst ho
    refine State.run_of_eq ((owner d hp hh _).trans ?_)
    unfold Dev.writeTwCfg; rw [if_neg hv]
    dsimp only
    split
    · rename_i h
      rw [Bool.and_eq_true, Bool.not_eq_true'] at h
      obtain ⟨h1, h2⟩ := h
      obtain hc | hc := hc
      · exact absurd (h1.symm.trans hc) (by decide)
      · refine absurd (h2.symm.trans (?_ : (v.extractLsb' 0 9).getLsbD 5 = true)) (by decide)
        rw [BitVec.getLsbD_extractLsb']; simpa using hc
    · rfl
  case abort =>
    subst ho
    refine State.run_of_eq ((owner d hp hh _).trans ?_)
    unfold Dev.writeTwCfg; rw [if_neg hv]
    dsimp only
    have hn : ({ d with regs.twCfg := v.extractLsb' 0 9 } : Dev).ctrlEn = false := by
      show (v.extractLsb' 0 9).getLsbD 5 = false
      rw [BitVec.getLsbD_extractLsb']; simpa using hv5
    rw [hn, show d.ctrlEn = true from hc]; rfl
  case denied =>
    have other (f : Dev → Dev) : Dev.ownedWrite port f d = d.flagSys 0x10 := Dev.ownedWrite_other (d := d) hp hh ho f
    obtain rfl | rfl | ⟨g, hg, rfl⟩ := hc
    · exact State.run_of_eq ((Dev.writeReg_route _ v d).trans (other _))
    · exact State.run_of_eq (other _)
    · exact State.run_of_eq ((Dev.writeReg_enable _ hg v d).trans (other _))

/-! ## SPI instructions (R135-R142, R151) -/

/-- The stream that waits on no queue is not woken by room. -/
theorem Dev.roomAgain_of_none {d : Dev} (k : Nat) (h : d.proto.waitOn = none) : d.roomAgain k = d := by
  unfold Dev.roomAgain; rw [h]

/-- A record for the SPI port alone leaves Q4 once the port has taken it. -/
theorem takeRecords_spi {r : EvtRec} (hs : r.forSpi = true) (ht : r.forTw = false) (l : List EvtRec) : takeRecords true 1 (r :: l) = l := by
  cases l <;> simp [takeRecords, hs, ht, EvtRec.held]

/-- Bytes `off` to `off` + n of what a pull sends are those of its content, where both are that long. -/
theorem pulled_slice {n off k : Nat} {a b c : List Byte} (ha : a.length = off) (hb : b.length = k) (hn : off + k ≤ n) :
    ((pulled n (a ++ (b ++ c))).drop off).take k = b := by
  subst ha hb
  unfold pulled padTo
  rw [List.drop_append_of_le_length (by simp; omega), List.take_append_of_le_length (by simp; omega), List.drop_take, List.take_take,
    List.drop_left, Nat.min_eq_left (by omega), List.take_left]

/-- While a SLEEP entry is under way, and in no halt, nothing fits. -/
theorem Dev.sleepSince_of_cmdqFree {d : Dev} (hb : d.booted = true) (hl : d.sleeping = false) (h : 0 < d.cmdqFree) :
    d.pwr.sleepSince.isSome = false := by
  by_contra hc
  rw [Bool.not_eq_false] at hc
  simp [Dev.cmdqFree, hb, hl, hc] at h

theorem packetLength_pos (b : List Byte) : 10 ≤ packetLength b := by unfold packetLength; omega

/-- The port's copies of one or two registers. -/
theorem Dev.readRegs_one (a : Nat) (d : Dev) : d.readRegs a 1 =
    ({ d with regs.spiOut := (leBytes 4 (d.readReg a).toNat).reverse } : Dev).readEffect a := by
  unfold Dev.readRegs Dev.readOne
  rfl

theorem Dev.readEffect_spiOut (a : Nat) (d : Dev) : (d.readEffect a).regs.spiOut = d.regs.spiOut := by
  unfold Dev.readEffect; split <;> rfl

/-- Once booted, or in a halt, every register answers. -/
theorem Dev.readReg_of_open {d : Dev} (h : d.booted = true ∨ d.toc.halted = true) (a : Nat) :
    d.readReg a = BitVec.ofNat 32 (d.regValue (4 * (a / 4))) := by
  have hp : d.portAnswers = true := by
    unfold Dev.portAnswers Dev.fuseValid
    obtain h | h := h
    · have hs : d.pwr.stage = .done := beq_iff_eq.1 h
      simp [hs]
    · simp [h]
  unfold Dev.readReg
  obtain h | h := h <;> simp [hp, h]

theorem Dev.regValue_timeLo (d : Dev) : d.regValue 0x0210 = d.toc.rcd.time % 2 ^ 32 := rfl

theorem Dev.regValue_timeHi {d : Dev} {w : Word} (h : d.regs.timeHi = some w) : d.regValue 0x0214 = w.toNat := by
  show d.mirror 5 = _
  show (match d.regs.timeHi with | some w => w.toNat | none => d.toc.rcd.time / 2 ^ 32) = _
  rw [h]

/-- TIME_LO and TIME_HI read in one transaction: the second is what the first one latched. -/
theorem Dev.readRegs_time {d : Dev} (h : d.booted = true ∨ d.toc.halted = true) : (d.readRegs 0x0210 2).regs.spiOut =
    (leBytes 4 (d.toc.rcd.time % 2 ^ 32)).reverse ++ (leBytes 4 (d.toc.rcd.time / 2 ^ 32 % 2 ^ 32)).reverse := by
  have h2 : d.readRegs 0x0210 2 = (d.readRegs 0x0210 1).readOne 0x0214 := rfl
  rw [h2, Dev.readRegs_one]
  generalize he : Dev.readEffect 0x0210 { d with regs.spiOut := (leBytes 4 (d.readReg 0x0210).toNat).reverse } = e
  have hte : e.regs.timeHi = some (BitVec.ofNat 32 (d.toc.rcd.time / 2 ^ 32)) := by subst he; rfl
  have hoe : e.booted = true ∨ e.toc.halted = true := by subst he; exact h
  have hse : e.regs.spiOut = (leBytes 4 (d.readReg 0x0210).toNat).reverse := by subst he; rfl
  unfold Dev.readOne
  rw [Dev.readEffect_spiOut, hse, Dev.readReg_of_open h, Dev.readReg_of_open hoe]
  rw [show 4 * (0x0210 / 4) = 0x0210 from rfl, show 4 * (0x0214 / 4) = 0x0214 from rfl, Dev.regValue_timeLo, Dev.regValue_timeHi hte]
  simp only [BitVec.toNat_ofNat, Nat.mod_mod]

/-- Booted, in no halt and not asleep, the port hands its packet to the queue. -/
theorem exec_push {s : State} (dt : Nat) (b : List Byte) (hb : s.dev.booted = true) (hh : s.dev.toc.halted = false)
    (hl : s.dev.sleeping = false) :
    exec (.spiCmdPush dt b) s = .next (s.after dt (Dev.pushPacket b { s.dev.tick dt with regs.spiOut := [] })) := by
  have hr : (!(s.dev.tick dt).inReset) = true := by
    have hs : s.dev.pwr.stage = .done := beq_iff_eq.1 hb
    simp [Dev.inReset, Dev.tick, hs]
  refine (exec_spiCmdPush ..).trans (State.runIf_of_eq hr ?_)
  simp only [show (s.dev.tick dt).toc.halted = false from hh, show (s.dev.tick dt).booted = true from hb,
    show (s.dev.tick dt).sleeping = false from hl, Bool.not_true, Bool.false_eq_true, if_false]

/-- A whole good packet that fits enters Q0. -/
theorem Dev.pushPacket_whole {d : Dev} {b : List Byte} (hb : d.booted = true) (hl : d.sleeping = false) (hlen : b.length = packetLength b)
    (h16 : at16 b 6 ≤ 1024) (hf : packetLength b ≤ d.cmdqFree) (hc : crcGood b = true) :
    d.pushPacket b = { d with proto.q0 := d.proto.q0 ++ [{ src := .spi, doneAt := d.now, bytes := b }] } := by
  have hpos := packetLength_pos b
  have hss := Dev.sleepSince_of_cmdqFree hb hl (by omega)
  have hne : b.isEmpty = false := by cases b with | nil => simp at hlen; omega | cons _ _ => rfl
  have h8 : ¬ packetLength b < 8 := by omega
  unfold Dev.pushPacket
  simp [hne, hlen, h8, hss, Nat.not_lt.2 h16, Nat.not_lt.2 hf, hc]

/-- Settles O19: what each instruction sends and takes, and a CMD_PUSH by the first of its checks that decides. That READ_REG comes as
TOCSIN_TIME_LO_READ is DESIGN CHOICE log 121, that a row whose condition does not hold only lets its time pass log 7. -/
theorem spiInstructions : Obligations.SpiInstructions := by
  unfold Obligations.SpiInstructions
  constructor
  · intro s dt hr d
    have hrd : (!(s.dev.tick dt).inReset) = true := by rw [Bool.not_eq_true']; exact hr
    refine ⟨?fast, fun b hp hb => ?unknown, fun b hb => ?known, fun n r rest hd hq hne hn hw => ?whole, fun n hn hd => ?part,
      fun n r rest hi hq hsp htw hn hn2 => ?evt, fun b hb hh hl hlen h8 h16 hfree hcrc => ?push,
      ?lo, fun a => ⟨s.after dt (d.readRegs a 1), ?reg, ?one⟩, fun ho => ⟨s.after dt (d.readRegs 0x0210 2), ?two, Dev.readRegs_time (d := d) ho⟩⟩
    case fast => exact (exec_spiFastStatus ..).trans (State.runIf_next _ hrd)
    case lo => exact (exec_tocsinTimeLoRead s dt 0x0210 1).trans ((State.runIf_next _ hrd).trans (by rw [Dev.readRegs_one]; rfl))
    case reg => exact (exec_tocsinTimeLoRead ..).trans (State.runIf_next _ hrd)
    case two => exact (exec_tocsinTimeLoRead ..).trans (State.runIf_next _ hrd)
    case unknown =>
      refine (exec_spiUnknownInstruction ..).trans (State.runIf_of_eq (by rw [hrd, hb]; rfl) ?_)
      rw [show (s.dev.tick dt).portAnswers = true from hp]; rfl
    case known =>
      refine (exec_spiUnknownInstruction ..).trans (State.runIf_skip _ ?_)
      rw [hrd]; cases h : spiInstr b with
      | none => exact absurd h hb
      | some _ => rfl
    case whole =>
      refine (exec_spiRspPull ..).trans (State.runIf_of_eq hrd ?_)
      have hq' : (s.dev.tick dt).proto.q1 = r :: rest := hq
      have hcond : (!r.isEmpty && decide (3 + r.length ≤ n)) = true := by simp [hne, hn]
      simp only [show (s.dev.tick dt).deliversReplies = true from hd, if_true, hq', List.headD_cons, hcond, List.drop_one, List.tail_cons]
      exact Dev.roomAgain_of_none 1 hw
    case part =>
      refine (exec_spiRspPull ..).trans (State.runIf_of_eq hrd ?_)
      have hcond : (!((s.dev.tick dt).proto.q1.headD []).isEmpty && decide (3 + ((s.dev.tick dt).proto.q1.headD []).length ≤ n)) = false := by
        change s.dev.proto.q1.headD [] = [] ∨ _ at hn
        change (!(s.dev.proto.q1.headD []).isEmpty && decide (3 + (s.dev.proto.q1.headD []).length ≤ n)) = false
        obtain h | h := hn
        · rw [h]; rfl
        · rw [decide_eq_false (Nat.not_le.2 h), Bool.and_false]
      simp only [show (s.dev.tick dt).deliversReplies = true from hd, if_true, hcond, Bool.false_eq_true, if_false]
      rfl
    case evt =>
      have hrec : d.recordsFor true = r :: rest.filter (·.forSpi) := by
        unfold Dev.recordsFor
        rw [show d.delivers = true from hi, show d.proto.q4 = r :: rest from hq]
        simp [hsp]
      refine ⟨_, (exec_spiEvtPull ..).trans (State.runIf_next _ hrd), ?_, fun hlen => ?_⟩
      · show takeRecords true (min (d.recordsFor true).length ((n - 3) / 64)) s.dev.proto.q4 = rest
        have h1 : min (d.recordsFor true).length ((n - 3) / 64) = 1 := by rw [hrec, List.length_cons]; omega
        rw [h1, hq, takeRecords_spi hsp htw]
      · show ((pulled (n - 1) (u16 (d.recordsFor true).length ++ (d.recordsFor true).flatMap (·.bytes))).drop 2).take 64 = r.bytes
        rw [hrec, List.flatMap_cons]
        exact pulled_slice (u16_length _) hlen (by omega)
    case push =>
      refine (exec_push dt b hb hh hl).trans ?_
      rw [Dev.pushPacket_whole (d := { s.dev.tick dt with regs.spiOut := [] }) hb hl hlen h16 hfree hcrc]
    case one =>
      exact (congrArg (·.regs.spiOut) (Dev.readRegs_one a d)).trans (Dev.readEffect_spiOut a _)
  · intro s dt b hb hh hl hne d
    have push {e : Dev} (h : d.pushPacket b = e) : exec (.spiCmdPush dt b) s = .next (s.after dt e) := by
      rw [exec_push dt b hb hh hl, ← h]
    have hne : b.isEmpty = false := List.isEmpty_eq_false_iff.2 hne
    have hdh : d.toc.halted = false := hh
    have free (h : packetLength b ≤ s.dev.cmdqFree) : d.pwr.sleepSince.isSome = false :=
      Dev.sleepSince_of_cmdqFree (d := s.dev) hb hl (by have := packetLength_pos b; omega)
    refine ⟨fun h8 => push ?_, fun h8 hs => push ?_, fun h8 h16 hf => push ?_, fun h8 hs h16 => push ?_, fun h8 h16 hf hlen => push ?_,
      fun h8 h16 hf hlen hcrc => push ?_⟩
    all_goals unfold Dev.pushPacket
    · simp [hne, h8]
    · simp [hne, Nat.not_lt.2 h8, show d.pwr.sleepSince.isSome = true from hs, hdh]
    · simp [hne, Nat.not_lt.2 h8, Nat.not_lt.2 h16, show d.cmdqFree < packetLength b from hf]
    · simp [hne, Nat.not_lt.2 h8, show d.pwr.sleepSince = none from hs, h16]
    · simp [hne, Nat.not_lt.2 h8, free hf, Nat.not_lt.2 h16, Nat.not_lt.2 (show packetLength b ≤ d.cmdqFree from hf), hlen]
    · have h8 : ¬ packetLength b < 8 := by omega
      simp [hne, h8, free hf, Nat.not_lt.2 h16, Nat.not_lt.2 (show packetLength b ≤ d.cmdqFree from hf), hlen, hcrc]

end Sys2Proof.Machine
end

section
/-!
PROOF. The two-wire target (chapter 06).
-/
namespace Sys2Proof.Machine

/-- Held in reset and halted at once, the target's address enabled. No run reaches it: every reset ends a halt. -/
def heldInHalt : State := { dev := { toc := { halted := true }, regs := { twCfg := 0x10 } }, pending := [] }

/-- Refutes O20: its first part asks only that the target answers, which a device does in a halt. In a state that is halted and held in
reset at once the rows still only let time pass: a START then leaves the bus free. -/
theorem not_twoWireTarget : ¬ Obligations.TwoWireTarget := by
  unfold Obligations.TwoWireTarget
  intro h
  obtain ⟨-, -, -, -, -, -, -, -, -, -, -, hstart⟩ := h.1 heldInHalt 0 rfl
  injection hstart with ht
  exact absurd (congrArg (fun t : State => t.dev.tw.busBusy) ht) (by decide)

end Sys2Proof.Machine
end

section
/-!
PROOF. The two-wire controller (chapter 06, R175-R187).
-/
namespace Sys2Proof.Machine

/-- With no EEPROM read waiting, none starts. -/
theorem Dev.pumpEep_of_none {d : Dev} (h : d.rf.eepQueue = []) : d.pumpEep = d := by
  unfold Dev.pumpEep; rw [h]
  split
  · rfl
  · split <;> rfl

/-- A transfer of the host ends with its result. -/
theorem Dev.twcEnd_host {d : Dev} {r : TwcReq} (hr : d.twc.req = some r) (hi : r.input = none) (hq : d.rf.eepQueue = [])
    (result n : Nat) (l : List Byte) : d.twcEnd result n l = { d with twc := { d.twc with
      state := 0, req := none, result := result, wrDone := min n r.wr.length, rdData := l.take r.rdLen } } := by
  unfold Dev.twcEnd; rw [hr]; dsimp only; rw [hi]
  exact Dev.pumpEep_of_none hq

/-- An EEPROM read ends at its input, which shows how. -/
theorem Dev.eepDone_state {d : Dev} {i : Nat} (hi : i < d.rf.inputs.length) (st : Nat) (bytes : List Byte) :
    ((d.eepDone i st bytes).inp i).amp.eepState = st := by
  refine (congrArg (fun x : InputSt => x.amp.eepState) (getD_upd_same d.rf.inputs i _ {} hi)).trans ?_
  dsimp only
  split <;> rfl

theorem Dev.twcEnd_eep {d : Dev} {r : TwcReq} {i : Nat} (hr : d.twc.req = some r) (hi : r.input = some i) (hq : d.rf.eepQueue = [])
    (result n : Nat) (l : List Byte) : d.twcEnd result n l = ({ d with twc.state := 0, twc.req := none } : Dev).eepDone i
      (if result = 1 then 1 else if result = 2 ∨ result = 3 then 2 else 4) (if result = 1 then l.take 32 else []) := by
  unfold Dev.twcEnd; rw [hr]; dsimp only; rw [hi]
  exact Dev.pumpEep_of_none (by show d.rf.eepQueue.erase i = []; rw [hq]; rfl)

theorem Dev.twcPayload_length (d : Dev) : d.twcPayload.length = 40 := by simp [Dev.twcPayload]

/-- A lost arbitration noted in a transfer `r` of the host, before the transfer waits or ends (R177, R186). -/
def Dev.lossNoted (y i : Nat) (l : List Byte) (r : TwcReq) (d : Dev) : Dev :=
  ({ d.flagTw 1 with
      twc.arbLosses := d.twc.arbLosses + 1, twc.wrDone := min (y - 1) r.wr.length
      twc.rdData := l.take (min (y - 1 - r.wr.length) r.rdLen) } : Dev).emit 16
    (u16 d.xferNo ++ u8 d.twc.attempts ++ u8 y ++ u8 i)

theorem Dev.lossNoted_twRws (y i : Nat) (l : List Byte) (r : TwcReq) (d : Dev) : (d.lossNoted y i l r).regs.twRws.getLsbD 0 = true := by
  unfold Dev.lossNoted
  rw [Dev.emit_regs_twRws]
  show (Dev.flagTw 1 d).regs.twRws.getLsbD 0 = true
  rw [Dev.flagTw_twRws, BitVec.getLsbD_or]; simp

theorem Dev.lossNoted_irqBit (y i : Nat) (l : List Byte) (r : TwcReq) (d : Dev) (hm : d.pwr.mode ≠ .sleep) :
    (d.lossNoted y i l r).irqBit 16 = true := by
  unfold Dev.lossNoted
  refine Dev.emit_irqBit_self (by omega) ?_ _
  exact .inl hm

theorem Dev.lossNoted_twc (y i : Nat) (l : List Byte) (r : TwcReq) (d : Dev) : (d.lossNoted y i l r).twc = { d.twc with
    arbLosses := d.twc.arbLosses + 1, wrDone := min (y - 1) r.wr.length, rdData := l.take (min (y - 1 - r.wr.length) r.rdLen) } := by
  unfold Dev.lossNoted; rw [Dev.emit_twc]; rfl

/-- A lost arbitration of a transfer of the host, which then waits for the winner or, lost eight times, ends. -/
theorem execTwArbLost_host {s : State} (dt y i : Nat) (l : List Byte) {r : TwcReq} (hz : s.dev.izosh = true) (hs : s.dev.twc.state = 2)
    (hr : s.dev.twc.req = some r) (hi : r.input = none) :
    exec (.twArbLost dt y i l) s = .next (s.after dt (if 8 ≤ s.dev.twc.attempts
      then ((s.dev.tick dt).lossNoted y i l r).twcEnd 4 (min (y - 1) r.wr.length) (l.take (min (y - 1 - r.wr.length) r.rdLen))
      else { (s.dev.tick dt).lossNoted y i l r with twc.state := 3, twc.since := (s.dev.tick dt).now })) := by
  have hc : ((s.dev.tick dt).izosh && (s.dev.tick dt).twc.state == 2) = true := by
    rw [show (s.dev.tick dt).izosh = true from hz, show (s.dev.tick dt).twc.state = 2 from hs]; rfl
  have hr' : (s.dev.tick dt).twc.req = some r := hr
  refine (exec_twArbLost ..).trans (State.runIf_of_eq hc ?_)
  simp only [hr', Option.map_some, Option.getD_some, Option.bind_some, hi, Option.isNone_none, Dev.onlyIf_true]
  rfl

/-- The recovery sequence leaves the controller idle and tells its end. -/
theorem Dev.recovered_spec {d : Dev} (result pulses : Nat) (hq : d.rf.eepQueue = []) (hm : d.pwr.mode ≠ .sleep) :
    let e := d.recovered result pulses
    e.twc = { d.twc with state := 0, req := none } ∧ e.irqBit 17 = true
      ∧ (result = 0 → e.regs.twRws.getLsbD 2 = true ∧ e.tw.busBusy = false ∧ e.tw.lastStop = some d.now)
      ∧ (result ≠ 0 → e.regs.twRws = d.regs.twRws ∧ e.tw = d.tw) := by
  dsimp only
  unfold Dev.recovered
  dsimp only
  have hirq (x : Dev) (payload : List Byte) (hx : x.pwr = d.pwr) : (x.emit 17 payload).irqBit 17 = true :=
    Dev.emit_irqBit_self (by omega) (.inl (by rw [hx]; exact hm)) payload
  by_cases h : result = 0
  · subst h
    rw [if_pos rfl, Dev.pumpEep_of_none (by rw [Dev.emit_rf]; exact hq)]
    refine ⟨by rw [Dev.emit_twc]; rfl, hirq _ _ rfl, fun _ => ⟨?_, by rw [Dev.emit_tw], by rw [Dev.emit_tw]⟩,
      fun h => absurd rfl h⟩
    rw [Dev.emit_regs_twRws]
    show (Dev.flagTw 4 { d with twc.state := 0, twc.req := none }).regs.twRws.getLsbD 2 = true
    rw [Dev.flagTw_twRws, BitVec.getLsbD_or]; simp
  · rw [if_neg h, Dev.pumpEep_of_none (by rw [Dev.emit_rf]; exact hq)]
    exact ⟨by rw [Dev.emit_twc], hirq _ _ rfl, fun h0 => absurd h0 h,
      fun _ => ⟨by rw [Dev.emit_regs_twRws], by rw [Dev.emit_tw]⟩⟩

/-- Settles O21: the commands by their checks, the rows by their conditions, the ends of a transfer and of the recovery sequence by what
they leave with no EEPROM read waiting. That a transfer shows 0x00 until it ends is DEDUCED log 128. -/
theorem twoWireController : Obligations.TwoWireController := by
  unfold Obligations.TwoWireController
  refine ⟨fun s dt q e => ?_, fun d r result n l hr hq => ⟨fun hi => Dev.twcEnd_host hr hi hq result n l, fun i hi => ⟨?eep, fun hl => ?shows⟩⟩,
    fun d result pulses hq _ hm => Dev.recovered_spec result pulses hq hm⟩
  case eep => rw [Dev.twcEnd_eep hr hi hq]; rfl
  case shows =>
    rw [Dev.twcEnd_eep hr hi hq]
    exact Dev.eepDone_state (d := { d with twc.state := 0, twc.req := none }) hl _ _
  intro d
  have cond {z : Bool} (hz : s.dev.izosh = true) (h : z = true) : (d.izosh && z) = true := by
    rw [show d.izosh = true from hz, h]; rfl
  have waits (hs : s.dev.twc.state = 1 ∨ s.dev.twc.state = 3) : (d.twc.state == 1 || d.twc.state == 3) = true := by
    change d.twc.state = 1 ∨ d.twc.state = 3 at hs
    obtain h | h := hs <;> simp [h]
  refine ⟨fun h hb hl hw hr hz ha1 ha2 hown hf ho hc hm hs => ?xfer, fun h hb hl ho hc hm hs => ?recover,
    fun h hb hl hm => ⟨?status, Dev.twcPayload_length e⟩, fun high hz hc hs hf => ?start, fun hz hf => ?busy, fun hz hs hd hf => ?free,
    fun y i l r hz hs hr hi hq => ?lost, fun r n l hz hs hr hi => ?done, fun n l hz hs hd => ?low, fun n hu hs hn => ⟨?released, ?held⟩,
    fun hu hs hd => ?scl⟩
  case xfer =>
    refine State.command_acts h ?_ rfl (State.admits_fits h rfl (by simp))
    unfold twcXferBody
    rw [checked_of_passes]
    have h3 : ¬ q.len < 4 := by omega
    have h0 : q.p8 2 = 0 → ¬ q.p8 3 = 0 := by omega
    simp [hb, hl, Nat.not_lt.2 hw, Nat.not_lt.2 hr, Nat.not_lt.2 ha1, Nat.not_lt.2 ha2, hown, Nat.not_le.2 hf, Req.notSystem, ho, hc, hm, hs]
    exact h0
  case recover =>
    refine State.command_deferred h ?_ (State.admits_fits h rfl (by simp))
    exact checked_of_passes (by simp [hb, hl, Req.notSystem, ho, hc, hm, hs])
  case status =>
    exact State.command_passes h rfl (by simp [hb, hl, hm])
      (State.admits_fits h rfl (by rw [Dev.twcPayload_length]; omega))
  case start =>
    refine (exec_twcAttemptStart ..).trans (State.runIf_next _ ?_)
    have hfree : (d.busFree || high) = true := Bool.or_eq_true_iff.2 hf
    change (d.izosh && d.ctrlEn && (d.twc.state == 1 || d.twc.state == 3) && (d.busFree || high)) = true
    rw [show d.izosh = true from hz, show d.ctrlEn = true from hc, waits hs, hfree]; rfl
  case busy =>
    refine (exec_twcAttemptStart ..).trans (State.runIf_skip _ ?_)
    rw [hf]; simp
  case free =>
    refine (exec_twcBusFreeTimeout ..).trans (State.runIf_next _ ?_)
    change (d.izosh && (d.twc.state == 1 || d.twc.state == 3) && d.sinceUs d.twc.since 25000 && !d.busFree) = true
    rw [show d.izosh = true from hz, waits hs, hd, hf]; rfl
  case lost =>
    have hx := execTwArbLost_host dt y i l hz hs hr hi
    have hrws := d.lossNoted_twRws y i l r
    have hirq := d.lossNoted_irqBit y i l r (Dev.mode_of_izosh hz)
    have htwc := d.lossNoted_twc y i l r
    have heq : (d.lossNoted y i l r).rf.eepQueue = [] := by unfold Dev.lossNoted; rw [Dev.emit_rf]; exact hq
    generalize d.lossNoted y i l r = e at hx hrws hirq htwc heq
    by_cases h8 : 8 ≤ s.dev.twc.attempts
    · rw [if_pos h8, Dev.twcEnd_host (r := r) (by rw [htwc]; exact hr) hi heq] at hx
      refine ⟨_, hx, hrws, hirq, (congrArg TwcSt.arbLosses htwc :), Nat.min_eq_left (Nat.min_le_right ..), ?_, (congrArg TwcSt.xfer htwc :),
        fun h => absurd h8 (Nat.not_le.2 h), fun _ => ⟨rfl, rfl, rfl⟩⟩
      show (l.take _).take r.rdLen = _
      rw [List.take_take, Nat.min_eq_right (Nat.min_le_right ..)]
    · rw [if_neg h8] at hx
      exact ⟨_, hx, hrws, hirq, (congrArg TwcSt.arbLosses htwc :), (congrArg TwcSt.wrDone htwc :), (congrArg TwcSt.rdData htwc :),
        (congrArg TwcSt.xfer htwc :), fun _ => ⟨rfl, (congrArg TwcSt.req htwc :).trans hr, (congrArg TwcSt.result htwc :)⟩, fun h => absurd h h8⟩
  case done =>
    refine (exec_twcTransferEnd ..).trans (State.runIf_next _ ?_)
    change (d.izosh && d.twc.state == 2 && [1, 2, 3, 7].contains r && (d.twc.req.bind (·.input)).isNone) = true
    have hr' : [1, 2, 3, 7].contains r = true := by simp [hr]
    rw [show d.izosh = true from hz, show d.twc.state = 2 from hs, hr', show d.twc.req.bind (·.input) = none from hi]; rfl
  case low =>
    refine (exec_twcSclLowTimeout ..).trans (State.runIf_next _ ?_)
    change (d.izosh && d.twc.state == 2 && d.sinceUs d.twc.since 25000) = true
    rw [show d.izosh = true from hz, show d.twc.state = 2 from hs, hd]; rfl
  case released =>
    refine (exec_twRecoveryDone ..).trans (State.runIf_of_eq ?_ ?_)
    · rw [show (s.dev.tick dt).up = true from hu, show (s.dev.tick dt).twc.state = 4 from hs]; rfl
    · rw [if_pos rfl, Nat.min_eq_left hn]
  case held =>
    refine (exec_twRecoveryDone ..).trans (State.runIf_of_eq ?_ rfl)
    rw [show (s.dev.tick dt).up = true from hu, show (s.dev.tick dt).twc.state = 4 from hs]; rfl
  case scl =>
    refine (exec_twRecoverySclTimeout ..).trans (State.runIf_next _ ?_)
    change (d.up && d.twc.state == 4 && d.sinceUs d.twc.since 25000) = true
    rw [show d.up = true from hu, show d.twc.state = 4 from hs, hd]; rfl

end Sys2Proof.Machine
end

section
/-!
PROOF. The command stream and the commands of chapter 07.
-/
namespace Sys2Proof.Machine

/-! ## Admission (R194, R199) -/

/-- The device without packet `p`, which stood at the front of its queue. -/
def Dev.dequeued (p : QPkt) (d : Dev) : Dev :=
  match p.src with
  | .spi => { d with proto.q0 := d.proto.q0.drop 1 }
  | .twoWire => { d with proto.q2 := d.proto.q2.drop 1 }
  | .fabric _ => { d with proto.q5 := d.proto.q5.drop 1 }

/-- What taking a packet does, but for the event that its room raises. -/
theorem Dev.taken_sansEvents (p : QPkt) (d : Dev) :
    (d.taken p).sansEvents = ({ d.dequeued p with proto.seq := nextSeq d.proto.seq, proto.waitOn := none } : Dev).sansEvents := by
  have h : (d.dropFront p).sansEvents = (d.dequeued p).sansEvents := Dev.spaceFrom_sansEvents d (d.dequeued p)
  exact (congrArg (fun e : Dev => { e with proto.seq := nextSeq d.proto.seq, proto.waitOn := none }) h :)

/-- An admitted packet is the front one, and passed every check. -/
theorem State.admits_spec {s : State} {dt op : Nat} {q : Req} {e : Dev} (h : s.admits dt op = some (q, e)) :
    ∃ p, (s.dev.tick dt).front = some p ∧ q = (s.dev.tick dt).nextReq p
      ∧ ((s.dev.tick dt).taken p).authenticate q p.bytes = (none, e) := by
  unfold State.admits Dev.admits at h
  split at h
  · cases h
  · rename_i p hp
    dsimp only at h
    split at h
    · split at h
      · cases h
      · rename_i hx
        simp only [Option.some.injEq, Prod.mk.injEq] at h
        obtain ⟨rfl, rfl⟩ := h
        exact ⟨p, hp, rfl, hx⟩
    · cases h

/-- A check of authentication that passes stores at most the interface's own state. -/
theorem Dev.authenticate_passes {d e : Dev} {q : Req} {raw : List Byte} (h : d.authenticate q raw = (none, e)) :
    ∃ l, e = { d with sec.ifaces := l } := by
  unfold Dev.authenticate at h
  dsimp only at h
  generalize (if hasBit q.flags 0 then packetCounter raw else 0) = c at h
  split at h
  · injection h with _ h
    exact ⟨d.sec.ifaces, h.symm⟩
  split at h
  · cases h
  split at h
  · split at h
    · injection h with _ h
      exact ⟨d.sec.ifaces, h.symm⟩
    · cases h
  split at h
  · cases h
  split at h
  · cases h
  · injection h with _ h
    exact ⟨_, h.symm⟩

/-- The cache of an interface as its list stands. -/
theorem Dev.remember_cache (src : Iface) (x : CacheEntry) (d : Dev) : (d.remember src x).cache src = (x :: d.cache src).take 8 := by
  unfold Dev.remember Dev.cache; simp

theorem Dev.sendReply_caches (src : Iface) (serial : Nat) (bytes : List Byte) (d : Dev) :
    (d.sendReply src serial bytes).proto.caches = d.proto.caches := by
  cases src with
  | spi => exact Dev.emit_proto_caches ..
  | twoWire => exact Dev.emit_proto_caches ..
  | fabric _ => rfl

theorem Dev.sendReply_lastReady (src : Iface) (serial : Nat) (bytes : List Byte) (d : Dev) :
    (d.sendReply src serial bytes).proto.lastReady = d.proto.lastReady := by
  cases src with
  | spi => exact Dev.emit_proto_lastReady ..
  | twoWire => exact Dev.emit_proto_lastReady ..
  | fabric _ => rfl

/-- A reply is the newest entry of its interface's cache. -/
theorem Dev.reply_cached (q : Req) {st : Status} (pl : List Byte) (d : Dev) (hb : st ≠ .busy) (hh : st ≠ .halted) :
    ((d.reply q st pl).cache q.src).head? =
      some { tag := q.tag, crc := q.crc, reply := replyBytes q.opcode q.tag q.ctx q.seq st 0 pl } := by
  have hc : (st != .busy && st != .halted) = true := by simp [hb, hh]
  unfold Dev.reply
  dsimp only
  rw [hc, Dev.onlyIf_true]
  generalize he : Dev.remember q.src _ d = e
  have h : (({ e with proto.lastReady := q.seq } : Dev).sendReply q.src q.serial _).cache q.src = e.cache q.src :=
    congrArg (fun l => ((l.find? (·.1 == q.src)).map (·.2)).getD []) (Dev.sendReply_caches q.src q.serial
      (replyBytes q.opcode q.tag q.ctx q.seq st 0 pl) { e with proto.lastReady := q.seq })
  rw [h, ← he, Dev.remember_cache]; rfl

theorem Dev.reply_lastReady (q : Req) (st : Status) (pl : List Byte) (d : Dev) : (d.reply q st pl).proto.lastReady = q.seq :=
  Dev.sendReply_lastReady ..

/-- Settles O25: taking a packet changes the stream and the event of its room, passing authentication the interface's own state, and a
reply the stream and its event. -/
theorem admissionTouchesOnlyTheStream : Obligations.AdmissionTouchesOnlyTheStream := by
  unfold Obligations.AdmissionTouchesOnlyTheStream
  constructor
  · intro s dt op q e h
    obtain ⟨p, hp, hq, ha⟩ := State.admits_spec h
    obtain ⟨l, rfl⟩ := Dev.authenticate_passes ha
    have ht := (s.dev.tick dt).taken_sansEvents p
    have hdq : ∃ a b c, (s.dev.tick dt).dequeued p = { s.dev.tick dt with proto.q0 := a, proto.q2 := b, proto.q5 := c } := by
      unfold Dev.dequeued; split
      · exact ⟨_, s.dev.proto.q2, s.dev.proto.q5, rfl⟩
      · exact ⟨s.dev.proto.q0, _, s.dev.proto.q5, rfl⟩
      · exact ⟨s.dev.proto.q0, s.dev.proto.q2, _, rfl⟩
    refine ⟨State.admits_opcode h, by rw [hq]; rfl, by rw [hq]; rfl, ?_⟩
    have hfront {r : QPkt} (hr : s.dev.front = some r) : p = r := Option.some.inj (hp.symm.trans hr)
    have hq0 : p.src = .spi → ((s.dev.tick dt).taken p).proto.q0 = s.dev.proto.q0.drop 1 := fun hs =>
      (congrArg (ProtoSt.q0 ·.proto) ht :).trans (by unfold Dev.dequeued; rw [hs]; rfl)
    have hq2 : p.src = .twoWire → ((s.dev.tick dt).taken p).proto.q2 = s.dev.proto.q2.drop 1 := fun hs =>
      (congrArg (ProtoSt.q2 ·.proto) ht :).trans (by unfold Dev.dequeued; rw [hs]; rfl)
    obtain ⟨a, b, c, hd⟩ := hdq
    rw [hd] at ht
    generalize (s.dev.tick dt).taken p = t at ht hq0 hq2
    exact ⟨(congrArg Dev.now ht :), (congrArg Dev.pwr ht :), (congrArg Dev.clk ht :), (congrArg Dev.tw ht :), (congrArg Dev.twc ht :),
      (congrArg (SecSt.fuses ·.sec) ht :), (congrArg (SecSt.nonce ·.sec) ht :), (congrArg Dev.rf ht :), (congrArg Dev.cal ht :),
      (congrArg Dev.survey ht :), (congrArg Dev.chan ht :), (congrArg Dev.trav ht :), (congrArg Dev.dem ht :), (congrArg Dev.comb ht :),
      (congrArg Dev.fb ht :), (congrArg Dev.follow ht :), (congrArg Dev.audio ht :), (congrArg Dev.data ht :), (congrArg Dev.watch ht :),
      (congrArg Dev.cl ht :), (congrArg Dev.toc ht :), (congrArg (ProtoSt.owner ·.proto) ht :), (congrArg (ProtoSt.props ·.proto) ht :),
      (congrArg (ProtoSt.q1 ·.proto) ht :), (congrArg (ProtoSt.q3 ·.proto) ht :),
      fun r rest hr hs hl => (hq0 (hfront hr ▸ hs)).trans (by rw [hl]; rfl),
      fun r rest hr hs hl => (hq2 (hfront hr ▸ hs)).trans (by rw [hl]; rfl)⟩
  · intro d q st pl
    refine ⟨fun hb hh => Dev.reply_cached q pl d hb hh, Dev.reply_lastReady q st pl d, ?_⟩
    refine ⟨by simp, by simp, by simp, by simp, by simp, by simp, by simp, by simp, by simp, by simp, by simp, by simp, by simp, by simp,
      by simp, by simp, by simp, by simp, by simp, fun r hl ha => ?_⟩
    unfold Dev.conclude; simp [hl, ha]

/-! ## The order of refusals (R202) -/

/-- Settles O24: the first check that fails decides. -/
theorem refusalOrder : Obligations.RefusalOrder := by
  unfold Obligations.RefusalOrder
  intro q raw body d
  have norepeat (h : d.repeats q = false) : (d.cache q.src).find? (fun e => e.tag == q.tag && e.crc == q.crc) = none :=
    (find_none_iff _ _).2 h
  refine ⟨fun hc => ?crc, fun hc c hcm ht hk => ?again, fun hc hr hg => ?group, fun hc hr hg hx hn => ?context⟩
  all_goals unfold Dev.execute
  case crc => simp [hc]
  case again =>
    have hf : (d.cache q.src).find? (fun e => e.tag == q.tag && e.crc == q.crc) = some c := by
      cases hl : d.cache q.src with
      | nil => rw [hl] at hcm; cases hcm
      | cons x l => rw [hl] at hcm; cases hcm; simp [ht, hk]
    simp [hc, hf]
  case group => simp [hc, norepeat hr, hg]
  case context => simp [hc, norepeat hr, hg, hx, hn]

/-! ## Authentication (R240) -/

theorem Dev.ifaceSec_iface (d : Dev) (src : Iface) : (d.ifaceSec src).iface = src := by
  unfold Dev.ifaceSec
  cases h : d.sec.ifaces.find? (·.iface == src) with
  | none => rfl
  | some x =>
    have hx := List.find?_some h
    exact beq_iff_eq.1 hx

theorem Dev.ifaceSec_setIfaceSec {x : IfaceSec} {src : Iface} (h : x.iface = src) (d : Dev) : (d.setIfaceSec x).ifaceSec src = x := by
  unfold Dev.ifaceSec Dev.setIfaceSec; simp [h]

/-- A counted failure counts, and locks at the eighth. -/
theorem Dev.authFailure_ifaceSec (q : Req) (counter : Nat) (st : Status) (d : Dev) : (d.authFailure q counter st).ifaceSec q.src =
    { d.ifaceSec q.src with
      failures := (d.ifaceSec q.src).failures + 1
      locked := (d.ifaceSec q.src).locked || (d.ifaceSec q.src).failures + 1 == 8 } := by
  have h : (d.authFailure q counter st).sec = (d.setIfaceSec { d.ifaceSec q.src with
      failures := (d.ifaceSec q.src).failures + 1
      locked := (d.ifaceSec q.src).locked || (d.ifaceSec q.src).failures + 1 == 8 }).sec := Dev.emit_sec ..
  refine Eq.trans ?_ (Dev.ifaceSec_setIfaceSec (src := q.src) ?_ d)
  · unfold Dev.ifaceSec at h ⊢
    rw [h]
  · exact Dev.ifaceSec_iface d q.src

/-- Settles O26: the checks of authentication one by one, for a critical command. -/
theorem authenticationRefuses : Obligations.AuthenticationRefuses := by
  unfold Obligations.AuthenticationRefuses
  intro d q raw hcrit
  refine ⟨fun hl => ?locked, fun hk hl hm => ?mac, fun hk hl ha hm => ⟨fun hn => ?replay, fun hn => ?admitted⟩, fun hk hl hf => ?unkeyed,
    fun hk hl hf ha => ?fuses⟩
  case locked => unfold Dev.authenticate; simp [hcrit, hl]
  case mac =>
    have hx : d.authenticate q raw = (some .authFail, d.authFailure q (if hasBit q.flags 0 then packetCounter raw else 0) .authFail) := by
      unfold Dev.authenticate
      obtain ha | hm := hm
      · simp [hcrit, hl, hk, ha]
      · simp [hcrit, hl, hk, hm]
    rw [hx]
    refine ⟨rfl, ?_, fun h7 => ?_⟩
    · rw [Dev.authFailure_ifaceSec]
    · rw [Dev.authFailure_ifaceSec]; simp [h7]
  case replay =>
    have hx : d.authenticate q raw = (some .replay, d.authFailure q (packetCounter raw) .replay) := by
      unfold Dev.authenticate; simp [hl, hk, ha, hm, hn]
    rw [hx]
    exact ⟨rfl, by rw [Dev.authFailure_ifaceSec]⟩
  case admitted =>
    have h0 : ¬ (packetCounter raw = 0 ∨ packetCounter raw ≤ (d.ifaceSec q.src).last) := by omega
    have hx : d.authenticate q raw = (none, d.setIfaceSec { d.ifaceSec q.src with last := packetCounter raw, failures := 0 }) := by
      unfold Dev.authenticate; simp [hl, hk, ha, hm, h0]
    rw [hx]
    have hs := Dev.ifaceSec_setIfaceSec (x := { d.ifaceSec q.src with last := packetCounter raw, failures := 0 }) (Dev.ifaceSec_iface d q.src) d
    exact ⟨rfl, congrArg IfaceSec.last hs, congrArg IfaceSec.failures hs⟩
  case unkeyed =>
    unfold Dev.authenticate
    obtain hf | ha := hf
    · simp [hcrit, hl, hk, hf]
    · simp [hl, hk, ha]
  case fuses => unfold Dev.authenticate; simp [hcrit, hl, hk, hf, ha]

end Sys2Proof.Machine
end

section
/-!
PROOF. The form of a reply (R189, R190), the commands of chapter 07, and the rows of the stream that are no command.
-/
namespace Sys2Proof.Machine

/-! ## The form of a reply -/

theorem crc16Step_lt (c : Nat) : crc16Step c < 65536 := by
  unfold crc16Step; split <;> exact Nat.mod_lt _ (by omega)

theorem crc16Byte_lt (c : Nat) (b : Byte) : crc16Byte c b < 65536 := crc16Step_lt _

theorem crc16_lt (l : List Byte) : crc16 l < 65536 := by
  induction l using List.reverseRecOn with
  | nil => decide
  | append_singleton l b _ => unfold crc16; rw [List.foldl_concat]; exact crc16Byte_lt _ b

/-- A message followed by its CRC-16 is good. -/
theorem crcGood_append (l : List Byte) : crcGood (l ++ u16 (crc16 l)) = true := by
  have hl : (l ++ u16 (crc16 l)).length - 2 = l.length := by simp
  have hc : leNat (u16 (crc16 l)) = crc16 l := leNat_leBytes 2 _ (crc16_lt l)
  unfold crcGood packetCrc at16 slice
  rw [hl, List.take_left, List.drop_left, List.take_of_length_le (by simp), hc, beq_self_eq_true]

theorem Status.code_lt (st : Status) : st.code < 256 := by cases st <;> decide

/-- What every reply that the device composes is made of. -/
theorem replyBytes_spec (op tag ctx seq orig : Nat) (st : Status) (pl : List Byte) :
    let r := replyBytes op tag ctx seq st orig pl
    crcGood r = true ∧ r.length = 14 + pl.length ∧ (pl.length < 0x10000 → at16 r 6 = pl.length)
      ∧ at8 r 3 = st.code ∧ slice r 12 pl.length = pl := by
  dsimp only
  unfold replyBytes
  refine ⟨crcGood_append _, by simp; omega, fun hl => ?_, ?_, ?_⟩
  · exact (show _ = leNat (u16 pl.length) from rfl).trans (leNat_leBytes 2 _ hl)
  · exact (show _ = leNat (u8 st.code) from rfl).trans (leNat_leBytes 1 _ st.code_lt)
  · exact (show _ = (pl ++ u16 _).take pl.length from rfl).trans (List.take_left ..)

/-! ## Commands -/

/-- No entry offends. -/
theorem offender_eq_none {ids : List Nat} {bad : Nat → Bool} (h : ∀ k < ids.length, bad k = false) : offender ids bad = none := by
  unfold offender
  rw [List.find?_eq_none.2 fun k hk => by simp [h k (List.mem_range.1 hk)], Option.map_none]

/-- A single byte that reads zero is zero. -/
theorem zeroAt_one {l : List Byte} {n : Nat} (h : at8 l n = 0) : zeroAt l n 1 = true := by
  unfold at8 at h
  unfold zeroAt
  have hl : (slice l n 1).length ≤ 1 := by unfold slice; simp
  generalize slice l n 1 = m at *
  match m, hl with
  | [], _ => rfl
  | [b], _ =>
    simp only [leNat, Nat.mul_zero, Nat.add_zero] at h
    simp [BitVec.eq_of_toNat_eq (y := (0 : Byte)) h]

/-- Entry `n` of a list mapped with its indices. -/
theorem getD_map_indexed {α : Type} (l : List α) (f : Nat × α → α) {n : Nat} (h : n < l.length) (z : α) :
    ((indexed l).map f).getD n z = f (n, l.getD n z) := by
  simp [indexed, List.getD, h]

@[simp] theorem indexed_length {α : Type} (l : List α) : (indexed l).length = l.length := by simp [indexed]

/-- Settles O22: each command by its checks, all of which pass, and its result. -/
theorem protocolCommands : Obligations.ProtocolCommands := by
  unfold Obligations.ProtocolCommands
  intro s dt q e hb
  refine ⟨fun h h0 h8 h1024 hf => ?set, fun h h0 h2 h256 => ?get, fun h hl hab hb127 hd hz ho => ?route, fun h hl hz ho hw => ⟨fun h0 h1 => ?spi,
    fun h0 h1 ht => ?two, fun h0 h1 h2 hfab hin => ?fabric⟩⟩
  case set =>
    intro es hent hbr hown hw hctx
    have hlen : (es.map (·.id)).length = es.length := List.length_map ..
    refine State.command_ok h ?_ hf
    unfold propSetBody
    have hc : (q.len = 0 || q.len % 8 != 0 || 1024 < q.len) = false := by simp [h0, h8, h1024]
    have hctx' : (e.inWatch || (q.ctx != 0xFF && (!e.ctxOpen q.ctx || e.ctxClosing q.ctx))) = false := by
      obtain hc | ⟨hop, hcl⟩ := hctx
      · simp [hw, hc]
      · simp [hw, hop, hcl]
    dsimp only
    rw [hc, offender_eq_none fun k hk => (hent k (hlen ▸ hk)).1, offender_eq_none fun k hk => (hent k (hlen ▸ hk)).2, hbr]
    simp only [hb, Bool.false_eq_true, if_false, List.any_nil, offender_eq_none fun _ _ => rfl]
    exact checked_of_passes (by simp [hown, hctx'])
  case get =>
    intro ids pl hent hctx hf
    refine State.command_ok h ?_ hf
    unfold propGetBody
    have hc : (q.len = 0 || q.len % 2 != 0 || 256 < q.len) = false := by simp [h0, h2, h256]
    have hany : ids.any e.idUnfitted = false := by
      rw [List.any_eq_false]
      intro id hid
      obtain ⟨k, hk, rfl⟩ := List.mem_iff_getElem.1 hid
      have := (hent k hk).1
      rw [List.getD_eq_getElem _ _ hk] at this
      rw [this]; decide
    have hctx' : (q.ctx != 0xFF && (!e.ctxOpen q.ctx || e.ctxClosing q.ctx)) = false := by
      obtain hc | ⟨hop, hcl⟩ := hctx
      · simp [hc]
      · simp [hop, hcl]
    dsimp only
    rw [hc, hany, offender_eq_none fun k hk => (hent k hk).2]
    simp only [hb, Bool.false_eq_true, if_false]
    exact checked_of_passes (by simp [hctx'])
  case route =>
    refine ⟨_, State.command_passes h rfl ?_ (State.admits_fits h rfl (by simp)), by simp, fun n hn => ?_⟩
    · have h1 : q.p8 0 ≤ 127 := by omega
      simp [hl, hb, Nat.not_lt.2 h1, Nat.not_lt.2 hb127, Nat.not_lt.2 hab, Nat.not_le.2 hd, zeroAt_one hz, Req.notSystem, ho]
    · rw [getD_map_indexed _ _ (by simpa using hn)]
      simp
  all_goals
    refine State.command_ok h ?_ (State.admits_fits h rfl (by simp))
    unfold sysOwnerBody
  case spi =>
    refine (checked_of_passes (by simp [hl, hb, hz, h0, h1, badOwner, Req.notSystem, ho, hw, Dev.ownerAbsent])).trans ?_
    simp [h0, ifaceOf, ok]
  case two =>
    refine (checked_of_passes (by simp [hl, hb, hz, h0, h1, badOwner, Req.notSystem, ho, hw, Dev.ownerAbsent, ht])).trans ?_
    simp [h0, ifaceOf, ok]
  case fabric =>
    have h1' : q.p8 1 ≠ 0 := by omega
    refine (checked_of_passes (by simp [hl, hb, hz, h0, h1', Nat.not_lt.2 h2, badOwner, Req.notSystem, ho, hw, Dev.ownerAbsent, hfab, hin])).trans ?_
    simp [h0, ifaceOf, ok]

/-! ## Rows that are no command -/

theorem Dev.taken_caches (p : QPkt) (d : Dev) : (d.taken p).proto.caches = d.proto.caches := by
  refine (congrArg (ProtoSt.caches ·.proto) (d.taken_sansEvents p) :).trans ?_
  unfold Dev.dequeued; split <;> rfl

theorem Dev.taken_unlock (p : QPkt) (d : Dev) : (d.taken p).sec.unlock = d.sec.unlock := by
  refine (congrArg (SecSt.unlock ·.sec) (d.taken_sansEvents p) :).trans ?_
  unfold Dev.dequeued; split <;> rfl

/-- A good packet that repeats none and whose opcode is not open is answered BAD_OPCODE. -/
theorem Dev.reservedAnswer_bad {d : Dev} {p : QPkt} {q : Req} (hc : crcGood p.bytes = true) (hr : d.repeats q = false)
    (ho : d.factoryOpen p = false) : d.reservedAnswer p q = some (d.reply q .badOpcode []) := by
  have hf : (d.cache q.src).find? (fun c => c.tag == q.tag && c.crc == q.crc) = none := (find_none_iff _ _).2 hr
  unfold Dev.reservedAnswer
  rw [hf]; simp [hc, ho]

/-- A stream that waits on the queue goes on once it has room; nothing else changes. -/
theorem Dev.roomAgain_spec (k : Nat) (d : Dev) : ∃ w, d.roomAgain k = { d with proto.waitOn := w }
    ∧ ∀ t, d.proto.waitOn = some (k, t) → 1038 ≤ d.replyRoom k → w = none := by
  unfold Dev.roomAgain
  split
  · rename_i k' t hw
    split
    · exact ⟨none, rfl, fun _ _ _ => rfl⟩
    · rename_i hc
      refine ⟨d.proto.waitOn, rfl, fun t' hw' hroom => ?_⟩
      rw [hw] at hw'; injection hw' with hw'; injection hw' with hk
      exact absurd (by simp [hk, hroom]) hc
  · rename_i hw
    exact ⟨d.proto.waitOn, rfl, fun t hw' => by rw [hw] at hw'; cases hw'⟩

/-- A discarded reply is counted for its queue, and nothing else of the stream changes. -/
theorem Dev.replyDropped_spec (k cause : Nat) (d : Dev) : (d.replyDropped k cause).proto.q1 = d.proto.q1
    ∧ (d.replyDropped k cause).proto.q3 = d.proto.q3 ∧ (d.replyDropped k cause).proto.waitOn = d.proto.waitOn
    ∧ (d.replyDropped k cause).proto.replyDrops = (if k = 1 then (satAdd 0xFFFFFFFF d.proto.replyDrops.1 1, d.proto.replyDrops.2)
        else (d.proto.replyDrops.1, satAdd 0xFFFFFFFF d.proto.replyDrops.2 1)) :=
  ⟨Dev.emit_proto_q1 .., Dev.emit_proto_q3 .., Dev.emit_proto_waitOn .., Dev.emit_proto_replyDrops ..⟩

/-- The row that ends a wait for reply space. -/
theorem exec_replyQueueWaitTimeout_due {s : State} {dt k t : Nat} (hz : s.dev.izosh = true) (hw : s.dev.proto.waitOn = some (k, t))
    (hd : t + 800 * roundTicks ≤ (s.dev.tick dt).now) {d1 : Dev} (h1 : d1 = if k = 1 then { s.dev.tick dt with proto.q1 := s.dev.proto.q1.drop 1 }
      else { s.dev.tick dt with proto.q3 := s.dev.proto.q3.drop 1 }) :
    exec (.replyQueueWaitTimeout dt) s =
      .next (s.after dt ((({ d1 with proto.waitOn := some (k, (s.dev.tick dt).now) } : Dev).replyDropped k 1).roomAgain k)) := by
  refine (exec_replyQueueWaitTimeout ..).trans (State.runIf_of_eq hz ?_)
  rw [show (s.dev.tick dt).proto.waitOn = some (k, t) from hw, h1]
  dsimp only
  rw [if_pos hd]; rfl

/-- Settles O23: the answer to a reserved opcode by its checks, the wait that drops the oldest reply, and the form of a reply. That an
opened factory test opcode stops by name is DESIGN CHOICE log 54. -/
theorem streamRowsAndReplies : Obligations.StreamRowsAndReplies := by
  unfold Obligations.StreamRowsAndReplies
  refine ⟨fun s dt => ?_, replyBytes_spec⟩
  intro d
  refine ⟨fun p ht hp hop hfo hcan hcrc hrep => ?bad, fun p ht hp hop hrun => ?runs, fun t r rest hz hw hd hq => ?spi, fun t r rest hz hw hd hq => ?two⟩
  case bad =>
    have hrep' : d.repeats (p.req (nextSeq d.proto.seq)) = false := by
      have h := hrep; unfold Dev.repeats Dev.cache at h ⊢; rw [Dev.taken_caches] at h; exact h
    have hrun : d.factoryRuns p = false := by
      unfold Dev.factoryRuns; rw [Dev.reservedAnswer_bad hcrc hrep' hfo]; simp
    have hfo' : (d.taken p).factoryOpen p = false := by
      have h := hfo; unfold Dev.factoryOpen at h ⊢; rw [Dev.taken_unlock]; exact h
    rw [exec_reservedOpcode, execReservedOpcode, show (s.dev.tick dt).takes = true from ht, show (s.dev.tick dt).front = some p from hp]
    simp only [hop, show (s.dev.tick dt).factoryRuns p = false from hrun, Bool.false_eq_true, if_false]
    refine State.run_of_eq ?_
    unfold Dev.reservedOpcode Dev.take
    rw [if_pos hcan]
    exact (congrArg (·.getD (d.taken p)) (Dev.reservedAnswer_bad hcrc hrep hfo') :)
  case runs =>
    rw [exec_reservedOpcode, execReservedOpcode, show (s.dev.tick dt).takes = true from ht, show (s.dev.tick dt).front = some p from hp]
    simp only [hop, show (s.dev.tick dt).factoryRuns p = true from hrun, Bool.false_eq_true, if_false, if_true]
  case spi =>
    refine ⟨_, exec_replyQueueWaitTimeout_due (d1 := { d with proto.q1 := rest }) hz hw hd (by rw [if_pos rfl, hq]; rfl), ?_⟩
    obtain ⟨h1, -, hwait, hdrop⟩ := Dev.replyDropped_spec 1 1 { d with proto.q1 := rest, proto.waitOn := some (1, d.now) }
    obtain ⟨w, hr, hnone⟩ := Dev.roomAgain_spec 1 (Dev.replyDropped 1 1 { d with proto.q1 := rest, proto.waitOn := some (1, d.now) })
    refine ⟨?_, ?_, fun hroom => ?_⟩
    · exact (congrArg (ProtoSt.q1 ·.proto) hr :).trans h1
    · exact (congrArg (ProtoSt.replyDrops ·.proto |>.1) hr :).trans (congrArg Prod.fst hdrop :)
    · exact (congrArg (ProtoSt.waitOn ·.proto) hr :).trans (hnone _ hwait (by
        have h := hroom
        change 1038 ≤ Dev.replyRoom (Dev.roomAgain 1 _) 1 at h
        rw [hr] at h; exact h))
  case two =>
    refine ⟨_, exec_replyQueueWaitTimeout_due (d1 := { d with proto.q3 := rest }) hz hw hd (by rw [if_neg (by omega), hq]; rfl), ?_⟩
    obtain ⟨-, h3, hwait, hdrop⟩ := Dev.replyDropped_spec 3 1 { d with proto.q3 := rest, proto.waitOn := some (3, d.now) }
    obtain ⟨w, hr, hnone⟩ := Dev.roomAgain_spec 3 (Dev.replyDropped 3 1 { d with proto.q3 := rest, proto.waitOn := some (3, d.now) })
    refine ⟨?_, ?_, fun hroom => ?_⟩
    · exact (congrArg (ProtoSt.q3 ·.proto) hr :).trans h3
    · exact (congrArg (ProtoSt.replyDrops ·.proto |>.2) hr :).trans (congrArg Prod.snd hdrop :)
    · exact (congrArg (ProtoSt.waitOn ·.proto) hr :).trans (hnone _ hwait (by
        have h := hroom
        change 1038 ≤ Dev.replyRoom (Dev.roomAgain 3 _) 3 at h
        rw [hr] at h; exact h))

end Sys2Proof.Machine
end

section
/-!
PROOF. Fuses, debug access and firmware patches (chapter 08).
-/
namespace Sys2Proof.Machine

/-- Entry `n` of a list mapped with its indices, zero beyond its end. -/
theorem getD_map_indexed_zero (l : List Byte) (f : Nat × Byte → Byte) (n : Nat) :
    ((indexed l).map f).getD n 0 = if n < l.length then f (n, l.getD n 0) else 0 := by
  by_cases h : n < l.length
  · rw [if_pos h, getD_map_indexed l f h]
  · rw [if_neg h, List.getD_eq_default _ _ (by simp; omega)]

theorem customerArea_length (fuses : List Byte) : (customerArea fuses).length = min 68 fuses.length := by simp [customerArea]

theorem customerArea_getD (fuses : List Byte) {n : Nat} (hn : n < 68) : (customerArea fuses).getD n 0 =
    if (0x14 ≤ n ∧ n < 0x24) ∨ (0x2C ≤ n ∧ n < 0x3C) then 0 else fuses.getD n 0 := by
  have ht : (fuses.take 68).getD n 0 = fuses.getD n 0 := by
    simp only [List.getD_eq_getElem?_getD, List.getElem?_take, hn, if_true]
  unfold customerArea
  rw [getD_map_indexed_zero, ht]
  by_cases hl : n < fuses.length
  · simp [hl, hn]
  · have h0 : fuses.getD n 0 = 0 := List.getD_eq_default _ _ (by omega)
    rw [if_neg (by simp; omega), h0]; simp

/-- Programming sets bits and clears none. -/
theorem setFuses_getD (fuses data set : List Byte) (off : Nat) {n : Nat} (hn : n < fuses.length) :
    (setFuses fuses off ((indexed data).map fun (k, b) => b &&& set.getD k 0)).getD n 0
      = fuses.getD n 0 ||| (if off ≤ n then data.getD (n - off) 0 &&& set.getD (n - off) 0 else 0) := by
  unfold setFuses
  rw [getD_map_indexed_zero, if_pos hn]
  dsimp only
  split
  · rw [getD_map_indexed_zero]
    split
    · rfl
    · rename_i h
      rw [List.getD_eq_default data _ (by omega)]; simp
  · simp

/-- The answer to a command that ran, once its operation ends. -/
theorem Dev.answerLater_running {d : Dev} {r : Req} (h : d.proto.running = some r) (st : Status) (pl : List Byte) :
    d.answerLater st pl = ({ d with proto.running := none } : Dev).reply r st pl := by
  unfold Dev.answerLater; rw [h]

theorem Dev.sendReply_running (src : Iface) (serial : Nat) (bytes : List Byte) (d : Dev) :
    (d.sendReply src serial bytes).proto.running = d.proto.running := by
  cases src with
  | spi => exact Dev.emit_proto_running ..
  | twoWire => exact Dev.emit_proto_running ..
  | fabric _ => rfl

theorem Dev.reply_running (q : Req) (st : Status) (pl : List Byte) (d : Dev) : (d.reply q st pl).proto.running = d.proto.running := by
  unfold Dev.reply
  exact (Dev.sendReply_running ..).trans (Dev.onlyIf_leaves (·.proto.running) _ (f := Dev.remember q.src _) (fun _ => rfl) d)

/-- An admitted command that is answered once its operation ends. -/
theorem State.command_later {s : State} {dt op : Nat} {q : Req} {e d : Dev} {body : Body} (h : s.admits dt op = some (q, e))
    (hb : body q e = { status := .ok, payload := [], dev := d, later := true }) (hf : q.fits [] = true) :
    s.command dt op body = .next (s.after dt { d with proto.running := some q }) := by
  rw [State.command_admitted body h, hb, Res.forFabric_fits e (by exact hf)]
  rfl

/-- The bits of job `j` that read back 1 are set, and the job is over. -/
def Dev.programmed (j : FuseJob) (set : List Byte) (d : Dev) : Dev :=
  { d with
    sec.job := none, sec.fuses := setFuses d.sec.fuses j.offset ((indexed j.data).map fun (k, b) => b &&& set.getD k 0)
    proto.running := none }

/-- The end of a programming answers the command that began it. -/
theorem exec_fuseProgrammingDone_running {s : State} {dt : Nat} {j : FuseJob} {r : Req} (hz : s.dev.izosh = true)
    (hj : s.dev.sec.job = some j) (hr : s.dev.proto.running = some r) (set up : List Byte) (stopped : Bool) :
    ∃ pl, exec (.fuseProgrammingDone dt set up stopped) s = .next (s.after dt (((s.dev.tick dt).programmed j set).reply r .ok pl)) := by
  rw [exec_fuseProgrammingDone, execFuseProgrammingDone, State.runIf_next _ hz, show (s.dev.tick dt).sec.job = some j from hj]
  dsimp only
  rw [Dev.answerLater_running (r := r) (by exact hr)]
  exact ⟨_, rfl⟩

/-- Settles O27: the commands by their checks, the rows by what they set. That before the fuse read only the four open instructions are
offered is DEDUCED log 11. -/
theorem securityRows : Obligations.SecurityRows := by
  unfold Obligations.SecurityRows
  intro s dt q e d
  refine ⟨fun h hb hl => ⟨_, ?_, ?_, State.command_passes h rfl (by simp [hl, hb]) (State.admits_fits h rfl (by simp))⟩,
    fun h hb hl hw => ⟨_, State.command_passes h rfl (by simp [hl, hb, hw]) (State.admits_fits h rfl (by rw [customerArea_length]; omega)),
      customerArea_length _, fun n hn => customerArea_getD _ hn⟩,
    fun h hb hl h1 h24 ho1 ho2 hz hspan hown hfe hv hlock hw => ?program, fun j r hz hj hst hr set up => ?done, fun level vpp hj => ?enable,
    fun j hj => ?stops, fun h hb hl h1 h3 hz hown hd hw => ?unlock, fun c hc => ?offered, fun n => rfl⟩
  · simp
  · rfl
  case program =>
    refine State.command_later (d := { e with sec.job := some { offset := q.p8 0, data := slice q.params 4 (q.p8 1) } }) h ?_ (State.admits_fits h rfl (by simp))
    refine checked_of_passes ?_
    have h0 : q.p8 1 ≠ 0 := by omega
    simp [hb, hl, h0, Nat.not_lt.2 h24, Nat.not_lt.2 ho1, Nat.not_lt.2 ho2, hz, hspan, Req.notSystem, hown, hfe, hv, hlock, hw]
  case done =>
    obtain ⟨pl, hx⟩ := exec_fuseProgrammingDone_running (dt := dt) hz hj hr set up false
    refine ⟨_, hx, ?_, Dev.reply_running .., Dev.reply_lastReady .., fun n hn => ?_⟩
    · exact (congrArg SecSt.job (Dev.reply_sec ..) :)
    · exact (congrArg (fun x : SecSt => x.fuses.getD n 0) (Dev.reply_sec ..) :).trans (setFuses_getD _ _ _ _ hn)
  case enable =>
    refine (exec_fuseEnChange ..).trans (State.run_of_eq ?_)
    rw [show (s.dev.tick dt).sec.job = none from hj]
  case stops =>
    refine (exec_fuseEnChange ..).trans (State.run_of_eq ?_)
    rw [show (s.dev.tick dt).sec.job = some j from hj]; rfl
  case unlock =>
    refine State.command_passes h rfl ?_ (State.admits_fits h rfl (by simp))
    have h0 : q.p8 0 ≠ 0 := by omega
    have h4 : ¬ 4 ≤ q.p8 0 := by omega
    simp [hl, hb, h0, h4, hz, Req.notSystem, hown, hd, hw]
  case offered =>
    refine (exec_jtagInstruction ..).trans (State.run_of_eq ?_)
    cases c with
    | other n => exact absurd rfl (hc n)
    | _ => rfl

/-- Settles O28: each phase by its checks, all of which pass, and the takeover by the image's CRC-32. -/
theorem patchLoading : Obligations.PatchLoading := by
  unfold Obligations.PatchLoading
  refine ⟨fun s dt q e h hb hz hown hw hc => ⟨fun h1 hl hp1 hp2 hrev hrom hopen hpr => ?begin, fun j h2 hl9 hl hj hoff htot => ?chunk,
    fun j h3 hl hj hlen => ?commit⟩, fun d j hj => ?takeover⟩
  case begin =>
    refine State.command_ok h ?_ (State.admits_fits h rfl (by simp))
    unfold sysPatchLoadBody
    have h0 : q.p32 4 ≠ 0 := by omega
    refine (checked_of_passes ?_).trans ?_
    · simp [h1, hl, hb, hz, h0, Nat.not_lt.2 hp2, hrev, hrom, Req.notSystem, hown, hopen, hpr, hc, hw]
    · simp [h1, ok]
  case chunk =>
    refine State.command_ok h ?_ (State.admits_fits h rfl (by simp))
    unfold sysPatchLoadBody
    have h4 : ¬ q.len < 4 := by omega
    refine (checked_of_passes ?_).trans ?_
    · simp [h2, hj, Nat.not_lt.2 hl9, Nat.not_lt.2 hl, h4, hb, hz, hoff, hoff ▸ Nat.not_lt.2 htot, Req.notSystem, hown, hc, hw]
    · simp [h2, hj, ok]
  case commit =>
    refine State.command_deferred h ?_ (State.admits_fits h rfl (by simp))
    unfold sysPatchLoadBody
    refine (checked_of_passes ?_).trans ?_
    · simp [h3, hj, hl, hb, hz, hlen, Req.notSystem, hown, hc, hw]
    · simp [h3, hj]
  case takeover =>
    have ht : d.patchTakeover.sec = { d.sec with committed := none, patchRev := if crc32 j.image == j.crc then j.rev else d.sec.patchRev } := by
      unfold Dev.patchTakeover; rw [hj]; exact Dev.emit_sec ..
    refine ⟨by rw [ht], ?_⟩
    rw [ht]
    by_cases hcrc : crc32 j.image = j.crc <;> simp [hcrc]

end Sys2Proof.Machine
end

section
/-!
PROOF. The rows of Tocsin, the halt responder and the commands of chapter 25.
-/
namespace Sys2Proof.Machine

/-! ## Errors that arrive (R682, R683) -/

/-- What O58 says of a row on which one real error fills the record and halts. -/
theorem exec_fills {s : State} {dt : Nat} {c : Instr} {e : ErrIn} {tHot : Int} (hr : s.dev.inReset = false) (hh : s.dev.toc.halted = false)
    (hv : s.dev.toc.rcd.valid = false) (he : e.injected = false)
    (hx : exec c s = .next (s.after dt ((s.dev.tick dt).errorsArrive [e] tHot))) :
    ∃ t, exec c s = .next t ∧ t.dev.toc.halted = true ∧ t.dev.toc.inject = none ∧ t.dev.toc.alive = false
      ∧ t.dev.toc.rcd = { valid := true, halted := true, real := true, level := e.level, cls := e.cls, region := e.region, block := e.block,
                          master := e.master, access := e.access, addr := e.addr, time := (s.dev.tick dt).now, haltTemp := tHot,
                          lastSeq := s.dev.proto.lastReady, capture := t.dev.toc.captures, detail := e.detail }
      ∧ 1 ≤ t.dev.toc.captures ∧ (s.dev.toc.captures < 65535 → t.dev.toc.captures = s.dev.toc.captures + 1) := by
  refine ⟨_, hx, ?_⟩
  have ht := (Dev.errorsArrive_fills (d := s.dev.tick dt) tHot hr hh hv he).1
  rw [State.after]
  dsimp only
  rw [ht]
  refine ⟨rfl, rfl, rfl, rfl, Nat.one_le_iff_ne_zero.2 (nextCapture_ne_zero _), fun h => ?_⟩
  show nextCapture s.dev.toc.captures = _
  unfold nextCapture
  rw [if_neg (by omega)]

/-- A report without an injected error delivers its real ones. -/
theorem Dev.errorArrival_real {errs : List ErrIn} (h : ∀ x ∈ errs, x.injected = false) (tHot : Int) (d : Dev) :
    d.errorArrival errs tHot = d.errorsArrive (realErrors errs) tHot := by
  have hf : errs.find? (·.injected) = none := List.find?_eq_none.2 fun x hx => by simp [h x hx]
  have hi : d.injectedErrors errs = [] := by
    unfold Dev.injectedErrors; rw [hf]; cases d.toc.inject <;> rfl
  unfold Dev.errorArrival
  rw [hi]
  dsimp only
  rw [List.append_nil]
  cases d.toc.inject <;> rfl

/-- An error as Tocsin takes it: the level of its class, detail only where the class has one. -/
def takenError (e : ErrIn) : ErrIn := { e with level := classLevel e.cls, detail := if e.cls ≤ 2 then e.detail else 0 }

theorem realErrors_of_real {errs : List ErrIn} (h : ∀ x ∈ errs, x.injected = false ∧ 1 ≤ x.cls ∧ x.cls ≤ 15) :
    realErrors errs = errs.map takenError := by
  unfold realErrors
  rw [List.filter_eq_self.2 fun x hx => by obtain ⟨h1, h2, h3⟩ := h x hx; simp [h1, h2, h3]]
  rfl

/-- Errors that merge into a record held: they count, and what the first one fixed stays. -/
theorem Dev.recordErrors_merge (l : List ErrIn) (d : Dev) (hv : d.toc.rcd.valid = true) (hm : d.toc.rcd.merge + l.length ≤ 0xFFFF) :
    let e := l.foldl (fun d e => d.recordError e) d
    e.toc.halted = d.toc.halted ∧ e.toc.rcd.merge = d.toc.rcd.merge + l.length ∧ e.toc.rcd.cls = d.toc.rcd.cls
      ∧ e.toc.rcd.region = d.toc.rcd.region ∧ e.toc.rcd.block = d.toc.rcd.block := by
  induction l generalizing d with
  | nil => exact ⟨rfl, rfl, rfl, rfl, rfl⟩
  | cons x l ih =>
    have hx : d.recordError x = d.mergeRecord x (d.errorHalts x) := if_pos hv
    have hmx : (d.recordError x).toc.rcd.merge = d.toc.rcd.merge + 1 := by
      rw [hx]; show satAdd 0xFFFF d.toc.rcd.merge 1 = _
      rw [List.length_cons] at hm; unfold satAdd; omega
    obtain ⟨h1, h2, h3, h4, h5⟩ := ih (d.recordError x) (by simp) (by rw [hmx]; rw [List.length_cons] at hm; omega)
    refine ⟨h1.trans (Dev.recordError_halted x d), ?_, h3.trans ?_, h4.trans ?_, h5.trans ?_⟩
    · rw [List.foldl_cons, h2, hmx, List.length_cons]; omega
    all_goals rw [hx]; rfl

/-- Real errors on one cycle of which one comes first: it fills the record, the others merge, and the device halts. -/
theorem Dev.errorsArrive_cycle {d : Dev} {errs : List ErrIn} {e : ErrIn} (tHot : Int) (hr : d.inReset = false) (hh : d.toc.halted = false)
    (hv : d.toc.rcd.valid = false) (he : e ∈ errs)
    (hfirst : ∀ x ∈ errs, x.injected = false ∧ (x = e ∨ ErrIn.rank e < ErrIn.rank x)) (hn : errs.length ≤ 0xFFFF) :
    let t := d.errorsArrive errs tHot
    t.toc.halted = true ∧ t.toc.rcd.cls = e.cls ∧ t.toc.rcd.region = e.region ∧ t.toc.rcd.block = e.block
      ∧ t.toc.rcd.merge = errs.length - 1 := by
  have hmin : minBy ErrIn.rank errs = some e := by
    obtain ⟨hnone, hsome⟩ := minBy_spec ErrIn.rank errs
    cases hm : minBy ErrIn.rank errs with
    | none => rw [hnone hm] at he; cases he
    | some x =>
      obtain ⟨hx, hle⟩ := hsome x hm
      obtain rfl | hlt := (hfirst x hx).2
      · rfl
      · exact absurd (hle e he) (Nat.not_le.2 hlt)
  have hall : errs.any d.errorHalts = true := List.any_eq_true.2 ⟨e, he, by simp [Dev.errorHalts, (hfirst e he).1]⟩
  have hfill : d.recordError e = d.fillRecord e (d.errorHalts e) := by unfold Dev.recordError; rw [hv]; rfl
  have hlen : (errs.erase e).length = errs.length - 1 := List.length_erase_of_mem he
  obtain ⟨h1, h2, h3, h4, h5⟩ := Dev.recordErrors_merge (errs.erase e) (d.recordError e) (by simp)
    (by rw [hfill, hlen]; show 0 + (errs.length - 1) ≤ 0xFFFF; omega)
  dsimp only
  unfold Dev.errorsArrive
  rw [hr, hmin]
  simp only [Bool.false_eq_true, if_false, hall, Dev.onlyIf_true]
  generalize hf : (errs.erase e).foldl (fun d e => d.recordError e) (d.recordError e) = f at *
  have ht := Dev.halt_toc (d := f.poison errs) tHot (h1.trans ((Dev.recordError_halted e d).trans hh))
  rw [ht]
  refine ⟨rfl, h3.trans ?_, h4.trans ?_, h5.trans ?_, h2.trans ?_⟩
  · rw [hfill]; rfl
  · rw [hfill]; rfl
  · rw [hfill]; rfl
  · rw [hfill, hlen]; exact Nat.zero_add _

/-- A real error while a record is held merges into it, and the device halts. -/
theorem Dev.errorsArrive_merges {d : Dev} {e : ErrIn} (tHot : Int) (hr : d.inReset = false) (hh : d.toc.halted = false)
    (hv : d.toc.rcd.valid = true) (he : e.injected = false) :
    let t := d.errorsArrive [e] tHot
    t.toc.halted = true ∧ t.toc.captures = d.toc.captures ∧ t.toc.rcd = { d.toc.rcd with
      merge := satAdd 0xFFFF d.toc.rcd.merge 1, merged := d.toc.rcd.merged ||| BitVec.ofNat 32 (2 ^ e.cls)
      real := true, halted := true, haltTemp := tHot, lastSeq := d.proto.lastReady } := by
  have hm : d.recordError e = d.mergeRecord e true := by simp [Dev.recordError, hv, Dev.errorHalts, he]
  dsimp only
  rw [Dev.errorsArrive_singleton e tHot hr, show d.errorHalts e = true by simp [Dev.errorHalts, he], hm, Dev.onlyIf_true,
    Dev.halt_toc (d := (d.mergeRecord e true).poison [e]) tHot hh]
  refine ⟨rfl, rfl, ?_⟩
  simp [Dev.mergeRecord, Dev.poison, he, Nat.shiftLeft_eq]

/-- An injected error of mode 0 that finds no record fills it; the device goes on. -/
theorem Dev.errorsArrive_injected {d : Dev} {e : ErrIn} {j : Injection} (tHot : Int) (hr : d.inReset = false) (hv : d.toc.rcd.valid = false)
    (he : e.injected = true) (hj : d.toc.inject = some j) (hm : j.mode = 0) :
    d.errorsArrive [e] tHot = (d.fillRecord e false).poison [e] := by
  have hh : d.errorHalts e = false := by simp [Dev.errorHalts, he, hj, hm]
  rw [Dev.errorsArrive_singleton e tHot hr, hh, Dev.onlyIf_false]
  unfold Dev.recordError
  rw [hv, hh]; rfl

/-- The end of an injection: the injection is over and source 6 raised. -/
theorem Dev.injectDone_spec (j : Injection) (result : Nat) (d : Dev) : (d.injectDone j result).toc = { d.toc with inject := none }
    ∧ (d.pwr.mode ≠ .sleep → (d.injectDone j result).irqBit 6 = true) := by
  unfold Dev.injectDone
  refine ⟨Dev.emit_toc .., fun hm => Dev.emit_irqBit_self (by omega) ?_ _⟩
  exact .inl hm

/-! ## Correctable errors (R686, R687) -/

/-- The counts once a correctable error of region `r` is counted (25 R686). -/
def TocsinSt.counted (r : Nat) (T : TocsinSt) : TocsinSt :=
  { T with
    ce := upd T.ce r (satAdd 0xFFFF · 1), ceNew := upd T.ceNew r (satAdd 0xFFFF · 1), ceTotal := (T.ceTotal + 1) % 2 ^ 32
    ceWindow := if T.windowOpen then upd T.ceWindow r (· + 1) else T.ceWindow }

/-- The log entry of the first correctable error of region `r` in a Round (25 R698). -/
def Dev.ceLog (e : ErrIn) (d : Dev) : Dev :=
  d.onlyIf (d.toc.policy.logCe && !d.toc.ceLogged.contains e.region) fun d =>
    ({ d with toc.ceLogged := e.region :: d.toc.ceLogged }).logFault (ceEntry e d.now)

theorem Dev.logFault_spec (entry : List Byte) {d : Dev} (hh : d.toc.halted = false) : d.logFault entry =
    if 64 ≤ d.toc.q7.length then { d with toc.logDrops := satAdd 0xFFFF d.toc.logDrops 1 } else { d with toc.q7 := d.toc.q7 ++ [entry] } := by
  unfold Dev.logFault; rw [hh]; rfl

/-- What logging changes. -/
theorem Dev.ceLog_spec (e : ErrIn) {d : Dev} (hh : d.toc.halted = false) : ∃ l q n, d.ceLog e = { d with
    toc.ceLogged := l, toc.q7 := q, toc.logDrops := n }
      ∧ q.length = (if d.toc.policy.logCe = true ∧ e.region ∉ d.toc.ceLogged ∧ d.toc.q7.length < 64 then d.toc.q7.length + 1 else d.toc.q7.length) := by
  unfold Dev.ceLog
  cases hc : d.toc.policy.logCe && !d.toc.ceLogged.contains e.region with
  | false =>
    refine ⟨d.toc.ceLogged, d.toc.q7, d.toc.logDrops, rfl, ?_⟩
    rw [if_neg]
    rintro ⟨h1, h2, -⟩
    simp [h1, h2] at hc
  | true =>
    rw [Bool.and_eq_true, Bool.not_eq_true', List.contains_eq_mem, decide_eq_false_iff_not] at hc
    obtain ⟨h1, h2⟩ := hc
    rw [Dev.onlyIf_true, Dev.logFault_spec _ (show ({ d with toc.ceLogged := e.region :: d.toc.ceLogged } : Dev).toc.halted = false from hh)]
    by_cases hl : 64 ≤ d.toc.q7.length
    · rw [if_pos hl]
      exact ⟨_, d.toc.q7, _, rfl, by rw [if_neg fun h => absurd hl (Nat.not_le.2 h.2.2)]⟩
    · rw [if_neg hl]
      exact ⟨_, _, d.toc.logDrops, rfl, by rw [if_pos ⟨h1, h2, Nat.not_le.1 hl⟩, List.length_append]; rfl⟩

/-- A correctable error: counted, logged, and escalated once the window's count reaches the threshold. -/
theorem Dev.correctable_eq {d : Dev} (e : ErrIn) (hr : d.inReset = false) (hh : d.toc.halted = false) :
    let d2 := ({ d with toc := d.toc.counted e.region } : Dev).ceLog e
    let count := d2.toc.ceWindow.getD e.region 0
    d.correctable e = d2.onlyIf (d2.toc.policy.threshold != 0 && d2.toc.windowOpen && d2.toc.policy.threshold ≤ count)
      (Dev.errorsArrive [escalation e count] d2.pwr.tHot) := by
  unfold Dev.correctable
  rw [hr, hh]; rfl

/-- The counts of one more correctable error of region `r`. -/
theorem TocsinSt.counted_ce (T : TocsinSt) {r : Nat} (hr : r ≤ 4) (hl : T.ce.length = 5) (ht : T.ceTotal < 2 ^ 32 - 1) :
    (T.counted r).ceTotal = T.ceTotal + 1
      ∧ ∀ k < 5, (T.counted r).ce.getD k 0 = if k = r then satAdd 0xFFFF (T.ce.getD k 0) 1 else T.ce.getD k 0 := by
  refine ⟨Nat.mod_eq_of_lt (by omega), fun k hk => ?_⟩
  show (upd T.ce r _).getD k 0 = _
  by_cases h : k = r
  · subst h; rw [getD_upd_same _ _ _ _ (by omega), if_pos rfl]
  · rw [getD_upd_ne _ _ _ _ _ h, if_neg h]

/-- The window's count of region `r` once the error is counted. -/
theorem TocsinSt.counted_window (T : TocsinSt) {r : Nat} (hr : r ≤ 4) (hl : T.ceWindow.length = 5) :
    (T.counted r).ceWindow.getD r 0 = if T.windowOpen then T.ceWindow.getD r 0 + 1 else T.ceWindow.getD r 0 := by
  unfold TocsinSt.counted
  dsimp only
  split
  · rw [getD_upd_same _ _ _ _ (by omega)]
  · rfl

/-- A correctable error below the policy's threshold is counted and logged. -/
theorem Dev.correctable_counts {d : Dev} {e : ErrIn} (hr : d.inReset = false) (hh : d.toc.halted = false) (he : e.region ≤ 4)
    (hw : d.toc.ceWindow.length = 5) (hthr : d.toc.policy.threshold = 0 ∨ d.toc.windowOpen = false
      ∨ d.toc.ceWindow.getD e.region 0 + 1 < d.toc.policy.threshold) :
    ∃ l q n, d.correctable e = { d with toc := { d.toc.counted e.region with ceLogged := l, q7 := q, logDrops := n } }
      ∧ q.length = (if d.toc.policy.logCe = true ∧ e.region ∉ d.toc.ceLogged ∧ d.toc.q7.length < 64 then d.toc.q7.length + 1 else d.toc.q7.length) := by
  obtain ⟨l, q, n, hl, hq⟩ := Dev.ceLog_spec e (d := { d with toc := d.toc.counted e.region }) hh
  refine ⟨l, q, n, ?_, hq⟩
  rw [Dev.correctable_eq e hr hh, hl]
  have hc := d.toc.counted_window he hw
  have hno : (d.toc.policy.threshold != 0 && d.toc.windowOpen
      && decide (d.toc.policy.threshold ≤ (d.toc.counted e.region).ceWindow.getD e.region 0)) = false := by
    rw [hc]
    obtain h | h | h := hthr
    · simp [h]
    · simp [h]
    · cases d.toc.windowOpen with
      | false => simp
      | true => rw [if_pos rfl, decide_eq_false (Nat.not_le.2 h), Bool.and_false]
  exact congrArg (Dev.onlyIf · _ _) hno

/-- One that reaches the threshold of an open window escalates. -/
theorem Dev.correctable_escalates {d : Dev} {e : ErrIn} (hr : d.inReset = false) (hh : d.toc.halted = false) (he : e.region ≤ 4)
    (hw : d.toc.ceWindow.length = 5) (h0 : d.toc.policy.threshold ≠ 0) (ho : d.toc.windowOpen = true)
    (ht : d.toc.policy.threshold ≤ d.toc.ceWindow.getD e.region 0 + 1) :
    ∃ l q n, d.correctable e = ({ d with toc := { d.toc.counted e.region with ceLogged := l, q7 := q, logDrops := n } } : Dev).errorsArrive
      [escalation e (d.toc.ceWindow.getD e.region 0 + 1)] d.pwr.tHot := by
  obtain ⟨l, q, n, hl, -⟩ := Dev.ceLog_spec e (d := { d with toc := d.toc.counted e.region }) hh
  refine ⟨l, q, n, ?_⟩
  have hc := d.toc.counted_window he hw
  rw [if_pos ho] at hc
  rw [Dev.correctable_eq e hr hh, hl]
  dsimp only
  rw [hc]
  have hyes : (d.toc.policy.threshold != 0 && d.toc.windowOpen && decide (d.toc.policy.threshold ≤ d.toc.ceWindow.getD e.region 0 + 1)) = true := by
    rw [ho, decide_eq_true ht, Bool.and_true, Bool.and_true]; simpa using h0
  exact congrArg (Dev.onlyIf · _ _) hyes

/-- An error that does not halt leaves the counts of correctable ones. -/
theorem Dev.errorsArrive_uncounted {d : Dev} {e : ErrIn} {tHot : Int} (hr : d.inReset = false) (hh : d.toc.halted = false)
    (hn : d.errorHalts e = false) :
    (d.errorsArrive [e] tHot).toc.ceTotal = d.toc.ceTotal ∧ (d.errorsArrive [e] tHot).toc.halted = false := by
  rw [Dev.errorsArrive_singleton e tHot hr, hn, Dev.onlyIf_false]
  refine ⟨?_, (Dev.recordError_halted e d).trans hh⟩
  unfold Dev.recordError Dev.poison; split <;> rfl

/-- A correctable error of an injection in mode 0 counts, and does not halt. -/
theorem Dev.correctable_injected {d : Dev} {e : ErrIn} {j : Injection} (hr : d.inReset = false) (hh : d.toc.halted = false)
    (hi : e.injected = true) (hj : d.toc.inject = some j) (hm : j.mode = 0) :
    (d.correctable e).toc.ceTotal = (d.toc.ceTotal + 1) % 2 ^ 32 ∧ (d.correctable e).toc.halted = false := by
  obtain ⟨l, q, n, hl, -⟩ := Dev.ceLog_spec e (d := { d with toc := d.toc.counted e.region }) hh
  rw [Dev.correctable_eq e hr hh, hl]
  unfold Dev.onlyIf
  split
  · exact Dev.errorsArrive_uncounted hr hh (by
      show (!e.injected || (match d.toc.inject with | some j => j.mode == 1 | none => false)) = false
      rw [hi, hj]; simp [hm])
  · exact ⟨rfl, hh⟩

/-- Settles O58: each row by what its errors do to the record, the counts and the halt. -/
theorem tocsinRows : Obligations.TocsinRows := by
  unfold Obligations.TocsinRows
  intro s dt d T fills
  have arrive {errs : List ErrIn} {tHot : Int} (h : ∀ x ∈ errs, x.injected = false ∧ 1 ≤ x.cls ∧ x.cls ≤ 15) :
      exec (.tocsinErrorArrival dt errs tHot) s = .next (s.after dt (d.errorsArrive (errs.map takenError) tHot)) := by
    refine (exec_tocsinErrorArrival ..).trans (State.run_of_eq ?_)
    rw [Dev.errorArrival_real (fun x hx => (h x hx).1), realErrors_of_real h]
  refine ⟨fun hr hh => ⟨fun hv => ⟨?one, ?cycle, ?injected, ?lockstep, ?bus, ?watchdog, ?missed⟩, ?merges, ?correctable⟩, ?report, ?beat, ?alive⟩
  case one =>
    intro e tHot hi h1 h15 hl hd
    have htk : takenError e = e := by
      obtain ⟨cls, level, region, block, master, access, addr, detail, injected⟩ := e
      dsimp only at hl hd
      unfold takenError
      dsimp only
      rw [hl]
      split
      · rfl
      · rename_i hc; rw [hd (by omega)]
    refine exec_fills hr hh hv hi ((arrive ?_).trans ?_)
    · intro x hx; rw [List.mem_singleton.1 hx]; exact ⟨hi, h1, h15⟩
    · rw [List.map_singleton, htk]
  case cycle =>
    intro errs tHot e he hfirst hn
    refine ⟨_, arrive fun x hx => ?_, ?_⟩
    · obtain ⟨h1, h2, h3, -⟩ := hfirst x hx; exact ⟨h1, h2, h3⟩
    have h := Dev.errorsArrive_cycle (d := d) (errs := errs.map takenError) (e := takenError e) tHot hr hh hv (List.mem_map_of_mem he) ?_
      (by rw [List.length_map]; exact hn)
    · rw [List.length_map] at h; exact h
    · intro x hx
      obtain ⟨y, hy, rfl⟩ := List.mem_map.1 hx
      obtain ⟨h1, -, -, h4⟩ := hfirst y hy
      exact ⟨h1, h4.imp (fun h => by rw [h]) id⟩
  case injected =>
    intro e j tHot hm he hj hmode hkind
    have hreal : realErrors [e] = [] := by unfold realErrors; simp [he]
    have hinj : d.injectedErrors [e] = [j.error e] := by
      unfold Dev.injectedErrors
      rw [show d.toc.inject = some j from hj, show [e].find? (·.injected) = some e by simp [he]]
      exact if_neg hkind
    have hx : d.errorArrival [e] tHot = Dev.injectDone j (bit (d.toc.rcd.valid || false)) ((d.fillRecord (j.error e) false).poison [j.error e]) := by
      unfold Dev.errorArrival
      dsimp only
      rw [hreal, hinj, List.nil_append, Dev.errorsArrive_injected (d := d) tHot hr hv rfl hj hmode, show d.toc.inject = some j from hj,
        show d.inReset = false from hr]
      simp [hmode]
    obtain ⟨ht, hirq⟩ := Dev.injectDone_spec j (bit (d.toc.rcd.valid || false)) ((d.fillRecord (j.error e) false).poison [j.error e])
    have hirq := hirq hm
    refine ⟨_, (exec_tocsinErrorArrival ..).trans (State.run_of_eq hx), ?_, ?_, ?_, ?_, ?_, ?_, ?_, hirq⟩
    · exact (congrArg TocsinSt.halted ht :).trans hh
    · exact (congrArg TocsinSt.inject ht :)
    · exact (congrArg (·.rcd.valid) ht :)
    · exact (congrArg (·.rcd.injected) ht :)
    · exact (congrArg (·.rcd.real) ht :)
    · exact (congrArg (·.rcd.cls) ht :)
    · refine (congrArg (·.rcd.master) ht :).trans ?_
      show (j.error e).master = 0x7F
      unfold Injection.error; simp [hmode]
  case lockstep => exact fun a => exec_fills hr hh hv rfl rfl
  case bus => exact fun r b m ac a => exec_fills hr hh hv rfl rfl
  case watchdog =>
    intro r b hb hw hu
    refine exec_fills hr hh hv rfl ((exec_watchdogExpiry ..).trans (State.runIf_next _ ?_))
    rw [show (s.dev.tick dt).booted = true from hb, hw, show (s.dev.tick dt).blockUnfitted r b = false from hu]; rfl
  case missed =>
    intro j hb hj hs
    refine exec_fills hr hh hv rfl ((exec_injectionMissed ..).trans (State.runIf_of_eq (by
      unfold Dev.up; rw [show (s.dev.tick dt).booted = true from hb, show (s.dev.tick dt).toc.halted = false from hh]; rfl) ?_))
    rw [show (s.dev.tick dt).toc.inject = some j from hj]
    exact congrArg (Dev.onlyIf · _ _) hs
  case merges =>
    intro e tHot hv hi h1 h15
    obtain ⟨h, hc, hrcd⟩ := Dev.errorsArrive_merges (d := d) (e := takenError e) tHot hr hh hv hi
    exact ⟨_, arrive fun x hx => by rw [List.mem_singleton.1 hx]; exact ⟨hi, h1, h15⟩, h, hc, hrcd⟩
  case correctable =>
    intro e he hce hw htot
    obtain ⟨hct, hcc⟩ := T.counted_ce he hce htot
    refine ⟨fun hi => ?_, fun j hi hj hm hk => ?_⟩
    · have hrow {u : Dev} (hu : d.correctable e = u) : exec (.correctableError dt e) s = .next (s.after dt u) := by
        refine (exec_correctableError ..).trans (State.run_of_eq ?_)
        unfold Dev.correctableArrival
        simp only [hi, Bool.not_false, if_true, he, decide_true, Dev.onlyIf_true]
        exact hu
      refine ⟨fun hthr => ?_, fun h0 ho ht hv => ?_⟩
      · obtain ⟨l, q, n, hx, hq⟩ := Dev.correctable_counts (d := d) hr hh he hw hthr
        exact ⟨_, hrow hx, ⟨hct, hcc⟩, rfl, hh, hq⟩
      · obtain ⟨l, q, n, hx⟩ := Dev.correctable_escalates (d := d) hr hh he hw h0 ho ht
        have hf := (Dev.errorsArrive_fills (e := escalation e (d.toc.ceWindow.getD e.region 0 + 1))
          (d := { d with toc := { d.toc.counted e.region with ceLogged := l, q7 := q, logDrops := n } }) d.pwr.tHot hr hh hv hi).1
        refine ⟨_, hrow hx, ?_⟩
        rw [State.after]
        dsimp only
        rw [hf]
        exact ⟨⟨hct, hcc⟩, rfl, rfl, rfl, rfl, rfl⟩
    · obtain ⟨h1, h2⟩ := Dev.correctable_injected (d := d) (e := j.error e) hr hh rfl hj hm
      obtain ⟨ht, -⟩ := Dev.injectDone_spec j 2 (d.correctable (j.error e))
      refine ⟨_, (exec_correctableError ..).trans (State.run_of_eq (e := Dev.injectDone j 2 (d.correctable (j.error e))) ?_), ?_, ?_, ?_⟩
      · unfold Dev.correctableArrival
        rw [hi, show (s.dev.tick dt).toc.inject = some j from hj]
        simp [hk]; rfl
      · exact (congrArg TocsinSt.ceTotal ht :).trans (h1.trans (Nat.mod_eq_of_lt (by show T.ceTotal + 1 < 2 ^ 32; omega)))
      · exact (congrArg TocsinSt.inject ht :)
      · exact (congrArg TocsinSt.halted ht :).trans h2
  case report =>
    intro hu h0 hany hrep
    refine (exec_faultCorrectedReport ..).trans (State.runIf_next _ ?_)
    have hrep' : (match d.toc.ceReported with | none => true | some r => decide (r + 800 ≤ d.round)) = true := by
      obtain h | ⟨r, h, hle⟩ := hrep
      · rw [show d.toc.ceReported = none from h]
      · rw [show d.toc.ceReported = some r from h]; exact decide_eq_true hle
    rw [show (s.dev.tick dt).up = true from hu, show (s.dev.tick dt).now % roundTicks = 0 from h0,
      show (s.dev.tick dt).toc.ceNew.any (· != 0) = true from hany]
    exact hrep'
  case beat => exact fun hz => (exec_heartbeat ..).trans (State.runIf_next _ hz)
  case alive =>
    intro hu hs
    refine (exec_aliveToggle ..).trans (State.runIf_next _ ?_)
    rw [show (s.dev.tick dt).up = true from hu]
    exact hs

end Sys2Proof.Machine
end

section
/-!
PROOF. The halt responder and the commands on the fault record (chapter 25).
-/
namespace Sys2Proof.Machine

/-! ## The halt responder (R692, R700) -/

theorem Dev.taken_toc (p : QPkt) (d : Dev) : (d.taken p).toc = d.toc := by
  refine (congrArg Dev.toc (d.taken_sansEvents p) :).trans ?_
  unfold Dev.dequeued; split <;> rfl

/-- The responder takes the front packet of Q0 and Q2. -/
theorem exec_haltResponderPacket_takes {s : State} {dt : Nat} {p : QPkt} {e : Dev} (hh : s.dev.toc.halted = true)
    (hp : s.dev.haltFront = some p) (hc : s.dev.canReply p.src = true)
    (h : (if p.opcode = 0x0A01 then ((s.dev.tick dt).taken p).execute ((s.dev.tick dt).nextReq p) p.bytes fltReadBody
      else if p.opcode = 0x0A02 then ((s.dev.tick dt).taken p).execute ((s.dev.tick dt).nextReq p) p.bytes fltAckBody
      else if p.opcode = 0x0001 then ((s.dev.tick dt).taken p).execute ((s.dev.tick dt).nextReq p) p.bytes sysInfoBody
      else ((s.dev.tick dt).taken p).reply ((s.dev.tick dt).nextReq p) .halted []) = e) :
    exec (.haltResponderPacket dt) s = .next (s.after dt e) := by
  refine (exec_haltResponderPacket ..).trans (State.runIf_of_eq hh ?_)
  unfold Dev.haltResponder
  rw [show (s.dev.tick dt).haltFront = some p from hp]
  dsimp only
  unfold Dev.take
  rw [if_pos (show (s.dev.tick dt).canReply p.src = true from hc)]
  exact h

/-- A good packet of the system group that repeats none and needs no authentication is executed. -/
theorem Dev.execute_plain {d : Dev} {q : Req} {raw : List Byte} (body : Body) (hc : crcGood raw = true) (hr : d.repeats q = false)
    (hg : d.groupFitted q.opcode = true) (hx : q.ctx = 0xFF) (hk : d.critical q = false) (ha : hasBit q.flags 0 = false) :
    d.execute q raw body = d.conclude q ((body q d).forFabric q d) := by
  have hf : (d.cache q.src).find? (fun e => e.tag == q.tag && e.crc == q.crc) = none := (find_none_iff _ _).2 hr
  have hauth : d.authenticate q raw = (none, d) := by unfold Dev.authenticate; simp [hk, ha]
  unfold Dev.execute
  rw [hf]
  simp [hc, hg, hx, hauth]

/-- FLT_READ, its checks passed. -/
theorem fltRead_reads {q : Req} {e : Dev} (hl : q.len = 4) (hb : q.badHeader = false) (h15 : q.p8 0 ≤ 15)
    (hz : zeroAt q.params 1 3 = true) (hf : q.src.isFabric = true → q.p8 0 ≤ 5) : fltReadBody q e = okWith
      (recordBytes e.toc.rcd e.toc.ce e.toc.logDrops (e.toc.q7.length - q.p8 0) (bit e.toc.halted) ++ (e.toc.q7.take (q.p8 0)).flatten)
      { e with toc.q7 := e.toc.q7.drop (q.p8 0) } := by
  unfold fltReadBody
  refine (checked_of_passes ?_).trans (by dsimp only; rw [List.length_drop])
  cases hs : q.src with
  | spi => simp [hl, hb, hz, Nat.not_lt.2 h15]
  | twoWire => simp [hl, hb, hz, Nat.not_lt.2 h15]
  | fabric dev => simp [hl, hb, hz, Nat.not_lt.2 h15, hf (by rw [hs]; rfl)]

/-- Settles O59: the packet is taken as in the stream; three opcodes are executed, every other packet is answered HALTED. -/
theorem haltResponder : Obligations.HaltResponder := by
  unfold Obligations.HaltResponder
  intro s dt p d q e hh hp hc
  refine ⟨fun h1 h2 h3 => exec_haltResponderPacket_takes hh hp hc (by rw [if_neg h1, if_neg h2, if_neg h3]),
    fun hcrc hrep hx hb ha => ⟨fun hop hl => ?info, fun hop hl h15 hz hsrc => ?read, fun hop hk hl h4 hz ho => ?ack⟩⟩
  case info =>
    refine exec_haltResponderPacket_takes hh hp hc ?_
    have hopq : q.opcode = 0x0001 := hop
    rw [if_neg (by omega), if_neg (by omega), if_pos hop]
    refine (Dev.execute_plain (d := e) (q := q) sysInfoBody hcrc hrep (by rw [hopq]; rfl) hx (by unfold Dev.critical; rw [hopq]; rfl) ha).trans ?_
    have hbody : sysInfoBody q e = okWith e.infoPayload e := checked_of_passes (by simp [hl, hb])
    rw [hbody, Res.forFabric_fits e (by exact Req.fits_opcode hopq rfl (by simp [okWith, Dev.infoPayload_length]))]
    rfl
  case read =>
    refine exec_haltResponderPacket_takes hh hp hc ?_
    have hopq : q.opcode = 0x0A01 := hop
    rw [if_pos hop]
    refine (Dev.execute_plain (d := e) (q := q) fltReadBody hcrc hrep (by rw [hopq]; rfl) hx (by unfold Dev.critical; rw [hopq]; rfl) ha).trans ?_
    have ht : e.toc = s.dev.toc := Dev.taken_toc p d
    have hbody : fltReadBody q e = okWith (recordBytes s.dev.toc.rcd s.dev.toc.ce s.dev.toc.logDrops (s.dev.toc.q7.length - q.p8 0) 1
        ++ (s.dev.toc.q7.take (q.p8 0)).flatten) { e with toc.q7 := s.dev.toc.q7.drop (q.p8 0) } := by
      rw [fltRead_reads hl hb h15 hz fun h => absurd (h.symm.trans hsrc) (by decide), ht, hh]; rfl
    rw [hbody, Res.forFabric_fits e (by unfold Req.fits; rw [hsrc]; rfl)]
    rfl
  case ack =>
    refine exec_haltResponderPacket_takes hh hp hc ?_
    have hopq : q.opcode = 0x0A02 := hop
    rw [if_neg (by omega), if_pos hop]
    refine (Dev.execute_plain (d := e) (q := q) fltAckBody hcrc hrep (by rw [hopq]; rfl) hx hk ha).trans ?_
    have hbody : fltAckBody q e = refuse .wrongState e := by
      have ht : e.toc.halted = true := by rw [Dev.taken_toc p d]; exact hh
      unfold fltAckBody checked
      simp [hl, hb, hz, Nat.not_le.2 h4, Req.notSystem, ho, ht]
    rw [hbody, Res.forFabric_fits e (by exact Req.fits_opcode hopq rfl (by simp [refuse]))]
    rfl

/-! ## Commands (R699-R702) -/

theorem recordBytes_length (r : FaultRec) {ce : List Nat} (h : ce.length = 5) (drops entries kind : Nat) :
    (recordBytes r ce drops entries kind).length = 64 := by
  have hc : (ce.flatMap u16).length = 10 := by rw [flatMap_length_const ce (fun x _ => u16_length x), h]
  unfold recordBytes
  simp only [List.length_append, hc, u8_length, u16_length, u32_length, u64_length, s16_length, zeros_length]

/-- FLT_ACK's two flags. -/
theorem fltAck_flags (f : Nat) (d : Dev) :
    ((d.onlyIf (hasBit f 0) fun d => { d with toc.ce := [0, 0, 0, 0, 0] }).onlyIf (hasBit f 1) fun d => { d with toc.logDrops := 0 })
      = { d with toc := { d.toc with
          ce := if hasBit f 0 then [0, 0, 0, 0, 0] else d.toc.ce, logDrops := if hasBit f 1 then 0 else d.toc.logDrops } } := by
  unfold Dev.onlyIf
  cases hasBit f 0 <;> cases hasBit f 1 <;> rfl

/-- Settles O60: each command by its checks, all of which pass, and its result. -/
theorem faultCommands : Obligations.FaultCommands := by
  unfold Obligations.FaultCommands
  intro s dt q e hb
  refine ⟨fun h hl h15 hz hf h64 hce => ?read, fun h hl h4 hz ho hh => ?ack, fun h hl ho hw hj => ?inject, fun h hl hw hzz h4 h5 hz ho hwt => ?policy⟩
  case read =>
    have hlen : ((e.toc.q7.take (q.p8 0)).flatten).length ≤ 64 * q.p8 0 := by
      rw [List.length_flatten, List.map_congr_left (fun x hx => h64 x (List.mem_of_mem_take hx)), List.map_const', List.sum_replicate,
        List.length_take]
      simp; omega
    refine State.command_ok h ?_ ?_
    · exact fltRead_reads hl hb h15 hz hf
    · cases hs : q.src.isFabric
      · unfold Req.fits; rw [hs]; rfl
      · have := hf hs
        refine State.admits_fits h rfl ?_
        rw [List.length_append, recordBytes_length _ hce]; omega
  case ack =>
    intro T cleared
    have checks (hc : (q.p16 0 != 0 && !(e.toc.rcd.valid && e.toc.rcd.capture == q.p16 0)) = false) : ∀ c ∈ [(q.len != 4, Status.badLength),
        (q.badHeader || decide (4 ≤ q.p8 2) || !zeroAt q.params 3 1, .badParam), (q.notSystem e, .notOwner),
        (e.toc.halted || (q.p16 0 != 0 && !(e.toc.rcd.valid && e.toc.rcd.capture == q.p16 0)), .wrongState)], c.1 = false := by
      simp only [List.mem_cons, List.not_mem_nil, or_false, forall_eq_or_imp, forall_eq]
      exact ⟨by simp [hl], by simp [hb, hz, Nat.not_le.2 h4], by simp [Req.notSystem, ho], by rw [hh, hc]; rfl⟩
    have row {t : Dev} (hc : (q.p16 0 != 0 && !(e.toc.rcd.valid && e.toc.rcd.capture == q.p16 0)) = false)
        (ht : e.onlyIf (q.p16 0 != 0) Dev.ackRecord = t) :
        exec (.fltAck dt) s = .next (s.answered dt q .ok [] { t with toc := cleared t.toc }) := by
      refine State.command_ok h ?_ (State.admits_fits h rfl (by simp))
      unfold fltAckBody
      refine (checked_of_passes (checks hc)).trans ?_
      dsimp only
      rw [ht, fltAck_flags]; rfl
    refine ⟨fun h0 => row (by simp [h0]) (by rw [h0]; rfl), fun h0 hv hcap => ?_⟩
    intro entry
    have hack : e.onlyIf (q.p16 0 != 0) Dev.ackRecord = { e.logFault entry with toc.rcd := {} } := by
      rw [show (q.p16 0 != 0) = true by simp [h0]]; rfl
    have hc : (q.p16 0 != 0 && !(e.toc.rcd.valid && e.toc.rcd.capture == q.p16 0)) = false := by
      rw [show e.toc.rcd.valid = true from hv, show e.toc.rcd.capture = q.p16 0 from hcap]; simp
    rw [Dev.logFault_spec entry hh] at hack
    refine ⟨fun hq => ?_, fun hq => ?_⟩
    · rw [if_neg (Nat.not_le.2 hq)] at hack; exact row hc hack
    · rw [if_pos hq] at hack; exact row hc hack
  case inject =>
    intro hun h8 hbad hallow j
    refine State.command_deferred h ?_ (State.admits_fits h rfl (by simp))
    unfold fltInjectBody
    refine checked_of_passes ?_
    have hf1 : (decide (q.p8 0 ≤ 7) && e.blockUnfitted (q.p8 1) (q.p8 2)) = false := by
      by_cases h7 : q.p8 0 ≤ 7
      · rw [hun h7, Bool.and_false]
      · rw [decide_eq_false h7, Bool.false_and]
    have hf2 : (q.p8 0 == 8 && q.p32 4 == 4 && !e.hasFabric) = false := by
      by_cases hk : q.p8 0 = 8 ∧ q.p32 4 = 4
      · rw [h8 hk.1 hk.2]; simp
      · have : (q.p8 0 == 8 && q.p32 4 == 4) = false := by simpa using hk
        rw [this]; rfl
    have hf3 : (q.p8 3 == 1 && !e.toc.nextPolicy.allowHalt) = false := by
      by_cases hm : q.p8 3 = 1
      · rw [hallow hm]; simp
      · simp [hm]
    simp only [List.mem_cons, List.not_mem_nil, or_false, forall_eq_or_imp, forall_eq]
    exact ⟨by simp [hl], by rw [hf1, hf2]; rfl, by rw [hb, hbad]; rfl, by simp [Req.notSystem, ho], by rw [hf3, hw]; rfl, by rw [hj]; rfl⟩
  case policy =>
    refine State.command_passes h rfl ?_ (State.admits_fits h rfl (by simp))
    have hz2 : ((q.p16 0 == 0) != (q.p16 2 == 0)) = false := by
      by_cases h0 : q.p16 0 = 0
      · simp [h0, hzz.1 h0]
      · have h2 : q.p16 2 ≠ 0 := fun h => h0 (hzz.2 h)
        simp [h0, h2]
    simp only [List.mem_cons, List.not_mem_nil, or_false, forall_eq_or_imp, forall_eq]
    exact ⟨by simp [hl], by rw [hz2]; simp [hb, hz, Nat.not_lt.2 hw, Nat.not_lt.2 h4, Nat.not_lt.2 h5], by simp [Req.notSystem, ho], hwt⟩

end Sys2Proof.Machine
end

section
/-!
SUPPORT. What the mute causes of the programmes (20 R561) leave as it was: they change the audio state and raise events, nothing else.
-/
namespace Sys2Proof.Machine

/-- The device but for its audio state and what an event changes. -/
def Dev.sansAudio (d : Dev) : Dev := { d.sansEvents with audio := {} }

theorem Dev.sansAudio_of_sansEvents {d e : Dev} (h : d.sansEvents = e.sansEvents) : d.sansAudio = e.sansAudio :=
  (congrArg (fun d : Dev => { d with audio := {} }) h :)

theorem Dev.setCauses_sansAudio (p new : Nat) (d : Dev) : (d.setCauses p new).sansAudio = d.sansAudio := by
  have mute (p st : Nat) (d : Dev) : (d.progMute p st).sansAudio = d.sansAudio := Dev.sansAudio_of_sansEvents (Dev.raise_sansEvents ..)
  unfold Dev.setCauses
  dsimp only
  split
  · rfl
  · split
    · exact mute ..
    · split
      · exact mute ..
      · rfl

theorem Dev.setCause_sansAudio (p n : Nat) (on : Bool) (d : Dev) : (d.setCause p n on).sansAudio = d.sansAudio :=
  Dev.setCauses_sansAudio ..

theorem Dev.audioSync_sansAudio (d : Dev) : d.audioSync.sansAudio = d.sansAudio :=
  foldl_keeps Dev.sansAudio _ (fun _ _ => Dev.setCauses_sansAudio ..) _ d

theorem Dev.clockMute_sansAudio (d : Dev) : d.clockMute.sansAudio = d.sansAudio :=
  foldl_keeps Dev.sansAudio _ (fun d _ => Dev.onlyIf_leaves Dev.sansAudio _ (fun _ => Dev.setCause_sansAudio ..) d) _ d

theorem Dev.clockUnmute_sansAudio (d : Dev) : d.clockUnmute.sansAudio = d.sansAudio :=
  foldl_keeps Dev.sansAudio _ (fun _ _ => Dev.setCause_sansAudio ..) _ d

/-- A status bit once set stays set through what the operation raises. -/
def KeepsBits (f : Dev → Dev) : Prop := ∀ (d : Dev) (n : Nat), n < 128 → d.irqBit n = true → (f d).irqBit n = true

theorem Dev.raise_keepsBits (src ctx : Nat) (payload : List Byte) : KeepsBits (Dev.raise src ctx payload) :=
  fun _ _ hn h => Dev.raise_irqBit_mono hn h src ctx payload

theorem Dev.emit_keepsBits (src : Nat) (payload : List Byte) : KeepsBits (Dev.emit src payload) :=
  Dev.raise_keepsBits src 0xFF payload

theorem Dev.setCauses_keepsBits (p new : Nat) : KeepsBits (Dev.setCauses p new) := by
  intro d n hn h
  unfold Dev.setCauses
  dsimp only
  split
  · exact h
  · split
    · exact Dev.emit_keepsBits _ _ _ n hn h
    · split
      · exact Dev.emit_keepsBits _ _ _ n hn h
      · exact h

theorem Dev.setCause_keepsBits (p n : Nat) (on : Bool) : KeepsBits (Dev.setCause p n on) :=
  fun d => Dev.setCauses_keepsBits p _ d

theorem forAll_keepsBits {f : Nat → Dev → Dev} (h : ∀ i, KeepsBits (f i)) (l : List Nat) : KeepsBits (forAll l f) := by
  intro d n hn hd
  unfold forAll
  induction l generalizing d with
  | nil => exact hd
  | cons i l ih => exact ih (f i d) (h i d n hn hd)

theorem Dev.clockUnmute_keepsBits : KeepsBits Dev.clockUnmute := forAll_keepsBits (fun p => Dev.setCause_keepsBits p 3 false) _

end Sys2Proof.Machine
end

section
/-!
PROOF. The clocks and the audio reference (chapter 04).
-/
namespace Sys2Proof.Machine

theorem Dev.clockMute_clk (d : Dev) : d.clockMute.clk = d.clk := (congrArg Dev.clk d.clockMute_sansAudio :)
theorem Dev.clockMute_pwr (d : Dev) : d.clockMute.pwr = d.pwr := (congrArg Dev.pwr d.clockMute_sansAudio :)
theorem Dev.clockUnmute_clk (d : Dev) : d.clockUnmute.clk = d.clk := (congrArg Dev.clk d.clockUnmute_sansAudio :)

/-- A device that is up does not lie in SLEEP while it is ACTIVE. -/
theorem Dev.mode_of_active {d : Dev} (h : d.active = true) : d.pwr.mode = .active := by
  unfold Dev.active at h; rw [Bool.and_eq_true] at h; exact beq_iff_eq.1 h.2

theorem Dev.up_of_active {d : Dev} (h : d.active = true) : d.up = true := by
  unfold Dev.active at h; rw [Bool.and_eq_true] at h; exact h.1

theorem Dev.halted_of_up {d : Dev} (h : d.up = true) : d.toc.halted = false := by
  unfold Dev.up at h; rw [Bool.and_eq_true, Bool.not_eq_true'] at h; exact h.2

theorem Dev.halted_of_active {d : Dev} (h : d.active = true) : d.toc.halted = false := Dev.halted_of_up (Dev.up_of_active h)

/-- The reference lost: PLL_AUD coasts, and the loss is counted and told. -/
theorem Dev.refIsLost_spec {d : Dev} (cause : Nat) (offset : Int) (hm : d.pwr.mode ≠ .sleep) :
    (d.refIsLost cause offset).clk = { d.clk with
        audState := 2, refOffset := offset, refFaults := [], refLosses := satAdd 0xFFFF d.clk.refLosses 1 }
      ∧ (d.refIsLost cause offset).irqBit 10 = true := by
  unfold Dev.refIsLost Dev.audLost
  dsimp only
  refine ⟨by rw [Dev.emit_clk, Dev.clockMute_clk], Dev.emit_irqBit_self (by omega) ?_ _⟩
  exact .inl (by rw [Dev.clockMute_pwr]; exact hm)

/-- A crossing that is armed is in no reset and no halt. -/
theorem Dev.crossingArmed_runs {d : Dev} {x far r b : Nat} (h : d.crossingArmed x far r b = true) :
    d.inReset = false ∧ d.toc.halted = false := by
  unfold Dev.crossingArmed at h
  simp only [Bool.and_eq_true, Bool.not_eq_true'] at h
  exact h.1.1.1

/-- PLL_AUD locks. -/
theorem Dev.audLocked_spec {d : Dev} (state present : Nat) (hm : d.pwr.mode ≠ .sleep) :
    (d.audLocked state present).clk = { d.clk with audState := state, audOn := true, audSince := none, audPending := false }
      ∧ (d.audLocked state present).irqBit 12 = true ∧ (d.audLocked state present).pwr = d.pwr := by
  unfold Dev.audLocked
  refine ⟨Dev.emit_clk .., Dev.emit_irqBit_self (by omega) ?_ _, Dev.emit_pwr ..⟩
  exact .inl hm

/-- HANDSHAKE_QUIET_POINT: the change of the demodulation clock is made. -/
theorem quietPoint_switches (s : State) (dt : Nat) (c : PlanChange) (ha : s.dev.active = true) (hc : s.dev.clk.change = some c)
    (hho : c.holding = true) :
    let d := s.dev.tick dt
    ∃ t, exec (.handshakeQuietPoint dt) s = .next t ∧ t.dev.clk.change = none ∧ t.dev.clk.planLive = c.plan
      ∧ t.dev.clk.plldLive = 1 - s.dev.clk.plldLive ∧ t.dev.clk.planChanges = satAdd 0xFFFF s.dev.clk.planChanges 1
      ∧ t.dev.clk.lastSwitch = d.now % 2 ^ 32 ∧ t.dev.trav = s.dev.trav := by
  intro d
  have hx : exec (.handshakeQuietPoint dt) s = .next (s.after dt ((({ d with
      clk.change := none, clk.plldLive := 1 - d.clk.plldLive, clk.planLive := c.plan, clk.lastSwitch := d.now % 2 ^ 32
      clk.planChanges := satAdd 0xFFFF d.clk.planChanges 1 } : Dev).emit 9 (u8 d.clk.plldLive ++ u8 (1 - d.clk.plldLive) ++ u8 c.plan)).planEvent
        c 0)) := by
    refine (exec_handshakeQuietPoint ..).trans (State.runIf_of_eq ha ?_)
    rw [show (s.dev.tick dt).clk.change = some c from hc]
    dsimp only
    rw [hho]; rfl
  have hclk := (Dev.emit_clk (d := ({ d with
      clk.change := none, clk.plldLive := 1 - d.clk.plldLive, clk.planLive := c.plan, clk.lastSwitch := d.now % 2 ^ 32
      clk.planChanges := satAdd 0xFFFF d.clk.planChanges 1 } : Dev).emit 9 (u8 d.clk.plldLive ++ u8 (1 - d.clk.plldLive) ++ u8 c.plan))
    13 (u8 c.plan ++ u8 0 ++ ub (!c.host))).trans (Dev.emit_clk ..)
  refine ⟨_, hx, ?_, ?_, ?_, ?_, ?_, ?_⟩
  · exact (congrArg ClockSt.change hclk :)
  · exact (congrArg ClockSt.planLive hclk :)
  · exact (congrArg ClockSt.plldLive hclk :)
  · exact (congrArg ClockSt.planChanges hclk :)
  · exact (congrArg ClockSt.lastSwitch hclk :)
  · exact (Dev.emit_trav ..).trans (Dev.emit_trav ..)

/-- HANDSHAKE_TIMEOUT of a crossing that is armed: the chip halts. -/
theorem handshakeTimeout_halts (s : State) (dt x far r b held stalled : Nat) (hx : x ≤ 6) (harm : s.dev.crossingArmed x far r b = true)
    (hheld : 1 ≤ held) (hst : crossingTimeout x ≤ stalled) (hv : s.dev.toc.rcd.valid = false) :
    ∃ t, exec (.handshakeTimeout dt x far r b held stalled) s = .next t ∧ t.dev.toc.halted = true ∧ t.dev.toc.rcd.cls = 6
      ∧ t.dev.toc.rcd.region = r ∧ t.dev.toc.rcd.block = b ∧ t.dev.toc.rcd.addr = x + 256 * (far % 16) := by
  obtain ⟨hr, hh⟩ := Dev.crossingArmed_runs harm
  refine ⟨_, (exec_handshakeTimeout ..).trans (State.runIf_next _ ?_), ?_⟩
  · rw [show (s.dev.tick dt).crossingArmed x far r b = true from harm, decide_eq_true hx, decide_eq_true hheld, decide_eq_true hst]; rfl
  · rw [State.after]
    dsimp only
    rw [(Dev.errorsArrive_fills (d := s.dev.tick dt) _ hr hh hv rfl).1]
    exact ⟨rfl, rfl, rfl, rfl, rfl⟩

/-- AUDIO_REF_EDGE_FAULT: up to four bad edges in the window are counted, a fifth loses the reference. -/
theorem edgeFault_counts (s : State) (dt gap : Nat) (ha : s.dev.active = true) (hmode : s.dev.clk.audMode ≠ 0) :
    let d := s.dev.tick dt
    let faults := List.replicate (edgeFaultsOf gap) d.now ++ d.clk.refFaults.filter d.inRefWindow
    (faults.length ≤ 4 ∨ s.dev.refHeld = false → exec (.audioRefEdgeFault dt gap) s = .next (s.after dt { d with
      clk.edgeFaults := satAdd 0xFFFF d.clk.edgeFaults (edgeFaultsOf gap), clk.refFaults := faults }))
    ∧ (4 < faults.length → s.dev.refHeld = true → ∃ t, exec (.audioRefEdgeFault dt gap) s = .next t ∧ t.dev.clk.audState = 2
      ∧ t.dev.clk.edgeFaults = satAdd 0xFFFF s.dev.clk.edgeFaults (edgeFaultsOf gap)
      ∧ t.dev.clk.refLosses = satAdd 0xFFFF s.dev.clk.refLosses 1 ∧ t.dev.irqBit 10 = true) := by
  intro d
  have hm : d.pwr.mode ≠ .sleep := by rw [show d.pwr.mode = .active from Dev.mode_of_active (d := s.dev) ha]; decide
  have ha' : (s.dev.tick dt).active = true := ha
  intro faults
  have hc : ((s.dev.tick dt).active && (s.dev.tick dt).clk.audMode != 0) = true := by rw [ha']; simpa using hmode
  refine ⟨fun h => ?_, fun hf hh => ?_⟩
  · refine (exec_audioRefEdgeFault ..).trans (State.runIf_of_eq hc ?_)
    have hn : ((s.dev.tick dt).refHeld && decide (4 < faults.length)) = false := by
      obtain h | h := h
      · rw [decide_eq_false (Nat.not_lt.2 h), Bool.and_false]
      · rw [show (s.dev.tick dt).refHeld = false from h]; rfl
    exact if_neg (Bool.eq_false_iff.1 hn)
  · have hy : ((s.dev.tick dt).refHeld && decide (4 < faults.length)) = true := by
      rw [show (s.dev.tick dt).refHeld = true from hh, decide_eq_true hf]; rfl
    obtain ⟨hclk, hirq⟩ := Dev.refIsLost_spec 2 d.clk.refOffset
      (d := { d with clk.edgeFaults := satAdd 0xFFFF d.clk.edgeFaults (edgeFaultsOf gap), clk.refFaults := faults }) hm
    refine ⟨_, (exec_audioRefEdgeFault ..).trans (State.runIf_of_eq hc (if_pos hy)), ?_, ?_, ?_, hirq⟩
    · exact (congrArg ClockSt.audState hclk :)
    · exact (congrArg ClockSt.edgeFaults hclk :)
    · exact (congrArg ClockSt.refLosses hclk :)

/-- AUDIO_REF_LOST: the reference is lost at a gap or outside its range. -/
theorem audioRef_lost (s : State) (dt gap : Nat) (off : Int) (ha : s.dev.active = true) (hmode : s.dev.clk.audMode ≠ 0)
    (hst : s.dev.clk.audState = 1 ∨ s.dev.clk.audState = 3) (hbad : 4000 ≤ gap ∨ refInRange off = false) :
    ∃ t, exec (.audioRefLost dt gap off) s = .next t ∧ t.dev.clk.audState = 2 ∧ t.dev.clk.refOffset = off
      ∧ t.dev.clk.refLosses = satAdd 0xFFFF s.dev.clk.refLosses 1 ∧ t.dev.irqBit 10 = true := by
  let d := s.dev.tick dt
  have hm : d.pwr.mode ≠ .sleep := by rw [show d.pwr.mode = .active from Dev.mode_of_active (d := s.dev) ha]; decide
  have ha' : (s.dev.tick dt).active = true := ha
  obtain ⟨hclk, hirq⟩ := Dev.refIsLost_spec (if 4000 ≤ gap then 0 else 1) off (d := d) hm
  refine ⟨_, (exec_audioRefLost ..).trans (State.runIf_next _ ?_), ?_, ?_, ?_, hirq⟩
  · have hh : (s.dev.tick dt).refHeld = true := by
      unfold Dev.refHeld
      change s.dev.clk.audState = 1 ∨ s.dev.clk.audState = 3 at hst
      rw [ha', show (s.dev.tick dt).clk.audState = s.dev.clk.audState from rfl]
      obtain h | h := hst <;> rw [h] <;> simpa using hmode
    rw [hh]
    obtain h | h := hbad
    · rw [decide_eq_true h]; rfl
    · rw [h]; simp
  · exact (congrArg ClockSt.audState hclk :)
  · exact (congrArg ClockSt.refOffset hclk :)
  · exact (congrArg ClockSt.refLosses hclk :)

/-- AUDIO_PLL_PHASE_LOCK: PLL_AUD follows the reference again. -/
theorem audio_phaseLocked (s : State) (dt : Nat) (off : Int) (ha : s.dev.active = true) (hst : s.dev.clk.audState = 3)
    (hr : refInRange off = true) :
    ∃ t, exec (.audioPllPhaseLock dt off) s = .next t ∧ t.dev.clk.audState = 1 ∧ t.dev.clk.refOffset = off ∧ t.dev.irqBit 11 = true := by
  let d := s.dev.tick dt
  have hm : d.pwr.mode ≠ .sleep := by rw [show d.pwr.mode = .active from Dev.mode_of_active (d := s.dev) ha]; decide
  have ha' : (s.dev.tick dt).active = true := ha
  have hx : exec (.audioPllPhaseLock dt off) s = .next (s.after dt
      (({ d with clk.audState := 1, clk.refOffset := off } : Dev).emit 11 (u8 d.clk.audMode ++ u8 0 ++ s32 off)).clockUnmute) := by
    refine (exec_audioPllPhaseLock ..).trans (State.runIf_next _ ?_)
    rw [ha', show (s.dev.tick dt).clk.audState = 3 from hst, hr]; rfl
  refine ⟨_, hx, ?_, ?_, Dev.clockUnmute_keepsBits _ _ (by omega) (Dev.emit_irqBit_self (by omega) ?_ _)⟩
  · exact (congrArg ClockSt.audState ((Dev.clockUnmute_clk _).trans (Dev.emit_clk ..)) :)
  · exact (congrArg ClockSt.refOffset ((Dev.clockUnmute_clk _).trans (Dev.emit_clk ..)) :)
  · exact .inl hm

/-- AUDIO_PLL_LOCKED: PLL_AUD runs with the mode it was given. -/
theorem audio_locked (s : State) (dt : Nat) (off : Int) (ha : s.dev.active = true) (hrel : (s.dev.tick dt).relocking = true)
    (hr : s.dev.clk.audMode = 0 ∨ refInRange off = true) :
    ∃ t, exec (.audioPllLocked dt off) s = .next t ∧ t.dev.clk.audOn = true ∧ t.dev.clk.audPending = false ∧ t.dev.irqBit 12 = true
      ∧ t.dev.clk.audState = (if s.dev.clk.audMode = 0 then 0 else 1)
      ∧ t.dev.clk.refOffset = (if s.dev.clk.audMode = 0 then 0 else off) := by
  let d := s.dev.tick dt
  have hm : d.pwr.mode ≠ .sleep := by rw [show d.pwr.mode = .active from Dev.mode_of_active (d := s.dev) ha]; decide
  have ha' : (s.dev.tick dt).active = true := ha
  have hx : exec (.audioPllLocked dt off) s = .next (s.after dt
      (({ d with clk.refOffset := if d.clk.audMode == 0 then 0 else off } : Dev).audLocked (if d.clk.audMode == 0 then 0 else 1) 1).clockUnmute) := by
    refine (exec_audioPllLocked ..).trans (State.runIf_next _ ?_)
    rw [ha', show (s.dev.tick dt).relocking = true from hrel]
    obtain h | h := hr
    · rw [show (s.dev.tick dt).clk.audMode = 0 from h]; rfl
    · rw [h, Bool.or_true]; rfl
  obtain ⟨hclk, hirq, -⟩ := Dev.audLocked_spec (if d.clk.audMode == 0 then 0 else 1) 1
    (d := { d with clk.refOffset := if d.clk.audMode == 0 then 0 else off }) hm
  have hclk := (Dev.clockUnmute_clk _).trans hclk
  refine ⟨_, hx, ?_, ?_, Dev.clockUnmute_keepsBits _ _ (by omega) hirq, ?_, ?_⟩
  · exact (congrArg ClockSt.audOn hclk :)
  · exact (congrArg ClockSt.audPending hclk :)
  · refine (congrArg ClockSt.audState hclk :).trans ?_
    simp only [beq_iff_eq]; rfl
  · refine (congrArg ClockSt.refOffset hclk :).trans ?_
    simp only [beq_iff_eq]; rfl

/-- A time that was noted and has passed. -/
theorem any_due {o : Option Nat} {t0 c n : Nat} (h : o = some t0) (hd : t0 + c ≤ n) : o.any (fun t => decide (t + c ≤ n)) = true := by
  rw [h, Option.any_some]
  exact decide_eq_true hd

/-- AUDIO_PLL_RELOCK_TIMEOUT: PLL_AUD runs without the reference it waited for. -/
theorem audio_relockTimeout (s : State) (dt t0 : Nat) (ha : s.dev.active = true) (hrel : (s.dev.tick dt).relocking = true)
    (hmode : s.dev.clk.audMode ≠ 0) (hs : s.dev.clk.audSince = some t0) (hd : t0 + msec 25 ≤ (s.dev.tick dt).now) :
    ∃ t, exec (.audioPllRelockTimeout dt) s = .next t ∧ t.dev.clk.audOn = true ∧ t.dev.clk.audState = 2
      ∧ t.dev.clk.audPending = false ∧ t.dev.clk.refLosses = satAdd 0xFFFF s.dev.clk.refLosses 1 := by
  let d := s.dev.tick dt
  have hm : d.pwr.mode ≠ .sleep := by rw [show d.pwr.mode = .active from Dev.mode_of_active (d := s.dev) ha]; decide
  have ha' : (s.dev.tick dt).active = true := ha
  have hx : exec (.audioPllRelockTimeout dt) s = .next (s.after dt ((d.audLocked 2 0).audLost 3)) := by
    refine (exec_audioPllRelockTimeout ..).trans (State.runIf_next _ ?_)
    have hmode' : ((s.dev.tick dt).clk.audMode != 0) = true := by simpa using hmode
    have hdue := any_due (o := (s.dev.tick dt).clk.audSince) hs hd
    rw [ha', show (s.dev.tick dt).relocking = true from hrel, hmode', hdue]; rfl
  obtain ⟨hclk, -, -⟩ := Dev.audLocked_spec 2 0 (d := d) hm
  have hlost (e : Dev) (cause : Nat) : (e.audLost cause).clk = { e.clk with refLosses := satAdd 0xFFFF e.clk.refLosses 1 } := Dev.emit_clk ..
  have hlost := hlost (d.audLocked 2 0) 3
  rw [hclk] at hlost
  refine ⟨_, hx, ?_, ?_, ?_, ?_⟩
  · exact (congrArg ClockSt.audOn hlost :)
  · exact (congrArg ClockSt.audState hlost :)
  · exact (congrArg ClockSt.audPending hlost :)
  · exact (congrArg ClockSt.refLosses hlost :)

/-- Settles O29: each row by its condition and what it changes. That aud_state shows 0x04 after a loss of lock is DESIGN CHOICE
log 119. -/
theorem clockAndReferenceRows : Obligations.ClockAndReferenceRows := by
  unfold Obligations.ClockAndReferenceRows
  constructor
  · intro s dt d
    refine ⟨fun ha ho h4 => ?loss, fun hh ho h4 => ?halt, fun c ha hc => ⟨?idle, fun hho hs h3 => ?again, fun hho hs h3 => ?fails, quietPoint_switches s dt c ha hc⟩,
      handshakeTimeout_halts s dt, fun x far r b held stalled h => ?calm⟩
    case loss =>
      refine (exec_pllAudLockLoss ..).trans (State.runIf_of_eq ?_ ?_)
      · rw [show (s.dev.tick dt).active = true from ha, show (s.dev.tick dt).clk.audOn = true from ho]; simpa using h4
      · rw [show (s.dev.tick dt).toc.halted = false from Dev.halted_of_active (d := s.dev) ha]; rfl
    case halt =>
      refine (exec_pllAudLockLoss ..).trans (State.runIf_of_eq ?_ ?_)
      · rw [show (s.dev.tick dt).toc.halted = true from hh, show (s.dev.tick dt).clk.audOn = true from ho]; simpa using h4
      · rw [show (s.dev.tick dt).toc.halted = true from hh]; rfl
    case idle =>
      refine (exec_plldIdleLock ..).trans (State.runIf_of_eq ha ?_)
      rw [show (s.dev.tick dt).clk.change = some c from hc]
    case again =>
      refine (exec_plldLockAttemptTimeout ..).trans (State.runIf_of_eq ha ?_)
      rw [show (s.dev.tick dt).clk.change = some c from hc]
      simp only [hho, show (s.dev.tick dt).sinceRef c.since 16384 = true from hs, h3, Bool.not_true, Bool.or_self, Bool.false_eq_true, if_false,
        if_true]
      rfl
    case fails =>
      refine (exec_plldLockAttemptTimeout ..).trans (State.runIf_of_eq ha ?_)
      rw [show (s.dev.tick dt).clk.change = some c from hc]
      simp only [hho, show (s.dev.tick dt).sinceRef c.since 16384 = true from hs, Nat.not_lt.2 h3, Bool.not_true, Bool.or_self,
        Bool.false_eq_true, if_false]
      rfl
    case calm =>
      refine (exec_handshakeTimeout ..).trans (State.runIf_skip _ ?_)
      obtain h | h | h := h
      · rw [show (s.dev.tick dt).crossingArmed x far r b = false from h]; rfl
      · simp [h]
      · rw [decide_eq_false (Nat.not_le.2 h), Bool.and_false]
  · intro s dt off ha d
    refine ⟨fun gap hmode => edgeFault_counts s dt gap ha hmode, fun gap => audioRef_lost s dt gap off ha,
      fun edges worst hmode hst he hw => ?valid, audio_phaseLocked s dt off ha, audio_locked s dt off ha, fun t0 => audio_relockTimeout s dt t0 ha⟩
    have ha' : (s.dev.tick dt).active = true := ha
    refine (exec_audioRefValid ..).trans (State.runIf_next _ ?_)
    rw [ha', show (s.dev.tick dt).clk.audState = 2 from hst, decide_eq_true he, hw]
    simpa using hmode

/-! ## Commands (R125-R128) -/

theorem Dev.clkPayload_length (d : Dev) : d.clkPayload.length = 32 := by
  unfold Dev.clkPayload
  simp only [List.length_append, u8_length, u16_length, u32_length, s32_length, ub_length]

/-- Settles O30: each command by its checks, all of which pass, and its result. -/
theorem clockCommands : Obligations.ClockCommands := by
  unfold Obligations.ClockCommands
  intro s dt q e hb hw
  refine ⟨fun h hl => ⟨?status, e.clkPayload_length⟩, fun h hl h2 hz ho hst hc => ?plan, fun h hl h0 h1 h2 h3 hp hr ho hrole hfam hpend => ?audio⟩
  case status =>
    exact State.command_passes h rfl (by simp [hl, hb, hw]) (State.admits_fits h rfl (by rw [Dev.clkPayload_length]; omega))
  case plan =>
    have checks : ∀ c ∈ [(q.len != 4, Status.badLength), (q.badHeader || decide (2 < q.p8 0) || !zeroAt q.params 1 3, .badParam),
        (q.notSystem e, .notOwner), (e.inWatch || e.staged P.spurAuto == 1, .wrongState), (e.clk.change.isSome, .busy)], c.1 = false := by
      simp [hl, hb, Nat.not_lt.2 h2, hz, Req.notSystem, ho, hw, hst, hc]
    refine ⟨fun hsame => ?_, fun hdiff => ?_⟩
    · exact State.command_ok h ((checked_of_passes checks).trans (if_pos hsame)) (State.admits_fits h rfl (by simp))
    · exact State.command_deferred h ((checked_of_passes checks).trans (if_neg hdiff)) (State.admits_fits h rfl (by simp))
  case audio =>
    have hp' : (q.p8 0 != 2 && q.p8 2 != 0) = false := by
      by_cases h : q.p8 0 = 2
      · simp [h]
      · simp [hp h]
    have hr' : (q.p8 0 != 1 && q.p8 3 != 0) = false := by
      by_cases h : q.p8 0 = 1
      · simp [h]
      · simp [hr h]
    have hrole' : (q.p8 0 == 2 && (e.portCfg (q.p8 2)).map (·.role) != some 1) = false := by
      by_cases h : q.p8 0 = 2
      · simp [hrole h]
      · simp [h]
    have hfam' : (family441 (q.p8 1) != family441 e.clk.audRate && e.familyHeld (q.p8 1)) = false := by
      obtain h | h := hfam
      · simp [h]
      · simp [h]
    have checks (same : Bool) : ∀ c ∈ [(q.len != 4, Status.badLength),
        (q.badHeader || decide (3 < q.p8 0) || decide (3 < q.p8 1) || decide (3 < q.p8 2) || decide (1 < q.p8 3) || (q.p8 0 != 2 && q.p8 2 != 0)
          || (q.p8 0 != 1 && q.p8 3 != 0), .badParam),
        (q.notSystem e, .notOwner),
        (e.inWatch || (!same && q.p8 0 == 2 && (e.portCfg (q.p8 2)).map (·.role) != some 1)
          || (family441 (q.p8 1) != family441 e.clk.audRate && e.familyHeld (q.p8 1)), .wrongState),
        (e.clk.audPending, .busy)], c.1 = false := by
      simp only [List.mem_cons, List.not_mem_nil, or_false, forall_eq_or_imp, forall_eq]
      exact ⟨by simp [hl], by rw [hp', hr']; simp [hb, Nat.not_lt.2 h0, Nat.not_lt.2 h1, Nat.not_lt.2 h2, Nat.not_lt.2 h3],
        by simp [Req.notSystem, ho], by rw [hfam', Bool.and_assoc, hrole', hw]; simp, hpend⟩
    refine ⟨fun hsame => ?_, fun hdiff => ?_⟩
    · refine State.command_ok h ((checked_of_passes (checks _)).trans (if_pos ?_)) (State.admits_fits h rfl (by simp))
      obtain ⟨a, b, c, f⟩ := hsame
      simp [a, b, c, f]
    · refine State.command_deferred h ((checked_of_passes (checks _)).trans (if_neg ?_)) (State.admits_fits h rfl (by simp))
      simpa [and_assoc] using hdiff

end Sys2Proof.Machine
end

section
/-!
PROOF. The context commands (chapter 13).
-/
namespace Sys2Proof.Machine

/-- The first check that fails refuses. -/
theorem checked_refuses {d : Dev} {l : List (Bool × Status)} {go : Res} {st : Status} (h : firstFailure l = some st) :
    checked d l go = refuse st d := by
  unfold checked; rw [h]

/-- An admitted command one of whose checks fails, the ones before it passing. -/
theorem State.command_refuses {s : State} {dt op : Nat} {q : Req} {e : Dev} {st : Status} {body : Body} {l : List (Bool × Status)} {go : Res}
    (h : s.admits dt op = some (q, e)) (hb : body q e = checked e l go) (hl : firstFailure l = some st) (ha : st.acts = false)
    (hf : q.fits [] = true) : s.command dt op body = .next (s.answered dt q st [] e) :=
  State.command_refused h (hb.trans (checked_refuses hl)) ha hf

theorem Dev.setCtx_open {d : Dev} {c : Nat} {x : CtxSt} (h : d.ctx? c = some x) (f : CtxSt → CtxSt) :
    d.setCtx c f = { d with trav.ctxs := tabSet d.trav.ctxs c (f x) } := by
  unfold Dev.setCtx; rw [h]

theorem Dev.ctxBusy_open {d : Dev} {c : Nat} {x : CtxSt} (h : d.ctx? c = some x) : d.ctxBusy c = x.closing.isSome := by
  unfold Dev.ctxBusy; rw [h]

/-- The owner of an open context is asked for. -/
theorem Req.notCtxOwner_open {d : Dev} {q : Req} {c : Nat} {x : CtxSt} (h : d.ctx? c = some x) : q.notCtxOwner c d = (q.src != x.owner) := by
  unfold Req.notCtxOwner Dev.ctxOwner
  rw [show tabGet d.trav.ctxs c = some x from h]; rfl

/-- A list whose checks and whose room pass. -/
theorem passes_append {l : List (Bool × Status)} {room : List (Bool × Status)} (hl : ∀ c ∈ l, c.1 = false) (hr : firstFailure room = none) :
    ∀ c ∈ l ++ room, c.1 = false := fun c hc => (List.mem_append.1 hc).elim (hl c) (firstFailure_eq_none.1 hr c)

section Owned
variable {s : State} {dt : Nat} {q : Req} {e : Dev} {x : CtxSt}

/-- CTX_CONFIG, its class permitted and its room found. -/
theorem exec_ctxConfig_passes (hb : q.badHeader = false) (hx : e.ctx? q.ctx = some x) (ho : q.src = x.owner) (hw : e.inWatch = false)
    (hc : x.closing = none) (h : s.admits dt 0x0103 = some (q, e)) (hl : q.len = 4) (h0 : q.p8 0 ≤ 1) (h1 : q.p8 1 ≤ 7)
    (hz : zeroAt q.params 2 2 = true) {fg : Bool} (hfg : (q.p8 0 == 1) = fg) (hp : classPermitted x.kind fg = true)
    {changes : Bool} (hch : (x.fg != fg || (e.ledgerRow q.ctx x).fg != fg) = changes) {room : List (Bool × Status)}
    (hroom : (if !changes then [] else if fg then e.admitFg (e.ledgerWith q.ctx fun r => { r with fg := fg })
      else e.admitBg (e.ledgerWith q.ctx fun r => { r with fg := fg })) = room) (hr : firstFailure room = none) {b : Nat}
    (hbd : e.dispatchBoundary x (fg && changes) = b) :
    exec (.ctxConfig dt) s = .next (s.answered dt q .ok (u64 b) (e.schedule q.ctx (.config fg (q.p8 1)) b)) := by
  subst hfg hch hroom hbd
  refine State.command_ok h ?_ (State.admits_fits h rfl (by simp))
  unfold ctxConfigBody; dsimp only; rw [hx]
  refine checked_of_passes (passes_append ?_ hr)
  simp [hl, hb, Nat.not_lt.2 h0, Nat.not_lt.2 h1, hp, hz, Req.notCtxOwner_open hx, ho, hw, hc]

end Owned

/-- Settles O31: each command by its checks, all of which pass or all but the named one, and its result. -/
theorem contextCommands : Obligations.ContextCommands := by
  unfold Obligations.ContextCommands
  constructor
  · intro s dt q e x hb hx ho hw hc
    have hown : q.notCtxOwner q.ctx e = false := by rw [Req.notCtxOwner_open hx, ho]; simp
    have hbusy : e.ctxBusy q.ctx = false := by rw [Dev.ctxBusy_open hx, hc]; rfl
    refine ⟨fun h hl => ?close, fun h hl h0 h1 hz => ?config, fun h hl hz hm hs hbad hst hpin hadm => ?tune, fun h hl hst => ?suspend,
      fun h hl hst hadm => ?resume, fun h hl hz => ?handover⟩
    case close =>
      refine (State.command_passes h rfl ?_ (State.admits_fits h rfl (by simp))).trans ?_
      · simp [hl, hb, hown, hw, hbusy]
      · rw [Dev.setCtx_open hx]; rfl
    case config =>
      intro fg l hp
      refine ⟨fun hf hr => ?_, fun hf hr hadm => ?_, fun hf hr hadm => ?_⟩
      · exact exec_ctxConfig_passes hb hx ho hw hc h hl h0 h1 hz rfl hp (changes := false) (by rw [hf, hr]; simp [fg]) rfl rfl
          (by rw [Bool.and_false]; rfl)
      · exact exec_ctxConfig_passes hb hx ho hw hc h hl h0 h1 hz rfl hp (changes := true) (by rw [hf, show (q.p8 0 == 1) = false from hr]; rfl)
          ((if_neg Bool.false_ne_true).trans (if_neg (ne_true_of_eq_false hr))) hadm (by rw [show (q.p8 0 == 1) = false from hr]; rfl)
      · exact exec_ctxConfig_passes hb hx ho hw hc h hl h0 h1 hz rfl hp (changes := true) (by rw [hf, show (q.p8 0 == 1) = true from hr]; rfl)
          ((if_neg Bool.false_ne_true).trans (if_pos hr)) hadm (by rw [show (q.p8 0 == 1) = true from hr]; rfl)
    case tune =>
      refine State.command_ok h ?_ (State.admits_fits h rfl (by simp))
      unfold ctxTuneBody; dsimp only; rw [hx]
      refine checked_of_passes (passes_append ?_ hadm)
      simp [hl, hb, hown, hw, hc, hm, hs, hbad, hst, hpin, hz]
    case suspend =>
      refine State.command_passes h rfl ?_ (State.admits_fits h rfl (by simp))
      simp [hl, hb, hown, hw, hbusy, hx, hst]
    case resume =>
      refine State.command_ok h ?_ (State.admits_fits h rfl (by simp))
      unfold ctxResumeBody; dsimp only; rw [hx]
      refine checked_of_passes (passes_append ?_ ?_)
      · simp [hl, hb, hown, hw, hc, hst]
      · split
        · exact hadm ‹_›
        · rfl
    case handover =>
      have passes (ho' : (q.p8 0 == 2 && !e.hasFabric) = false) (hbo : badOwner (q.p8 0) (q.p8 1) = false)
          (habs : e.ownerAbsent (q.p8 0) (q.p8 1) = false) : exec (.ctxHandover dt) s = .next (s.answered dt q .ok []
            { e with trav.ctxs := tabSet e.trav.ctxs q.ctx { x with owner := ifaceOf (q.p8 0) (q.p8 1) } }) := by
        refine (State.command_passes h rfl ?_ (State.admits_fits h rfl (by simp))).trans ?_
        · simp only [List.mem_cons, List.not_mem_nil, or_false, forall_eq_or_imp, forall_eq]
          exact ⟨by simp [hl], ho', by simp [hb, hbo, hz], hown, by simp [hw, hbusy, habs]⟩
        · rw [Dev.setCtx_open hx]
      intro owned
      refine ⟨fun h0 h1 => ?_, fun h0 h1 hen => ?_, fun h0 h1 h2 hfab hin => ?_⟩
      · rw [h0, h1] at passes; exact passes rfl rfl rfl
      · rw [h0, h1] at passes; exact passes rfl rfl (by simp [Dev.ownerAbsent, hen])
      · rw [h0] at passes
        exact passes (by simp [hfab]) (by simp [badOwner]; omega) (by simp [Dev.ownerAbsent, hin])
  · intro s dt q e x hb hx hl hw
    refine ⟨fun hne => ⟨fun h => ?_, fun h => ?_, fun h => ?_⟩, fun b ho hc => ⟨fun h => ?_, fun h => ?_, fun h => ?_⟩⟩
    · exact State.command_refuses h rfl (by simp [hl, hb, Req.notCtxOwner_open hx, hne]) rfl (State.admits_fits h rfl (by simp))
    · exact State.command_refuses h rfl (by simp [hl, hb, Req.notCtxOwner_open hx, hne]) rfl (State.admits_fits h rfl (by simp))
    · refine State.command_refused (d := e) h ?_ rfl (State.admits_fits h rfl (by simp))
      unfold ctxResumeBody; dsimp only; rw [hx]
      refine checked_refuses ?_
      simp [hl, hb, Req.notCtxOwner_open hx, hne]
    · exact State.command_refuses h rfl (by simp [hl, hb, Req.notCtxOwner_open hx, ho, Dev.ctxBusy_open hx, hc]) rfl (State.admits_fits h rfl (by simp))
    · exact State.command_refuses h rfl (by simp [hl, hb, Req.notCtxOwner_open hx, ho, Dev.ctxBusy_open hx, hc]) rfl (State.admits_fits h rfl (by simp))
    · refine State.command_refused (d := e) h ?_ rfl (State.admits_fits h rfl (by simp))
      unfold ctxResumeBody; dsimp only; rw [hx]
      refine checked_refuses ?_
      simp [hl, hb, Req.notCtxOwner_open hx, ho, hc]

/-! ## Opening and reading (R379, R384, R387) -/

theorem Dev.ctxPayload_length (d : Dev) (c : Nat) (x : CtxSt) : (d.ctxPayload c x).length = 32 := by
  unfold Dev.ctxPayload
  simp only [List.length_append, u8_length, ub_length, u16_length, u32_length]

theorem Dev.resPayload_length (d : Dev) : d.resPayload.length = 64 := by
  have hq : (d.pagesUsed.flatMap u16).length = 10 := by
    rw [flatMap_length_const _ fun v _ => u16_length v]; rfl
  have hi : (quotaIds.flatMap fun p => u16 (d.stagedN p)).length = 10 := by
    rw [flatMap_length_const _ fun v _ => u16_length _]; rfl
  unfold Dev.resPayload
  simp only [List.length_append, u8_length, u16_length, u32_length, u64_length, hq, hi]

/-- Settles O32: the context that opens is the one named or the first that is free, every check passing; the reads answer their payload. -/
theorem contextOpensAndReads : Obligations.ContextOpensAndReads := by
  unfold Obligations.ContextOpensAndReads
  constructor
  · intro s dt q e h hb hl hu hk h1 hcp h2 h3 hw
    have hf : ∀ pl : List Byte, pl.length ≤ 434 → q.fits pl = true := fun pl => State.admits_fits h rfl
    refine ⟨fun c hc hn hroom hpages => ?_, fun hff hall => ?_, fun hff hopen => ?_⟩
    · have hfree : (if q.ctx = 0xFF then (List.range e.nCtx).find? fun c => (e.ctx? c).isNone else some q.ctx) = some c := by
        obtain ⟨rfl, hne⟩ | ⟨h255, hlt, hbelow⟩ := hc
        · rw [if_neg hne]
        · rw [if_pos h255]
          refine List.find?_range_eq_some.2 ⟨by simp [hn], List.mem_range.2 hlt, fun k hk => ?_⟩
          rw [Bool.not_eq_true', Option.isNone_eq_false_iff]; exact hbelow k hk
      have hopen : (q.ctx != 0xFF && (e.ctx? q.ctx).isSome) = false := by
        obtain ⟨rfl, -⟩ | ⟨h255, -, -⟩ := hc
        · rw [hn]; simp
        · rw [h255]; rfl
      refine State.command_ok h ?_ (hf _ (by simp))
      unfold ctxOpenBody
      dsimp only
      rw [hfree]
      refine checked_of_passes ?_
      simp only [List.mem_cons, List.not_mem_nil, or_false, forall_eq_or_imp, forall_eq]
      refine ⟨by simp [hl], hu, by simp [hb, hk, Nat.not_lt.2 h1, hcp, Nat.not_lt.2 h2, h3], by rw [hw, hopen]; rfl, rfl, ?_, ?_⟩
      · by_cases hfg : q.p8 1 = 1
        · have := hroom hfg
          simp [hfg, List.filter_append]; omega
        · simp [hfg]
      · rw [decide_eq_false_iff_not, Nat.not_lt]
        simpa using hpages
    · refine State.command_refused (d := e) h ?_ rfl (hf _ (by simp))
      have hfree : (if q.ctx = 0xFF then (List.range e.nCtx).find? fun c => (e.ctx? c).isNone else some q.ctx) = none := by
        rw [if_pos hff, List.find?_eq_none]
        intro k hk
        have := hall k (List.mem_range.1 hk)
        simpa [Option.isSome_iff_ne_none] using this
      unfold ctxOpenBody
      dsimp only
      rw [hfree]
      refine checked_refuses ?_
      simp [hl, hu, hb, hk, Nat.not_lt.2 h1, hcp, Nat.not_lt.2 h2, h3, hw, hff]
    · refine State.command_refuses h rfl ?_ rfl (hf _ (by simp))
      simp [hl, hu, hb, hk, Nat.not_lt.2 h1, hcp, Nat.not_lt.2 h2, h3, hw, hff, hopen]
  · intro s dt q e hb hl hw
    refine ⟨fun x h hx => ⟨?_, e.ctxPayload_length q.ctx x⟩, fun h hx => ?_, fun h => ?_⟩
    · refine State.command_ok h ?_ (State.admits_fits h rfl (by rw [Dev.ctxPayload_length]; omega))
      unfold ctxStatusBody; rw [hx]
      refine checked_of_passes ?_
      simp [hl, hb, hw]
    · refine State.command_refused (d := e) h ?_ rfl (State.admits_fits h rfl (by simp))
      unfold ctxStatusBody; rw [hx]
      refine checked_of_passes ?_
      simp [hl, hb]
    · refine State.command_passes h rfl ?_ (State.admits_fits h rfl (by rw [Dev.resPayload_length]; omega))
      simp [hl, hb, hw]

end Sys2Proof.Machine
end

section
/-!
PROOF. The commands of the RF inputs, and SYN0 (chapter 09).
-/
namespace Sys2Proof.Machine

theorem Req.notSystem_owner {q : Req} {d : Dev} (h : q.src = d.proto.owner) : q.notSystem d = false := by
  unfold Req.notSystem; simp [h]

theorem Dev.inputUnfitted_fitted {d : Dev} {i : Nat} (h : i < d.nInputs) : d.inputUnfitted i = false := by
  unfold Dev.inputUnfitted; simp [Nat.not_le.2 h]

theorem Dev.diagPayload_length (d : Dev) (i : Nat) : (d.diagPayload i).length = 64 := by
  unfold Dev.diagPayload
  dsimp only
  generalize (if (d.inp i).mode == .live then (d.inp i).detMain else none) = main
  generalize (if (d.inp i).lband.isOn then (d.inp i).detLb else none) = lband
  cases main <;> cases lband <;>
    simp only [List.length_append, u8_length, s8_length, s16_length, u16_length, u32_length, padTo_length]

section
variable {s : State} {dt : Nat} {q : Req} {e : Dev}

/-- FE_INPUT, past its checks. -/
theorem feInputBody_passes (hb : q.badHeader = false) (ho : q.src = e.proto.owner) (hw : e.inWatch = false) (hi : q.p8 0 < e.nInputs)
    (h3 : q.p8 0 ≤ 3) (hl : q.len = 4) (hz : zeroAt q.params 2 2 = true) (h1 : q.p8 1 ≤ 1) (hoff : (e.inp (q.p8 0)).offDue = none)
    (hrun : e.cal.runs.any (·.input == q.p8 0) = false) (hm : (e.inp (q.p8 0)).mode = .live ∨ (e.inp (q.p8 0)).mode = .off) (go : Res) :
    checked e [(q.len != 4, .badLength), (e.inputUnfitted (q.p8 0), .notFitted),
      (q.badHeader || decide (3 < q.p8 0) || decide (1 < q.p8 1) || !zeroAt q.params 2 2, .badParam), (q.notSystem e, .notOwner),
      (e.inWatch, .wrongState),
      ((e.inp (q.p8 0)).mode == .starting || (e.inp (q.p8 0)).mode == .calibrating || (e.inp (q.p8 0)).offDue.isSome
        || e.cal.runs.any (·.input == q.p8 0), .busy)] go = go := by
  refine checked_of_passes ?_
  have hmode : ((e.inp (q.p8 0)).mode == .starting || (e.inp (q.p8 0)).mode == .calibrating) = false := by
    obtain h | h := hm <;> rw [h] <;> rfl
  simp only [List.mem_cons, List.not_mem_nil, or_false, forall_eq_or_imp, forall_eq]
  exact ⟨by simp [hl], Dev.inputUnfitted_fitted hi, by simp [hb, Nat.not_lt.2 h3, Nat.not_lt.2 h1, hz], Req.notSystem_owner ho, hw,
    by rw [hmode, hoff, hrun]; rfl⟩

/-- The external amplifier of an input that holds the position `byp`, no sequence under way. -/
theorem XampSt.code_on {x : XampSt} (hf : x.faulted = false) (hs : x.seqn = none) (hp : x.pwr = true) : x.code = if x.byp then 2 else 3 := by
  unfold XampSt.code; rw [hf, hs, hp]; rfl

theorem XampSt.code_off {x : XampSt} (hf : x.faulted = false) (hs : x.seqn = none) (hp : x.pwr = false) : x.code = 0 := by
  unfold XampSt.code; rw [hf, hs, hp]; rfl

/-- FE_XAMP, past its checks. -/
theorem feXampBody_passes (hb : q.badHeader = false) (ho : q.src = e.proto.owner) (hw : e.inWatch = false) (hi : q.p8 0 < e.nInputs)
    (h3 : q.p8 0 ≤ 3) (hl : q.len = 4) (hz : zeroAt q.params 3 1 = true) (h1 : q.p8 1 ≤ 3) (hs : (e.inp (q.p8 0)).amp.seqn = none)
    (heep : q.p8 2 = 0 ∨ (0x08 ≤ q.p8 2 ∧ q.p8 2 ≤ 0x77) ∧ q.p8 1 ≠ 0 ∧ q.p8 1 ≠ 3)
    (hact : q.p8 1 = 0 ∨ (q.p8 1 = 3 ↔ (e.inp (q.p8 0)).amp.faulted = true)) (go : Res) :
    checked e [(q.len != 4, .badLength), (e.inputUnfitted (q.p8 0), .notFitted),
      (q.badHeader || decide (3 < q.p8 0) || decide (3 < q.p8 1) || (q.p8 2 != 0 && (decide (q.p8 2 < 0x08) || decide (0x77 < q.p8 2)
        || q.p8 1 == 0 || q.p8 1 == 3)) || !zeroAt q.params 3 1, .badParam),
      (q.notSystem e, .notOwner),
      (e.inWatch || ((e.inp (q.p8 0)).amp.seqn.isNone && (((q.p8 1 == 1 || q.p8 1 == 2) && (e.inp (q.p8 0)).amp.faulted)
        || (q.p8 1 == 3 && !(e.inp (q.p8 0)).amp.faulted))), .wrongState),
      (q.p8 1 != 0 && (e.inp (q.p8 0)).amp.seqn.isSome, .busy)] go = go := by
  refine checked_of_passes ?_
  have heep' : (q.p8 2 != 0 && (decide (q.p8 2 < 0x08) || decide (0x77 < q.p8 2) || q.p8 1 == 0 || q.p8 1 == 3)) = false := by
    obtain h | ⟨⟨h8, h77⟩, hn0, hn3⟩ := heep
    · simp [h]
    · simp [Nat.not_lt.2 h8, Nat.not_lt.2 h77, hn0, hn3]
  have hact' : (((q.p8 1 == 1 || q.p8 1 == 2) && (e.inp (q.p8 0)).amp.faulted) || (q.p8 1 == 3 && !(e.inp (q.p8 0)).amp.faulted)) = false := by
    obtain h | h := hact
    · simp [h]
    · by_cases hf : (e.inp (q.p8 0)).amp.faulted = true
      · simp [h.2 hf, hf]
      · simp [mt h.1 hf, hf]
  simp only [List.mem_cons, List.not_mem_nil, or_false, forall_eq_or_imp, forall_eq]
  exact ⟨by simp [hl], Dev.inputUnfitted_fitted hi, by rw [heep']; simp [hb, Nat.not_lt.2 h3, Nat.not_lt.2 h1, hz], Req.notSystem_owner ho,
    by rw [hw, hact', Bool.and_false]; rfl, by simp [hs]⟩

/-- FE_LBAND of a live input, past its checks. -/
theorem feLbandBody_passes (hb : q.badHeader = false) (ho : q.src = e.proto.owner) (hw : e.inWatch = false) (hi : q.p8 0 < e.nInputs)
    (h3 : q.p8 0 ≤ 3) (hl : q.len = 4) (hz : zeroAt q.params 2 2 = true) (h1 : q.p8 1 ≤ 1) (hm : (e.inp (q.p8 0)).mode = .live)
    (hrun : e.cal.runs.any (·.input == q.p8 0) = false) (hsyn : e.rf.syn0Attempt = 0)
    (hlb : (e.inp (q.p8 0)).lband = .on ∨ (e.inp (q.p8 0)).lband = .off) {go : Res}
    (hgo : (match (e.inp (q.p8 0)).lband, q.p8 1 == 1 with
      | .off, true =>
        let b := boundaryAt (e.now + usec 400)
        okWith (u64 b) (e.setInp (q.p8 0) fun x => { x with
          lband := .switchingOn b, lbg := 0, rampLb := true, lowLb := 0, detLb := none }).syn0Start
      | .on, false => okWith (u64 (boundaryAt (e.now + msec 5))) (e.lbandOff (q.p8 0))
      | _, _ => okWith (u64 0) e) = go) : feLbandBody q e = go := by
  unfold feLbandBody
  refine (checked_of_passes ?_).trans hgo
  have hmode : ((e.inp (q.p8 0)).mode == .calibrating) = false := by rw [hm]; rfl
  simp only [List.mem_cons, List.not_mem_nil, or_false, forall_eq_or_imp, forall_eq]
  refine ⟨by simp [hl], Dev.inputUnfitted_fitted hi, by simp [hb, Nat.not_lt.2 h3, Nat.not_lt.2 h1, hz], Req.notSystem_owner ho,
    by rw [hw, hm]; rfl, ?_⟩
  rw [hmode, hrun, hsyn]
  obtain h | h := hlb <;> rw [h] <;> rfl

end

/-- Settles O35: each command past its checks, by the state of its input. -/
theorem frontEndCommands : Obligations.FrontEndCommands := by
  unfold Obligations.FrontEndCommands
  intro s dt q e hb ho hw hi h3 i x
  refine ⟨fun tAvg h hl hz hoff hrun => ?input, fun h hl hz h2 hman hlo hhi h30 hlive hlbg => ?agc, fun h hl hz hs hf => ?xamp,
    fun h hl hz hs hf h1 h2 => ?ack, fun h hl hz => ⟨fun h1 => ?read, fun h1 => ?clear⟩, fun h hl hz hm hrun hsyn => ?lband⟩
  case input =>
    have fits : ∀ b, q.fits (u64 b) = true := fun b => State.admits_fits h rfl (by simp)
    have passes (h1 : q.p8 1 ≤ 1) (hm) (go) := feInputBody_passes hb ho hw hi h3 hl hz h1 hoff hrun hm go
    refine ⟨fun h1 hm => ?_, fun h1 hm hv => ?_, fun h1 hm hv => ?_, fun h1 hm => ?_, fun h1 hm => ?_⟩
    · refine State.command_ok h ((passes (by omega) (.inl hm) _).trans ?_) (fits _)
      rw [h1, show (e.inp (q.p8 0)).mode = .live from hm]; rfl
    · refine State.command_ok h ((passes (by omega) (.inr hm) _).trans ?_) (fits _)
      rw [h1, show (e.inp (q.p8 0)).mode = .off from hm, show e.calValid (q.p8 0) tAvg = true from hv]; rfl
    · refine State.command_deferred h ((passes (by omega) (.inr hm) _).trans ?_) (State.admits_fits h rfl (by simp))
      rw [h1, show (e.inp (q.p8 0)).mode = .off from hm, show e.calValid (q.p8 0) tAvg = false from hv]; rfl
    · refine State.command_ok h ((passes (by omega) (.inr hm) _).trans ?_) (fits _)
      rw [h1, show (e.inp (q.p8 0)).mode = .off from hm]; rfl
    · refine State.command_ok h ((passes (by omega) (.inl hm) _).trans ?_) (fits _)
      rw [h1, show (e.inp (q.p8 0)).mode = .live from hm]; rfl
  case agc =>
    refine State.command_passes h rfl ?_ (State.admits_fits h rfl (by rw [show q.params.length = 8 from hl]; omega))
    have hman' : (q.p8 1 != 2 && (q.p8 2 != 0 || q.p8 3 != 0)) = false := by
      by_cases h : q.p8 1 = 2
      · simp [h]
      · simp [hman h]
    have hlbg' : (q.p8 3 != 0 && !(e.inp (q.p8 0)).lband.isOn) = false := by
      by_cases h : q.p8 3 = 0
      · simp [h]
      · simp [show (e.inp (q.p8 0)).lband.isOn = true from hlbg h]
    simp only [List.mem_cons, List.not_mem_nil, or_false, forall_eq_or_imp, forall_eq]
    exact ⟨by simp [hl], Dev.inputUnfitted_fitted hi, by
      rw [hman']; simp [hb, Nat.not_lt.2 h3, Nat.not_lt.2 h2, Int.not_lt.2 hlo, Int.not_lt.2 hhi, Nat.not_lt.2 h30, hz],
      Req.notSystem_owner ho, by rw [hw, show e.inputLive (q.p8 0) = true from hlive, hlbg']; rfl⟩
  case xamp =>
    have fits : q.fits [] = true := State.admits_fits h rfl (by simp)
    have hs' : (e.inp (q.p8 0)).amp.seqn = none := hs
    have hf' : (e.inp (q.p8 0)).amp.faulted = false := hf
    have passes (h1 : q.p8 1 ≤ 2) (heep) (go) := feXampBody_passes hb ho hw hi h3 hl hz (Nat.le_succ_of_le h1) hs heep
      (.inr ⟨fun h => absurd h (by omega), fun h => absurd (hf'.symm.trans h) Bool.false_ne_true⟩) go
    refine ⟨fun h1 h2 hp => ?_, fun h1 h2 hp => ?_, fun byp h1 h2 hp => ?_, fun byp h1 h2 hp => ⟨fun hbyp => ?_, fun hbyp => ?_⟩⟩
    · refine State.command_ok h ((passes (by omega) (.inl h2) _).trans ?_) fits
      rw [h1, hf', hs', show (e.inp (q.p8 0)).amp.pwr = false from hp]; rfl
    · refine State.command_deferred h ((passes (by omega) (.inl h2) _).trans ?_) fits
      unfold Dev.xampStart; dsimp only
      rw [h1, hf', hs', show (e.inp (q.p8 0)).amp.pwr = true from hp]; rfl
    · have hcode := XampSt.code_off hf' hs' hp
      refine State.command_deferred h ((passes (by split at h1 <;> omega) ?_ _).trans ?_) fits
      · exact h2.imp_right fun h => ⟨h, by split at h1 <;> omega, by split at h1 <;> omega⟩
      unfold Dev.xampStart; dsimp only
      rw [hcode, show (e.inp (q.p8 0)).amp.pwr = false from hp, h1]
      cases byp <;> rfl
    · have hcode := XampSt.code_on hf' hs' hp
      refine State.command_ok h ((passes (by split at h1 <;> omega) (.inl h2) _).trans ?_) fits
      rw [hcode, show (e.inp (q.p8 0)).amp.byp = byp from hbyp, h1]
      cases byp <;> rfl
    · have hcode := XampSt.code_on hf' hs' hp
      have hne : (e.inp (q.p8 0)).amp.byp = !byp := Bool.eq_not.2 hbyp
      refine State.command_deferred h ((passes (by split at h1 <;> omega) (.inl h2) _).trans ?_) fits
      unfold Dev.xampStart; dsimp only
      rw [hcode, hne, show (e.inp (q.p8 0)).amp.pwr = true from hp, h1]
      cases byp <;> rfl
  case ack =>
    refine State.command_ok h ((feXampBody_passes hb ho hw hi h3 hl hz (by omega) hs (.inl h2) (.inr ⟨fun _ => hf, fun _ => h1⟩) _).trans ?_)
      (State.admits_fits h rfl (by simp))
    rw [h1]; rfl
  case read =>
    refine (State.command_passes h rfl ?_ (State.admits_fits h rfl (by rw [Dev.diagPayload_length]; omega))).trans ?_
    · simp [hl, hb, hw, hz, h1, Nat.not_lt.2 h3, Req.notSystem_owner ho, Dev.inputUnfitted_fitted hi]
    · rw [h1]; rfl
  case clear =>
    refine (State.command_passes h rfl ?_ (State.admits_fits h rfl (by rw [Dev.diagPayload_length]; omega))).trans ?_
    · simp [hl, hb, hw, hz, h1, Nat.not_lt.2 h3, Req.notSystem_owner ho, Dev.inputUnfitted_fitted hi]
    · rw [h1]; rfl
  case lband =>
    have fits : ∀ b, q.fits (u64 b) = true := fun b => State.admits_fits h rfl (by simp)
    refine ⟨fun h1 hlb => ?_, fun h1 hlb => ?_, fun h1 hlb => ?_, fun h1 hlb => ?_⟩
    · refine State.command_ok h (feLbandBody_passes hb ho hw hi h3 hl hz (by omega) hm hrun hsyn (.inr hlb) ?_) (fits _)
      rw [show (e.inp (q.p8 0)).lband = .off from hlb, h1]; rfl
    · refine State.command_ok h (feLbandBody_passes hb ho hw hi h3 hl hz (by omega) hm hrun hsyn (.inl hlb) ?_) (fits _)
      rw [show (e.inp (q.p8 0)).lband = .on from hlb, h1]; rfl
    · refine State.command_ok h (feLbandBody_passes hb ho hw hi h3 hl hz (by omega) hm hrun hsyn (.inl hlb) ?_) (fits _)
      rw [show (e.inp (q.p8 0)).lband = .on from hlb, h1]; rfl
    · refine State.command_ok h (feLbandBody_passes hb ho hw hi h3 hl hz (by omega) hm hrun hsyn (.inr hlb) ?_) (fits _)
      rw [show (e.inp (q.p8 0)).lband = .off from hlb, h1]; rfl

end Sys2Proof.Machine
end

section
/-!
PROOF. SYN0 and the L-band converters (chapter 09).
-/
namespace Sys2Proof.Machine

/-! ## An operation done once for every entry of a list -/

/-- Where every entry of a list is worked on in turn, the work on one of them is done in the end: what holds throughout (`inv`) lets it
be done, and what it does (`done`) stays done. -/
theorem foldl_reaches {σ α : Type} {f : σ → α → σ} {inv done : σ → Prop} (hinv : ∀ d x, inv d → inv (f d x))
    (hdone : ∀ d x, inv d → done d → done (f d x)) {a : α} (ha : ∀ d, inv d → done (f d a)) {l : List α} (hl : a ∈ l) {d : σ} (hd : inv d) :
    done (l.foldl f d) := by
  have stays : ∀ (l : List α) (d : σ), inv d → done d → done (l.foldl f d) := by
    intro l
    induction l with
    | nil => exact fun d _ h => h
    | cons x l ih => exact fun d hi h => ih _ (hinv d x hi) (hdone d x hi h)
  induction l generalizing d with
  | nil => cases hl
  | cons x l ih =>
    obtain rfl | h := List.mem_cons.1 hl
    · exact stays l _ (hinv d a hd) (ha d hd)
    · exact ih h (hinv d x hd)

/-! ## The mask of the converters -/

theorem testBit_maskOf (l : List Nat) (n : Nat) : (maskOf l).testBit n = decide (n ∈ l) := by
  have general : ∀ (l : List Nat) (m : Nat), (l.foldl (fun m i => m ||| (1 <<< i)) m).testBit n = (m.testBit n || decide (n ∈ l)) := by
    intro l
    induction l with
    | nil => simp
    | cons a l ih =>
      intro m
      rw [List.foldl_cons, ih, Nat.testBit_or, Nat.one_shiftLeft, Nat.testBit_two_pow]
      simp only [List.mem_cons, Bool.decide_or, Bool.or_assoc, eq_comm]
  unfold maskOf
  rw [general, Nat.zero_testBit, Bool.false_or]

/-- The bit of an input whose converter is on. -/
theorem Dev.mem_convertersOn {d : Dev} {i : Nat} (h4 : i < 4) (hi : i < d.rf.inputs.length) (h : (d.inp i).lband.isOn = true) :
    i ∈ bitsOf 4 d.convertersOn := by
  unfold bitsOf Dev.convertersOn
  rw [List.mem_filter, testBit_maskOf]
  refine ⟨List.mem_range.2 h4, decide_eq_true ?_⟩
  unfold indicesWhere
  refine List.mem_map.2 ⟨(i, d.inp i), List.mem_filter.2 ⟨mem_indexed.2 ?_, h⟩, rfl⟩
  unfold Dev.inp
  rw [List.getD_eq_getElem?_getD, List.getElem?_eq_getElem hi]; rfl

/-! ## Converters switched off -/

theorem Dev.audioSync_rf (d : Dev) : d.audioSync.rf = d.rf := (congrArg Dev.rf d.audioSync_sansAudio :)
theorem Dev.audioSync_now (d : Dev) : d.audioSync.now = d.now := (congrArg Dev.now d.audioSync_sansAudio :)

theorem Dev.lbandOff_now (i : Nat) (d : Dev) : (d.lbandOff i).now = d.now := by
  unfold Dev.lbandOff; split
  · rfl
  · rfl
  · exact Dev.audioSync_now _

theorem Dev.lbandOff_inputs_length (i : Nat) (d : Dev) : (d.lbandOff i).rf.inputs.length = d.rf.inputs.length := by
  unfold Dev.lbandOff; split
  · rfl
  · rfl
  · rw [Dev.audioSync_rf]; exact List.length_modify ..

theorem Dev.lbandOff_ne {i j : Nat} (h : j ≠ i) (d : Dev) : (d.lbandOff i).inp j = d.inp j := by
  unfold Dev.lbandOff; split
  · rfl
  · rfl
  · unfold Dev.inp; rw [Dev.audioSync_rf]; exact Dev.inp_setInp_ne _ _ _ _ h

/-- A converter that is on begins to switch off. -/
theorem Dev.lbandOff_on {i : Nat} {d : Dev} (hi : i < d.rf.inputs.length) (h : (d.inp i).lband = .on) :
    ((d.lbandOff i).inp i).lband = .switchingOff (boundaryAt (d.now + msec 5)) := by
  unfold Dev.lbandOff
  rw [h]
  dsimp only
  unfold Dev.inp
  rw [Dev.audioSync_rf]
  exact (congrArg InputSt.lband (Dev.inp_setInp i _ d hi) :)

/-- One that switches off already goes on. -/
theorem Dev.lbandOff_off {i t : Nat} {d : Dev} (h : (d.inp i).lband = .switchingOff t) : d.lbandOff i = d := by
  unfold Dev.lbandOff; rw [h]

/-- Every converter of a list switches off. -/
theorem Dev.lbandOff_all {l : List Nat} {i : Nat} (hl : i ∈ l) {d : Dev} (hi : i < d.rf.inputs.length) (h : (d.inp i).lband = .on) :
    ((forAll l Dev.lbandOff d).inp i).lband = .switchingOff (boundaryAt (d.now + msec 5)) := by
  let goes := LbandMode.switchingOff (boundaryAt (d.now + msec 5))
  have step (e : Dev) (j : Nat) (hn : e.now = d.now) (hlen : i < e.rf.inputs.length) (hm : (e.inp i).lband = .on ∨ (e.inp i).lband = goes) :
      ((e.lbandOff j).inp i).lband = (if j = i then goes else (e.inp i).lband) := by
    by_cases hj : j = i
    · subst hj
      rw [if_pos rfl]
      obtain hm | hm := hm
      · rw [Dev.lbandOff_on hlen hm, hn]
      · rw [Dev.lbandOff_off hm, hm]
    · rw [if_neg hj, Dev.lbandOff_ne (fun h => hj h.symm)]
  refine foldl_reaches (f := fun (e : Dev) j => e.lbandOff j) (inv := fun e : Dev => e.now = d.now ∧ i < e.rf.inputs.length
      ∧ ((e.inp i).lband = .on ∨ (e.inp i).lband = goes)) (done := fun e : Dev => (e.inp i).lband = goes) ?_ ?_ ?_ hl ⟨rfl, hi, .inl h⟩
  · rintro e j ⟨hn, hlen, hm⟩
    refine ⟨(Dev.lbandOff_now j e).trans hn, by rw [Dev.lbandOff_inputs_length]; exact hlen, ?_⟩
    rw [step e j hn hlen hm]
    split
    · exact .inr rfl
    · exact hm
  · rintro e j ⟨hn, hlen, hm⟩ hd
    rw [step e j hn hlen hm]
    split
    · rfl
    · exact hd
  · rintro e ⟨hn, hlen, hm⟩
    rw [step e i hn hlen hm, if_pos rfl]

/-! ## SYN0 (R254, R255) -/

/-- A pair of searches that disagrees leaves the inputs and time; while converters are on, all of the inputs' state. -/
theorem Dev.syn0Disagree_rf {d : Dev} (h : d.convertersOn ≠ 0) : d.syn0Disagree.rf = d.rf := by
  unfold Dev.syn0Disagree
  split
  · rfl
  · dsimp only
    split
    · rfl
    · rw [Dev.emit_rf]
      unfold Dev.syn0Update
      split
      · rename_i hc
        exact absurd (of_decide_eq_true (Bool.and_eq_true_iff.1 hc).1) h
      · rfl

theorem Dev.syn0Disagree_inputs (d : Dev) : d.syn0Disagree.rf.inputs = d.rf.inputs := by
  unfold Dev.syn0Disagree
  split
  · rfl
  · dsimp only
    split
    · rfl
    · rw [Dev.emit_rf]
      unfold Dev.syn0Update
      split <;> rfl

theorem Dev.syn0Disagree_now (d : Dev) : d.syn0Disagree.now = d.now := by
  unfold Dev.syn0Disagree
  split
  · rfl
  · dsimp only
    split
    · rfl
    · rw [Dev.emit_now]
      unfold Dev.syn0Update
      split <;> rfl

/-- Settles O36: each row by SYN0's state, and the loss by the converters that are on. -/
theorem syn0Rows : Obligations.Syn0Rows := by
  unfold Obligations.Syn0Rows
  intro s dt ha d
  have ha' : (s.dev.tick dt).active = true := ha
  refine ⟨fun h2 h0 => ?start, fun h2 h0 => ?again, fun h1 hc => ?loss, fun h1 hc => ?idle, fun h2 h0 hs => ⟨fun h3 => ?retry, fun h3 => ?fails⟩⟩
  case start =>
    refine (exec_syn0Lock ..).trans (State.runIf_of_eq ?_ ?_)
    · rw [ha', show (s.dev.tick dt).clk.syn0 = 2 from h2]; rfl
    · exact if_pos h0
  case again =>
    refine ⟨_, (exec_syn0Lock ..).trans (State.runIf_of_eq ?_ (if_neg h0)), ?_, ?_, rfl⟩
    · rw [ha', show (s.dev.tick dt).clk.syn0 = 2 from h2]; rfl
    · exact (congrArg ClockSt.syn0 (Dev.emit_clk ..) :)
    · exact (congrArg RfSt.loBack (Dev.emit_rf ..) :)
  case loss =>
    let d1 := d.onlyIf d.cal.syn0Run.isSome Dev.syn0Disagree
    have hrf : d1.rf = d.rf := by
      unfold d1 Dev.onlyIf
      split
      · exact Dev.syn0Disagree_rf hc
      · rfl
    have hnow : d1.now = d.now := by
      unfold d1 Dev.onlyIf
      split
      · exact Dev.syn0Disagree_now d
      · rfl
    have hon : d1.convertersOn = d.convertersOn := by unfold Dev.convertersOn; rw [hrf]
    have hnext : d1.nextBoundary = d.nextBoundary := by unfold Dev.nextBoundary; rw [hnow]
    refine ⟨_, (exec_syn0LockLoss ..).trans (State.runIf_of_eq ?_ (if_neg (by rw [hon]; exact hc))), ?_, rfl, ?_, rfl, fun hn => ?_,
      fun r hr h8 => ?_⟩
    · rw [ha', show (s.dev.tick dt).clk.syn0 = 1 from h1]; rfl
    · exact (congrArg ClockSt.syn0 (Dev.emit_clk ..) :)
    · exact (congrArg RfSt.syn0Lost (Dev.emit_rf ..) :).trans hon
    · show some (match d1.rf.loLost with | some b => min b d1.nextBoundary | none => d1.nextBoundary) = _
      rw [hrf, show d.rf.loLost = none from hn, hnext]
    · refine (congrArg CalSt.syn0Run (Dev.emit_cal ..) :).trans ?_
      show d1.cal.syn0Run = _
      have hr' : d.cal.syn0Run = some r := hr
      unfold d1 Dev.onlyIf Dev.syn0Disagree
      rw [hr']
      dsimp only
      rw [if_pos (by rfl), if_pos h8]
  case idle =>
    have hd : d.onlyIf d.cal.syn0Run.isSome Dev.syn0Disagree = d.syn0Disagree := by
      unfold Dev.onlyIf
      split
      · rfl
      · rename_i h
        unfold Dev.syn0Disagree
        rw [Option.not_isSome_iff_eq_none.1 h]
    refine (exec_syn0LockLoss ..).trans (State.runIf_of_eq ?_ ?_)
    · rw [ha', show (s.dev.tick dt).clk.syn0 = 1 from h1]; rfl
    · show (if (d.onlyIf d.cal.syn0Run.isSome Dev.syn0Disagree).convertersOn = 0 then d.onlyIf d.cal.syn0Run.isSome Dev.syn0Disagree else _) = _
      rw [hd, if_pos]
      unfold Dev.convertersOn
      rw [Dev.syn0Disagree_inputs]; exact hc
  case retry =>
    refine (exec_syn0ReacquireTimeout ..).trans (State.runIf_of_eq ?_ (if_pos h3))
    rw [ha', show (s.dev.tick dt).clk.syn0 = 2 from h2, show (s.dev.tick dt).sinceRef (s.dev.tick dt).rf.syn0Since 16384 = true from hs]
    simpa using h0
  case fails =>
    refine ⟨_, (exec_syn0ReacquireTimeout ..).trans (State.runIf_of_eq ?_ (if_neg (Nat.not_lt.2 h3))), rfl, rfl, fun i h4 hi hon => ?_⟩
    · rw [ha', show (s.dev.tick dt).clk.syn0 = 2 from h2, show (s.dev.tick dt).sinceRef (s.dev.tick dt).rf.syn0Since 16384 = true from hs]
      simpa using h0
    · have hall := Dev.lbandOff_all (Dev.mem_convertersOn (d := d) h4 hi (by rw [show (d.inp i).lband = .on from hon]; rfl)) (d := d) hi hon
      refine Eq.trans ?_ hall
      exact (congrArg (fun r : RfSt => (r.inputs.getD i {}).lband) (Dev.emit_rf ..) :)

end Sys2Proof.Machine
end

section
/-!
PROOF. The AGC windows (chapter 09).
-/
namespace Sys2Proof.Machine

/-! ## What a window changes besides its readings and its gains -/

/-- An input but for its start ramps and what AGC_OVERLOAD counts. -/
def InputSt.sansAlarm (x : InputSt) : InputSt := { x with rampMain := false, rampLb := false, minHeld := 0, overAt := none, newOverloads := 0 }

theorem Dev.noteGain_inp (i j : Nat) (d : Dev) : (d.noteGain i).inp j = d.inp j := rfl

/-- Input `i` changed in what `sansAlarm` leaves out. -/
theorem Dev.setInp_sansAlarm {i : Nat} {f : InputSt → InputSt} (hf : ∀ x, (f x).sansAlarm = x.sansAlarm) (d : Dev) (j : Nat) :
    ((d.setInp i f).inp j).sansAlarm = (d.inp j).sansAlarm := by
  by_cases hj : j = i
  · subst hj
    by_cases hi : j < d.rf.inputs.length
    · rw [Dev.inp_setInp j f d hi, hf]
    · have hlen : ¬ j < (d.setInp j f).rf.inputs.length := by unfold Dev.setInp upd; rw [List.length_modify]; exact hi
      unfold Dev.inp
      rw [List.getD_eq_default _ _ (Nat.not_lt.1 hlen), List.getD_eq_default _ _ (Nat.not_lt.1 hi)]
  · rw [Dev.inp_setInp_ne i j f d hj]

theorem Dev.agcOverload_sansAlarm (i cause : Nat) (d : Dev) (j : Nat) : ((d.agcOverload i cause).inp j).sansAlarm = (d.inp j).sansAlarm := by
  unfold Dev.agcOverload
  dsimp only
  split
  · unfold Dev.inp
    rw [Dev.emit_rf]
    refine Dev.setInp_sansAlarm ?_ d j
    exact fun _ => rfl
  · rfl

theorem Dev.agcOverload_ne (i cause : Nat) (d : Dev) {j : Nat} (h : j ≠ i) : (d.agcOverload i cause).inp j = d.inp j := by
  unfold Dev.agcOverload
  dsimp only
  split
  · unfold Dev.inp
    rw [Dev.emit_rf]
    exact Dev.inp_setInp_ne _ _ _ _ h
  · rfl

/-! ## The step of a window -/

/-- The readings of a window (R258, R260, R277). -/
def InputSt.measured (hot : Prop) [Decidable hot] (clips since : Nat) (m l : Int) (x : InputSt) : InputSt :=
  { x with
    detMain := some m
    detLb := if x.lband.isOn then some l else none
    sinceClip := since
    clips := satAdd 0xFFFFFFFF x.clips clips
    overloads := if hot then satAdd 0xFFFFFFFF x.overloads 1 else x.overloads
    newOverloads := if hot then satAdd 0xFFFF x.newOverloads 1 else x.newOverloads }

/-- The device once a window's readings stand and its loop, or the host's setting, has acted. -/
def Dev.agcActs (i clips : Nat) (m l : Int) (d : Dev) : Dev :=
  let x := d.inp i
  let hot : Prop := d.prop (P.agcClipLimit i) ≤ clips
  let since := if 0 < clips then 0 else min 8 (x.sinceClip + 1)
  let d1 := d.setInp i (InputSt.measured hot clips since m l)
  match x.agcNext with
  | some n => d1.agcHost i n
  | none => d1.onlyIf (x.agcMode == 0)
      (Dev.agcAuto i hot (since == 8) (d.mainPath i m) (d.lbPath i l))

/-- What follows the step of a window: its ramps and its alarms. -/
def Dev.agcAfter (i n : Nat) (hot : Prop) [Decidable hot] (m l : Int) (d : Dev) : Dev :=
  let e := ((d.setInp i fun y => { y with minHeld := n }).agcRamps i m l).noteGain i
  if hot then e.agcOverload i 0 else e.onlyIf (n == 8) (Dev.agcOverload i 1)

theorem Dev.agcWindow_eq (i clips : Nat) (m l : Int) (d : Dev) :
    ∃ n, d.agcWindow i clips m l = (d.agcActs i clips m l).agcAfter i n (d.prop (P.agcClipLimit i) ≤ clips) m l :=
  ⟨if (d.inp i).g == d.prop (P.agcMinGain i) && ((d.agcActs i clips m l).inp i).g == d.prop (P.agcMinGain i)
    && decide (10 * d.prop (P.agcHyst i) < (d.mainPath i m).err) then min 8 ((d.inp i).minHeld + 1) else 0, rfl⟩

theorem Dev.agcAfter_sansAlarm (i n : Nat) (hot : Prop) [Decidable hot] (m l : Int) (d : Dev) (j : Nat) :
    ((d.agcAfter i n hot m l).inp j).sansAlarm = (d.inp j).sansAlarm := by
  have ramps : ((((d.setInp i fun y => { y with minHeld := n }).agcRamps i m l).noteGain i).inp j).sansAlarm = (d.inp j).sansAlarm := by
    rw [Dev.noteGain_inp]
    unfold Dev.agcRamps
    refine (Dev.setInp_sansAlarm ?_ _ j).trans (Dev.setInp_sansAlarm ?_ _ j)
    · exact fun _ => rfl
    · exact fun _ => rfl
  unfold Dev.agcAfter
  dsimp only
  split
  · rw [Dev.agcOverload_sansAlarm, ramps]
  · rw [Dev.onlyIf_leaves (fun d => (d.inp j).sansAlarm) _ (fun d => Dev.agcOverload_sansAlarm i 1 d j), ramps]

theorem Dev.agcAfter_ne (i n : Nat) (hot : Prop) [Decidable hot] (m l : Int) (d : Dev) {j : Nat} (h : j ≠ i) : (d.agcAfter i n hot m l).inp j = d.inp j := by
  have ramps : ((((d.setInp i fun y => { y with minHeld := n }).agcRamps i m l).noteGain i).inp j) = d.inp j := by
    rw [Dev.noteGain_inp]
    unfold Dev.agcRamps
    dsimp only
    rw [Dev.inp_setInp_ne _ _ _ _ h, Dev.inp_setInp_ne _ _ _ _ h]
  unfold Dev.agcAfter
  dsimp only
  split
  · rw [Dev.agcOverload_ne _ _ _ h, ramps]
  · rw [Dev.onlyIf_leaves (fun d => d.inp j) _ (fun d => Dev.agcOverload_ne i 1 d h), ramps]

/-- The input that the host's setting, the loop or neither has acted on. -/
def Dev.agcResult (d : Dev) (i clips : Nat) (m l : Int) : InputSt :=
  let hot : Prop := d.prop (P.agcClipLimit i) ≤ clips
  let since := if 0 < clips then 0 else min 8 ((d.inp i).sinceClip + 1)
  let x := (d.inp i).measured hot clips since m l
  match (d.inp i).agcNext with
  | some n =>
    let y := { x with agcMode := n.1, agcNext := none, lowMain := 0, lowLb := 0 }
    if n.1 = 2 then { y with g := n.2.1, lbg := n.2.2 } else y
  | none => if (d.inp i).agcMode == 0 then
      let hyst := 10 * d.prop (P.agcHyst i)
      let decay := d.propN (P.agcDecay i)
      let calm : Bool := since == 8
      let (main, lb) := (d.mainPath i m, d.lbPath i l)
      let m := if decide hot then main.attack lb else main.track hyst decay calm (d.headroomOk i false 5)
      let l := if decide hot then lb.attack main else lb.track hyst decay calm (d.headroomOk i true 10)
      { x with
        g := clamp (d.prop (P.agcMinGain i)) (d.prop (P.agcMaxGain i)) m.gain, lowMain := m.low
        lbg := if l.live then (clamp 0 30 l.gain).toNat else x.lbg, lowLb := l.low }
    else x

theorem Dev.agcActs_inp {i clips : Nat} {m l : Int} {d : Dev} (hi : i < d.rf.inputs.length) :
    (d.agcActs i clips m l).inp i = d.agcResult i clips m l := by
  have hlen (f : InputSt → InputSt) : i < (d.setInp i f).rf.inputs.length := by unfold Dev.setInp upd; rw [List.length_modify]; exact hi
  unfold Dev.agcActs Dev.agcResult
  dsimp only
  cases hn : (d.inp i).agcNext with
  | some n =>
    unfold Dev.agcHost
    dsimp only
    rw [Dev.inp_setInp i _ _ (hlen _), Dev.inp_setInp i _ _ hi]
  | none =>
    dsimp only
    cases hm : (d.inp i).agcMode == 0 with
    | true =>
      rw [if_pos rfl, Dev.onlyIf_true]
      unfold Dev.agcAuto
      dsimp only
      rw [Dev.inp_setInp i _ _ (hlen _), Dev.inp_setInp i _ _ hi]
      rfl
    | false =>
      rw [if_neg Bool.false_ne_true, Dev.onlyIf_false, Dev.inp_setInp i _ _ hi]

theorem Dev.agcActs_ne (i clips : Nat) (m l : Int) (d : Dev) {j : Nat} (h : j ≠ i) : (d.agcActs i clips m l).inp j = d.inp j := by
  unfold Dev.agcActs
  dsimp only
  split
  · unfold Dev.agcHost
    rw [Dev.inp_setInp_ne _ _ _ _ h, Dev.inp_setInp_ne _ _ _ _ h]
  · refine (Dev.onlyIf_leaves (fun d => d.inp j) _ (fun d => ?_) _).trans (Dev.inp_setInp_ne _ _ _ _ h)
    exact Dev.inp_setInp_ne _ _ _ _ h

theorem Dev.windowCodes_eq (i : Nat) (codes : List Int) (m l : Int) (d : Dev) :
    d.windowCodes i codes m l = ((d.convert i codes).1.foldl (fun e x => e.segGives ((codes.filter isClip).length != 0) x.1 x.2)
      (d.convert i codes).2).agcWindow i (codes.filter isClip).length m l := by
  unfold Dev.windowCodes
  generalize d.convert i codes = r
  obtain ⟨segs, e⟩ := r
  rfl

theorem clamp_bounds {lo hi : Int} (h : lo ≤ hi) (v : Int) : lo ≤ clamp lo hi v ∧ clamp lo hi v ≤ hi := by
  unfold clamp; omega

/-- Whatever acts, the readings of the window stand. -/
theorem Dev.agcResult_measured (d : Dev) (i clips : Nat) (m l : Int) : ∃ g lb mode next lowMain lowLb,
    d.agcResult i clips m l = { (d.inp i).measured (d.prop (P.agcClipLimit i) ≤ clips) clips (if 0 < clips then 0 else min 8 ((d.inp i).sinceClip + 1)) m l with
      g := g, lbg := lb, agcMode := mode, agcNext := next, lowMain := lowMain, lowLb := lowLb } := by
  unfold Dev.agcResult
  dsimp only
  split
  · split
    · exact ⟨_, _, _, _, _, _, rfl⟩
    · exact ⟨_, _, _, _, _, _, rfl⟩
  · split
    · exact ⟨_, _, _, _, _, _, rfl⟩
    · exact ⟨_, _, _, _, _, _, rfl⟩

/-- Settles O37: a live input's window at its time acts, any other only lets time pass (DESIGN CHOICE log 7); what it leaves is what the
host's setting or the loop gives, the ramps and alarms leaving it. -/
theorem agcWindows : Obligations.AgcWindows := by
  unfold Obligations.AgcWindows
  constructor
  · intro s dt i codes m l ha d clips through
    have ha' : (s.dev.tick dt).active = true := ha
    refine ⟨fun hi hl h0 => ?_, fun h => ?_⟩
    · refine (exec_agcWindowEnd ..).trans (State.runIf_of_eq ?_ (Dev.windowCodes_eq ..))
      rw [ha', show (s.dev.tick dt).inputLive i = true from hl, show decide (i < (s.dev.tick dt).nInputs) = true from decide_eq_true hi]
      exact beq_iff_eq.2 h0
    · refine (exec_agcWindowEnd ..).trans (State.runIf_skip _ ?_)
      obtain h | h := h
      · rw [show (s.dev.tick dt).inputLive i = false from h, Bool.and_false, Bool.false_and]
      · rw [show ((s.dev.tick dt).now % 16384 == 0) = false from beq_eq_false_iff_ne.2 h, Bool.and_false]
  · intro d i clips m l hi e
    have he : (e.inp i).sansAlarm = (d.agcResult i clips m l).sansAlarm := by
      obtain ⟨n, hw⟩ := d.agcWindow_eq i clips m l
      rw [show e = _ from hw, Dev.agcAfter_sansAlarm, Dev.agcActs_inp hi]
    obtain ⟨_, _, _, _, _, _, hr⟩ := d.agcResult_measured i clips m l
    refine ⟨(congrArg InputSt.detMain (he.trans (congrArg _ hr)) :), (congrArg InputSt.clips (he.trans (congrArg _ hr)) :),
      (congrArg InputSt.sinceClip (he.trans (congrArg _ hr)) :), fun g lb hn => ?manual, fun g lb hn => ?hold, fun hn hm => ?kept,
      fun hn hm hb => ?auto, fun j hj => ?others⟩
    case manual =>
      unfold Dev.agcResult at he
      rw [hn] at he
      exact ⟨(congrArg InputSt.g he :), (congrArg InputSt.lbg he :), (congrArg InputSt.agcMode he :), (congrArg InputSt.agcNext he :)⟩
    case hold =>
      unfold Dev.agcResult at he
      rw [hn] at he
      exact ⟨(congrArg InputSt.g he :), (congrArg InputSt.agcMode he :)⟩
    case kept =>
      unfold Dev.agcResult at he
      rw [hn] at he
      dsimp only at he
      rw [if_neg (by simpa using hm)] at he
      exact ⟨(congrArg InputSt.g he :), (congrArg InputSt.lbg he :)⟩
    case auto =>
      unfold Dev.agcResult at he
      rw [hn] at he
      dsimp only at he
      rw [if_pos (by simpa using hm)] at he
      have hg : (e.inp i).g = clamp (d.prop (P.agcMinGain i)) (d.prop (P.agcMaxGain i)) _ := (congrArg InputSt.g he :)
      rw [hg]
      exact clamp_bounds hb _
    case others =>
      obtain ⟨n, hw⟩ := d.agcWindow_eq i clips m l
      rw [show e = _ from hw, Dev.agcAfter_ne _ _ _ _ _ _ hj, Dev.agcActs_ne _ _ _ _ _ hj]

end Sys2Proof.Machine
end

section
/-!
PROOF. The external amplifiers (chapter 09).
-/
namespace Sys2Proof.Machine

/-- A sample of 1.75 V or more is a short (R269). -/
theorem Dev.classify_short (d : Dev) (i : Nat) {mv : Nat} (x : XampSt) (h : 1750 ≤ mv) : (d.classify i mv x).2 = some 3 := by
  unfold Dev.classify
  exact if_pos h

/-- Settles O38: each row by its time and the stage of the sequence. -/
theorem amplifierRows : Obligations.AmplifierRows := by
  unfold Obligations.AmplifierRows
  intro s dt i hz hi d a
  have hz' : (s.dev.tick dt).izosh = true := hz
  have hi' : decide (i < (s.dev.tick dt).nInputs) = true := decide_eq_true hi
  have powered (hp : a.pwr = true) : ((s.dev.tick dt).izosh && decide (i < (s.dev.tick dt).nInputs) && ((s.dev.tick dt).inp i).amp.pwr) = true := by
    rw [hz', hi', show ((s.dev.tick dt).inp i).amp.pwr = true from hp]; rfl
  have fitted : ((s.dev.tick dt).izosh && decide (i < (s.dev.tick dt).nInputs)) = true := by rw [hz', hi']; rfl
  refine ⟨fun mv hp hc => ?calm, fun mv hp hmv => ?short, fun hp ht => ?inrush, fun k hp ht hs he => ?settled, fun t hs ht => ?off,
    fun k t hs ht => ?retry, fun r bytes h2 hc hr hin => ?read⟩
  case calm =>
    refine (exec_auxAdcSample ..).trans (State.runIf_of_eq (powered hp) ?_)
    have hc' : ((s.dev.tick dt).classify i mv ((s.dev.tick dt).inp i).amp).2 = none := hc
    dsimp only
    rw [hc']; rfl
  case short =>
    refine (exec_auxAdcSample ..).trans (State.runIf_of_eq (powered hp) ?_)
    dsimp only
    rw [Dev.classify_short _ _ _ hmv]; rfl
  case inrush =>
    refine (exec_xampInrushExpiry ..).trans (State.runIf_next _ ?_)
    rw [powered hp, Bool.true_and]; exact decide_eq_true ht
  case settled =>
    refine (exec_xampSettleExpiry ..).trans (State.runIf_of_eq ?_ ?_)
    · rw [powered hp, Bool.true_and]; exact decide_eq_true ht
    · dsimp only
      rw [show ((s.dev.tick dt).inp i).amp.seqn = some { kind := k, stage := .settling } from hs]
      exact if_pos he
  case off =>
    refine (exec_xampOffDelayExpiry ..).trans (State.runIf_of_eq fitted ?_)
    rw [show ((s.dev.tick dt).inp i).amp.seqn = some { kind := .off, stage := .offDelay t } from hs]
    exact if_pos ht
  case retry =>
    refine (exec_xampRetryWaitExpiry ..).trans (State.runIf_of_eq fitted ?_)
    rw [show ((s.dev.tick dt).inp i).amp.seqn = some { kind := k, stage := .retryWait t } from hs]
    exact if_pos ht
  case read =>
    refine (exec_xampEepromReadDone ..).trans (State.runIf_of_eq ?_ ?_)
    · rw [hz', show (s.dev.tick dt).twc.state = 2 from h2, show (s.dev.tick dt).ctrlEn = true from hc]; rfl
    · rw [show (s.dev.tick dt).twc.req.bind (·.input) = some i by rw [show (s.dev.tick dt).twc.req = some r from hr]; exact hin]
      rfl

end Sys2Proof.Machine
end

section
/-!
PROOF. Calibration and trimming (chapter 10).
-/
namespace Sys2Proof.Machine

/-! ## The runs -/

theorem find_updWhere {α : Type} (l : List α) (p : α → Bool) {f : α → α} (hf : ∀ a, p a = true → p (f a) = true) :
    (updWhere l p f).find? p = (l.find? p).map f := by
  unfold updWhere
  induction l with
  | nil => rfl
  | cons a l ih =>
    by_cases h : p a = true
    · simp [h, hf a h]
    · simp only [List.map_cons, if_neg h, List.find?_cons_of_neg h, ih]

/-- The run of an input once it is changed. -/
theorem Dev.calRun_setRun {i : Nat} {f : CalRun → CalRun} (hf : ∀ r, (f r).input = r.input) {r : CalRun} {d : Dev} (h : d.calRun i = some r) :
    (d.setRun i f).calRun i = some (f r) := by
  unfold Dev.calRun Dev.setRun
  rw [find_updWhere _ _ fun a ha => by rw [hf]; exact ha, show d.cal.runs.find? (·.input == i) = some r from h]
  rfl

/-- CAL_PASS_END of a run that waits for this pass. -/
theorem exec_calPassEnd_due {s : State} {dt i : Nat} {r : CalRun} {trims : List Byte} {codes : List Int} {tAvg : Int} (ha : s.dev.active = true)
    (hr : s.dev.calRun i = some r) (hbegan : r.began = true) (hout : r.outcome = none) (h8 : r.passes < 8) (hlen : trims.length = 48)
    (hdue : r.start + (2 + 8 * (r.passes + 1)) * roundTicks ≤ (s.dev.tick dt).now) {o : Option CalOutcome} {broken : Bool} {first : List Byte}
    (ho : r.decide (r.passes + 1) trims (residueOf codes)
      { uid := s.dev.uid, tCal := tAvg, pairs := (r.passes + 1) / 2, trims := trims, time := (s.dev.tick dt).now } = o)
    (hb : (r.broken && (r.passes + 1) % 2 == 1) = broken) (hf : (if (r.passes + 1) % 2 = 1 then trims else r.first) = first) :
    ∃ t, exec (.calPassEnd dt i trims codes tAvg) s = .next t
      ∧ t.dev.calRun i = some { r with
          passes := r.passes + 1, broken := broken, first := first
          outcome := o.map fun o => (o, r.start + (4 + 8 * (r.passes + 1)) * roundTicks) }
      ∧ t.dev.cal.vals = s.dev.cal.vals ∧ t.dev.rf = s.dev.rf := by
  have hpad : padTo 48 trims = trims := by simp [padTo, List.take_of_length_le, hlen, zeros]
  subst ho hb hf
  refine ⟨_, (exec_calPassEnd ..).trans (State.runIf_next _ ha), ?_⟩
  have hgo : (s.dev.tick dt).passEnd i trims codes tAvg = (s.dev.tick dt).setRun i fun x => { x with
      passes := r.passes + 1, broken := x.broken && (r.passes + 1) % 2 == 1, first := if (r.passes + 1) % 2 = 1 then trims else x.first
      outcome := (r.decide (r.passes + 1) trims (residueOf codes)
        { uid := s.dev.uid, tCal := tAvg, pairs := (r.passes + 1) / 2, trims := trims, time := (s.dev.tick dt).now }).map
          fun o => (o, x.start + (4 + 8 * (r.passes + 1)) * roundTicks) } := by
    have hr' : (s.dev.tick dt).calRun i = some r := hr
    unfold Dev.passEnd
    rw [hr', hpad]
    dsimp only
    refine if_neg ?_
    simp [hbegan, hout, Nat.not_lt.2 hdue]; omega
  rw [State.after, hgo]
  refine ⟨Dev.calRun_setRun (d := s.dev.tick dt) ?_ hr, rfl, rfl⟩
  exact fun _ => rfl

/-- The values of a pair that agrees are taken. -/
def CalOutcome.takes (i : Nat) (o : CalOutcome) (d : Dev) : Dev := match o with
  | .agreed _ v => { d with cal.vals := d.cal.vals.set i (some v), cal.advised := d.cal.advised.set i false }
  | _ => d

theorem Dev.syn0Update_cal (d : Dev) : d.syn0Update.cal = d.cal := by
  unfold Dev.syn0Update
  split <;> rfl

/-! ## The temperature check (R293) -/

theorem set_getD_same {l : List Bool} (h : l.getD 0 false = false) : l.set 0 false = l := by
  cases l with
  | nil => rfl
  | cons a l => exact congrArg (· :: l) h.symm

theorem Dev.adviseInput_off {d : Dev} {i : Nat} (h : d.inputLive i = false) (tAvg : Int) : d.adviseInput tAvg i = d := by
  unfold Dev.adviseInput; rw [h]

/-- Only the advice of the inputs changes, besides the event. -/
theorem Dev.adviseInput_frame (tAvg : Int) (i : Nat) (d : Dev) :
    (d.adviseInput tAvg i).rf = d.rf ∧ (d.adviseInput tAvg i).pwr = d.pwr := by
  unfold Dev.adviseInput
  split
  · dsimp only
    split
    · exact ⟨Dev.emit_rf .., Dev.emit_pwr ..⟩
    · split <;> exact ⟨rfl, rfl⟩
  · exact ⟨rfl, rfl⟩

/-- Where only the first input is live, only it is looked at. -/
theorem Dev.adviseAll_first {d : Dev} (tAvg : Int) (h : ∀ i < 4, i ≠ 0 → d.inputLive i = false) :
    forAll (List.range 4) (Dev.adviseInput tAvg) d = d.adviseInput tAvg 0 := by
  have off (i : Nat) (h4 : i < 4) (h0 : i ≠ 0) : (d.adviseInput tAvg 0).adviseInput tAvg i = d.adviseInput tAvg 0 := by
    refine Dev.adviseInput_off ?_ tAvg
    unfold Dev.inputLive Dev.inp
    rw [(Dev.adviseInput_frame tAvg 0 d).1]
    exact h i h4 h0
  unfold forAll
  rw [show List.range 4 = [0, 1, 2, 3] from rfl]
  simp only [List.foldl_cons, List.foldl_nil]
  rw [off 1 (by omega) (by omega), off 2 (by omega) (by omega), off 3 (by omega) (by omega)]

/-! ## The channels of SYN1 -/

/-- A channel of a run counted, and its entry placed. -/
def Dev.syn1Placed (r : Syn1Run) (f : Nat) (rest : List Nat) (placed : Option (List Syn1Entry)) (d : Dev) : Dev :=
  let r1 := match placed with
    | some _ => { r with left := rest, done := r.done + 1 }
    | none => { r with left := rest, failed := r.failed + 1, fFail := f }
  let e := { d with cal.syn1 := placed.getD d.cal.syn1 }
  if rest.isEmpty then
    ({ e with cal.syn1Run := none }).emit 50 (u8 r1.done ++ u8 r1.failed ++ u8 0 ++ u8 0 ++ u32 r1.fFail)
  else { e with cal.syn1Run := some r1 }

theorem Dev.noWaits {d : Dev} (h : d.watch.waits = []) : ({ d with watch.waits := [] } : Dev) = d := by rw [← h]

theorem Dev.syn1RunStep_watch (r : Syn1Run) (ok : Bool) (band cap : Nat) (tAvg : Int) (d : Dev) :
    (d.syn1RunStep r ok band cap tAvg).watch = d.watch := by
  unfold Dev.syn1RunStep
  split
  · rfl
  · dsimp only
    split
    · exact Dev.emit_watch ..
    · rfl

/-- A calibrated channel of a run, no receiver waiting for it. -/
theorem exec_syn1ChannelCalDone_run {s : State} {dt : Nat} {r : Syn1Run} {ok : Bool} {band cap : Nat} {tAvg : Int} (ha : s.dev.active = true)
    (hr : s.dev.cal.syn1Run = some r) (hst : r.start ≤ (s.dev.tick dt).now) (hw : s.dev.watch.waits = []) :
    exec (.syn1ChannelCalDone dt ok band cap tAvg) s = .next (s.after dt ((s.dev.tick dt).syn1RunStep r ok band cap tAvg)) := by
  refine (exec_syn1ChannelCalDone ..).trans (State.runIf_of_eq ?_ ?_)
  · rw [show (s.dev.tick dt).cal.syn1Run = some r from hr, show (s.dev.tick dt).active = true from ha]; exact decide_eq_true hst
  · unfold Dev.syn1Done
    rw [show (s.dev.tick dt).cal.syn1Run = some r from hr, show (s.dev.tick dt).watch.waits = [] from hw]
    refine Dev.noWaits ?_
    rw [Dev.syn1RunStep_watch]; exact hw

/-- Settles O39: each row by its condition and what it then decides; a temperature check at another time only lets time pass (DESIGN CHOICE
log 7). -/
theorem calibrationRows : Obligations.CalibrationRows := by
  unfold Obligations.CalibrationRows
  intro s dt ha d
  have ha' : (s.dev.tick dt).active = true := ha
  refine ⟨fun i r trims codes tAvg hr hbegan hout h8 hlen hdue => ?pass, fun i r o due hi hr ho hdue hap => ?apply,
    fun r band cap tAvg hr hbegan hdue => ?search, fun tAvg => ⟨fun h => ?never, fun h hoff => ?none, fun h c hl hc hadv hoff hlen => ?temp⟩,
    fun r f rest ok band cap tAvg hr hst hleft hw => ?syn1⟩
  case pass =>
    intro n due vals ends
    have passes {o : Option CalOutcome} {broken : Bool} {first : List Byte} (ho) (hb) (hf) : ends { r with
        passes := n, broken := broken, first := first, outcome := o.map fun o => (o, due) } :=
      exec_calPassEnd_due ha hr hbegan hout h8 hlen hdue ho hb hf
    have odd (h : n % 2 = 1) : (r.broken && n % 2 == 1) = r.broken ∧ (if n % 2 = 1 then trims else r.first) = trims :=
      ⟨by rw [h]; exact Bool.and_true _, if_pos h⟩
    have even (h : n % 2 = 0) : (r.broken && n % 2 == 1) = false ∧ (if n % 2 = 1 then trims else r.first) = r.first :=
      ⟨by rw [h]; exact Bool.and_false _, if_neg (by omega)⟩
    refine ⟨fun l f hres h => ?_, fun l f hres h => ?_, fun hres h => ?_, fun hres h hb hag => ?_, fun hres h hn hdis => ?_, fun hres h hdis => ?_⟩
    · exact passes (o := some (.rejected n l f)) (by unfold CalRun.decide; rw [hres]) (odd h).1 (odd h).2
    · exact passes (o := some (.rejected n l f)) (by unfold CalRun.decide; rw [hres]) (even h).1 (even h).2
    · have := passes (o := none) (by unfold CalRun.decide; rw [hres]; exact if_pos h) (odd h).1 (odd h).2
      rw [Option.map_none, ← hout] at this
      exact this
    · refine passes (o := some (.agreed (n / 2) vals)) ?_ ((even h).1.trans hb.symm) (even h).2
      unfold CalRun.decide; rw [hres]; dsimp only
      rw [if_neg (by rw [show (r.passes + 1) % 2 = 0 from h]; decide), if_pos (by rw [hb, hag]; rfl)]
    · have := passes (o := none) ?_ (even h).1 (even h).2
      · rw [Option.map_none, ← hout] at this
        exact this
      · unfold CalRun.decide; rw [hres]; dsimp only
        rw [if_neg (by rw [show (r.passes + 1) % 2 = 0 from h]; decide), if_neg (by obtain h | h := hdis <;> simp [h]), if_neg (Nat.ne_of_lt hn)]
    · have heven : n % 2 = 0 := by rw [h]
      refine passes (o := some .disagree) ?_ (even heven).1 (even heven).2
      unfold CalRun.decide; rw [hres]; dsimp only
      rw [if_neg (by rw [show (r.passes + 1) % 2 = 0 from heven]; decide), if_neg (by obtain h | h := hdis <;> simp [h]), if_pos h]
  case apply =>
    have hgo : d.applyDone i = o.takes i ((d.setRun i fun r => { r with applied := true }).setInp i fun x =>
          { x with g := r.gains.1, lbg := r.gains.2, iso := !r.startup }) := by
      have hr' : d.calRun i = some r := hr
      unfold Dev.applyDone
      simp only [hr', ho]
      exact if_neg (by simp [hap, Nat.not_lt.2 hdue])
    have hrun := Dev.calRun_setRun (f := fun r => { r with applied := true }) (fun _ => rfl) (d := d) hr
    have hinp := Dev.inp_setInp i (fun x => { x with g := r.gains.1, lbg := r.gains.2, iso := !r.startup })
      (d.setRun i fun r => { r with applied := true }) hi
    refine ⟨_, (exec_calApplyDone ..).trans (State.runIf_of_eq ha hgo), ?_⟩
    cases o with
    | agreed p v => exact ⟨hrun, (congrArg InputSt.g hinp :), (congrArg InputSt.lbg hinp :), (congrArg InputSt.iso hinp :),
        (fun | _, _, rfl => rfl), fun hn => absurd rfl (hn p v)⟩
    | disagree => exact ⟨hrun, (congrArg InputSt.g hinp :), (congrArg InputSt.lbg hinp :), (congrArg InputSt.iso hinp :),
        (nofun), fun _ => rfl⟩
    | rejected n l f => exact ⟨hrun, (congrArg InputSt.g hinp :), (congrArg InputSt.lbg hinp :), (congrArg InputSt.iso hinp :),
        (nofun), fun _ => rfl⟩
  case search =>
    have goes {e : Dev} (h : (if (r.searches + 1) % 2 = 1 then { d with cal.syn0Run := some { r with searches := r.searches + 1, first := (band, cap) } }
        else if band = r.first.1 && cap ≤ r.first.2 + 1 && r.first.2 ≤ cap + 1 then
          ({ d with cal.syn0 := some (band, cap), cal.syn0Used := true, cal.syn0Run := none }.syn0Update).emit 44
            (u8 4 ++ u8 0 ++ u8 ((r.searches + 1) / 2) ++ ub r.startup ++ u16 0 ++ s16 tAvg)
        else d.syn0Disagree) = e) : exec (.syn0SearchEnd dt band cap tAvg) s = .next (s.after dt e) := by
      refine (exec_syn0SearchEnd ..).trans (State.runIf_of_eq ha ?_)
      unfold Dev.searchEnd
      rw [show (s.dev.tick dt).cal.syn0Run = some r from hr]
      refine (if_neg ?_).trans h
      rw [hbegan, decide_eq_false (Nat.not_lt.2 hdue)]; decide
    refine ⟨fun h => goes (if_pos (by omega)), fun h hdis => goes ((if_neg (by omega)).trans (if_neg ?_)), fun h hb hlo hhi => ?_⟩
    · simp only [Bool.and_eq_true, decide_eq_true_eq]; omega
    · refine ⟨_, goes ((if_neg (by omega)).trans (if_pos (by simp [hb, hlo, hhi]))), ?_⟩
      have hcal := (Dev.emit_cal 44 (u8 4 ++ u8 0 ++ u8 ((r.searches + 1) / 2) ++ ub r.startup ++ u16 0 ++ s16 tAvg)
        ({ d with cal.syn0 := some (band, cap), cal.syn0Used := true, cal.syn0Run := none } : Dev).syn0Update).trans (Dev.syn0Update_cal _)
      exact ⟨(congrArg CalSt.syn0 hcal :), (congrArg CalSt.syn0Run hcal :), (congrArg CalSt.vals hcal :)⟩
  case never =>
    refine (exec_calTemperatureCheck ..).trans (State.runIf_skip _ ?_)
    rw [show ((s.dev.tick dt).now % (8 * roundTicks) == 0) = false from beq_eq_false_iff_ne.2 h, Bool.and_false]
  case none =>
    have off (i : Nat) (h4 : i < 4) : ({ d with pwr.tAvg := tAvg } : Dev).adviseInput tAvg i = { d with pwr.tAvg := tAvg } :=
      Dev.adviseInput_off (d := { d with pwr.tAvg := tAvg }) (hoff i h4) tAvg
    refine (exec_calTemperatureCheck ..).trans (State.runIf_of_eq ?_ ?_)
    · rw [ha', show ((s.dev.tick dt).now % (8 * roundTicks) == 0) = true from beq_iff_eq.2 h]; rfl
    · exact (Dev.adviseAll_first (d := { d with pwr.tAvg := tAvg }) tAvg fun i h4 _ => hoff i h4).trans (off 0 (by omega))
  case temp =>
    have hx : exec (.calTemperatureCheck dt tAvg) s = .next (s.after dt (({ d with pwr.tAvg := tAvg } : Dev).adviseInput tAvg 0)) := by
      refine (exec_calTemperatureCheck ..).trans (State.runIf_of_eq ?_ (Dev.adviseAll_first (d := { d with pwr.tAvg := tAvg }) tAvg fun i h4 h0 => hoff i h4 h0))
      rw [ha', show ((s.dev.tick dt).now % (8 * roundTicks) == 0) = true from beq_iff_eq.2 h]; rfl
    have hl' : ({ d with pwr.tAvg := tAvg } : Dev).inputLive 0 = true := hl
    have hc' : ({ d with pwr.tAvg := tAvg } : Dev).tCal 0 = some c := hc
    have hpwr := (Dev.adviseInput_frame tAvg 0 { d with pwr.tAvg := tAvg }).2
    refine ⟨fun hd => ⟨_, hx, (congrArg PowerSt.tAvg hpwr :), ?_⟩, fun hd => ⟨_, hx, (congrArg PowerSt.tAvg hpwr :), ?_⟩⟩
    · refine (congrArg CalSt.advised (?_ : (({ d with pwr.tAvg := tAvg } : Dev).adviseInput tAvg 0).cal =
        { d.cal with advised := d.cal.advised.set 0 true }) :)
      unfold Dev.adviseInput
      rw [hl', hc']
      dsimp only
      rw [if_pos (by rw [decide_eq_true hd, show d.cal.advised.getD 0 false = false from hadv]; rfl)]
      exact Dev.emit_cal ..
    · refine (congrArg CalSt.advised (?_ : (({ d with pwr.tAvg := tAvg } : Dev).adviseInput tAvg 0).cal = d.cal) :)
      unfold Dev.adviseInput
      rw [hl', hc']
      dsimp only
      rw [if_neg (by rw [decide_eq_false (Nat.not_le.2 hd), Bool.false_and]; decide)]
      split
      · show ({ s.dev.cal with advised := s.dev.cal.advised.set 0 false } : CalSt) = s.dev.cal
        rw [set_getD_same hadv]
      · rfl
  case syn1 =>
    intro placed
    have goes {e : Dev} (he : (s.dev.tick dt).syn1RunStep r ok band cap tAvg = e) :
        exec (.syn1ChannelCalDone dt ok band cap tAvg) s = .next (s.after dt e) := by
      rw [← he]; exact exec_syn1ChannelCalDone_run ha hr hst hw
    have step : (s.dev.tick dt).syn1RunStep r ok band cap tAvg = d.syn1Placed r f rest placed := by
      unfold Dev.syn1RunStep
      rw [hleft]; rfl
    refine ⟨fun hrest hp => goes ?_, fun l hrest hp => goes ?_, fun hrest => ⟨_, goes step, ?_⟩⟩
    · rw [step, hp]; exact if_neg (by simpa using hrest)
    · rw [step, hp]; exact if_neg (by simpa using hrest)
    · have hcal : (d.syn1Placed r f rest placed).cal = { d.cal with syn1 := placed.getD d.cal.syn1, syn1Run := none } := by
        unfold Dev.syn1Placed
        dsimp only
        rw [if_pos (by rw [hrest]; rfl), Dev.emit_cal]
      exact ⟨(congrArg CalSt.syn1Run hcal :), (congrArg CalSt.syn1 hcal :)⟩

end Sys2Proof.Machine
end

section
/-!
PROOF. The calibration commands (chapter 10).
-/
namespace Sys2Proof.Machine

theorem Dev.calRecord_length (d : Dev) (i : Nat) (v : CalVals) : (d.calRecord i v).length = 96 := by
  unfold Dev.calRecord
  dsimp only
  cases d.cal.syn0 <;>
    simp only [List.length_append, u8_length, s16_length, u16_length, u32_length, u64_length, padTo_length, zeros_length]

theorem Syn1Entry.bytes_length (e : Syn1Entry) : e.bytes.length = 16 := by
  unfold Syn1Entry.bytes syn1Head
  simp only [List.length_append, u8_length, s16_length, u32_length, leBytes_length]

/-- A list of exactly one entry's length is that entry. -/
theorem entriesOf_one {n : Nat} {l : List Byte} (hn : 0 < n) (h : l.length = n) : entriesOf n l = [l] := by
  obtain ⟨a, l', rfl⟩ : ∃ a l', l = a :: l' := List.exists_cons_of_length_pos (by omega)
  unfold entriesOf
  rw [h]
  obtain ⟨m, rfl⟩ : ∃ m, n = m + 1 := ⟨n - 1, by omega⟩
  unfold chunks
  rw [List.take_of_length_le (by omega), List.drop_eq_nil_of_le (by omega)]
  cases m <;> rfl

/-- A record without a fault is this device's own. -/
theorem Dev.recordResult_uid {d : Dev} {r : List Byte} {tAvg : Int} (h : d.recordResult r tAvg = 0) : slice r 4 8 = d.uid := by
  unfold Dev.recordResult at h
  by_cases hu : slice r 4 8 = d.uid
  · exact hu
  · rw [if_pos (c := (slice r 4 8 != d.uid) = true) (by simpa using hu)] at h
    split at h
    · omega
    · split at h <;> omega

/-- CAL_WRITE of one record. -/
theorem calWriteBody_one {tAvg : Int} {q : Req} {e : Dev} {rcd : List Byte} (hb : q.badHeader = false) (ho : q.src = e.proto.owner)
    (hw : e.inWatch = false) (hl : q.len = 100) (h1 : q.p8 0 = 1) (hz : zeroAt q.params 1 3 = true)
    (hone : entriesOf 96 (q.params.drop 4) = [rcd]) (h3 : at8 rcd 1 ≤ 3) (hi : at8 rcd 1 < e.nInputs) (hoff : (e.inp (at8 rcd 1)).mode = .off) :
    ∃ pl dev, calWriteBody tAvg q e = okWith pl dev ∧ pl.length = 8
      ∧ dev.cal.vals = (if e.recordResult rcd tAvg = 0 then e.cal.vals.set (at8 rcd 1) (some
          { uid := slice rcd 4 8, tCal := atS16 rcd 12, pairs := at8 rcd 14, trims := slice rcd 16 48, time := at64 rcd 68 }) else e.cal.vals)
      ∧ dev.cal.syn0 = (if e.recordResult rcd tAvg = 0 ∧ e.cal.syn0Used = false ∧ at8 rcd 66 = 1 then some (at8 rcd 64, at8 rcd 65)
          else e.cal.syn0) := by
  unfold calWriteBody
  dsimp only
  rw [hone]
  refine ⟨_, _, checked_of_passes ?_, ?_, ?_, ?_⟩
  · simp [hl, hb, hw, hz, h1, Nat.not_lt.2 h3, Req.notSystem_owner ho, Dev.inputUnfitted_fitted hi, hoff, hasRepeat]
  · simp only [List.length_append, ub_length, u8_length, s16_length]
    rw [flatMap_length_const _ fun i _ => u8_length _]; rfl
  · by_cases hr : e.recordResult rcd tAvg = 0
    · rw [if_pos hr]; simp [hr]
    · rw [if_neg hr]; simp [hr]
  · by_cases hr : e.recordResult rcd tAvg = 0
    · cases hu : e.cal.syn0Used with
      | true => simp
      | false =>
        by_cases h66 : at8 rcd 66 = 1
        · simp [hr, h66, minBy]
        · simp [hr, h66, minBy]
    · cases hu : e.cal.syn0Used <;> simp [hr, minBy]

/-- Settles O40: each command by its checks, all of which pass, and its result. -/
theorem calibrationCommands : Obligations.CalibrationCommands := by
  unfold Obligations.CalibrationCommands
  intro s dt q e hb ho hw
  refine ⟨fun h hl hz h0 h64 hin hs0 hs1 => ?run, fun v h hl hz h3 hi hv => ⟨e.calRecord_length _ v, ?read⟩, fun tAvg h hl h1 hz => ?write,
    fun h hl h16 => ?tableRead, fun tAvg h hl h1 hz hbusy => ?tableWrite⟩
  case run =>
    intro b
    have hunf : (bitsOf 4 (q.p8 0)).any (e.nInputs ≤ ·) = false := by
      rw [List.any_eq_false]; intro i hi; simpa using (hin i hi).1
    have hoff : (bitsOf 4 (q.p8 0)).any (fun i => (e.inp i).mode == .off && !e.cal.runs.any (·.input == i)) = false := by
      rw [List.any_eq_false]; intro i hi; rw [(hin i hi).2.1]; simp
    have hbusy : (bitsOf 4 (q.p8 0)).any (fun i => (e.inp i).mode != .live || (e.inp i).offDue.isSome || !(!e.cal.runs.any (·.input == i)))
        = false := by
      rw [List.any_eq_false]; intro i hi
      obtain ⟨-, hm, hd, hr⟩ := hin i hi
      rw [hm, hd, hr]; decide
    have hsyn0 : (hasBit (q.p8 0) 4 && e.convertersOn != 0) = false
        ∧ (hasBit (q.p8 0) 4 && (e.cal.syn0Run.isSome || e.rf.syn0Attempt != 0)) = false := by
      cases hbit : hasBit (q.p8 0) 4 with
      | false => exact ⟨rfl, rfl⟩
      | true => obtain ⟨h1, h2, h3⟩ := hs0 hbit; rw [h1, h2, h3]; exact ⟨rfl, rfl⟩
    have hsyn1 : (hasBit (q.p8 0) 5 && e.watchChannels.isEmpty) = false ∧ (hasBit (q.p8 0) 5 && e.syn1Busy) = false := by
      cases hbit : hasBit (q.p8 0) 5 with
      | false => exact ⟨rfl, rfl⟩
      | true => obtain ⟨h1, h2⟩ := hs1 hbit; exact ⟨by simpa using h1, by rw [h2]; rfl⟩
    refine State.command_acts h (checked_of_passes ?_) rfl (State.admits_fits h rfl (by simp))
    simp only [List.mem_cons, List.not_mem_nil, or_false, forall_eq_or_imp, forall_eq]
    exact ⟨by simp [hl], hunf, by simp [hb, h0, Nat.not_le.2 h64, hz], Req.notSystem_owner ho, by rw [hw, hoff, hsyn0.1, hsyn1.1]; rfl,
      by rw [hbusy, hsyn0.2, hsyn1.2]; rfl⟩
  case read =>
    refine State.command_ok h ?_ (State.admits_fits h rfl (by rw [Dev.calRecord_length]; omega))
    unfold calReadBody
    dsimp only
    rw [hv]
    refine checked_of_passes ?_
    simp [hl, hb, hz, hw, Nat.not_lt.2 h3, Dev.inputUnfitted_fitted hi]
  case write =>
    intro rcd i h3 hi hoff
    have hlen : rcd.length = 96 := by
      have hq : q.params.length = 100 := hl
      simp [rcd, hq]
    have hone : entriesOf 96 (q.params.drop 4) = [rcd] := entriesOf_one (by omega) hlen
    obtain ⟨pl, dev, hbody, hpl, hvals, hsyn0⟩ := calWriteBody_one (tAvg := tAvg) hb ho hw hl h1 hz hone h3 hi hoff
    have hx : exec (.calWrite dt tAvg) s = .next (s.answered dt q .ok pl dev) :=
      State.command_ok h hbody (State.admits_fits h rfl (by rw [hpl]; omega))
    have hcal : (s.answered dt q .ok pl dev).dev.cal = dev.cal := Dev.reply_cal ..
    refine ⟨fun hr => ⟨_, hx, ?_, ?_⟩, fun hr => ⟨_, hx, ?_, fun hu hd => ?_, fun hu => ?_⟩⟩
    · rw [hcal, hvals, if_neg hr]
    · rw [hcal, hsyn0, if_neg fun h => hr h.1]
    · rw [hcal, hvals, if_pos hr, Dev.recordResult_uid hr]
    · rw [hcal, hsyn0, if_pos ⟨hr, hu, hd⟩]
    · rw [hcal, hsyn0, if_neg]
      rintro ⟨-, hu', hd⟩
      obtain h | h := hu
      · exact absurd (hu'.symm.trans h) Bool.false_ne_true
      · exact h hd
  case tableRead =>
    have hlen : (e.cal.syn1.flatMap Syn1Entry.bytes).length = e.cal.syn1.length * 16 :=
      flatMap_length_const _ fun x _ => x.bytes_length
    refine State.command_passes h rfl ?_ (State.admits_fits h rfl ?_)
    · simp [hl, hb, hw]
    · simp only [List.length_append, u8_length, zeros_length, hlen]; omega
  case tableWrite =>
    intro b hz8 answer x
    have hlen : b.length = 16 := by
      have hq : q.params.length = 20 := hl
      simp [b, hq]
    have hone : entriesOf 16 (q.params.drop 4) = [b] := entriesOf_one (by omega) hlen
    have writes {r : Nat} {l : List Syn1Entry} (hw' : e.syn1Write tAvg b e.cal.syn1 = (r, l)) : answer r l := by
      refine State.command_ok h ?_ (State.admits_fits h rfl (by simp))
      unfold synTableWriteBody
      dsimp only
      rw [hone]
      refine (checked_of_passes ?_).trans ?_
      · simp [hl, hb, hw, hz, h1, hz8, Req.notSystem_owner ho, hbusy]
      · simp only [List.foldl_cons, List.foldl_nil, hw']
        rfl
    refine ⟨fun hcrc => writes ?_, fun hcrc ht => writes ?_, fun hcrc ht hfree hroom => writes ?_⟩
    · exact if_pos (by simpa using hcrc)
    · exact (if_neg (by simpa using hcrc)).trans (if_pos ht)
    · refine (if_neg (by simpa using hcrc)).trans ((if_neg (Nat.not_lt.2 ht)).trans ?_)
      have hplace : placeSyn1 e.watchChannels x e.cal.syn1 = some (e.cal.syn1 ++ [x]) := by
        unfold placeSyn1
        rw [if_neg (by rw [hfree]; decide), if_pos hroom]
      rw [show placeSyn1 e.watchChannels (syn1OfBytes b) e.cal.syn1 = some (e.cal.syn1 ++ [x]) from hplace]

end Sys2Proof.Machine
end

section
/-!
PROOF. Survey and the slots (chapters 11, 12).
-/
namespace Sys2Proof.Machine

/-! ## Visits (R311-R318) -/

/-- The device but for the Field Book. -/
def Dev.sansFb (d : Dev) : Dev := { d with fb := {} }

theorem offers_sansFb (l : List FbOffer) (d : Dev) : (l.foldl (fun e o => e.offer o) d).sansFb = d.sansFb := by
  refine foldl_keeps Dev.sansFb _ ?_ l d
  exact fun _ _ => rfl

/-- The levels of a visit. -/
def visitOf (n : Nat) (tb : SegTable) (r : VisitRun) : Visit :=
  let bins := (List.range (binCount (n % 4))).map fun i => ((binsOf (n % 4)).1 + i, surveyPower r.samples ((binsOf (n % 4)).1 + i))
  let level (p : Nat × Nat) : Int := visitLevel dbNear 10 (surveyBase (n % 4)) p.1 p.2
  { time := r.start, bins := bins.map fun b => level (b.2, surveyRef)
    chans := if tb.count = 0 then none
      else some (((List.range tb.count).map fun c => channelPower (n % 4) (tb.start + c * tb.step) tb.width bins).map level)
    flags := bit r.clipped + 2 * bit (r.samples.any (·.sat)), exp := r.exp }

/-- A complete visit gives its segment its levels; beside it only the Field Book may get offers. -/
theorem Dev.visitEnd_spec (r : VisitRun) (d : Dev) : ∃ peak offers, d.visitEnd r = offers.foldl (fun e o => e.offer o)
      { (d.setSseg r.seg fun x => { x with visit := some (visitOf r.seg (d.sseg r.seg).table r), peak := some peak }) with
        survey.complete := d.survey.complete ||| (1 <<< r.seg)
        survey.clipped := if r.clipped then d.survey.clipped ||| (1 <<< r.seg) else d.survey.clipped }
    ∧ ((d.sseg r.seg).table.feed = false → offers = []) := by
  unfold Dev.visitEnd visitOf
  dsimp only
  refine ⟨_, _, rfl, fun hf => ?_⟩
  unfold surveyOffers
  rw [if_pos (by rw [hf]; rfl)]

/-! ## Cycles (R317, R321) -/

/-- The segment as a cycle finds it. -/
def SurveySeg.cycled (y : SurveySeg) : SurveySeg := match y.next with
  | some t => { y with table := t, next := none, visit := y.visit.map fun v => { v with chans := none } }
  | none => y

theorem Dev.cycleBegin_spec (d : Dev) : ∃ refused evtN evtCount, (d.cycleBegin).survey = { d.survey with
    refused := refused, evtN := evtN, evtCount := evtCount, cycles := (d.survey.cycles + 1) % 2 ^ 32, began := some d.now, complete := 0
    clipped := 0, segs := d.survey.segs.map SurveySeg.cycled } := by
  unfold Dev.cycleBegin
  dsimp only
  split
  · rw [Dev.emit_survey]; exact ⟨_, _, _, rfl⟩
  · exact ⟨_, _, _, rfl⟩

theorem getD_map_lt {α β : Type} {l : List α} {n : Nat} (h : n < l.length) (f : α → β) (z : α) (y : β) :
    (l.map f).getD n y = f (l.getD n z) := by
  rw [List.getD_eq_getElem?_getD, List.getD_eq_getElem?_getD, List.getElem?_map, List.getElem?_eq_getElem h]; rfl

/-! ## Pins (R346, R347) -/

section
variable {s : State} {dt : Nat} {q : Req} {e : Dev}

/-- SLOT_PIN, past its checks. -/
theorem slotPinBody_passes (hb : q.badHeader = false) (hw : e.inWatch = false) (ho : q.src = e.proto.owner) (hl : q.len = 4)
    (h64 : q.p8 0 < 64) (hn : q.p8 0 < e.nSlots) (h3 : q.p8 3 = 0) (ha : q.p8 1 ≤ 2)
    (hbank : (if q.p8 1 = 2 then q.p8 2 = 0xFF else q.p8 2 = 0 ∧ q.ctx = 0xFF))
    (hst : ((q.p8 1 == 2 && ((e.ctx? q.ctx).isNone || e.ctxBusy q.ctx || !((e.ctx? q.ctx).any (·.fg))
        || ((e.ctx? q.ctx).map CtxSt.stdFixed).getD 0xFF == 0xFF || e.instPinned q.ctx (q.p8 0)))
      || (q.p8 1 == 1 && (e.slotFg (q.p8 0) || (e.stagedPin (q.p8 0)).1 == 2)) || (q.p8 1 == 0 && (e.stagedPin (q.p8 0)).1 == 0)) = false)
    (hroom : q.p8 1 = 2 → (e.stagedPin (q.p8 0)).1 ≠ 2 ∧ e.slotFg (q.p8 0) = false ∧ e.pinExceeds q.ctx = false) :
    slotPinBody q e = okWith (u64 e.nextBoundary) { e with chan.pins := e.chan.pins ++
      [({ slot := q.p8 0, action := q.p8 1, ctx := q.ctx, bank := q.p8 2, due := e.nextBoundary } : PinAct)] } := by
  refine checked_of_passes ?_
  simp only [List.mem_cons, List.not_mem_nil, or_false, forall_eq_or_imp, forall_eq]
  refine ⟨by simp [hl], by simp [Nat.not_le.2 hn], ?_, Req.notSystem_owner ho, ?_, ?_⟩
  · by_cases h2 : q.p8 1 = 2
    · rw [if_pos h2] at hbank
      have hsuit : e.bankUnsuited 0xFF (((e.ctx? q.ctx).map CtxSt.stdFixed).getD 0xFF) = false := rfl
      rw [hbank, if_pos h2, hsuit]
      simp [hb, h2, h3]; omega
    · rw [if_neg h2] at hbank
      obtain ⟨hbank, hctx⟩ := hbank
      rw [hbank, if_neg h2]
      simp [hb, h3, hctx]; omega
  · rw [hw, Bool.false_or]; exact hst
  · by_cases h2 : q.p8 1 = 2
    · obtain ⟨hs, hfg, hx⟩ := hroom h2
      simp [h2, hs, hfg, hx]
    · simp [h2]

end

/-- Settles O41: each row by its condition, each command past its checks; SURVEY_VISIT_END without a run and SURVEY_CYCLE_BOUNDARY of a
cycle that has begun only let time pass (DESIGN CHOICE log 7). -/
theorem surveyAndSlots : Obligations.SurveyAndSlots := by
  unfold Obligations.SurveyAndSlots
  intro s dt d
  refine ⟨fun seg ha hf => ?none, fun seg r ha hf => ?visit, fun ha hc hb => ?cycle, fun ha hb => ?begun, fun q e hb hw => ⟨?cfg, fun v h hl h15 hn h1 hc1 hc2 htot hz hv => ?read,
    fun h ho h16 h31 hk ht1 htm hl hs0 hs7 hhb hhbz hd0 h15 hh huse => ?coef, fun h hl h1 h32 h64 hn hz => ?status, fun h ho hl h64 hn h3 => ?pin⟩⟩
  case none =>
    refine (exec_surveyVisitEnd ..).trans (State.runIf_of_eq ha ?_)
    rw [show (s.dev.tick dt).survey.runs.find? (VisitRun.endsAt (s.dev.tick dt).now seg) = none from hf]
  case visit =>
    intro left
    have hf' : (s.dev.tick dt).survey.runs.find? (VisitRun.endsAt (s.dev.tick dt).now seg) = some r := hf
    refine ⟨fun hsp => ?_, fun hsp hlen => ?_⟩
    · refine (exec_surveyVisitEnd ..).trans (State.runIf_of_eq ha ?_)
      rw [hf']
      exact if_pos hsp
    · intro tb bins level chans
      obtain rfl : r.seg = seg := by
        have := List.find?_some hf'
        unfold VisitRun.endsAt at this
        rw [Bool.and_eq_true] at this
        exact beq_iff_eq.1 this.1
      obtain ⟨peak, offers, hv, hoff⟩ := Dev.visitEnd_spec r { d with survey.runs := left }
      have hx : exec (.surveyVisitEnd dt r.seg) s = .next (s.after dt (({ d with survey.runs := left } : Dev).visitEnd r)) := by
        refine (exec_surveyVisitEnd ..).trans (State.runIf_of_eq ha ?_)
        rw [hf']
        exact if_neg (Bool.eq_false_iff.1 hsp)
      rw [hv] at hx
      have hall := offers_sansFb offers { (({ d with survey.runs := left } : Dev).setSseg r.seg fun x =>
          { x with visit := some (visitOf r.seg (d.sseg r.seg).table r), peak := some peak }) with
        survey.complete := d.survey.complete ||| (1 <<< r.seg)
        survey.clipped := if r.clipped then d.survey.clipped ||| (1 <<< r.seg) else d.survey.clipped }
      have hsame := Dev.sseg_setSseg r.seg (fun x => { x with visit := some (visitOf r.seg (d.sseg r.seg).table r), peak := some peak })
        { d with survey.runs := left } hlen
      refine ⟨_, hx, (congrArg (fun d : Dev => d.survey.runs) hall :), ?_, ?_, fun n hn => ?_, (congrArg (fun d : Dev => d.survey.complete) hall :),
        (congrArg Dev.rf hall :), fun hfeed => ?_⟩
      · refine ((congrArg (fun d : Dev => (d.sseg r.seg).visit) hall :).trans (congrArg SurveySeg.visit hsame :)).trans ?_
        have hch : ((List.range tb.count).map fun c => channelPower (r.seg % 4) (tb.start + c * tb.step) tb.width bins).map level = chans :=
          List.map_map
        exact congrArg (fun c => some ({ time := r.start, bins := bins.map fun b => level (b.2, surveyRef)
                                         chans := if tb.count = 0 then none else some c
                                         flags := bit r.clipped + 2 * bit (r.samples.any (·.sat)), exp := r.exp } : Visit)) hch
      · exact ((congrArg (fun d : Dev => (d.sseg r.seg).table) hall :).trans (congrArg SurveySeg.table hsame :))
      · exact (congrArg (fun d : Dev => d.sseg n) hall :).trans (Dev.sseg_setSseg_ne _ _ _ _ hn)
      · rw [hoff hfeed]; rfl
  case cycle =>
    obtain ⟨refused, evtN, evtCount, hs⟩ := d.cycleBegin_spec
    refine ⟨_, (exec_surveyCycleBoundary ..).trans (State.runIf_next _ ?_), (congrArg SurveySt.cycles hs :), (congrArg SurveySt.began hs :),
      (congrArg SurveySt.complete hs :), (congrArg SurveySt.clipped hs :), fun n hn => ?_⟩
    · rw [show (s.dev.tick dt).active = true from ha, show ((s.dev.tick dt).now % cycleTicks == 0) = true from beq_iff_eq.2 hc]
      simpa using hb
    · have hseg : (d.cycleBegin).sseg n = (s.dev.sseg n).cycled := by
        unfold Dev.sseg
        rw [hs]
        exact getD_map_lt hn _ _ _
      refine ⟨fun tb ht => ?_, fun hnone => ?_⟩
      · have hcyc : (s.dev.sseg n).cycled = { s.dev.sseg n with
            table := tb, next := none, visit := (s.dev.sseg n).visit.map fun v => { v with chans := none } } := by
          unfold SurveySeg.cycled; rw [ht]
        exact ⟨(congrArg SurveySeg.table (hseg.trans hcyc) :), (congrArg SurveySeg.next (hseg.trans hcyc) :)⟩
      · refine Eq.trans hseg ?_
        unfold SurveySeg.cycled; rw [hnone]
  case begun =>
    refine (exec_surveyCycleBoundary ..).trans (State.runIf_skip _ ?_)
    rw [show (s.dev.tick dt).survey.began = some (s.dev.tick dt).now from hb]
    simp
  case cfg =>
    intro tb h ho hl h15 hn hstd h1 h4 h3 hs5 hs20 hw5 hw8 hc hfm hfx hsuit hout hfeed
    refine State.command_passes h rfl ?_ (State.admits_fits h rfl (by simp))
    have hf : (tb.feed && tb.count == 0) = false := by
      cases hfd : tb.feed with
      | false => rfl
      | true => simp [hfeed hfd]
    simp only [List.mem_cons, List.not_mem_nil, or_false, forall_eq_or_imp, forall_eq]
    refine ⟨by simp [hl], ?_, ?_, Req.notSystem_owner ho, hw⟩
    · rw [show e.stdUnfitted (q.p8 2) = false from hstd, decide_eq_false (Nat.not_le.2 hn), Bool.and_false]; rfl
    · rw [hb, show stdSuits (q.p8 2) (q.p8 0 % 4) = true from hsuit, hf, show (tb.outside (q.p8 0 % 4)) = false from hout]
      simp only [Bool.or_false, Bool.false_or, Bool.or_eq_false_iff, decide_eq_false_iff_not, Nat.not_lt, Int.not_lt, Bool.not_true,
        bne_eq_false_iff_eq]
      exact ⟨⟨⟨⟨⟨⟨⟨⟨⟨⟨h15, h1⟩, h4⟩, h3⟩, hs5⟩, hs20⟩, hw5⟩, hw8⟩, hc⟩, hfm⟩, hfx⟩
  case read =>
    intro pl hfit
    refine State.command_ok h ?_ hfit
    unfold surveyReadBody
    dsimp only
    rw [hv, h1]
    refine (checked_of_passes ?_).trans ?_
    · simp [hl, hb, hw, hz, Nat.not_lt.2 hc1, Nat.not_lt.2 hc2, Nat.not_lt.2 h15, Nat.not_le.2 hn, Nat.not_lt.2 htot]
    · simp only [pl, h1, if_pos]
  case coef =>
    intro b
    have hk' : min (q.p8 1) 10 = q.p8 1 := Nat.min_eq_left hk
    have hany : ((List.range 10).map fun i => q.ps8 (4 + i)).any (fun v => decide (v < -4) || decide (7 < v)) = false := by
      simp only [List.any_map, List.any_eq_false, List.mem_range, Function.comp_apply, Bool.or_eq_true, decide_eq_true_eq]
      exact fun i hi => by have := hhb i hi; omega
    have hdrop : (((List.range 10).map fun i => q.ps8 (4 + i)).drop (q.p8 1)).any (· != 0) = false := by
      rw [List.any_eq_false]
      intro v hv
      obtain ⟨i, hi, rfl⟩ := List.mem_drop_iff_getElem.1 hv
      rw [List.length_map, List.length_range] at hi
      simpa using hhbz (q.p8 1 + i) (by omega) (by omega)
    have htaps : ((List.range (q.p8 2)).map fun t => q.ps32 (16 + 4 * t)).any (fun v => decide (v < -131072) || decide (131071 < v)) = false := by
      simp only [List.any_map, List.any_eq_false, List.mem_range, Function.comp_apply, Bool.or_eq_true, decide_eq_true_eq]
      exact fun i hi => by have := hh i hi; omega
    refine State.command_ok h (checked_of_passes ?_) (State.admits_fits h rfl (by simp))
    simp only [List.mem_cons, List.not_mem_nil, or_false, forall_eq_or_imp, forall_eq]
    refine ⟨?_, ?_, Req.notSystem_owner ho, by rw [hw, huse]; rfl⟩
    · rw [hk']; simp [Nat.not_lt.2 htm, hl]; omega
    · rw [hany, hdrop, htaps]; simp [hb, Nat.not_lt.2 h16, Nat.not_lt.2 h31, Nat.not_lt.2 hk, Int.not_lt.2 hs0, Int.not_lt.2 hs7, Nat.not_lt.2 hd0, h15]
  case status =>
    intro pl hfit
    refine State.command_passes h rfl ?_ hfit
    simp [hl, hb, hw, hz, Nat.not_lt.2 h32, Nat.not_lt.2 h64]; omega
  case pin =>
    intro b pin
    have fits : q.fits (u64 b) = true := State.admits_fits h rfl (by simp)
    refine ⟨fun h1 h2 hc hfg hs => ?_, fun h1 h2 hc hs => ?_, fun x h1 h2 hx hbusy hfg hstd hip hs hsfg hex => ?_⟩
    · refine (State.command_ok h (slotPinBody_passes hb hw ho hl h64 hn h3 (by omega) ?_ ?_ fun h => absurd h (by omega)) fits).trans ?_
      · rw [if_neg (by omega)]; exact ⟨h2, hc⟩
      · simp [h1, hfg, hs]
      · rw [h1, h2]
    · refine (State.command_ok h (slotPinBody_passes hb hw ho hl h64 hn h3 (by omega) ?_ ?_ fun h => absurd h (by omega)) fits).trans ?_
      · rw [if_neg (by omega)]; exact ⟨h2, hc⟩
      · simp [h1, hs]
      · rw [h1, h2]
    · refine (State.command_ok h (slotPinBody_passes hb hw ho hl h64 hn h3 (by omega) ?_ ?_ fun h => ⟨hs, hsfg, hex⟩) fits).trans ?_
      · rw [if_pos h1]; exact h2
      · simp [h1, hx, hbusy, hfg, hstd, hip]
      · rw [h1, h2]

end Sys2Proof.Machine
end

section
/-!
SUPPORT. What samples on their way through the receiver leave as it was (chapters 12, 14 to 18): a slot's samples change the slots, the
demodulators, the combined services and the buffers of the fabric streams alone.
-/
namespace Sys2Proof.Machine

/-- The device but for the signal path. -/
def Dev.sansSignal (d : Dev) : Dev := { d with chan := {}, dem := {}, comb := {}, cl.streams := [] }

theorem Dev.setUnit_sansSignal (c k : Nat) (f : RdsUnit → RdsUnit) (d : Dev) : (d.setUnit c k f).sansSignal = d.sansSignal := rfl
theorem Dev.setDabInst_sansSignal (n : Nat) (f : DabInst → DabInst) (d : Dev) : (d.setDabInst n f).sansSignal = d.sansSignal := rfl
theorem Dev.branchFeed_sansSignal (v b : Nat) (l : List SlotSample) (d : Dev) : (d.branchFeed v b l).sansSignal = d.sansSignal := rfl
theorem Dev.slipSlot_sansSignal (n : Nat) (k : Int) (d : Dev) : (d.slipSlot n k).sansSignal = d.sansSignal := rfl

/-- The device but for its slots and its combined services. -/
def Dev.sansSlots (d : Dev) : Dev := { d with chan := {}, comb := {} }

theorem Dev.addC_sansSlots (c : Nat) (delta : Int) (d : Dev) : (d.addC c delta).sansSlots = d.sansSlots := by
  have hw : (forAll (d.corrSlots c) (fun n d => d.writeC n ((d.slot n).c + delta)) d).sansSlots = d.sansSlots := by
    refine foldl_keeps Dev.sansSlots _ ?_ _ d
    exact fun _ _ => rfl
  unfold Dev.addC
  dsimp only
  split
  · exact hw
  · exact hw

theorem Dev.addC_sansSignal (c : Nat) (delta : Int) (d : Dev) : (d.addC c delta).sansSignal = d.sansSignal :=
  (congrArg Dev.sansSignal (Dev.addC_sansSlots c delta d) :)

/-! ## Narrowband channels -/

theorem Dev.amPll_sansSignal (c : Nat) (d : Dev) : (d.amPll c).sansSignal = d.sansSignal := by
  unfold Dev.amPll
  dsimp only
  split
  · rfl
  · exact Dev.addC_sansSignal ..

theorem Dev.nbFeed_sansSignal (c n : Nat) (l : List SlotSample) (d : Dev) : (d.nbFeed c n l).2.sansSignal = d.sansSignal := by
  unfold Dev.nbFeed
  dsimp only
  split
  · rfl
  · exact Dev.amPll_sansSignal ..

theorem Dev.rdsFeed_sansSignal (c : Nat) (l : List MpxOut) (d : Dev) : (d.rdsFeed c l).sansSignal = d.sansSignal := by
  unfold Dev.rdsFeed
  refine foldl_keeps Dev.sansSignal _ (fun e k => ?_) _ d
  refine Dev.onlyIf_leaves Dev.sansSignal _ (fun _ => ?_) e
  exact Dev.setUnit_sansSignal ..

/-! ## DRM -/

theorem Dev.drmRun_sansSignal (c : Nat) (d : Dev) : (d.drmRun c).sansSignal = d.sansSignal := by
  unfold Dev.drmRun
  dsimp only
  split
  · rfl
  · split
    · rfl
    · split
      · rfl
      · split
        · rfl
        · split
          · exact Dev.onlyIf_leaves Dev.sansSignal _ (fun _ => Dev.slipSlot_sansSignal ..) _
          · rfl

theorem Dev.drmFeed_sansSignal (c : Nat) (l : List SlotSample) (d : Dev) : (d.drmFeed c l).sansSignal = d.sansSignal :=
  Dev.drmRun_sansSignal ..

/-! ## Ensemble instances -/

theorem Dev.dabWrite_sansSignal (n : Nat) (sum : Int) (count : Nat) (d : Dev) : (d.dabWrite n sum count).sansSignal = d.sansSignal :=
  Dev.addC_sansSignal ..

theorem Dev.dabTrack_sansSignal (n : Nat) (resid : Int) (d : Dev) : (d.dabTrack n resid).sansSignal = d.sansSignal := by
  unfold Dev.dabTrack
  dsimp only
  split
  · exact Dev.dabWrite_sansSignal ..
  · rfl

theorem Dev.dabFreq_sansSignal (n : Nat) (d : Dev) : (d.dabFreq n).sansSignal = d.sansSignal := by
  unfold Dev.dabFreq
  dsimp only
  split
  · rfl
  · rename_i mhz _
    generalize hd : d.setDabInst n _ = d0
    have h0 : d0.sansSignal = d.sansSignal := by rw [← hd]; rfl
    have h1 : (if (d.dabInst n).cWritten then d0.dabTrack n mhz else d0.onlyIf (!d0.instFlagged n) (Dev.dabWrite n mhz 1)).sansSignal
        = d.sansSignal := by
      split
      · exact (Dev.dabTrack_sansSignal ..).trans h0
      · exact (Dev.onlyIf_leaves Dev.sansSignal _ (fun _ => Dev.dabWrite_sansSignal ..) _).trans h0
    split
    · exact h1
    · refine (foldl_keeps Dev.sansSignal _ ?_ _ _).trans h1
      exact fun _ _ => rfl

theorem Dev.dabMove_sansSignal (n : Nat) (d : Dev) : (d.dabMove n).sansSignal = d.sansSignal := by
  unfold Dev.dabMove
  dsimp only
  split
  · rfl
  · split
    · rfl
    · split
      · rfl
      · split <;> rfl

theorem Dev.dabFeed_sansSignal (n : Nat) (l : List SlotSample) (d : Dev) : (d.dabFeed n l).sansSignal = d.sansSignal := by
  unfold Dev.dabFeed Dev.dabTake Dev.dabSettle
  dsimp only
  rw [Dev.dabMove_sansSignal, Dev.onlyIf_leaves Dev.sansSignal _ fun _ => Dev.setDabInst_sansSignal _ _ _, Dev.dabFreq_sansSignal,
    Dev.setDabInst_sansSignal]

/-! ## A slot's samples -/

theorem Dev.ctxFeed_sansSignal (c n : Nat) (l : List SlotSample) (d : Dev) : (d.ctxFeed c n l).sansSignal = d.sansSignal := by
  unfold Dev.ctxFeed
  dsimp only
  split
  · rfl
  · split
    · rfl
    · split
      · exact (Dev.rdsFeed_sansSignal ..).trans (Dev.nbFeed_sansSignal ..)
      · exact Dev.onlyIf_leaves Dev.sansSignal _ (fun _ => Dev.drmFeed_sansSignal ..) _

theorem Dev.instFeed_sansSignal (k : Nat) (l : List SlotSample) (d : Dev) : (d.instFeed k l).sansSignal = d.sansSignal := by
  unfold Dev.instFeed
  split
  · rfl
  · exact Dev.onlyIf_leaves Dev.sansSignal _ (fun _ => Dev.dabFeed_sansSignal ..) _

theorem Dev.slotGives_sansSignal (n : Nat) (l : List SlotSample) (d : Dev) : (d.slotGives n l).sansSignal = d.sansSignal := by
  unfold Dev.slotGives
  split
  · rfl
  · split
    · exact Dev.ctxFeed_sansSignal ..
    · exact Dev.instFeed_sansSignal ..
    · exact Dev.branchFeed_sansSignal ..
    · rfl

theorem Dev.slotTakes_sansSignal (n t : Nat) (l : List SegSample) (d : Dev) : (d.slotTakes n t l).sansSignal = d.sansSignal := by
  unfold Dev.slotTakes
  split
  · rfl
  · exact Dev.slotGives_sansSignal ..

end Sys2Proof.Machine
end

section
/-!
PROOF. The narrowband windows and commands (chapter 14).
-/
namespace Sys2Proof.Machine

/-! ## The decisions (R396, R398, R399) -/

theorem NbRun.stepBw_eq (r : NbRun) (cfg : NbCfg) (aci hi lo : Int) : ∃ bw low, r.stepBw cfg aci hi lo = { r with bw := bw, lowRun := low } := by
  unfold NbRun.stepBw
  dsimp only
  repeat' split
  all_goals exact ⟨_, _, rfl⟩

theorem NbRun.stepEq_eq (r : NbRun) (cfg : NbCfg) (mp on : Nat) : ∃ eq low, r.stepEq cfg mp on = { r with eqOn := eq, eqLow := low } := by
  unfold NbRun.stepEq
  repeat' split
  all_goals exact ⟨_, _, rfl⟩

theorem NbRun.stepLock_eq (r : NbRun) (good bad : Bool) (up down : Nat) :
    ∃ locked run, r.stepLock good bad up down = { r with locked := locked, lockRun := run } := by
  unfold NbRun.stepLock
  dsimp only
  generalize (if r.locked = true then bad else good) = want
  generalize (if r.locked = true then down else up) = need
  repeat' split
  all_goals exact ⟨_, _, rfl⟩

/-- A lock changes after enough windows in a row. -/
theorem NbRun.stepLock_locked (r : NbRun) (good bad : Bool) (up down : Nat) : (r.stepLock good bad up down).locked =
    if r.locked then !(bad && decide (down ≤ r.lockRun + 1)) else good && decide (up ≤ r.lockRun + 1) := by
  unfold NbRun.stepLock
  cases h : r.locked with
  | false =>
    cases good with
    | false => rfl
    | true => by_cases hu : up ≤ r.lockRun + 1 <;> simp [hu]
  | true =>
    cases bad with
    | false => rfl
    | true => by_cases hd : down ≤ r.lockRun + 1 <;> simp [hd]

/-- Settles O42: each clause is one branch of its step. -/
theorem narrowbandWindowDecides : Obligations.NarrowbandWindowDecides := by
  unfold Obligations.NarrowbandWindowDecides
  intro r g aci hi lo mp on good bad up down b q k
  obtain ⟨bw, low, hb⟩ := r.stepBw_eq g aci hi lo
  obtain ⟨eq, elow, hq⟩ := r.stepEq_eq g mp on
  obtain ⟨locked, run, hk⟩ := r.stepLock_eq good bad up down
  refine ⟨fun h => ?fixed, fun h hhi => ?narrow, fun h hlo hhi => ?mid, fun h hlo hhi hr => ?low, fun h hlo hhi hr => ?widen, fun h => ?eqSet,
    fun h ho => ?eqOff, fun h ho hm => ?eqHigh, fun h ho hm hl => ?eqLow, fun h ho hm hl => ?eqDrop, fun h hg hu => ?locks, fun h hg => ?open_,
    fun h hb hd => ?unlocks, fun h hb => ?stays, (congrArg NbRun.locked hb :), (congrArg NbRun.eqOn hb :), (congrArg NbRun.bw hq :),
    (congrArg NbRun.locked hq :), (congrArg NbRun.bw hk :), (congrArg NbRun.eqOn hk :)⟩
  case fixed => exact (congrArg NbRun.bw (if_pos h) :)
  case narrow => unfold b NbRun.stepBw; rw [if_neg h, if_pos hhi]; exact ⟨rfl, rfl⟩
  case mid => unfold b NbRun.stepBw; rw [if_neg h, if_neg (Int.not_lt.2 hhi), if_neg (Int.not_lt.2 hlo)]; exact ⟨rfl, rfl⟩
  case low => unfold b NbRun.stepBw; rw [if_neg h, if_neg (Int.not_lt.2 hhi), if_pos hlo, if_neg (Nat.not_le.2 hr)]; exact ⟨rfl, rfl⟩
  case widen => unfold b NbRun.stepBw; rw [if_neg h, if_neg (Int.not_lt.2 hhi), if_pos hlo, if_pos hr]; exact ⟨rfl, rfl⟩
  case eqSet => unfold q NbRun.stepEq; rw [if_pos (by simpa using h)]
  case eqOff =>
    unfold q NbRun.stepEq
    rw [if_neg (by simpa using h), if_pos (by rw [ho]; rfl)]
    split
    · exact (decide_eq_true ‹_›).symm
    · rw [ho]; exact (decide_eq_false ‹_›).symm
  case eqHigh =>
    unfold q NbRun.stepEq
    rw [if_neg (by simpa using h), if_neg (by rw [ho]; decide), if_neg (Nat.not_lt.2 hm)]; exact ⟨ho, rfl⟩
  case eqLow =>
    unfold q NbRun.stepEq
    rw [if_neg (by simpa using h), if_neg (by rw [ho]; decide), if_pos hm, if_neg (Nat.not_le.2 hl)]; exact ⟨ho, rfl⟩
  case eqDrop =>
    unfold q NbRun.stepEq
    rw [if_neg (by simpa using h), if_neg (by rw [ho]; decide), if_pos hm, if_pos hl]
  case locks => rw [NbRun.stepLock_locked, h, hg, decide_eq_true hu]; rfl
  case open_ =>
    rw [NbRun.stepLock_locked, h]
    obtain h | h := hg
    · rw [h]; rfl
    · rw [decide_eq_false (Nat.not_le.2 h), Bool.and_false]; rfl
  case unlocks => rw [NbRun.stepLock_locked, h, hb, decide_eq_true hd]; rfl
  case stays =>
    rw [NbRun.stepLock_locked, h]
    obtain h | h := hb
    · rw [h]; rfl
    · rw [decide_eq_false (Nat.not_le.2 h), Bool.and_false]; rfl

/-! ## What a window leaves (R408) -/

/-- What the steps after a window's decisions leave as it was. -/
def Dev.nbKept (c : Nat) (d : Dev) : NbCfg × NbRun × RfSt × List QPkt :=
  ((d.nb c).cfg, { (d.nb c).run with afc := [] }, d.rf, d.proto.q0)

theorem Dev.nbKept_of_sansSlots {c : Nat} {d e : Dev} (h : d.sansSlots = e.sansSlots) : d.nbKept c = e.nbKept c :=
  (congrArg (Dev.nbKept c) h :)

theorem Dev.fmAfc_nbKept (c : Nat) (w : NbWin) (d : Dev) : (d.fmAfc c w).nbKept c = d.nbKept c := by
  have hset (l : List Int) : (d.setNb c fun x => { x with run.afc := l }).nbKept c = d.nbKept c := by
    unfold Dev.nbKept; rw [Dev.nb_setNb]; rfl
  unfold Dev.fmAfc
  split
  · exact hset _
  · dsimp only
    split
    · exact (Dev.nbKept_of_sansSlots (Dev.addC_sansSlots ..)).trans (hset _)
    · exact hset _

theorem Dev.setCtx_nbKept (c k : Nat) (f : CtxSt → CtxSt) (d : Dev) : (d.setCtx k f).nbKept c = d.nbKept c := by
  unfold Dev.setCtx
  split <;> rfl

theorem Dev.nbRelease_nbKept (c : Nat) (d : Dev) : (d.nbRelease c).nbKept c = d.nbKept c := by
  unfold Dev.nbRelease
  split
  · split
    · refine (congrArg (Dev.nbKept c) (Dev.audioSync_sansAudio _) :).trans ?_
      refine (Dev.setCtx_nbKept ..).trans ?_
      unfold Dev.nbKept
      rw [Dev.nb_setNb]
      rfl
    · rfl
  · rfl

/-- The device as a window finds it, what the window measured over. -/
def Dev.nbMeasured (c : Nat) (w : NbWin) (d : Dev) : Dev :=
  let std := d.stdOf c
  d.setNb c fun x => { x with
    props := d.nbProps c
    run.eqResets := if std = 0 then satAdd 255 x.run.eqResets x.dsp.resets else x.run.eqResets
    run.suspended := if std = 1 && w.stopped then satAdd 0xFFFF x.run.suspended 1 else x.run.suspended
    dsp := x.dsp.nextWindow }

/-- The decisions of a valid window. -/
def Dev.nbDecides (c : Nat) (w : NbWin) (d : Dev) : NbRun :=
  let x := d.nb c
  let auto := x.cfgAt != some d.now
  if d.stdOf c = 0 then d.fmDecide c auto w x else d.amDecide c auto w x

theorem Dev.nbWindowEnd_invalid {c : Nat} {d : Dev} {w : NbWin} (hw : (d.nb c).dsp.win (d.stdOf c) d.now (d.nb c).run.locked = w)
    (h : w.valid = false) : (d.nbWindowEnd c).nbKept c = (d.nbMeasured c w).nbKept c := by
  unfold Dev.nbWindowEnd
  dsimp only
  rw [hw, if_pos (by rw [h]; rfl)]
  unfold Dev.nbKept
  rw [Dev.nb_setNb]
  rfl

theorem Dev.nbWindowEnd_valid {c : Nat} {d : Dev} {w : NbWin} (hw : (d.nb c).dsp.win (d.stdOf c) d.now (d.nb c).run.locked = w)
    (h : w.valid = true) : ∃ off, (d.nbWindowEnd c).nbKept c = (((d.nbMeasured c w).nb c).cfg,
      { (d.nbMeasured c w).nbDecides c w with last := some (w, d.now % 2 ^ 32), lastOff := off, afc := [] }, d.rf, d.proto.q0) := by
  unfold Dev.nbWindowEnd
  dsimp only
  rw [hw, if_neg (by rw [h]; decide)]
  refine ⟨(d.nbMeasured c w).offsetHz c w.freq, (Dev.nbRelease_nbKept ..).trans ?_⟩
  refine Eq.trans (b := Dev.nbKept c (Dev.onlyIf _ _ _)) rfl ?_
  refine (Dev.onlyIf_leaves (Dev.nbKept c) _ (fun d => Dev.fmAfc_nbKept c w d) _).trans ?_
  unfold Dev.nbKept
  rw [Dev.nb_setNb]
  rfl

theorem Dev.nb_nbMeasured (c : Nat) (w : NbWin) (d : Dev) : ∃ resets suspended, ((d.nbMeasured c w).nb c).run =
      { (d.nb c).run with eqResets := resets, suspended := suspended }
    ∧ ((d.nbMeasured c w).nb c).cfg = (d.nb c).cfg ∧ ((d.nbMeasured c w).nb c).cfgAt = (d.nb c).cfgAt := by
  unfold Dev.nbMeasured
  dsimp only
  rw [Dev.nb_setNb]
  exact ⟨_, _, rfl, rfl, rfl⟩

/-- The bandwidth does not depend on what is counted. -/
theorem NbRun.stepBw_counts (r : NbRun) (resets suspended : Nat) (cfg : NbCfg) (aci hi lo : Int) :
    (({ r with eqResets := resets, suspended := suspended } : NbRun).stepBw cfg aci hi lo).bw = (r.stepBw cfg aci hi lo).bw := by
  unfold NbRun.stepBw
  dsimp only
  repeat' split
  all_goals rfl

theorem NbRun.stepEq_bw (r : NbRun) (cfg : NbCfg) (mp on : Nat) : (r.stepEq cfg mp on).bw = r.bw := by
  obtain ⟨eq, low, h⟩ := r.stepEq_eq cfg mp on
  rw [h]

theorem NbRun.stepLock_bw (r : NbRun) (good bad : Bool) (up down : Nat) :
    (r.stepLock good bad up down).bw = r.bw ∧ (r.stepLock good bad up down).eqOn = r.eqOn := by
  obtain ⟨locked, run, h⟩ := r.stepLock_eq good bad up down
  rw [h]; exact ⟨rfl, rfl⟩

/-- In auto mode FM's bandwidth follows the window. -/
theorem Dev.fmDecide_bw (d : Dev) (c : Nat) (w : NbWin) (x : NbSt) :
    (d.fmDecide c true w x).bw = (x.run.stepBw x.cfg w.aci (10 * d.ctxProp c P.fmAciHi) (10 * d.ctxProp c P.fmAciLo)).bw := by
  unfold Dev.fmDecide
  dsimp only
  rw [(NbRun.stepLock_bw ..).1]
  split
  · exact NbRun.stepEq_bw ..
  · rfl

/-- Where the host's setting takes effect the automatic steps are abandoned (R414). -/
theorem Dev.fmDecide_host (d : Dev) (c : Nat) (w : NbWin) (x : NbSt) :
    (d.fmDecide c false w x).bw = x.run.bw ∧ (d.fmDecide c false w x).eqOn = x.run.eqOn := NbRun.stepLock_bw ..

theorem Dev.amDecide_host (d : Dev) (c : Nat) (w : NbWin) (x : NbSt) :
    (d.amDecide c false w x).bw = x.run.bw ∧ (d.amDecide c false w x).eqOn = x.run.eqOn := by
  unfold Dev.amDecide
  simp only [Bool.false_eq_true, if_false, Bool.not_false, if_true]
  split
  · exact NbRun.stepLock_bw ..
  · exact ⟨rfl, rfl⟩

theorem Dev.nbDecides_host {c : Nat} {w : NbWin} {d : Dev} (h : (d.nb c).cfgAt = some d.now) :
    (d.nbDecides c w).bw = (d.nb c).run.bw ∧ (d.nbDecides c w).eqOn = (d.nb c).run.eqOn := by
  unfold Dev.nbDecides
  dsimp only
  rw [show ((d.nb c).cfgAt != some d.now) = false by rw [h]; simp]
  split
  · exact Dev.fmDecide_host ..
  · exact Dev.amDecide_host ..

/-! ## The search of AM (R404) -/

/-- The correction of the slot of a context that anchors no combined service. -/
theorem Dev.addC_slot {c n : Nat} {delta : Int} {d : Dev} (hs : d.slotOf c = some n) (hv : d.serviceOf c = none) :
    d.addC c delta = d.writeC n ((d.slot n).c + delta) := by
  unfold Dev.addC Dev.corrSlots
  rw [hs, hv]
  rfl

/-! ## The metrics (R415) -/

theorem nbWindowBytes_length (std : Nat) (w : NbWin) (x : NbSt) (t : Nat) : (nbWindowBytes std w x t).length = 28 := by
  unfold nbWindowBytes
  dsimp only
  have husn : (if std = 0 then s16 w.usn else u16 0x8000).length = 2 := by split <;> simp only [s16_length, u16_length]
  cases w.cnr <;>
    simp only [List.length_append, u8_length, s16_length, u16_length, s32_length, u32_length, husn]

theorem Dev.nbPayload_length (d : Dev) (c : Nat) : (d.nbPayload c).length = 48 := by
  unfold Dev.nbPayload
  dsimp only
  generalize (if ((d.ctx? c).bind (·.nb)).isSome = true then (d.nb c).run.last else none) = last
  cases last <;> cases tabGet d.dem.checks c <;>
    simp only [List.length_append, u8_length, s16_length, u16_length, u32_length, zeros_length, nbWindowBytes_length]

theorem Dev.setNb_congr {c : Nat} {f g : NbSt → NbSt} {d : Dev} (h : f (d.nb c) = g (d.nb c)) : d.setNb c f = d.setNb c g := by
  unfold Dev.setNb; rw [h]

/-- Settles O43: a window by whether it is valid, the search by its carrier, the commands past their checks. -/
theorem narrowbandRows : Obligations.NarrowbandRows := by
  unfold Obligations.NarrowbandRows
  intro s dt d
  have searchDone (c : Nat) (ha : s.dev.active = true) (hr : s.dev.nbRuns c = true) (hstd : s.dev.stdOf c = 1)
      (hco : (s.dev.nb c).run.coarse = false) (hfl : d.ctxFlagged c = false) (hlen : (s.dev.nb c).dsp.search.length = 256) :
      ((s.dev.tick dt).active && (s.dev.tick dt).nbRuns c && (s.dev.tick dt).stdOf c == 1 && !((s.dev.tick dt).nb c).run.coarse
        && ((s.dev.tick dt).nb c).dsp.search.length == 256 && !(s.dev.tick dt).ctxFlagged c) = true := by
    rw [show (s.dev.tick dt).active = true from ha, show (s.dev.tick dt).nbRuns c = true from hr, show (s.dev.tick dt).stdOf c = 1 from hstd,
      show ((s.dev.tick dt).nb c).run.coarse = false from hco, show ((s.dev.tick dt).nb c).dsp.search.length = 256 from hlen, hfl]
    rfl
  refine ⟨fun c x ha hr hx hd hm => ?window, fun c ha hr hstd hco hfl hlen => ⟨fun hn => ?none, fun n f hf hs hv hlt hu => ?found⟩,
    fun q e x hb hw hx hcl hstd => ⟨fun h ho hl hbad => ?cfg, fun h hl => ⟨?metrics, e.nbPayload_length q.ctx⟩⟩⟩
  case window =>
    intro e w
    have hrun : exec (.nbWindowEnd dt c) s = .next (s.after dt (e.nbWindowEnd c)) := by
      refine (exec_nbWindowEnd ..).trans (State.runIf_next _ ?_)
      rw [show (s.dev.tick dt).active = true from ha, show (s.dev.tick dt).nbRuns c = true from hr, show (s.dev.tick dt).ctx? c = some x from hx]
      simp only [Bool.true_and, Option.any_some, Bool.and_eq_true, decide_eq_true_eq, beq_iff_eq]
      exact ⟨hd, hm⟩
    obtain ⟨resets, suspended, hmr, hmc, hma⟩ := Dev.nb_nbMeasured c w e
    have hnow : e.now = d.now := by
      unfold e
      split
      · exact (congrArg Dev.now (Dev.slotTakes_sansSignal ..) :)
      · rfl
    have hw : (e.nb c).dsp.win (e.stdOf c) e.now (e.nb c).run.locked = w := by rw [hnow]
    refine ⟨_, hrun, ?_⟩
    cases hv : w.valid with
    | false =>
      have hk := Dev.nbWindowEnd_invalid hw hv
      have hr : { ((e.nbWindowEnd c).nb c).run with afc := [] } = { ((e.nbMeasured c w).nb c).run with afc := [] } :=
        (congrArg (·.2.1) hk :)
      rw [hmr] at hr
      exact ⟨(congrArg (·.1) hk :).trans hmc, (congrArg (·.2.2.1) hk :), (congrArg (·.2.2.2) hk :),
        fun _ => ⟨(congrArg NbRun.last hr :), (congrArg NbRun.bw hr :), (congrArg NbRun.eqOn hr :), (congrArg NbRun.locked hr :)⟩, nofun⟩
    | true =>
      obtain ⟨off, hk⟩ := Dev.nbWindowEnd_valid hw hv
      have hr : { ((e.nbWindowEnd c).nb c).run with afc := [] } = { (e.nbMeasured c w).nbDecides c w with
          last := some (w, e.now % 2 ^ 32), lastOff := off, afc := [] } := (congrArg (·.2.1) hk :)
      refine ⟨(congrArg (·.1) hk :).trans hmc, (congrArg (·.2.2.1) hk :), (congrArg (·.2.2.2) hk :), nofun,
        fun _ => ⟨by rw [← hnow]; exact (congrArg NbRun.last hr :), fun h0 hcfg => ?_, fun hcfg => ?_⟩⟩
      · refine (congrArg NbRun.bw hr :).trans ?_
        have hauto : (((e.nbMeasured c w).nb c).cfgAt != some (e.nbMeasured c w).now) = true := by
          rw [hma, show (e.nbMeasured c w).now = d.now from hnow]; simpa using hcfg
        show ((e.nbMeasured c w).nbDecides c w).bw = _
        unfold Dev.nbDecides
        dsimp only
        rw [if_pos (show (e.nbMeasured c w).stdOf c = 0 from h0), hauto, Dev.fmDecide_bw, hmr, hmc]
        exact NbRun.stepBw_counts ..
      · have hhost := Dev.nbDecides_host (w := w) (d := e.nbMeasured c w) (c := c) (by rw [hma, hcfg, ← hnow]; rfl)
        rw [hmr] at hhost
        exact ⟨(congrArg NbRun.bw hr :).trans hhost.1, (congrArg NbRun.eqOn hr :).trans hhost.2⟩
  case none =>
    refine (exec_amCoarseSearchDone ..).trans (State.runIf_of_eq (searchDone c ha hr hstd hco hfl hlen) ?_)
    rw [show coarseOffset ((s.dev.tick dt).nb c).dsp.search = none from hn]
  case found =>
    let e := (d.setNb c fun x => { x with dsp := { x.dsp with search := [], pll := {} } }).setNb c fun x => { x with run.coarse := true }
    have hadd : e.addC c (corrOf f 1) = e.writeC n ((d.slot n).c + corrOf f 1) := Dev.addC_slot hs hv
    have hslot : (e.writeC n ((d.slot n).c + corrOf f 1)).slot n = _ := Dev.slot_setSlot n _ e hlt
    refine ⟨_, (exec_amCoarseSearchDone ..).trans (State.runIf_of_eq (searchDone c ha hr hstd hco hfl hlen) (e := e.writeC n ((d.slot n).c + corrOf f 1)) ?_), ?_, ?_, ?_,
      fun m hm => ?_⟩
    · rw [show coarseOffset ((s.dev.tick dt).nb c).dsp.search = some f from hf]
      exact hadd
    · show (e.nb c).run.coarse = true
      unfold e; rw [Dev.nb_setNb]
    · show (e.nb c).dsp.search = []
      unfold e; rw [Dev.nb_setNb, Dev.nb_setNb]
    · refine (congrArg SlotSt.c hslot :).trans ?_
      exact (congrArg SlotSt.c (if_pos hu) :)
    · exact Dev.slot_setSlot_ne _ _ _ _ hm
  case cfg =>
    refine State.command_ok h ?_ (State.admits_fits h rfl (by simp))
    unfold nbCfgBody
    refine (checked_of_passes ?_).trans ?_
    · simp [hl, hb, hbad, Req.notCtxOwner_open hx, ho, Dev.nbWrong, hw, Dev.ctxBusy_open hx, hcl, Nat.not_lt.2 hstd]
    · refine congrArg (okWith _) (Dev.setNb_congr ?_)
      cases (e.nb q.ctx).next <;> rfl
  case metrics =>
    refine State.command_passes h rfl ?_ (State.admits_fits h rfl (by rw [Dev.nbPayload_length]; omega))
    simp [hl, hb, Dev.nbWrong, hw, Dev.ctxBusy_open hx, hcl, Nat.not_lt.2 hstd]

end Sys2Proof.Machine
end

section
/-!
PROOF. A reply too long for the fabric, and the rows of RDS (chapter 15).
-/
namespace Sys2Proof.Machine

/-- The bytes of the newest reply that waits for the fabric are those of the reply just made. -/
theorem Dev.reply_fabricOut {q : Req} {dev : Nat} (hs : q.src = .fabric dev) (st : Status) (pl : List Byte) (d : Dev) :
    ((d.reply q st pl).proto.fabricOut.map fun r => r.2.2.length).getLast? = some (14 + pl.length) := by
  have hl := (replyBytes_spec q.opcode q.tag q.ctx q.seq 0 st pl).2.1
  unfold Dev.reply Dev.sendReply
  rw [hs]
  simp [hl]

/-- No command answers OK with a payload that the fabric cannot carry (23 R646): its sender reads BAD_LENGTH. -/
theorem State.command_oversized {s : State} {dt op dev : Nat} {q : Req} {e d : Dev} {pl : List Byte} {body : Body}
    (h : s.admits dt op = some (q, e)) (hs : q.src = .fabric dev) (hb : body q e = okWith pl d) (hl : fabricPayload < pl.length) :
    s.command dt op body ≠ .next (s.answered dt q .ok pl d) := by
  have hf : (okWith pl d).forFabric q e = { status := .badLength, payload := [], dev := e } :=
    if_pos (by simp [hs, Iface.isFabric, okWith, hl])
  rw [State.command_admitted body h, hb, hf]
  intro heq
  injection heq with ht
  have hout := congrArg (fun t : State => (t.dev.proto.fabricOut.map fun r => r.2.2.length).getLast?) ht
  have hshort : ((e.reply q .badLength []).proto.fabricOut.map fun r => r.2.2.length).getLast? = some (14 + pl.length) :=
    (show _ = _ from hout).trans (Dev.reply_fabricOut hs .ok pl d)
  rw [Dev.reply_fabricOut hs] at hshort
  injection hshort with hlen
  rw [List.length_nil] at hlen
  exact absurd hlen (by omega)

/-- RDS_STATUS on context 3, with its CRC. -/
def rdsStatusPacket : List Byte :=
  let b := u16 0x1004 ++ u8 1 ++ u8 0 ++ u8 3 ++ u8 0 ++ u16 0
  b ++ u16 (crc16 b)

/-- A part without a key, its fuse pin high, that has an FM context open and an RDS_STATUS of fabric device 1 before it. Its RDS state counts
500 stream units; no run reaches that, the device only ever has four. -/
def manyRdsUnits : State :=
  { dev := {
      pwr := { resetN := true, stage := .done, mode := .active, causes := [], sampleStraps := false, fuseEn := true }
      clk := { pllA := .locked }
      proto := { q5 := [{ src := .fabric 1, doneAt := 0, bytes := rdsStatusPacket }] }
      trav := { ctxs := [(3, { kind := 1, fg := true, prio := 3, owner := .spi, since := 0 })] }
      dem := { rds := [(3, { units := List.replicate 500 {} })] } }
    pending := [] }

/-- What RDS_STATUS finds in that state once its packet is admitted. -/
theorem manyRdsUnits_admits : (manyRdsUnits.admits 0 0x1004).any (fun r => r.1.src == .fabric 1 && r.1.len == 0 && r.1.ctx == 3
    && !r.1.badHeader && !r.2.inWatch && !r.2.rdsWrong 3 && (r.2.rds 3).units.length == 500
    && r.2.ctx? 3 == some { kind := 1, fg := true, prio := 3, owner := .spi, since := 0 }) = true := by decide +kernel

/-- RDS_STATUS answers at least one byte for every stream unit. -/
theorem Dev.rdsPayload_units (d : Dev) (c : Nat) : (d.rds c).units.length ≤ (d.rdsPayload c).length := by
  have hu : ((d.rds c).units.flatMap fun u => u8 u.bler).length = (d.rds c).units.length * 1 := flatMap_length_const _ fun u => by simp
  unfold Dev.rdsPayload
  simp only [List.length_append, hu]
  omega

/-- Refutes O44: its clause on RDS_STATUS lets the payload be of any length and the sender be the fabric. Where more stream units are counted
than a device has, the payload exceeds the 434 bytes that a REMOTE_REPLY carries, and the row answers BAD_LENGTH (23 R646), not OK. -/
theorem not_rdsRows : ¬ Obligations.RdsRows := by
  unfold Obligations.RdsRows
  intro h
  obtain ⟨⟨q, e⟩, hadm, hr⟩ := (Option.any_eq_true _ _).1 manyRdsUnits_admits
  simp only [Bool.and_eq_true, beq_iff_eq, Bool.not_eq_true'] at hr
  obtain ⟨⟨⟨⟨⟨⟨⟨hsrc, hlen⟩, hq⟩, hbad⟩, hwatch⟩, hwrong⟩, hunits⟩, hctx⟩ := hr
  have hst := ((h.1 manyRdsUnits 0 3 0).2 q e _ hbad hwatch (hq ▸ hctx) rfl rfl).2 hadm hlen
  refine State.command_oversized hadm hsrc (d := e) (pl := e.rdsPayload q.ctx) ?_ ?_ ((exec_rdsStatus ..).symm.trans hst)
  · exact checked_of_passes (l := [(q.len != 0, .badLength), (q.badHeader, .badParam), (e.rdsWrong q.ctx, .wrongState)])
      (by simp [hlen, hbad, hq, hwrong])
  · have := e.rdsPayload_units 3
    rw [hq, fabricPayload]
    omega

end Sys2Proof.Machine
end

section
/-!
PROOF. What the Field Book never removes (19 R532-R534, R538).
-/
namespace Sys2Proof.Machine

/-! ## The sweep (R532) -/

/-- The sweep comes to the entry now. -/
def Dev.sweeps (d : Dev) (x : Nat × FbEntry) : Bool := d.fb.sweep ≤ x.1 && x.1 < d.fb.sweep + 128
/-- The sweep frees the entry. -/
def Dev.sweepFrees (d : Dev) (x : Nat × FbEntry) : Bool :=
  d.sweeps x && !x.2.pinned && !x.2.tuned && 1000 * d.propN P.fbExpire < x.2.age d.now
/-- What the sweep makes of an entry that it keeps. -/
def Dev.sweepMarks (d : Dev) (x : Nat × FbEntry) : Nat × FbEntry :=
  if d.sweeps x && 1000 * d.propN P.fbStale < x.2.age d.now then (x.1, { x.2 with stale := true }) else x

theorem Dev.fbSweep_entries (d : Dev) : d.fbSweep.fb.entries = (d.fb.entries.filter fun x => !d.sweepFrees x).map d.sweepMarks := rfl

theorem Dev.sweepMarks_same (d : Dev) (x : Nat × FbEntry) :
    (d.sweepMarks x).1 = x.1 ∧ (d.sweepMarks x).2.id = x.2.id ∧ (d.sweepMarks x).2.freq = x.2.freq ∧ (d.sweepMarks x).2.pinned = x.2.pinned := by
  unfold Dev.sweepMarks
  split <;> exact ⟨rfl, rfl, rfl, rfl⟩

theorem Dev.sweeps_elsewhere {d : Dev} {x : Nat × FbEntry} (h : x.1 < d.fb.sweep ∨ d.fb.sweep + 128 ≤ x.1) : d.sweeps x = false := by
  unfold Dev.sweeps
  rcases h with h | h
  · simp [Nat.not_le.2 h]
  · simp [Nat.not_lt.2 h]

/-- What the sweep does not free stands after it, as marked. -/
theorem Dev.mem_fbSweep {d : Dev} {x : Nat × FbEntry} (hx : x ∈ d.fb.entries) (h : d.sweepFrees x = false) :
    d.sweepMarks x ∈ d.fbSweep.fb.entries := by
  rw [Dev.fbSweep_entries]
  exact List.mem_map_of_mem (List.mem_filter.2 ⟨hx, by rw [h]; rfl⟩)

/-! ## Replacement and FB_DROP (R533, R538) -/

/-- The victim of a replacement is an entry that an offer may replace. -/
theorem Dev.fbVictim_mem {d : Dev} {id h : Nat} (hv : d.fbVictim id = some h) :
    ∃ y, (h, y) ∈ d.fb.entries ∧ y.pinned = false ∧ y.tuned = false ∧ ¬ (id = 0 ∧ y.id ≠ 0) := by
  unfold Dev.fbVictim at hv
  obtain ⟨⟨k, y⟩, hm, rfl⟩ := Option.map_eq_some_iff.1 hv
  obtain ⟨hy, hok⟩ := List.mem_filter.1 ((minBy_spec _ _).2 _ hm).1
  simp only [Bool.and_eq_true, Bool.not_eq_true'] at hok
  obtain ⟨⟨⟨hp, ht⟩, -⟩, hid⟩ := hok
  exact ⟨y, hy, hp, ht, by simpa using hid⟩

/-- Settles O49: the sweep keeps what it does not free, and the victim of a replacement is the entry of its handle. -/
theorem fieldBookKeeps : Obligations.FieldBookKeeps := by
  unfold Obligations.FieldBookKeeps
  intro d
  refine ⟨fun x hx hk => ⟨d.sweepMarks x, Dev.mem_fbSweep hx ?_, d.sweepMarks_same x⟩, fun x hx hk => ?_, fun id h x hv hx hn => ?_,
    fun h x => ?_, fun h x => ?_⟩
  · unfold Dev.sweepFrees
    rcases hk with hp | ht | he
    · simp [hp]
    · simp [ht]
    · simp [Dev.sweeps_elsewhere he]
  · have hs := Dev.sweeps_elsewhere hk
    have hm : d.sweepMarks x = x := by unfold Dev.sweepMarks; simp [hs]
    exact hm ▸ Dev.mem_fbSweep hx (by unfold Dev.sweepFrees; simp [hs])
  · obtain ⟨y, hy, hfree⟩ := Dev.fbVictim_mem hv
    obtain rfl : x = y := congrArg Prod.snd (List.inj_on_of_nodup_map hn hx hy rfl)
    exact hfree
  · simp [Dev.fbDrop]
  · simp [Dev.fbDrop]

end Sys2Proof.Machine
end

section
/-!
PROOF. The commands of the combiner, and the row and commands of the Field Book (chapters 18 and 19).
-/
namespace Sys2Proof.Machine

/-! ## Fields that are zero -/

theorem slice_slice (l : List Byte) {a b m n : Nat} (h : b + m ≤ n) : slice (slice l a n) b m = slice l (a + b) m := by
  unfold slice
  rw [List.drop_take, List.take_take, List.drop_drop, Nat.min_eq_left (by omega)]

/-- Part of a field that is zero is zero. -/
theorem zeroAt_part {l : List Byte} {a n : Nat} (h : zeroAt l a n = true) (b m : Nat) (hb : b + m ≤ n) : zeroAt l (a + b) m = true := by
  unfold zeroAt at h ⊢
  rw [← slice_slice l hb]
  rw [List.all_eq_true] at h ⊢
  exact fun x hx => h x (List.mem_of_mem_drop (List.mem_of_mem_take hx))

theorem leNat_zero {l : List Byte} (h : l.all (· == 0) = true) : leNat l = 0 := by
  induction l with
  | nil => rfl
  | cons b l ih =>
    obtain ⟨hb, hl⟩ := (Bool.and_eq_true _ _).mp h
    rw [leNat, ih hl, show b = 0 by simpa using hb]
    rfl

/-- A field that is zero reads 0. -/
theorem at32_zeroAt {l : List Byte} {n : Nat} (h : zeroAt l n 4 = true) : at32 l n = 0 := leNat_zero h

/-! ## Commands -/

theorem hasRepeat_of_nodup {l : List Nat} (h : l.Nodup) : hasRepeat l = false := by
  induction l with
  | nil => rfl
  | cons a l ih =>
    obtain ⟨ha, hl⟩ := List.nodup_cons.1 h
    rw [hasRepeat, ih hl]
    simp [ha]

/-- The checks before it passing, the first that fails is the first of the rest. -/
theorem firstFailure_append {l r : List (Bool × Status)} {st : Status} (hl : ∀ c ∈ l, c.1 = false) (hr : firstFailure r = some st) :
    firstFailure (l ++ r) = some st := by
  induction l with
  | nil => exact hr
  | cons c l ih =>
    rw [List.cons_append, firstFailure_cons, hl c (List.mem_cons_self ..)]
    exact ih fun c hc => hl c (List.mem_cons_of_mem _ hc)

/-- FB_PUT whose fields are in range: the outcome on the Field Book as the next boundary will leave it decides (log 40). -/
theorem fbPutBody_checked {q : Req} {e : Dev} (hb : q.badHeader = false) (hw : e.inWatch = false) (ho : q.src = e.proto.owner) {b : List Byte}
    (hbe : slice q.params 4 32 = b) (hl : q.len = 36) (hi : e.imageUnfitted b = false) (h0 : q.p16 0 ≤ 8191 ∨ q.p16 0 = 0xFFFF)
    (h2 : q.p8 2 ≤ 2) (h3 : q.p8 3 = 0) (hz : putZeroBad b = false) (hf : fbFieldBad b = false) (hk : at16 b 12 = 0 ∨ 0x8000 ≤ at16 b 12) :
    ∃ l, (∀ c ∈ l, c.1 = false) ∧ let r := e.fbStaged.fbPut (q.p16 0) (q.p8 2) b q.src.fbBit
      fbPutBody q e = checked e (l ++ [(r.1 == .wrongState, .wrongState), (r.1 == .noPages, .noPages)])
        (okWith (u16 r.2.1 ++ u8 r.2.2.1 ++ u8 0) (e.fbAccept (.put (q.p16 0) (q.p8 2) b q.src.fbBit))) := by
  subst hbe
  have hrange : (decide (8191 < q.p16 0) && q.p16 0 != 0xFFFF) = false := by
    rcases h0 with h | h
    · simp [Nat.not_lt.2 h]
    · simp [h]
  have hlink : (at16 (slice q.params 4 32) 12 != 0 && decide (at16 (slice q.params 4 32) 12 < 0x8000)) = false := by
    rcases hk with h | h
    · simp [h]
    · simp [Nat.not_lt.2 h]
  refine ⟨[(q.len != 36, .badLength), (e.imageUnfitted (slice q.params 4 32), .notFitted),
    (q.badHeader || (8191 < q.p16 0 && q.p16 0 != 0xFFFF) || 2 < q.p8 2 || q.p8 3 != 0 || putZeroBad (slice q.params 4 32)
      || fbFieldBad (slice q.params 4 32) || (at16 (slice q.params 4 32) 12 != 0 && at16 (slice q.params 4 32) 12 < 0x8000), .badParam),
    (q.notSystem e, .notOwner)], ?_, ?_⟩
  · simp [hl, hi, hb, hrange, Nat.not_lt.2 h2, h3, hz, hf, hlink, Req.notSystem_owner ho]
  · dsimp only
    unfold fbPutBody
    simp only [hw, Bool.false_or]
    rfl

/-- Settles O48: each command by its checks, all of which pass, and its result; FB_CHANGED_REPORT by the two conditions of its event. That the
report of another time only lets its time pass is log 7, that FB_PUT, FB_DROP and FB_IMPORT are judged on the Field Book as the next boundary
will leave it log 40. -/
theorem combinerAndFieldBook : Obligations.CombinerAndFieldBook := by
  unfold Obligations.CombinerAndFieldBook
  intro s dt
  refine ⟨fun hact => ⟨fun hno => ?notChanged, fun t0 ht0 hlt => ?early, fun hn hch hev => ?report⟩, fun q e hb hw =>
    ⟨fun h hl h0 h1 h2 h4 h4' hz hf => ?query, fun h hl h0 h2 h2' h3 hf => ?exportPage, fun ho => ⟨?put, ?drop, ?importAll, ?cfg⟩,
      fun h hl h0 hz => ?status⟩⟩
  case notChanged =>
    have hchanged (h : s.dev.fb.changedAt ≠ some (s.dev.tick dt).now) : (s.dev.fb.changedAt == some (s.dev.tick dt).now) = false := by simpa using h
    refine (exec_fbChangedReport ..).trans (State.runIf_of_eq hact ?_)
    rcases hno with h | h
    · simp [show (s.dev.tick dt).propN P.fbEvtRounds = 0 from h]
    · simp [hchanged h]
  case early =>
    refine (exec_fbChangedReport ..).trans (State.runIf_of_eq hact ?_)
    dsimp only
    rw [show (s.dev.tick dt).fb.eventAt = some t0 from ht0]
    simp [Nat.not_le.2 (show (s.dev.tick dt).now < t0 + (s.dev.tick dt).propN P.fbEvtRounds * roundTicks from hlt)]
  case report =>
    have hcond : ((s.dev.tick dt).propN P.fbEvtRounds != 0 && true && (s.dev.tick dt).fb.changedAt == some (s.dev.tick dt).now) = true := by
      rw [show (s.dev.tick dt).fb.changedAt = some (s.dev.tick dt).now from hch]
      simpa using (show (s.dev.tick dt).propN P.fbEvtRounds ≠ 0 from hn)
    refine ⟨_, (exec_fbChangedReport ..).trans (State.runIf_next _ hact), ?_⟩
    dsimp only [State.after]
    rw [show (s.dev.tick dt).fb.eventAt = none from hev, if_pos hcond, Dev.emit_fb]
    rfl
  case query =>
    have hid : q.p32 8 = 0 := at32_zeroAt (zeroAt_part hz 3 4 (by omega))
    have hlo : q.p32 12 = 0 := at32_zeroAt (zeroAt_part hz 7 4 (by omega))
    have hhi : q.p32 16 = 0 := at32_zeroAt (zeroAt_part hz 11 4 (by omega))
    refine State.command_ok h ?_ hf
    unfold fbQueryBody
    simp only [h0, h1, hid, hlo, hhi]
    refine (checked_of_passes ?_).trans ?_
    · simp [hl, hb, hw, Nat.ne_of_gt h4, Nat.not_lt.2 h4', Nat.not_lt.2 h2, zeroAt_part hz 0 3, Dev.drmUnfitted]
    · simp [hasBit] <;> rfl
  case exportPage =>
    refine State.command_passes h rfl ?_ hf
    simp [hl, hb, hw, Nat.not_lt.2 h0, Nat.ne_of_gt h2, Nat.not_lt.2 h2', h3]
  case put =>
    intro b h hl hi h0 h2 h3 hz hf hk
    obtain ⟨l, hpass, hbody⟩ := fbPutBody_checked (b := b) hb hw ho rfl hl hi h0 h2 h3 hz hf hk
    have hlast {st : Status} (hr : firstFailure [((e.fbStaged.fbPut (q.p16 0) (q.p8 2) b q.src.fbBit).1 == .wrongState, .wrongState),
        ((e.fbStaged.fbPut (q.p16 0) (q.p8 2) b q.src.fbBit).1 == .noPages, .noPages)] = some st) (ha : st.acts = false) :
        exec (.fbPut dt) s = .next (s.answered dt q st [] e) :=
      State.command_refuses h hbody (firstFailure_append hpass hr) ha (State.admits_fits h rfl (by simp))
    refine ⟨fun hr => ?_, fun hr => hlast (by rw [hr]; rfl) rfl, fun hr => hlast (by rw [hr]; rfl) rfl⟩
    exact State.command_passes h hbody (passes_append hpass (by rw [hr]; rfl)) (State.admits_fits h rfl (by simp))
  case drop =>
    intro h hl h0 h2 h3
    have hfit : q.fits [] = true := State.admits_fits h rfl (by simp)
    refine ⟨fun hz hv => ?_, fun hz hv => ?_, fun hz h0' => ?_⟩
    · refine (State.command_passes h rfl ?_ hfit).trans ?_
      · simp [hl, hb, hw, Nat.not_lt.2 h0, hz, h3, hv, Req.notSystem_owner ho]
      · rw [hz]; rfl
    · refine State.command_refuses h rfl ?_ rfl hfit
      simp [hl, hb, hw, Nat.not_lt.2 h0, hz, h3, hv, Req.notSystem_owner ho]
    · refine (State.command_passes h rfl ?_ hfit).trans ?_
      · simp [hl, hb, hw, Nat.not_lt.2 h2, hz, h3, h0', Req.notSystem_owner ho]
      · rw [h0']; rfl
  case importAll =>
    intro h h1 h31 hl hz
    refine State.command_passes h rfl ?_ (State.admits_fits h rfl ?_)
    · simp [hl, hb, hw, Nat.not_lt.2 h1, Nat.not_lt.2 h31, hz, Req.notSystem_owner ho]
    · rw [flatMap_length_const _ fun _ _ => u8_length _]
      simp
  case cfg =>
    intro h hl h2 h0 h4
    refine ⟨fun h1 hctx hc hlat hanch hsum => ?removes,
      fun x h1 hctx hx hcl hfg ht hk hbad h3 h3' hloc hin hnd hoth hanch hslots hsum => ?sets⟩
    case removes =>
      have hnil : q.branches = [] := by
        unfold Req.branches
        rw [List.drop_eq_nil_of_le (show q.params.length ≤ 8 from by have : q.params.length = 8 + 8 * q.p8 2 := hl; omega)]
        rfl
      refine State.command_ok h ?_ (State.admits_fits h rfl (by simp))
      unfold cmbCfgBody
      dsimp only
      simp only [h1, hnil, hc, hlat, hctx]
      refine checked_of_passes ?_
      simp only [List.mem_cons, List.not_mem_nil, or_false, forall_eq_or_imp, forall_eq]
      refine ⟨?_, by simp, ?_, Req.notSystem_owner ho, ?_, by simp, decide_eq_false (Nat.not_lt.2 ?_)⟩
      · simp [hl, hc]
      · cases e.inputOf 0xFF <;> simp [hb, Nat.not_lt.2 h0, h4, hasRepeat]
      · simp [hw, hanch]
      · simpa [hnil, hlat] using hsum
    case sets =>
      have hrepeat : hasRepeat (q.branches.map ((·.source) ∘ branchOf)) = false := by
        rw [← List.map_map]
        exact hasRepeat_of_nodup hnd
      have hown : ∀ i, e.inputOf q.ctx = some i → ∀ b ∈ q.branches, (branchOf b).source ≠ i := by
        rintro i hi b hb rfl
        exact (hin _ (List.mem_map_of_mem hb)).2 hi
      refine State.command_ok h ?_ (State.admits_fits h rfl (by simp))
      unfold cmbCfgBody
      dsimp only
      rw [List.filter_eq_self.2 fun b hb => by rw [hloc b hb]; rfl, List.filter_eq_nil_iff.2 fun b hb => by rw [hloc b hb]; simp, hx]
      simp only [h1, beq_self_eq_true, if_true]
      refine checked_of_passes ?_
      simp only [List.mem_cons, List.not_mem_nil, or_false, forall_eq_or_imp, forall_eq]
      refine ⟨?_, ?_, ?_, Req.notSystem_owner ho, ?_, decide_eq_false (Nat.not_lt.2 hslots), decide_eq_false (Nat.not_lt.2 hsum)⟩
      · simp [hl, Nat.not_lt.2 h2]
      · rw [List.any_eq_false.2 fun b hb => by rw [hloc b hb]; simp, List.any_eq_false.2 fun i hi => ?_]
        · simp
        · obtain ⟨b, hb, rfl⟩ := List.mem_map.1 hi
          simp [(hin b hb).1]
      · cases hi : e.inputOf q.ctx with
        | none => simp [hb, hbad, Nat.not_lt.2 h0, h4, hctx, Nat.not_lt.2 h3', Nat.ne_of_gt h3, hrepeat, hasRepeat]
        | some i => simpa [hb, hbad, Nat.not_lt.2 h0, h4, hctx, Nat.not_lt.2 h3', Nat.ne_of_gt h3, hrepeat, hasRepeat] using hown i hi
      · have hothers : (List.range 8).any (fun k => k != q.p8 0 && e.cmbAnchor k == some q.ctx) = false := by
          simpa using hoth
        rcases hanch with ha | ha <;> simp [ha, hw, hcl, hfg, Option.isNone_eq_false_iff.2 ht, hk, hothers]
  case status =>
    refine ⟨fun hn => ?_, fun x hx => ?_⟩
    · refine State.command_refused (d := e) h ?_ rfl (State.admits_fits h rfl (by simp))
      unfold cmbStatusBody
      dsimp only
      rw [hn]
      exact checked_of_passes (by simp [hl, hb, hz, Nat.not_lt.2 h0])
    · refine State.command_ok h ?_ (State.admits_fits h rfl ?_)
      · unfold cmbStatusBody
        dsimp only
        rw [hx]
        exact checked_of_passes (by simp [hl, hb, hz, hw, Nat.not_lt.2 h0])
      · simp

end Sys2Proof.Machine
end

section
/-!
PROOF. The commands of DAB and DRM (chapters 16 and 17).
-/
namespace Sys2Proof.Machine

theorem Dev.dabEnsPayload_length (d : Dev) (c : Nat) : (d.dabEnsPayload c).length = 48 := by
  unfold Dev.dabEnsPayload
  simp

theorem Dev.dabPayload_length (d : Dev) (c : Nat) : (d.dabPayload c).length = 64 := by
  unfold Dev.dabPayload
  simp

theorem Dev.drmPayload_length (d : Dev) (c : Nat) : (d.drmPayload c).length = 64 := by
  unfold Dev.drmPayload
  simp

theorem DabRes.bytes_length (r : DabRes) : r.bytes.length = 14 := by
  unfold DabRes.bytes
  simp

theorem drmServBytes_length (r : DrmServ) : (drmServBytes r).length = 12 := by
  unfold drmServBytes
  simp

theorem Dev.kindOf_open {d : Dev} {c : Nat} {x : CtxSt} (h : d.ctx? c = some x) : d.kindOf c = x.kind := by
  unfold Dev.kindOf; rw [h]; rfl

theorem Dev.stdFixedOf_open {d : Dev} {c : Nat} {x : CtxSt} (h : d.ctx? c = some x) : d.stdFixedOf c = x.stdFixed := by
  unfold Dev.stdFixedOf; rw [h]; rfl

theorem Dev.instOf_open {d : Dev} {c : Nat} {x : CtxSt} (h : d.ctx? c = some x) : d.instOf c = x.inst := by
  unfold Dev.instOf; rw [h]; rfl

/-- Checks that all pass leave the rest to decide. -/
theorem checked_append {d : Dev} {l r : List (Bool × Status)} {go : Res} (h : ∀ c ∈ l, c.1 = false) :
    checked d (l ++ r) go = checked d r go := by
  induction l with
  | nil => rfl
  | cons c l ih =>
    rw [List.cons_append]
    unfold checked
    rw [firstFailure_cons, h c (List.mem_cons_self ..)]
    exact ih fun c hc => h c (List.mem_cons_of_mem _ hc)

theorem Dev.setDrm_congr {d : Dev} {c : Nat} {f g : DrmSt → DrmSt} (h : f (d.drm c) = g (d.drm c)) : d.setDrm c f = d.setDrm c g := by
  unfold Dev.setDrm; rw [h]

section Commands
variable {s : State} {dt : Nat} {q : Req} {e : Dev} {x : CtxSt}

/-- DAB_SERVICE_SELECT of a programme service by its SId, every field in range. -/
theorem dabServiceSelectBody_sid (hb : q.badHeader = false) (hw : e.inWatch = false) (hx : e.ctx? q.ctx = some x) (hc : x.closing = none)
    (hstd : x.stdFixed = 2) (ho : q.src = x.owner) (hl : q.len = 8) (hk : x.kind = 3 ∨ x.kind = 5) (h4 : q.p8 4 = 0) (h5 : q.p8 5 = 0)
    (h6 : q.p8 6 = 0) (h7 : q.p8 7 = 0) (hsid : q.p32 0 ≤ 0xFFFFFF)
    {sel : DabSel} (hsel : sel = { sid := q.p32 0, flags := 0, scids := 0, subch := 0 }) {y : DabInst}
    (hy : y = match x.inst with | some n => e.dabInst n | none => ({} : DabInst)) {r : Except Nat DabRes} (hr : sel.resolve x.kind y.ecc y.conf = r) :
    let put (sel : Option DabSel) (told : Bool) : Dev := e.setDab q.ctx fun y => { y with selNext := some (sel, e.nextBoundary), told := told }
    dabServiceSelectBody q e = checked e [(!(q.p32 0 == 0 && 0 == 0) && (match (generalizing := false) r with | .error 3 => true | _ => false), .noEngine)]
      (if (q.p32 0 == 0 && 0 == 0) = true then ok (put none false) else match (generalizing := false) r with
        | .ok r => okWith r.bytes (put (some sel) true)
        | .error _ => deferred (put (some sel) false)) := by
  subst hr hy hsel
  dsimp only
  unfold dabServiceSelectBody
  dsimp only
  rw [h4, h5, h6, Dev.instOf_open hx, Dev.kindOf_open hx, Req.notCtxOwner_open hx, Dev.ctxBusy_open hx, Dev.stdFixedOf_open hx]
  refine (checked_append (l := [_, _, _, _]) (r := [_]) ?_).trans rfl
  have hkind : (x.kind != 3 && x.kind != 5) = false := by rcases hk with h | h <;> simp [h]
  simp [hl, hb, h7, Nat.not_lt.2 hsid, ho, hw, hc, hstd, hkind, hasBit]

/-- DRM_SERVICE_SELECT by the SId, every field in range and the service of the context's kind. -/
theorem drmServiceSelectBody_sid (hb : q.badHeader = false) (hx : e.ctx? q.ctx = some x) (hfit : e.hasDrm = true)
    (hwrong : e.drmWrong q.ctx = false) (ho : q.src = x.owner) (hl : q.len = 8) (hk : x.kind = 4 ∨ x.kind = 6) (h5 : q.p8 5 = 0)
    (hz : zeroAt q.params 6 2 = true) (hfl : (q.p32 0 = 0 ∧ q.p8 4 = 0) ∨ q.p8 4 = if x.kind = 4 then 0 else 1) (hsid : q.p32 0 ≤ 0xFFFFFF) :
    let put (sel : Option (Nat × Nat × Nat)) (told : Bool) : Dev :=
      e.setDrm q.ctx fun y => { y with selNext := some (sel, e.nextBoundary), told := told }
    drmServiceSelectBody q e = if (q.p32 0 == 0 && q.p8 4 == 0) = true then ok (put none false)
      else match drmResolve x.kind (e.drm q.ctx).fac (e.drm q.ctx).servs (q.p32 0, q.p8 4, 0) with
        | .ok r => okWith (drmServBytes r) (put (some (q.p32 0, q.p8 4, 0)) true)
        | .error _ => deferred (put (some (q.p32 0, q.p8 4, 0)) false) := by
  dsimp only
  unfold drmServiceSelectBody
  dsimp only
  rw [h5, Dev.kindOf_open hx, Req.notCtxOwner_open hx]
  refine checked_of_passes ?_
  have hkind : (x.kind != 4 && x.kind != 6) = false := by rcases hk with h | h <;> simp [h]
  have hfl' : q.p8 4 = 0 ∨ q.p8 4 = 1 := by
    rcases hfl with ⟨-, h⟩ | h
    · exact .inl h
    · rw [h]; split <;> simp
  have hflag : hasBit (q.p8 4) 1 = false := by rcases hfl' with h | h <;> rw [h] <;> rfl
  have hsuits : (!(q.p32 0 == 0 && q.p8 4 == 0) && (hasBit (q.p8 4) 0 == (x.kind == 4))) = false := by
    rcases hfl with ⟨h0, h⟩ | h
    · simp [h0, h]
    · rcases hk with hk | hk <;> simp [h, hk, hasBit]
  simp only [hkind, hflag, hsuits]
  simp [hl, hb, hz, hfit, hwrong, ho, Nat.not_lt.2 hsid]
  omega

end Commands

/-- Settles O47: each command by its checks, all of which pass, and its result. -/
theorem digitalReceptionCommands : Obligations.DigitalReceptionCommands := by
  unfold Obligations.DigitalReceptionCommands
  intro s dt q e x hb hw hx hc
  have hown := fun ho : q.src = x.owner => show q.notCtxOwner q.ctx e = false by rw [Req.notCtxOwner_open hx]; simp [ho]
  have hbusy : e.ctxBusy q.ctx = false := by rw [Dev.ctxBusy_open hx, hc]; rfl
  refine ⟨fun hstd => ?_, fun hdrm hfit => ?_⟩
  · have hwrong : e.dabWrong q.ctx = false := by
      unfold Dev.dabWrong
      simp [hw, hbusy, Dev.stdFixedOf_open hx, hstd]
    refine ⟨fun h ho hl h6 h7 => ?ensemble, fun h ho hl hk h5 h6 h7 => ?select, fun n h hl hn h0 h3 h2 h2' hfirst hf => ?dump, fun h hl => ?metrics⟩
    case ensemble =>
      refine State.command_passes h rfl ?_ (State.admits_fits h rfl (by rw [Dev.dabEnsPayload_length]; omega))
      simp [hl, hb, Nat.not_lt.2 h6, h7, hown ho, hwrong]
    case select =>
      intro put y sel
      refine ⟨fun hz h4 => ?_, fun r h4 hz hsid hr => ?_, fun why h4 hz hsid hr => ⟨fun hwhy => ?_, fun hwhy => ?_⟩⟩
      · refine State.command_ok h ((dabServiceSelectBody_sid hb hw hx hc hstd ho hl hk h4 h5 h6 h7 (by omega) rfl rfl rfl).trans ?_)
          (State.admits_fits h rfl (by simp))
        rw [hz]
        rfl
      · refine State.command_ok h ((dabServiceSelectBody_sid hb hw hx hc hstd ho hl hk h4 h5 h6 h7 hsid rfl rfl hr).trans ?_)
          (State.admits_fits h rfl (by rw [DabRes.bytes_length]; omega))
        rw [show (q.p32 0 == 0) = false by simpa using hz]
        rfl
      · refine State.command_deferred h ((dabServiceSelectBody_sid hb hw hx hc hstd ho hl hk h4 h5 h6 h7 hsid rfl rfl hr).trans ?_)
          (State.admits_fits h rfl (by simp))
        rw [show (q.p32 0 == 0) = false by simpa using hz]
        refine checked_of_passes ?_
        simp only [Bool.false_and, Bool.not_false, Bool.true_and, List.mem_singleton, forall_eq]
        split
        · rename_i h3
          exact absurd (Except.error.inj h3) hwhy
        · rfl
      · refine State.command_refused (d := e) h ((dabServiceSelectBody_sid hb hw hx hc hstd ho hl hk h4 h5 h6 h7 hsid rfl rfl hr).trans ?_) rfl
          (State.admits_fits h rfl (by simp))
        rw [show (q.p32 0 == 0) = false by simpa using hz, hwhy]
        rfl
    case dump =>
      refine State.command_ok h ?_ hf
      unfold dabFicDumpBody
      dsimp only
      rw [Dev.instOf_open hx, hn]
      refine checked_of_passes ?_
      simp [hl, Nat.ne_of_gt h2, Nat.not_lt.2 h2', hb, Nat.not_lt.2 h0, h3, Nat.not_lt.2 hfirst, hwrong]
    case metrics =>
      exact State.command_passes h rfl (by simp [hl, hb, hwrong]) (State.admits_fits h rfl (by rw [Dev.dabPayload_length]; omega))
  · have hwrong : e.drmWrong q.ctx = false := by
      unfold Dev.drmWrong
      simp [hw, hbusy, hdrm]
    refine ⟨fun h ho hl h0 h3 h4 h1 hk h2 h3' => ?cfg, fun h ho hl hk h5 hz => ?select, fun h hl => ?metrics⟩
    case cfg =>
      refine (State.command_passes h rfl ?_ (State.admits_fits h rfl (by simp))).trans ?_
      · have hk6 : (x.kind == 6 && hasBit (q.p8 1) 1) = false := by
          by_cases h6 : x.kind = 6
          · simp [hk h6]
          · simp [h6]
        have hmode3 : (e.stdOf q.ctx == 3 && q.p8 0 == 0) = false := by
          by_cases h' : e.stdOf q.ctx = 3
          · simp [h3 h']
          · simp [h']
        have hmode4 : (e.stdOf q.ctx == 4 && q.p8 0 != 0) = false := by
          by_cases h' : e.stdOf q.ctx = 4
          · simp [h4 h']
          · simp [h']
        simp only [Dev.kindOf_open hx, hk6, hmode3, hmode4]
        simp [hl, hfit, hb, Nat.not_lt.2 h0, Nat.not_lt.2 h1, Nat.not_lt.2 h2, h3', hown ho, hwrong]
      · refine congrArg (fun e' => Host.Outcome.next (s.answered dt q .ok (u64 e.nextBoundary) e')) (Dev.setDrm_congr ?_)
        cases (e.drm q.ctx).next <;> rfl
    case select =>
      intro y fl put
      refine ⟨fun h0 h4 => ?_, fun r h4 h0 hsid hr => ?_, fun why h4 h0 hsid hr => ?_⟩
      · refine State.command_ok h ((drmServiceSelectBody_sid hb hx hfit hwrong ho hl hk h5 hz (.inl ⟨h0, h4⟩) (by omega)).trans ?_)
          (State.admits_fits h rfl (by simp))
        rw [h0, h4]
        rfl
      · refine State.command_ok h ((drmServiceSelectBody_sid hb hx hfit hwrong ho hl hk h5 hz (.inr h4) hsid).trans ?_)
          (State.admits_fits h rfl (by rw [drmServBytes_length]; omega))
        rw [show (q.p32 0 == 0) = false by simpa using h0, h4, hr]
        rfl
      · refine State.command_deferred h ((drmServiceSelectBody_sid hb hx hfit hwrong ho hl hk h5 hz (.inr h4) hsid).trans ?_)
          (State.admits_fits h rfl (by simp))
        rw [show (q.p32 0 == 0) = false by simpa using h0, h4, hr]
        rfl
    case metrics =>
      exact State.command_passes h rfl (by simp [hl, hfit, hb, hwrong]) (State.admits_fits h rfl (by rw [Dev.drmPayload_length]; omega))

end Sys2Proof.Machine
end

section
/-!
PROOF. The commands of the audio outputs (chapter 20).
-/
namespace Sys2Proof.Machine

theorem Dev.progEntry_length (d : Dev) (p : Nat) : (d.progEntry p).length = 12 := by
  unfold Dev.progEntry
  simp

theorem Dev.portEntry_length (d : Dev) (n : Nat) : (d.portEntry n).length = 8 := by
  unfold Dev.portEntry
  simp

theorem Dev.spdoEntry_length (d : Dev) (n : Nat) : (d.spdoEntry n).length = 4 := by
  unfold Dev.spdoEntry
  simp

/-- No output is named. -/
theorem bitsOf_zero (n : Nat) : bitsOf n 0 = [] := by
  unfold bitsOf
  simp

section Commands
variable {s : State} {dt : Nat} {q : Req} {e : Dev}

/-- PROG_ROUTE that puts a context of the sender on no port, or on some that take it. -/
theorem progRouteBody_routes {x : CtxSt} (hb : q.badHeader = false) (hw : e.inWatch = false) (hl : q.len = 4) (h0 : q.p8 0 ≤ 3)
    (harm : e.followArmed (q.p8 0) = false) (hx : e.ctx? q.ctx = some x) (hctx : q.ctx ≠ 0xFF) (ho : q.src = x.owner) (hc : x.closing = none)
    (hk : audioKind x.kind = true) (hused : ∀ k < 4, k ≠ q.p8 0 → (e.progRoute k).1 ≠ some q.ctx) (h1 : q.p8 1 < 64) (h2 : q.p8 2 ≤ 7)
    (h3 : q.p8 3 < 6) (hroom : ∀ n ∈ bitsOf 4 (q.p8 1), ∀ c, e.portCfg n = some c → ∀ k ∈ routeSlots (q.p8 2) (q.p8 3) c, k < c.slots)
    (hout : ∀ n ∈ bitsOf 6 (q.p8 1), (e.outRate n).isSome = true) (hrates : e.ratesDiffer (q.p8 1) = false)
    (hclash : e.routesClash (q.p8 0) (q.p8 1) (q.p8 2) (q.p8 3) = false) :
    progRouteBody q e = okWith (u64 e.nextBoundary) (e.audAccept (.route (q.p8 0) (some q.ctx) (q.p8 1) (q.p8 2) (q.p8 3))) := by
  have hctx' : (q.ctx == 0xFF) = false := by simpa using hctx
  have hused' : (List.range 4).any (fun k => k != q.p8 0 && (e.progRoute k).1 == some q.ctx) = false := by simpa using hused
  have hout' : (bitsOf 6 (q.p8 1)).any (fun n => (e.outRate n).isNone) = false := by
    rw [List.any_eq_false]; intro n hn; simpa [Option.isSome_iff_ne_none] using hout n hn
  unfold progRouteBody
  simp only [hctx', Dev.boundaryReply]
  refine checked_of_passes ?_
  simp only [List.mem_cons, List.not_mem_nil, or_false, forall_eq_or_imp, forall_eq]
  refine ⟨by simp [hl], ?_, ?_, ?_⟩
  · simp only [Bool.or_eq_false_iff, List.any_eq_false, Bool.false_and, and_true]
    refine ⟨⟨⟨⟨⟨⟨hb, by simpa using h0⟩, by simpa using h1⟩, by simpa using h2⟩, by simp; omega⟩, by simp; omega⟩, fun n hn => ?_⟩
    split
    · rename_i c hc
      simpa using hroom n hn c hc
    · simp
  · simp [Req.notCtxOwner_open hx, ho]
  · rw [hx, hused', hout']
    simp [hw, hc, hk, harm, hrates, hclash]

end Commands

/-- Settles O52: each command by its checks, all of which pass, and its result. -/
theorem audioCommands : Obligations.AudioCommands := by
  unfold Obligations.AudioCommands
  intro s dt q e hb hw
  refine ⟨fun h hl h0 harm => ⟨fun hctx ho h1 h2 h3 => ?unroute, fun x hx hctx ho hc hk hused h1 h2 h3 => ?route,
      fun x hx hctx ho hc hk hused h1 h2 h3 hp => ?routePort⟩,
    fun h hl => ?status, fun ho => ⟨fun h hl h0 hbad hz hrun hfam hmode hpend hprog => ?portCfg,
      fun h hl h0 h0' hz hpend hstop hpart => ?run, fun h h2 hl h0 h1 h3 hrun hfam => ?spdif,
      fun h hl h0 h1 hlo hhi h3 => ?level, fun h hl h0 h1 h2 h2' h7 harm hbusy => ⟨fun h4 h5 h6 => ?settings,
        fun h4 h5 h5' h6 h6' htarget hsrc hfull => ?blend⟩⟩⟩
  case unroute =>
    refine (State.command_passes h rfl ?_ (State.admits_fits h rfl (by simp [Dev.boundaryReply]))).trans ?_
    · simp [hb, hw, hl, Nat.not_lt.2 h0, hctx, h1, h2, h3, harm, bitsOf_zero, Req.notSystem_owner ho, Dev.ratesDiffer, Dev.routesClash]
    · rw [h1, h2, h3, hctx]; rfl
  case route =>
    refine State.command_ok h ?_ (State.admits_fits h rfl (by simp))
    rw [progRouteBody_routes hb hw hl h0 harm hx hctx ho hc hk hused (by omega) h2 h3, h1]
    · rfl
    all_goals simp [h1, bitsOf_zero, Dev.ratesDiffer, Dev.routesClash]
  case routePort =>
    obtain ⟨c, hpc, hslots⟩ := hp
    have hbits : bitsOf 4 (q.p8 1) = [0] ∧ bitsOf 6 (q.p8 1) = [0] := by rw [h1]; decide
    have hrate : e.outRate 0 = some c.rate := by unfold Dev.outRate; rw [if_pos (by omega), hpc]; rfl
    refine State.command_ok h ?_ (State.admits_fits h rfl (by simp))
    rw [progRouteBody_routes hb hw hl h0 harm hx hctx ho hc hk (fun k hk hne => by rw [(hused k hk hne).1]; simp) (by omega) (by omega)
      (by omega), h1, h2, h3]
    · rfl
    · rw [hbits.1]
      intro n hn c' hc' k hk
      obtain rfl := List.mem_singleton.1 hn
      obtain rfl : c = c' := by simpa [hpc] using hc'
      have hmem : k = 0 ∨ k = 1 := by
        unfold routeSlots at hk
        split at hk <;> simp_all
      omega
    · simp [hbits.2, hrate]
    · simp [hbits.2, hrate, Dev.ratesDiffer]
    · unfold Dev.routesClash
      rw [hbits.1, List.any_eq_false]
      intro n hn
      obtain rfl := List.mem_singleton.1 hn
      rw [hpc]
      simp only [List.any_eq_true, List.mem_range, not_exists, not_and]
      intro k hk
      by_cases hne : k = q.p8 0
      · simp [hne]
      · simp [(hused k hk hne).2, hasBit]
  case status =>
    refine State.command_passes h rfl ?_ (State.admits_fits h rfl ?_)
    · simp [hb, hl, hw]
    · rw [List.length_append, List.length_append, List.length_append, flatMap_length_const _ fun _ _ => Dev.progEntry_length ..,
        flatMap_length_const _ fun _ _ => Dev.portEntry_length .., flatMap_length_const _ fun _ _ => Dev.spdoEntry_length ..]
      simp
  case portCfg =>
    refine State.command_passes h rfl ?_ (State.admits_fits h rfl (by simp))
    have hgroup : (e.willRun (q.p8 0) || (List.range 4).any fun m =>
        [leaderOf (q.p8 0) (e.portCfg (q.p8 0)), leaderOf (q.p8 0) (some q.portCfg)].contains (leaderOf m (e.portCfg m)) && e.willRun m) = false := by
      rw [hrun _ (by omega), Bool.false_or, List.any_eq_false]
      intro m hm
      simp [hrun m (List.mem_range.1 hm)]
    have hshort : (List.range 4).any (fun k => hasBit (e.progRoute k).2.1 (q.p8 0)
        && (routeSlots (e.progRoute k).2.2.1 (e.progRoute k).2.2.2 q.portCfg).any (q.portCfg.slots ≤ ·)) = false := by
      rw [List.any_eq_false]
      intro k hk
      simp [hprog k (List.mem_range.1 hk), hasBit]
    simp only [List.mem_cons, List.not_mem_nil, or_false, forall_eq_or_imp, forall_eq]
    refine ⟨by simp [hl], by simp [hb, hbad, hz]; omega, Req.notSystem_owner ho, ?_, hpend⟩
    simp only [Bool.or_eq_false_iff]
    exact ⟨⟨⟨⟨hw, Bool.or_eq_false_iff.1 hgroup⟩, by simp [hfam]⟩, by simp [hmode]⟩, hshort⟩
  case run =>
    have hpart' : (bitsOf 4 (q.p8 0)).any (fun n => (e.groupAccepted (leaderOf n (e.portCfg n))).any fun m => !hasBit (q.p8 0) m) = false := by
      simpa [List.any_eq_false] using hpart
    refine ⟨fun h1 => ?stop, fun h1 hrate hagree => ?start⟩
    case stop =>
      refine (State.command_passes h rfl ?_ (State.admits_fits h rfl (by simp [Dev.boundaryReply]))).trans ?_
      · simp only [List.mem_cons, List.not_mem_nil, or_false, forall_eq_or_imp, forall_eq]
        refine ⟨by simp [hl], ?_, Req.notSystem_owner ho, by simp [hw, h1], by simp [hpend, hstop, -List.any_eq_false]⟩
        simp only [hpart', h1, hb, hz]
        simp; omega
      · rw [h1]; rfl
    case start =>
      refine (State.command_passes h rfl ?_ (State.admits_fits h rfl (by simp [Dev.boundaryReply]))).trans ?_
      · simp only [List.mem_cons, List.not_mem_nil, or_false, forall_eq_or_imp, forall_eq]
        refine ⟨by simp [hl], ?_, Req.notSystem_owner ho, ?_, by simp [hpend, hstop]⟩
        · simp only [hpart', h1, hb, hz]
          simp; omega
        · have hfam : (bitsOf 6 (q.p8 0)).any (fun n => match e.outRate n with
              | some r => family441 r != family441 e.clk.audRate
              | none => true) = false := by
            rw [List.any_eq_false]
            intro n hn
            obtain ⟨r, hr, hf⟩ := hrate n hn
            simp [hr, hf]
          have hagree' : (bitsOf 4 (q.p8 0)).any (fun n => !e.groupAgrees n) = false := by
            rw [List.any_eq_false]
            intro n hn
            simp [hagree n hn]
          simp only [Bool.or_eq_false_iff, Bool.and_eq_false_iff]
          exact ⟨hw, .inr ⟨hfam, hagree'⟩⟩
      · rw [h1]; rfl
  case spdif =>
    refine State.command_passes h rfl ?_ (State.admits_fits h rfl (by simp))
    simp [hb, hw, hl, Nat.not_lt.2 h2, Nat.not_lt.2 h0, Nat.not_lt.2 h1, h3, hrun, hfam, Req.notSystem_owner ho]
  case level =>
    refine State.command_passes h rfl ?_ (State.admits_fits h rfl (by simp))
    simp [hb, hw, hl, Nat.not_lt.2 h0, Nat.not_lt.2 h1, Int.not_lt.2 hlo, Int.not_lt.2 hhi, h3, Req.notSystem_owner ho]
  case settings =>
    refine State.command_ok h ((checked_of_passes ?_).trans ?_) (State.admits_fits h rfl (by simp))
    · simp [hb, hw, hl, h4, h5, h6, Nat.not_lt.2 h0, Nat.not_lt.2 h1, Nat.not_lt.2 h2, Nat.not_lt.2 h2', h7, harm, hbusy, Req.notSystem_owner ho]
    · simp only [h5, h4, h6]; rfl
  case blend =>
    refine State.command_deferred h ((checked_of_passes ?_).trans ?_) (State.admits_fits h rfl (by simp))
    · simp [hb, hw, hl, Nat.not_lt.2 h4, Nat.not_lt.2 h0, Nat.not_lt.2 h1, Nat.not_lt.2 h2, Nat.not_lt.2 h2', h7, harm, hbusy, Req.notSystem_owner ho,
        Nat.not_lt.2 h5', Nat.not_lt.2 h6, h6', htarget, hfull, Nat.ne_of_gt h5, hsrc]
    · rw [if_neg (by omega)]; rfl

end Sys2Proof.Machine
end

section
/-!
PROOF. The rows of the audio outputs (chapter 20).
-/
namespace Sys2Proof.Machine

/-- Port 0 runs while a change of the audio clock is accepted whose gate closes at tick 64. -/
def gateAhead : State :=
  { dev := {
      pwr := { resetN := true, stage := .done, mode := .active, causes := [], sampleStraps := false }
      clk := { pllA := .locked, audOn := true, audState := 4, audSince := some 64 }
      audio := { ports := [{ run := .running, clockOk := true }, {}, {}, {}] } }
    pending := [] }

/-- Refutes O51: its part on PORT_FAULT_FRAME asks that the group sends before the row's time passes, the row acts where it still sends after
it (R576). Where PLL_AUD is gated within that time no fault frame is counted, and the count that the statement claims is missing. -/
theorem not_audioRows : ¬ Obligations.AudioRows := by
  unfold Obligations.AudioRows
  intro h
  obtain ⟨t, hexec, -, hcount, -⟩ := (h gateAhead 64 0 rfl).2.1 0 (by decide) (by decide) (by decide) (by decide) (by decide) (by decide)
  have hgated : (gateAhead.dev.tick 64).groupSends 0 = false := by decide
  rw [exec_portFaultFrame] at hexec
  unfold execPortFaultFrame at hexec
  rw [State.runIf_skip _ (by simp [hgated])] at hexec
  injection hexec with ht
  rw [← ht] at hcount
  exact absurd hcount (by decide)

end Sys2Proof.Machine
end

section
/-!
PROOF. The rows and commands of the data queues (chapter 21).
-/
namespace Sys2Proof.Machine

theorem Dev.setBind_bound {d : Dev} {c : Nat} {b : BindSt} (h : d.bind? c = some b) (f : BindSt → BindSt) :
    d.setBind c f = { d with data.binds := tabSet d.data.binds c (f b) } := by
  unfold Dev.setBind; rw [h]

theorem Dev.setBind_congr {d : Dev} {c : Nat} {b : BindSt} (h : d.bind? c = some b) {f g : BindSt → BindSt} (hfg : f b = g b) :
    d.setBind c f = d.setBind c g := by
  rw [Dev.setBind_bound h, Dev.setBind_bound h, hfg]

/-- The pages of an object do not depend on when its last segment came. -/
theorem MotObj.pages_opened (tid : Nat) (header : List Byte) (n t : Nat) :
    ({ tid := tid, header := header, bodyLen := n, segs := [], last := none, at_ := t } : MotObj).pages
      = ({ tid := tid, header := header, bodyLen := n, segs := [], last := none, at_ := 0 } : MotObj).pages := by
  simp only [MotObj.pages]

/-! ## MOT data groups (R598, R599) -/

section Groups
variable {d : Dev} {c : Nat} {b : BindSt}

/-- A header of a new object opens it, where there is room. -/
theorem Dev.motGroup_header (hb : d.bind? c = some b) {tid : Nat} {bytes : List Byte} (h8 : b.objs.length < 8)
    (hnew : b.objs.any (·.tid == tid) = false)
    (hroom : d.motUsed + ({ tid := tid, header := bytes, bodyLen := motBodyLen bytes, segs := [], last := none, at_ := 0 } : MotObj).pages
      ≤ d.propN P.dsQuotaMot) (l : List (Nat × List Byte)) :
    d.motGroup c 3 tid 0 false bytes l = d.setBind c fun b => { b with objs := b.objs ++
      [{ tid := tid, header := bytes, bodyLen := motBodyLen bytes, segs := [], last := none, at_ := d.now }] } := by
  unfold Dev.motGroup
  rw [hb]
  simp only [hnew]
  unfold Dev.motOpen
  rw [hb]
  simp only [Nat.not_le.2 h8, if_false]
  rw [MotObj.pages_opened]
  rw [if_neg Bool.false_ne_true, if_neg (Nat.not_lt.2 hroom)]

/-- A first body segment enters the object that is open alone. -/
theorem Dev.motGroup_body (hb : d.bind? c = some b) {o : MotObj} (ho : b.objs = [o]) (hs : o.segs = []) (hl : o.last = none) (seg : Nat)
    (bytes : List Byte) (l : List (Nat × List Byte)) :
    d.motGroup c 4 o.tid seg false bytes l = d.setBind c fun b => { b with objs := [{ o with segs := [(seg, bytes)], at_ := d.now }] } := by
  have hheld : b.objs.any (·.tid == o.tid) = true := by simp [ho]
  have hseg : d.motSegment c o.tid seg false bytes = d.setBind c fun b => { b with objs := [{ o with segs := [(seg, bytes)], at_ := d.now }] } :=
    Dev.setBind_congr hb (by simp [ho, hs, updWhere, tabGet, tabSet])
  unfold Dev.motGroup
  rw [hb]
  simp only [hheld, if_true, hseg]
  unfold Dev.motFinish
  rw [Dev.bind_setBind, hb]
  simp [MotObj.complete, hl]

/-- A binding all of whose objects go keeps none. -/
theorem Dev.motDrop_all (hb : d.bind? c = some b) {p : MotObj → Bool} (hp : ∀ o ∈ b.objs, p o = true) :
    d.motDrop c p = { d.motFail c b.objs.length with data.binds := tabSet d.data.binds c { b with objs := [] } } := by
  have hall : b.objs.filter p = b.objs := List.filter_eq_self.2 hp
  have hnone : b.objs.filter (!p ·) = [] := List.filter_eq_nil_iff.2 fun o ho => by simp [hp o ho]
  unfold Dev.motDrop Dev.motFail
  rw [hb]
  simp only [hall]
  rw [Dev.setBind_bound (d := d.setDq b.queue _) (b := b) hb, hnone]
  rfl

theorem Dev.motDrop_failed (hb : d.bind? c = some b) {p : MotObj → Bool} (hp : ∀ o ∈ b.objs, p o = true) :
    ((d.motDrop c p).dq b.queue).motFailed = satAdd 0xFFFFFFFF (d.dq b.queue).motFailed b.objs.length := by
  rw [Dev.motDrop_all hb hp]
  show ((d.motFail c b.objs.length).dq b.queue).motFailed = _
  unfold Dev.motFail
  rw [hb]
  exact congrArg DQueue.motFailed (Dev.dq_setDq ..)

end Groups

section Flush
variable {q : Req} {e : Dev}

/-- QUEUE_FLUSH from the start of the head record, every field in range. -/
theorem queueFlushBody_head (hb : q.badHeader = false) (hw : e.inWatch = false) (ho : q.src = e.proto.owner) (hl : q.len = 8) (h8 : 8 ≤ q.p8 0)
    (h127 : q.p8 0 ≤ 127) (h1 : q.p8 1 ≤ 1) (h2 : q.p16 2 ≤ 1016) (h2' : q.p8 1 = 0 → q.p16 2 = 0) (hp : (e.dq (q.p8 0)).pages ≠ 0)
    (h4 : q.p16 4 = 0) (h6 : q.p16 6 = 0) :
    let k := q.p8 0
    let x := e.dq k
    queueFlushBody q e =
      if q.p8 1 = 0 then
        let e' := (e.takeHead k x.recs.length).setDq k fun x => { x with gap := 0, gapFirst := 0 }
        takeReply k (e'.dq k).seq 0 0 [] e'
      else if q.p16 2 = 0 then takeReply k x.seq 0 0 [] e
      else if (x.recs.headD []).length ≤ q.p16 2 then
        takeReply k x.seq 0 (fitting (q.p16 2) x.recs) (x.recs.take (fitting (q.p16 2) x.recs)).flatten (e.takeHead k (fitting (q.p16 2) x.recs))
      else
        let part := slice (x.recs.headD []) (q.p16 4) (q.p16 2)
        if (x.recs.headD []).length ≤ q.p16 4 + q.p16 2 then takeReply k x.seq 3 0 part (e.takeHead k 1) else takeReply k x.seq 1 0 part e := by
  dsimp only
  refine checked_of_passes ?_
  simp [hl, hb, hw, Nat.not_lt.2 h8, Nat.not_lt.2 h127, Nat.not_lt.2 h1, Nat.not_lt.2 h2, h4, h6, hp, Req.notSystem_owner ho]
  exact h2'

end Flush

/-- Settles O53: reassembly by the kind of the data group, a pull by what the queue is, each command by its checks. That the time of an object
without a segment counts from its opening is log 140. -/
theorem dataQueueRows : Obligations.DataQueueRows := by
  unfold Obligations.DataQueueRows
  intro s dt
  refine ⟨fun c b hact ht hb hm => ?group, fun c b hact hb hold => ?timeout,
    fun hr k n => ⟨fun hn => ?short, fun hn hi h8 h127 hp hrecs => ?pull, fun hn hi hbad => ?badQueue⟩,
    fun q e hb hw => ⟨fun h ho hl h8 h127 h512 h1 hz hroom => ?cfg, fun c h hc hcl ho hl hz h1 hk => ?bind,
      fun h hl h8 h127 h1 h31 hk hz hf => ?status, fun h ho hl h8 h127 hp h4 h6 => ⟨fun h1 h2 hf => ?peek, fun h1 h2 h2' hle hf => ?take,
        fun h1 h2 => ?flush⟩⟩⟩
  case group =>
    have hcond : ((s.dev.tick dt).active && ((s.dev.tick dt).bind? c).any (·.mot) && (s.dev.tick dt).takesMot c) = true := by
      rw [show (s.dev.tick dt).active = true from hact, show (s.dev.tick dt).bind? c = some b from hb, show (s.dev.tick dt).takesMot c = true from ht]
      simp [hm]
    refine ⟨fun tid seg last bytes l => (exec_motDataGroup ..).trans (State.runIf_of_eq hcond ?_),
      fun tid bytes l h8 hnew hroom => (exec_motDataGroup ..).trans (State.runIf_of_eq hcond (Dev.motGroup_header (d := s.dev.tick dt) hb h8 hnew hroom l)),
      fun tid seg bytes l o ho htid hs hl => (exec_motDataGroup ..).trans (State.runIf_of_eq hcond (htid ▸ Dev.motGroup_body (d := s.dev.tick dt) hb ho hs hl seg bytes l))⟩
    unfold Dev.motGroup
    rw [show (s.dev.tick dt).bind? c = some b from hb]
    rfl
  case timeout =>
    have hbind : (s.dev.tick dt).bind? c = some b := by
      show tabGet s.dev.data.binds c = some b
      rw [hb]
      simp [tabGet]
    have hdrop := Dev.motDrop_all (d := s.dev.tick dt) hbind (p := fun o => o.at_ + msec (1000 * (s.dev.tick dt).propN P.motTimeout) ≤ (s.dev.tick dt).now)
      fun o ho => decide_eq_true (hold o ho)
    refine ⟨_, (exec_motObjectTimeout ..).trans (State.runIf_of_eq (e := (s.dev.tick dt).motDrop c
      fun o => o.at_ + msec (1000 * (s.dev.tick dt).propN P.motTimeout) ≤ (s.dev.tick dt).now) hact ?_), ?_, ?_⟩
    · dsimp only
      rw [show (s.dev.tick dt).data.binds = [(c, b)] from hb]
      rfl
    · refine (congrArg (fun d : Dev => d.data.binds) hdrop :).trans ?_
      show tabSet s.dev.data.binds c { b with objs := [] } = _
      rw [hb]
      simp [tabSet]
    · exact Dev.motDrop_failed (d := s.dev.tick dt) hbind fun o ho => decide_eq_true (hold o ho)
  case short => exact (exec_spiDataPull ..).trans (State.runIf_of_eq (by rw [show (s.dev.tick dt).inReset = false from hr]; rfl) (if_pos hn))
  case pull =>
    refine (exec_spiDataPull ..).trans (State.runIf_of_eq (by rw [show (s.dev.tick dt).inReset = false from hr]; rfl) ?_)
    have hgood : (decide (k < 8) || decide (127 < k) || ((s.dev.tick dt).dq k).pages == 0) = false := by
      simp [Nat.not_lt.2 h8, Nat.not_lt.2 h127, show ((s.dev.tick dt).dq k).pages ≠ 0 from hp]
    have hsome : ((s.dev.tick dt).dq k).recs.isEmpty = false := by simpa using show ((s.dev.tick dt).dq k).recs ≠ [] from hrecs
    simp only [if_neg (Nat.not_lt.2 hn), show (s.dev.tick dt).izosh = true from hi, hgood]
    simp only [Bool.and_false, Bool.not_false, Bool.and_true, if_true, hsome]
    rfl
  case badQueue =>
    refine (exec_spiDataPull ..).trans (State.runIf_of_eq (by rw [show (s.dev.tick dt).inReset = false from hr]; rfl) ?_)
    have hbad' : (decide (k < 8) || decide (127 < k) || ((s.dev.tick dt).dq k).pages == 0) = true := by
      rcases hbad with h | h | h
      · simp [h]
      · simp [h]
      · simp [show ((s.dev.tick dt).dq k).pages = 0 from h]
    simp only [if_neg (Nat.not_lt.2 hn), show (s.dev.tick dt).izosh = true from hi, hbad']
    rfl
  case cfg =>
    refine State.command_passes h rfl ?_ (State.admits_fits h rfl (by simp))
    have hfree : (q.p16 2 == 0 && (List.range 128).any fun c => e.ctxOpen c && e.stagedBind c == some (q.p8 0)) = false := by
      by_cases h0 : q.p16 2 = 0
      · have : (List.range 128).any (fun c => e.ctxOpen c && e.stagedBind c == some (q.p8 0)) = false := by simpa using hz h0
        rw [this, Bool.and_false]
      · simp [h0]
    have hfits : (decide (e.stagedN P.dsQuotaQueue < ((((List.range 120).map (8 + ·)).filter (· != q.p8 0)).map e.stagedPages).sum + q.p16 2)
        && e.stagedPages (q.p8 0) != q.p16 2) = false := by
      rcases hroom with h | h
      · simp [h]
      · rw [decide_eq_false (Nat.not_lt.2 h), Bool.false_and]
    simp only [List.mem_cons, List.not_mem_nil, or_false, forall_eq_or_imp, forall_eq]
    exact ⟨by simp [hl], by simp [hb, Nat.not_lt.2 h8, Nat.not_lt.2 h127, Nat.not_lt.2 h512, h1], Req.notSystem_owner ho,
      Bool.or_eq_false_iff.2 ⟨hw, hfree⟩, hfits⟩
  case bind =>
    refine State.command_passes h rfl ?_ (State.admits_fits h rfl (by simp))
    simp only [List.mem_cons, List.not_mem_nil, or_false, forall_eq_or_imp, forall_eq]
    refine ⟨by simp [hl], ?_, by rw [Req.notCtxOwner_open hc]; simp [ho], ?_⟩
    · rcases hk with ⟨h0, h0'⟩ | ⟨h8, h127, -⟩
      · simp [hb, hz, show q.p8 0 = 0 from h0, h0']
      · have hlow : (decide (q.p8 0 ≤ 7)) = false := decide_eq_false (by omega)
        simp [hb, hz, hlow, Nat.not_lt.2 h127, Nat.not_lt.2 h1, show q.p8 0 ≠ 0 by omega]
    · rw [hc]
      rcases hk with ⟨h0, h0'⟩ | ⟨h8, h127, hp⟩
      · simp [hw, hcl, show q.p8 0 = 0 from h0]
      · simp [hw, hcl, show e.stagedPages (q.p8 0) ≠ 0 from hp]
  case status =>
    refine State.command_passes h rfl ?_ hf
    simp [hl, hb, hw, Nat.not_lt.2 h8, Nat.not_lt.2 h127, Nat.ne_of_gt h1, Nat.not_lt.2 h31, Nat.not_lt.2 hk, hz]
  case peek =>
    refine State.command_ok h ((queueFlushBody_head hb hw ho hl h8 h127 (by omega) (by omega) (by omega) hp h4 h6).trans ?_) hf
    rw [if_neg (by omega), if_pos h2]
    rfl
  case take =>
    refine State.command_ok h ((queueFlushBody_head hb hw ho hl h8 h127 (by omega) (by omega) (by omega) hp h4 h6).trans ?_) hf
    rw [if_neg (by omega), if_neg (by omega), if_pos hle]
    rfl
  case flush =>
    refine ⟨_, State.command_ok h ((queueFlushBody_head hb hw ho hl h8 h127 (by omega) (by omega) (fun _ => h2) hp h4 h6).trans
      ((if_pos h1).trans rfl)) (State.admits_fits h rfl (by simp)), ?_⟩
    have hdata {α : Type} (p : DQueue → α) (st : Status) (pl : List Byte) (e' : Dev) : p (((s.answered dt q st pl e').dev.dq (q.p8 0))) = p (e'.dq (q.p8 0)) :=
      congrArg (fun x : DataSt => p ((tabGet x.queues (q.p8 0)).getD {})) (Dev.reply_data ..)
    refine ⟨(hdata DQueue.recs ..).trans ?_, (hdata DQueue.gap ..).trans ?_, (hdata DQueue.drops ..).trans ?_, (hdata DQueue.seq ..).trans ?_⟩
    all_goals rw [Dev.dq_setDq, Dev.takeHead, Dev.dq_setDq]
    exact List.drop_eq_nil_of_le (Nat.le_refl _)

end Sys2Proof.Machine
end

section
/-!
PROOF. The standby watch receiver (chapter 22).
-/
namespace Sys2Proof.Machine

/-! ## What closing the contexts leaves -/

/-- The watch receiver and the calibration. -/
def Dev.watchSide (d : Dev) : WatchSt × CalSt := (d.watch, d.cal)

theorem Dev.raise_watchSide (src ctx : Nat) (payload : List Byte) (d : Dev) : (d.raise src ctx payload).watchSide = d.watchSide := by
  simp [Dev.watchSide]

theorem Dev.setCtx_watchSide (c : Nat) (f : CtxSt → CtxSt) (d : Dev) : (d.setCtx c f).watchSide = d.watchSide := by
  simp [Dev.watchSide]

theorem Dev.setInst_watchSide (n : Nat) (f : InstSt → InstSt) (d : Dev) : (d.setInst n f).watchSide = d.watchSide := by
  unfold Dev.setInst
  split <;> rfl

theorem Dev.setBind_watchSide (c : Nat) (f : BindSt → BindSt) (d : Dev) : (d.setBind c f).watchSide = d.watchSide := by
  unfold Dev.setBind
  split <;> rfl

theorem Dev.motReset_watchSide (c : Nat) (d : Dev) : (d.motReset c).watchSide = d.watchSide := by
  have hfail (n : Nat) (d : Dev) : (d.motFail c n).watchSide = d.watchSide := by
    unfold Dev.motFail
    split <;> rfl
  unfold Dev.motReset Dev.motDrop
  rw [Dev.setBind_watchSide]
  split
  · rw [Dev.setBind_watchSide, hfail]
  · rfl

theorem Dev.demodCold_watchSide (c : Nat) (d : Dev) : (d.demodCold c).watchSide = d.watchSide := by
  unfold Dev.demodCold
  rw [Dev.motReset_watchSide, Dev.setCtx_watchSide]
  rfl

theorem Dev.audioSync_watchSide (d : Dev) : d.audioSync.watchSide = d.watchSide :=
  (congrArg (fun d : Dev => d.watchSide) d.audioSync_sansAudio :)

theorem Dev.instRefresh_watchSide (n : Nat) (d : Dev) : (d.instRefresh n).watchSide = d.watchSide := by
  have hcold (d : Dev) : (d.instCold n).watchSide = d.watchSide := by
    unfold Dev.instCold
    refine (foldl_keeps Dev.watchSide _ ?_ _ _).trans rfl
    exact fun _ _ => rfl
  unfold Dev.instRefresh
  split
  · rw [hcold]
    dsimp only
    split <;> rfl
  · exact Dev.setInst_watchSide ..

theorem Dev.leaveInst_watchSide (c : Nat) (d : Dev) : (d.leaveInst c).watchSide = d.watchSide := by
  unfold Dev.leaveInst
  split
  · rfl
  · dsimp only
    rw [Dev.instRefresh_watchSide, Dev.onlyIf_leaves Dev.watchSide _ fun e => Dev.setInst_watchSide .., Dev.setCtx_watchSide]

theorem Dev.ctxEvent_watchSide (c old new cause : Nat) (d : Dev) : (d.ctxEvent c old new cause).watchSide = d.watchSide := by
  unfold Dev.ctxEvent
  split
  · rfl
  · exact Dev.onlyIf_leaves Dev.watchSide _ (fun e => Dev.raise_watchSide ..) d

theorem Dev.ctxGone_watchSide (c : Nat) (d : Dev) : (d.ctxGone c).watchSide = d.watchSide := by
  have hservice (d : Dev) (v : Nat) : (d.releaseService v).watchSide = d.watchSide := by
    unfold Dev.releaseService
    split
    · rfl
    · rename_i x hx
      refine (foldl_keeps Dev.watchSide _ ?_ (x.branches.drop 1) d : _)
      exact fun d b => by split <;> rfl
  exact foldl_keeps Dev.watchSide _ hservice _ d

theorem Dev.applyClose_watchSide (c : Nat) (d : Dev) : (d.applyClose c).watchSide = d.watchSide := by
  unfold Dev.applyClose
  split
  · rfl
  · rename_i x hx
    dsimp only
    rw [Dev.audioSync_watchSide, Dev.ctxGone_watchSide, Dev.demodCold_watchSide]
    refine (Dev.ctxEvent_watchSide ..).trans ((Dev.leaveInst_watchSide ..).trans ((Dev.setCtx_watchSide ..).trans ?_))
    cases x.slot <;> rfl

theorem Dev.closeAll_watchSide (d : Dev) : d.closeAll.watchSide = d.watchSide :=
  foldl_keeps Dev.watchSide _ (fun d c => d.applyClose_watchSide c) _ d

/-! ## Entering and leaving WATCH (R618-R620) -/

/-- The device as WATCH finds it once its regions are gated, its outputs stopped and its fabric ports silent. -/
def Dev.watchGated (d : Dev) : Dev :=
  (d.stopSyn1Run.gateRegions.stopAllOutputs.onlyIf d.cl.opening.isSome (Dev.answerLater .busy [])).fabricSleeps

theorem Dev.stopSyn1Run_spec (d : Dev) : d.stopSyn1Run.watch = d.watch ∧ d.stopSyn1Run.cal = { d.cal with syn1Run := none } := by
  unfold Dev.stopSyn1Run
  split
  · rename_i h
    exact ⟨rfl, by rw [← h]⟩
  · exact ⟨Dev.emit_watch .., Dev.emit_cal ..⟩

theorem Dev.gateRegions_spec (d : Dev) : d.gateRegions.watchSide = d.watchSide ∧ d.gateRegions.data = {}
    ∧ (d.watch.opts.retain = false → d.gateRegions.fb = {}) := by
  have hslots (d : Dev) : d.slotsOff.watchSide = d.watchSide ∧ d.slotsOff.fb = d.fb := by
    have h : (forAll (List.range 64) Dev.stopSlot d).watchSide = d.watchSide ∧ (forAll (List.range 64) Dev.stopSlot d).fb = d.fb := by
      refine ⟨foldl_keeps Dev.watchSide _ ?_ _ d, foldl_keeps Dev.fb _ ?_ _ d⟩ <;> exact fun _ _ => rfl
    exact h
  unfold Dev.gateRegions
  cases hr : d.watch.opts.retain with
  | true => exact ⟨(hslots d).1, rfl, fun h => by simp at h⟩
  | false => exact ⟨(hslots { d.closeAll with fb := {} }).1.trans d.closeAll_watchSide, rfl, fun _ => (hslots { d.closeAll with fb := {} }).2⟩

theorem Dev.eq_of_sansFabric {d e : Dev} (h : d.sansFabric = e.sansFabric) : d.watch = e.watch ∧ d.cal = e.cal ∧ d.data = e.data
    ∧ d.audio = e.audio ∧ d.fb = e.fb :=
  ⟨(congrArg Dev.watch h :), (congrArg Dev.cal h :), (congrArg Dev.data h :), (congrArg Dev.audio h :), (congrArg Dev.fb h :)⟩

theorem Dev.answerLater_sansStream (st : Status) (payload : List Byte) (d : Dev) : (d.answerLater st payload).sansStream = d.sansStream := by
  unfold Dev.answerLater
  split
  · rfl
  · exact Dev.reply_sansStream ..

theorem Dev.busyOpening_leaves (c : Bool) (d : Dev) : let e := d.onlyIf c (Dev.answerLater .busy [])
    e.watch = d.watch ∧ e.cal = d.cal ∧ e.data = d.data ∧ e.audio = d.audio ∧ e.fb = d.fb :=
  have h := Dev.onlyIf_leaves Dev.sansStream c (Dev.answerLater_sansStream .busy []) d
  ⟨(congrArg Dev.watch h :), (congrArg Dev.cal h :), (congrArg Dev.data h :), (congrArg Dev.audio h :), (congrArg Dev.fb h :)⟩

theorem Dev.stopAllOutputs_stopped (d : Dev) : ∀ x ∈ d.stopAllOutputs.audio.ports, x.run = .stopped := by
  intro x hx
  obtain ⟨y, _, rfl⟩ := List.mem_map.1 hx
  rfl

theorem Dev.watchGated_spec (d : Dev) : d.watchGated.watch = d.watch ∧ d.watchGated.cal.syn1Run = none ∧ d.watchGated.data = {}
    ∧ (∀ x ∈ d.watchGated.audio.ports, x.run = .stopped) ∧ (d.watch.opts.retain = false → d.watchGated.fb = {}) := by
  obtain ⟨hside, hdata, hfb⟩ := d.stopSyn1Run.gateRegions_spec
  obtain ⟨hw, hc⟩ := d.stopSyn1Run_spec
  obtain ⟨hsw, hsc⟩ := Prod.mk.inj hside
  unfold Dev.watchGated
  obtain ⟨fw, fc, fd, fa, ff⟩ := Dev.eq_of_sansFabric
    (d.stopSyn1Run.gateRegions.stopAllOutputs.onlyIf d.cl.opening.isSome (Dev.answerLater .busy [])).fabricSleeps_sansFabric
  obtain ⟨bw, bc, bd, ba, bf⟩ := d.stopSyn1Run.gateRegions.stopAllOutputs.busyOpening_leaves d.cl.opening.isSome
  rw [fw, fc, fd, fa, ff, bw, bc, bd, ba, bf]
  refine ⟨hsw.trans hw, ?_, hdata, Dev.stopAllOutputs_stopped _, fun h => hfb (by rw [hw]; exact h)⟩
  exact (congrArg CalSt.syn1Run hsc).trans (by rw [hc])

/-- A hop changes the receiver's place in its list. -/
theorem Dev.hopTo_spec (n : Nat) (tAvg : Int) (d : Dev) : ∃ hop cal, d.hopTo n tAvg = { d with watch.current := none, watch.hop := hop, watch.hopCal := cal }
    ∧ (n < d.watch.list.length → hop = some n) := by
  unfold Dev.hopTo
  split
  · rename_i h
    exact ⟨_, _, rfl, fun hlt => absurd h (by simp [hlt])⟩
  · exact ⟨_, _, rfl, fun _ => rfl⟩

theorem forall_mem_upd {α : Type} {p : α → Prop} {l : List α} (i : Nat) {f : α → α} (h : ∀ x ∈ l, p x) (hf : ∀ x, p x → p (f x)) :
    ∀ x ∈ upd l i f, p x := by
  intro x hx
  obtain ⟨k, hk⟩ := List.mem_iff_getElem?.1 hx
  rw [upd, List.getElem?_modify] at hk
  obtain ⟨y, hy, rfl⟩ := Option.map_eq_some_iff.1 hk
  have hp := h y (List.mem_of_getElem? hy)
  split
  · exact hf y hp
  · exact hp

/-- AX0's state in WATCH (R619) concerns the amplifiers alone. -/
theorem Dev.watchAmp_spec (d : Dev) : ∃ l, d.watchAmp = { d with rf.inputs := l, rf.eepQueue := [] }
    ∧ ((∀ x ∈ d.rf.inputs, x.mode = .off) → ∀ x ∈ l, x.mode = .off) := by
  have hoff (h : ∀ x ∈ d.rf.inputs, x.mode = .off) : ∀ x ∈ d.ampsOff.rf.inputs, x.mode = .off := by
    intro x hx
    obtain ⟨y, hy, rfl⟩ := List.mem_map.1 hx
    exact h y hy
  unfold Dev.watchAmp
  dsimp only
  split
  · exact ⟨_, rfl, hoff⟩
  · exact ⟨_, rfl, fun h => forall_mem_upd 0 (hoff h) fun _ hx => hx⟩

theorem Dev.inputsOff_off (d : Dev) : ∀ x ∈ d.inputsOff.rf.inputs, x.mode = .off := by
  intro x hx
  obtain ⟨y, _, rfl⟩ := List.mem_map.1 hx
  rfl

/-- The fields that R618 and R619 give as WATCH begins with options `o`. -/
def Dev.watchStarted (o : WatchOpts) (d : Dev) : Dev :=
  { d with
    pwr.mode := .watch
    cal := { d.cal with runs := [], syn0Run := none, holdEnd := [none, none, none, none] }
    survey := { d.survey with runs := [], began := none, complete := 0, clipped := 0 }
    clk := { d.clk with pllA := .stopped, change := none, audOn := false, audState := 0, audSince := none, audPending := false, refFaults := [], syn1 := 1 }
    watch := { d.watch with
      phase := .watching, since := d.now, parked := false, current := none
      gpio := if o.gpio = 0xFF then none else some (o.gpio % 8, !hasBit o.gpio 7) } }

theorem Dev.enterWatch_eq (tAvg : Int) (d : Dev) : d.enterWatch tAvg =
    ((d.watchGated.inputsOff.watchAmp.watchStarted d.watch.opts).emit 49 (u8 0 ++ u8 0xFF ++ ub d.watch.opts.retain ++ u8 0)).hopTo 0 tAvg := by
  unfold Dev.enterWatch Dev.watchStarted Dev.watchGated
  generalize (Dev.watchAmp _) = e
  rfl

theorem Dev.enterWatch_spec (tAvg : Int) (d : Dev) : (d.enterWatch tAvg).pwr.mode = .watch ∧ (d.enterWatch tAvg).watch.phase = .watching
    ∧ (d.enterWatch tAvg).clk.pllA = .stopped ∧ (d.enterWatch tAvg).cal.runs = [] ∧ (d.enterWatch tAvg).cal.syn1Run = none
    ∧ (d.enterWatch tAvg).data = {} ∧ (∀ x ∈ (d.enterWatch tAvg).audio.ports, x.run = .stopped)
    ∧ (∀ x ∈ (d.enterWatch tAvg).rf.inputs, x.mode = .off) ∧ (d.watch.list ≠ [] → (d.enterWatch tAvg).watch.hop = some 0)
    ∧ (d.watch.opts.retain = false → (d.enterWatch tAvg).fb = {}) := by
  obtain ⟨hw, hc, hd, hp, hb⟩ := d.watchGated_spec
  have hoff := d.watchGated.inputsOff_off
  have hsame : d.watchGated.inputsOff.watch = d.watchGated.watch ∧ d.watchGated.inputsOff.cal = d.watchGated.cal ∧
      d.watchGated.inputsOff.data = d.watchGated.data ∧ d.watchGated.inputsOff.audio = d.watchGated.audio ∧
      d.watchGated.inputsOff.fb = d.watchGated.fb := ⟨rfl, rfl, rfl, rfl, rfl⟩
  rw [Dev.enterWatch_eq]
  generalize d.watchGated.inputsOff = g at hoff hsame ⊢
  obtain ⟨gw, gc, gd, gp, gb⟩ := hsame
  rw [← gw] at hw
  rw [← gc] at hc
  rw [← gd] at hd
  rw [← gp] at hp
  rw [← gb] at hb
  obtain ⟨l, hamp, hl⟩ := g.watchAmp_spec
  rw [hamp]
  obtain ⟨hop, cal, h, hhop⟩ := Dev.hopTo_spec 0 tAvg (({ g with rf.inputs := l, rf.eepQueue := [] }.watchStarted d.watch.opts).emit 49
    (u8 0 ++ u8 0xFF ++ ub d.watch.opts.retain ++ u8 0))
  rw [h]
  simp only [Dev.emit_pwr, Dev.emit_watch, Dev.emit_clk, Dev.emit_cal, Dev.emit_data, Dev.emit_audio, Dev.emit_rf, Dev.emit_fb] at hhop ⊢
  refine ⟨rfl, rfl, rfl, rfl, hc, hd, hp, hl hoff, fun hl => hhop ?_, hb⟩
  exact List.length_pos_of_ne_nil ((congrArg WatchSt.list hw).trans_ne hl)

/-- The fields that R620 gives as ACTIVE is reached. -/
def Dev.watchEnded (d : Dev) : Dev :=
  { d with
    pwr.mode := .active
    clk := { d.clk with pllA := .locked, pllAOffset := 0, plldLive := 0, audState := 4, audSince := some d.now, syn1 := 0 }
    watch := { d.watch with phase := .off, since := d.now, current := none, hop := none, hopCal := false } }

theorem Dev.exitWatch_eq (d : Dev) : d.exitWatch =
    (forAll (List.range 4) (fun p e => e.setCause p 5 false) (((d.inputsOff.ampsOff).surveyDrop fun _ => true).watchEnded.emit 49
      (u8 d.watch.exit.1 ++ u8 d.watch.exit.2 ++ ub d.watch.opts.retain ++ u8 0))).rejoins.gpioRelease := rfl

theorem Dev.rejoins_spec (d : Dev) : ∃ since cl, d.rejoins = { d with clk.pllFSince := since, cl := cl } := by
  unfold Dev.rejoins Dev.restartPorts
  split <;> exact ⟨_, _, rfl⟩

theorem Dev.gpioRelease_spec (d : Dev) : ∃ g, d.gpioRelease = { d with watch.gpio := g } := by
  unfold Dev.gpioRelease
  split <;> exact ⟨_, rfl⟩

/-- The cause of muting that leaving WATCH ends leaves everything but the events and the outputs. -/
theorem Dev.unmuteAll_sansAudio (d : Dev) : (forAll (List.range 4) (fun p e => e.setCause p 5 false) d).sansAudio = d.sansAudio :=
  foldl_keeps Dev.sansAudio _ (fun _ _ => Dev.setCause_sansAudio ..) _ d

theorem Dev.exitWatch_spec (d : Dev) : d.exitWatch.pwr.mode = .active ∧ d.exitWatch.watch.phase = .off ∧ d.exitWatch.clk.pllA = .locked
    ∧ d.exitWatch.clk.audState = 4 ∧ d.exitWatch.trav = d.trav ∧ (∀ x ∈ d.exitWatch.rf.inputs, x.mode = .off) := by
  rw [Dev.exitWatch_eq]
  generalize hx : ((d.inputsOff.ampsOff).surveyDrop fun _ => true).watchEnded.emit 49
    (u8 d.watch.exit.1 ++ u8 d.watch.exit.2 ++ ub d.watch.opts.retain ++ u8 0) = x
  have h := x.unmuteAll_sansAudio
  generalize forAll (List.range 4) (fun p e => e.setCause p 5 false) x = y at h ⊢
  obtain ⟨since, cl, hr⟩ := y.rejoins_spec
  rw [hr]
  obtain ⟨g, hg⟩ := Dev.gpioRelease_spec { y with clk.pllFSince := since, cl := cl }
  rw [hg]
  have hpwr : y.pwr = x.pwr := (congrArg Dev.pwr h :)
  have hwatch : y.watch = x.watch := (congrArg Dev.watch h :)
  have hclk : y.clk = x.clk := (congrArg Dev.clk h :)
  have htrav : y.trav = x.trav := (congrArg Dev.trav h :)
  have hrf : y.rf = x.rf := (congrArg Dev.rf h :)
  dsimp only
  rw [hpwr, hwatch, hclk, htrav, hrf, ← hx]
  simp only [Dev.emit_pwr, Dev.emit_watch, Dev.emit_clk, Dev.emit_trav, Dev.emit_rf]
  refine ⟨rfl, rfl, rfl, rfl, rfl, fun z hz => ?_⟩
  obtain ⟨u, hu, rfl⟩ := List.mem_map.1 hz
  exact d.inputsOff_off u hu

/-! ## Dwells (R614-R616) -/

theorem Dev.inDwell_eq {ticks : WatchEntry → Nat} {f : Nat → WatchEntry → Dev → Dev} {d : Dev} {n : Nat} {en : WatchEntry}
    (hc : d.watch.current = some n) (hn : d.watch.list[n]? = some en) (hp : d.watch.phase = .watching) (ht : d.watch.dwellAt + ticks en ≤ d.now) :
    d.inDwell ticks f = f n en d := by
  unfold Dev.inDwell
  rw [hc]
  dsimp only
  rw [hn]
  dsimp only
  rw [hp, decide_eq_true ht]
  rfl

theorem Dev.hopTo_current (n : Nat) (tAvg : Int) (d : Dev) : (d.hopTo n tAvg).watch.current = none ∧ (d.hopTo n tAvg).cal = d.cal := by
  obtain ⟨hop, cal, h, -⟩ := d.hopTo_spec n tAvg
  rw [h]
  exact ⟨rfl, rfl⟩

/-- The end of a dwell leaves no channel in dwell and the calibration as it was. -/
theorem Dev.dwellOver_current (n r : Nat) (tAvg : Int) (d : Dev) :
    (d.dwellOver n r tAvg).watch.current = none ∧ (d.dwellOver n r tAvg).cal = d.cal := by
  unfold Dev.dwellOver
  dsimp only
  split
  · exact Dev.hopTo_current ..
  · unfold Dev.advance
    dsimp only
    refine ⟨(Dev.hopTo_current ..).1, (Dev.hopTo_current ..).2.trans ?_⟩
    split <;> rfl

/-- The end of a dwell with no list waiting: its result is kept and the hop to the next entry begins. -/
theorem Dev.dwellOver_next {n r : Nat} {tAvg : Int} {d : Dev} {en : WatchEntry} (hn : d.watch.list[n]? = some en) (h : d.watch.next = none) :
    (d.dwellOver n r tAvg).watch.hop = some (if d.watch.list.length ≤ n + 1 then 0 else n + 1)
      ∧ (d.dwellOver n r tAvg).watch.cycles = (if d.watch.list.length ≤ n + 1 then satAdd 0xFFFFFFFF d.watch.cycles 1 else d.watch.cycles)
      ∧ ((d.dwellOver n r tAvg).watch.list[n]?).map (·.result) = some r := by
  have hlt : n < d.watch.list.length := (List.getElem?_eq_some_iff.1 hn).1
  have hlen : (d.setWatch n fun x => { x with result := r, dwells := satAdd 0xFFFF x.dwells 1 }).watch.list.length = d.watch.list.length :=
    List.length_modify ..
  have hres : ((d.setWatch n fun x => { x with result := r, dwells := satAdd 0xFFFF x.dwells 1 }).watch.list[n]?).map (·.result) = some r := by
    simp [Dev.setWatch, upd, hn]
  unfold Dev.dwellOver
  generalize he : d.setWatch n (fun x => { x with result := r, dwells := satAdd 0xFFFF x.dwells 1 }) = e at hlen hres ⊢
  have hnext : e.watch.next = none := by rw [← he]; exact h
  have hcyc : e.watch.cycles = d.watch.cycles := by rw [← he]; rfl
  dsimp only
  rw [hnext]
  dsimp only
  unfold Dev.advance
  dsimp only
  rw [hlen]
  by_cases hlast : d.watch.list.length ≤ n + 1
  · simp only [hlast, if_true]
    obtain ⟨hop, cal, hh, hhop⟩ := Dev.hopTo_spec 0 tAvg { e with watch.cycles := satAdd 0xFFFFFFFF e.watch.cycles 1 }
    rw [hh]
    exact ⟨hhop (by dsimp only; omega), by rw [← hcyc], hres⟩
  · simp only [hlast, if_false]
    obtain ⟨hop, cal, hh, hhop⟩ := Dev.hopTo_spec (n + 1) tAvg e
    rw [hh]
    exact ⟨hhop (by omega), hcyc, hres⟩

/-- An alarm that begins or ends on the entry in dwell (R616, R620). -/
theorem Dev.alarmChange_spec {n : Nat} {en : WatchEntry} {d : Dev} (hn : d.watch.list[n]? = some en) (hp : d.watch.phase = .watching)
    (act : Bool) (origin id : Nat) (blocks : List Nat) : let e := d.alarmChange n en act origin id blocks
    e.watch.list[n]? = some { en with alarm := act, alerts := satAdd 0xFFFF en.alerts 1 } ∧ e.watch.lastAlert = d.now
      ∧ e.watch.phase = (if act && d.watch.opts.wake then .leaving else .watching) := by
  have hlist : (d.setWatch n fun x => { x with alarm := act, alerts := satAdd 0xFFFF x.alerts 1 }).watch.list[n]? =
      some { en with alarm := act, alerts := satAdd 0xFFFF en.alerts 1 } := by
    simp [Dev.setWatch, upd, hn]
  unfold Dev.alarmChange
  dsimp only
  cases act with
  | false =>
    simp only [Bool.not_false, if_true, Dev.emit_watch]
    exact ⟨hlist, trivial, hp⟩
  | true =>
    simp only [Bool.not_true, Bool.false_eq_true, if_false, hp, beq_self_eq_true, Bool.and_true, Bool.true_and]
    cases hwake : d.watch.opts.wake with
    | false =>
      simp only [Dev.onlyIf_false, Dev.emit_watch]
      exact ⟨hlist, trivial, hp⟩
    | true =>
      simp only [Dev.onlyIf_true, Dev.leaveWatch, Dev.emit_watch]
      exact ⟨hlist, trivial, (if_pos trivial).symm⟩

/-! ## The rows of a dwell: the receiver runs and dwells on entry `n`, which is `en` -/

section
variable {s : State} {n : Nat} {en : WatchEntry} (hw : s.dev.watching = true) (hp : s.dev.watch.phase = .watching)
  (hc : s.dev.watch.current = some n) (hn : s.dev.watch.list[n]? = some en) (dt : Nat) (tAvg : Int)
include hp

include hw in
theorem State.watchReports_tick : ((s.dev.tick dt).watching && (s.dev.tick dt).watchReports) = true := by
  rw [show (s.dev.tick dt).watching = true from hw, Dev.watchReports, show (s.dev.tick dt).watch.phase = .watching from hp]
  rfl

include hc hn

/-- The dwell acts once its ticks have passed. -/
theorem State.inDwell_tick {ticks : WatchEntry → Nat} {f : Nat → WatchEntry → Dev → Dev}
    (ht : s.dev.watch.dwellAt + ticks en ≤ (s.dev.tick dt).now) : (s.dev.tick dt).inDwell ticks f = f n en (s.dev.tick dt) :=
  Dev.inDwell_eq (d := s.dev.tick dt) hc hn hp ht

include hw

theorem State.levelMeasured_spec {lv : Nat} (hlv : lv < 256) (hm : s.dev.watch.measured = false)
    (ht : s.dev.watch.dwellAt + msec 2 ≤ (s.dev.tick dt).now) :
    let m : Dev := { ((s.dev.tick dt).setWatch n fun x => { x with level := lv }) with watch.measured := true }
    exec (.watchLevelMeasured dt lv tAvg) s = .next (s.after dt (if lv < en.minLevel then m.dwellOver n 1 tAvg else m)) := by
  have hcond : ((s.dev.tick dt).watching && !(s.dev.tick dt).watch.measured) = true := by
    rw [show (s.dev.tick dt).watching = true from hw, show (s.dev.tick dt).watch.measured = false from hm]
    rfl
  refine (exec_watchLevelMeasured ..).trans (State.runIf_of_eq hcond ((State.inDwell_tick hp hc hn dt ht).trans ?_))
  dsimp only
  rw [Nat.mod_eq_of_lt hlv]

theorem State.dwellEnd_spec {seen : List WatchSeen} (ht : s.dev.watch.dwellAt ≤ (s.dev.tick dt).now) :
    exec (.watchDwellEnd dt seen tAvg) s = .next (s.after dt (if s.dev.watch.dwellAt + en.dwellMax ≤ (s.dev.tick dt).now
        || (!en.alarm && en.earlyEnd seen) then (s.dev.tick dt).dwellOver n (if en.alarm then 4 else 3) tAvg else s.dev.tick dt)) :=
  (exec_watchDwellEnd ..).trans (State.runIf_of_eq hw (State.inDwell_tick hp hc hn dt ht))

theorem State.syn1LockLoss_spec (ht : s.dev.watch.dwellAt ≤ (s.dev.tick dt).now) :
    ∃ t, exec (.syn1LockLoss dt tAvg) s = .next t ∧ t.dev.watch.current = none
      ∧ (s.dev.watch.next = none → (t.dev.watch.list[n]?).map (·.result) = some 5)
      ∧ ∀ x ∈ t.dev.cal.syn1, x.freq = en.freq → x.invalid = true := by
  refine ⟨_, (exec_syn1LockLoss ..).trans (State.runIf_of_eq hw (State.inDwell_tick hp hc hn dt ht)), ?_⟩
  generalize hx : ({ s.dev.tick dt with
    cal.syn1 := updWhere (s.dev.tick dt).cal.syn1 (·.freq == en.freq) fun x => { x with invalid := true } } : Dev) = x
  have hxl : x.watch.list[n]? = some en := by rw [← hx]; exact hn
  obtain ⟨hcur, hcal⟩ := x.dwellOver_current n 5 tAvg
  refine ⟨hcur, fun hnext => (Dev.dwellOver_next hxl (by rw [← hx]; exact hnext)).2.2, fun y hy hf => ?_⟩
  have hy' : y ∈ x.cal.syn1 := by rw [← hcal]; exact hy
  rw [← hx] at hy'
  obtain ⟨z, _, rfl⟩ := List.mem_map.1 hy'
  by_cases hz : (z.freq == en.freq) = true
  · rw [if_pos hz]
  · rw [if_neg hz] at hf
    exact absurd (beq_iff_eq.2 hf) hz

/-- An alarm state is counted while it is another one and the identifier received is the expected one (log 141). -/
theorem State.alarmStateChange_spec {seen : List WatchSeen} {act : Bool} {o : Nat} {blocks : List Nat} (h : en.shows seen = some (act, o, blocks)) :
    exec (.watchAlarmStateChange dt seen) s = .next (s.after dt (if en.alarm == act || (en.id != 0 && en.id != en.received seen)
      then s.dev.tick dt else (s.dev.tick dt).alarmChange n en act o (en.received seen) blocks)) := by
  refine (exec_watchAlarmStateChange ..).trans (State.runIf_of_eq (State.watchReports_tick hw hp dt) ?_)
  simp only [show (s.dev.tick dt).watch.current = some n from hc, show (s.dev.tick dt).watch.list[n]? = some en from hn, h]

theorem State.alarmStateChange_nothing {seen : List WatchSeen} (h : en.shows seen = none) :
    exec (.watchAlarmStateChange dt seen) s = .next (s.after dt (s.dev.tick dt)) := by
  refine (exec_watchAlarmStateChange ..).trans (State.runIf_of_eq (State.watchReports_tick hw hp dt) ?_)
  simp only [show (s.dev.tick dt).watch.current = some n from hc, show (s.dev.tick dt).watch.list[n]? = some en from hn, h]

end

/-- Settles O54. A SYN1 calibration that runs stops as WATCH begins (log 92), an alarm counts with the expected identifier only (log 141),
WATCH_ENTER during an entry or with a staged list is judged on it (logs 74, 89), and a row outside its condition lets its time pass (log 7). -/
theorem watchRows : Obligations.WatchRows := by
  unfold Obligations.WatchRows
  intro s dt tAvg d w
  refine ⟨fun n hw hp hc hh => ?hop, fun n en hw hp hc hn => ?dwell, fun ha hp hk hr hs => ?boundary, fun ha hp hk => ?enter, fun hw hp => ?exit,
    fun q e hb => ⟨?list, fun h ho hl h0 h1 h2 h4 h3 hz hw hst hruns hrun0 hjob hamp => ?watchEnter,
      fun h hl => ?status⟩⟩
  case hop =>
    refine (exec_watchHopComplete ..).trans (State.runIf_of_eq ?_ ?_)
    · rw [show (s.dev.tick dt).watching = true from hw, show (s.dev.tick dt).watch.phase = .watching from hp, show (s.dev.tick dt).watch.hopCal = false from hc]
      rfl
    · rw [show (s.dev.tick dt).watch.hop = some n from hh]
  case dwell =>
    have hn' : d.watch.list[n]? = some en := hn
    refine ⟨fun lv hlv hm ht => ?level, fun ht => (exec_watchNoSyncTimeout ..).trans (State.runIf_of_eq hw (State.inDwell_tick hp hc hn dt ht)),
      fun seen ht => ?ends, State.syn1LockLoss_spec hw hp hc hn dt tAvg, fun hx => ?next, fun seen => ⟨State.alarmStateChange_nothing hw hp hc hn dt,
        fun act o blocks h => ?alarm⟩⟩
    case level =>
      have h := State.levelMeasured_spec hw hp hc hn dt tAvg hlv hm ht
      exact ⟨fun hl => h.trans (congrArg (fun e => Host.Outcome.next (s.after dt e)) (if_neg (Nat.not_lt.2 hl))),
        fun hl => h.trans (congrArg (fun e => Host.Outcome.next (s.after dt e)) (if_pos hl))⟩
    case ends =>
      have h := State.dwellEnd_spec hw hp hc hn dt tAvg (seen := seen) ht
      exact ⟨fun hx => by rwa [if_pos (by simpa using hx)] at h, fun h1 h2 => by rwa [if_neg (by simpa using ⟨h1, fun ha => h2.resolve_left (by simp [ha])⟩)] at h⟩
    case next =>
      obtain ⟨h1, h2, -⟩ := Dev.dwellOver_next (r := 1) (tAvg := tAvg) hn' hx
      exact ⟨h1, (d.dwellOver_current n 1 tAvg).1, h2⟩
    case alarm =>
      have hx := State.alarmStateChange_spec hw hp hc hn dt h
      refine ⟨fun hs => by rwa [if_pos (by simpa using hs)] at hx, fun h1 h2 => ⟨_, hx.trans (congrArg (fun e => Host.Outcome.next (s.after dt e)) (if_neg ?_)), ?_⟩⟩
      · rcases h2 with h2 | h2 <;> simp [h1, h2]
      · exact Dev.alarmChange_spec hn' hp act o (en.received seen) blocks
  case boundary =>
    refine (exec_watchEntryBoundary ..).trans (State.runIf_of_eq ?_ rfl)
    rw [show (s.dev.tick dt).active = true from ha, show (s.dev.tick dt).watch.phase = .entering from hp, show (s.dev.tick dt).watch.parked = false from hk,
      show (s.dev.tick dt).now % roundTicks = 0 from hr, decide_eq_true (show (s.dev.tick dt).watch.since + msec 5 ≤ (s.dev.tick dt).now from hs)]
    rfl
  case enter =>
    have hcond : ((s.dev.tick dt).active && (s.dev.tick dt).watch.phase == .entering && (s.dev.tick dt).watch.parked) = true := by
      rw [show (s.dev.tick dt).active = true from ha, show (s.dev.tick dt).watch.phase = .entering from hp, show (s.dev.tick dt).watch.parked = true from hk]
      rfl
    refine ⟨_, (exec_watchEntered ..).trans (State.runIf_next _ hcond), ?_⟩
    have h := (s.dev.tick dt).enterWatch_spec tAvg
    generalize (s.dev.tick dt).enterWatch tAvg = e at h ⊢
    exact h
  case exit =>
    have hcond : ((s.dev.tick dt).watching && (s.dev.tick dt).watch.phase == .leaving) = true := by
      rw [show (s.dev.tick dt).watching = true from hw, show (s.dev.tick dt).watch.phase = .leaving from hp]
      rfl
    refine ⟨_, (exec_watchExitComplete ..).trans (State.runIf_next _ hcond), ?_⟩
    have h := (s.dev.tick dt).exitWatch_spec
    generalize (s.dev.tick dt).exitWatch = e at h ⊢
    exact h
  case list =>
    intro l h ho h0 hl hz hbad hnd hfit
    have hdrm : (!e.hasDrm && l.any fun e => e.std == 3 || e.std == 4) = false := by
      cases hd : e.hasDrm with
      | true => rfl
      | false =>
        rw [Bool.not_false, Bool.true_and, List.any_eq_false]
        intro x hx
        have := (hfit x hx).resolve_right (by simp [hd])
        simp only [Bool.or_eq_true, beq_iff_eq]
        omega
    have hpass : ∀ p ∈ [(16 < q.p8 0 || q.len != 4 + 12 * q.p8 0, Status.badLength), (!e.hasDrm && l.any (fun e => e.std == 3 || e.std == 4), .notFitted),
        (q.badHeader || !zeroAt q.params 1 3 || l.any WatchEntry.bad || hasRepeat (l.map fun e => 8 * e.freq + e.std), .badParam),
        (q.notSystem e, .notOwner)], p.1 = false := by
      simp only [List.mem_cons, List.not_mem_nil, or_false, forall_eq_or_imp, forall_eq]
      refine ⟨by simp [hl]; omega, hdrm, ?_, Req.notSystem_owner ho⟩
      rw [hb, hz, hbad, hasRepeat_of_nodup hnd]
      rfl
    have hrun (go : Res) : checked e _ go = go := checked_of_passes hpass
    have hfits := State.admits_fits (pl := []) h rfl (by simp)
    refine ⟨fun hbusy => ?_, fun hbusy hin => ?_, fun hbusy hin hcur => ?_, fun hbusy hin hcur => ?_⟩
    · exact (exec_watchList ..).trans (State.command_deferred h ((hrun _).trans (if_pos hbusy)) hfits)
    all_goals
      have hidle : ¬ e.syn1Busy = true := by simp [hbusy]
      refine (exec_watchList ..).trans (State.command_ok h ((hrun _).trans ((if_neg hidle).trans ?_)) hfits)
    · exact if_pos (by rw [hin]; rfl)
    · exact (if_neg (by rw [hin]; decide)).trans (if_pos hcur)
    · exact (if_neg (by rw [hin]; decide)).trans (if_neg (by rw [hcur]; decide))
  case watchEnter =>
    have hgpio : (q.p8 3 != 0xFF && q.p8 3 / 8 % 16 != 0) = false := by rcases h3 with h3 | h3 <;> simp [h3]
    have hamp' : (q.p8 2 != 0 && (e.inp 0).amp.faulted) = false := by rcases hamp with hamp | hamp <;> simp [hamp]
    have hpass : ∀ p ∈ [(q.len != 8, Status.badLength),
        (q.badHeader || 1 < q.p8 0 || 1 < q.p8 1 || 2 < q.p8 2 || 1 < q.p8 4 || (q.p8 3 != 0xFF && q.p8 3 / 8 % 16 != 0) || !zeroAt q.params 5 3, .badParam),
        (q.notSystem e, .notOwner),
        (e.inWatch || e.stagedWatch.isEmpty || !e.cal.runs.isEmpty || e.cal.syn0Run.isSome || e.sec.job.isSome
          || (q.p8 2 != 0 && (e.inp 0).amp.faulted), .wrongState)], p.1 = false := by
      simp only [List.mem_cons, List.not_mem_nil, or_false, forall_eq_or_imp, forall_eq]
      refine ⟨by simp [hl], ?_, Req.notSystem_owner ho, ?_⟩
      · rw [hb, hgpio, hz]
        simp [h0, h1, h2, h4]
      · rw [hw, hruns, hrun0, hjob, hamp', List.isEmpty_eq_false_iff.2 hst]
        rfl
    have hrun (go : Res) : checked e _ go = go := checked_of_passes hpass
    refine ⟨fun hbusy => ?_, fun hbusy => ?_⟩
    · exact (exec_watchEnter ..).trans (State.command_deferred h ((hrun _).trans (if_pos hbusy)) (State.admits_fits h rfl (by simp)))
    · exact (exec_watchEnter ..).trans (State.command_ok h ((hrun _).trans (if_neg (by simp [hbusy]))) (State.admits_fits h rfl (by simp)))
  case status =>
    intro w pl hfits
    refine (exec_watchStatus ..).trans (State.command_passes h rfl ?_ hfits)
    simp only [List.mem_cons, List.not_mem_nil, or_false, forall_eq_or_imp, forall_eq]
    exact ⟨by simp [hl], hb⟩

end Sys2Proof.Machine
end

section
/-!
PROOF. The rows of DAB (chapter 16).
-/
namespace Sys2Proof.Machine

/-! ## What the data queues' records leave (R592) -/

/-- The device but for the events and the data queues. -/
def Dev.sansData (d : Dev) : Dev := { d.sansEvents with data := {} }

theorem Dev.raise_sansData (src ctx : Nat) (payload : List Byte) (d : Dev) : (d.raise src ctx payload).sansData = d.sansData :=
  congrArg (fun d : Dev => { d with data := {} }) (d.raise_sansEvents src ctx payload)

theorem Dev.enqueue_sansData (q c : Nat) (rs : List (List Byte)) (d : Dev) : (d.enqueue q c rs).sansData = d.sansData := by
  unfold Dev.enqueue
  dsimp only
  split
  · rfl
  · split
    · exact Dev.raise_sansData ..
    · exact Dev.onlyIf_leaves Dev.sansData _ (fun _ => Dev.raise_sansData ..) _

theorem Dev.writeRecords_sansData (c typ time : Nat) (payloads : List (List Byte)) (d : Dev) :
    (d.writeRecords c typ time payloads).sansData = d.sansData := by
  unfold Dev.writeRecords
  split
  · exact Dev.enqueue_sansData ..
  · rfl

theorem Dev.alert_sansData (c : Nat) (payload : List Byte) (d : Dev) : (d.alert c payload).sansData = d.sansData :=
  (Dev.writeRecords_sansData ..).trans (Dev.raise_sansData ..)

/-! ## A DAB receiver's synchronisation, as one frame ends (R443-R446) -/

/-- What the end of a frame's samples leaves of a DAB receiver: its state, its path and the time of its frame, and its database. -/
def DabInst.timing (x : DabInst) : Nat × Nat × Nat × DabConf := (x.sync, x.spread, x.frameTime, x.conf)

theorem Dev.dabInst_of_dem {d e : Dev} (h : d.dem = e.dem) (n : Nat) : d.dabInst n = e.dabInst n := by
  unfold Dev.dabInst
  rw [h]

theorem Dev.addC_dem (c : Nat) (delta : Int) (d : Dev) : (d.addC c delta).dem = d.dem :=
  (congrArg Dev.dem (Dev.addC_sansSlots c delta d) :)

theorem Dev.dabWrite_timing (n : Nat) (sum : Int) (count : Nat) (d : Dev) : ((d.dabWrite n sum count).dabInst n).timing = (d.dabInst n).timing := by
  unfold Dev.dabWrite
  dsimp only
  rw [Dev.dabInst_setDabInst, Dev.dabInst_of_dem (Dev.addC_dem ..)]
  rfl

theorem Dev.dabTrack_timing (n : Nat) (resid : Int) (d : Dev) : ((d.dabTrack n resid).dabInst n).timing = (d.dabInst n).timing := by
  unfold Dev.dabTrack
  dsimp only
  split
  · exact Dev.dabWrite_timing ..
  · rw [Dev.dabInst_setDabInst]
    rfl

/-- The `timing` of DAB receiver `n`. -/
def Dev.timingOf (n : Nat) (d : Dev) : Nat × Nat × Nat × DabConf := (d.dabInst n).timing

theorem Dev.dabFreq_timing (n : Nat) (d : Dev) : ((d.dabFreq n).dabInst n).timing = (d.dabInst n).timing := by
  unfold Dev.dabFreq
  dsimp only
  split
  · rfl
  · rename_i mhz _
    generalize hd : d.setDabInst n _ = d0
    have h0 : d0.timingOf n = d.timingOf n := by
      rw [← hd, Dev.timingOf, Dev.dabInst_setDabInst]
      rfl
    have h1 : Dev.timingOf n (if (d.dabInst n).cWritten then d0.dabTrack n mhz else d0.onlyIf (!d0.instFlagged n) (Dev.dabWrite n mhz 1)) =
        d.timingOf n := by
      split
      · exact (Dev.dabTrack_timing ..).trans h0
      · exact (Dev.onlyIf_leaves (Dev.timingOf n) _ (fun _ => Dev.dabWrite_timing ..) _).trans h0
    split
    · exact h1
    · refine (foldl_keeps (Dev.timingOf n) _ ?_ _ _).trans h1
      exact fun _ _ => rfl

theorem Dev.dabMove_timing (n : Nat) (d : Dev) : ((d.dabMove n).dabInst n).timing = (d.dabInst n).timing := by
  unfold Dev.dabMove
  dsimp only
  split
  · rfl
  · split
    · rfl
    · split
      · rw [Dev.dabInst_setDabInst, Dev.dabInst_setDabInst]
        rfl
      · have hslip (k : Nat) (by_ : Int) (e : Dev) : (e.slipSlot k by_).dabInst n = e.dabInst n := rfl
        split
        · rw [hslip, Dev.dabInst_setDabInst]
          rfl
        · rw [Dev.dabInst_setDabInst]
          rfl

theorem DabInst.endFrame_timing (x : DabInst) : x.endFrame.timing = x.timing := by
  unfold DabInst.endFrame
  dsimp only
  split <;> rfl

theorem Dev.dabSettle_timing (n was : Nat) (d : Dev) : ((d.dabSettle n was).dabInst n).timing = (d.dabInst n).timing := by
  have hend (e : Dev) : (e.setDabInst n DabInst.endFrame).timingOf n = e.timingOf n := by
    rw [Dev.timingOf, Dev.dabInst_setDabInst]
    exact DabInst.endFrame_timing _
  exact (Dev.dabMove_timing ..).trans ((Dev.onlyIf_leaves (Dev.timingOf n) _ hend _).trans (Dev.dabFreq_timing ..))

/-! ## Selections, offers and alarms (R452, R463-R465, R469) -/

/-- The instances. -/
def Dev.insts (d : Dev) : List (Nat × DabInst) := d.dem.insts

theorem Dev.dabInst_of_insts {d e : Dev} (h : d.insts = e.insts) (n : Nat) : d.dabInst n = e.dabInst n := by
  unfold Dev.dabInst
  rw [show d.dem.insts = e.dem.insts from h]

theorem Dev.ensAll_dem (n cause : Nat) (d : Dev) : (d.ensAll n cause).dem = d.dem :=
  foldl_keeps Dev.dem _ (fun _ _ => Dev.raise_dem ..) _ d

theorem Dev.ensAll_chan (n cause : Nat) (d : Dev) : (d.ensAll n cause).chan = d.chan :=
  foldl_keeps Dev.chan _ (fun _ _ => Dev.raise_chan ..) _ d

theorem Dev.ensChanged_insts (n c cause reason : Nat) (d : Dev) : (d.ensChanged n c cause reason).insts = d.insts := by
  unfold Dev.insts Dev.ensChanged
  dsimp only
  rw [Dev.raise_dem]

theorem Dev.dabRestart_insts (c : Nat) (s : DabSub) (d : Dev) : (d.dabRestart c s).insts = d.insts := by
  unfold Dev.dabRestart Dev.setCtx
  split <;> rfl

theorem Dev.dabTry_insts (n c : Nat) (d : Dev) : (d.dabTry n c).insts = d.insts := by
  unfold Dev.dabTry
  dsimp only
  split
  · rfl
  · split
    · rfl
    · exact (Dev.onlyIf_leaves Dev.insts _ (fun _ => Dev.ensChanged_insts ..) _).trans (Dev.dabRestart_insts ..)
    · split
      · exact Dev.ensChanged_insts ..
      · rfl

theorem Dev.dabTryAll_insts (n : Nat) (d : Dev) : (d.dabTryAll n).insts = d.insts :=
  foldl_keeps Dev.insts _ (fun _ _ => Dev.dabTry_insts ..) _ d

/-- An offer leaves of its DAB receiver everything but the offers made. -/
def DabInst.sansOffers (x : DabInst) : DabInst := { x with offered := [] }

theorem Dev.dabServices_sansOffers (n : Nat) (d : Dev) : ((d.dabServices n).dabInst n).sansOffers = (d.dabInst n).sansOffers := by
  have hoffer (o : FbOffer) (d : Dev) : ((d.dabOffer n o).dabInst n).sansOffers = (d.dabInst n).sansOffers := by
    unfold Dev.dabOffer
    dsimp only
    refine (Dev.onlyIf_leaves (fun d => (d.dabInst n).sansOffers) _ (f := Dev.offer o) ?_ _).trans ?_
    · exact fun _ => rfl
    · rw [Dev.dabInst_setDabInst]
      rfl
  unfold Dev.dabServices
  dsimp only
  split
  · rfl
  · split
    · rfl
    · exact foldl_keeps (fun d : Dev => (d.dabInst n).sansOffers) _ (fun d v => hoffer _ d) _ d

/-- The clusters of DAB receiver `n` and the present time. -/
def Dev.clustersAt (n : Nat) (d : Dev) : List DabCluster × Nat := ((d.dabInst n).clusters, d.now)

theorem Dev.clustersAt_of_sansData {d e : Dev} (h : d.sansData = e.sansData) (n : Nat) : d.clustersAt n = e.clustersAt n :=
  (congrArg (Dev.clustersAt n) h :)

theorem Dev.clusterSeen_clustersAt (n : Nat) (k : DabCluster) (d : Dev) : (d.clusterSeen n k).clustersAt n = d.clustersAt n := by
  have hev (c state follow : Nat) (k : DabCluster) (d : Dev) : (d.annEvent c state k follow).clustersAt n = d.clustersAt n :=
    Dev.clustersAt_of_sansData (Dev.raise_sansData ..) n
  have hend (c : Nat) (d : Dev) : (d.annEnd c k).clustersAt n = d.clustersAt n := by
    unfold Dev.annEnd
    split
    · rfl
    · exact (hev ..).trans rfl
  have hbegin (c : Nat) (d : Dev) : (d.annBegin n c k).clustersAt n = d.clustersAt n := (hev ..).trans rfl
  have halert (o : Nat) (d : Dev) : (d.dabAlert n o k).clustersAt n = d.clustersAt n :=
    foldl_keeps (Dev.clustersAt n) _ (fun _ _ => Dev.clustersAt_of_sansData (Dev.alert_sansData ..) n) _ d
  have halarm (b : Bool) (d : Dev) : (d.setDabInst n fun x => { x with alarm := b }).clustersAt n = d.clustersAt n := by
    unfold Dev.clustersAt
    rw [Dev.dabInst_setDabInst]
    rfl
  unfold Dev.clusterSeen
  dsimp only
  generalize he : forAll (d.memberNums n) _ d = e
  have h : e.clustersAt n = d.clustersAt n := by
    rw [← he]
    refine foldl_keeps (Dev.clustersAt n) _ (fun d c => ?_) _ d
    dsimp only
    split
    · exact hend ..
    · exact Dev.onlyIf_leaves (Dev.clustersAt n) _ (hbegin c) d
  split
  · exact h
  · split
    · exact (halert ..).trans ((halarm ..).trans h)
    · split
      · exact (halert ..).trans ((halarm ..).trans h)
      · exact h

/-! ## The rows of a DAB receiver -/

theorem State.after_dabInst (s : State) (dt n : Nat) (e : Dev) : (s.after dt e).dev.dabInst n = e.dabInst n := rfl

theorem DabInst.nullFound_sync (x : DabInst) (h : x.sync ≠ 0) : x.nullFound.sync = x.sync ∧ x.nullFound.dsp = x.dsp := by
  unfold DabInst.nullFound
  split
  · contradiction
  · split <;> exact ⟨rfl, rfl⟩
  · exact ⟨rfl, rfl⟩

theorem DabInst.nullFound_search (x : DabInst) (h : x.sync = 0) : x.nullFound = match x.dsp.lead.findNull with
    | some (_, e) => { x with sync := 1, nullSeen := true, dsp := { x.dsp with win := some (e + dabLead), next := 0 } }
    | none => x := by
  unfold DabInst.nullFound
  rw [h]
  rfl

section
variable {s : State} {n : Nat} (ha : s.dev.active = true) (hn : s.dev.instRuns n = true) (dt : Nat)
include ha hn

theorem State.instRuns_tick : ((s.dev.tick dt).active && (s.dev.tick dt).instRuns n) = true := by
  rw [show (s.dev.tick dt).active = true from ha, show (s.dev.tick dt).instRuns n = true from hn]
  rfl

theorem State.dabNull_rows : let y := s.dev.dabInst n
    ∃ t, exec (.dabNullDetected dt n) s = .next t ∧ (∀ m, m ≠ n → t.dev.dabInst m = s.dev.dabInst m)
      ∧ (∀ p, y.sync = 0 → y.dsp.lead.findNull = some p → (t.dev.dabInst n).sync = 1 ∧ (t.dev.dabInst n).nullSeen = true)
      ∧ (y.sync = 0 → y.dsp.lead.findNull = none → t.dev.dabInst n = y)
      ∧ (y.sync ≠ 0 → (t.dev.dabInst n).sync = y.sync ∧ (t.dev.dabInst n).dsp = y.dsp) := by
  intro y
  refine ⟨_, (exec_dabNullDetected ..).trans (State.runIf_next _ (State.instRuns_tick ha hn dt)), fun m hm => Dev.dabInst_setDabInst_ne n m _ _ hm, ?_⟩
  have hx : (s.after dt ((s.dev.tick dt).setDabInst n DabInst.nullFound)).dev.dabInst n = y.nullFound := Dev.dabInst_setDabInst n _ _
  rw [hx]
  refine ⟨fun p h0 hp => ?_, fun h0 hp => ?_, y.nullFound_sync⟩
  · rw [y.nullFound_search h0, hp]
    exact ⟨rfl, rfl⟩
  · rw [y.nullFound_search h0, hp]

end

section
variable {d : Dev} {n w k : Nat} (hs : 1 ≤ (d.dabInst n).sync) (hw : (d.dabInst n).dsp.win = some w)
  (hk : (d.inst? n).bind (·.slot) = some k) (hnext : (d.dabInst n).dsp.next = 0)
  (hall : (d.dabInst n).dsp.branches.all (·.has w dabUseful) = true)
include hs hnext hall

theorem Dev.dabPrs_ready : ((d.dabInst n).sync = 0 || (d.dabInst n).dsp.next != 0 || !(d.dabInst n).dsp.branches.all (·.has w dabUseful)) = false := by
  rw [hall, hnext, decide_eq_false (by omega)]
  rfl

include hw hk

/-- No path in the window ends the acquisition (R442). -/
theorem Dev.dabPrs_lost (h3 : (d.dabInst n).sync < 3) (hr : (d.dabInst n).dsp.prs true w = none) :
    d.dabPrs n = d.setDabInst n fun x => { x with sync := 0, nullSeen := false, dsp := { x.dsp with win := none } } := by
  unfold Dev.dabPrs
  dsimp only
  rw [hw, hk]
  dsimp only
  rw [Dev.dabPrs_ready hs hnext hall, decide_eq_true h3, hr]
  rfl

/-- A path in the window begins a frame; in step the path stays where it was, where none is found (R442, R444). -/
theorem Dev.dabPrs_frame (hr : (d.dabInst n).sync < 3 → (d.dabInst n).dsp.prs true w ≠ none) :
    let p := ((d.dabInst n).dsp.prs (decide ((d.dabInst n).sync < 3)) w).getD (0, 0, (d.dabInst n).spread)
    ((d.dabPrs n).dabInst n).timing = (max (d.dabInst n).sync 3, (p.2.2 - p.2.1).toNat,
      (d.standsFor (d.slot k) (((((d.dabInst n).dsp.lead.span (w - dabLead) 1).head?).map (·.t)).getD 0) + 512 * (p.2.1 - dabNull)).toNat,
      (d.dabInst n).conf) := by
  intro p
  have hfound : (decide ((d.dabInst n).sync < 3) && ((d.dabInst n).dsp.prs (decide ((d.dabInst n).sync < 3)) w).isNone) = false := by
    by_cases h3 : (d.dabInst n).sync < 3
    · rw [decide_eq_true h3, Bool.true_and, Option.isNone_eq_false_iff, Option.isSome_iff_ne_none]
      exact hr h3
    · rw [decide_eq_false h3, Bool.false_and]
  unfold Dev.dabPrs
  dsimp only
  rw [hw, hk]
  dsimp only
  rw [Dev.dabPrs_ready hs hnext hall, hfound]
  exact (Dev.dabSettle_timing ..).trans (congrArg DabInst.timing (Dev.dabInst_setDabInst ..))

end

/-- A FIB's part in the check measurements leaves the instances. -/
theorem Dev.fibMeasures_insts (n : Nat) (good : Bool) (d : Dev) :
    (if (d.dabInst n).dsp.held then d else (d.runningMembers n).foldl (fun d c => d.measureBy c (Meas.count good)) d).insts = d.insts := by
  split
  · rfl
  · refine foldl_keeps Dev.insts _ ?_ _ d
    exact fun _ _ => rfl

theorem Dev.dabFib_bad (n : Nat) (bytes : List Byte) (figs : List Fig) (d : Dev) : (d.dabFib n false bytes figs).dabInst n =
    { d.dabInst n with
      fibs := (match (d.dabInst n).fibs with | (a, b) :: t => (a, b + 1) :: t | [] => [(0, 1)])
      fibsBad := satAdd 0xFFFFFFFF (d.dabInst n).fibsBad 1 } := by
  have h := d.fibMeasures_insts n false
  unfold Dev.dabFib
  dsimp only
  generalize (if (d.dabInst n).dsp.held then d else (d.runningMembers n).foldl (fun d c => d.measureBy c (Meas.count false)) d) = e at h ⊢
  rw [← Dev.dabInst_of_insts h n, if_pos Bool.not_false, Dev.dabInst_setDabInst]
  rfl

/-- A good FIB without FIGs leaves of its DAB receiver what the clause names, but for the offers made. -/
theorem Dev.dabFib_good (n : Nat) (bytes : List Byte) (d : Dev) : ((d.dabFib n true bytes []).dabInst n).sansOffers =
    { d.dabInst n with
      sync := 4, fibs := (match (d.dabInst n).fibs with | (a, b) :: t => (a + 1, b + 1) :: t | [] => [(1, 1)])
      recent := (padTo 32 bytes :: (d.dabInst n).recent).take 12, fibMiss := 0, offered := [] } := by
  have h := d.fibMeasures_insts n true
  unfold Dev.dabFib
  dsimp only
  generalize (if (d.dabInst n).dsp.held then d else (d.runningMembers n).foldl (fun d c => d.measureBy c (Meas.count true)) d) = e at h ⊢
  rw [← Dev.dabInst_of_insts h n, if_neg (by decide : ¬ (!true) = true), Dev.dabInst_of_insts (Dev.dabTryAll_insts ..), Dev.dabServices_sansOffers,
    List.foldl_nil, Dev.dabInst_setDabInst]
  rfl

/-- The clusters that are not announced any more are gone (R463). -/
theorem Dev.clusterTimeout_clusters {n : Nat} {d : Dev} (late : DabCluster → Bool) (h : ∀ k ∈ (d.dabInst n).clusters, late k = true)
    (gone : List DabCluster) :
    (((gone.foldl (fun d k => d.clusterSeen n { k with asw := 0 }) d).setDabInst n fun x =>
      { x with clusters := x.clusters.filter (!late ·) }).dabInst n).clusters = [] := by
  have hc : (gone.foldl (fun d k => d.clusterSeen n { k with asw := 0 }) d).clustersAt n = d.clustersAt n := by
    refine foldl_keeps (Dev.clustersAt n) _ (fun d k => ?_) gone d
    exact d.clusterSeen_clustersAt n { k with asw := 0 }
  generalize gone.foldl (fun d k => d.clusterSeen n { k with asw := 0 }) d = e at hc ⊢
  rw [Dev.dabInst_setDabInst]
  dsimp only
  rw [show (e.dabInst n).clusters = (d.dabInst n).clusters from congrArg Prod.fst hc, List.filter_eq_nil_iff]
  intro k hk
  simp [h k hk]

/-- A CIF of stream or audio data without a restart or a change of the configuration (R457). -/
theorem Dev.dabCif_counts {d : Dev} {c n k cif ber : Nat} {sub : DabSub} {bytes : List Byte} (hn : d.instOf c = some n)
    (hch : (d.dabInst n).change = none) (hdec : (d.dab c).decode = some (sub, k)) (hre : (d.dab c).restart = none) (hkind : d.kindOf c ≠ 5) :
    d.dabCif c cif bytes ber = (d.setDabInst n fun x => { x with cif := cif % 5000 }).setDab c fun x =>
      { x with decode := some (sub, k + 1), restart := none, ber := ber } := by
  have hreach : d.dabReach n cif 1 = d.setDabInst n fun x => { x with cif := cif % 5000 } := by
    unfold Dev.dabReach
    dsimp only
    rw [hch]
  have hdab : (d.setDabInst n fun x => { x with cif := cif % 5000 }).dab c = d.dab c := rfl
  unfold Dev.dabCif
  dsimp only
  rw [show (d.ctx? c).bind (·.inst) = some n from hn]
  dsimp only [Option.getD_some]
  rw [hreach, hdab, hre, hdec]
  dsimp only
  rw [beq_eq_false_iff_ne.2 hkind]
  rfl

/-- Settles O45. A row outside its condition lets its time pass (log 7). -/
theorem dabRows : Obligations.DabRows := by
  unfold Obligations.DabRows
  intro s dt ha d
  refine ⟨fun n hn => ?inst, ?noInst, ?timeout, fun c hc => ?ctx⟩
  case inst =>
    have hrun := State.instRuns_tick ha hn dt
    refine ⟨State.dabNull_rows ha hn dt, ⟨fun h0 => ?notPrs, fun w k hs hw hk hnext hall => ⟨fun h3 hr => ?noPath, fun hr => ?frame⟩⟩, ?loss, ?fibBad,
      ?fibGood, ?notComplete, ?complete⟩
    case notPrs =>
      refine (exec_dabPrsProcessed ..).trans (State.runIf_of_eq hrun ?_)
      unfold Dev.dabPrs
      dsimp only
      rw [show ((s.dev.tick dt).dabInst n).sync = 0 from h0]
      split <;> rfl
    case noPath =>
      exact (exec_dabPrsProcessed ..).trans (State.runIf_of_eq hrun (Dev.dabPrs_lost (d := d) hs hw hk hnext hall h3 hr))
    case frame =>
      intro p
      refine ⟨_, (exec_dabPrsProcessed ..).trans (State.runIf_next _ hrun), ?_⟩
      have h := Dev.dabPrs_frame (d := d) hs hw hk hnext hall hr
      generalize d.dabPrs n = e at h ⊢
      obtain ⟨h1, h2⟩ := Prod.mk.inj h
      obtain ⟨h2, h3⟩ := Prod.mk.inj h2
      obtain ⟨h3, h4⟩ := Prod.mk.inj h3
      exact ⟨h1, h2, h3, h4⟩
    case loss =>
      intro limit
      refine ⟨fun h => ?_, fun h0 hlim => ?_⟩
      · refine (exec_dabSyncLoss ..).trans (State.runIf_of_eq hrun (if_neg ?_))
        simp only [Bool.and_eq_true, bne_iff_ne, ne_eq, Bool.or_eq_true, decide_eq_true_eq]
        rintro ⟨h0, hlim⟩
        obtain h | ⟨h1, h2⟩ := h
        · exact h0 h
        · exact hlim.elim (Nat.not_le.2 h1) (Nat.not_le.2 h2)
      · refine ⟨_, (exec_dabSyncLoss ..).trans (State.runIf_of_eq hrun (if_pos ?_)), ?_⟩
        · simp only [Bool.and_eq_true, bne_iff_ne, ne_eq, Bool.or_eq_true, decide_eq_true_eq]
          exact ⟨h0, hlim⟩
        · have hx := Dev.dabInst_of_dem (d.ensAll_dem n 5) n
          have hchan := d.ensAll_chan n 5
          generalize d.ensAll n 5 = e at hx hchan ⊢
          rw [State.after_dabInst, Dev.dabInst_setDabInst, hx]
          exact ⟨rfl, rfl, rfl, hchan⟩
    case fibBad =>
      intro bytes figs h3
      refine ⟨_, (exec_dabFibDecoded ..).trans (State.runIf_next _ ?_), Dev.dabFib_bad n bytes figs d⟩
      rw [hrun, decide_eq_true (show 3 ≤ ((s.dev.tick dt).dabInst n).sync from h3)]
      rfl
    case fibGood =>
      intro bytes h3
      refine ⟨_, (exec_dabFibDecoded ..).trans (State.runIf_next _ ?_), ?_⟩
      · rw [hrun, decide_eq_true (show 3 ≤ ((s.dev.tick dt).dabInst n).sync from h3)]
        rfl
      · have h := Dev.dabFib_good n bytes d
        generalize d.dabFib n true bytes [] = e at h ⊢
        exact ⟨(congrArg DabInst.sync h :), (congrArg DabInst.fibs h :), (congrArg DabInst.recent h :), (congrArg DabInst.fibMiss h :),
          (congrArg DabInst.fibsBad h :), (congrArg DabInst.conf h :)⟩
    case notComplete =>
      intro h
      refine (exec_dabDatabaseComplete ..).trans (State.runIf_of_eq hrun (if_neg ?_))
      simp only [Bool.and_eq_true, decide_eq_true_eq, Bool.not_eq_true', and_assoc]
      exact h
    case complete =>
      intro h4 hc hq href
      refine ⟨_, (exec_dabDatabaseComplete ..).trans (State.runIf_of_eq hrun (if_pos ?_)), ?_⟩
      · simp only [Bool.and_eq_true, decide_eq_true_eq, Bool.not_eq_true', and_assoc]
        exact ⟨h4, hc, hq, href⟩
      · have hx := (Dev.dabInst_of_insts (Dev.dabTryAll_insts n ((d.setDabInst n fun x => { x with complete := true }).ensAll n 0)) n).trans
          ((Dev.dabInst_of_dem (Dev.ensAll_dem ..) n).trans (Dev.dabInst_setDabInst ..))
        generalize (Dev.ensAll n 0 _).dabTryAll n = e at hx ⊢
        rw [State.after_dabInst, hx]
        exact ⟨rfl, rfl⟩
  case noInst =>
    intro h
    refine (exec_dabAnnouncementTimeout ..).trans (State.runIf_of_eq ha ?_)
    rw [show (s.dev.tick dt).dem.insts = [] from h]
    rfl
  case timeout =>
    intro n y h hlate
    have hinst : d.dabInst n = y := by
      unfold Dev.dabInst
      rw [show (s.dev.tick dt).dem.insts = [(n, y)] from h]
      simp [tabGet]
    refine ⟨_, (exec_dabAnnouncementTimeout ..).trans (State.runIf_next _ ha), ?_⟩
    dsimp only [State.after]
    rw [show (s.dev.tick dt).dem.insts = [(n, y)] from h]
    refine Dev.clusterTimeout_clusters (d := d) (fun k => decide (k.at_ + 16000 * roundTicks ≤ d.now)) ?_ _
    rw [hinst]
    exact fun k hk => decide_eq_true (hlate k hk)
  case ctx =>
    have hrun : ((s.dev.tick dt).active && (s.dev.tick dt).dabDecodes c) = true := by
      rw [show (s.dev.tick dt).active = true from ha, show (s.dev.tick dt).dabDecodes c = true from hc]
      rfl
    refine ⟨?cif, ?layer2, ?superframe, ?unbound, ?group⟩
    case cif =>
      intro n sub k cif bytes ber hn hch hdec hre hkind
      exact (exec_dabCifDecoded ..).trans (State.runIf_of_eq hrun (Dev.dabCif_counts (d := d) hn hch hdec hre hkind))
    case layer2 =>
      intro ok hau
      refine (exec_dabLayer2Frame ..).trans (State.runIf_of_eq ?_ rfl)
      rw [show (s.dev.tick dt).active = true from ha, show (s.dev.tick dt).dabAudio c false = true from hau]
      rfl
    case superframe =>
      intro pass m f aus hau
      refine (exec_dabSuperframe ..).trans (State.runIf_of_eq ?_ rfl)
      rw [show (s.dev.tick dt).active = true from ha, show (s.dev.tick dt).dabAudio c true = true from hau]
      rfl
    case unbound =>
      intro x addr crc bytes hx hdec hb
      refine (exec_dabPacketDataGroup ..).trans (State.runIf_of_eq ?_ ?_)
      · rw [hrun, Bool.true_and, show (s.dev.tick dt).dab c = x from hx, hdec]
      · unfold Dev.onlyIf Dev.writeRecords
        rw [show (s.dev.tick dt).bind? c = none from hb]
        exact ite_self _
    case group =>
      intro b sub k r l addr crc bytes hdec hb hmot hne hres hsel htyp haddr
      refine (exec_dabPacketDataGroup ..).trans (State.runIf_of_eq ?_ ?_)
      · rw [hrun, Bool.true_and, show ((s.dev.tick dt).dab c).decode = _ from hdec]
        rfl
      · have hmot' : (((s.dev.tick dt).bind? c).any (·.mot) && (s.dev.tick dt).dabMot c && (!false || xpadMot addr)) = false := by
          rw [show (s.dev.tick dt).bind? c = some b from hb, Option.any_some, hmot]
          rfl
        dsimp only
        rw [hmot', show ((s.dev.tick dt).dab c).res = some r from hres, show ((s.dev.tick dt).dab c).sel = some l from hsel,
          show ((s.dev.tick dt).dab c).decode = some (sub, k) from hdec]
        simp only [Bool.false_eq_true, if_false, htyp, haddr, beq_self_eq_true, Bool.and_self, Bool.not_false,
          List.isEmpty_eq_false_iff.2 hne, Dev.onlyIf_true]
        unfold Dev.writeRecords
        rw [show (s.dev.tick dt).bind? c = some b from hb]
        rfl

end Sys2Proof.Machine
end

section
/-!
PROOF. The rows of DRM (chapter 17).
-/
namespace Sys2Proof.Machine

theorem Dev.drm_of_dem {d e : Dev} (h : d.dem = e.dem) (c : Nat) : d.drm c = e.drm c := by
  unfold Dev.drm
  rw [h]

theorem State.after_drm (s : State) (dt c : Nat) (e : Dev) : (s.after dt e).dev.drm c = e.drm c := rfl
theorem State.after_chan (s : State) (dt : Nat) (e : Dev) : (s.after dt e).dev.chan = e.chan := rfl

theorem Dev.drmChanged_dem (c cause reason : Nat) (d : Dev) : (d.drmChanged c cause reason).dem = d.dem := Dev.raise_dem ..

theorem Dev.drmChanged_chan (c cause reason : Nat) (d : Dev) : (d.drmChanged c cause reason).chan = d.chan := Dev.raise_chan ..

/-! ## The OFDM unit (R481, R482) -/

/-- What the OFDM unit leaves of a receiver: everything but its samples and the residual frequency. -/
def DrmSt.sansDsp (x : DrmSt) : DrmSt := { x with residual := 0, dsp := {} }

theorem Dev.drmWrite_sansDsp (c : Nat) (mhz : Int) (d : Dev) : ((d.drmWrite c mhz).drm c).sansDsp = (d.drm c).sansDsp := by
  unfold Dev.drmWrite
  dsimp only
  rw [Dev.drm_setDrm, Dev.drm_of_dem (Dev.addC_dem ..)]
  rfl

theorem Dev.drmTrack_sansDsp (c : Nat) (resid : Int) (d : Dev) : ((d.drmTrack c resid).drm c).sansDsp = (d.drm c).sansDsp := by
  unfold Dev.drmTrack
  dsimp only
  generalize (if d.stdOf c = 4 then 10000 else 2000 : Nat) = limit
  split
  · exact Dev.drmWrite_sansDsp ..
  · rw [Dev.drm_setDrm]
    rfl

/-- The receiver of context `c` but for its OFDM unit. -/
def Dev.drmSansDsp (c : Nat) (d : Dev) : DrmSt := (d.drm c).sansDsp

theorem Dev.setDsp_sansDsp (c : Nat) (f : DrmDsp → DrmDsp) (d : Dev) : (d.setDrm c fun x => { x with dsp := f x.dsp }).drmSansDsp c = d.drmSansDsp c := by
  unfold Dev.drmSansDsp
  rw [Dev.drm_setDrm]
  rfl

theorem Dev.drmRun_sansDsp (c : Nat) (d : Dev) : (d.drmRun c).drmSansDsp c = d.drmSansDsp c := by
  have hset (y : DrmDsp) (d : Dev) : (d.setDrm c fun x => { x with dsp := y }).drmSansDsp c = d.drmSansDsp c := Dev.setDsp_sansDsp c (fun _ => y) d
  unfold Dev.drmRun
  dsimp only
  split
  · rfl
  · split
    · rfl
    · split
      · exact hset ..
      · split
        · exact hset ..
        · have hwin (win : Nat) (d : Dev) : (d.setDrm c fun x => { x with dsp := { x.dsp with errs := [], win := some win } }).drmSansDsp c = d.drmSansDsp c :=
            Dev.setDsp_sansDsp c (fun x => { x with errs := [], win := some win }) d
          have hslip (n : Nat) (k : Int) (d : Dev) : (d.slipSlot n k).drmSansDsp c = d.drmSansDsp c := rfl
          split
          · exact (Dev.onlyIf_leaves (Dev.drmSansDsp c) _ (hslip _ _) _).trans ((hwin ..).trans (hset ..))
          · exact (hwin ..).trans (hset ..)

/-! ## FAC and SDC (R480, R485-R488, R497, R501) -/

/-- What a FAC in the receiver's mode leaves: the FAC in force, the synchronisation and what the frame measured. -/
def DrmSt.facView (x : DrmSt) : Option DrmFac × Nat × Nat × Nat × Int × Int × Int := (x.fac, x.sync, x.facMiss, x.facBad, x.mer, x.wmer, x.level)

theorem Dev.setCtx_drm (c k : Nat) (f : CtxSt → CtxSt) (d : Dev) : (d.setCtx k f).drm c = d.drm c := by
  unfold Dev.setCtx
  split <;> rfl

theorem Dev.drmOcc_facView (c o : Nat) (d : Dev) : ((d.drmOcc c o).drm c).facView = (d.drm c).facView := by
  have h := d.setCtx_drm c c fun y => { y with occ := some o }
  unfold Dev.drmOcc
  dsimp only
  generalize d.setCtx c (fun y => { y with occ := some o }) = e at h ⊢
  rw [← h]
  split
  · rfl
  · split
    · rw [Dev.drm_setDrm]; rfl
    · split
      · rw [Dev.drm_setDrm]; rfl
      · split <;> (rw [Dev.drm_setDrm]; rfl)

theorem Dev.drmFac_facView {c : Nat} {f : DrmFac} {d : Dev} (hm : (d.drm c).mode = some f.mode) :
    ((d.drmFac c f).drm c).facView = { (d.drm c) with fac := some f }.facView := by
  unfold Dev.drmFac
  dsimp only
  rw [hm, bne_self_eq_false, Bool.false_and, if_neg (by decide), Dev.drmOcc_facView]
  refine (congrArg DrmSt.facView (Dev.drm_of_dem (Dev.onlyIf_leaves Dev.dem _ (fun _ => Dev.drmChanged_dem ..) _) c)).trans ?_
  rw [Dev.drm_setDrm]
  rfl

/-- What a selection that is tried, and an offer, leave of a receiver. -/
def Dev.sdcView (c : Nat) (d : Dev) : Nat × Nat × Nat × Nat × Bool × Nat :=
  ((d.drm c).sync, (d.drm c).sdcAt, (d.drm c).utc, (d.drm c).sdcBad, (d.drm c).alarm, (d.drm c).alarmRun)

theorem Dev.sdcView_of_dem {d e : Dev} (h : d.dem = e.dem) (c : Nat) : d.sdcView c = e.sdcView c := by
  unfold Dev.sdcView
  rw [Dev.drm_of_dem h]

theorem Dev.setDrm_sdcView {c : Nat} {f : DrmSt → DrmSt} {d : Dev}
    (h : let x := d.drm c; let y := f x; (y.sync, y.sdcAt, y.utc, y.sdcBad, y.alarm, y.alarmRun) = (x.sync, x.sdcAt, x.utc, x.sdcBad, x.alarm, x.alarmRun)) :
    (d.setDrm c f).sdcView c = d.sdcView c := by
  unfold Dev.sdcView
  rw [Dev.drm_setDrm]
  exact h

theorem Dev.setCtx_sdcView (c k : Nat) (f : CtxSt → CtxSt) (d : Dev) : (d.setCtx k f).sdcView c = d.sdcView c := by
  unfold Dev.sdcView
  rw [Dev.setCtx_drm]

theorem Dev.drmTake_sdcView (c : Nat) (r : DrmServ) (d : Dev) : (d.drmTake c r).sdcView c = d.sdcView c :=
  (Dev.setCtx_sdcView ..).trans (Dev.setDrm_sdcView rfl)

theorem Dev.drmChanged_sdcView (c cause reason : Nat) (d : Dev) : (d.drmChanged c cause reason).sdcView c = d.sdcView c :=
  Dev.sdcView_of_dem (Dev.drmChanged_dem ..) c

theorem Dev.drmTry_sdcView (c : Nat) (told : Bool) (d : Dev) : (d.drmTry c told).sdcView c = d.sdcView c := by
  unfold Dev.drmTry
  dsimp only
  split
  · rfl
  · split
    · rfl
    · exact (Dev.onlyIf_leaves (Dev.sdcView c) _ (fun _ => Dev.drmChanged_sdcView ..) _).trans (Dev.drmTake_sdcView ..)
    · split
      · rfl
      · exact (Dev.drmChanged_sdcView ..).trans (Dev.setDrm_sdcView rfl)

theorem Dev.drmApply_sdcView (c : Nat) (d : Dev) : (d.drmApply c).sdcView c = d.sdcView c := by
  have hset : ((d.setDrm c fun x => { x with reconf := none, failed := false }).drmChanged c 0x22 0).sdcView c = d.sdcView c :=
    (Dev.drmChanged_sdcView ..).trans (Dev.setDrm_sdcView rfl)
  unfold Dev.drmApply
  dsimp only
  generalize (d.setDrm c fun x => { x with reconf := none, failed := false }).drmChanged c 0x22 0 = e at hset ⊢
  rw [← hset]
  split
  · rfl
  · split
    · exact (Dev.onlyIf_leaves (Dev.sdcView c) _ (fun _ => Dev.setDrm_sdcView rfl) _).trans (Dev.drmTake_sdcView ..)
    · exact (Dev.setDrm_sdcView rfl).trans (Dev.drmChanged_sdcView ..)

theorem Dev.drmOffers_sdcView (c : Nat) (sdc : DrmSdc) (d : Dev) : (d.drmOffers c sdc).sdcView c = d.sdcView c := by
  have hoffer (o : FbOffer) (d : Dev) : (d.drmOffer c o).sdcView c = d.sdcView c := by
    unfold Dev.drmOffer
    dsimp only
    refine (Dev.onlyIf_leaves (Dev.sdcView c) _ (f := Dev.offer o) ?_ _).trans (Dev.setDrm_sdcView rfl)
    exact fun _ => rfl
  unfold Dev.drmOffers
  dsimp only
  split
  · exact foldl_keeps (Dev.sdcView c) _ (fun d o => hoffer o d) _ d
  · rfl

theorem Dev.drmAlert_dem (c origin : Nat) (d : Dev) : (d.drmAlert c origin).dem = d.dem :=
  (congrArg Dev.dem (Dev.alert_sansData ..) :)

/-- What a good SDC leaves before its alarm counts. -/
theorem Dev.drmSdc_view (c : Nat) (sdc : DrmSdc) (d : Dev) : ∃ e : Dev, d.drmSdc c sdc = e.drmAlarm c sdc.alarm
    ∧ e.sdcView c = (5, d.now, sdc.utc.getD (d.drm c).utc, (d.drm c).sdcBad, (d.drm c).alarm, (d.drm c).alarmRun) := by
  refine ⟨_, rfl, ?_⟩
  rw [Dev.drmOffers_sdcView, Dev.drmTry_sdcView, Dev.onlyIf_leaves (Dev.sdcView c) _ (fun e => e.drmApply_sdcView c),
    Dev.onlyIf_leaves (Dev.sdcView c) _ (fun _ => Dev.drmChanged_sdcView ..)]
  unfold Dev.sdcView
  rw [Dev.drm_setDrm]

/-- The alarm after a good SDC (R497). -/
theorem Dev.drmAlarm_view (c : Nat) (on : Option Nat) (d : Dev) : let x := d.drm c; let y := (d.drmAlarm c on).drm c
    y.sync = x.sync ∧ y.sdcAt = x.sdcAt ∧ y.utc = x.utc ∧ y.sdcBad = x.sdcBad
      ∧ (on.isSome = x.alarm → y.alarm = x.alarm) ∧ (on.isSome ≠ x.alarm → x.alarmRun ≠ 0 → y.alarm = !x.alarm) := by
  unfold Dev.drmAlarm
  dsimp only
  by_cases ha : on.isSome = (d.drm c).alarm
  · rw [if_pos ha, Dev.drm_setDrm]
    exact ⟨rfl, rfl, rfl, rfl, fun _ => rfl, fun h => absurd ha h⟩
  · rw [if_neg ha]
    by_cases hr : (d.drm c).alarmRun = 0
    · rw [if_pos hr, Dev.drm_setDrm]
      exact ⟨rfl, rfl, rfl, rfl, fun h => absurd h ha, fun _ h => absurd hr h⟩
    · rw [if_neg hr, Dev.drm_of_dem (Dev.drmAlert_dem ..), Dev.drm_setDrm]
      exact ⟨rfl, rfl, rfl, rfl, fun h => absurd h ha, fun _ _ => Bool.eq_not.2 ha⟩

/-! ## The acquisition (R478-R482) -/

theorem Dev.drmFrequency_none {d : Dev} {c : Nat}
    (h : ((d.drm c).dsp.win.bind fun w => (d.drm c).dsp.lead.integerShift ((d.drm c).mode.getD 0) (d.drm c).cells w (d.drm c).dsp.freqs) = none) :
    d.drmFrequency c = d.setDrm c fun x => { x with sync := 0, mode := none, dsp := { x.dsp with win := none } } := by
  unfold Dev.drmFrequency
  dsimp only
  rw [h]

theorem Dev.drmWrite_chan {d : Dev} {c n : Nat} {mhz : Int} (hn : d.slotOf c = some n) (hv : d.serviceOf c = none) :
    (d.drmWrite c mhz).chan = (d.writeC n ((d.slot n).c + corrOf mhz 1)).chan := by
  rw [← Dev.addC_slot hn hv]
  rfl

theorem Dev.slot_of_chan {d e : Dev} (h : d.chan = e.chan) (n : Nat) : d.slot n = e.slot n := by
  unfold Dev.slot
  rw [h]

theorem Dev.writeC_slot {d : Dev} {n : Nat} (hn : n < d.chan.slots.length) (hu : (d.slot n).user.isSome = true) (v : Int) :
    ((d.writeC n v).slot n).c = max (-(2 ^ 22)) (min (2 ^ 22) v) := by
  unfold Dev.writeC
  dsimp only
  rw [Dev.slot_setSlot _ _ _ hn, if_pos hu]

/-- The integer frequency found by step 2: C is written unless the slot's samples carry a flag. -/
theorem Dev.drmFrequency_some {d : Dev} {c : Nat} {k : Int}
    (h : ((d.drm c).dsp.win.bind fun w => (d.drm c).dsp.lead.integerShift ((d.drm c).mode.getD 0) (d.drm c).cells w (d.drm c).dsp.freqs) = some k) :
    let off := mhzOf ((d.drm c).mode.getD 0) ((d.drm c).dsp.frac + openDiv (k * 2 ^ 32) (drmTu ((d.drm c).mode.getD 0)))
    let t := d.drmFrequency c
    (t.drm c).sync = 2 ∧ (t.drm c).mode = (d.drm c).mode
      ∧ (d.ctxFlagged c = true → (t.drm c).residual = off ∧ t.chan = d.chan)
      ∧ (∀ n, d.ctxFlagged c = false → d.slotOf c = some n → d.serviceOf c = none → n < d.chan.slots.length → (d.slot n).user.isSome = true →
        (t.slot n).c = max (-(2 ^ 22)) (min (2 ^ 22) ((d.slot n).c + corrOf off 1))) := by
  intro off t
  have ht : t = (d.setDrm c fun x => { x with
      sync := 2, residual := off
      dsp := { x.dsp with res := off, freqs := x.dsp.freqs.map fun f => (f.1, f.2 + ((d.drm c).dsp.frac +
        openDiv (k * 2 ^ 32) (drmTu ((d.drm c).mode.getD 0)) - (d.drm c).dsp.frac)) } }).onlyIf (!d.ctxFlagged c) (Dev.drmWrite c off) := by
    unfold t Dev.drmFrequency
    dsimp only
    rw [h]
    rfl
  generalize hd : d.setDrm c _ = e at ht
  have hsync : (e.drm c).sync = 2 ∧ (e.drm c).mode = (d.drm c).mode ∧ (e.drm c).residual = off := by
    rw [← hd, Dev.drm_setDrm]
    exact ⟨rfl, rfl, rfl⟩
  have hchan : e.chan = d.chan ∧ e.slotOf c = d.slotOf c ∧ e.serviceOf c = d.serviceOf c := by
    rw [← hd]
    exact ⟨rfl, rfl, rfl⟩
  obtain ⟨hs, hm, hr⟩ := hsync
  obtain ⟨hc, hslot, hserv⟩ := hchan
  rw [ht]
  cases hf : d.ctxFlagged c with
  | true => exact ⟨hs, hm, fun _ => ⟨hr, hc⟩, fun n h0 => by simp at h0⟩
  | false =>
    have hw := Dev.drmWrite_sansDsp c off e
    refine ⟨(congrArg DrmSt.sync hw).trans hs, (congrArg DrmSt.mode hw).trans hm, fun h0 => by simp at h0, fun n _ hn hv hlt hu => ?_⟩
    have hsl : e.slot n = d.slot n := Dev.slot_of_chan hc n
    have hx := Dev.writeC_slot (d := e) (n := n) (by rw [hc]; exact hlt) (by rw [hsl]; exact hu) ((e.slot n).c + corrOf off 1)
    have hwc := Dev.drmWrite_chan (mhz := off) (hslot.trans hn) (hserv.trans hv)
    rw [← hsl, ← hx]
    exact congrArg (fun y : SlotSt => y.c) (Dev.slot_of_chan hwc n)

/-- The receiver once step 3 has found the frame's first symbol at sample `a`. -/
theorem Dev.drmFrameStart_some {d : Dev} {c w a : Nat} (hw : (d.drm c).dsp.win = some w)
    (h : (d.drm c).dsp.lead.frameStart ((d.drm c).mode.getD 0) (d.drm c).cells w (if (d.drm c).dsp.freqs.isEmpty then
      [((d.drm c).dsp.lead.base, turnsOf ((d.drm c).residual - d.drmShift c) (drmRate ((d.drm c).mode.getD 0)))] else (d.drm c).dsp.freqs) = some a) :
    (d.drmFrameStart c).drmSansDsp c = { (d.drm c) with
      sync := 3, facMiss := 0, facs := []
      frameTime := (d.drmStands c (((((d.drm c).dsp.lead.span (a - drmTg ((d.drm c).mode.getD 0)) 1).head?).map fun x : OfdmSample => x.t).getD 0)).toNat }.sansDsp := by
  unfold Dev.drmFrameStart
  dsimp only
  rw [hw]
  dsimp only [Option.bind_some]
  rw [h]
  dsimp only
  rw [Dev.drmRun_sansDsp]
  unfold Dev.drmSansDsp
  rw [Dev.drm_setDrm]
  rfl

/-- No frame start: a warm receiver goes on from step 1 (R479). -/
theorem Dev.drmFrameStart_none {d : Dev} {c w : Nat} (hw : (d.drm c).dsp.win = some w)
    (h : (d.drm c).dsp.lead.frameStart ((d.drm c).mode.getD 0) (d.drm c).cells w (if (d.drm c).dsp.freqs.isEmpty then
      [((d.drm c).dsp.lead.base, turnsOf ((d.drm c).residual - d.drmShift c) (drmRate ((d.drm c).mode.getD 0)))] else (d.drm c).dsp.freqs) = none) :
    d.drmFrameStart c = if (d.drm c).warm then d.setDrm c fun x => { x with sync := 0, mode := none, dsp := { x.dsp with win := none } } else d := by
  unfold Dev.drmFrameStart
  dsimp only
  rw [hw]
  dsimp only [Option.bind_some]
  rw [h]
  rfl

/-! ## FAC (R480, R483, R498) -/

/-- What the FAC of a frame leaves before it is taken (R480, R498). -/
def DrmSt.facFrame (good : Bool) (frm : DrmFrame) (frameTime : Nat) (facs : List Bool) (x : DrmSt) : DrmSt :=
  { x with
    frameTime := frameTime, hold := frm.flagged, level := frm.level, mer := frm.mer, wmer := frm.wmer
    doppler := frm.doppler, spread := frm.spread, facs := facs
    facBad := if good then x.facBad else satAdd 0xFFFFFFFF x.facBad 1
    facMiss := if good then 0 else if frm.flagged then x.facMiss else x.facMiss + 1
    sync := if good then max x.sync 4 else x.sync }

theorem Dev.drmFacFrame_spec (c : Nat) (good : Bool) (fac : DrmFac) (d : Dev) : ∃ e : Dev,
    d.drmFacFrame c good fac = (e.onlyIf good (Dev.drmFac c fac)).drmRun c
      ∧ e.drmSansDsp c = ((d.drm c).facFrame good ((d.drm c).dsp.frame (d.drmPar c good fac))
        (d.drmStands c ((d.drm c).dsp.frame (d.drmPar c good fac)).began).toNat ((good :: (d.drm c).facs).take 10)).sansDsp := by
  refine ⟨_, rfl, ?_⟩
  have hmeasure (f : Meas → Meas) (e : Dev) : (e.measureBy c f).drmSansDsp c = e.drmSansDsp c := rfl
  rw [Dev.onlyIf_leaves (Dev.drmSansDsp c) _ (hmeasure _)]
  refine (Dev.drmTrack_sansDsp ..).trans ?_
  rw [Dev.drm_setDrm]
  rfl

/-! ## The rows -/

/-- Settles O46. A row outside its condition lets its time pass (log 7). -/
theorem drmRows : Obligations.DrmRows := by
  unfold Obligations.DrmRows
  intro s dt c ha d x
  refine ⟨fun hr => ?runs, fun h => ?noAlarms, fun h hr hal hlate => ?alarmOver, fun hd => ?decodes⟩
  case runs =>
    have hrun : ((s.dev.tick dt).active && (s.dev.tick dt).drmRuns c) = true := by
      rw [show (s.dev.tick dt).active = true from ha, show (s.dev.tick dt).drmRuns c = true from hr]
      rfl
    have hat {n : Nat} (h : x.sync = n) : ((s.dev.tick dt).active && (s.dev.tick dt).drmRuns c && ((s.dev.tick dt).drm c).sync == n) = true := by
      rw [hrun, Bool.true_and]
      exact beq_iff_eq.2 h
    have hframe (h3 : 3 ≤ x.sync) (hfull : x.dsp.full = true) : ((s.dev.tick dt).active && (s.dev.tick dt).drmRuns c
        && 3 ≤ ((s.dev.tick dt).drm c).sync && ((s.dev.tick dt).drm c).dsp.full) = true := by
      rw [hrun, decide_eq_true (show 3 ≤ ((s.dev.tick dt).drm c).sync from h3), show ((s.dev.tick dt).drm c).dsp.full = true from hfull]
      rfl
    refine ⟨fun h0 => ?mode, fun h1 hn => ?noShift, fun w h1 hw => ?shift, fun h2 hw => ?frame, fun h => ?inSync, fun h0 hm => ?lost, fun fac h3 hfull => ?facBad,
      fun fac h3 hfull hmode => ?facGood, fun sdc h4 => ?sdcBad, fun sdc h4 => ?sdcGood⟩
    case mode =>
      refine ⟨fun hn => (exec_drmModeFound ..).trans (State.runIf_of_eq (hat h0) ?_), _, (exec_drmModeFound ..).trans (State.runIf_next _ (hat h0)), ?_⟩
      · unfold Dev.drmMode
        dsimp only
        rw [show ((s.dev.tick dt).drm c).dsp.lead.findMode ((s.dev.tick dt).drmModes c) = none from hn]
      · unfold Dev.drmMode
        dsimp only
        rw [show ((s.dev.tick dt).drm c).dsp.lead.findMode ((s.dev.tick dt).drmModes c) = x.dsp.lead.findMode (s.dev.drmModes c) from rfl,
          State.after_drm, State.after_chan]
        cases x.dsp.lead.findMode (s.dev.drmModes c) with
        | none => exact ⟨rfl, rfl⟩
        | some r => exact ⟨rfl, by rw [Dev.drm_setDrm]; exact ⟨rfl, rfl, rfl⟩⟩
    case noShift =>
      exact (exec_drmFrequencyFound ..).trans (State.runIf_of_eq (hat h1) (Dev.drmFrequency_none (d := d) hn))
    case shift =>
      refine ⟨_, (exec_drmFrequencyFound ..).trans (State.runIf_next _ (hat h1)), ?_⟩
      rw [State.after_drm, State.after_chan]
      have hbind : (((s.dev.tick dt).drm c).dsp.win.bind fun w => ((s.dev.tick dt).drm c).dsp.lead.integerShift (((s.dev.tick dt).drm c).mode.getD 0)
          ((s.dev.tick dt).drm c).cells w ((s.dev.tick dt).drm c).dsp.freqs) = x.dsp.lead.integerShift (x.mode.getD 0) x.cells w x.dsp.freqs := by
        rw [show ((s.dev.tick dt).drm c).dsp.win = some w from hw]
        rfl
      cases hk : x.dsp.lead.integerShift (x.mode.getD 0) x.cells w x.dsp.freqs with
      | none =>
        rw [Dev.drmFrequency_none (hbind.trans hk), Dev.drm_setDrm]
        exact ⟨rfl, rfl, rfl⟩
      | some k => exact Dev.drmFrequency_some (hbind.trans hk)
    case frame =>
      intro freqs found
      obtain ⟨w, hw⟩ := Option.isSome_iff_exists.1 hw
      have hfound : found = x.dsp.lead.frameStart (x.mode.getD 0) x.cells w freqs := by
        unfold found
        rw [hw]
        rfl
      refine ⟨fun hn => (exec_drmFrameFound ..).trans (State.runIf_of_eq (hat h2) (Dev.drmFrameStart_none (d := d) hw (hfound.symm.trans hn))),
        _, (exec_drmFrameFound ..).trans (State.runIf_next _ (hat h2)), ?_⟩
      rw [State.after_drm]
      cases hf : found with
      | none =>
        rw [Dev.drmFrameStart_none (d := s.dev.tick dt) hw (hfound.symm.trans hf)]
        dsimp only
        split
        · rw [Dev.drm_setDrm]
          rfl
        · rfl
      | some a =>
        have h := Dev.drmFrameStart_some (d := s.dev.tick dt) hw (hfound.symm.trans hf)
        generalize (s.dev.tick dt).drmFrameStart c = e at h ⊢
        exact ⟨(congrArg DrmSt.sync h :), (congrArg DrmSt.facMiss h :), (congrArg DrmSt.facs h :), (congrArg DrmSt.mode h :), (congrArg DrmSt.frameTime h :)⟩
    case inSync =>
      refine (exec_drmSyncLoss ..).trans (State.runIf_of_eq hrun (if_neg ?_))
      simp only [Bool.and_eq_true, bne_iff_ne, ne_eq, decide_eq_true_eq, not_and, Nat.not_le]
      exact fun h0 => h.resolve_left h0
    case lost =>
      refine ⟨_, (exec_drmSyncLoss ..).trans (State.runIf_of_eq hrun (if_pos ?_)), ?_⟩
      · simp only [Bool.and_eq_true, bne_iff_ne, ne_eq, decide_eq_true_eq]
        exact ⟨h0, hm⟩
      · rw [State.after_drm, State.after_chan]
        unfold Dev.drmLost
        rw [Dev.onlyIf_true, Dev.drm_setDrm, Dev.drm_of_dem (Dev.drmChanged_dem ..)]
        exact ⟨rfl, Dev.drmChanged_chan ..⟩
    case facBad =>
      intro frm
      refine ⟨_, (exec_drmFacDecoded ..).trans (State.runIf_next _ (hframe h3 hfull)), ?_⟩
      obtain ⟨e, he, hview⟩ := (s.dev.tick dt).drmFacFrame_spec c false fac
      have h := (e.drmRun_sansDsp c).trans hview
      rw [State.after_drm, he, Dev.onlyIf_false]
      generalize e.drmRun c = y at h ⊢
      exact ⟨(congrArg DrmSt.facBad h :), (congrArg DrmSt.sync h :), (congrArg DrmSt.fac h :), (congrArg DrmSt.frameTime h :),
        (congrArg DrmSt.hold h :), (congrArg DrmSt.facMiss h :)⟩
    case facGood =>
      intro frm
      refine ⟨_, (exec_drmFacDecoded ..).trans (State.runIf_next _ (hframe h3 hfull)), ?_⟩
      obtain ⟨e, he, hview⟩ := (s.dev.tick dt).drmFacFrame_spec c true fac
      have hfac := Dev.drmFac_facView (d := e) (c := c) ((congrArg DrmSt.mode hview).trans hmode)
      have h := (e.drmFac c fac).drmRun_sansDsp c
      rw [State.after_drm, he, Dev.onlyIf_true]
      have hboth : (((e.drmFac c fac).drmRun c).drm c).facView = { (e.drm c) with fac := some fac }.facView :=
        (congrArg DrmSt.facView h :).trans hfac
      generalize (e.drmFac c fac).drmRun c = y at hboth ⊢
      obtain ⟨h1, h2⟩ := Prod.mk.inj hboth
      obtain ⟨h2, h3⟩ := Prod.mk.inj h2
      obtain ⟨h3, h4⟩ := Prod.mk.inj h3
      obtain ⟨h4, h5⟩ := Prod.mk.inj h4
      obtain ⟨h5, h6⟩ := Prod.mk.inj h5
      obtain ⟨h6, h7⟩ := Prod.mk.inj h6
      exact ⟨h2.trans (congrArg DrmSt.sync hview :), h3.trans (congrArg DrmSt.facMiss hview :), h1, h4.trans (congrArg DrmSt.facBad hview :),
        h5.trans (congrArg DrmSt.mer hview :), h6.trans (congrArg DrmSt.wmer hview :), h7.trans (congrArg DrmSt.level hview :)⟩
    case sdcBad =>
      refine (exec_drmSdcDecoded ..).trans (State.runIf_of_eq ?_ rfl)
      rw [hrun, decide_eq_true (show 4 ≤ ((s.dev.tick dt).drm c).sync from h4)]
      rfl
    case sdcGood =>
      refine ⟨_, (exec_drmSdcDecoded ..).trans (State.runIf_of_eq ?_ (if_pos rfl)), ?_⟩
      · rw [hrun, decide_eq_true (show 4 ≤ ((s.dev.tick dt).drm c).sync from h4)]
        rfl
      · rw [State.after_drm]
        obtain ⟨e, he, hview⟩ := (s.dev.tick dt).drmSdc_view c sdc
        obtain ⟨h1, h2, h3, h4, h5, h6⟩ := e.drmAlarm_view c sdc.alarm
        obtain ⟨v1, hview⟩ := Prod.mk.inj hview
        obtain ⟨v2, hview⟩ := Prod.mk.inj hview
        obtain ⟨v3, hview⟩ := Prod.mk.inj hview
        obtain ⟨v4, hview⟩ := Prod.mk.inj hview
        obtain ⟨v5, v6⟩ := Prod.mk.inj hview
        rw [v5] at h5 h6
        rw [v6] at h6
        rw [he]
        exact ⟨h1.trans v1, h2.trans v2, h3.trans v3, h4.trans v4, h5, h6⟩
  case noAlarms =>
    refine (exec_drmAlarmSdcTimeout ..).trans (State.runIf_of_eq ha ?_)
    rw [show (s.dev.tick dt).dem.drm = [] from h]
    rfl
  case alarmOver =>
    refine ⟨_, (exec_drmAlarmSdcTimeout ..).trans (State.runIf_next _ ha), ?_⟩
    rw [State.after_drm, show (s.dev.tick dt).dem.drm = [(c, x)] from h]
    have hcond : ((s.dev.tick dt).drmRuns c && ((s.dev.tick dt).drm c).alarm && decide (((s.dev.tick dt).drm c).sdcAt
        + (s.dev.tick dt).ctxPropN c P.drmLossFrames * (if (s.dev.tick dt).stdOf c = 4 then 3200 else 9600) * roundTicks ≤ (s.dev.tick dt).now)) = true := by
      rw [show (s.dev.tick dt).drmRuns c = true from hr, show ((s.dev.tick dt).drm c).alarm = true from hal]
      exact decide_eq_true hlate
    refine (congrArg (fun e : Dev => e.drm c) (if_pos hcond)).trans ?_
    rw [Dev.drm_of_dem (Dev.drmAlert_dem ..), Dev.drm_setDrm]
    rfl
  case decodes =>
    have hrun : ((s.dev.tick dt).active && (s.dev.tick dt).drmDecodes c) = true := by
      rw [show (s.dev.tick dt).active = true from ha, show (s.dev.tick dt).drmDecodes c = true from hd]
      rfl
    refine ⟨(exec_drmMscFrameDecoded ..).trans (State.runIf_of_eq hrun rfl), fun hdec => ?_⟩
    have hrun' : ((s.dev.tick dt).active && (s.dev.tick dt).drmDecodes c && ((s.dev.tick dt).drm c).decode) = true := by
      rw [hrun, show ((s.dev.tick dt).drm c).decode = true from hdec]
      rfl
    have hkind {k : Nat} (h : s.dev.kindOf c = k) : ((s.dev.tick dt).kindOf c == k) = true := beq_iff_eq.2 h
    refine ⟨fun aus ok h4 => ?audio, fun tg bytes h4 hdel h1 h128 => ?text, fun r b bytes hres h6 hb hmot => ?unit, fun bytes => ?badUnit⟩
    case audio =>
      refine (exec_drmAudioSuperframe ..).trans (State.runIf_of_eq ?_ rfl)
      rw [hrun', hkind h4]
      rfl
    case text =>
      have hcond : ((s.dev.tick dt).active && (s.dev.tick dt).drmDecodes c && ((s.dev.tick dt).drm c).decode && (s.dev.tick dt).kindOf c == 4
          && hasBit ((s.dev.tick dt).drm c).cfg.deliver 0 && 1 ≤ bytes.length && bytes.length ≤ 128) = true := by
        rw [hrun', hkind h4, show hasBit ((s.dev.tick dt).drm c).cfg.deliver 0 = true from hdel, decide_eq_true h1, decide_eq_true h128]
        rfl
      refine ⟨fun ht => (exec_drmTextMessageComplete ..).trans (State.runIf_of_eq hcond (if_pos (beq_iff_eq.2 ht))),
        fun ht hb => (exec_drmTextMessageComplete ..).trans (State.runIf_of_eq hcond ((if_neg (mt beq_iff_eq.1 ht)).trans ?_))⟩
      unfold Dev.writeRecord Dev.writeRecords
      rw [show Dev.bind? (Dev.setDrm c _ (s.dev.tick dt)) c = none from hb]
    case unit =>
      refine (exec_drmDataUnit ..).trans (State.runIf_of_eq ?_ ?_)
      · rw [hrun', hkind h6]
        rfl
      · rw [show ((s.dev.tick dt).drm c).res = some r from hres]
        dsimp only
        rw [show (s.dev.tick dt).bind? c = some b from hb, Option.any_some, hmot, Bool.false_and, Bool.not_false, Dev.onlyIf_true]
        unfold Dev.writeRecord Dev.writeRecords
        rw [show (s.dev.tick dt).bind? c = some b from hb]
        rfl
    case badUnit =>
      refine (exec_drmDataUnit ..).trans (State.runIf_skip _ ?_)
      simp

end Sys2Proof.Machine
end

section
/-!
PROOF. Service Following (19 R541-R555).
-/
namespace Sys2Proof.Machine

theorem tabGet_tabMod {α : Type} (t : List (Nat × α)) (k : Nat) (f : α → α) : tabGet (tabMod t k f) k = (tabGet t k).map f := by
  induction t with
  | nil => rfl
  | cons x t ih =>
    unfold tabGet tabMod at *
    by_cases hx : x.1 = k
    · simp [hx]
    · simpa [hx] using ih

theorem map_upd {α β : Type} {g : α → β} {f : α → α} (h : ∀ x, g (f x) = g x) (l : List α) (i : Nat) : (upd l i f).map g = l.map g := by
  refine List.ext_getElem? fun k => ?_
  rw [upd, List.getElem?_map, List.getElem?_modify, List.getElem?_map, Option.map_eq_map, Option.map_map]
  refine congrArg (fun m => Option.map m l[k]?) (funext fun x => ?_)
  by_cases hk : i = k
  · rw [Function.comp_apply, if_pos hk, h]
  · rw [Function.comp_apply, if_neg hk]

/-! ## Groups -/

theorem Dev.grp_setGrp (p : Nat) (f : FollowGrp → FollowGrp) (d : Dev) : (d.setGrp p f).grp? p = (d.grp? p).map f := tabGet_tabMod ..

theorem Dev.grp_of_follow {d e : Dev} (h : d.follow = e.follow) (p : Nat) : d.grp? p = e.grp? p := by
  unfold Dev.grp?
  rw [h]

theorem Dev.followCandidate_follow (p result c : Nat) (d : Dev) : (d.followCandidate p result c).follow = d.follow := Dev.emit_follow ..

theorem Dev.followSwitch_sansEvents (p result from_ target : Nat) (d : Dev) : (d.followSwitch p result from_ target).sansEvents = d.sansEvents := by
  unfold Dev.followSwitch
  split
  · rfl
  · exact Dev.raise_sansEvents ..

/-- What the preparation of a partner leaves of its group. -/
def FollowGrp.view (g : FollowGrp) := (g.evalAt, g.sAir, g.sPartner, g.onAir, g.mode, g.switchDue)

theorem Dev.prepare_view (p c : Nat) (x : Nat × FbEntry) (d : Dev) : ((d.prepare p c x).grp? p).map FollowGrp.view = (d.grp? p).map FollowGrp.view := by
  have hset {f : FollowGrp → FollowGrp} (h : ∀ g, (f g).view = g.view) (e : Dev) (he : e.follow = d.follow) :
      ((e.setGrp p f).grp? p).map FollowGrp.view = (d.grp? p).map FollowGrp.view := by
    rw [Dev.grp_setGrp, Option.map_map, Dev.grp_of_follow he]
    exact congrArg (fun m => Option.map m (d.grp? p)) (funext h)
  unfold Dev.prepare
  split
  · rfl
  · dsimp only
    split
    · rw [Dev.grp_of_follow (Dev.emit_follow ..)]
      refine hset ?_ d rfl
      exact fun _ => rfl
    · rw [Dev.grp_of_follow (Dev.followCandidate_follow ..)]
      refine hset ?_ _ rfl
      exact fun _ => rfl

/-- What one evaluation leaves of its group: its scores, and a switch in mode 2 alone (R544, R545). -/
theorem Dev.evaluate_spec {p : Nat} {g : FollowGrp} {d : Dev} (h : d.grp? p = some g) : ∃ g', (d.evaluate p g).grp? p = some g' ∧ g'.evalAt = d.now
    ∧ (g'.sAir, g'.sPartner) = d.scores p g ∧ g'.onAir = g.onAir ∧ g'.mode = g.mode ∧ (g.mode ≠ 2 → g'.switchDue = g.switchDue) := by
  unfold Dev.evaluate
  dsimp only
  generalize (if (d.scores p g).1 = 0 then g.zero + 1 else 0) = zeros
  generalize (if (d.partnerReady p && decide ((d.scores p g).1 + d.propN P.followHyst ≤ (d.scores p g).2)) = true then g.confirm + 1 else 0) = confirm
  generalize he : Dev.setGrp p _ _ = e
  have hview : (e.grp? p).map FollowGrp.view = some (d.now, (d.scores p g).1, (d.scores p g).2, g.onAir, g.mode, g.switchDue) := by
    rw [← he, Dev.grp_setGrp]
    unfold Dev.grp? at h ⊢
    dsimp only
    rw [h]
    rfl
  have hdone {e : Dev} (hv : (e.grp? p).map FollowGrp.view = some (d.now, (d.scores p g).1, (d.scores p g).2, g.onAir, g.mode, g.switchDue)) :
      ∃ g', e.grp? p = some g' ∧ g'.evalAt = d.now ∧ (g'.sAir, g'.sPartner) = d.scores p g ∧ g'.onAir = g.onAir ∧ g'.mode = g.mode
        ∧ g'.switchDue = g.switchDue := by
    obtain ⟨g', hg, hv⟩ := Option.map_eq_some_iff.1 hv
    simp only [FollowGrp.view, Prod.mk.injEq] at hv
    obtain ⟨h1, h2, h3, h4, h5, h6⟩ := hv
    exact ⟨g', hg, h1, Prod.ext h2 h3, h4, h5, h6⟩
  have hkeep {e : Dev} (hv : (e.grp? p).map FollowGrp.view = some (d.now, (d.scores p g).1, (d.scores p g).2, g.onAir, g.mode, g.switchDue)) :
      ∃ g', e.grp? p = some g' ∧ g'.evalAt = d.now ∧ (g'.sAir, g'.sPartner) = d.scores p g ∧ g'.onAir = g.onAir ∧ g'.mode = g.mode
        ∧ (g.mode ≠ 2 → g'.switchDue = g.switchDue) := by
    obtain ⟨g', h1, h2, h3, h4, h5, h6⟩ := hdone hv
    exact ⟨g', h1, h2, h3, h4, h5, fun _ => h6⟩
  have hswitch {e : Dev} {due : Option (Nat × Nat × Bool)} (hm : g.mode = 2)
      (hv : (e.grp? p).map FollowGrp.view = some (d.now, (d.scores p g).1, (d.scores p g).2, g.onAir, g.mode, g.switchDue)) :
      ∃ g', (e.setGrp p fun g => { g with switchDue := due }).grp? p = some g' ∧ g'.evalAt = d.now ∧ (g'.sAir, g'.sPartner) = d.scores p g
        ∧ g'.onAir = g.onAir ∧ g'.mode = g.mode ∧ (g.mode ≠ 2 → g'.switchDue = g.switchDue) := by
    obtain ⟨g', hg, h2, h3, h4, h5, -⟩ := hdone hv
    exact ⟨_, (Dev.grp_setGrp ..).trans (congrArg _ hg), h2, h3, h4, h5, fun h => absurd hm h⟩
  have hprepared (want : Bool) (k : Nat × FbEntry → Option Nat) : (Dev.grp? (match d.bestCandidate g with
      | some c => if want = true then (match k c with | some k => e.prepare p k c | none => e) else e
      | none => e) p).map FollowGrp.view = some (d.now, (d.scores p g).1, (d.scores p g).2, g.onAir, g.mode, g.switchDue) := by
    split
    · split
      · split
        · exact (Dev.prepare_view ..).trans hview
        · exact hview
      · exact hview
    · exact hview
  split
  · exact hkeep hview
  · split
    · split
      · rename_i hs
        simp only [Bool.or_eq_true, Bool.and_eq_true, beq_iff_eq] at hs
        exact hswitch (by tauto) (hprepared _ _)
      · exact hkeep (hprepared _ _)
    · exact hkeep (hprepared _ _)

/-- A fade or a manual blend holds back everything but the scores (R545). -/
theorem Dev.evaluate_holds {p : Nat} {g : FollowGrp} {d : Dev} (h : (d.prog p).fading.isSome = true ∨ (d.prog p).blend.any (·.manual) = true) :
    d.evaluate p g = Dev.setGrp p (fun y => { y with
      evalAt := d.now, sAir := (d.scores p g).1, sPartner := (d.scores p g).2, zero := if (d.scores p g).1 = 0 then g.zero + 1 else 0
      confirm := if d.partnerReady p && (d.scores p g).1 + d.propN P.followHyst ≤ (d.scores p g).2 then g.confirm + 1 else 0 })
      { d with dem.live := d.dem.live.filter fun y => y.1 != g.onAir && !g.set.contains y.1 } :=
  if_pos (Bool.or_eq_true_iff.2 h)

/-! ## Alignment (R547, R548) -/

theorem Dev.setProg_congr {d : Dev} {p : Nat} {f g : ProgSt → ProgSt} (hp : p < d.audio.progs.length) (h : f (d.prog p) = g (d.prog p)) :
    d.setProg p f = d.setProg p g := by
  have hl : upd d.audio.progs p f = upd d.audio.progs p g := by
    refine List.ext_getElem? fun k => ?_
    rw [upd, upd, List.getElem?_modify, List.getElem?_modify]
    by_cases hk : p = k
    · subst hk
      have hx : d.audio.progs[p] = d.prog p := (List.getD_eq_getElem _ _ hp).symm
      simp only [if_pos trivial, List.getElem?_eq_getElem hp, Option.map_eq_map, Option.map_some, hx, h]
    · simp only [if_neg hk]
  unfold Dev.setProg
  rw [hl]

theorem Dev.rebase_blend {p : Nat} {d : Dev} (hp : p < d.audio.progs.length) :
    ((d.rebase p).prog p).blend = (d.prog p).blend ∧ ((d.rebase p).prog p).src = (d.prog p).src ∧ p < (d.rebase p).audio.progs.length := by
  unfold Dev.rebase
  dsimp only
  rw [Dev.prog_setProg _ _ _ hp]
  exact ⟨rfl, rfl, by simpa [Dev.setProg, upd] using hp⟩

theorem Dev.setBlend_congr {d : Dev} {p : Nat} {f g : BlendSt → BlendSt} {b : BlendSt} (hp : p < d.audio.progs.length)
    (hb : (d.prog p).blend = some b) (h : f b = g b) : d.setBlend p f = d.setBlend p g := by
  refine Dev.setProg_congr hp ?_
  rw [hb, Option.map_some, Option.map_some, h]

/-- A change of the partner leaves the programme's source. -/
theorem Dev.setBlend_prog {d : Dev} {p : Nat} {f : BlendSt → BlendSt} {b : BlendSt} (hp : p < d.audio.progs.length)
    (hb : (d.prog p).blend = some b) : ((d.setBlend p f).prog p).blend = some (f b) ∧ ((d.setBlend p f).prog p).src = (d.prog p).src := by
  unfold Dev.setBlend
  rw [Dev.prog_setProg _ _ _ hp]
  exact ⟨congrArg (Option.map f) hb, rfl⟩

theorem Dev.prog_of_audio {d e : Dev} (h : d.audio = e.audio) (p : Nat) : d.prog p = e.prog p := by
  unfold Dev.prog
  rw [h]

theorem Dev.alignMeasure_unclear {d : Dev} {p : Nat} {b : BlendSt} (hp : p < d.audio.progs.length) (hb : (d.prog p).blend = some b) (lag : Int) :
    d.alignMeasure p lag false = (d.rebase p).setBlend p fun y => { y with measAt := some d.now, lastLag := none } := by
  obtain ⟨hr, -, hlen⟩ := d.rebase_blend hp
  unfold Dev.alignMeasure
  rw [hb]
  refine (if_pos rfl).trans (Dev.setBlend_congr hlen (hr.trans hb) ?_)
  cases b.lastLag <;> rfl

/-- Two measurements in a row that agree align a manual partner (R547). -/
theorem Dev.alignMeasure_agrees {d : Dev} {p : Nat} {b : BlendSt} {lag l : Int} (hp : p < d.audio.progs.length) (hb : (d.prog p).blend = some b)
    (hl : b.lastLag = some l) (hnear : (lag - l).natAbs ≤ 1) (hnone : b.lag = none) (htop : lag ≤ 144000) (hman : b.manual = true) :
    d.alignMeasure p lag true = (d.rebase p).setBlend p fun y => { y with measAt := some d.now, lastLag := some lag, lag := some lag, drift := lag - l } := by
  obtain ⟨hr, -, hlen⟩ := d.rebase_blend hp
  unfold Dev.alignMeasure
  rw [hb]
  dsimp only
  rw [hl]
  dsimp only
  refine (if_neg (by simp [hnear, hnone])).trans ((if_neg (Int.not_lt.2 htop)).trans ?_)
  rw [hman, Bool.not_true, Dev.onlyIf_false]
  refine Dev.setBlend_congr hlen (hr.trans hb) ?_
  simp [hl, hnear]

theorem Dev.entryMiss_audio (p : Nat) (d : Dev) : (d.entryMiss p).audio = d.audio := by
  unfold Dev.entryMiss Dev.setFbe
  split
  · split <;> rfl
  · rfl

theorem Dev.followCandidate_audio (p result c : Nat) (d : Dev) : (d.followCandidate p result c).audio = d.audio := Dev.emit_audio ..

/-- A group keeps its mismatched partner (R547). -/
theorem Dev.mismatch_group {d : Dev} {p : Nat} {b : BlendSt} (hp : p < d.audio.progs.length) (hb : (d.prog p).blend = some b) (hman : b.manual = false) :
    ((d.mismatch p).prog p).blend = some { b with mismatched := true } ∧ ((d.mismatch p).prog p).src = (d.prog p).src := by
  obtain ⟨hr, hsrc, hlen⟩ := d.rebase_blend hp
  unfold Dev.mismatch
  rw [hb]
  dsimp only
  rw [if_neg (by rw [hman]; decide), Dev.prog_of_audio ((Dev.followCandidate_audio ..).trans (Dev.entryMiss_audio ..)), ← hsrc]
  exact Dev.setBlend_prog hlen (hr.trans hb)

/-! ## The audio up to the end of a fade (R549, R550) -/

/-- The version on air, the fade and the partner of a programme. -/
def ProgSt.course (x : ProgSt) : Option Nat × Option FadeSt × Option BlendSt := (x.src, x.fading, x.blend)

/-- The courses of the programmes and the follow groups. -/
def Dev.courses (d : Dev) : List (Option Nat × Option FadeSt × Option BlendSt) × FollowSt := (d.audio.progs.map ProgSt.course, d.follow)

theorem Dev.setProg_courses {f : ProgSt → ProgSt} (h : ∀ x, (f x).course = x.course) (p : Nat) (d : Dev) : (d.setProg p f).courses = d.courses :=
  congrArg (fun l => (l, d.follow)) (map_upd h d.audio.progs p)

theorem Dev.progTakes_courses (p t3 : Nat) (s : Int × Int) (d : Dev) : (d.progTakes p t3 s).courses = d.courses := by
  have hout (rel : Bool) (l : List (Int × Int)) (n : Nat) (d : Dev) : (d.outTakes p t3 rel l n).courses = d.courses := by
    unfold Dev.outTakes
    dsimp only
    split <;> rfl
  have hsat (l : List Nat) (f : Nat → PortSt → PortSt) (d : Dev) : (forAll l (fun n e => e.setPort n (f n)) d).courses = d.courses := by
    refine foldl_keeps Dev.courses _ ?_ l d
    exact fun _ _ => rfl
  unfold Dev.progTakes
  dsimp only
  split
  · rfl
  · refine (foldl_keeps Dev.courses _ (fun d n => hout _ _ n d) _ _).trans ((Dev.onlyIf_leaves Dev.courses _ (fun e => hsat _ _ e) _).trans
      (Dev.setProg_courses ?_ p d))
    exact fun _ => rfl

theorem Dev.audioRuns_courses (d : Dev) : d.audioRuns.courses = d.courses := by
  have hprog (p : Nat) (d : Dev) : (d.progRuns p).courses = d.courses := by
    unfold Dev.progRuns
    split
    · refine foldl_keeps Dev.courses _ (fun e s => ?_) (d.onAirSamples p) d
      exact e.progTakes_courses p s.t3 (d.blended p s)
    · rfl
  have hfeeds : d.feedsTake.courses = d.courses := by
    unfold Dev.feedsTake
    dsimp only
    refine (foldl_keeps Dev.courses _ (fun e c => ?_) _ _).trans rfl
    refine Dev.onlyIf_leaves Dev.courses _ (fun e => ?_) e
    refine foldl_keeps Dev.courses _ ?_ _ e
    exact fun _ _ => rfl
  have hall (l : List Nat) (e : Dev) : (forAll l Dev.progRuns e).courses = e.courses := foldl_keeps Dev.courses _ (fun d p => hprog p d) l e
  have hdone (e : Dev) (t : Nat) : ({ e with audio.done := t } : Dev).courses = e.courses := rfl
  unfold Dev.audioRuns
  exact (hdone ..).trans ((hall ..).trans hfeeds)

/-! ## The end of a fade (R549-R551) -/

theorem Dev.setCauses_courses (p new : Nat) (d : Dev) : (d.setCauses p new).courses = d.courses := by
  have hset {f : ProgSt → ProgSt} (h : ∀ x, (f x).course = x.course) (d : Dev) : (d.setProg p f).courses = d.courses := Dev.setProg_courses h p d
  have hmute (st : Nat) (d : Dev) : (d.progMute p st).courses = d.courses := by
    unfold Dev.courses Dev.progMute
    rw [Dev.emit_audio, Dev.emit_follow]
  have hcauses (d : Dev) : (d.setProg p fun x => { x with causes := new }).courses = d.courses := by
    refine hset ?_ d
    exact fun _ => rfl
  have hramp (now gain : Nat) (d : Dev) : (d.setProg p fun x => { x with mute := rampTo 0 gain 5 now x.mute }).courses = d.courses := by
    refine hset ?_ d
    exact fun _ => rfl
  unfold Dev.setCauses
  dsimp only
  split
  · rfl
  · split
    · exact (hmute ..).trans ((hramp ..).trans (hcauses ..))
    · split
      · exact (hmute ..).trans ((hramp ..).trans (hcauses ..))
      · exact hcauses ..

theorem Dev.audioSync_courses (d : Dev) : d.audioSync.courses = d.courses :=
  foldl_keeps Dev.courses _ (fun _ _ => Dev.setCauses_courses ..) _ d

theorem Dev.courses_of_sansEvents {d e : Dev} (h : d.sansEvents = e.sansEvents) : d.courses = e.courses :=
  (congrArg Dev.courses h :)

theorem Dev.course_of_courses {d e : Dev} (h : d.courses = e.courses) (p : Nat) : (d.prog p).course = (e.prog p).course := by
  have hl : d.audio.progs.map ProgSt.course = e.audio.progs.map ProgSt.course := congrArg Prod.fst h
  unfold Dev.prog
  rw [← List.getD_map (f := ProgSt.course), ← List.getD_map (f := ProgSt.course), hl]

theorem Dev.follow_of_courses {d e : Dev} (h : d.courses = e.courses) : d.follow = e.follow := congrArg Prod.snd h

theorem Dev.progs_of_courses {d e : Dev} (h : d.courses = e.courses) : d.audio.progs.length = e.audio.progs.length := by
  have hl : d.audio.progs.map ProgSt.course = e.audio.progs.map ProgSt.course := congrArg Prod.fst h
  simpa using congrArg List.length hl

/-- A programme without fade and partner, its group changed: what the end of a fade leaves where `e` is the device with its event raised. -/
theorem Dev.fadeDone_spec {d e : Dev} {p : Nat} {F : ProgSt → ProgSt} {G : FollowGrp → FollowGrp} {c : Option Nat × Option FadeSt × Option BlendSt}
    {onAir : FollowGrp → Nat} (he : e.courses = d.courses) (hp : p < d.audio.progs.length) (hF : ∀ x, x.course = (d.prog p).course → (F x).course = c)
    (hG : ∀ g, (G g).onAir = onAir g) : let t := ((e.setProg p F).setGrp p G).audioSync
    (t.prog p).course = c ∧ ∀ g, d.grp? p = some g → (t.grp? p).map (·.onAir) = some (onAir g) := by
  intro t
  have ht : t.courses = ((e.setProg p F).setGrp p G).courses := Dev.audioSync_courses _
  refine ⟨(Dev.course_of_courses ht p).trans ?_, fun g hg => ?_⟩
  · rw [show ((e.setProg p F).setGrp p G).prog p = (e.setProg p F).prog p from rfl,
      Dev.prog_setProg _ _ _ (by rw [Dev.progs_of_courses he]; exact hp)]
    exact hF _ (Dev.course_of_courses he p)
  · have heg : e.grp? p = some g := (Dev.grp_of_follow (Dev.follow_of_courses he) p).trans hg
    rw [Dev.grp_of_follow (Dev.follow_of_courses ht) p, Dev.grp_setGrp, show (e.setProg p F).grp? p = e.grp? p from rfl, heg]
    exact congrArg some (hG g)

theorem Dev.ctxEvent_sansEvents (c old new cause : Nat) (d : Dev) : (d.ctxEvent c old new cause).sansEvents = d.sansEvents := by
  unfold Dev.ctxEvent
  split
  · rfl
  · exact Dev.onlyIf_leaves Dev.sansEvents _ (fun _ => Dev.raise_sansEvents ..) d

theorem Dev.fadeOver_spec {d : Dev} {p : Nat} (f : FadeSt) (manual : Bool) (hp : p < d.audio.progs.length) :
    ((d.fadeOver p f manual).prog p).course = (some f.target, none, none)
      ∧ ∀ g, d.grp? p = some g → ((d.fadeOver p f manual).grp? p).map (·.onAir) = some f.target := by
  have hev (a b : Nat) : ((d.ctxEvent f.from_ a a 7).ctxEvent f.target b b 7).courses = d.courses :=
    Dev.courses_of_sansEvents ((Dev.ctxEvent_sansEvents ..).trans (Dev.ctxEvent_sansEvents ..))
  unfold Dev.fadeOver
  refine Dev.fadeDone_spec (onAir := fun _ => f.target) ?_ hp ?_ ?_
  · split
    · exact (Dev.courses_of_sansEvents (Dev.raise_sansEvents ..)).trans (hev ..)
    · exact (Dev.courses_of_sansEvents (Dev.followSwitch_sansEvents ..)).trans (hev ..)
  · exact fun _ _ => rfl
  · exact fun _ => rfl

theorem Dev.fadeBack_spec {d : Dev} {p : Nat} (f : FadeSt) (manual : Bool) (hp : p < d.audio.progs.length) :
    ((d.fadeBack p f manual).prog p).course = ((d.prog p).src, none, none)
      ∧ ∀ g, d.grp? p = some g → ((d.fadeBack p f manual).grp? p).map (·.onAir) = some g.onAir := by
  have hmiss (d : Dev) : (d.entryMiss p).courses = d.courses := by
    unfold Dev.entryMiss Dev.setFbe
    split
    · split <;> rfl
    · rfl
  unfold Dev.fadeBack
  refine Dev.fadeDone_spec (onAir := FollowGrp.onAir) ?_ hp ?_ ?_
  · split
    · exact Dev.courses_of_sansEvents (Dev.raise_sansEvents ..)
    · exact (Dev.onlyIf_leaves Dev.courses _ hmiss _).trans (Dev.courses_of_sansEvents (Dev.followSwitch_sansEvents ..))
  · exact fun x hx => congrArg (fun c => (Prod.fst c, none, none)) hx
  · exact fun _ => rfl

theorem State.after_prog (s : State) (dt p : Nat) (e : Dev) : (s.after dt e).dev.prog p = e.prog p := rfl
theorem State.after_grp (s : State) (dt p : Nat) (e : Dev) : (s.after dt e).dev.grp? p = e.grp? p := rfl

/-! ## The commands (R552, R553) -/

/-- A group without a partner and without pool contexts names the context on air alone. -/
theorem Req.followSet {q : Req} (hair : q.p8 4 ≤ 127) (hset : ∀ k < 2, q.p8 (5 + k) = 0xFF) :
    ((List.range 3).map fun k => q.p8 (4 + k)).filter (· != 0xFF) = [q.p8 4] := by
  have h5 : q.p8 5 = 0xFF := hset 0 (by omega)
  have h6 : q.p8 6 = 0xFF := hset 1 (by omega)
  have h4 : (q.p8 4 != 0xFF) = true := by
    rw [bne_iff_ne]
    omega
  simp [List.range_succ, h4, h5, h6]

theorem Req.followPool {q : Req} (hpool : ∀ k < 8, q.p8 (8 + k) = 0xFF) : ((List.range 8).map fun k => q.p8 (8 + k)).filter (· != 0xFF) = [] := by
  rw [List.filter_eq_nil_iff]
  intro x hx
  obtain ⟨k, hk, rfl⟩ := List.mem_map.1 hx
  rw [hpool k (List.mem_range.1 hk)]
  decide

/-- Settles O50. A row outside its condition lets its time pass (log 7). -/
theorem followRows : Obligations.FollowRows := by
  unfold Obligations.FollowRows
  intro s dt p ha d x
  have ha' : (s.dev.tick dt).active = true := ha
  refine ⟨fun h => ?noGroup, fun g hg ht => ?early, fun g hg ht hh => ?holds, fun g hg ht => ?evaluates, fun b t0 hp hf hb hmis hrdy hrel ht hmeas => ?measures,
    fun b t0 hp hf hb hmis hlag hrun ht => ?timeout, fun b l hp hb hmis hrdy hlag hd => ?ready, fun f hp hf he => ?fade, fun q e hbh hw hq0 hp3 => ?commands⟩
  case noGroup =>
    refine (exec_followEvaluation ..).trans (State.runIf_of_eq ha' ?_)
    rw [show (s.dev.tick dt).grp? p = none from h]
  case early =>
    refine (exec_followEvaluation ..).trans (State.runIf_of_eq ha' ?_)
    rw [show (s.dev.tick dt).grp? p = some g from hg]
    exact if_neg (Nat.not_le.2 ht)
  case holds =>
    refine (exec_followEvaluation ..).trans (State.runIf_of_eq ha' ?_)
    rw [show (s.dev.tick dt).grp? p = some g from hg]
    exact (if_pos ht).trans (Dev.evaluate_holds (d := s.dev.tick dt) hh)
  case evaluates =>
    obtain ⟨g', h⟩ := Dev.evaluate_spec (d := s.dev.tick dt) hg
    refine ⟨_, g', (exec_followEvaluation ..).trans (State.runIf_of_eq (e := (s.dev.tick dt).evaluate p g) ha' ?_), h⟩
    rw [show (s.dev.tick dt).grp? p = some g from hg]
    exact if_pos ht
  case measures =>
    have hcond : ((s.dev.tick dt).active && ((s.dev.tick dt).prog p).fading.isNone && ((s.dev.tick dt).prog p).blend.any fun b =>
        !b.mismatched && !b.ready && b.relAt.any (fun t => t + msec 2000 ≤ (s.dev.tick dt).now)
          && (match b.measAt with | some t => decide (t + msec 500 ≤ (s.dev.tick dt).now) | none => true)) = true := by
      rw [ha', show ((s.dev.tick dt).prog p).fading = none from hf, show ((s.dev.tick dt).prog p).blend = some b from hb, Option.any_some, hmis, hrdy, hrel, hmeas,
        Option.any_some, decide_eq_true ht]
      rfl
    refine ⟨(exec_followAlignMeasurement ..).trans (State.runIf_of_eq hcond ?_), fun lag =>
      ⟨Dev.alignMeasure_unclear (d := s.dev.tick dt) hp hb lag, fun l hl hnear hnone htop hman =>
        Dev.alignMeasure_agrees (d := s.dev.tick dt) hp hb hl hnear hnone htop hman⟩⟩
    rw [show ((s.dev.tick dt).prog p).blend = some b from hb]
  case timeout =>
    have hcond : ((s.dev.tick dt).active && ((s.dev.tick dt).prog p).fading.isNone && ((s.dev.tick dt).prog p).blend.any fun b =>
        !b.mismatched && b.lag.isNone && b.runAt.any fun t => t + msec 10000 ≤ (s.dev.tick dt).now) = true := by
      rw [ha', show ((s.dev.tick dt).prog p).fading = none from hf, show ((s.dev.tick dt).prog p).blend = some b from hb, Option.any_some, hmis, hlag, hrun,
        Option.any_some, decide_eq_true ht]
      rfl
    refine ⟨fun hman => ⟨_, (exec_followAlignTimeout ..).trans (State.runIf_next _ hcond), Dev.mismatch_group (d := s.dev.tick dt) hp hb hman⟩,
      fun hman => (exec_followAlignTimeout ..).trans (State.runIf_of_eq hcond ?_)⟩
    unfold Dev.mismatch
    rw [show ((s.dev.tick dt).prog p).blend = some b from hb]
    exact if_pos hman
  case ready =>
    have hcond : ((s.dev.tick dt).active && ((s.dev.tick dt).prog p).blend.any fun b =>
        !b.mismatched && !b.ready && b.lag.any fun l => l.toNat * deltaUnit ≤ (s.dev.tick dt).deltaNow p) = true := by
      rw [ha', show ((s.dev.tick dt).prog p).blend = some b from hb, Option.any_some, hmis, hrdy, hlag, Option.any_some, decide_eq_true hd]
      rfl
    refine ⟨fun hman => (exec_followPartnerReady ..).trans (State.runIf_of_eq hcond ?_),
      fun hman => ⟨_, (exec_followPartnerReady ..).trans (State.runIf_next _ hcond), ?_⟩⟩
    · rw [show ((s.dev.tick dt).prog p).blend = some b from hb, Option.any_some, hman]
      rfl
    · obtain ⟨hr, hsrc, hlen⟩ := (s.dev.tick dt).rebase_blend hp
      have hany : (((s.dev.tick dt).prog p).blend.any (·.manual)) = false := (congrArg (Option.any BlendSt.manual) hb).trans hman
      rw [hany, Bool.not_false, Dev.onlyIf_true]
      refine (?_ : ((Dev.followCandidate p 2 _ _).prog p).blend = _ ∧ ((Dev.followCandidate p 2 _ _).prog p).src = _)
      rw [Dev.prog_of_audio (Dev.followCandidate_audio ..)]
      exact ⟨(Dev.setBlend_prog hlen (hr.trans hb)).1, (Dev.setBlend_prog hlen (hr.trans hb)).2.trans hsrc⟩
  case fade =>
    have hcond : ((s.dev.tick dt).active && ((s.dev.tick dt).prog p).fading.any (·.ends ≤ (s.dev.tick dt).now)) = true := by
      rw [ha', show ((s.dev.tick dt).prog p).fading = some f from hf, Option.any_some, decide_eq_true he]
      rfl
    have hruns := (s.dev.tick dt).audioRuns_courses
    have hexec : exec (.fadeEnd dt p) s = .next (s.after dt (if f.result = 2 || f.result = 4
        then (s.dev.tick dt).audioRuns.fadeBack p f (((s.dev.tick dt).audioRuns.prog p).blend.any (·.manual))
        else (s.dev.tick dt).audioRuns.fadeOver p f (((s.dev.tick dt).audioRuns.prog p).blend.any (·.manual)))) := by
      refine (exec_fadeEnd ..).trans (State.runIf_of_eq hcond ?_)
      dsimp only
      rw [show ((s.dev.tick dt).audioRuns.prog p).fading = some f from (congrArg (·.2.1) (Dev.course_of_courses hruns p)).trans hf]
    have hsrc : ((s.dev.tick dt).audioRuns.prog p).src = x.src := congrArg (·.1) (Dev.course_of_courses hruns p)
    have hlen : p < (s.dev.tick dt).audioRuns.audio.progs.length := by
      rw [Dev.progs_of_courses hruns]
      exact hp
    have hgrp : (s.dev.tick dt).audioRuns.grp? p = s.dev.grp? p := Dev.grp_of_follow (Dev.follow_of_courses hruns) p
    generalize (s.dev.tick dt).audioRuns = r at hexec hsrc hlen hgrp
    refine ⟨fun h2 h4 => ⟨_, hexec, ?_⟩, fun h => ⟨_, hexec, ?_⟩⟩
    all_goals rw [State.after_prog, State.after_grp]
    · rw [if_neg (by simp [h2, h4])]
      obtain ⟨hc, hg⟩ := Dev.fadeOver_spec f ((r.prog p).blend.any (·.manual)) hlen
      obtain ⟨h1, hc⟩ := Prod.mk.inj hc
      obtain ⟨h2, h3⟩ := Prod.mk.inj hc
      exact ⟨h1, h2, h3, fun g h => hg g (hgrp.trans h)⟩
    · rw [if_pos (by simpa using h)]
      obtain ⟨hc, hg⟩ := Dev.fadeBack_spec f ((r.prog p).blend.any (·.manual)) hlen
      obtain ⟨h1, hc⟩ := Prod.mk.inj hc
      obtain ⟨h2, h3⟩ := Prod.mk.inj hc
      exact ⟨h1.trans hsrc, h2, h3, fun g h => hg g (hgrp.trans h)⟩
  case commands =>
    refine ⟨fun h ho hl hmode hact hflags hair hctx hset hpool h7 h18 hroute hfade hgrp ⟨c, hc, hcl, hfg, hkind, hown⟩ => ?cfg, fun h hl hz hg => ?status⟩
    case cfg =>
      have howner : e.ctxOwner (q.p8 4) = some q.src := (congrArg (Option.map CtxSt.owner) hc).trans (congrArg some hown)
      refine (exec_followCfg ..).trans (State.command_ok h ?_ (State.admits_fits h rfl (by simp [Dev.boundaryReply])))
      unfold followCfgBody
      dsimp only
      rw [Req.followSet hair hset, Req.followPool hpool, hmode, hact, hq0]
      refine checked_of_passes ?_
      simp only [List.mem_cons, List.not_mem_nil, or_false, forall_eq_or_imp, forall_eq, List.append_nil, List.any_cons, List.any_nil, Bool.or_false]
      refine ⟨by simp [hl], ?_, ?_, Req.notSystem_owner ho, ?_, rfl, ?_⟩
      · simp [hctx]
      · simp [hbh, hp3, hflags, h7, h18, hasRepeat]
        omega
      · rw [hw, hroute, hc, howner]
        simp [hcl, hfg, hkind, hgrp]
      · rw [hfade]
        rfl
    case status =>
      refine (exec_followStatus ..).trans (State.command_ok h ?_ (State.admits_fits h rfl (by simp)))
      unfold followStatusBody
      dsimp only
      rw [hq0, hg]
      refine checked_of_passes ?_
      simp only [List.mem_cons, List.not_mem_nil, or_false, forall_eq_or_imp, forall_eq]
      exact ⟨by simp [hl], by simp [hbh, hz, hp3], hw⟩

end Sys2Proof.Machine
end

section
/-!
SUPPORT. What a peal, a frame that waits on a port, and the end of a link leave of the fabric's state (chapter 23).
-/
namespace Sys2Proof.Machine

/-- A port but for the frames that wait on it. -/
def ClPortSt.sansWaiting (x : ClPortSt) : ClPortSt := { x with waiting := [] }

/-- The ports but for the frames that wait on them. -/
def Dev.lanes (d : Dev) : List ClPortSt := d.cl.ports.map ClPortSt.sansWaiting

/-- All of a device but the frames that wait on its ports, the serial of its next peal and the seen-cache. -/
def Dev.sansPeals (d : Dev) : Dev := { d with cl.ports := d.lanes, cl.serial := 0, cl.seen := [] }

theorem Dev.clPort_of_lanes {d e : Dev} (h : d.lanes = e.lanes) (p : Nat) : (d.clPort p).sansWaiting = (e.clPort p).sansWaiting := by
  have hmap (l : List ClPortSt) : (l.getD p {}).sansWaiting = (l.map ClPortSt.sansWaiting).getD p {} := by
    rw [List.getD_eq_getElem?_getD, List.getD_eq_getElem?_getD, List.getElem?_map]
    cases l[p]? <;> rfl
  exact (hmap _).trans ((congrArg (fun l => l.getD p {}) h).trans (hmap _).symm)

theorem Dev.setClPort_lanes {f : ClPortSt → ClPortSt} (h : ∀ x, (f x).sansWaiting = x.sansWaiting) (p : Nat) (d : Dev) : (d.setClPort p f).lanes = d.lanes :=
  map_upd h d.cl.ports p

/-! ## Peals (R633, R634) -/

theorem Dev.queueFrame_sansPeals (p : Nat) (own : Bool) (b : List Byte) (d : Dev) : (d.queueFrame p own b).sansPeals = d.sansPeals := by
  have h : (d.queueFrame p own b).lanes = d.lanes := by
    refine Dev.setClPort_lanes ?_ p d
    exact fun _ => rfl
  unfold Dev.sansPeals
  rw [h]
  rfl

theorem Dev.queueFrames_sansPeals (own : Bool) (b : List Byte) (l : List Nat) (d : Dev) :
    (forAll l (fun p e => e.queueFrame p own b) d).sansPeals = d.sansPeals := by
  refine foldl_keeps Dev.sansPeals _ ?_ l d
  exact fun e p => Dev.queueFrame_sansPeals p own b e

theorem Dev.queueFrames_seen (own : Bool) (b : List Byte) (l : List Nat) (d : Dev) : (forAll l (fun p e => e.queueFrame p own b) d).cl.seen = d.cl.seen := by
  refine foldl_keeps (fun d : Dev => d.cl.seen) _ ?_ l d
  exact fun _ _ => rfl

theorem Dev.peal_sansPeals (kind refresh : Nat) (body : List Byte) (d : Dev) : (d.peal kind refresh body).sansPeals = d.sansPeals :=
  Dev.queueFrames_sansPeals ..

theorem Dev.peal_seen (kind refresh : Nat) (body : List Byte) (d : Dev) :
    (d.peal kind refresh body).cl.seen = ((d.uid, d.cl.serial) :: d.cl.seen).take 64 :=
  congrArg (fun l => (_ :: l).take 64) (Dev.queueFrames_seen ..)

theorem Dev.flood_sansPeals (p : Nat) (b : List Byte) (d : Dev) : (d.flood p b).sansPeals = d.sansPeals := by
  unfold Dev.flood
  split
  · rfl
  · exact Dev.queueFrames_sansPeals ..

theorem Dev.flood_seen (p : Nat) (b : List Byte) (d : Dev) : (d.flood p b).cl.seen = d.cl.seen := by
  unfold Dev.flood
  split
  · rfl
  · exact Dev.queueFrames_seen ..

/-! ## Links (R628, R637) -/

theorem Dev.clPort_of_cl {d e : Dev} (h : d.cl = e.cl) (p : Nat) : d.clPort p = e.clPort p := congrArg (fun c : ClSt => c.ports.getD p {}) h

theorem Dev.tellLinks_lanes (d : Dev) : d.tellLinks.lanes = d.lanes := by
  unfold Dev.tellLinks Dev.onlyIf
  split
  · exact (congrArg (·.cl.ports) (Dev.peal_sansPeals ..) :)
  · rfl

theorem Dev.leaveUp_clPort (p cause : Nat) (f : Dev → Dev) (d : Dev) :
    ((d.leaveUp p cause f).clPort p).sansWaiting = ((f (d.portDown p cause)).clPort p).sansWaiting :=
  Dev.clPort_of_lanes (Dev.tellLinks_lanes _) p

theorem Dev.portDown_cl (p cause : Nat) (d : Dev) : (d.portDown p cause).cl = d.cl := Dev.emit_cl ..

theorem Dev.setClPort_clPort_of_cl {d e : Dev} (h : e.cl = d.cl) {p : Nat} (hp : p < d.cl.ports.length) (f : ClPortSt → ClPortSt) :
    (e.setClPort p f).clPort p = f (d.clPort p) :=
  (Dev.clPort_setClPort p f e (h.symm ▸ hp)).trans (congrArg f (Dev.clPort_of_cl h p))

/-- A port enters LINKED anew (R632): nothing of a neighbour is kept, and a challenge is drawn. -/
theorem Dev.linkPort_clPort {p : Nat} {d : Dev} (hp : p < d.cl.ports.length) :
    (d.linkPort p).clPort p = { (d.clPort p).toOff with mode := .linked, challenge := Config.entropy d.draws } :=
  Dev.clPort_setClPort p _ d hp

/-- A port that retrains (R628) is in TRAINING, with its errors as they were. -/
theorem Dev.retrain_clPort (cause : Nat) {p : Nat} {d : Dev} (hp : p < d.cl.ports.length) (hoff : (d.clPort p).mode ≠ .off) :
    ((d.retrain p cause).clPort p).mode = .training ∧ ((d.retrain p cause).clPort p).errors = (d.clPort p).errors := by
  unfold Dev.retrain
  split
  · have h : (((d.leaveUp p cause fun e => e.setClPort p ClPortSt.toTraining).clPort p)).sansWaiting = (d.clPort p).toTraining.sansWaiting :=
      (Dev.leaveUp_clPort ..).trans (congrArg _ (Dev.setClPort_clPort_of_cl (Dev.portDown_cl ..) hp _))
    exact ⟨(congrArg (·.mode) h :), (congrArg (·.errors) h :)⟩
  · rw [Dev.clPort_setClPort p _ d hp]
    exact ⟨rfl, rfl⟩
  · rename_i hup hlinked
    cases hm : (d.clPort p).mode with
    | off => exact absurd hm hoff
    | training => exact ⟨rfl, rfl⟩
    | linked => exact absurd hm hlinked
    | up => exact absurd hm hup

/-- A port without a link does not retrain. -/
theorem Dev.retrain_of_apart (cause : Nat) {p : Nat} {d : Dev} (h : (d.clPort p).mode = .off ∨ (d.clPort p).mode = .training) : d.retrain p cause = d := by
  unfold Dev.retrain
  obtain h | h := h <;> rw [h]

/-- A port that passes to UP keeps its neighbour. -/
theorem Dev.portUp_clPort {p : Nat} {d : Dev} (hp : p < d.cl.ports.length) :
    ((d.portUp p).clPort p).mode = .up ∧ ((d.portUp p).clPort p).neighbour = (d.clPort p).neighbour := by
  have hsent : (d.sendHello p).clPort p = { d.clPort p with helloAt := some d.now, answered := !(d.clPort p).heard.isEmpty } :=
    Dev.clPort_setClPort p _ d hp
  have hlen : p < (d.sendHello p).cl.ports.length := (length_upd d.cl.ports p _).symm ▸ hp
  have h : ((d.portUp p).clPort p).sansWaiting = ClPortSt.sansWaiting { (d.sendHello p).clPort p with mode := .up, suspect := d.upSuspect (d.clPort p) } := by
    unfold Dev.portUp
    refine (Dev.clPort_of_lanes (Dev.tellLinks_lanes _) p).trans (congrArg _ ?_)
    refine (Dev.clPort_of_cl (Dev.emit_cl ..) p).trans ?_
    rw [← Dev.clPort_setClPort p (fun x => { x with mode := .up, suspect := d.upSuspect (d.clPort p) }) _ hlen]
    split <;> rfl
  rw [hsent] at h
  exact ⟨(congrArg (·.mode) h :), (congrArg (·.neighbour) h :)⟩

end Sys2Proof.Machine
end

section
/-!
PROOF. The rows of a Carillon port and the commands on links (chapter 23).
-/
namespace Sys2Proof.Machine

/-! ## HELLO (R632) -/

/-- What a HELLO leaves of port `p` before its response is judged. -/
def Dev.heardHello (p : Nat) (y : List Byte) (d : Dev) : Dev :=
  d.setClPort p fun z => { z with heard := slice y 8 8, neighbour := slice y 0 8, nbrPort := at8 y 24, nbrKey := at8 y 25 }

/-- The response of a HELLO is the one to the port's challenge. -/
def Dev.answersChallenge (d : Dev) (p : Nat) (y : List Byte) : Prop :=
  slice y 16 8 = d.helloResponse (leBytes 8 (d.clPort p).challenge.toNat) (slice y 0 8) (at8 y 24)

section
variable {p : Nat} {b : List Byte} {d : Dev}

theorem Dev.hello_of_zero (h : (slice (framePayload b) 16 8).all (· == 0) = true) : d.hello p b = d.heardHello p (framePayload b) := if_pos h

/-- A right response takes a LINKED port of a joined device to UP, once the port has answered too. -/
theorem Dev.hello_of_right (hp : p < d.cl.ports.length) (h : (slice (framePayload b) 16 8).all (· == 0) = false) (hr : d.answersChallenge p (framePayload b))
    (hm : (d.clPort p).mode = .linked) (ha : (d.clPort p).answered = true) (hj : d.joined = true) :
    ((d.hello p b).clPort p).mode = .up ∧ ((d.hello p b).clPort p).neighbour = slice (framePayload b) 0 8 := by
  have hx : d.hello p b = (d.heardHello p (framePayload b)).portUp p := by
    unfold Dev.hello
    dsimp only
    rw [if_neg (Bool.eq_false_iff.1 h), if_pos (beq_iff_eq.2 hr), hm, ha, hj]
    rfl
  have hlen : p < (d.heardHello p (framePayload b)).cl.ports.length := (length_upd d.cl.ports p _).symm ▸ hp
  obtain ⟨hup, hn⟩ := Dev.portUp_clPort hlen
  rw [hx]
  exact ⟨hup, hn.trans (congrArg (·.neighbour) (Dev.clPort_setClPort p _ d hp))⟩

/-- A wrong response leaves the port LINKED, or takes it there from UP. -/
theorem Dev.hello_of_wrong (hp : p < d.cl.ports.length) (h : (slice (framePayload b) 16 8).all (· == 0) = false) (hr : ¬ d.answersChallenge p (framePayload b))
    (hm : (d.clPort p).mode = .linked ∨ (d.clPort p).mode = .up) : ((d.hello p b).clPort p).mode = .linked := by
  unfold Dev.hello
  dsimp only
  rw [if_neg (Bool.eq_false_iff.1 h), if_neg (mt beq_iff_eq.1 hr)]
  split
  · have hl : ((d.portDown p 3).linkPort p).clPort p = _ := Dev.linkPort_clPort ((Dev.portDown_cl p 3 d).symm ▸ hp)
    exact (congrArg (·.mode) ((Dev.leaveUp_clPort ..).trans (congrArg ClPortSt.sansWaiting hl)) :)
  · rename_i hup
    have hl := hm.resolve_right fun h => hup (beq_iff_eq.2 h)
    rw [Dev.clPort_of_cl (Dev.portDown_cl ..), Dev.clPort_setClPort p _ d hp]
    exact hl

end

/-! ## The rows -/

section
variable {s : State} {dt p : Nat} (hact : s.dev.active = true)
include hact

/-- The frame of a HELLO runs by its checks on a port that is LINKED or UP. -/
theorem State.hello_runs {b : List Byte} (hk : s.dev.fabKeyed = true) (hm : (s.dev.clPort p).mode = .linked ∨ (s.dev.clPort p).mode = .up) :
    exec (.helloFrame dt p b) s = .next (s.after dt
      (if !headerGood b then (s.dev.tick dt).discard else if frameType b != 3 || frameDest b != 0 then s.dev.tick dt
        else if !trailerGood b || (framePayload b).length != 32 then (s.dev.tick dt).discard else (s.dev.tick dt).hello p b)) := by
  refine (exec_helloFrame ..).trans (State.runIf_next _ ?_)
  rw [show (s.dev.tick dt).active = true from hact, show (s.dev.tick dt).fabKeyed = true from hk]
  obtain hm | hm := hm <;> rw [show ((s.dev.tick dt).clPort p).mode = _ from hm] <;> rfl

theorem State.hello_good {b : List Byte} (hk : s.dev.fabKeyed = true) (hm : (s.dev.clPort p).mode = .linked ∨ (s.dev.clPort p).mode = .up)
    (hh : headerGood b = true) (ht : frameType b = 3) (hd : frameDest b = 0) (hg : trailerGood b = true) (hl : (framePayload b).length = 32) :
    exec (.helloFrame dt p b) s = .next (s.after dt ((s.dev.tick dt).hello p b)) := by
  refine (State.hello_runs hact hk hm).trans ?_
  rw [if_neg (by simp [hh]), if_neg (by simp [ht, hd]), if_neg (by simp [hg, hl])]

theorem State.portLinked_spec (hp : p < s.dev.cl.ports.length) {n : Nat} (hm : (s.dev.clPort p).mode = .training) (hn : 1024 ≤ n) :
    ∃ t, exec (.clPortLinked dt p n) s = .next t ∧ (t.dev.clPort p).mode = .linked ∧ (t.dev.clPort p).heard = []
      ∧ (t.dev.clPort p).answered = false ∧ (t.dev.clPort p).challenge = Config.entropy s.dev.draws ∧ t.dev.draws = s.dev.draws + 1 := by
  refine ⟨_, (exec_clPortLinked ..).trans (State.runIf_next _ ?_), ?_⟩
  · rw [show (s.dev.tick dt).active = true from hact, show ((s.dev.tick dt).clPort p).mode = _ from hm, decide_eq_true hn]
    rfl
  · have hl : ((s.dev.tick dt).linkPort p).clPort p = _ := Dev.linkPort_clPort hp
    have hd : ((s.dev.tick dt).linkPort p).draws = s.dev.draws + 1 := rfl
    generalize (s.dev.tick dt).linkPort p = e at hl hd ⊢
    exact ⟨(congrArg (·.mode) hl :), (congrArg (·.heard) hl :), (congrArg (·.answered) hl :), (congrArg (·.challenge) hl :), hd⟩

theorem State.syncLost_spec (hp : p < s.dev.cl.ports.length) (n g : Nat) (hm : (s.dev.clPort p).mode ≠ .off) :
    ∃ t, exec (.clSyncLost dt p n g) s = .next t ∧ (t.dev.clPort p).errors = satAdd 0xFFFF (s.dev.clPort p).errors n
      ∧ (t.dev.clPort p).mode = if 4 ≤ n ∧ g ≤ 256 then .training else (s.dev.clPort p).mode := by
  refine ⟨_, (exec_clSyncLost ..).trans (State.runIf_next _ hact), ?_⟩
  have hc : ((s.dev.tick dt).setClPort p fun x => if x.mode == .off then x else { x with errors := satAdd 0xFFFF x.errors n }).clPort p
      = { s.dev.clPort p with errors := satAdd 0xFFFF (s.dev.clPort p).errors n } :=
    (Dev.clPort_setClPort p _ (s.dev.tick dt) hp).trans (if_neg (mt beq_iff_eq.1 hm))
  have hlen : p < ((s.dev.tick dt).setClPort p fun x => if x.mode == .off then x else { x with errors := satAdd 0xFFFF x.errors n }).cl.ports.length :=
    (length_upd s.dev.cl.ports p _).symm ▸ hp
  dsimp only
  generalize (s.dev.tick dt).setClPort p (fun x => if x.mode == .off then x else { x with errors := satAdd 0xFFFF x.errors n }) = e at hc hlen ⊢
  have hmode : (e.clPort p).mode = (s.dev.clPort p).mode := congrArg (·.mode) hc
  have herr : (e.clPort p).errors = satAdd 0xFFFF (s.dev.clPort p).errors n := congrArg (·.errors) hc
  by_cases h : 4 ≤ n ∧ g ≤ 256
  · rw [if_pos h, decide_eq_true h.1, decide_eq_true h.2]
    obtain ⟨h1, h2⟩ := Dev.retrain_clPort 0 hlen (hmode ▸ hm)
    exact ⟨h2.trans herr, h1⟩
  · rw [if_neg h, show (decide (4 ≤ n) && decide (g ≤ 256)) = false by simpa using h]
    exact ⟨herr, hmode⟩

theorem State.signalLost_spec (hp : p < s.dev.cl.ports.length) {n : Nat} (hn : 1000 ≤ n)
    (hm : (s.dev.clPort p).mode = .up ∨ (s.dev.clPort p).mode = .linked) :
    ∃ t, exec (.clSignalLost dt p n) s = .next t ∧ (t.dev.clPort p).mode = .training ∧ (t.dev.clPort p).errors = (s.dev.clPort p).errors := by
  refine ⟨_, (exec_clSignalLost ..).trans (State.runIf_next _ ?_), ?_⟩
  · rw [show (s.dev.tick dt).active = true from hact, decide_eq_true hn]
    rfl
  · refine Dev.retrain_clPort (d := s.dev.tick dt) 1 hp ?_
    obtain hm | hm := hm <;> rw [show ((s.dev.tick dt).clPort p).mode = _ from hm] <;> exact nofun

theorem State.signalLost_skips {n : Nat} (h : n < 1000 ∨ (s.dev.clPort p).mode = .off ∨ (s.dev.clPort p).mode = .training) :
    exec (.clSignalLost dt p n) s = .next (s.after dt (s.dev.tick dt)) := by
  rw [exec_clSignalLost]
  by_cases hn : 1000 ≤ n
  · have hm := h.resolve_left (by omega)
    refine State.runIf_of_eq ?_ (Dev.retrain_of_apart 1 hm)
    rw [show (s.dev.tick dt).active = true from hact, decide_eq_true hn]
    rfl
  · exact State.runIf_skip _ (by rw [decide_eq_false hn, Bool.and_false])

end

/-! ## The commands -/

/-- Settles O55. The rows of a port by the mode that each finds, and the commands by their checks. That the challenge of a port that links is
the next draw of `Config.entropy` is DESIGN CHOICE log 1; that rows outside their condition only let time pass is DESIGN CHOICE log 7. -/
theorem fabricLinks : Obligations.FabricLinks := by
  unfold Obligations.FabricLinks
  intro s dt p d x
  refine ⟨fun hact hp => ⟨fun hpll => ?pllF, fun n hm hn => State.portLinked_spec hact hp hm hn, fun n hm hn => ?apart,
    fun n g hm => State.syncLost_spec hact hp n g hm, fun n hn hm => State.signalLost_spec hact hp hn hm,
    fun n h => State.signalLost_skips hact h, fun hj hk hm hh => ?helloSend, fun b hk hm => ⟨fun hb => ?bad, fun hb hne => ?other,
      fun hb ht hd hg hl => ⟨fun hz => ?zero, fun hz hr hm ha hj => ?right, fun hz hr => ?wrong⟩⟩, fun t0 hm hs hf ht => ?drift⟩,
    fun q e hq hw => ⟨fun hown => ⟨fun h hl hp hon hz => ⟨fun hsame => ?portSame, fun hne => ?port⟩, fun h hl hj hd hen hk => ?join,
      fun h hl hk => ?joinUnkeyed, fun h hl hj => ?leave⟩, fun h hl hp hz hfit => ?topology⟩⟩
  case pllF => exact (exec_pllFLock ..).trans (State.runIf_next _ (by rw [show (s.dev.tick dt).active = true from hact]; exact hpll))
  case apart =>
    exact (exec_clPortLinked ..).trans (State.runIf_skip _ (by rw [decide_eq_false (by omega), Bool.and_false]))
  case helloSend =>
    refine (exec_helloSend ..).trans (State.runIf_next _ ?_)
    rw [show (s.dev.tick dt).active = true from hact, show (s.dev.tick dt).joined = true from hj, show (s.dev.tick dt).fabKeyed = true from hk,
      show ((s.dev.tick dt).clPort p).mode = _ from hm, show ((s.dev.tick dt).clPort p).helloAt = none from hh]
    rfl
  case bad => exact (State.hello_runs hact hk hm).trans (by rw [if_pos (by simp [hb])])
  case other => exact (State.hello_runs hact hk hm).trans (by rw [if_neg (by simp [hb]), if_pos (by simpa using hne)])
  case zero => exact (State.hello_good hact hk hm hb ht hd hg hl).trans (by rw [Dev.hello_of_zero hz]; rfl)
  case right =>
    refine ⟨_, State.hello_good hact hk (.inl hm) hb ht hd hg hl, ?_⟩
    have h := Dev.hello_of_right (d := s.dev.tick dt) hp hz hr hm ha hj
    generalize (s.dev.tick dt).hello p b = e at h ⊢
    exact h
  case wrong =>
    refine ⟨_, State.hello_good hact hk hm hb ht hd hg hl, ?_⟩
    have h := Dev.hello_of_wrong (d := s.dev.tick dt) hp hz hr hm
    generalize (s.dev.tick dt).hello p b = e at h ⊢
    exact h
  case drift =>
    refine (exec_clPortDriftSuspect ..).trans (State.runIf_next _ ?_)
    rw [show (s.dev.tick dt).active = true from hact, show ((s.dev.tick dt).clPort p).mode = _ from hm,
      show ((s.dev.tick dt).clPort p).suspect = _ from hs, show ((s.dev.tick dt).clPort p).frameAt = _ from hf, Option.all_some,
      decide_eq_true ht]
    rfl
  case portSame =>
    refine State.command_ok h ?_ (State.admits_fits h rfl (by simp))
    unfold clPortBody
    dsimp only
    rw [checked_of_passes (by simp [hl, hq, hp, hon, hz, hw, Req.notSystem, hown]), if_pos (beq_iff_eq.2 hsame)]
  case port =>
    refine State.command_ok h ?_ (State.admits_fits h rfl (by simp))
    unfold clPortBody
    dsimp only
    rw [checked_of_passes (by simp [hl, hq, hp, hon, hz, hw, Req.notSystem, hown]), if_neg (mt beq_iff_eq.1 hne)]
  case join =>
    refine State.command_deferred h ?_ (State.admits_fits h rfl (by simp))
    have hany : (List.range 4).any e.portEnabled = true := List.any_eq_true.2 (by simpa using hen)
    unfold clJoinBody
    rw [checked_of_passes (by simp [hl, hq, hw, hj, hd, hany, hk, Req.notSystem, hown])]
  case joinUnkeyed =>
    refine State.command_refuses h rfl ?_ rfl (State.admits_fits h rfl (by simp))
    simp [firstFailure, hl, hq, hk, Req.notSystem, hown]
  case leave =>
    refine State.command_passes h rfl ?_ (State.admits_fits h rfl (by simp))
    obtain hj | hj := hj <;> simp [hl, hq, hw, hj, Req.notSystem, hown]
  case topology =>
    exact State.command_passes h rfl (by simp [hl, hq, hp, hz, hw]) hfit

end Sys2Proof.Machine
end

section
/-!
SUPPORT. What the election, the addresses, the slot grants and a new route table leave as they were (chapters 23 and 24).
-/
namespace Sys2Proof.Machine

/-! ## The Benchmark held (R635) -/

/-- The fabric's state but for the Benchmark held, the election, the loop and the ports. -/
def ClSt.sansBench (c : ClSt) : ClSt :=
  { c with
    best := none, quiet := none, announceAt := none, excluded := [], loop := .none_, acquireCause := 0, trim := 0, integ := 0, phi2 := none
    slewing := false, near := 0, far := 0, tollPort := none, heldToll := [], ports := [] }

theorem Dev.steerPll_eq (d : Dev) : ∃ k, d.steerPll = { d with clk := k } := by
  unfold Dev.steerPll
  dsimp only
  split
  · exact ⟨d.clk, rfl⟩
  · exact ⟨_, rfl⟩

theorem Dev.steerPll_cl (d : Dev) : d.steerPll.cl = d.cl := by
  obtain ⟨k, h⟩ := d.steerPll_eq
  rw [h]

theorem Dev.acquire_sansBench (cause : Nat) (d : Dev) : (d.acquire cause).cl.sansBench = d.cl.sansBench := by
  unfold Dev.acquire
  rw [Dev.steerPll_cl]
  rfl

theorem Dev.emit_sansBench (src : Nat) (pl : List Byte) (d : Dev) : (d.emit src pl).cl.sansBench = d.cl.sansBench :=
  congrArg ClSt.sansBench (Dev.emit_cl ..)

theorem Dev.holdBest_sansBench (b : Nat × List Byte) (d : Dev) : (d.holdBest b).cl.sansBench = d.cl.sansBench := by
  unfold Dev.holdBest
  dsimp only
  split
  · rfl
  · split
    · rfl
    · generalize he : Dev.emit 120 _ _ = e
      have h : e.cl.sansBench = d.cl.sansBench := he ▸ Dev.emit_sansBench ..
      split
      · exact h
      · refine (Dev.acquire_sansBench ..).trans ?_
        have hended := Dev.onlyIf_leaves (fun e : Dev => e.cl.sansBench) (e.cl.loop == .holdover) (f := Dev.holdoverEnds 3 none)
          (fun e => Dev.emit_sansBench ..) e
        generalize e.onlyIf (e.cl.loop == .holdover) (Dev.holdoverEnds 3 none) = g at hended ⊢
        exact Eq.trans (b := g.cl.sansBench) rfl (hended.trans h)

theorem Dev.electWithout_sansBench (u : List Byte) (d : Dev) : (d.electWithout u).cl.sansBench = d.cl.sansBench := Dev.holdBest_sansBench ..

theorem Dev.departed_sansBench (u : List Byte) (d : Dev) : (d.departed u).cl.sansBench = d.cl.sansBench :=
  Dev.onlyIf_leaves (fun e : Dev => e.cl.sansBench) _ (Dev.electWithout_sansBench u) d

theorem Dev.candidate_sansBench (u : List Byte) (kind : Nat) (c : Nat × List Byte) (d : Dev) : (d.candidate u kind c).cl.sansBench = d.cl.sansBench := by
  unfold Dev.candidate
  dsimp only
  split
  · rfl
  · generalize he : (if (kind == 0 && u == c.2) = true then { d with cl.excluded := d.cl.excluded.filter (· != u) } else d) = e
    have h : e.cl.sansBench = d.cl.sansBench := by
      rw [← he]
      split <;> rfl
    split
    · have hheld := Dev.holdBest_sansBench c e
      generalize e.holdBest c = g at hheld ⊢
      exact Eq.trans (b := g.cl.sansBench) rfl (hheld.trans h)
    · exact h

/-! ## Addresses (R636) -/

/-- What a device that becomes the Benchmark shows: the phase, the election, the loop and its own address. -/
def Dev.seat (d : Dev) : ClPhase × Option Nat × LoopState × Nat := (d.cl.phase, d.cl.quiet, d.cl.loop, d.ownAddr)

theorem Dev.discovered_seat (d : Dev) : d.discovered.seat = d.seat := by
  have hof {a b : Dev} (h : a.sansEvents = b.sansEvents) : a.seat = b.seat := (congrArg Dev.seat h :)
  unfold Dev.discovered
  dsimp only
  split
  · rfl
  · exact hof (a := Dev.emit 124 _ _) (b := { d with cl.told := true }) (Dev.raise_sansEvents ..)

theorem Dev.peal_seat (kind refresh : Nat) (body : List Byte) (d : Dev) : (d.peal kind refresh body).seat = d.seat :=
  (congrArg Dev.seat (Dev.peal_sansPeals kind refresh body d) :)

/-- The Benchmark only adds addresses (R636). -/
theorem Dev.assigned_extends (d : Dev) : ∃ m, d.assigned = d.cl.addrs ++ m := by
  unfold Dev.assigned
  generalize byUid (d.cl.heard.filter (· != d.uid)) = us
  generalize d.cl.addrs = t
  induction us generalizing t with
  | nil => exact ⟨[], (List.append_nil t).symm⟩
  | cons u us ih =>
    rw [List.foldl_cons]
    split
    · exact ih t
    · split
      · obtain ⟨m, hm⟩ := ih (t ++ [_])
        exact ⟨_, hm.trans (List.append_assoc ..)⟩
      · exact ih t

/-- The Benchmark has address 1 (R636). -/
theorem Dev.becomeBench_seat (d : Dev) : d.becomeBench.seat = (d.cl.phase, d.cl.quiet, .benchmark, 1) := by
  have hgrant (g : Dev) (t : List AddrEnt) (ht : g.cl.addrs = { uid := g.uid, addr := 1 } :: t) :
      (g.grantAddresses true).seat = (g.cl.phase, g.cl.quiet, g.cl.loop, 1) := by
    obtain ⟨m, hm⟩ := g.assigned_extends
    have hseat : (g.grantAddresses true).seat = Dev.seat { g with cl.addrs := g.assigned } := by
      unfold Dev.grantAddresses
      exact (Dev.discovered_seat _).trans (Dev.peal_seat ..)
    refine hseat.trans ?_
    rw [hm, ht]
    simp only [Dev.seat, Dev.ownAddr, Dev.addrOf, List.cons_append, Prod.mk.injEq, true_and]
    rw [List.find?_cons_of_pos (by exact beq_self_eq_true g.uid)]
    rfl
  have hsteer (g : Dev) : g.steerPll.cl = g.cl ∧ g.steerPll.uid = g.uid := by
    obtain ⟨k, h⟩ := g.steerPll_eq
    rw [h]
    exact ⟨rfl, rfl⟩
  have hended := Dev.onlyIf_leaves Dev.sansEvents (d.cl.loop == .holdover) (f := Dev.holdoverEnds 3 none) (fun e => Dev.raise_sansEvents ..) d
  unfold Dev.becomeBench
  generalize d.onlyIf (d.cl.loop == .holdover) (Dev.holdoverEnds 3 none) = e at hended ⊢
  have hu : e.uid = d.uid := (congrArg Dev.uid hended :)
  have hphase : e.cl.phase = d.cl.phase := (congrArg (·.cl.phase) hended :)
  have hquiet : e.cl.quiet = d.cl.quiet := (congrArg (·.cl.quiet) hended :)
  dsimp only
  rw [hgrant _ (d.cl.addrs.filter fun x => x.uid != d.uid && x.addr != 1), (hsteer _).1, ← hphase, ← hquiet]
  rw [(hsteer _).1, (hsteer _).2, ← hu]
  rfl

/-! ## Releases (24 R665) -/

/-- A device that is not the Benchmark asks for a release, which waits until it is confirmed. -/
theorem Dev.releaseOwn_spec {d : Dev} (hb : d.isBench = false) (stream : Nat) :
    (d.releaseOwn stream).cl.releases = d.cl.releases.filter (fun x => x.1 != stream) ++ [(stream, d.now)]
      ∧ (d.releaseOwn stream).cl.opening = d.cl.opening := by
  unfold Dev.releaseOwn
  dsimp only
  rw [hb, if_neg Bool.false_ne_true]
  have h : (d.release stream).sansPeals = _ := Dev.peal_sansPeals ..
  exact ⟨(congrArg (·.cl.releases) h :), (congrArg (·.cl.opening) h :)⟩

/-! ## Route tables (R637, R638) -/

/-- The route table in use, and the refreshes under way. -/
def ClSt.tables (c : ClSt) := (c.routes, c.refresh, c.pending)

theorem Dev.emit_tables (src : Nat) (pl : List Byte) (d : Dev) : (d.emit src pl).cl.tables = d.cl.tables := congrArg ClSt.tables (Dev.emit_cl ..)

theorem Dev.peal_tables (kind refresh : Nat) (body : List Byte) (d : Dev) : (d.peal kind refresh body).cl.tables = d.cl.tables :=
  (congrArg (fun e : Dev => e.cl.tables) (Dev.peal_sansPeals kind refresh body d) :)

theorem Dev.answerLater_cl (st : Status) (pl : List Byte) (d : Dev) : (d.answerLater st pl).cl = d.cl :=
  (congrArg Dev.cl (Dev.answerLater_sansStream st pl d) :)

theorem Dev.answerLater_tables (st : Status) (pl : List Byte) (d : Dev) : (d.answerLater st pl).cl.tables = d.cl.tables :=
  congrArg ClSt.tables (Dev.answerLater_cl st pl d)

theorem Dev.departed_tables (u : List Byte) (d : Dev) : (d.departed u).cl.tables = d.cl.tables := (congrArg ClSt.tables (Dev.departed_sansBench u d) :)

theorem Dev.dropAddrs_tables (gone : List Nat) (d : Dev) : (d.dropAddrs gone).cl.tables = d.cl.tables := by
  unfold Dev.dropAddrs
  refine foldl_keeps (fun e : Dev => e.cl.tables) _ ?_ _ _
  exact fun _ _ => Dev.emit_tables ..

theorem Dev.discovered_tables (d : Dev) : d.discovered.cl.tables = d.cl.tables := by
  unfold Dev.discovered
  dsimp only
  split
  · rfl
  · exact Dev.emit_tables ..

theorem Dev.grantAddresses_tables (always : Bool) (d : Dev) : (d.grantAddresses always).cl.tables = d.cl.tables := by
  unfold Dev.grantAddresses
  dsimp only
  split
  · exact (Dev.discovered_tables _).trans (Dev.peal_tables ..)
  · rfl

theorem Dev.countAbsent_tables (ans : List TopoAns) (d : Dev) : (d.countAbsent ans).cl.tables = d.cl.tables := Dev.grantAddresses_tables ..

theorem Dev.release_tables (stream : Nat) (d : Dev) : (d.release stream).cl.tables = d.cl.tables := Dev.peal_tables ..

theorem Dev.streamGranted_tables (stream first count t : Nat) (d : Dev) : (d.streamGranted stream first count t).cl.tables = d.cl.tables := by
  unfold Dev.streamGranted
  dsimp only
  split
  · exact Dev.answerLater_tables ..
  · split
    · rfl
    · exact Dev.release_tables ..

theorem Dev.streamRefused_tables (stream : Nat) (d : Dev) : (d.streamRefused stream).cl.tables = d.cl.tables := by
  unfold Dev.streamRefused
  split
  · exact Dev.answerLater_tables ..
  · rfl

theorem Dev.acceptGrant_tables (body : List Byte) (d : Dev) : (d.acceptGrant body).cl.tables = d.cl.tables := by
  unfold Dev.acceptGrant
  dsimp only
  split
  · rfl
  · split
    · exact Dev.streamGranted_tables ..
    · exact Dev.streamRefused_tables ..
    · rfl
    · rfl

theorem Dev.sendGrant_tables (stream src dest first count result r : Nat) (d : Dev) :
    (d.sendGrant stream src dest first count result r).cl.tables = d.cl.tables :=
  (Dev.acceptGrant_tables ..).trans (Dev.peal_tables ..)

theorem Dev.recheck_tables (rest : List GrantSt) (g : GrantSt) (d : Dev) : (d.recheck rest g).cl.tables = d.cl.tables := by
  unfold Dev.recheck
  dsimp only
  split
  · rfl
  · split
    · rfl
    · split
      · exact Dev.sendGrant_tables ..
      · exact Dev.sendGrant_tables ..

theorem Dev.recheckAll_tables (d : Dev) : d.recheckAll.cl.tables = d.cl.tables := by
  unfold Dev.recheckAll
  refine foldl_keeps (fun e : Dev => e.cl.tables) _ ?_ _ _
  exact fun e x => Dev.recheck_tables ..

theorem Dev.askSlots_sansAsking (x : StreamSt) (d : Dev) : (d.askSlots x).cl.tables = d.cl.tables ∧ (d.askSlots x).cl.streams = d.cl.streams
    ∧ (d.askSlots x).cl.opening = d.cl.opening := by
  unfold Dev.askSlots
  dsimp only
  split
  · exact ⟨rfl, rfl, rfl⟩
  · generalize hp : Dev.peal 4 0 _ d = e
    have h := hp ▸ Dev.peal_sansPeals 4 0 _ d
    exact ⟨(congrArg (fun e : Dev => e.cl.tables) h :), (congrArg (·.cl.streams) h :), (congrArg (·.cl.opening) h :)⟩

theorem Dev.streamsByTable_tables (d : Dev) : d.streamsByTable.cl.tables = d.cl.tables := by
  unfold Dev.streamsByTable
  dsimp only
  refine (foldl_keeps (fun e : Dev => e.cl.tables) _ ?_ _ _).trans rfl
  intro e x
  split
  · rfl
  · exact (Dev.askSlots_sansAsking ..).1

theorem Dev.chooseToll_tables (d : Dev) : d.chooseToll.cl.tables = d.cl.tables := by
  unfold Dev.chooseToll
  split
  · split <;> rfl
  · rfl

/-- A route table that applies is the one in use, whatever follows from it. -/
theorem Dev.applyTable_tables (n : Nat) (ans : List TopoAns) (d : Dev) : (d.applyTable n ans).cl.tables = (d.tableRoutes n ans, n, d.cl.pending) := by
  unfold Dev.applyTable
  dsimp only
  refine (Dev.onlyIf_leaves (fun e : Dev => e.cl.tables) _ (Dev.departed_tables d.benchUid) _).trans ?_
  refine (Dev.chooseToll_tables _).trans ((Dev.streamsByTable_tables _).trans ?_)
  refine (Dev.onlyIf_leaves (fun e : Dev => e.cl.tables) _ Dev.recheckAll_tables _).trans ?_
  refine (Dev.onlyIf_leaves (fun e : Dev => e.cl.tables) _ (Dev.countAbsent_tables ans) _).trans ?_
  exact Dev.dropAddrs_tables ..

end Sys2Proof.Machine
end

section
/-!
PROOF. Peals, the election, the route table and the streams' slots (chapters 23 and 24).
-/
namespace Sys2Proof.Machine

/-! ## Frames received (R631, R634) -/

/-- A good frame on an UP port, inside the window, is handed over once its arrival is noted (24 R667). -/
theorem Dev.receive_good {d : Dev} {p : Nat} {a : Int} {b : List Byte} {isType : Nat → Bool} (f : Dev → Dev) (hm : (d.clPort p).mode = .up)
    (hh : headerGood b = true) (ht : isType (frameType b) = true) (ho : d.outside p a = false) : d.receive p a b isType f = f (d.accepted p a) := by
  unfold Dev.receive
  rw [if_neg (by rw [hm]; decide), if_neg (by simp [hh]), if_neg (by simp [ht]), if_neg (by simp [ho])]

theorem Dev.accepted_clPort {d : Dev} {p : Nat} (hp : p < d.cl.ports.length) (a : Int) : ((d.accepted p a).clPort p).mode = (d.clPort p).mode
    ∧ ((d.accepted p a).clPort p).neighbour = (d.clPort p).neighbour := by
  have h : (d.accepted p a).clPort p = { d.clPort p with frameAt := some d.now, e := (d.clPort p).e.map fun v => v + d.divFree (a - v) 16 } :=
    Dev.clPort_setClPort p _ d hp
  exact ⟨(congrArg (·.mode) h :), (congrArg (·.neighbour) h :)⟩

/-- The answer of a device to a refresh leaves the seen-cache and the count of refused peals. -/
theorem Dev.pealDelivered_answer {d : Dev} {u y : List Byte} (hk : at8 y 8 = 2) (hr : at16 y 22 ≠ 0) :
    (d.pealDelivered u y).cl.refused = d.cl.refused ∧ (d.pealDelivered u y).cl.seen = d.cl.seen := by
  unfold Dev.pealDelivered
  dsimp only
  have h := Dev.candidate_sansBench u (at8 y 8) (at8 y 20, slice y 12 8) d
  rw [hk] at h ⊢
  rw [if_neg hr]
  generalize d.candidate u 2 (at8 y 20, slice y 12 8) = e at h ⊢
  exact ⟨(congrArg ClSt.refused h :), (congrArg ClSt.seen h :)⟩

theorem Dev.pealArrives_refused {d : Dev} {p : Nat} {b : List Byte} (h : (framePayload b).length < 32
      ∨ (framePayload b).drop ((framePayload b).length - 8) ≠ d.fabMac ((framePayload b).take ((framePayload b).length - 8))
      ∨ ((framePayload b).take 8, at16 (framePayload b) 10) ∈ d.cl.seen) :
    d.pealArrives p b = { d with cl.refused := satAdd 0xFFFF d.cl.refused 1 } := by
  refine if_pos ?_
  simpa [or_assoc] using h

theorem Dev.pealArrives_answer {d : Dev} {p : Nat} {b : List Byte} (hl : 32 ≤ (framePayload b).length)
    (hmac : (framePayload b).drop ((framePayload b).length - 8) = d.fabMac ((framePayload b).take ((framePayload b).length - 8)))
    (hk : at8 (framePayload b) 8 = 2) (hr : at16 (framePayload b) 22 ≠ 0)
    (hseen : ((framePayload b).take 8, at16 (framePayload b) 10) ∉ d.cl.seen) :
    (d.pealArrives p b).cl.refused = d.cl.refused
      ∧ (d.pealArrives p b).cl.seen = (((framePayload b).take 8, at16 (framePayload b) 10) :: d.cl.seen).take 64 := by
  unfold Dev.pealArrives
  dsimp only
  rw [if_neg (by simpa [hmac, hseen] using hl)]
  obtain ⟨h1, h2⟩ := Dev.pealDelivered_answer
    (d := (d.noteSeen ((framePayload b).take 8) (at16 (framePayload b) 10)).flood p b) (u := (framePayload b).take 8) hk hr
  have hf := Dev.flood_sansPeals p b (d.noteSeen ((framePayload b).take 8) (at16 (framePayload b) 10))
  exact ⟨h1.trans (congrArg (·.cl.refused) hf :), h2.trans (Dev.flood_seen ..)⟩

theorem Dev.leaveArrives_refused {d : Dev} {p : Nat} {b : List Byte}
    (h : (framePayload b).length ≠ 18 ∨ slice (framePayload b) 10 8 ≠ d.fabMac ((framePayload b).take 10)) :
    d.leaveArrives p b = { d with cl.refused := satAdd 0xFFFF d.cl.refused 1 } := by
  refine if_pos ?_
  simpa using h

/-- A new LEAVE of a device that is no neighbour on the port is noted for the next boundary (R638). -/
theorem Dev.leaveArrives_noted {d : Dev} {p : Nat} {b : List Byte} (hl : (framePayload b).length = 18)
    (hmac : slice (framePayload b) 10 8 = d.fabMac ((framePayload b).take 10))
    (hseen : (slice (framePayload b) 0 8, at16 (framePayload b) 8) ∉ d.cl.seen) (hn : (d.clPort p).neighbour ≠ slice (framePayload b) 0 8) :
    (d.leaveArrives p b).cl.left = d.cl.left ++ [slice (framePayload b) 0 8] ∧ (d.leaveArrives p b).cl.refused = d.cl.refused := by
  unfold Dev.leaveArrives
  dsimp only
  rw [if_neg (by simp [hl, hmac]), if_neg (by simpa using hseen), Dev.onlyIf, if_neg (mt beq_iff_eq.1 hn)]
  generalize slice (framePayload b) 0 8 = u
  have hf := Dev.flood_sansPeals p b (d.noteSeen u (at16 (framePayload b) 8))
  generalize (d.noteSeen u (at16 (framePayload b) 8)).flood p b = e at hf ⊢
  have hleft : e.cl.left = d.cl.left := (congrArg (·.cl.left) hf :)
  have hrefused : e.cl.refused = d.cl.refused := (congrArg (·.cl.refused) hf :)
  have hnote := Dev.departed_sansBench u { e with cl.left := e.cl.left ++ [u], cl.heard := e.cl.heard.filter (· != u) }
  unfold Dev.noteLeft
  generalize Dev.departed u _ = g at hnote ⊢
  exact ⟨(congrArg ClSt.left hnote :).trans (congrArg (· ++ [u]) hleft), (congrArg ClSt.refused hnote :).trans hrefused⟩

/-! ## The rows -/

section
variable {s : State} {dt : Nat} (hact : s.dev.active = true)
include hact

theorem State.announce_spec (hj : s.dev.joined = true) (hq : s.dev.cl.quiet.isSome = true) (ha : s.dev.cl.announceAt = none) :
    ∃ t, exec (.announcePealSend dt) s = .next t ∧ t.dev.cl.announceAt = some (s.dev.tick dt).now ∧ t.dev.cl.serial = nextSerial s.dev.cl.serial
      ∧ t.dev.cl.seen = ((s.dev.uid, s.dev.cl.serial) :: s.dev.cl.seen).take 64 ∧ t.dev.cl.best = s.dev.cl.best := by
  refine ⟨_, (exec_announcePealSend ..).trans (State.runIf_next _ ?_), ?_⟩
  · rw [show (s.dev.tick dt).active = true from hact, show (s.dev.tick dt).joined = true from hj,
      show (s.dev.tick dt).cl.quiet.isSome = true from hq, show (s.dev.tick dt).cl.announceAt = none from ha]
    rfl
  · have hv := Dev.peal_sansPeals 0 0 [] { s.dev.tick dt with cl.announceAt := some (s.dev.tick dt).now }
    have hs := Dev.peal_seen 0 0 [] { s.dev.tick dt with cl.announceAt := some (s.dev.tick dt).now }
    have hn : (Dev.peal 0 0 [] { s.dev.tick dt with cl.announceAt := some (s.dev.tick dt).now }).cl.serial = nextSerial s.dev.cl.serial := rfl
    generalize Dev.peal 0 0 [] { s.dev.tick dt with cl.announceAt := some (s.dev.tick dt).now } = e at hv hs hn ⊢
    exact ⟨(congrArg (·.cl.announceAt) hv :), hn, hs, (congrArg (·.cl.best) hv :)⟩

theorem State.quietEnd_runs {n : Nat} (hj : s.dev.joined = true) (hq : s.dev.cl.quiet = some n) (hn : 64 ≤ n) :
    exec (.discoveryQuietEnd dt) s = .next (s.after dt (if s.dev.benchUid == s.dev.uid && !s.dev.isBench
      then Dev.becomeBench { s.dev.tick dt with cl.quiet := none, cl.phase := .joined }
      else { s.dev.tick dt with cl.quiet := none, cl.phase := .joined })) := by
  refine (exec_discoveryQuietEnd ..).trans (State.runIf_next _ ?_)
  rw [show (s.dev.tick dt).active = true from hact, show (s.dev.tick dt).joined = true from hj,
    show (s.dev.tick dt).cl.quiet = some n from hq, Option.any_some, decide_eq_true hn]
  rfl

theorem State.topologyRefresh_spec (hb : s.dev.isBench = true) (hr : (s.dev.tick dt).now % roundTicks = 0)
    (hdue : s.dev.cl.unsolicited = true ∨ s.dev.cl.requestAt = none) : ∃ t, exec (.topologyRefresh dt) s = .next t ∧ t.dev.cl.unsolicited = false
      ∧ t.dev.cl.requestAt = (if (s.dev.tick dt).refreshDue then some (s.dev.tick dt).now else s.dev.cl.requestAt)
      ∧ t.dev.cl.lastRefresh = nextRefresh s.dev.cl.lastRefresh ∧ t.dev.cl.routes = s.dev.cl.routes := by
  have hcond : ((s.dev.tick dt).cl.unsolicited || (s.dev.tick dt).refreshDue) = true := by
    obtain h | h := hdue
    · rw [show (s.dev.tick dt).cl.unsolicited = true from h]; rfl
    · unfold Dev.refreshDue
      rw [show (s.dev.tick dt).cl.requestAt = none from h]
      exact Bool.or_true _
  refine ⟨_, (exec_topologyRefresh ..).trans (State.runIf_next _ ?_), ?_⟩
  · rw [show (s.dev.tick dt).active = true from hact, show (s.dev.tick dt).isBench = true from hb, hcond, hr]
    rfl
  · have hbegins (e : Dev) (n : Nat) (he : e.isBench = true) : e.refreshBegins n = { e with
        cl.pending := (e.refreshBegins n).cl.pending, cl.lastRefresh := n, cl.early := (e.refreshBegins n).cl.early, cl.unsolicited := false } := by
      unfold Dev.refreshBegins
      dsimp only
      rw [he, Bool.not_true, Bool.and_false]
      rfl
    dsimp only
    generalize hg : (if (s.dev.tick dt).refreshDue = true then _ else s.dev.tick dt) = g
    have hreq : g.cl.requestAt = if (s.dev.tick dt).refreshDue then some (s.dev.tick dt).now else s.dev.cl.requestAt := by
      rw [← hg]; split <;> rfl
    have hroutes : g.cl.routes = s.dev.cl.routes := by rw [← hg]; split <;> rfl
    have hbench : g.isBench = true := by rw [← hg]; split <;> exact hb
    have hv := Dev.peal_sansPeals 1 (nextRefresh (s.dev.tick dt).cl.lastRefresh) [] g
    generalize g.peal 1 (nextRefresh (s.dev.tick dt).cl.lastRefresh) [] = f at hv ⊢
    have hx := hbegins f (nextRefresh (s.dev.tick dt).cl.lastRefresh) ((congrArg Dev.isBench hv :).trans hbench)
    generalize f.refreshBegins (nextRefresh (s.dev.tick dt).cl.lastRefresh) = x at hx ⊢
    exact ⟨(congrArg (·.cl.unsolicited) hx :), (congrArg (·.cl.requestAt) hx :).trans ((congrArg (·.cl.requestAt) hv :).trans hreq),
      (congrArg (·.cl.lastRefresh) hx :), (congrArg (·.cl.routes) hx :).trans ((congrArg (·.cl.routes) hv :).trans hroutes)⟩

theorem State.routeTableApply_runs (hj : s.dev.joined = true) (hr : (s.dev.tick dt).now % roundTicks = 0) :
    exec (.routeTableApply dt) s = .next (s.after dt (match s.dev.cl.pending with
      | [] => s.dev.tick dt
      | (n, due, ans) :: rest =>
        if due ≤ (s.dev.tick dt).now then Dev.applyTable n ans { s.dev.tick dt with cl.pending := rest } else s.dev.tick dt)) := by
  refine (exec_routeTableApply ..).trans (State.runIf_next _ ?_)
  rw [show (s.dev.tick dt).active = true from hact, show (s.dev.tick dt).joined = true from hj, hr]
  rfl

theorem State.releaseRepeat_spec {st t0 : Nat} (hj : s.dev.joined = true) (hm : (st, t0) ∈ s.dev.cl.releases)
    (hdue : t0 + 16 * roundTicks ≤ (s.dev.tick dt).now) (hb : s.dev.isBench = false) : ∃ t, exec (.streamReleaseRepeat dt st) s = .next t
      ∧ t.dev.cl.releases = s.dev.cl.releases.filter (fun y => y.1 != st) ++ [(st, (s.dev.tick dt).now)] := by
  refine ⟨_, (exec_streamReleaseRepeat ..).trans (State.runIf_next _ ?_), ?_⟩
  · rw [show (s.dev.tick dt).active = true from hact, show (s.dev.tick dt).joined = true from hj]
    exact List.any_eq_true.2 ⟨_, hm, by simpa using hdue⟩
  · obtain ⟨h, -⟩ := Dev.releaseOwn_spec (d := s.dev.tick dt) hb st
    generalize (s.dev.tick dt).releaseOwn st = e at h ⊢
    exact h

theorem State.openTimeout_runs : exec (.clStreamOpenTimeout dt) s = .next (s.after dt (match s.dev.cl.opening with
    | none => s.dev.tick dt
    | some (x, t) =>
      if t + 8 * roundTicks ≤ (s.dev.tick dt).now then (Dev.answerLater .busy [] { s.dev.tick dt with cl.opening := none }).releaseOwn x.stream
      else s.dev.tick dt)) :=
  (exec_clStreamOpenTimeout ..).trans (State.runIf_next _ hact)

theorem State.openTimeout_spec {y : StreamSt} {t0 : Nat} (ho : s.dev.cl.opening = some (y, t0)) (hdue : t0 + 8 * roundTicks ≤ (s.dev.tick dt).now)
    (hb : s.dev.isBench = false) :
    ∃ t, exec (.clStreamOpenTimeout dt) s = .next t ∧ t.dev.cl.opening = none ∧ (y.stream, (s.dev.tick dt).now) ∈ t.dev.cl.releases := by
  refine ⟨_, State.openTimeout_runs hact, ?_⟩
  rw [ho]
  dsimp only
  rw [if_pos hdue]
  have hcl := Dev.answerLater_sansStream .busy [] { s.dev.tick dt with cl.opening := none }
  generalize Dev.answerLater .busy [] { s.dev.tick dt with cl.opening := none } = e at hcl ⊢
  have hbench : e.isBench = false := (congrArg Dev.isBench hcl :).trans hb
  obtain ⟨hrel, hopen⟩ := Dev.releaseOwn_spec hbench y.stream
  generalize e.releaseOwn y.stream = x at hrel hopen ⊢
  refine ⟨hopen.trans (congrArg (·.cl.opening) hcl :), ?_⟩
  rw [show (s.after dt x).dev.cl.releases = _ from hrel, show e.now = (s.dev.tick dt).now from (congrArg Dev.now hcl :)]
  exact List.mem_append_right _ (List.mem_singleton.2 rfl)

section
variable {p : Nat} {a : Int} {b : List Byte} (hp : p < s.dev.cl.ports.length) (hm : (s.dev.clPort p).mode = .up) (hh : headerGood b = true)
  (hg : trailerGood b = true) (ho : (s.dev.tick dt).outside p a = false)
include hm hh hg ho

theorem State.pealFrame_runs (ht : frameType b = 2) :
    exec (.pealFrame dt p a b) s = .next (s.after dt (((s.dev.tick dt).accepted p a).pealArrives p b)) := by
  refine (exec_pealFrame ..).trans (State.runIf_of_eq hact ((Dev.receive_good (d := s.dev.tick dt) _ hm hh (by rw [ht]; rfl) ho).trans ?_))
  rw [if_pos hg]

theorem State.leaveFrame_runs (ht : frameType b = 6) :
    exec (.leaveFrame dt p a b) s = .next (s.after dt (((s.dev.tick dt).accepted p a).leaveArrives p b)) := by
  refine (exec_leaveFrame ..).trans (State.runIf_of_eq hact ((Dev.receive_good (d := s.dev.tick dt) _ hm hh (by rw [ht]; rfl) ho).trans ?_))
  rw [if_pos hg]

end

end

/-! ## The commands (R651, R652) -/

/-- The request that CL_STREAM_OPEN makes of context `x`. -/
def Req.newStream (q : Req) (x : CtxSt) : StreamSt :=
  { stream := q.p16 2, ctx := q.ctx, dest := q.p8 0, k := stdK x.std, bundle := q.p16 2, slots := if stdK x.std = 3 then 2 else 1 }

theorem State.streamOpen_waits {s : State} {dt : Nat} {q : Req} {e : Dev} {x : CtxSt} (h : s.admits dt 0x0904 = some (q, e))
    (hb : clStreamOpenBody q e = { status := .ok, payload := [], dev := Dev.askSlots (q.newStream x) { e with cl.opening := some (q.newStream x, e.now) }
                                   later := true }) :
    ∃ t, exec (.clStreamOpen dt) s = .next t ∧ t.dev.cl.opening = some (q.newStream x, e.now) ∧ t.dev.proto.running = some q
      ∧ t.dev.cl.streams = e.cl.streams := by
  refine ⟨_, (exec_clStreamOpen ..).trans (State.command_admitted _ h), ?_⟩
  obtain ⟨-, hstreams, hopen⟩ := Dev.askSlots_sansAsking (q.newStream x) { e with cl.opening := some (q.newStream x, e.now) }
  rw [hb, Res.forFabric_fits e (State.admits_fits h rfl (by simp))]
  generalize Dev.askSlots (q.newStream x) _ = g at hstreams hopen ⊢
  exact ⟨hopen, rfl, hstreams⟩

section
variable {s : State} {dt : Nat} {q : Req} {e : Dev} (hq : q.badHeader = false) (hw : e.inWatch = false) (hown : q.src = e.proto.owner)
include hq hw hown

/-- What an accepted CL_STREAM_OPEN does once its checks pass. -/
theorem clStreamOpenBody_passes {x : CtxSt} (hl : q.len = 8) (hs0 : q.p16 2 ≠ 0) (hs1 : q.p16 2 ≠ 0xFFFF) (hd0 : 1 ≤ q.p8 0) (hd1 : q.p8 0 ≤ 0x20)
    (hd2 : q.p8 0 ≠ e.ownAddr) (hz1 : q.p8 1 = 0) (hz4 : q.p32 4 = 0) (hj : e.cl.phase = .joined) (ha : e.ownAddr ≠ 0) (hx : e.ctx? q.ctx = some x)
    (hk : x.kind = 0x0B) (ht : x.tuning.isSome = true) (hc : x.closing = none) (hst : ∀ y ∈ e.cl.streams, y.ctx ≠ q.ctx ∧ y.stream ≠ q.p16 2)
    (hr : e.inRoutes (q.p8 0) = true) (hrel : ∀ r ∈ e.cl.releases, r.1 ≠ q.p16 2) :
    clStreamOpenBody q e = match e.bundleFor (q.p8 0) (stdK x.std) with
      | some b => okWith (u64 (max e.nextBoundary b.start)) { e with cl.streams := e.cl.streams ++
          [{ q.newStream x with bundle := b.bundle, first := b.first, start := max e.nextBoundary b.start, seq := b.seq }] }
      | none => { status := .ok, payload := [], dev := Dev.askSlots (q.newStream x) { e with cl.opening := some (q.newStream x, e.now) }
                  later := true } := by
  have hstreams : e.cl.streams.any (fun y => y.ctx == q.ctx || y.stream == q.p16 2) = false :=
    List.any_eq_false.2 fun y hy => by simpa using hst y hy
  have hreleases : e.cl.releases.any (·.1 == q.p16 2) = false := List.any_eq_false.2 fun r h => by simpa using hrel r h
  unfold clStreamOpenBody
  simp only [hx]
  refine (checked_of_passes ?_).trans rfl
  simp [hl, hq, hs0, hs1, hd1, hd2, hz1, hz4, hw, hj, ha, hk, ht, hc, hstreams, hr, hreleases, Req.notSystem, hown]
  omega

end

/-- Settles O56. The rows by what each does once its condition holds, the frames by what they carry, the commands by their checks. That a device's
own peals enter its seen-cache is DEDUCED log 62, that an unsolicited answer asks for a request DEDUCED log 144, the number after a refresh
number DEDUCED log 104; that rows outside their condition only let time pass is DESIGN CHOICE log 7. -/
theorem fabricPeals : Obligations.FabricPeals := by
  unfold Obligations.FabricPeals
  intro s dt p
  dsimp only
  refine ⟨fun hact => ⟨State.announce_spec hact, fun n hj hq hn => ⟨fun h => ?quiet, fun hu hb => ?bench⟩, State.topologyRefresh_spec hact,
    fun hj hr => ⟨fun hp => ?noTable, fun n due ans rest hp hdue => ?early, fun n due ans rest hp hdue => ?table, ?grants⟩,
    fun st t0 => State.releaseRepeat_spec hact, fun ho => ?notOpening, fun y t0 ho hdue => ?opening, fun y t0 => State.openTimeout_spec hact,
    fun a b hm hh hg ho hp => ⟨fun ht h => ?pealRefused, fun ht hl hmac hk hr hseen => ?peal, fun ht h => ?leaveRefused,
      fun ht hl hmac hseen hn => ?leave⟩⟩,
    fun q e hq hw hown => ⟨fun x h hl hs0 hs1 hd0 hd1 hd2 hz1 hz4 hj ha hx hk ht hc hst hr hrel => ⟨fun b hb => ?joins, fun hb => ?waits⟩,
      fun h hl hs0 hs1 hz => ⟨fun hany => ?close, fun hany => ?wrongState⟩⟩⟩
  case quiet =>
    refine (State.quietEnd_runs hact hj hq hn).trans ?_
    rw [if_neg]
    obtain h | h := h <;> simp [h]
  case bench =>
    refine ⟨_, State.quietEnd_runs hact hj hq hn, ?_⟩
    rw [if_pos (by simp [hu, hb])]
    have hs := Dev.becomeBench_seat { s.dev.tick dt with cl.quiet := none, cl.phase := .joined }
    generalize Dev.becomeBench _ = e at hs ⊢
    obtain ⟨hphase, hquiet, hloop, haddr⟩ : e.cl.phase = .joined ∧ e.cl.quiet = none ∧ e.cl.loop = .benchmark ∧ e.ownAddr = 1 := by
      simpa only [Dev.seat, Prod.mk.injEq] using hs
    exact ⟨hphase, hquiet, hloop, haddr⟩
  case noTable =>
    refine (State.routeTableApply_runs hact hj hr).trans ?_
    rw [hp]
  case early =>
    refine (State.routeTableApply_runs hact hj hr).trans ?_
    rw [hp]
    dsimp only
    rw [if_neg (Nat.not_le.2 hdue)]
  case table =>
    refine ⟨_, State.routeTableApply_runs hact hj hr, ?_⟩
    rw [hp]
    dsimp only
    rw [if_pos hdue]
    have ht := Dev.applyTable_tables n ans { s.dev.tick dt with cl.pending := rest }
    generalize Dev.applyTable n ans _ = e at ht ⊢
    exact ⟨(congrArg (·.1) ht :), (congrArg (·.2.1) ht :), (congrArg (·.2.2) ht :)⟩
  case grants =>
    refine (exec_slotGrantApply ..).trans (State.runIf_next _ ?_)
    rw [show (s.dev.tick dt).active = true from hact, show (s.dev.tick dt).joined = true from hj, hr]
    rfl
  case notOpening =>
    refine (State.openTimeout_runs hact).trans ?_
    rw [ho]
  case opening =>
    refine (State.openTimeout_runs hact).trans ?_
    rw [ho]
    dsimp only
    rw [if_neg (Nat.not_le.2 hdue)]
  case pealRefused =>
    refine ⟨_, State.pealFrame_runs hact hm hh hg ho ht, ?_⟩
    rw [Dev.pealArrives_refused (d := (s.dev.tick dt).accepted p a) h]
    exact ⟨rfl, rfl, rfl⟩
  case peal =>
    refine ⟨_, State.pealFrame_runs hact hm hh hg ho ht, ?_⟩
    have h := Dev.pealArrives_answer (d := (s.dev.tick dt).accepted p a) (p := p) hl hmac hk hr hseen
    generalize ((s.dev.tick dt).accepted p a).pealArrives p b = e at h ⊢
    exact h
  case leaveRefused =>
    refine ⟨_, State.leaveFrame_runs hact hm hh hg ho ht, ?_⟩
    rw [Dev.leaveArrives_refused (d := (s.dev.tick dt).accepted p a) h]
    exact ⟨rfl, rfl, (Dev.accepted_clPort (d := s.dev.tick dt) hp a).1.trans hm⟩
  case leave =>
    refine ⟨_, State.leaveFrame_runs hact hm hh hg ho ht, ?_⟩
    have hnbr := (Dev.accepted_clPort (d := s.dev.tick dt) hp a).2
    have h := Dev.leaveArrives_noted (d := (s.dev.tick dt).accepted p a) (p := p) hl hmac hseen (hnbr ▸ hn)
    generalize ((s.dev.tick dt).accepted p a).leaveArrives p b = e at h ⊢
    exact h
  case joins =>
    refine State.command_ok h ?_ (State.admits_fits h rfl (by simp))
    rw [clStreamOpenBody_passes hq hw hown hl hs0 hs1 hd0 hd1 hd2 hz1 hz4 hj ha hx hk ht hc hst hr hrel, hb]
    rfl
  case waits =>
    refine State.streamOpen_waits h ?_
    rw [clStreamOpenBody_passes hq hw hown hl hs0 hs1 hd0 hd1 hd2 hz1 hz4 hj ha hx hk ht hc hst hr hrel, hb]
  case close =>
    refine State.command_passes h rfl ?_ (State.admits_fits h rfl (by simp))
    simp [hl, hq, hs0, hs1, hz, hw, Req.notSystem, hown, hany]
  case wrongState =>
    refine State.command_refuses h rfl ?_ rfl (State.admits_fits h rfl (by simp))
    simp [firstFailure, hl, hq, hs0, hs1, hz, Req.notSystem, hown, hany]

end Sys2Proof.Machine
end

section
/-!
PROOF. Frames between devices, remote commands and CL_TIME (chapters 23 and 24).
-/
namespace Sys2Proof.Machine

/-- CL_TIME with action 0, its CRC behind it. -/
def clTimePacket : List Byte :=
  let b := u16 0x0908 ++ u8 1 ++ u8 0 ++ u8 0xFF ++ u8 0 ++ u16 4 ++ zeros 4
  b ++ u16 (crc16 b)

/-- A part without a key, its fuse pin high, whose system owner is fabric device 1, with a CL_TIME of that device before it. Its fabric state
counts 500 ports; no run reaches that, the device only ever has four. -/
def manyPorts : State :=
  { dev := {
      pwr := { resetN := true, stage := .done, mode := .active, causes := [], sampleStraps := false, fuseEn := true }
      clk := { pllA := .locked }
      proto := { owner := .fabric 1, q5 := [{ src := .fabric 1, doneAt := 0, bytes := clTimePacket }] }
      cl := { ports := List.replicate 500 {} } }
    pending := [] }

/-- What CL_TIME finds in that state once its packet is admitted. -/
theorem manyPorts_admits : (manyPorts.admits 0 0x0908).any (fun r => r.1.src == .fabric 1 && r.1.len == 4 && r.1.p8 0 == 0
    && zeroAt r.1.params 1 3 && !r.1.badHeader && !r.2.inWatch && r.2.proto.owner == .fabric 1 && r.2.cl.ports.length == 500) = true := by decide +kernel

/-- CL_TIME answers at least one byte for every port. -/
theorem Dev.timePayload_ports (d : Dev) : d.cl.ports.length ≤ d.timePayload.length := by
  have hp : (d.cl.ports.flatMap fun y => u8 y.timing).length = d.cl.ports.length * 1 := flatMap_length_const _ fun _ => by simp
  unfold Dev.timePayload
  simp only [List.length_append, hp]
  omega

/-- Refutes O57: its clause on CL_TIME bounds neither the ports of the state nor the sender, which may be the fabric. Where more ports are
counted than a device has, the payload exceeds the 434 bytes that a REMOTE_REPLY carries, and the row answers BAD_LENGTH (23 R646), not OK. -/
theorem not_fabricTraffic : ¬ Obligations.FabricTraffic := by
  unfold Obligations.FabricTraffic
  intro h
  obtain ⟨⟨q, e⟩, hadm, hr⟩ := (Option.any_eq_true _ _).1 manyPorts_admits
  simp only [Bool.and_eq_true, beq_iff_eq, Bool.not_eq_true'] at hr
  obtain ⟨⟨⟨⟨⟨⟨⟨hsrc, hlen⟩, hact⟩, hzero⟩, hbad⟩, hwatch⟩, hown⟩, hports⟩ := hr
  obtain ⟨-, -, -, -, -, hcmd⟩ := h manyPorts 0 0
  obtain ⟨-, -, htime⟩ := hcmd q e hbad hwatch (hsrc.trans hown.symm)
  refine State.command_oversized hadm hsrc (d := { e with draws := e.draws + 1 }) (pl := e.timePayload) ?_ ?_
    ((exec_clTime ..).symm.trans ((htime hadm hlen hzero).1 hact))
  · refine (checked_of_passes (l := [(q.len != 4, .badLength), (q.badHeader || 1 < q.p8 0 || !zeroAt q.params 1 3, .badParam),
      (q.notSystem e, .notOwner), (e.inWatch, .wrongState)]) ?_).trans ?_
    · simp [hlen, hbad, hact, hzero, hwatch, Req.notSystem, hsrc, hown]
    · simp [hact]
  · have := e.timePayload_ports
    rw [hports] at this
    rw [fabricPayload]
    omega

end Sys2Proof.Machine
end
